-- ==== Sys2Proof/Word.lean ====
section
/-! DEFINITION. The word types of the model: a byte and a 32-bit register word. Everything that a proof or a
repair may want to look into (bit fields, sign extension, byte order) stands in `Sys2Proof/Machine/Bits.lean`. -/

namespace Sys2Proof

/-- One byte of a frame, of the Cellar, or of a store. -/
abbrev Byte := BitVec 8

/-- One 32-bit little-endian register word (R3). -/
abbrev Word := BitVec 32

/-- One 64-bit word, held in a `_LO`/`_HI` pair of registers (R15). -/
abbrev DWord := BitVec 64

end Sys2Proof
end

