-- ==== Sys2Proof/Syntax.lean ====
section
/-! DEFINITION. The commands of the block: one constructor of `Instr` for each row of spec/opcode_table.json, with the
row's operands, and the types of those operands. A command that the hardware's environment brings about (a time that
comes, a frame that arrives, a measured value) carries what the environment supplies (notes/assumptions/6). -/

namespace Sys2Proof

/-- Who makes a register access at the arbiter (R8): a PCIe function, the Ostler port, or the DMA engine with the
rights of its channel's owner (R527). -/
inductive Master
  | pf0 | pf1 | ost | dmaPf0 | dmaPf1 | dmaOst
deriving DecidableEq, Repr

/-- The three masters that can be frozen and that own DMA channels: 0 PF0, 1 PF1, 2 the Ostler port (R533). -/
def Master.owner : Master → Nat
  | .pf0 => 0 | .pf1 => 1 | .ost => 2 | .dmaPf0 => 0 | .dmaPf1 => 1 | .dmaOst => 2

/-- The bank of a master: 0 PF0, 1 PF1, 2 the Ostler port, 3 the DMA engine (R524). -/
def Master.bank : Master → Nat
  | .pf0 => 0 | .pf1 => 1 | .ost => 2 | .dmaPf0 => 3 | .dmaPf1 => 3 | .dmaOst => 3

/-- A privileged master: PF0, the Ostler port, or the DMA engine acting for either (R10). -/
def Master.privileged (m : Master) : Bool := m.owner != 1


/-- The commands of the block (spec/opcode_table.json), one constructor for each row: the rows with operands in the order of the
table, then the rows without (compiled code numbers at most 245 constructors that have operands). -/
inductive Instr
  /-- REGISTER_WRITE (R5): A whole-word write to a register that has no row of its own sets each field by its own access code. -/
  | registerWrite (m : Master) (word : BitVec 30) (value : Word)
  /-- UNMAP_SEEN_CLEAR (R581): A write of 1 to GLB.UNMAPINFO.SEEN clears SEEN and COUNT. -/
  | unmapSeenClear (m : Master)
  /-- VAUX_DOMAIN_RELEASE (R551): The VAUX domain leaves reset 1 ms after its supplies and rails are good, starting the Ostler, OFB and SBU. -/
  | vauxDomainRelease (ostaddr : BitVec 2)
  /-- VIN_DOMAIN_RESET (R553): VIN undervoltage, a VIN rail beyond ±10 %, RESET_N low, a software reset or a VAUX reset resets the VIN domain. -/
  | vinDomainReset (cause : Fin 4) (rail : Fin 11)
  /-- VIN_DOMAIN_RELEASE (R551): The VIN domain leaves reset 1 ms after its conditions hold, VCORE at PL0, and step 0x01 begins in BOOT. -/
  | vinDomainRelease (pref : Bool)
  /-- BOOT_STEP_DONE (R27): Completion of a boot step 0x01 to 0x05 starts the next step or, after 0x05, enters DEFAULTS. -/
  | bootStepDone (ok : Bool) (src : BitVec 9)
  /-- LINK (R22): The LINK command starts the link process, or after a shutdown runs steps 0x20 to 0x24 again. -/
  | link (m : Master)
  /-- ARM (R37): The ARM command is judged against the ARM conditions and, if accepted, requests permit and enters ARMED. -/
  | arm (m : Master) (key : BitVec 16)
  /-- DEBLOCK (R39): The DEBLOCK command is judged and, if accepted, makes the state RUN from the next cycle start. -/
  | deblock (m : Master) (key : BitVec 16)
  /-- BLOCK (R45): The BLOCK command makes an urgent block, or with ARG[0] = 1 an orderly block in RUN. -/
  | block (m : Master) (arg : Byte)
  /-- DISARM (R46): DISARM withdraws the permit request at the next cycle start and returns the state to LINKED. -/
  | disarm (m : Master)
  /-- RECOVER (R48): RECOVER in SAFE with all S5 reactions cleared returns the state to LOADED and reruns the link process. -/
  | recover (m : Master) (key : BitVec 16)
  /-- SHUTDOWN (R47): SHUTDOWN runs the shutdown sequence of the selected scope, ending in LOADED with STEP 0xF0. -/
  | shutdown (m : Master) (arg : Byte) (key : BitVec 16)
  /-- OPBLK_WRITE (R22): A write of 1 to GLB.OPBLK requests an urgent block, or is forwarded by a standby, or refused in WAIT. -/
  | opblkWrite (m : Master)
  /-- RCP_VERIFY (R72): VERIFY starts checking the staged image in the order of the validation checks. -/
  | rcpVerify (m : Master)
  /-- RCP_LOAD (R69): LOAD starts reading a NAND slot into the stage area. -/
  | rcpLoad (m : Master) (arg : BitVec 4)
  /-- LOAD_COMPLETE (R69): The end of a LOAD's read and verification records its result and, in an automatic load, commits or falls back. -/
  | loadComplete (ok : Bool)
  /-- RCP_COMMIT (R74): COMMIT is judged on STAGE_OK, key, state table and repeated checks, and starts prepare. -/
  | rcpCommit (m : Master) (key : BitVec 16)
  /-- RCP_STORE (R67): STORE starts writing the verified staged image into a NAND slot. -/
  | rcpStore (m : Master) (arg : BitVec 4) (key : BitVec 16)
  /-- STORE_COMPLETE (R67): The end of STORE's program and read-back sets the slot VALID and may write the acknowledge record. -/
  | storeComplete (ok : Bool)
  /-- RCP_ABORT (R80): ABORT ends a running VERIFY, LOAD or COMMIT before its switch cycle with code 0x16. -/
  | rcpAbort (m : Master)
  /-- SAFE_ACK (R84): SAFE_ACK judges RCP.SAFEACK against the complement of the pending SAFE CRC and acknowledges or counts a failure. -/
  | safeAck (m : Master)
  /-- SLOT_ERASE (R68): SLOT_ERASE with the key starts emptying the named slot. -/
  | slotErase (m : Master) (arg : BitVec 4) (key : BitVec 16)
  /-- SLOT_ERASE_COMPLETE (R68): The end of the erase and read-back records the result, or 0x15 and FS41 on failure. -/
  | slotEraseComplete (ok : Bool)
  /-- HOUSE_READ (R90): HOUSE_READ copies the applied house layer into the house area and sets RCP.HOUSE_LEN. -/
  | houseRead (m : Master)
  /-- HOUSE_STORE (R90): HOUSE_STORE checks the house-area entries and starts writing them into the copy not applied. -/
  | houseStore (m : Master) (key : BitVec 16)
  /-- HOUSE_STORE_COMPLETE (R90): The end of the house copy write and read-back records the result. -/
  | houseStoreComplete (ok : Bool)
  /-- KEY_WRITE (R63): KEY_WRITE puts the point in RCP.KEYBUF into an EMPTY key slot and makes it VALID. -/
  | keyWrite (m : Master) (arg : BitVec 4) (key : BitVec 16)
  /-- KEY_REVOKE (R63): KEY_REVOKE makes a VALID key slot REVOKED when another slot stays VALID. -/
  | keyRevoke (m : Master) (arg : BitVec 4) (key : BitVec 16)
  /-- MINVER_SET (R65): MINVER_SET raises RCP.MINVER to the VERSION of the active Recipe. -/
  | minverSet (m : Master) (key : BitVec 16)
  /-- STAGE_AREA_WRITE (R66): A write into the stage area clears STAGE_OK and aborts a running VERIFY, LOAD or prepare. -/
  | stageAreaWrite (m : Master) (index : BitVec 22) (value : Word)
  /-- COMMIT_PROPOSAL_RECEIVED (R81): The standby receives a coordinated commit proposal and confirms once its matching image is prepared. -/
  | commitProposalReceived (imageId : BitVec 64) (crcs : List Word) (k : Word)
  /-- CYCLE_START_TOKEN (R362): At CRT −200 the timebase issues the cycle-start token at which register values are sampled for the cycle. -/
  | cycleStartToken (now : BitVec 16) (idx : BitVec 6)
  /-- MISSRUN_LIMIT (R115): MISSRUN reaching 3 raises FS(224 + 2n) at default severity S4. -/
  | missrunLimit (n : Fin 12)
  /-- UPLINK_FRAME_RECEIVED (R294): An uplink frame is judged by header and slot CRCs, its slots routed to the engines and its parcel reply checked. -/
  | uplinkFrameReceived (l : Fin 128) (start : BitVec 20) (bytes : List Byte) (cv : Byte) (disp : Byte)
  /-- UPLINK_CUTOFF (R99): At CRT ULCUT every slot of the arm not yet passed is missing and counts toward UNOBSERVED. -/
  | uplinkCutoff (n : Fin 12)
  /-- RANKING_COMPLETE (R205): The engines of the arm complete the rank order and write the aggregate record. -/
  | rankingComplete (n : Fin 12)
  /-- LEVEL_GEN_COMPLETE (R181): The level generator evaluates the reference and computes N and f for the arm. -/
  | levelGenComplete (n : Fin 12)
  /-- REF_HELD_LIMIT (R179): HELDRUN reaching HOLDLIM sets REFCAUSE.HELD and raises FS(225 + 2n). -/
  | refHeldLimit (n : Fin 12)
  /-- SELECTION_COMPLETE (R210): The engines complete the forced, count, swap and fractional-PWM choices into the change list. -/
  | selectionComplete (n : Fin 12)
  /-- TIMING_COMPLETE (R235): The timing stage assigns action times and writes command slots, recording DONE and SLACK. -/
  | timingComplete (n : Fin 12) (crt : BitVec 20)
  /-- ENGINE_FAULT (R225): An engine ECCU, ORDER or ROUTE fault holds the arm's selection, sets ENGERR and raises FS(192 + e). -/
  | engineFault (e : Fin 24) (cause : BitVec 2)
  /-- SLKCLR (R107): A write of 1 to SCH.CTL.SLKCLR sets every ARM[n].SLACKMIN to 0x7FFF_FFFF. -/
  | slkclr (m : Master)
  /-- SCH_CNTCLR (R107): A write of 1 to SCH.CTL.CNTCLR clears every ARM[n].LATECNT. -/
  | schCntclr (m : Master)
  /-- REVERIFY (R106): A write of 1 to SCH.CTL.REVERIFY starts slack verification. -/
  | reverify (m : Master)
  /-- SLACK_VERIFY_DONE (R106): The end of slack verification records WORST and PASS, and at step 0x20 lets arm cycles start. -/
  | slackVerifyDone (worst : BitVec 16)
  /-- ACCEPT_REGISTER_WRITE (R111): An accepted write to SCH.ALLOW, SCH.GUARD or CG.GUARD re-evaluates PLOK for every level. -/
  | acceptRegisterWrite (m : Master) (which : Fin 3) (value : Word)
  /-- CORE_SCHEDULE_DONE (R120): A core completes its schedule; when it is the last, the output map starts. -/
  | coreScheduleDone (c : Fin 8) (t : Word)
  /-- GRAPH_RUN_COMPLETE (R123): The output map is written and the run judged on time or late, with trace record and LATERUN. -/
  | graphRunComplete (t : Word)
  /-- GRAPH_STALL (R125): A core not completed 4 control periods after the run start stops the graph and raises STALL. -/
  | graphStall (c : Fin 8)
  /-- CORE_ECC_ERROR (R158): An ECC error in core memories is corrected and counted, or gives NaN and raises FS(216 + c). -/
  | coreEccError (c : Fin 8) (corrected : Bool) (kind : Fin 3) (index : BitVec 20)
  /-- PCOMMIT (R144): A write of 1 to CG.CTL.PCOMMIT captures the parameter shadows and sets PENDING. -/
  | pcommit (m : Master)
  /-- GRESET (R126): A write of 1 to CG.CTL.GRESET outside RUN requests graph initialisation at the next control-period start. -/
  | greset (m : Master)
  /-- MAXCLR (R155): A write of 1 to CG.TRCFG.MAXCLR clears CG.RUNTMAX. -/
  | maxclr (m : Master)
  /-- HIN_WRITE (R148): A write to CG.HIN[k] sets the host input and in ACTIVE is copied to the partner. -/
  | hinWrite (m : Master) (k : BitVec 6) (value : Word)
  /-- OCOMMIT (R171): A write of 1 to REF.CTL.OCOMMIT captures the order shadows and sets OPENDING. -/
  | ocommit (m : Master)
  /-- WCOMMIT (R171): A write of 1 to REF.CTL.WCOMMIT captures waveform tables and arm waveform fields. -/
  | wcommit (m : Master)
  /-- PRESET (R170): A write of 1 to REF.CTL.PRESET bit o sets ramp o to INIT at the next cycle start. -/
  | preset (m : Master) (mask : BitVec 4)
  /-- EXCLUDE (R198): EXCLUDE sets XCL on a cell, forcing BYPASS where needed. -/
  | exclude (m : Master) (cell : BitVec 13) (key : BitVec 16)
  /-- INCLUDE (R198): INCLUDE clears XCL, MISM, FLTREP and MISMC and lets the cell rejoin A. -/
  | include (m : Master) (cell : BitVec 13) (key : BitVec 16)
  /-- FAILBYP (R198): FAILBYP with the key sets XCL and sends a forced FAILBYP record. -/
  | failbyp (m : Master) (cell : BitVec 13) (key : BitVec 16)
  /-- SPARE_IN (R198): SPARE_IN promotes an observed unpromoted spare. -/
  | spareIn (m : Master) (cell : BitVec 13) (key : BitVec 16)
  /-- SPARE_OUT (R198): SPARE_OUT clears PROMO and takes the cell out of A, forcing BYPASS if inserted. -/
  | spareOut (m : Master) (cell : BitVec 13) (key : BitVec 16)
  /-- RERANK (R206): A write of 1 to BE.CTL.RERANK forces a full re-rank of every engine in the next cycle. -/
  | rerank (m : Master)
  /-- BE_CNTCLR (R206): A write of 1 to BE.CTL.CNTCLR clears every BE[e].CNT and ARM[n].SELCNT. -/
  | beCntclr (m : Master)
  /-- ARM_SELECTION_LIMIT_WRITE (R219): A write to an arm selection limit in ACTIVE is carried to the partner; in STANDBY it is ignored. -/
  | armSelectionLimitWrite (m : Master) (n : Fin 12) (which : Fin 7) (value : Word)
  /-- FP_COMMIT (R248): A write of 1 to INS.FP[n].CTL.COMMIT captures the FP shadows to transfer at the next update point. -/
  | fpCommit (m : Master) (n : Fin 12)
  /-- FP_UPDATE_POINT (R246): At an update point of the carrier committed or AUTO shadows of FP(n) transfer. -/
  | fpUpdatePoint (n : Fin 12)
  /-- FP_COMPARE_FIRE (R251): A compare of FP(n) fires FPTRG(n, j) at its configured instant. -/
  | fpCompareFire (n : Fin 12) (j : Fin 4)
  /-- INS_CNTCLR (R243): A write of 1 to INS.CTL.CNTCLR clears every ARM[n].INSCNT. -/
  | insCntclr (m : Master)
  /-- INS_LIMIT_WRITE (R254): A write to ARM[n].EDGE, DEADT or MINPULSE is carried in ACTIVE, and a DEADT change is written to the cells. -/
  | insLimitWrite (m : Master) (n : Fin 12) (which : Fin 3) (value : Word)
  /-- CL_AUXSEL_WRITE (R315): A change of CL[l].FCFG.AUXSEL is written to the cells by WRITE_ALL. -/
  | clAuxselWrite (m : Master) (l : Fin 128) (value : Byte)
  /-- LANE_IDLE_EXPIRED (R274): A lane idle for IDLEMS while linking or retraining sends its fast-exit burst. -/
  | laneIdleExpired (l : Fin 128)
  /-- LANE_BURST_SENT (R274): After the burst the lane sends TS1 and enters ALIGN. -/
  | laneBurstSent (l : Fin 128)
  /-- LANE_RX_LOCK (R265): A lane receiver locks, moving ALIGN to TRAIN or RXLOST back to LOCKED. -/
  | laneRxLock (l : Fin 128)
  /-- LANE_TS2_RECEIVED (R274): TS2 with correct CHK and own LANEID sets HOPSEEN and moves the lane to MEASURE. -/
  | laneTs2Received (l : Fin 128) (gen : Byte) (hops : Byte) (laneid : Byte) (chk : Byte)
  /-- LANE_TRAIN_TIMEOUT (R274): TMOMS since EXIT without training sets cause TRAIN and sends the lane to FAILED. -/
  | laneTrainTimeout (l : Fin 128)
  /-- LANE_MEASURE_DONE (R274): When every hop is measured COMP is computed and the lane reaches READY for enumeration. -/
  | laneMeasureDone (l : Fin 128)
  /-- LANE_RETRY_EXPIRED (R274): RETRYMS in FAILED while the link process runs returns the lane to EIDLE. -/
  | laneRetryExpired (l : Fin 128)
  /-- LANE_LOCK_LOSS (R265): A receiver that loses lock sends the lane to FAILED, or RXLOST from LOCKED. -/
  | laneLockLoss (l : Fin 128)
  /-- LANE_SIGNAL_LOSS (R284): Signal detect low without a preceding K28.0 sets cause LOS and loses lock. -/
  | laneSignalLoss (l : Fin 128)
  /-- LANE_RXWAIT_EXPIRED (R274): RXWAIT cycles in RXLOST without relock send the lane to EIDLE when retraining is allowed. -/
  | laneRxwaitExpired (l : Fin 128)
  /-- LANE_RETRAIN (R274): A write of 1 to CL[l].CTL.RETRAIN starts training from EIDLE or RXLOST. -/
  | laneRetrain (m : Master) (l : Fin 128)
  /-- GICLR (R272): A write of 1 to CL[l].CTL.GICLR clears GIOFF. -/
  | giclr (m : Master) (l : Fin 128)
  /-- CL_CNTCLR (R262): A write of 1 to CL[l].CTL.CNTCLR clears the lane error counters. -/
  | clCntclr (m : Master) (l : Fin 128)
  /-- GAP_IDLE_ENTER (R270): After the uplink end the launcher sends K28.0 and places the lane in gap idle. -/
  | gapIdleEnter (l : Fin 128)
  /-- GAP_IDLE_EXIT (R270): At CRT ARMCYC − 400 − Tb the launcher starts the fast-exit burst. -/
  | gapIdleExit (l : Fin 128)
  /-- GAP_EXIT_LOCK_CHECK (R272): A receiver not locked by RT(0) + Tb after gap idle sets FEXIT and GIOFF and is a loss of lock. -/
  | gapExitLockCheck (l : Fin 128) (locked : Bool)
  /-- DM_INSERVICE_SEND (R281): Every PERIOD cycles a DMREQ for the next hop is sent if it fits, else counted in SKIP. -/
  | dmInserviceSend (l : Fin 128)
  /-- DMRSP_RECEIVED (R277): A DMRSP gives RT(h), TLB and RA of a hop and feeds the median and COMP update. -/
  | dmrspReceived (l : Fin 128) (hop : Byte) (tlbLo : Byte) (tlbHi : Byte) (ra : Byte) (chk : Byte) (rt : Word)
  /-- DMRSP_TIMEOUT (R280): A DMRSP missing within 10 µs is retried, and after 3 failures the hop has no COMP. -/
  | dmrspTimeout (l : Fin 128)
  /-- RING_SPLIT (R321): BREAK in 2 consecutive uplinks or a loss of lock on END 0 splits the ring and retrains END 1. -/
  | ringSplit (l : Fin 128)
  /-- PARCEL_RETRY_EXHAUSTED (R312): After RETRY repeats without reply the transaction ends in TIMEOUT. -/
  | parcelRetryExhausted (l : Fin 128)
  /-- PARCEL_BUSY_TIMEOUT (R312): BUSYMAX cycles after the first BUSY end the transaction in BUSYTMO. -/
  | parcelBusyTimeout (l : Fin 128)
  /-- CHAIN_ENUMERATED (R316): The last enumeration transaction of a chain ends and each position counts as answered or not. -/
  | chainEnumerated (l : Fin 128)
  /-- PQ_SUBMIT (R315): A write of 1 to CL.PQCTL.SUBMIT queues the host parcel request, or sets OVF when full. -/
  | pqSubmit (m : Master)
  /-- PQ_POP (R315): A write of 1 to CL.PQCTL.POP removes the oldest parcel result. -/
  | pqPop (m : Master)
  /-- PQ_FLUSH (R315): A write of 1 to CL.PQCTL.FLUSH discards every waiting request and result. -/
  | pqFlush (m : Master)
  /-- CELLAR_ECC_UNCORRECTABLE (R327): An uncorrectable Cellar error is counted, its address recorded and the partition's source raised. -/
  | cellarEccUncorrectable (addr : BitVec 33)
  /-- SCRUB_PASS_DONE (R327): A patrol scrub pass ends and its corrected errors are judged against CETHR. -/
  | scrubPassDone (corrected : BitVec 16)
  /-- CAPEST_UPDATE (R333): When CAPN reaches its window the Ostler sets CAPEST and clears the sums. -/
  | capestUpdate (g : BitVec 13)
  /-- CKPT (R340): A write of 1 to TLY.CTL.CKPT starts a checkpoint. -/
  | ckpt (m : Master)
  /-- TALLY_CKPT_DONE (R340): A checkpoint completes writing a copy and header, or fails and schedules a retry. -/
  | tallyCkptDone (ok : Bool)
  /-- LEDGER_TRIGGER (R349): A trigger source firing marks the trigger cycle and moves the Ledger to POST. -/
  | ledgerTrigger (b : Fin 11)
  /-- LTRIG (R348): A write of 1 to TLY.CTL.LTRIG fires the MANUAL trigger. -/
  | ltrig (m : Master)
  /-- LRELEASE (R345): A write of 1 to TLY.CTL.LRELEASE returns a frozen Ledger to FILL unless an extract runs. -/
  | lrelease (m : Master)
  /-- LEDGER_DISABLE (R345): A write of EN = 0 to TLY.LCFG stops Ledger writing and moves it to OFF. -/
  | ledgerDisable (m : Master) (value : Word)
  /-- EXTRACT (R351): A write of 1 to TLY.CTL.EXTRACT while FROZEN starts an extract to NAND. -/
  | extract (m : Master)
  /-- EXTRACT_DONE (R351): An extract completes, is truncated, or fails with FS445. -/
  | extractDone (ok : Bool)
  /-- TB_RATE_WRITE (R356): A write to TB.RATE takes effect at the next tick with OFSX rebased to keep TB.NOW continuous. -/
  | tbRateWrite (m : Master) (value : Word)
  /-- STEP (R357): STEP adds ADJ to OFSX at the next tick, ending any slew and raising FS274. -/
  | stepTime (m : Master)
  /-- SET (R357): SET makes TB.NOW equal ADJ at the next tick, ending any slew and raising FS274. -/
  | setTime (m : Master)
  /-- SLEW (R357): SLEW starts applying ADJ to OFSX at the slew rate, or is refused for |ADJ| ≥ 2^31. -/
  | slew (m : Master)
  /-- SLEWSTOP (R357): SLEWSTOP ends the slew in progress, dropping the remainder. -/
  | slewstop (m : Master)
  /-- TB_CNTCLR (R376): A write of 1 to TB.CTL.CNTCLR clears the PPS and Waybill counters. -/
  | tbCntclr (m : Master)
  /-- PUSH (R369): A write of 1 to WB.CMD.PUSH judges the master's staging words and queues the entry or reports the failure. -/
  | push (m : Master)
  /-- WB_CANCEL (R375): A write of 1 to WB.CMD.CANCEL removes matching pending entries and closes matching windows. -/
  | wbCancel (m : Master)
  /-- WB_FLUSH (R375): A write of 1 to WB.CMD.FLUSH removes every pending entry and open window. -/
  | wbFlush (m : Master)
  /-- DONEPOP (R377): A write of 1 to WB.CMD.DONEPOP removes the oldest completion record. -/
  | donepop (m : Master)
  /-- WB_OUT_RETURN (R368): After its width an OUT pin returns to the other level. -/
  | wbOutReturn (p : Fin 4)
  /-- WB_WINDOW_CLOSE (R373): At instant + duration the window entry closes. -/
  | wbWindowClose (j : Fin 8)
  /-- ETH_LINK_CHANGE (R381): A port's link goes up or down. -/
  | ethLinkChange (p : Fin 4) (up : Bool) (speed : Bool)
  /-- ETH_FRAME_RECEIVED (R382): A received frame is filtered, deduplicated on the PRP pair, bridged, and delivered to its consumer. -/
  | ethFrameReceived (p : Fin 4) (fcs : Bool) (age : Word) (res : BitVec 48) (bytes : List Byte)
  /-- SV_FRAME_RECEIVED (R395): An SV frame's ASDUs are decoded and each sample accepted or discarded by count, sync and confRev. -/
  | svFrameReceived (p : Fin 4) (age : Word) (bytes : List Byte)
  /-- SV_SUBSCRIPTION_LOST (R398): LOSS ms without an accepted sample mark the subscription lost and raise FS294. -/
  | svSubscriptionLost (n : Fin 32)
  /-- PTP_SYNC_RECEIVED (R389): A Sync on the SLAVE port gives the offset o and, one-step, drives the servo. -/
  | ptpSyncReceived (p : Fin 4) (age : Word) (domain : Byte) (src : BitVec 80) (log : Byte) (two : Bool) (seq : BitVec 16) (t1 : BitVec 80) (corr : BitVec 64)
  /-- PTP_FOLLOW_UP_RECEIVED (R389): A Follow_Up completes a two-step Sync and drives the servo. -/
  | ptpFollowUpReceived (p : Fin 4) (domain : Byte) (src : BitVec 80) (log : Byte) (seq : BitVec 16) (t1 : BitVec 80) (corr : BitVec 64)
  /-- PTP_ANNOUNCE_RECEIVED (R388): An Announce qualifies foreign masters and the best master is chosen. -/
  | ptpAnnounceReceived (p : Fin 4) (domain : Byte) (src : BitVec 80) (log : Byte) (pri1 : Byte) (cls : Byte) (acc : Byte) (var : BitVec 16) (pri2 : Byte) (gm : BitVec 64) (steps : BitVec 16) (utc : BitVec 16)
  /-- PTP_ANNOUNCE_TIMEOUT (R388): announceReceiptTimeout intervals without Announce disqualify a master. -/
  | ptpAnnounceTimeout (p : Fin 4) (src : BitVec 80)
  /-- PDELAY_REQ_SEND (R387): Every 2^PDLOG s a port sends Pdelay_Req, and 3 unanswered requests set PDFAIL. -/
  | pdelayReqSend (p : Fin 4)
  /-- PDELAY_REQ_RECEIVED (R387): A Pdelay_Req is answered by a one-step Pdelay_Resp. -/
  | pdelayReqReceived (p : Fin 4) (seq : BitVec 16) (turn : BitVec 48)
  /-- PDELAY_RESP_RECEIVED (R387): A Pdelay_Resp gives a link delay exchange, kept or discarded as an outlier. -/
  | pdelayRespReceived (p : Fin 4) (age : Word) (seq : BitVec 16) (turn : BitVec 64) (corr : BitVec 64)
  /-- PTPRST (R388): A write of 1 to NET.CTL.PTPRST restarts master selection and peer delay. -/
  | ptprst (m : Master)
  /-- NET_CNTCLR (R381): A write of 1 to NET.CTL.CNTCLR clears every network counter. -/
  | netCntclr (m : Master)
  /-- PRP_PORT_LOST (R385): A PRP port with link down or silent for 100 × LANTMO ms is lost and FS288 set. -/
  | prpPortLost (p : Fin 2)
  /-- FB_TRIGGER (R399): A buffer's own trigger mode names a launch instant. -/
  | fbTrigger (b : Fin 32)
  /-- FB_TAKE (R400): TXGUARD ns before its instant a launch is taken and the port reserved. -/
  | fbTake (b : Fin 32)
  /-- FB_LAUNCH (R400): The frame leaves at its instant with patches, or late and counted. -/
  | fbLaunch (b : Fin 32)
  /-- HST_NTX (R545): A write to HST.NTX sends a frame buffer at once as a host frame. -/
  | hstNtx (m : Master) (b : Fin 32) (p : Fin 8)
  /-- LMU_CONVERSION_DONE (R408): A conversion result is delivered to its result register, direct channel, accumulators and trackers. -/
  | lmuConversionDone (e : Fin 64) (code : BitVec 16) (age : Byte)
  /-- LMU_PASS_END (R413): A converter pass ends, starting the next pass or a held trigger's pass with pending commits applied. -/
  | lmuPassEnd (c : Fin 2)
  /-- LMU_TRIGGER (R418): A trigger for a converter in TRIG mode starts, holds, drops or restarts a pass. -/
  | lmuTrigger (c : Fin 2)
  /-- SWTRG (R417): A write of 1 to LMU.CTL.SWTRG0 or SWTRG1 triggers the converter. -/
  | swtrg (m : Master) (c : Fin 2)
  /-- LMU_TIMER_TRIGGER (R417): Every TPER × 100 ns of TB.RAW a TIMER trigger fires. -/
  | lmuTimerTrigger (c : Fin 2)
  /-- SCOMMIT (R414): A write of 1 to LMU.CTL.SCOMMIT captures the sequence shadows or refuses them whole. -/
  | scommit (m : Master)
  /-- CAL (R410): A write of 1 to LMU.CTL.CAL starts self-calibration outside ARMED, RUN and BLOCKED. -/
  | cal (m : Master)
  /-- LMU_CAL_DONE (R410): Calibration ends with new corrections and CALDONE, or fails with FS305. -/
  | lmuCalDone (l : List (BitVec 16))
  /-- LMU_REFEN_WRITE (R409): A write to LMU.CTL.REFEN switches the reference buffer, refused off in ARMED, RUN and BLOCKED. -/
  | lmuRefenWrite (m : Master) (on : Bool)
  /-- LMU_REF_FAULT (R409): A reference deviation beyond ±0.5 % for 100 µs sets REFFLT and raises FS304. -/
  | lmuRefFault (on : Bool)
  /-- LMU_DCH_STALE (R422): A direct channel without a valid result for STALE µs sets STALE and raises FS310. -/
  | lmuDchStale (d : Fin 8)
  /-- LMU_WINDOW_CLOSE (R423): 250 ns after a window ends accumulators and trackers publish or mark it incomplete. -/
  | lmuWindowClose (u : Fin 48)
  /-- LMU_CNTCLR (R418): A write of 1 to LMU.CTL.CNTCLR clears every LMU counter. -/
  | lmuCntclr (m : Master)
  /-- SBU_TICK (R443): Each 1 ms safety tick samples pairs, counts discrepancies, judges PREQ and drives the output paths. -/
  | sbuTick (si : BitVec 16) (ea : Byte) (eb : Byte) (vsafe : BitVec 16) (rb : BitVec 4)
  /-- SBU_FILTER_CHANGE (R439): A channel's filtered state takes a new level at the FILT-th consecutive sample. -/
  | sbuFilterChange (p : Fin 8) (ch : Fin 2)
  /-- SBU_DISCREPANCY_LATCH (R441): A discrepancy count reaching T + 1 latches a discrepancy and raises FS(338 + p). -/
  | sbuDiscrepancyLatch (p : Fin 8)
  /-- SBU_READBACK_FAULT (R446): A readback differing for more than 200 µs latches RB or OPEN. -/
  | sbuReadbackFault (k : Fin 2) (open_ : Bool)
  /-- SBU_TEST_PULSE (R448): Every TPER s a channel tests one switch of a path. -/
  | sbuTestPulse (k : Fin 2) (low : Bool)
  /-- SBU_TEST_END (R448): After TPW µs the test readback is judged and a failure latches TEST. -/
  | sbuTestEnd (k : Fin 2) (rb : BitVec 2)
  /-- SBU_CLEAR (R447): CLEAR with the key while PREQ is withdrawn clears latched causes whose condition has ended. -/
  | sbuClear (m : Master) (key : BitVec 16)
  /-- FAULT_RAISE (R458): A source report arriving at the collector sets its bits, logs it and carries out its severity's reactions. -/
  | faultRaise (srcs : List (BitVec 9))
  /-- FAULT_LIVE_CLEAR (R469): A source's live bit clearing may write a live-clear log entry. -/
  | faultLiveClear (fs : BitVec 9)
  /-- COLLECTOR_SELF_FAULT (R470): A parity or uncorrectable ECC error in collector storage blocks, withdraws permit and enters SAFE. -/
  | collectorSelfFault (ecc : Bool)
  /-- CLR_REACT (R466): CLR_REACT with the key clears each latched flag with no live source at or above its level. -/
  | clrReact (m : Master) (key : BitVec 16)
  /-- CLR_FIRST (R468): CLR_FIRST with the key clears the first-fault record. -/
  | clrFirst (m : Master) (key : BitVec 16)
  /-- CLR_STICKY (R468): CLR_STICKY clears STICKY, REAL and INJ of every source whose LIVE is clear. -/
  | clrSticky (m : Master)
  /-- FC_SEV_WRITE (R462): A severity write raising a live source's severity carries out the new reactions at once. -/
  | fcSevWrite (m : Master) (w : Fin 64) (value : Word)
  /-- FC_UNLOCK (R472): A write to FC.UNLOCK from the Ostler port with the code enters TEST, or counts a wrong code toward LOCKOUT. -/
  | fcUnlock (m : Master) (code : Word)
  /-- FC_TEST_WRITE (R473): A write to FC.TEST sets INJ_REACT in TEST only, setting REFUSED otherwise. -/
  | fcTestWrite (m : Master) (value : Word)
  /-- INJ_PULSE (R473): A PULSE injection in TEST raises the source once with LIVE set and cleared in one slot. -/
  | injPulse (m : Master) (fs : BitVec 9)
  /-- INJ_HOLD (R473): A HOLD injection in TEST raises the source and keeps LIVE set until RELEASE. -/
  | injHold (m : Master) (fs : BitVec 9)
  /-- INJ_RELEASE (R473): A RELEASE ends a held injection without a raise. -/
  | injRelease (m : Master) (fs : BitVec 9)
  /-- RELAY_TRAINED (R481): Clock lock, lane alignment, LRLY measurement and ID exchange bring the link UP. -/
  | relayTrained (lrly : BitVec 16)
  /-- RELAY_LANE_LOSS (R484): A Relay lane losing lock is dropped and FS369 raised. -/
  | relayLaneLoss (j : Fin 4)
  /-- RELAY_LANE_REJOIN (R484): A retrained Relay lane rejoins at the next cycle mark. -/
  | relayLaneRejoin (j : Fin 4)
  /-- RELAY_RETRAIN (R481): A write of 1 to TWN.CTL.RETRAIN retrains the Relay link from OFF. -/
  | relayRetrain (m : Master)
  /-- TWN_CNTCLR (R501): A write of 1 to TWN.CTL.CNTCLR clears the twin counters. -/
  | twnCntclr (m : Master)
  /-- RELAY_ID_RECEIVED (R485): An ID packet gives the partner's identity and is checked for equal MID or PREF. -/
  | relayIdReceived (mid : BitVec 16) (pref : Bool) (epoch : BitVec 16) (role : Fin 4) (state : BitVec 4) (image : BitVec 64) (crcs : List Word) (cyc : Word) (base : Word) (tw : Bool)
  /-- RELAY_CYCLE_MARK (R482): A received K28.1 gives the partner's cycle start and e_tw. -/
  | relayCycleMark (cv : Byte)
  /-- RELAY_HB_RECEIVED (R483): An HB packet updates the partner's state, role, epoch, flags and NOT_READY. -/
  | relayHbReceived (ok : Bool) (cyc : Word) (base : Word) (state : BitVec 4) (role : Fin 4) (epoch : BitVec 16) (flags : BitVec 5) (nr : Bool)
  /-- TKNOTE_RECEIVED (R510): The former active becomes STANDBY at the next cycle start after TKNOTE. -/
  | tknoteReceived (epoch : BitVec 16)
  /-- UBLK_RECEIVED (R490): A standby that receives UBLK takes BLOCKED from its next cycle start. -/
  | ublkReceived (mask : BitVec 12)
  /-- DEG_RECEIVED (R458): A degraded mark set or cleared by the partner updates PDEG and FS380. -/
  | degReceived (on : Bool)
  /-- REH_RECEIVED (R513): Rehearsal control from the active schedules the standby's rehearsal drive. -/
  | rehReceived (abort : Bool) (r : Word) (len : Byte)
  /-- IMG_RECEIVED (R150): The standby takes the active's graph input image for its own run. -/
  | imgReceived (cyc : Word) (values : List Word)
  /-- SNAP_RECEIVED (R492): A snapshot packet updates the standby's state and completes the snapshot of cycle k. -/
  | snapReceived (ok : Bool) (first : Bool) (bytes : List Byte)
  /-- CARRIED_ITEM_RECEIVED (R490): A MSG item from the partner is stored for application at its apply cycle. -/
  | carriedItemReceived (ok : Bool) (bytes : List Byte)
  /-- FORWARDED_BLOCK_RECEIVED (R41): A BLOCK or OPBLK forwarded by the standby is acted on by the active. -/
  | forwardedBlockReceived (op : Bool) (orderly : Bool)
  /-- PARTNER_LEDGER_TRIGGER (R349): A partner trigger with kt is taken as this unit's trigger cycle when FILL or ARMED. -/
  | partnerLedgerTrigger (kt : Word)
  /-- RESYNC (R503): A RESYNC command or automatic resync requests the resync of an arm. -/
  | resync (m : Master) (arm : Byte)
  /-- TAKEOVER (R505): The TAKEOVER command on the standby triggers a takeover, on the active sends TKREQ. -/
  | takeover (m : Master) (key : BitVec 16)
  /-- REHEARSE (R513): REHEARSE with the key on the active, both units BLOCKED, starts a takeover rehearsal. -/
  | rehearse (m : Master) (key : BitVec 16)
  /-- PCIE_LINK_CHANGE (R523): The PCIe link goes up or down, raising FS403 when down. -/
  | pcieLinkChange (up : Bool) (speed : BitVec 2) (width : BitVec 3)
  /-- FLR (R523): A function-level reset resets that function's bank and DMA channels. -/
  | flr (fn : Fin 2)
  /-- PCIE_MEMORY_REQUEST (R521): A BAR0 memory request of 1 to 32 DW is executed as accesses at the arbiter, or refused. -/
  | pcieMemoryRequest (fn : Fin 2) (kind : Fin 3) (dw : BitVec 23) (count : BitVec 10) (first : BitVec 4) (last : BitVec 4) (poisoned : Bool) (data : List Word)
  /-- DMA_START (R527): A write of START to a DMA channel makes the writer its owner and starts the transfer, or ends BADCFG. -/
  | dmaStart (m : Master) (ch : Fin 8) (cfg : BitVec 5)
  /-- DMA_ABORT (R529): A write of ABORT by the owner ends the channel with ERR ABORT. -/
  | dmaAbort (m : Master) (ch : Fin 8) (words : BitVec 23) (data : List Word)
  /-- DMA_COMPLETE (R529): A DMA channel ends with its outcome recorded and its event set. -/
  | dmaComplete (ch : Fin 8) (hostErr : Bool) (words : BitVec 23) (data : List Word)
  /-- HST_RELEASE (R534): A write to HST.RELEASE with the key releases the masters the writer may release. -/
  | hstRelease (m : Master) (mask : BitVec 3) (key : BitVec 16)
  /-- OSTLER_REQUEST (R536): A side-band request message is checked and its words executed as Ostler port accesses. -/
  | ostlerRequest (smbus : Bool) (bytes : List Byte)
  /-- OSTLER_WATCHDOG (R543): Watchdog expiry or an Ostler memory ECC error restarts the Ostler. -/
  | ostlerWatchdog (ecc : Bool)
  /-- OSTLER_RESTART_DONE (R543): The Ostler runs again from image A or B, or stops when both fail. -/
  | ostlerRestartDone (a : Bool) (b : Bool)
  /-- OSTLER_LOAD_WINDOW (R542): At the end of each 100 ms window the Ostler load is reported and overload postpones duties. -/
  | ostlerLoadWindow (load : BitVec 10) (heavy : Bool)
  /-- MDIO_START (R546): A write of START to HST.MDIO begins a clause 22 access. -/
  | mdioStart (m : Master) (value : BitVec 27)
  /-- MDIO_DONE (R546): After 64 MDC periods the MDIO access ends and a READ sets DATA. -/
  | mdioDone (data : BitVec 16)
  /-- VIN_POWER_WARNING (R552): VIN below WARN runs the power-loss sequence and raises FS0. -/
  | vinPowerWarning (mv : BitVec 16)
  /-- RAIL_OUT_OF_WINDOW (R550): A rail outside its window for 10 µs raises FS3 or FS4. -/
  | railOutOfWindow (rail : Fin 11)
  /-- SOFTWARE_RESET (R554): A write of 0x01 to CLK.RST with the key resets the VIN domain 10 µs later, refused in ARMED, RUN and BLOCKED. -/
  | softwareReset (m : Master) (code : Byte) (key : BitVec 16)
  /-- CLOCK_FAILURE (R560): A failed clock or PLL switches muxes, stops domains or raises its source. -/
  | clockFailure (c : Fin 9) (q : Fin 32)
  /-- FALLBACK_OSC_READY (R557): A fallback oscillator becomes ready and a held domain starts on it. -/
  | fallbackOscReady (ofb : Bool)
  /-- FALLBACK_NOT_READY_TIMEOUT (R561): A fallback not ready within 200 µs of a trip raises FS8 when the domain starts. -/
  | fallbackNotReadyTimeout (ofb : Bool)
  /-- FALLBACK_TRIM (R558): Once per second each fallback oscillator is trimmed against REFCLK_25. -/
  | fallbackTrim (fbo : BitVec 10) (ofb : BitVec 10) (eFbo : BitVec 16) (eOfb : BitVec 16)
  /-- MUX_FORCED_SWITCH (R562): 64 new-clock cycles without the old clock force a mux switch and raise FS15. -/
  | muxForcedSwitch (ost : Bool)
  /-- CLK_GATE_WRITE (R564): A write to a gate bit requests gating or ungating, refused when the unit is in use. -/
  | clkGateWrite (m : Master) (which : Fin 2) (value : Word)
  /-- GATE_QUIESCED (R565): A unit reporting its bus idle closes its gate. -/
  | gateQuiesced (u : Fin 39)
  /-- GATE_QUIESCE_TIMEOUT (R565): 4,096 cycles without idleness fail the gate request and raise FS17. -/
  | gateQuiesceTimeout (u : Fin 39)
  /-- UNGATE_RELEASE (R565): 16 cycles after the clock is stable an ungated unit's logic is released. -/
  | ungateRelease (u : Fin 39)
  /-- PLREQ (R567): A write to CLK.PLREQ with the key requests a performance level change. -/
  | plreq (m : Master) (pl : BitVec 2) (key : BitVec 16)
  /-- PL_VCORE_SETTLED (R568): VCORE settles at the new level's value and the sequencer moves on. -/
  | plVcoreSettled (mv : BitVec 16)
  /-- JUNCTION_TEMP_WARN (R573): The junction temperature reaching WARN or 118 °C raises FS18 or FS19. -/
  | junctionTempWarn (tj : BitVec 16) (sensor : Byte)
  /-- PCIE_CONFIG_REQUEST (R520): A PCIe configuration request to PF0 or PF1 reads or writes that function's configuration space, setting values such as Max Payload Size, Max Read Request Size and Extended Tag Field Enable that the DMA engine uses. -/
  | pcieConfigRequest (fn : Fin 2) (write : Bool) (dw : BitVec 10) (be : BitVec 4) (value : Word)
  /-- MSIX_TABLE_ACCESS (R520): A memory request to BAR2/BAR3 reads or writes the MSI-X table or PBA of a function, changing vector addresses and masks that govern how events are signalled. -/
  | msixTableAccess (fn : Fin 2) (write : Bool) (dw : BitVec 12) (value : Word)
  /-- PLL_LOCK_REGAINED (R560): A lane, Relay or NET PLL that had lost lock locks again, so its lanes return to training under R274 and its source's live bit clears. -/
  | pllLockRegained (c : Fin 3) (q : Fin 32)
  /-- VAUX_DOMAIN_RESET (R553): VAUX or VDDIO_A out of range, or a VAUX rail beyond ±10 %, resets the whole module including the SBU. -/
  | vauxDomainReset
  /-- AUTO_ARM (R37): With AUTO_ARM = 1 the unit arms by itself in LINKED once the ARM conditions hold. -/
  | autoArm
  /-- ORDERLY_BLOCK_TIMEOUT (R45): When the ramps have not reached zero within GLB.OBLKTMO.MS the PV8192 blocks and sets OBLK_TMO. -/
  | orderlyBlockTimeout
  /-- LINK_TIMEOUT (R33): When GLB.LINKTMO.MS runs out the link process ends and the population check is applied. -/
  | linkTimeout
  /-- ROLE_WAIT_EXPIRY (R34): After 2 s of WAIT following failed training, the low-PREF unit becomes ACTIVE or STANDBY with NOT_READY. -/
  | roleWaitExpiry
  /-- VERIFY_COMPLETE (R72): The end of VERIFY records the result code and sets STAGE_OK on success. -/
  | verifyComplete
  /-- COMMIT_PREPARE_END (R75): The end of prepare fixes the switch cycle or, where no arm cycles run, switches at once. -/
  | commitPrepareEnd
  /-- COMMIT_SWITCH (R76): At the switch cycle start every changed section takes effect together, PARM entries applied as one access. -/
  | commitSwitch
  /-- SAFE_ACK_EXPIRY (R85): When RCP.SAFETMO.S passes without acknowledge the pending SAFE configuration is discarded and FS40 raised. -/
  | safeAckExpiry
  /-- COMMIT_CONFIRM_RECEIVED (R81): The active receives the partner's confirmation and waits for the switch cycle. -/
  | commitConfirmReceived
  /-- COMMIT_CONFIRM_DEADLINE (R82): Without confirmation by the start of cycle k − 1, both abort with 0x17 or the active switches alone. -/
  | commitConfirmDeadline
  /-- REPLICA_OVER_LIMIT (R105): A replica above its limit in 16 consecutive cycles raises the performance-level source FS20. -/
  | replicaOverLimit
  /-- CYCLE_START (R92): At CRT 0 the cycle marker leaves every lane, SCH.CYC increments and a control period may start. -/
  | cycleStart
  /-- CYCLE_PHASE_ERROR_LIMIT (R365): A phase error above ERRTH in 16 consecutive cycles raises FS275. -/
  | cyclePhaseErrorLimit
  /-- ARM_FREEZE (R94): At CRT ARMCYC − 400 the launcher locks each lane's command buffers for the next frame. -/
  | armFreeze
  /-- GRAPH_IMAGE_READY (R121): When the input image is in signal memory and the previous run has completed the cores start the run. -/
  | graphImageReady
  /-- PARAM_APPLY (R145): At the apply point the committed parameters become active and the TS products are recomputed. -/
  | paramApply
  /-- GRAPH_INIT (R126): Graph initialisation sets signals, histories and block states to their initial values. -/
  | graphInit
  /-- ORDER_APPLY (R162): At the apply point committed order fields take effect, with invalid limits refused field by field. -/
  | orderApply
  /-- WAVEFORM_APPLY (R182): At the apply point committed waveform values take effect. -/
  | waveformApply
  /-- CELLAR_PINIT_DONE (R326): Background Cellar initialisation ends and PINIT becomes 1. -/
  | cellarPinitDone
  /-- TALLY_FOLD (R331): The counting unit folds live counters into each Tally record and recomputes its CRC. -/
  | tallyFold
  /-- LIFE_APPLY (R335): At CYC modulo 2^22 = 0 the computed LIFE values take effect for ranking. -/
  | lifeApply
  /-- TALLY_LOAD_DONE (R342): Loading of Tally records from the checkpoint completes and TLOAD becomes 1. -/
  | tallyLoadDone
  /-- TALLY_CKPT_DUE (R340): PERMIN minutes after the previous checkpoint a new one falls due. -/
  | tallyCkptDue
  /-- TALLY_CKPT_RETRY (R340): 1 min after a failed checkpoint the next attempt starts. -/
  | tallyCkptRetry
  /-- TALLY_CKPT_OVERDUE (R341): No checkpoint for 2 × PERMIN minutes raises FS441. -/
  | tallyCkptOverdue
  /-- LEDGER_START (R345): With EN = 1, arm cycles running and PINIT = 1 the Ledger enters FILL. -/
  | ledgerStart
  /-- LEDGER_ARMED (R345): After PRE_N records in FILL the Ledger becomes ARMED. -/
  | ledgerArmed
  /-- LEDGER_FREEZE (R346): After POST_N records the Ledger and graph trace freeze and an automatic extract may start. -/
  | ledgerFreeze
  /-- TB_RAW_WRAP (R356): When TB.RAW's integer part wraps OFSX is rebased. -/
  | tbRawWrap
  /-- SLEW_COMPLETE (R357): A slew ends when all of ADJ has been applied. -/
  | slewComplete
  /-- PPS_IN_EDGE (R359): A PPS_IN rising edge is stamped, judged valid, and with SRC = PPS corrects rate and offset. -/
  | ppsInEdge
  /-- PPS_LOSS (R360): 2.0 s without a valid PPS edge sets PPSLOST and with SRC = PPS raises FS272. -/
  | ppsLoss
  /-- PPS_OUT_EDGE (R361): PPS_OUT rises when TB.NOW reaches a second plus PPSOFS. -/
  | ppsOutEdge
  /-- PPS_OUT_FALL (R361): PPS_OUT falls WIDTH µs after its rising edge. -/
  | ppsOutFall
  /-- TIME_SOURCE_LOSS (R358): When the time source stops delivering corrections SYNC drops and HOLD keeps the rate. -/
  | timeSourceLoss
  /-- WB_ENTRY_START (R371): A due Waybill entry starts its class action and may write a completion record. -/
  | wbEntryStart
  /-- WB_RELAY_SKIP (R378): A RELAY entry due while the unit is not ACTIVE or SOLO is discarded and counted in SHSKIP. -/
  | wbRelaySkip
  /-- PTP_SYNC_TIMEOUT (R390): No Sync for 3 sync intervals clears LOCK. -/
  | ptpSyncTimeout
  /-- PRP_SUPERVISION_SEND (R384): Every 10 × SUPMS ms a PRP supervision frame leaves on both ports. -/
  | prpSupervisionSend
  /-- FAST_PATH_FAULT (R433): A fast-path parity error or slow request raises FS324 and blocks every arm. -/
  | fastPathFault
  /-- LMU_CAL_AUTO_START (R31): 5 ms after entry into LOADED self-calibration starts. -/
  | lmuCalAutoStart
  /-- LMU_REF_READY (R409): 5 ms after REFEN becomes 1 REFRDY becomes 1. -/
  | lmuRefReady
  /-- SBU_OSC_FAULT (R437): An oscillator deviation beyond ±5 % for 4 ticks latches OSC. -/
  | sbuOscFault
  /-- SBU_XCHK_FAULT (R447): Channel decisions differing in 2 consecutive ticks latch XCHK. -/
  | sbuXchkFault
  /-- SBU_VSAFE_OUT (R447): VSAFE outside its limits opens both paths without latching and raises FS354. -/
  | sbuVsafeOut
  /-- SBU_STATUS_RECEIVED (R450): The main side takes the SBU status report and raises FS337 or FS(346 + p) as it shows. -/
  | sbuStatusReceived
  /-- SBU_STATUS_LOST (R450): 5 ms without SBU status raises FS356 and reads the SBU registers as 0. -/
  | sbuStatusLost
  /-- ALIVE_TOKEN_TIMEOUT (R471): A source range without an alive token for 300 µs raises FS450. -/
  | aliveTokenTimeout
  /-- LANTERN_READBACK_FAULT (R471): A LANTERN readback differing for 10 µs raises FS451. -/
  | lanternReadbackFault
  /-- OSTLER_HEARTBEAT (R476): The Ostler firmware writes its heartbeat to the collector. -/
  | ostlerHeartbeat
  /-- OSTLER_HEARTBEAT_LOST (R476): No heartbeat for OHB.TMO ms stops LANTERN and raises FS452. -/
  | ostlerHeartbeatLost
  /-- LANTERN_EDGE (R476): While LANTERN runs it changes level at each whole multiple of 500,000 ns of TB.RAW. -/
  | lanternEdge
  /-- LANTERN_IN_EDGE (R477): An edge at LANTERN_IN is timed and 4 good intervals make it RUNNING. -/
  | lanternInEdge
  /-- LANTERN_IN_STOPPED (R477): 1,500 µs without an edge make LANTERN_IN STOPPED. -/
  | lanternInStopped
  /-- RELAY_ATTEMPT_TIMEOUT (R481): 100 ms without training start the next attempt, or LISTEN after the third. -/
  | relayAttemptTimeout
  /-- RELAY_PARTNER_DETECTED (R481): In LISTEN the partner's training sequence returns the link to TRAIN. -/
  | relayPartnerDetected
  /-- RELAY_LINK_LOST (R481): Loss of the forwarded clock, the last lane or 3 heartbeats takes the link to LISTEN and raises FS370. -/
  | relayLinkLost
  /-- RELAY_HB_MISSED (R483): No valid HB within ARMCYC + 1,000 ns counts a missed heartbeat. -/
  | relayHbMissed
  /-- TWIN_ALIGN_CHANGE (R489): Misalignment or alignment lasting 16 cycles sets or clears cause ALIGN and raises FS382. -/
  | twinAlignChange
  /-- TKREQ_RECEIVED (R505): A takeover request from the active is a takeover trigger for the standby. -/
  | tkreqReceived
  /-- CARRIED_ITEM_APPLY (R148): At its apply cycle a carried write, commit or command applies, or the unit becomes NOT_READY. -/
  | carriedItemApply
  /-- PARTNER_SHUTDOWN_RECEIVED (R47): A converter-scope shutdown from the partner runs scope 1 on this unit. -/
  | partnerShutdownReceived
  /-- REFRESH_START (R491): On a standby's MISSED report the active sends the refresh of every carried field. -/
  | refreshStart
  /-- REFRESH_APPLY (R491): At cycle a the standby replaces its carried values with the refresh and MISSED clears. -/
  | refreshApply
  /-- RESYNC_HOLD (R503): At cycle r both units hold the arm and the standby takes the resync bookkeeping. -/
  | resyncHold
  /-- TAKEOVER_POINT (R507): At the first freeze at or after detection + 200 ns the standby raises EPOCH and drives frame k + 1. -/
  | takeoverPoint
  /-- ORPHAN_ADOPTION (R511): ORPHAN cycles with no cell obeying another master make a NOT_READY standby ACTIVE. -/
  | orphanAdoption
  /-- PREF_RETURN (R512): After REVERT_HOLD seconds of readiness the preferred standby takes over. -/
  | prefReturn
  /-- REHEARSAL_DRIVE_START (R513): At the freeze of cycle r − 1 the standby drives with a higher EPOCH. -/
  | rehearsalDriveStart
  /-- REHEARSAL_DRIVE_END (R513): At the freeze of cycle r + R − 1 the active takes the cells back. -/
  | rehearsalDriveEnd
  /-- REHEARSAL_CHECK (R514): The uplink echoes are checked and the rehearsal reported PASS or FAIL. -/
  | rehearsalCheck
  /-- REHEARSAL_AUTO (R515): With AUTO, 10 s of both units BLOCKED starts a rehearsal. -/
  | rehearsalAuto
  /-- DRIVE_EXERCISE_OVERDUE (R517): LASTDRV older than EXERCISE.DAYS raises FS385. -/
  | driveExerciseOverdue
  /-- PERST (R523): PERST_N resets the PCIe core, both functions' banks and their DMA channels. -/
  | perst
  /-- OSTLER_RESULT_READY (R538): The result of a side-band request becomes ready for reading. -/
  | ostlerResultReady
  /-- SMBUS_TIMEOUT (R602): OST_SCL low for 25 to 35 ms resets the SMBus interface. -/
  | smbusTimeout
  /-- REGULATOR_FAULT (R550): A regulator reporting over-current or over-temperature raises FS5. -/
  | regulatorFault
  /-- OSTLER_CLOCK_RETURN (R560): MX_OST returns to the Ostler PLL once REFCLK_25 has been good for 100 ms. -/
  | ostlerClockReturn
  /-- PL_CELLAR_SWITCHED (R569): The Cellar leaves self-refresh at the new rate. -/
  | plCellarSwitched
  /-- PL_VCORE_TIMEOUT (R568): VCORE not settled within 1 ms raises FS22 and the sequencer returns. -/
  | plVcoreTimeout
deriving DecidableEq, Repr

end Sys2Proof
end

