-- ==== Sys2Proof/Decode.lean ====
section
/-! DEFINITION. The command that a word spells. spec/opcode_table.json gives the bits of no row: the commands of this block are events
and register accesses, and none of them has an encoding. -/

namespace Sys2Proof

/-- The rows of the table that have bits: the number of bits, the fixed bits as mask and value, and the command that the word
spells. There is none. -/
def encodedRows : List (Nat × Nat × Nat × (Nat → Instr)) := []

/-- The command that a word `w` of `nbits` bits spells by the bits of the table. -/
def decodeTableWord (nbits w : Nat) : Option Instr :=
  (encodedRows.find? fun r => r.1 == nbits && w &&& r.2.1 == r.2.2.1).map fun r => r.2.2.2 w

end Sys2Proof
end

