-- ==== Sys2Proof/Config.lean ====
section
/-! DEFINITION. What the specification leaves open: the free values. Each is an opaque constant, so no proof can see
which value it has, and a claim that mentions one holds whatever it is (notes/assumptions, entries 3, 4 and 31). -/

namespace Sys2Proof.Config

/-- A fresh value that nothing constrains, for each value of the model's counter `State.freeN`
(notes/assumptions/3). -/
opaque freeValue : Nat → Nat

/-- The value of `x ^ (k / 10)` for the life component LTH of R334, with `x = n / d`, in units of 2^−64
(notes/assumptions/4): the specification gives the formula in binary64 and no algorithm for the power. -/
opaque lifePower : (n d k : Nat) → Nat

/-- The byte of the commissioning key's public point, X then Y, that key slot 0 holds when the device leaves the factory
(R64; notes/assumptions/31): the specification names the key and not its value. -/
opaque commissioningKey : Nat → Byte

end Sys2Proof.Config
end

