-- ==== Sys2Proof/Machine/Bits.lean ====
section
/-! DEFINITION. Bit fields, sign extension and byte order on natural numbers: the helpers every unit's registers
and records are read with (R3: words are little-endian). -/

namespace Sys2Proof.Machine

/-- Bits `[lo + w - 1 : lo]` of `x`. -/
def field (x lo w : Nat) : Nat := (x >>> lo) % 2 ^ w

/-- One bit of `x`. -/
def bit (x i : Nat) : Bool := x.testBit i

/-- A Bool as the value of a one-bit field. -/
def b2n (b : Bool) : Nat := if b then 1 else 0

/-- The `w`-bit two's complement reading of `x`. -/
def signed (w x : Nat) : Int :=
  let m := x % 2 ^ w
  if 2 ^ (w - 1) ≤ m then (m : Int) - 2 ^ w else m

/-- The `w`-bit two's complement pattern of `z`, wrapped. -/
def unsigned (w : Nat) (z : Int) : Nat := (z % (2 ^ w : Int)).toNat

/-- `z` limited to the signed `w`-bit range. -/
def clampS (w : Nat) (z : Int) : Int :=
  max (-(2 ^ (w - 1) : Int)) (min z (2 ^ (w - 1) - 1))

/-- A counter that saturates at `top`. -/
def satAdd (top a b : Nat) : Nat := min top (a + b)

/-- `x` with bits `[lo + w - 1 : lo]` replaced by `v`. -/
def putField (x lo w v : Nat) : Nat :=
  x - (field x lo w) * 2 ^ lo + (v % 2 ^ w) * 2 ^ lo

/-- `x` with bit `i` set. -/
def setBit (x i : Nat) : Nat := x ||| 2 ^ i

/-- `x` with bit `i` clear. -/
def clearBit (x i : Nat) : Nat := if x.testBit i then x - 2 ^ i else x

/-- The difference of two cycle numbers modulo 2^32, read as signed (R17). -/
def cycDiff (a b : Nat) : Int := signed 32 (unsigned 32 ((a : Int) - b))

/-- The value of a little-endian byte list. -/
def leNat : List Byte → Nat
  | [] => 0
  | b :: bs => b.toNat + 256 * leNat bs

/-- The `n` little-endian bytes of `x`. -/
def leBytes : Nat → Nat → List Byte
  | 0, _ => []
  | n + 1, x => BitVec.ofNat 8 x :: leBytes n (x / 256)

/-- The value of a big-endian byte list (network order). -/
def beNat (bs : List Byte) : Nat := bs.foldl (fun a b => a * 256 + b.toNat) 0

/-- The `n` big-endian bytes of `x` (network order). -/
def beBytes (n x : Nat) : List Byte := (leBytes n x).reverse

/-- `n` bytes of a list from offset `o`, missing bytes read 0. -/
def slice (bs : List Byte) (o n : Nat) : List Byte :=
  let t := (bs.drop o).take n
  t ++ List.replicate (n - t.length) 0

/-- Little-endian value of `n` bytes at offset `o`. -/
def leAt (bs : List Byte) (o n : Nat) : Nat := leNat (slice bs o n)

/-- Big-endian value of `n` bytes at offset `o`. -/
def beAt (bs : List Byte) (o n : Nat) : Nat := beNat (slice bs o n)

/-- `bs` with the bytes from offset `o` on overwritten by `v`; bytes that do not exist are not created. -/
def overwrite (bs : List Byte) (o : Nat) (v : List Byte) : List Byte :=
  (bs.take o) ++ (v.take (bs.length - o)) ++ bs.drop (o + v.length)

/-- Bits of `mask` below `n`, ascending. -/
def bitsOf (n mask : Nat) : List Nat := (List.range n).filter mask.testBit

/-- The number of 1 bits of `x` below bit `n`. -/
def popCount (n x : Nat) : Nat := (bitsOf n x).length

/-- Integer square root of a natural number by `n` halvings of the interval. -/
def isqrtGo (x : Nat) : Nat → Nat → Nat → Nat
  | 0, lo, _ => lo
  | k + 1, lo, hi =>
    let mid := (lo + hi + 1) / 2
    if mid * mid ≤ x then isqrtGo x k mid hi else isqrtGo x k lo (mid - 1)

/-- The integer square root, rounded down. -/
def isqrt (x : Nat) : Nat := isqrtGo x (x.log2 / 2 + 3) 0 (2 ^ (x.log2 / 2 + 1))

/-- Division of integers rounded to nearest, ties away from zero. -/
def divRound (a : Int) (b : Nat) : Int :=
  if 0 ≤ a then (2 * a + b) / (2 * b) else -((-(2 * a) + b) / (2 * b))

/-- Insertion of `x` into a list sorted by `le`, after the entries it does not precede. -/
def insertBy {α : Type} (le : α → α → Bool) (x : α) : List α → List α
  | [] => [x]
  | y :: ys => if le y x then y :: insertBy le x ys else x :: y :: ys

/-- A stable insertion sort. -/
def sortBy {α : Type} (le : α → α → Bool) : List α → List α
  | [] => []
  | x :: xs =>
    let r := sortBy le xs
    -- `x` came first, so it goes before equal entries
    insertFirst le x r
where
  /-- Insertion before equal entries. -/
  insertFirst (le : α → α → Bool) (x : α) : List α → List α
    | [] => [x]
    | y :: ys => if le x y then x :: y :: ys else y :: insertFirst le x ys

/-- Replace element `i` of a list by `f` of it. -/
def modifyAt {α : Type} (f : α → α) : Nat → List α → List α
  | _, [] => []
  | 0, x :: xs => f x :: xs
  | n + 1, x :: xs => x :: modifyAt f n xs

/-- Element `i` of a list that is padded with `d`, replaced by `f` of it. -/
def modifyPad {α : Type} (d : α) (f : α → α) : Nat → List α → List α
  | 0, [] => [f d]
  | 0, x :: xs => f x :: xs
  | n + 1, [] => d :: modifyPad d f n []
  | n + 1, x :: xs => x :: modifyPad d f n xs

/-- Replace element `i` of a list. -/
def setAt {α : Type} (i : Nat) (v : α) (l : List α) : List α := modifyAt (fun _ => v) i l

end Sys2Proof.Machine
end

