-- ==== Sys2Proof/Machine/Ecdsa.lean ====
section
/-! DEFINITION. SHA-256 and the verification of an ECDSA signature over P-256 (R61, R62). The rules name both standards; their
constants and steps are those of FIPS 180-4, FIPS 186 and SEC 2 (PRESUMED, notes/assumptions/30). -/

namespace Sys2Proof.Machine

/-! ### SHA-256 -/

/-- The round constants. -/
def shaK : List Nat := [
  0x428a2f98, 0x71374491, 0xb5c0fbcf, 0xe9b5dba5, 0x3956c25b, 0x59f111f1, 0x923f82a4, 0xab1c5ed5,
  0xd807aa98, 0x12835b01, 0x243185be, 0x550c7dc3, 0x72be5d74, 0x80deb1fe, 0x9bdc06a7, 0xc19bf174] ++ [
  0xe49b69c1, 0xefbe4786, 0x0fc19dc6, 0x240ca1cc, 0x2de92c6f, 0x4a7484aa, 0x5cb0a9dc, 0x76f988da,
  0x983e5152, 0xa831c66d, 0xb00327c8, 0xbf597fc7, 0xc6e00bf3, 0xd5a79147, 0x06ca6351, 0x14292967] ++ [
  0x27b70a85, 0x2e1b2138, 0x4d2c6dfc, 0x53380d13, 0x650a7354, 0x766a0abb, 0x81c2c92e, 0x92722c85,
  0xa2bfe8a1, 0xa81a664b, 0xc24b8b70, 0xc76c51a3, 0xd192e819, 0xd6990624, 0xf40e3585, 0x106aa070] ++ [
  0x19a4c116, 0x1e376c08, 0x2748774c, 0x34b0bcb5, 0x391c0cb3, 0x4ed8aa4a, 0x5b9cca4f, 0x682e6ff3,
  0x748f82ee, 0x78a5636f, 0x84c87814, 0x8cc70208, 0x90befffa, 0xa4506ceb, 0xbef9a3f7, 0xc67178f2]

/-- The eight working words. -/
structure Sha where
  a : Nat
  b : Nat
  c : Nat
  d : Nat
  e : Nat
  f : Nat
  g : Nat
  h : Nat
deriving DecidableEq, Repr

/-- The initial hash value. -/
def shaInit : Sha :=
  ⟨0x6a09e667, 0xbb67ae85, 0x3c6ef372, 0xa54ff53a, 0x510e527f, 0x9b05688c, 0x1f83d9ab, 0x5be0cd19⟩

/-- A 32-bit word rotated right. -/
def rotr (n x : Nat) : Nat := (x >>> n) ||| ((x * 2 ^ (32 - n)) % 2 ^ 32)

/-- The next word of the message schedule; the schedule so far, latest word first. -/
def shaNext (w : List Nat) : Nat :=
  let g := fun i => w.getD (i - 1) 0
  let s0 := rotr 7 (g 15) ^^^ rotr 18 (g 15) ^^^ (g 15 >>> 3)
  let s1 := rotr 17 (g 2) ^^^ rotr 19 (g 2) ^^^ (g 2 >>> 10)
  (s1 + g 7 + s0 + g 16) % 2 ^ 32

/-- `n` more words of the schedule. -/
def shaExtend : Nat → List Nat → List Nat
  | 0, w => w
  | n + 1, w => shaExtend n (shaNext w :: w)

/-- One round with `k + w`. -/
def shaRound (x : Sha) (kw : Nat) : Sha :=
  let s1 := rotr 6 x.e ^^^ rotr 11 x.e ^^^ rotr 25 x.e
  let ch := (x.e &&& x.f) ^^^ ((x.e ^^^ 0xFFFFFFFF) &&& x.g)
  let t1 := x.h + s1 + ch + kw
  let s0 := rotr 2 x.a ^^^ rotr 13 x.a ^^^ rotr 22 x.a
  let maj := (x.a &&& x.b) ^^^ (x.a &&& x.c) ^^^ (x.b &&& x.c)
  ⟨(t1 + s0 + maj) % 2 ^ 32, x.a, x.b, x.c, (x.d + t1) % 2 ^ 32, x.e, x.f, x.g⟩

/-- One block of 64 bytes. -/
def shaBlock (x : Sha) (bs : List Byte) : Sha :=
  let w16 := (List.range 16).map fun i => beAt bs (4 * i) 4
  let w := (shaExtend 48 w16.reverse).reverse
  let y := ((shaK.zip w).map fun p => p.1 + p.2).foldl shaRound x
  let add := fun a b => (a + b) % 2 ^ 32
  ⟨add x.a y.a, add x.b y.b, add x.c y.c, add x.d y.d, add x.e y.e, add x.f y.f, add x.g y.g, add x.h y.h⟩

/-- `n` blocks in order. -/
def shaBlocks : Nat → List Byte → Sha → Sha
  | 0, _, x => x
  | n + 1, bs, x => shaBlocks n (bs.drop 64) (shaBlock x (bs.take 64))

/-- The SHA-256 hash of a byte list, 32 bytes. -/
def sha256 (bs : List Byte) : List Byte :=
  let n := (bs.length + 8) / 64 + 1
  let pad := (0x80 : Byte) :: (List.replicate (64 * n - bs.length - 9) 0 ++ beBytes 8 (8 * bs.length))
  let x := shaBlocks n (bs ++ pad) shaInit
  [x.a, x.b, x.c, x.d, x.e, x.f, x.g, x.h].flatMap (beBytes 4)

/-! ### P-256 -/

/-- The field prime. -/
def p256p : Nat := 0xffffffff00000001000000000000000000000000ffffffffffffffffffffffff
/-- The coefficient b of y² = x³ − 3x + b. -/
def p256b : Nat := 0x5ac635d8aa3a93e7b3ebbd55769886bc651d06b0cc53b0f63bce3c3e27d2604b
/-- The group order. -/
def p256n : Nat := 0xffffffff00000000ffffffffffffffffbce6faada7179e84f3b9cac2fc632551
/-- The base point. -/
def p256g : Nat × Nat :=
  (0x6b17d1f2e12c4247f8bce6e563a440f277037d812deb33a0f4a13945d898c296,
   0x4fe342e2fe1a7f9b8ee7eb4a7c0f9e162bce33576b315ececbb6406837bf51f5)

/-- `b ^ e` modulo `m`, over the lowest `n` bits of `e`. -/
def powMod (m : Nat) : Nat → Nat → Nat → Nat → Nat
  | 0, _, _, acc => acc
  | n + 1, b, e, acc => powMod m n (b * b % m) (e / 2) (if e % 2 = 1 then acc * b % m else acc)

/-- The inverse modulo a 256-bit prime. -/
def invMod (m x : Nat) : Nat := powMod m 256 (x % m) (m - 2) 1

/-- The sum of two points; none is the point at infinity. -/
def ecAdd : Option (Nat × Nat) → Option (Nat × Nat) → Option (Nat × Nat)
  | none, q => q
  | p, none => p
  | some (x1, y1), some (x2, y2) =>
    let p := p256p
    let go := fun (l : Nat) =>
      let x3 := (l * l + 2 * p - x1 - x2) % p
      some (x3, (l * (x1 + p - x3) + p - y1) % p)
    if x1 = x2 then
      if (y1 + y2) % p = 0 then none else go ((3 * x1 * x1 + p - 3) % p * invMod p (2 * y1) % p)
    else go ((y2 + p - y1) * invMod p (x2 + p - x1) % p)

/-- `k` times a point, over the lowest `n` bits of `k`. -/
def ecMul : Nat → Nat → Option (Nat × Nat) → Option (Nat × Nat) → Option (Nat × Nat)
  | 0, _, _, acc => acc
  | n + 1, k, q, acc => ecMul n (k / 2) (ecAdd q q) (if k % 2 = 1 then ecAdd acc q else acc)

/-- The point lies on P-256 (R63). -/
def onCurve (q : Nat × Nat) : Bool :=
  q.1 < p256p && q.2 < p256p && (q.1 * q.1 * q.1 + 3 * (p256p - q.1) + p256b) % p256p = q.2 * q.2 % p256p

/-- The point of a 64-byte key, X then Y, big-endian (R52, R62). -/
def keyPoint (key : List Byte) : Nat × Nat := (beAt key 0 32, beAt key 32 32)

/-- The signature `sig` over `data` verifies with the key (R61). -/
def ecdsaOk (key data sig : List Byte) : Bool :=
  let q := keyPoint key
  let r := beAt sig 0 32
  let s := beAt sig 32 32
  let n := p256n
  let e := beNat (sha256 data)
  let w := invMod n s
  onCurve q && 0 < r && r < n && 0 < s && s < n &&
    match ecAdd (ecMul 256 (e * w % n) (some p256g) none) (ecMul 256 (r * w % n) (some q) none) with
    | some (x, _) => x % n == r
    | none => false

/-- The identity of a key: the first four bytes of the hash of its point, little-endian (R62). -/
def keyIdOf (key : List Byte) : Nat := leAt (sha256 key) 0 4

end Sys2Proof.Machine
end

