-- ==== Sys2Proof/Machine/Crc.lean ====
section
/-! DEFINITION. The check codes: CRC-32C (R55), the CRC-8 of the lanes' slots (R291), the CRC-64 of the command
comparison (R500). -/

namespace Sys2Proof.Machine

/-- `n` shift steps of a reflected CRC with polynomial `p`. -/
def crcStepR (p : Nat) : Nat → Nat → Nat
  | 0, c => c
  | n + 1, c => crcStepR p n (if c % 2 = 1 then (c / 2) ^^^ p else c / 2)

/-- `n` shift steps of a `w`-bit CRC, most significant bit first. -/
def crcStepL (w p : Nat) : Nat → Nat → Nat
  | 0, c => c
  | n + 1, c => crcStepL w p n (if c.testBit (w - 1) then ((c * 2) % 2 ^ w) ^^^ p else (c * 2) % 2 ^ w)

/-- A CRC of `w` bits over bytes, most significant bit first. -/
def crcL (w p : Nat) (init : Nat) (bs : List Byte) : Nat :=
  bs.foldl (fun c b => crcStepL w p 8 (c ^^^ (b.toNat * 2 ^ (w - 8)))) init

/-- CRC-32C over a byte list (R55). -/
def crc32c (bs : List Byte) : Nat :=
  (bs.foldl (fun c b => crcStepR 0x82F63B78 8 (c ^^^ b.toNat)) 0xFFFFFFFF) ^^^ 0xFFFFFFFF

/-- The CRC-8 of a slot: polynomial 0x2F, initial value and final exclusive-or 0xFF. -/
def crc8 (bs : List Byte) : Nat := crcL 8 0x2F 0xFF bs ^^^ 0xFF

/-- The CRC-64 of R500. -/
def crc64 (bs : List Byte) : Nat :=
  crcL 64 0x42F0E1EBA9EA3693 0xFFFFFFFFFFFFFFFF bs ^^^ 0xFFFFFFFFFFFFFFFF

end Sys2Proof.Machine
end

