-- ==== Sys2Proof/Machine/Float.lean ====
section
/-! DEFINITION. IEEE 754 arithmetic on bit patterns: the binary32 of the cores (R129 to R131), the binary64 of the
Ostler's sums (R333, R334) and of the window means (R424), and the sine and arctangent tables of R139. Every result
is the exact rational one rounded once, to nearest, ties to even. -/

namespace Sys2Proof.Machine

/-- A binary interchange format: `mb` stored mantissa bits, `eb` exponent bits. -/
structure FFmt where
  mb : Nat
  eb : Nat
deriving DecidableEq, Repr

/-- binary32. -/
def fmt32 : FFmt := ⟨23, 8⟩

/-- binary64. -/
def fmt64 : FFmt := ⟨52, 11⟩

/-- The largest exponent field. -/
def FFmt.emax (F : FFmt) : Nat := 2 ^ F.eb - 1

/-- The position of the sign bit. -/
def FFmt.sbit (F : FFmt) : Nat := F.mb + F.eb

/-- The pattern of +∞. -/
def FFmt.inf (F : FFmt) : Nat := F.emax * 2 ^ F.mb

/-- The canonical NaN (R130). -/
def FFmt.nan (F : FFmt) : Nat := F.inf + 2 ^ (F.mb - 1)

/-- The sign bit of a pattern. -/
def fSign (F : FFmt) (x : Nat) : Bool := x.testBit F.sbit

/-- The pattern without its sign. -/
def fMag (F : FFmt) (x : Nat) : Nat := x % 2 ^ F.sbit

/-- The pattern is a NaN. -/
def fIsNaN (F : FFmt) (x : Nat) : Bool := F.inf < fMag F x

/-- The pattern is an infinity. -/
def fIsInf (F : FFmt) (x : Nat) : Bool := fMag F x == F.inf

/-- The pattern is a zero. -/
def fIsZero (F : FFmt) (x : Nat) : Bool := fMag F x == 0

/-- The pattern is finite. -/
def fIsFin (F : FFmt) (x : Nat) : Bool := fMag F x < F.inf

/-- The pattern with the given sign. -/
def fWithSign (F : FFmt) (neg : Bool) (mag : Nat) : Nat := if neg then mag + 2 ^ F.sbit else mag

/-- The exponent of the unit in the last place of a subnormal. -/
def FFmt.qmin (F : FFmt) : Int := 2 - (2 ^ (F.eb - 1) : Nat) - F.mb

/-- A finite pattern as an integer multiple `m` of `2^e`. -/
def fScaled (F : FFmt) (x : Nat) : Int × Int :=
  let ef := fMag F x / 2 ^ F.mb
  let m := fMag F x % 2 ^ F.mb
  let mm : Nat := if ef = 0 then m else m + 2 ^ F.mb
  let e : Int := if ef = 0 then F.qmin else F.qmin + (ef - 1)
  (if fSign F x then -(mm : Int) else mm, e)

/-- The nearest pattern to the nonnegative rational `n / d`, ties to even, sign apart. -/
def fRoundMag (F : FFmt) (n d : Nat) : Nat :=
  if n = 0 then 0
  else
    let l0 : Int := (n.log2 : Int) - d.log2
    -- floor(log2 (n / d))
    let l : Int := if (if 0 ≤ l0 then n < d * 2 ^ l0.toNat else n * 2 ^ (-l0).toNat < d) then l0 - 1 else l0
    let q : Int := max (l - F.mb) F.qmin
    let num := if 0 ≤ q then n else n * 2 ^ (-q).toNat
    let den := if 0 ≤ q then d * 2 ^ q.toNat else d
    let r := num / den
    let rem2 := 2 * (num % den)
    let r' := if den < rem2 then r + 1 else if rem2 = den then r + r % 2 else r
    let bits := (q - F.qmin).toNat * 2 ^ F.mb + r'
    if F.inf ≤ bits then F.inf else bits

/-- The nearest pattern to the rational `n / d` (a zero takes the sign `z`). -/
def fRound (F : FFmt) (z : Bool) (n : Int) (d : Nat) : Nat :=
  fWithSign F (if n = 0 then z else n < 0) (fRoundMag F n.natAbs d)

/-- The nearest pattern to `m * 2^e`. -/
def fOfScaled (F : FFmt) (z : Bool) (m : Int) (e : Int) : Nat :=
  if 0 ≤ e then fRound F z (m * 2 ^ e.toNat) 1 else fRound F z m (2 ^ (-e).toNat)

/-- IEEE addition. -/
def fAddF (F : FFmt) (a b : Nat) : Nat :=
  if fIsNaN F a || fIsNaN F b then F.nan
  else if fIsInf F a then (if fIsInf F b && fSign F a != fSign F b then F.nan else a)
  else if fIsInf F b then b
  else
    let (m, e) := fScaled F a
    let (m', e') := fScaled F b
    let k := min e e'
    let s := m * 2 ^ (e - k).toNat + m' * 2 ^ (e' - k).toNat
    fOfScaled F (fSign F a && fSign F b) s k

/-- Sign bit inverted. -/
def fNegF (F : FFmt) (a : Nat) : Nat := if fSign F a then a - 2 ^ F.sbit else a + 2 ^ F.sbit

/-- IEEE multiplication. -/
def fMulF (F : FFmt) (a b : Nat) : Nat :=
  let s := fSign F a != fSign F b
  if fIsNaN F a || fIsNaN F b then F.nan
  else if fIsInf F a || fIsInf F b then
    (if fIsZero F a || fIsZero F b then F.nan else fWithSign F s F.inf)
  else
    let (m, e) := fScaled F a
    let (m', e') := fScaled F b
    fOfScaled F s (m * m') (e + e')

/-- IEEE division. -/
def fDivF (F : FFmt) (a b : Nat) : Nat :=
  let s := fSign F a != fSign F b
  if fIsNaN F a || fIsNaN F b then F.nan
  else if fIsInf F a then (if fIsInf F b then F.nan else fWithSign F s F.inf)
  else if fIsInf F b then fWithSign F s 0
  else if fIsZero F b then (if fIsZero F a then F.nan else fWithSign F s F.inf)
  else
    let (m, e) := fScaled F a
    let (m', e') := fScaled F b
    let k := e - e'
    let n := m.natAbs
    let d := m'.natAbs
    fWithSign F s (if 0 ≤ k then fRoundMag F (n * 2 ^ k.toNat) d else fRoundMag F n (d * 2 ^ (-k).toNat))

/-- IEEE square root; a negative operand gives NaN. -/
def fSqrtF (F : FFmt) (a : Nat) : Nat :=
  if fIsNaN F a then F.nan
  else if fIsZero F a then a
  else if fSign F a then F.nan
  else if fIsInf F a then a
  else
    let (m, e) := fScaled F a
    -- an even exponent and a root with more bits than the format holds
    let sh := 2 * F.mb + 6
    let sh := if (e - sh) % 2 = 0 then sh else sh + 1
    let n := m.natAbs * 2 ^ sh
    let r := isqrt n
    let sticky := 2 * r + (if r * r = n then 0 else 1)
    fOfScaled F false sticky ((e - sh) / 2 - 1)

/-- A key that orders the non-NaN patterns as their values (−0 and +0 alike). -/
def fKey (F : FFmt) (x : Nat) : Int := if fSign F x then -(fMag F x : Int) else fMag F x

/-- `a < b`, false with a NaN operand. -/
def fLtF (F : FFmt) (a b : Nat) : Bool := !fIsNaN F a && !fIsNaN F b && decide (fKey F a < fKey F b)

/-- `a ≤ b`, false with a NaN operand. -/
def fLeF (F : FFmt) (a b : Nat) : Bool := !fIsNaN F a && !fIsNaN F b && decide (fKey F a ≤ fKey F b)

/-- `a = b` as values, false with a NaN operand. -/
def fEqF (F : FFmt) (a b : Nat) : Bool := !fIsNaN F a && !fIsNaN F b && decide (fKey F a = fKey F b)

/-- The greatest integer not above a finite pattern. -/
def fFloorInt (F : FFmt) (x : Nat) : Int :=
  let (m, e) := fScaled F x
  if 0 ≤ e then m * 2 ^ e.toNat else m.fdiv (2 ^ (-e).toNat)

/-- The nearest integer to a finite pattern, ties away from zero. -/
def fRoundInt (F : FFmt) (x : Nat) : Int :=
  let (m, e) := fScaled F x
  if 0 ≤ e then m * 2 ^ e.toNat else divRound m (2 ^ (-e).toNat)

/-- The nearest integer to a finite pattern, ties to even. -/
def fRoundEvenInt (F : FFmt) (x : Nat) : Int :=
  let (m, e) := fScaled F x
  if 0 ≤ e then m * 2 ^ e.toNat
  else
    let d : Int := 2 ^ (-e).toNat
    let q := m.fdiv d
    let r2 := 2 * (m - q * d)
    if d < r2 then q + 1 else if r2 = d then q + q % 2 else q

/-! ### binary32 with the cores' rules (R129, R130) -/

/-- A subnormal pattern replaced by the zero of its sign. -/
def flush32 (x : Nat) : Nat := if fMag fmt32 x < 2 ^ 23 then fWithSign fmt32 (fSign fmt32 x) 0 else x

/-- `a + b` of R129. -/
def f32add (a b : Nat) : Nat := flush32 (fAddF fmt32 (flush32 a) (flush32 b))

/-- Sign inversion. -/
def f32neg (a : Nat) : Nat := fNegF fmt32 a

/-- `a − b` of R129. -/
def f32sub (a b : Nat) : Nat := f32add a (f32neg b)

/-- `a × b` of R129. -/
def f32mul (a b : Nat) : Nat := flush32 (fMulF fmt32 (flush32 a) (flush32 b))

/-- `a / b` of R129 and R134. -/
def f32div (a b : Nat) : Nat := flush32 (fDivF fmt32 (flush32 a) (flush32 b))

/-- Square root of R134. -/
def f32sqrt (a : Nat) : Nat := flush32 (fSqrtF fmt32 (flush32 a))

/-- `a < b`. -/
def f32lt (a b : Nat) : Bool := fLtF fmt32 (flush32 a) (flush32 b)

/-- `a ≤ b`. -/
def f32le (a b : Nat) : Bool := fLeF fmt32 (flush32 a) (flush32 b)

/-- `a = b`. -/
def f32eq (a b : Nat) : Bool := fEqF fmt32 (flush32 a) (flush32 b)

/-- NaN. -/
def f32isNaN (a : Nat) : Bool := fIsNaN fmt32 a

/-- Infinity. -/
def f32isInf (a : Nat) : Bool := fIsInf fmt32 a

/-- Finite. -/
def f32isFin (a : Nat) : Bool := fIsFin fmt32 a

/-- The canonical NaN. -/
def f32nan : Nat := 0x7FC00000

/-- 1.0 -/
def f32one : Nat := 0x3F800000

/-- Sign bit cleared. -/
def f32abs (a : Nat) : Nat := fMag fmt32 a

/-- `min(a, b)`; the first operand among equals. -/
def f32min (a b : Nat) : Nat := if f32lt b a then b else a

/-- `max(a, b)`; the first operand among equals. -/
def f32max (a b : Nat) : Nat := if f32lt a b then b else a

/-- round32 of an integer. -/
def f32ofInt (z : Int) : Nat := flush32 (fRound fmt32 false z 1)

/-- round32 of a rational. -/
def f32ofRat (n : Int) (d : Nat) : Nat := flush32 (fRound fmt32 false n d)

/-- The floor of a finite value, as a binary32. -/
def f32floor (a : Nat) : Nat := if f32isFin a then f32ofInt (fFloorInt fmt32 (flush32 a)) else a

/-- The floor of a finite value, as an integer (0 for what is not finite). -/
def f32floorInt (a : Nat) : Int := if f32isFin a then fFloorInt fmt32 (flush32 a) else 0

/-- A logic value of R131: true when 0.5 or greater, NaN false. -/
def f32true (a : Nat) : Bool := f32le 0x3F000000 a

/-- A logic output of R131. -/
def f32bool (b : Bool) : Nat := if b then f32one else 0

/-! ### binary64 -/

/-- binary64 addition. -/
def f64add (a b : Nat) : Nat := fAddF fmt64 a b

/-- binary64 multiplication. -/
def f64mul (a b : Nat) : Nat := fMulF fmt64 a b

/-- binary64 division. -/
def f64div (a b : Nat) : Nat := fDivF fmt64 a b

/-- binary64 of a rational. -/
def f64ofRat (n : Int) (d : Nat) : Nat := fRound fmt64 false n d

/-- binary64 of an integer. -/
def f64ofInt (n : Int) : Nat := fRound fmt64 false n 1

/-- binary64 of a binary32, exact but for what is not finite. -/
def f64of32 (a : Nat) : Nat :=
  if f32isNaN a then fmt64.nan
  else if f32isInf a then fWithSign fmt64 (fSign fmt32 a) fmt64.inf
  else
    let (m, e) := fScaled fmt32 a
    fOfScaled fmt64 (fSign fmt32 a) m e

/-- binary32 of a binary64, rounded once. -/
def f32of64 (a : Nat) : Nat :=
  if fIsNaN fmt64 a then f32nan
  else if fIsInf fmt64 a then fWithSign fmt32 (fSign fmt64 a) fmt32.inf
  else
    let (m, e) := fScaled fmt64 a
    flush32 (fOfScaled fmt32 (fSign fmt64 a) m e)

/-! ### The tables of R139 -/

/-- π × 2^128, rounded to nearest. -/
def piFix : Nat := 1069028584064966747859680373161870783301

/-- Taylor terms of the sine from term `k` on, in units of 2^−128: `t` is the present term. -/
def sinTaylor (x2 : Nat) : Nat → Nat → Int → Int
  | 0, _, _ => 0
  | n + 1, k, t => t + sinTaylor x2 n (k + 2) (-(t * x2 / 2 ^ 128) / ((k + 1) * (k + 2)))

/-- sin(2π × j / 1,024) in units of 2^−128, for `j` up to 256. -/
def sinFix (j : Nat) : Int :=
  let x := 2 * piFix * j / 1024
  sinTaylor (x * x / 2 ^ 128) 24 1 x

/-- t[j] = round32(sin(2π × j / 1,024)) for j = 0 to 1,024 (R139, R182). -/
def sinTable (j : Nat) : Nat :=
  let q := j % 1024
  let h := q % 512
  let g := if h ≤ 256 then h else 512 - h
  let v : Int := if g = 0 then 0 else if g = 256 then 2 ^ 128 else sinFix g
  f32ofRat (if q < 512 then v else -v) (2 ^ 128)

/-- Taylor terms of the arctangent of `x` from the odd power `k` on, `p` the present power, in units of 2^−128. -/
def atanTaylor (x2 : Nat) : Nat → Nat → Int → Int
  | 0, _, _ => 0
  | n + 1, k, p => p / k + atanTaylor x2 n (k + 2) (-(p * x2 / 2 ^ 128))

/-- atan(n / d) in units of 2^−128 for n / d up to 1/2. -/
def atanSmall (n d : Nat) : Int :=
  let x := n * 2 ^ 128 / d
  atanTaylor (x * x / 2 ^ 128) 70 1 x

/-- a[j] = round32(atan(j / 256)) for j = 0 to 256 (R139). Above 1/2 the identity
atan(x) = π/4 − atan((1 − x) / (1 + x)) is used. -/
def atanTable (j : Nat) : Nat :=
  let v : Int :=
    if j ≤ 128 then atanSmall j 256
    else (piFix / 4 : Nat) - atanSmall (256 - j) (256 + j)
  f32ofRat v (2 ^ 128)

/-- 1,024.0 -/
def f32k1024 : Nat := 0x44800000

/-- SINCOS of R139: the pair (s, c). -/
def f32sincos (theta : Nat) : Nat × Nat :=
  if !f32isFin theta then (f32nan, f32nan)
  else
    let u := f32mul theta 0x3E22F983
    let u := f32sub u (f32floor u)
    let x := f32mul u f32k1024
    let x := if f32le f32k1024 x then 0 else x
    let j := (f32floorInt x).toNat
    let r := f32sub x (f32ofInt j)
    let lerp (i : Nat) : Nat := f32add (sinTable i) (f32mul r (f32sub (sinTable (i + 1)) (sinTable i)))
    (lerp j, lerp ((j + 256) % 1024))

/-- ATAN2 of R139. -/
def f32atan2 (y x : Nat) : Nat :=
  if !f32isFin y || !f32isFin x then f32nan
  else
    let ay := f32abs (flush32 y)
    let ax := f32abs (flush32 x)
    if ay = 0 && ax = 0 then 0
    else
      let q := if f32le ay ax then f32div ay ax else f32div ax ay
      let xi := f32mul q 0x43800000
      let j := (f32floorInt xi).toNat
      let g :=
        if 256 ≤ j then atanTable 256
        else f32add (atanTable j) (f32mul (f32sub xi (f32ofInt j)) (f32sub (atanTable (j + 1)) (atanTable j)))
      let g := if f32lt ax ay then f32sub 0x3FC90FDB g else g
      let g := if f32lt x 0 then f32sub 0x40490FDB g else g
      if f32lt y 0 then f32neg g else g

end Sys2Proof.Machine
end

