-- ==== Sys2Proof/Machine/Store.lean ====
section
/-! DEFINITION. The two sparse stores of the state and their named operations: `Sparse`, a map from keys to natural
numbers in which an unlisted key reads 0, and `Memory`, bytes at addresses in which an unlisted address reads 0. Both
keep one canonical form: keys strictly rising, and no entry equal to what an unlisted key reads as. Beside them the
place of a register field and of a register in the map (R3, R575). -/

namespace Sys2Proof.Machine

/-- A sparse map from keys to natural numbers; an unlisted key reads 0. -/
structure Sparse where
  cells : List (Nat × Nat) := []
deriving DecidableEq, Repr

/-- The value at a key of a list of cells. -/
def Sparse.look : List (Nat × Nat) → Nat → Nat
  | [], _ => 0
  | (k', v) :: r, k => if k = k' then v else Sparse.look r k

/-- `(k, v)` put before the first larger key. -/
def Sparse.insert : List (Nat × Nat) → Nat → Nat → List (Nat × Nat)
  | [], k, v => [(k, v)]
  | (k', v') :: r, k, v => if k < k' then (k, v) :: (k', v') :: r else (k', v') :: Sparse.insert r k v

/-- The cells without key `k`. -/
def Sparse.erase (l : List (Nat × Nat)) (k : Nat) : List (Nat × Nat) := l.filter fun c => c.1 != k

/-- The cells after `k` takes the value `v`. -/
def Sparse.place (l : List (Nat × Nat)) (k v : Nat) : List (Nat × Nat) :=
  if v = 0 then Sparse.erase l k else Sparse.insert (Sparse.erase l k) k v

/-- The value at a key. -/
def Sparse.get (m : Sparse) (k : Nat) : Nat := Sparse.look m.cells k

/-- The map with `v` at key `k`. -/
def Sparse.set (m : Sparse) (k v : Nat) : Sparse := ⟨Sparse.place m.cells k v⟩

/-- Keys strictly rising and no value 0, for the cells above `lo`. -/
def Sparse.okFrom : Option Nat → List (Nat × Nat) → Bool
  | _, [] => true
  | lo, (k, v) :: r => (match lo with | none => true | some l => decide (l < k)) && v != 0 && Sparse.okFrom (some k) r

/-- The canonical form. -/
def Sparse.wf (m : Sparse) : Bool := Sparse.okFrom none m.cells

/-- Keep the entries whose key satisfies `p`. -/
def Sparse.keep (p : Nat → Bool) (m : Sparse) : Sparse := ⟨m.cells.filter fun c => p c.1⟩

/-- A byte memory: sorted cells, an unlisted address reads 0 (notes/assumptions/5). -/
structure Memory where
  cells : List Host.Cell := []
deriving DecidableEq, Repr

/-- The byte at an address of a list of cells. -/
def Memory.look : List Host.Cell → Nat → Byte
  | [], _ => 0
  | (k', v) :: r, k => if k = k' then v else Memory.look r k

/-- `(k, v)` put before the first larger address. -/
def Memory.insert : List Host.Cell → Nat → Byte → List Host.Cell
  | [], k, v => [(k, v)]
  | (k', v') :: r, k, v => if k < k' then (k, v) :: (k', v') :: r else (k', v') :: Memory.insert r k v

/-- The cells without address `k`. -/
def Memory.erase (l : List Host.Cell) (k : Nat) : List Host.Cell := l.filter fun c => c.1 != k

/-- The cells after address `k` takes the byte `v`. -/
def Memory.place (l : List Host.Cell) (k : Nat) (v : Byte) : List Host.Cell :=
  if v = 0 then Memory.erase l k else Memory.insert (Memory.erase l k) k v

/-- One byte. -/
def Memory.read8 (m : Memory) (a : Nat) : Byte := Memory.look m.cells a

/-- One byte written. -/
def Memory.write8 (m : Memory) (a : Nat) (v : Byte) : Memory := ⟨Memory.place m.cells a v⟩

/-- `n` bytes from an address on. -/
def Memory.readBytes (m : Memory) (a n : Nat) : List Byte :=
  let w := m.cells.filter fun c => decide (a ≤ c.1 ∧ c.1 < a + n)
  (List.range n).map fun i => Memory.look w (a + i)

/-- The bytes of a list that are not zero, as cells from address `a` on. -/
def Memory.listed : Nat → List Byte → List Host.Cell
  | _, [] => []
  | a, b :: bs => if b = 0 then Memory.listed (a + 1) bs else (a, b) :: Memory.listed (a + 1) bs

/-- Bytes written from an address on: the range `[a, a + bs.length)` holds them. -/
def Memory.writeBytes (m : Memory) (a : Nat) (bs : List Byte) : Memory :=
  ⟨m.cells.filter (fun c => decide (c.1 < a)) ++ (Memory.listed a bs ++ m.cells.filter fun c => decide (a + bs.length ≤ c.1))⟩

/-- A little-endian 32-bit word (R3). -/
def Memory.read32 (m : Memory) (a : Nat) : Nat := leNat (m.readBytes a 4)

/-- A little-endian 32-bit word written. -/
def Memory.write32 (m : Memory) (a v : Nat) : Memory := m.writeBytes a (leBytes 4 v)

/-- Addresses strictly rising and no byte 0, for the cells above `lo`. -/
def Memory.okFrom : Option Nat → List Host.Cell → Bool
  | _, [] => true
  | lo, (k, v) :: r => (match lo with | none => true | some l => decide (l < k)) && v != 0 && Memory.okFrom (some k) r

/-- The canonical form. -/
def Memory.wf (m : Memory) : Bool := Memory.okFrom none m.cells

/-- The memory with every byte of `[a, a + n)` zero. -/
def Memory.clear (m : Memory) (a n : Nat) : Memory := ⟨m.cells.filter fun c => decide (c.1 < a) || decide (a + n ≤ c.1)⟩

/-- The memory with `[dst, dst + n)` replaced by what `from_` holds in `[src, src + n)`. -/
def Memory.copyFrom (m from_ : Memory) (src dst n : Nat) : Memory :=
  ⟨m.cells.filter (fun c => decide (c.1 < dst)) ++
    ((from_.cells.filter fun c => decide (src ≤ c.1 ∧ c.1 < src + n)).map (fun c => (c.1 - src + dst, c.2)) ++
      m.cells.filter fun c => decide (dst + n ≤ c.1))⟩

/-- One field of a register: the register's map address, the field's lowest bit and width, and its reset value. -/
structure Fld where
  addr : Nat
  lo : Nat
  w : Nat
  reset : Nat
deriving DecidableEq, Repr

/-- The key of a field in the register file: the bit address of its lowest bit. -/
def Fld.key (f : Fld) : Nat := f.addr * 32 + f.lo

/-- The copy of a banked register's field that bank `b` reaches (R524). -/
def Fld.inBank (f : Fld) (b : Nat) : Fld := { f with addr := f.addr + b * 2 ^ 36 }

/-- The access codes of R5. -/
inductive Acc
  | ro | rw | wo | w1c | w1s | rwl | rwc
deriving DecidableEq, Repr

/-- The views of R10. -/
inductive View
  | p | a | u
deriving DecidableEq, Repr

/-- How a field's reset value is stated: a number, the array index, the default severity of its source, or the
waveform of R182. -/
inductive Rst
  | const (n : Nat) | index | severity | wave
deriving DecidableEq, Repr

/-- One field row of a register table: place, access, view, reset, the mark "house", the mark "(VAUX)". -/
structure FldSpec where
  lo : Nat
  w : Nat
  acc : Acc
  view : View
  rst : Rst
  house : Bool
  vaux : Bool
deriving DecidableEq, Repr

/-- One register table: base address, array strides with counts, fields. -/
structure RegSpec where
  base : Nat
  dims : List (Nat × Nat)
  fields : List FldSpec
deriving DecidableEq, Repr

end Sys2Proof.Machine
end

