-- ==== Sys2Proof/Machine/Fields.lean ====
section
/-! DEFINITION. Every register field of the map under its own name, `BLOCK_REGISTER_FIELD`, written from the register
tables of spec/00 to spec/19: address, lowest bit, width, reset value (R5, R11, R577). An array takes its index as an
argument (R575). `State.regs` holds one value for each of these fields. -/

namespace Sys2Proof.Machine

/-- The default severity of a source: the severity that its owning chapter gives it (R91, R117, R159, R185, R224,
R226, R284, R352, R380, R405, R427, R453, R471, R519, R547, R573); a reserved source has 0 (R455, R457). -/
def defaultSeverity (fs : Nat) : Nat :=
  if 64 ≤ fs && fs ≤ 191 then 1
  else if 192 ≤ fs && fs ≤ 215 then 3
  else if 216 ≤ fs && fs ≤ 223 then 4
  else if 224 ≤ fs && fs ≤ 247 then (if fs % 2 = 0 then 4 else 2)
  else if 248 ≤ fs && fs ≤ 271 then (if fs % 2 = 0 then 2 else 1)
  else if ([0, 5, 6, 7, 8, 19, 336, 337, 448, 449] : List Nat).contains fs then 5
  else if ([4, 13, 316, 317, 318, 319, 320, 321, 322, 323, 324] : List Nat).contains fs then 4
  else if ([3, 22, 280, 450] : List Nat).contains fs then 3
  else if ([1, 2, 9, 10, 11, 12, 15, 20, 21, 32, 33, 35, 38, 41, 42, 44, 48, 50, 52, 281, 294, 295, 300, 304, 305, 306, 307, 308, 310, 356, 370, 371, 372, 376, 378, 383, 384, 432, 436, 451, 452] : List Nat).contains fs then 2
  else if ([14, 16, 18, 34, 36, 37, 39, 40, 43, 45, 49, 53, 272, 273, 275, 277, 284, 285, 286, 287, 288, 289, 291, 292, 293, 297, 338, 339, 340, 341, 342, 343, 344, 345, 354, 355, 368, 369, 373, 374, 379, 382, 385, 386, 387, 400, 401, 402, 403, 404, 406, 433, 434, 435, 437, 438, 440, 441, 442, 444, 445, 446, 454, 455] : List Nat).contains fs then 1
  else 0

/-- The reset value of `REF.WT[t][i]`: WT0 holds the sine table, the others 0 (R182). -/
def waveReset (t i : Nat) : Nat := if t = 0 then sinTable i else 0

namespace F


/-! The registers of spec/00_scope.md. -/

/-- GLB.ID.PART -/
def GLB_ID_PART : Fld := ⟨0x0, 16, 16, 33170⟩
/-- GLB.ID.REV -/
def GLB_ID_REV : Fld := ⟨0x0, 8, 8, 66⟩
/-- GLB.ID.PKG -/
def GLB_ID_PKG : Fld := ⟨0x0, 4, 4, 1⟩

/-! The registers of spec/01_operating_states.md. -/

/-- GLB.STATE.STATE -/
def GLB_STATE_STATE : Fld := ⟨0x4, 0, 4, 1⟩
/-- GLB.STATE.PREV -/
def GLB_STATE_PREV : Fld := ⟨0x4, 4, 4, 0⟩
/-- GLB.STATE.STEP -/
def GLB_STATE_STEP : Fld := ⟨0x4, 8, 8, 1⟩
/-- GLB.STATE.LINK_BUSY -/
def GLB_STATE_LINK_BUSY : Fld := ⟨0x4, 16, 1, 0⟩
/-- GLB.ROLE.ROLE -/
def GLB_ROLE_ROLE : Fld := ⟨0x8, 0, 2, 1⟩
/-- GLB.ROLE.PREF -/
def GLB_ROLE_PREF : Fld := ⟨0x8, 2, 1, 0⟩
/-- GLB.ROLE.TWIN -/
def GLB_ROLE_TWIN : Fld := ⟨0x8, 3, 1, 0⟩
/-- GLB.ROLE.NOT_READY -/
def GLB_ROLE_NOT_READY : Fld := ⟨0x8, 4, 1, 0⟩
/-- GLB.ROLE.OBEY_OTHER -/
def GLB_ROLE_OBEY_OTHER : Fld := ⟨0x8, 5, 1, 0⟩
/-- GLB.ROLE.EPOCH -/
def GLB_ROLE_EPOCH : Fld := ⟨0x8, 16, 16, 0⟩
/-- GLB.CMD.CODE -/
def GLB_CMD_CODE : Fld := ⟨0xc, 0, 8, 0⟩
/-- GLB.CMD.ARG -/
def GLB_CMD_ARG : Fld := ⟨0xc, 8, 8, 0⟩
/-- GLB.CMD.KEY -/
def GLB_CMD_KEY : Fld := ⟨0xc, 16, 16, 0⟩
/-- GLB.CMDSTS.CODE -/
def GLB_CMDSTS_CODE : Fld := ⟨0x10, 0, 8, 0⟩
/-- GLB.CMDSTS.RESULT -/
def GLB_CMDSTS_RESULT : Fld := ⟨0x10, 8, 2, 0⟩
/-- GLB.CMDSTS.OBLK_TMO -/
def GLB_CMDSTS_OBLK_TMO : Fld := ⟨0x10, 10, 1, 0⟩
/-- GLB.CMDSTS.HOLD -/
def GLB_CMDSTS_HOLD : Fld := ⟨0x10, 16, 8, 0⟩
/-- GLB.CMDSTS.SEQ -/
def GLB_CMDSTS_SEQ : Fld := ⟨0x10, 24, 8, 0⟩
/-- GLB.OPBLK.BLK -/
def GLB_OPBLK_BLK : Fld := ⟨0x14, 0, 1, 0⟩
/-- GLB.AUTO.AUTO_LOAD -/
def GLB_AUTO_AUTO_LOAD : Fld := ⟨0x18, 0, 1, 1⟩
/-- GLB.AUTO.AUTO_LINK -/
def GLB_AUTO_AUTO_LINK : Fld := ⟨0x18, 1, 1, 1⟩
/-- GLB.AUTO.AUTO_ARM -/
def GLB_AUTO_AUTO_ARM : Fld := ⟨0x18, 2, 1, 0⟩
/-- GLB.LINKTMO.MS -/
def GLB_LINKTMO_MS : Fld := ⟨0x1c, 0, 16, 2000⟩
/-- GLB.DBCHK.VMIN -/
def GLB_DBCHK_VMIN : Fld := ⟨0x20, 0, 16, 0⟩
/-- GLB.DBCHK.VCHK_EN -/
def GLB_DBCHK_VCHK_EN : Fld := ⟨0x20, 16, 1, 0⟩
/-- GLB.DBCHK.SYNCREQ -/
def GLB_DBCHK_SYNCREQ : Fld := ⟨0x20, 17, 1, 0⟩
/-- GLB.STT_LO.T -/
def GLB_STT_LO_T : Fld := ⟨0x24, 0, 32, 0⟩
/-- GLB.STT_HI.T -/
def GLB_STT_HI_T : Fld := ⟨0x28, 0, 32, 0⟩
/-- GLB.STCYC.CYC -/
def GLB_STCYC_CYC : Fld := ⟨0x2c, 0, 32, 0⟩
/-- GLB.OBLKTMO.MS -/
def GLB_OBLKTMO_MS : Fld := ⟨0x30, 0, 16, 500⟩

/-! The registers of spec/02_recipe.md. -/

/-- RCP.CMD.CODE -/
def RCP_CMD_CODE : Fld := ⟨0x10000, 0, 8, 0⟩
/-- RCP.CMD.ARG -/
def RCP_CMD_ARG : Fld := ⟨0x10000, 8, 4, 0⟩
/-- RCP.CMD.KEY -/
def RCP_CMD_KEY : Fld := ⟨0x10000, 16, 16, 0⟩
/-- RCP.STS.BUSY -/
def RCP_STS_BUSY : Fld := ⟨0x10004, 0, 1, 0⟩
/-- RCP.STS.PHASE -/
def RCP_STS_PHASE : Fld := ⟨0x10004, 1, 3, 0⟩
/-- RCP.STS.STAGE_OK -/
def RCP_STS_STAGE_OK : Fld := ⟨0x10004, 4, 1, 0⟩
/-- RCP.STS.SAFE_STATE -/
def RCP_STS_SAFE_STATE : Fld := ⟨0x10004, 5, 2, 3⟩
/-- RCP.STS.SHADOW_LOST -/
def RCP_STS_SHADOW_LOST : Fld := ⟨0x10004, 7, 1, 0⟩
/-- RCP.STS.FALLBACK -/
def RCP_STS_FALLBACK : Fld := ⟨0x10004, 8, 1, 0⟩
/-- RCP.STS.SRC -/
def RCP_STS_SRC : Fld := ⟨0x10004, 9, 2, 0⟩
/-- RCP.STS.ACK_FAIL -/
def RCP_STS_ACK_FAIL : Fld := ⟨0x10004, 11, 2, 0⟩
/-- RCP.RESULT.CODE -/
def RCP_RESULT_CODE : Fld := ⟨0x10008, 0, 8, 0⟩
/-- RCP.RESULT.SECTION -/
def RCP_RESULT_SECTION : Fld := ⟨0x10008, 8, 3, 0⟩
/-- RCP.RESULT.CMD -/
def RCP_RESULT_CMD : Fld := ⟨0x10008, 16, 8, 0⟩
/-- RCP.RESULT.SEQ -/
def RCP_RESULT_SEQ : Fld := ⟨0x10008, 24, 8, 0⟩
/-- RCP.ERROFS.VALUE -/
def RCP_ERROFS_VALUE : Fld := ⟨0x1000c, 0, 32, 0⟩
/-- RCP.ACT_VER.VALUE -/
def RCP_ACT_VER_VALUE : Fld := ⟨0x1001c, 0, 32, 0⟩
/-- RCP.COMMIT_CYC.VALUE -/
def RCP_COMMIT_CYC_VALUE : Fld := ⟨0x10044, 0, 32, 0⟩
/-- RCP.MINVER.VALUE -/
def RCP_MINVER_VALUE : Fld := ⟨0x1004c, 0, 32, 0⟩
/-- RCP.STAGE_LEN.LEN -/
def RCP_STAGE_LEN_LEN : Fld := ⟨0x10010, 0, 25, 0⟩
/-- RCP.ACT_ID_LO.ID -/
def RCP_ACT_ID_LO_ID : Fld := ⟨0x10014, 0, 32, 0⟩
/-- RCP.ACT_ID_HI.ID -/
def RCP_ACT_ID_HI_ID : Fld := ⟨0x10018, 0, 32, 0⟩
/-- RCP.SECCRC.CRC -/
def RCP_SECCRC_CRC (i : Nat) : Fld := ⟨0x10020 + 0x4 * i, 0, 32, 0⟩
/-- RCP.SBUCRC.CRC -/
def RCP_SBUCRC_CRC : Fld := ⟨0x10038, 0, 32, 0⟩
/-- RCP.SAFEACK.CODE -/
def RCP_SAFEACK_CODE : Fld := ⟨0x1003c, 0, 32, 0⟩
/-- RCP.SAFETMO.S -/
def RCP_SAFETMO_S : Fld := ⟨0x10040, 0, 16, 600⟩
/-- RCP.BOOTSEL.FIRST -/
def RCP_BOOTSEL_FIRST : Fld := ⟨0x10048, 0, 1, 0⟩
/-- RCP.BOOTSEL.MODE -/
def RCP_BOOTSEL_MODE : Fld := ⟨0x10048, 1, 1, 0⟩
/-- RCP.TWINCFG.LEAD -/
def RCP_TWINCFG_LEAD : Fld := ⟨0x10050, 0, 16, 2000⟩
/-- RCP.TWINCFG.REQ_BOTH -/
def RCP_TWINCFG_REQ_BOTH : Fld := ⟨0x10050, 16, 1, 1⟩
/-- RCP.SLOT.STS.VALID -/
def RCP_SLOT_STS_VALID (i : Nat) : Fld := ⟨0x10060 + 0x10 * i, 0, 1, 0⟩
/-- RCP.SLOT.STS.ACKREC -/
def RCP_SLOT_STS_ACKREC (i : Nat) : Fld := ⟨0x10060 + 0x10 * i, 1, 1, 0⟩
/-- RCP.SLOT.VER.VERSION -/
def RCP_SLOT_VER_VERSION (i : Nat) : Fld := ⟨0x10064 + 0x10 * i, 0, 32, 0⟩
/-- RCP.SLOT.ID_LO.ID -/
def RCP_SLOT_ID_LO_ID (i : Nat) : Fld := ⟨0x10068 + 0x10 * i, 0, 32, 0⟩
/-- RCP.SLOT.ID_HI.ID -/
def RCP_SLOT_ID_HI_ID (i : Nat) : Fld := ⟨0x1006c + 0x10 * i, 0, 32, 0⟩
/-- RCP.KEY.STS.STATE -/
def RCP_KEY_STS_STATE (i : Nat) : Fld := ⟨0x10080 + 0x8 * i, 0, 2, 0⟩
/-- RCP.KEY.KEYID.KEYID -/
def RCP_KEY_KEYID_KEYID (i : Nat) : Fld := ⟨0x10084 + 0x8 * i, 0, 32, 0⟩
/-- RCP.KEYBUF.DATA -/
def RCP_KEYBUF_DATA (i : Nat) : Fld := ⟨0x100a0 + 0x4 * i, 0, 32, 0⟩
/-- RCP.HOUSE.COPY0_OK -/
def RCP_HOUSE_COPY0_OK : Fld := ⟨0x100e0, 0, 1, 0⟩
/-- RCP.HOUSE.COPY1_OK -/
def RCP_HOUSE_COPY1_OK : Fld := ⟨0x100e0, 1, 1, 0⟩
/-- RCP.HOUSE.USED -/
def RCP_HOUSE_USED : Fld := ⟨0x100e0, 2, 1, 0⟩
/-- RCP.HOUSE.NONE -/
def RCP_HOUSE_NONE : Fld := ⟨0x100e0, 3, 1, 0⟩
/-- RCP.HOUSE.SEQ -/
def RCP_HOUSE_SEQ : Fld := ⟨0x100e0, 16, 16, 0⟩
/-- RCP.HOUSE_LEN.N -/
def RCP_HOUSE_LEN_N : Fld := ⟨0x100e4, 0, 13, 0⟩

/-! The registers of spec/03_arm_cycle.md. -/

/-- SCH.CFG.ARMCYC -/
def SCH_CFG_ARMCYC : Fld := ⟨0x20000, 0, 17, 0⟩
/-- SCH.CFG.M -/
def SCH_CFG_M : Fld := ⟨0x20000, 17, 5, 0⟩
/-- SCH.CFG.PL -/
def SCH_CFG_PL : Fld := ⟨0x20000, 22, 2, 0⟩
/-- SCH.CFG.NARMS -/
def SCH_CFG_NARMS : Fld := ⟨0x20000, 24, 4, 0⟩
/-- SCH.CFG.RUNNING -/
def SCH_CFG_RUNNING : Fld := ⟨0x20000, 28, 1, 0⟩
/-- SCH.CYC.CYC -/
def SCH_CYC_CYC : Fld := ⟨0x20004, 0, 32, 0⟩
/-- SCH.CPBASE.CYC -/
def SCH_CPBASE_CYC : Fld := ⟨0x20008, 0, 32, 0⟩
/-- SCH.ALLOW.FIRST -/
def SCH_ALLOW_FIRST : Fld := ⟨0x2000c, 0, 12, 250⟩
/-- SCH.ALLOW.HOP -/
def SCH_ALLOW_HOP : Fld := ⟨0x2000c, 16, 8, 10⟩
/-- SCH.GUARD.NS -/
def SCH_GUARD_NS : Fld := ⟨0x20010, 0, 12, 200⟩
/-- SCH.ACCEPT.PLOK -/
def SCH_ACCEPT_PLOK : Fld := ⟨0x20014, 0, 4, 0⟩
/-- SCH.ACCEPT.WORSTARM -/
def SCH_ACCEPT_WORSTARM : Fld := ⟨0x20014, 8, 4, 0⟩
/-- SCH.ACCEPT.MARGIN -/
def SCH_ACCEPT_MARGIN : Fld := ⟨0x20014, 16, 16, 0⟩
/-- SCH.SLKVER.PASS -/
def SCH_SLKVER_PASS : Fld := ⟨0x20018, 0, 1, 0⟩
/-- SCH.SLKVER.BUSY -/
def SCH_SLKVER_BUSY : Fld := ⟨0x20018, 1, 1, 0⟩
/-- SCH.SLKVER.PL -/
def SCH_SLKVER_PL : Fld := ⟨0x20018, 2, 2, 0⟩
/-- SCH.SLKVER.WORST -/
def SCH_SLKVER_WORST : Fld := ⟨0x20018, 16, 16, 0⟩
/-- SCH.REPL.NOW -/
def SCH_REPL_NOW : Fld := ⟨0x2001c, 0, 16, 0⟩
/-- SCH.REPL.IDX -/
def SCH_REPL_IDX : Fld := ⟨0x2001c, 16, 6, 0⟩
/-- SCH.REPL.WARN -/
def SCH_REPL_WARN : Fld := ⟨0x2001c, 22, 1, 0⟩
/-- SCH.REPL.OVER -/
def SCH_REPL_OVER : Fld := ⟨0x2001c, 23, 1, 0⟩
/-- SCH.CTL.SLKCLR -/
def SCH_CTL_SLKCLR : Fld := ⟨0x20020, 0, 1, 0⟩
/-- SCH.CTL.CNTCLR -/
def SCH_CTL_CNTCLR : Fld := ⟨0x20020, 1, 1, 0⟩
/-- SCH.CTL.REVERIFY -/
def SCH_CTL_REVERIFY : Fld := ⟨0x20020, 2, 1, 0⟩
/-- SCH.LATEARMS.ARMS -/
def SCH_LATEARMS_ARMS : Fld := ⟨0x20024, 0, 12, 0⟩
/-- ARM.STS.LATE -/
def ARM_STS_LATE (i : Nat) : Fld := ⟨0x21000 + 0x400 * i, 0, 1, 0⟩
/-- ARM.STS.STALE -/
def ARM_STS_STALE (i : Nat) : Fld := ⟨0x21000 + 0x400 * i, 1, 1, 0⟩
/-- ARM.STS.MISSRUN -/
def ARM_STS_MISSRUN (i : Nat) : Fld := ⟨0x21000 + 0x400 * i, 2, 2, 0⟩
/-- ARM.STS.LASTLATE -/
def ARM_STS_LASTLATE (i : Nat) : Fld := ⟨0x21000 + 0x400 * i, 4, 1, 0⟩
/-- ARM.STS.CHAINLONG -/
def ARM_STS_CHAINLONG (i : Nat) : Fld := ⟨0x21000 + 0x400 * i, 5, 1, 0⟩
/-- ARM.DL.CRT -/
def ARM_DL_CRT (i : Nat) : Fld := ⟨0x21004 + 0x400 * i, 0, 20, 0⟩
/-- ARM.ULCUT.CRT -/
def ARM_ULCUT_CRT (i : Nat) : Fld := ⟨0x21008 + 0x400 * i, 0, 20, 0⟩
/-- ARM.DLV.CRT -/
def ARM_DLV_CRT (i : Nat) : Fld := ⟨0x2100c + 0x400 * i, 0, 20, 0⟩
/-- ARM.CHAIN.CRT -/
def ARM_CHAIN_CRT (i : Nat) : Fld := ⟨0x21010 + 0x400 * i, 0, 20, 0⟩
/-- ARM.DONE.CRT -/
def ARM_DONE_CRT (i : Nat) : Fld := ⟨0x21014 + 0x400 * i, 0, 20, 0⟩
/-- ARM.SLACK.NS -/
def ARM_SLACK_NS (i : Nat) : Fld := ⟨0x21018 + 0x400 * i, 0, 32, 0⟩
/-- ARM.SLACKMIN.NS -/
def ARM_SLACKMIN_NS (i : Nat) : Fld := ⟨0x2101c + 0x400 * i, 0, 32, 2147483647⟩
/-- ARM.LATECNT.LATE -/
def ARM_LATECNT_LATE (i : Nat) : Fld := ⟨0x21020 + 0x400 * i, 0, 16, 0⟩
/-- ARM.LATECNT.STALE -/
def ARM_LATECNT_STALE (i : Nat) : Fld := ⟨0x21020 + 0x400 * i, 16, 16, 0⟩
/-- ARM.WCB.RSINS -/
def ARM_WCB_RSINS (i : Nat) : Fld := ⟨0x21024 + 0x400 * i, 0, 16, 0⟩
/-- ARM.WCB.ALLOW -/
def ARM_WCB_ALLOW (i : Nat) : Fld := ⟨0x21024 + 0x400 * i, 16, 16, 0⟩

/-! The registers of spec/04_control_graph.md. -/

/-- CG.CTL.PCOMMIT -/
def CG_CTL_PCOMMIT : Fld := ⟨0x40000, 0, 1, 0⟩
/-- CG.CTL.GRESET -/
def CG_CTL_GRESET : Fld := ⟨0x40000, 1, 1, 0⟩
/-- CG.CTL.SIGHOLD -/
def CG_CTL_SIGHOLD : Fld := ⟨0x40000, 2, 1, 0⟩
/-- CG.STS.RUNNING -/
def CG_STS_RUNNING : Fld := ⟨0x40004, 0, 1, 0⟩
/-- CG.STS.LATE -/
def CG_STS_LATE : Fld := ⟨0x40004, 1, 1, 0⟩
/-- CG.STS.LASTLATE -/
def CG_STS_LASTLATE : Fld := ⟨0x40004, 2, 1, 0⟩
/-- CG.STS.LATERUN -/
def CG_STS_LATERUN : Fld := ⟨0x40004, 3, 2, 0⟩
/-- CG.STS.AGGOLD -/
def CG_STS_AGGOLD : Fld := ⟨0x40004, 5, 1, 0⟩
/-- CG.STS.OUTNAN -/
def CG_STS_OUTNAN : Fld := ⟨0x40004, 6, 1, 0⟩
/-- CG.STS.STOPPED -/
def CG_STS_STOPPED : Fld := ⟨0x40004, 7, 1, 0⟩
/-- CG.STS.INIT -/
def CG_STS_INIT : Fld := ⟨0x40004, 8, 1, 1⟩
/-- CG.PSTS.PENDING -/
def CG_PSTS_PENDING : Fld := ⟨0x40008, 0, 1, 0⟩
/-- CG.PSTS.REFUSED -/
def CG_PSTS_REFUSED : Fld := ⟨0x40008, 1, 1, 0⟩
/-- CG.PSTS.STBY_WR -/
def CG_PSTS_STBY_WR : Fld := ⟨0x40008, 2, 1, 0⟩
/-- CG.PAPPLY.CYC -/
def CG_PAPPLY_CYC : Fld := ⟨0x4000c, 0, 32, 0⟩
/-- CG.RUNCYC.CYC -/
def CG_RUNCYC_CYC : Fld := ⟨0x40010, 0, 32, 0⟩
/-- CG.RUNT.NS -/
def CG_RUNT_NS : Fld := ⟨0x40014, 0, 32, 0⟩
/-- CG.RUNTMAX.NS -/
def CG_RUNTMAX_NS : Fld := ⟨0x40018, 0, 32, 0⟩
/-- CG.BUDGET.CP -/
def CG_BUDGET_CP : Fld := ⟨0x4001c, 0, 24, 0⟩
/-- CG.MARGIN.NS -/
def CG_MARGIN_NS : Fld := ⟨0x40020, 0, 32, 0⟩
/-- CG.GUARD.NS -/
def CG_GUARD_NS : Fld := ⟨0x40024, 0, 12, 500⟩
/-- CG.PLEAD.CYC -/
def CG_PLEAD_CYC : Fld := ⟨0x40028, 0, 8, 8⟩
/-- CG.TS.TS -/
def CG_TS_TS : Fld := ⟨0x4002c, 0, 32, 0⟩
/-- CG.GINFO0.NINST -/
def CG_GINFO0_NINST : Fld := ⟨0x40030, 0, 13, 0⟩
/-- CG.GINFO0.NSIG -/
def CG_GINFO0_NSIG : Fld := ⟨0x40030, 16, 14, 0⟩
/-- CG.GINFO1.NPARAM -/
def CG_GINFO1_NPARAM : Fld := ⟨0x40034, 0, 16, 0⟩
/-- CG.GINFO1.NINMAP -/
def CG_GINFO1_NINMAP : Fld := ⟨0x40034, 16, 11, 0⟩
/-- CG.GINFO2.NCONST -/
def CG_GINFO2_NCONST : Fld := ⟨0x40038, 0, 21, 0⟩
/-- CG.GINFO2.NOUTMAP -/
def CG_GINFO2_NOUTMAP : Fld := ⟨0x40038, 22, 10, 0⟩
/-- CG.TRCFG.EN -/
def CG_TRCFG_EN : Fld := ⟨0x40040, 0, 1, 0⟩
/-- CG.TRCFG.MAXCLR -/
def CG_TRCFG_MAXCLR : Fld := ⟨0x40040, 1, 1, 0⟩
/-- CG.TRCFG.DEC -/
def CG_TRCFG_DEC : Fld := ⟨0x40040, 8, 8, 0⟩
/-- CG.TRCFG.NTR -/
def CG_TRCFG_NTR : Fld := ⟨0x40040, 16, 9, 0⟩
/-- CG.TRSTS.FROZEN -/
def CG_TRSTS_FROZEN : Fld := ⟨0x40044, 0, 1, 0⟩
/-- CG.TRSTS.WRAPPED -/
def CG_TRSTS_WRAPPED : Fld := ⟨0x40044, 1, 1, 0⟩
/-- CG.TRPTR.OFS -/
def CG_TRPTR_OFS : Fld := ⟨0x40048, 0, 29, 0⟩
/-- CC.STS.BUSY -/
def CC_STS_BUSY (i : Nat) : Fld := ⟨0x41000 + 0x100 * i, 0, 1, 0⟩
/-- CC.STS.STALLED -/
def CC_STS_STALLED (i : Nat) : Fld := ⟨0x41000 + 0x100 * i, 1, 1, 0⟩
/-- CC.CAUSE.ECCU -/
def CC_CAUSE_ECCU (i : Nat) : Fld := ⟨0x41004 + 0x100 * i, 0, 1, 0⟩
/-- CC.CAUSE.STALL -/
def CC_CAUSE_STALL (i : Nat) : Fld := ⟨0x41004 + 0x100 * i, 1, 1, 0⟩
/-- CC.CAUSE.LATE3 -/
def CC_CAUSE_LATE3 (i : Nat) : Fld := ⟨0x41004 + 0x100 * i, 2, 1, 0⟩
/-- CC.CAUSE.OUTNAN -/
def CC_CAUSE_OUTNAN (i : Nat) : Fld := ⟨0x41004 + 0x100 * i, 3, 1, 0⟩
/-- CC.CAUSE.ECCC -/
def CC_CAUSE_ECCC (i : Nat) : Fld := ⟨0x41004 + 0x100 * i, 4, 1, 0⟩
/-- CC.FIN.NS -/
def CC_FIN_NS (i : Nat) : Fld := ⟨0x41008 + 0x100 * i, 0, 32, 0⟩
/-- CC.CNT.ECCC -/
def CC_CNT_ECCC (i : Nat) : Fld := ⟨0x4100c + 0x100 * i, 0, 16, 0⟩
/-- CC.CNT.NAN -/
def CC_CNT_NAN (i : Nat) : Fld := ⟨0x4100c + 0x100 * i, 16, 16, 0⟩
/-- CC.LOAD.COST -/
def CC_LOAD_COST (i : Nat) : Fld := ⟨0x41010 + 0x100 * i, 0, 16, 0⟩
/-- CC.LOAD.FINWC -/
def CC_LOAD_FINWC (i : Nat) : Fld := ⟨0x41010 + 0x100 * i, 16, 16, 0⟩
/-- CG.HIN.VAL -/
def CG_HIN_VAL (i : Nat) : Fld := ⟨0x42000 + 0x4 * i, 0, 32, 0⟩
/-- CG.HOUT.VAL -/
def CG_HOUT_VAL (i : Nat) : Fld := ⟨0x42100 + 0x4 * i, 0, 32, 0⟩
/-- CG.TRSEL.SIG -/
def CG_TRSEL_SIG (i : Nat) : Fld := ⟨0x42200 + 0x4 * i, 0, 13, 0⟩
/-- CG.SIG.VAL -/
def CG_SIG_VAL (i : Nat) : Fld := ⟨0x48000 + 0x4 * i, 0, 32, 0⟩
/-- CG.PAR.VAL -/
def CG_PAR_VAL (i : Nat) : Fld := ⟨0x50000 + 0x4 * i, 0, 32, 0⟩

/-! The registers of spec/05_reference_and_orders.md. -/

/-- REF.CTL.OCOMMIT -/
def REF_CTL_OCOMMIT : Fld := ⟨0x80000, 0, 1, 0⟩
/-- REF.CTL.WCOMMIT -/
def REF_CTL_WCOMMIT : Fld := ⟨0x80000, 1, 1, 0⟩
/-- REF.CTL.PRESET -/
def REF_CTL_PRESET : Fld := ⟨0x80000, 8, 4, 0⟩
/-- REF.STS.OPENDING -/
def REF_STS_OPENDING : Fld := ⟨0x80004, 0, 1, 0⟩
/-- REF.STS.WPENDING -/
def REF_STS_WPENDING : Fld := ⟨0x80004, 1, 1, 0⟩
/-- REF.STS.REFUSED -/
def REF_STS_REFUSED : Fld := ⟨0x80004, 2, 1, 0⟩
/-- REF.STS.STBY_WR -/
def REF_STS_STBY_WR : Fld := ⟨0x80004, 3, 1, 0⟩
/-- REF.STS.BADLIM -/
def REF_STS_BADLIM : Fld := ⟨0x80004, 4, 1, 0⟩
/-- REF.OAPPLY.CYC -/
def REF_OAPPLY_CYC : Fld := ⟨0x80008, 0, 32, 0⟩
/-- REF.WAPPLY.CYC -/
def REF_WAPPLY_CYC : Fld := ⟨0x8000c, 0, 32, 0⟩
/-- REF.LGCFG.EVAL -/
def REF_LGCFG_EVAL : Fld := ⟨0x80010, 0, 1, 1⟩
/-- REF.LGCFG.HOLDLIM -/
def REF_LGCFG_HOLDLIM : Fld := ⟨0x80010, 4, 4, 3⟩
/-- REF.LGCFG.VFLOOR -/
def REF_LGCFG_VFLOOR : Fld := ⟨0x80010, 16, 16, 2000⟩
/-- REF.RPG.MODE -/
def REF_RPG_MODE : Fld := ⟨0x80020, 0, 1, 0⟩
/-- REF.RPG.STILLPH -/
def REF_RPG_STILLPH : Fld := ⟨0x80020, 1, 2, 0⟩
/-- REF.RPG.AUTOSTILL -/
def REF_RPG_AUTOSTILL : Fld := ⟨0x80020, 3, 1, 0⟩
/-- REF.RPG.STILL -/
def REF_RPG_STILL : Fld := ⟨0x80020, 4, 1, 1⟩
/-- REF.RPG_PH0.VAL -/
def REF_RPG_PH0_VAL : Fld := ⟨0x80024, 0, 32, 0⟩
/-- REF.RPG_SLEW.VAL -/
def REF_RPG_SLEW_VAL : Fld := ⟨0x80028, 0, 32, 981668463⟩
/-- REF.RPG_PH.VAL -/
def REF_RPG_PH_VAL : Fld := ⟨0x8002c, 0, 32, 0⟩
/-- REF.SYN.EN -/
def REF_SYN_EN : Fld := ⟨0x80040, 0, 1, 0⟩
/-- REF.SYN.NSYNC -/
def REF_SYN_NSYNC : Fld := ⟨0x80040, 8, 8, 10⟩
/-- REF.SYN_SEL.CLASS -/
def REF_SYN_SEL_CLASS (i : Nat) : Fld := ⟨0x80044 + 0x4 * i, 0, 8, 0⟩
/-- REF.SYN_SEL.SEL -/
def REF_SYN_SEL_SEL (i : Nat) : Fld := ⟨0x80044 + 0x4 * i, 8, 24, 0⟩
/-- REF.SYN_THPH.VAL -/
def REF_SYN_THPH_VAL : Fld := ⟨0x80050, 0, 32, 0⟩
/-- REF.SYN_THF.VAL -/
def REF_SYN_THF_VAL : Fld := ⟨0x80054, 0, 32, 0⟩
/-- REF.SYN_VMIN.VAL -/
def REF_SYN_VMIN_VAL : Fld := ⟨0x80058, 0, 32, 0⟩
/-- REF.SYN_VMAX.VAL -/
def REF_SYN_VMAX_VAL : Fld := ⟨0x8005c, 0, 32, 0⟩
/-- REF.SYN_PHOFS.VAL -/
def REF_SYN_PHOFS_VAL : Fld := ⟨0x80060, 0, 32, 0⟩
/-- REF.SYN_STS.INSYNC -/
def REF_SYN_STS_INSYNC : Fld := ⟨0x80064, 0, 1, 0⟩
/-- REF.SYN_STS.INVALID -/
def REF_SYN_STS_INVALID : Fld := ⟨0x80064, 1, 1, 0⟩
/-- REF.SYN_STS.LOST -/
def REF_SYN_STS_LOST : Fld := ⟨0x80064, 2, 1, 0⟩
/-- REF.SYN_STS.COUNT -/
def REF_SYN_STS_COUNT : Fld := ⟨0x80064, 8, 8, 0⟩
/-- REF.SYN_V.VAL -/
def REF_SYN_V_VAL : Fld := ⟨0x80068, 0, 32, 0⟩
/-- REF.SYN_F.VAL -/
def REF_SYN_F_VAL : Fld := ⟨0x8006c, 0, 32, 0⟩
/-- REF.SYN_DPH.VAL -/
def REF_SYN_DPH_VAL : Fld := ⟨0x80070, 0, 32, 0⟩
/-- REF.ORD.TGT.VAL -/
def REF_ORD_TGT_VAL (i : Nat) : Fld := ⟨0x80100 + 0x40 * i, 0, 32, 0⟩
/-- REF.ORD.RMAX.VAL -/
def REF_ORD_RMAX_VAL (i : Nat) : Fld := ⟨0x80104 + 0x40 * i, 0, 32, 1065353216⟩
/-- REF.ORD.AACC.VAL -/
def REF_ORD_AACC_VAL (i : Nat) : Fld := ⟨0x80108 + 0x40 * i, 0, 32, 1065353216⟩
/-- REF.ORD.ADEC.VAL -/
def REF_ORD_ADEC_VAL (i : Nat) : Fld := ⟨0x8010c + 0x40 * i, 0, 32, 1065353216⟩
/-- REF.ORD.LO.VAL -/
def REF_ORD_LO_VAL (i : Nat) : Fld := ⟨0x80110 + 0x40 * i, 0, 32, 0⟩
/-- REF.ORD.HI.VAL -/
def REF_ORD_HI_VAL (i : Nat) : Fld := ⟨0x80114 + 0x40 * i, 0, 32, 0⟩
/-- REF.ORD.INIT.VAL -/
def REF_ORD_INIT_VAL (i : Nat) : Fld := ⟨0x80118 + 0x40 * i, 0, 32, 0⟩
/-- REF.ORD.VAL.VAL -/
def REF_ORD_VAL_VAL (i : Nat) : Fld := ⟨0x8011c + 0x40 * i, 0, 32, 0⟩
/-- REF.ORD.RATE.VAL -/
def REF_ORD_RATE_VAL (i : Nat) : Fld := ⟨0x80120 + 0x40 * i, 0, 32, 0⟩
/-- REF.ORD.STS.PHASE -/
def REF_ORD_STS_PHASE (i : Nat) : Fld := ⟨0x80124 + 0x40 * i, 0, 3, 0⟩
/-- REF.ORD.STS.REVERSAL -/
def REF_ORD_STS_REVERSAL (i : Nat) : Fld := ⟨0x80124 + 0x40 * i, 3, 1, 0⟩
/-- REF.ORD.STS.ZC -/
def REF_ORD_STS_ZC (i : Nat) : Fld := ⟨0x80124 + 0x40 * i, 4, 1, 0⟩
/-- REF.ORD.STS.LIMIT_DEFERRED -/
def REF_ORD_STS_LIMIT_DEFERRED (i : Nat) : Fld := ⟨0x80124 + 0x40 * i, 5, 1, 0⟩
/-- REF.ORD.STS.DEFER -/
def REF_ORD_STS_DEFER (i : Nat) : Fld := ⟨0x80124 + 0x40 * i, 6, 1, 0⟩
/-- REF.ORD.STS.TCLAMP -/
def REF_ORD_STS_TCLAMP (i : Nat) : Fld := ⟨0x80124 + 0x40 * i, 7, 1, 0⟩
/-- REF.ORD.STS.OBLK -/
def REF_ORD_STS_OBLK (i : Nat) : Fld := ⟨0x80124 + 0x40 * i, 8, 1, 0⟩
/-- REF.ORD.STS.BADLIM -/
def REF_ORD_STS_BADLIM (i : Nat) : Fld := ⟨0x80124 + 0x40 * i, 9, 1, 0⟩
/-- REF.ORD.STS.OVERSHOOT -/
def REF_ORD_STS_OVERSHOOT (i : Nat) : Fld := ⟨0x80124 + 0x40 * i, 10, 1, 0⟩
/-- REF.ORD.ZCCYC.VAL -/
def REF_ORD_ZCCYC_VAL (i : Nat) : Fld := ⟨0x80128 + 0x40 * i, 0, 32, 0⟩
/-- REF.ORD.ZCT_LO.VAL -/
def REF_ORD_ZCT_LO_VAL (i : Nat) : Fld := ⟨0x8012c + 0x40 * i, 0, 32, 0⟩
/-- REF.ORD.ZCT_HI.VAL -/
def REF_ORD_ZCT_HI_VAL (i : Nat) : Fld := ⟨0x80130 + 0x40 * i, 0, 32, 0⟩
/-- REF.WT.VAL -/
def REF_WT_VAL (i : Nat) (j : Nat) : Fld := ⟨0x90000 + 0x1000 * i + 0x4 * j, 0, 32, waveReset i j⟩
/-- ARM.LGCTL.NLC -/
def ARM_LGCTL_NLC (i : Nat) : Fld := ⟨0x21080 + 0x400 * i, 0, 1, 0⟩
/-- ARM.LGCTL.STILL -/
def ARM_LGCTL_STILL (i : Nat) : Fld := ⟨0x21080 + 0x400 * i, 1, 1, 0⟩
/-- ARM.LGCTL.STILLMODE -/
def ARM_LGCTL_STILLMODE (i : Nat) : Fld := ⟨0x21080 + 0x400 * i, 2, 1, 0⟩
/-- ARM.LGCTL.WTEN -/
def ARM_LGCTL_WTEN (i : Nat) : Fld := ⟨0x21080 + 0x400 * i, 3, 1, 0⟩
/-- ARM.LGCTL.WT -/
def ARM_LGCTL_WT (i : Nat) : Fld := ⟨0x21080 + 0x400 * i, 4, 3, 0⟩
/-- ARM.WAMP.VAL -/
def ARM_WAMP_VAL (i : Nat) : Fld := ⟨0x21084 + 0x400 * i, 0, 32, 0⟩
/-- ARM.WPH.VAL -/
def ARM_WPH_VAL (i : Nat) : Fld := ⟨0x21088 + 0x400 * i, 0, 32, 0⟩
/-- ARM.LGSTS.SAT -/
def ARM_LGSTS_SAT (i : Nat) : Fld := ⟨0x2108c + 0x400 * i, 0, 1, 0⟩
/-- ARM.LGSTS.LOWV -/
def ARM_LGSTS_LOWV (i : Nat) : Fld := ⟨0x2108c + 0x400 * i, 1, 1, 0⟩
/-- ARM.LGSTS.HELD -/
def ARM_LGSTS_HELD (i : Nat) : Fld := ⟨0x2108c + 0x400 * i, 2, 1, 0⟩
/-- ARM.LGSTS.NONFIN -/
def ARM_LGSTS_NONFIN (i : Nat) : Fld := ⟨0x2108c + 0x400 * i, 3, 1, 0⟩
/-- ARM.LGSTS.INSTILL -/
def ARM_LGSTS_INSTILL (i : Nat) : Fld := ⟨0x2108c + 0x400 * i, 4, 1, 0⟩
/-- ARM.LGSTS.HELDRUN -/
def ARM_LGSTS_HELDRUN (i : Nat) : Fld := ⟨0x2108c + 0x400 * i, 8, 4, 0⟩
/-- ARM.LGOUT.N -/
def ARM_LGOUT_N (i : Nat) : Fld := ⟨0x21090 + 0x400 * i, 0, 11, 0⟩
/-- ARM.LGOUT.F -/
def ARM_LGOUT_F (i : Nat) : Fld := ⟨0x21090 + 0x400 * i, 16, 16, 0⟩
/-- ARM.VREF.VAL -/
def ARM_VREF_VAL (i : Nat) : Fld := ⟨0x21094 + 0x400 * i, 0, 32, 0⟩
/-- ARM.REFCAUSE.HELD -/
def ARM_REFCAUSE_HELD (i : Nat) : Fld := ⟨0x21098 + 0x400 * i, 0, 1, 0⟩
/-- ARM.REFCAUSE.NONFIN -/
def ARM_REFCAUSE_NONFIN (i : Nat) : Fld := ⟨0x21098 + 0x400 * i, 1, 1, 0⟩

/-! The registers of spec/06_balance_engines.md. -/

/-- BE.CTL.RERANK -/
def BE_CTL_RERANK : Fld := ⟨0x100000, 0, 1, 0⟩
/-- BE.CTL.CNTCLR -/
def BE_CTL_CNTCLR : Fld := ⟨0x100000, 1, 1, 0⟩
/-- BE.USED.USED -/
def BE_USED_USED : Fld := ⟨0x100004, 0, 24, 0⟩
/-- BE.CELLCMD.CELL -/
def BE_CELLCMD_CELL : Fld := ⟨0x100008, 0, 13, 0⟩
/-- BE.CELLCMD.CODE -/
def BE_CELLCMD_CODE : Fld := ⟨0x100008, 13, 3, 0⟩
/-- BE.CELLCMD.KEY -/
def BE_CELLCMD_KEY : Fld := ⟨0x100008, 16, 16, 0⟩
/-- BE.CMDSTS.CODE -/
def BE_CMDSTS_CODE : Fld := ⟨0x10000c, 0, 3, 0⟩
/-- BE.CMDSTS.RESULT -/
def BE_CMDSTS_RESULT : Fld := ⟨0x10000c, 3, 2, 0⟩
/-- BE.CMDSTS.REASON -/
def BE_CMDSTS_REASON : Fld := ⟨0x10000c, 8, 4, 0⟩
/-- BE.CMDSTS.PEND -/
def BE_CMDSTS_PEND : Fld := ⟨0x10000c, 12, 5, 0⟩
/-- BE.CMDSTS.SEQ -/
def BE_CMDSTS_SEQ : Fld := ⟨0x10000c, 24, 8, 0⟩
/-- BE.CMDAPPLY.CYC -/
def BE_CMDAPPLY_CYC : Fld := ⟨0x100010, 0, 32, 0⟩
/-- BE.CFG.ARM -/
def BE_CFG_ARM (i : Nat) : Fld := ⟨0x100100 + 0x40 * i, 0, 4, 0⟩
/-- BE.CFG.FIRST -/
def BE_CFG_FIRST (i : Nat) : Fld := ⟨0x100100 + 0x40 * i, 8, 10, 0⟩
/-- BE.CFG.COUNT -/
def BE_CFG_COUNT (i : Nat) : Fld := ⟨0x100100 + 0x40 * i, 20, 9, 0⟩
/-- BE.STS.FULL -/
def BE_STS_FULL (i : Nat) : Fld := ⟨0x100104 + 0x40 * i, 0, 1, 0⟩
/-- BE.STS.BUSY -/
def BE_STS_BUSY (i : Nat) : Fld := ⟨0x100104 + 0x40 * i, 1, 1, 0⟩
/-- BE.STS.CHGD -/
def BE_STS_CHGD (i : Nat) : Fld := ⟨0x100104 + 0x40 * i, 16, 9, 0⟩
/-- BE.CAUSE.ECCU -/
def BE_CAUSE_ECCU (i : Nat) : Fld := ⟨0x100108 + 0x40 * i, 0, 1, 0⟩
/-- BE.CAUSE.ORDER -/
def BE_CAUSE_ORDER (i : Nat) : Fld := ⟨0x100108 + 0x40 * i, 1, 1, 0⟩
/-- BE.CAUSE.ROUTE -/
def BE_CAUSE_ROUTE (i : Nat) : Fld := ⟨0x100108 + 0x40 * i, 2, 1, 0⟩
/-- BE.CAUSE.ECCC -/
def BE_CAUSE_ECCC (i : Nat) : Fld := ⟨0x100108 + 0x40 * i, 3, 1, 0⟩
/-- BE.CNT.FULLCNT -/
def BE_CNT_FULLCNT (i : Nat) : Fld := ⟨0x10010c + 0x40 * i, 0, 16, 0⟩
/-- BE.CNT.ECCC -/
def BE_CNT_ECCC (i : Nat) : Fld := ⟨0x10010c + 0x40 * i, 16, 16, 0⟩
/-- BE.RRTHR.X -/
def BE_RRTHR_X (i : Nat) : Fld := ⟨0x100110 + 0x40 * i, 0, 7, 0⟩
/-- ARM.MAXCHG.N -/
def ARM_MAXCHG_N (i : Nat) : Fld := ⟨0x21100 + 0x400 * i, 0, 8, 8⟩
/-- ARM.MINDWELL.CYC -/
def ARM_MINDWELL_CYC (i : Nat) : Fld := ⟨0x21104 + 0x400 * i, 0, 8, 2⟩
/-- ARM.TRLIM.MAXTR -/
def ARM_TRLIM_MAXTR (i : Nat) : Fld := ⟨0x21108 + 0x400 * i, 0, 8, 0⟩
/-- ARM.TRLIM.WIN -/
def ARM_TRLIM_WIN (i : Nat) : Fld := ⟨0x21108 + 0x400 * i, 16, 16, 10000⟩
/-- ARM.WEIGHT.WV -/
def ARM_WEIGHT_WV (i : Nat) : Fld := ⟨0x2110c + 0x400 * i, 0, 8, 16⟩
/-- ARM.WEIGHT.WH -/
def ARM_WEIGHT_WH (i : Nat) : Fld := ⟨0x2110c + 0x400 * i, 8, 8, 8⟩
/-- ARM.WEIGHT.WT -/
def ARM_WEIGHT_WT (i : Nat) : Fld := ⟨0x2110c + 0x400 * i, 16, 8, 0⟩
/-- ARM.WEIGHT.WL -/
def ARM_WEIGHT_WL (i : Nat) : Fld := ⟨0x2110c + 0x400 * i, 24, 8, 0⟩
/-- ARM.SCORE.SHIFT -/
def ARM_SCORE_SHIFT (i : Nat) : Fld := ⟨0x21110 + 0x400 * i, 0, 4, 2⟩
/-- ARM.SIGCFG.SRC -/
def ARM_SIGCFG_SRC (i : Nat) : Fld := ⟨0x21114 + 0x400 * i, 0, 2, 0⟩
/-- ARM.SIGCFG.POL -/
def ARM_SIGCFG_POL (i : Nat) : Fld := ⟨0x21114 + 0x400 * i, 2, 1, 0⟩
/-- ARM.SIGCFG.CH -/
def ARM_SIGCFG_CH (i : Nat) : Fld := ⟨0x21114 + 0x400 * i, 4, 3, 0⟩
/-- ARM.SIGCFG.HYS -/
def ARM_SIGCFG_HYS (i : Nat) : Fld := ⟨0x21114 + 0x400 * i, 8, 8, 4⟩
/-- ARM.SIGCFG.DTH -/
def ARM_SIGCFG_DTH (i : Nat) : Fld := ⟨0x21114 + 0x400 * i, 16, 16, 8⟩
/-- ARM.POPMIN.N -/
def ARM_POPMIN_N (i : Nat) : Fld := ⟨0x21118 + 0x400 * i, 0, 11, 0⟩
/-- ARM.SELCFG.MODE -/
def ARM_SELCFG_MODE (i : Nat) : Fld := ⟨0x2111c + 0x400 * i, 0, 2, 0⟩
/-- ARM.SELCFG.SPAUTO -/
def ARM_SELCFG_SPAUTO (i : Nat) : Fld := ⟨0x2111c + 0x400 * i, 2, 1, 1⟩
/-- ARM.SELCFG.RELALL -/
def ARM_SELCFG_RELALL (i : Nat) : Fld := ⟨0x2111c + 0x400 * i, 3, 1, 1⟩
/-- ARM.SELCFG.FPKEEP -/
def ARM_SELCFG_FPKEEP (i : Nat) : Fld := ⟨0x2111c + 0x400 * i, 8, 8, 8⟩
/-- ARM.SELCFG.REOBS -/
def ARM_SELCFG_REOBS (i : Nat) : Fld := ⟨0x2111c + 0x400 * i, 16, 8, 4⟩
/-- ARM.SELCFG.MISMLIM -/
def ARM_SELCFG_MISMLIM (i : Nat) : Fld := ⟨0x2111c + 0x400 * i, 24, 8, 3⟩
/-- ARM.SELSTS.NSHORT -/
def ARM_SELSTS_NSHORT (i : Nat) : Fld := ⟨0x21120 + 0x400 * i, 0, 1, 0⟩
/-- ARM.SELSTS.CHGLIM -/
def ARM_SELSTS_CHGLIM (i : Nat) : Fld := ⟨0x21120 + 0x400 * i, 1, 1, 0⟩
/-- ARM.SELSTS.RELEASE -/
def ARM_SELSTS_RELEASE (i : Nat) : Fld := ⟨0x21120 + 0x400 * i, 2, 1, 0⟩
/-- ARM.SELSTS.BLOCKALL -/
def ARM_SELSTS_BLOCKALL (i : Nat) : Fld := ⟨0x21120 + 0x400 * i, 3, 1, 0⟩
/-- ARM.SELSTS.ENGERR -/
def ARM_SELSTS_ENGERR (i : Nat) : Fld := ⟨0x21120 + 0x400 * i, 4, 1, 0⟩
/-- ARM.SELSTS.STBY_WR -/
def ARM_SELSTS_STBY_WR (i : Nat) : Fld := ⟨0x21120 + 0x400 * i, 5, 1, 0⟩
/-- ARM.SELSTS.NCHG -/
def ARM_SELSTS_NCHG (i : Nat) : Fld := ⟨0x21120 + 0x400 * i, 16, 8, 0⟩
/-- ARM.SELSTS.NFORCED -/
def ARM_SELSTS_NFORCED (i : Nat) : Fld := ⟨0x21120 + 0x400 * i, 24, 8, 0⟩
/-- ARM.SIGMA.SIGMA -/
def ARM_SIGMA_SIGMA (i : Nat) : Fld := ⟨0x21124 + 0x400 * i, 0, 1, 1⟩
/-- ARM.SIGMA.SIGOWN -/
def ARM_SIGMA_SIGOWN (i : Nat) : Fld := ⟨0x21124 + 0x400 * i, 1, 1, 0⟩
/-- ARM.SIGMA.FLIP -/
def ARM_SIGMA_FLIP (i : Nat) : Fld := ⟨0x21124 + 0x400 * i, 2, 1, 0⟩
/-- ARM.DSUM.D -/
def ARM_DSUM_D (i : Nat) : Fld := ⟨0x21128 + 0x400 * i, 0, 32, 0⟩
/-- ARM.SELCNT.NSHORT -/
def ARM_SELCNT_NSHORT (i : Nat) : Fld := ⟨0x2112c + 0x400 * i, 0, 16, 0⟩
/-- ARM.SELCNT.CHGLIM -/
def ARM_SELCNT_CHGLIM (i : Nat) : Fld := ⟨0x2112c + 0x400 * i, 16, 16, 0⟩
/-- ARM.FPCELL.LOCAL -/
def ARM_FPCELL_LOCAL (i : Nat) : Fld := ⟨0x21130 + 0x400 * i, 0, 10, 0⟩
/-- ARM.FPCELL.VALID -/
def ARM_FPCELL_VALID (i : Nat) : Fld := ⟨0x21130 + 0x400 * i, 10, 1, 0⟩
/-- ARM.FPCELL.KEPT -/
def ARM_FPCELL_KEPT (i : Nat) : Fld := ⟨0x21130 + 0x400 * i, 16, 16, 0⟩
/-- ARM.POPCAUSE.POPLOW -/
def ARM_POPCAUSE_POPLOW (i : Nat) : Fld := ⟨0x21134 + 0x400 * i, 0, 1, 0⟩
/-- ARM.POPCAUSE.DROP -/
def ARM_POPCAUSE_DROP (i : Nat) : Fld := ⟨0x21134 + 0x400 * i, 1, 1, 0⟩
/-- ARM.POPCAUSE.PROMO -/
def ARM_POPCAUSE_PROMO (i : Nat) : Fld := ⟨0x21134 + 0x400 * i, 2, 1, 0⟩
/-- ARM.POPCAUSE.SPEXH -/
def ARM_POPCAUSE_SPEXH (i : Nat) : Fld := ⟨0x21134 + 0x400 * i, 3, 1, 0⟩
/-- ARM.POPCAUSE.MISM -/
def ARM_POPCAUSE_MISM (i : Nat) : Fld := ⟨0x21134 + 0x400 * i, 4, 1, 0⟩
/-- ARM.POPCAUSE.FLT -/
def ARM_POPCAUSE_FLT (i : Nat) : Fld := ⟨0x21134 + 0x400 * i, 5, 1, 0⟩
/-- ARM.CELLCNT.NXCL -/
def ARM_CELLCNT_NXCL (i : Nat) : Fld := ⟨0x21138 + 0x400 * i, 0, 11, 0⟩
/-- ARM.CELLCNT.NRATE -/
def ARM_CELLCNT_NRATE (i : Nat) : Fld := ⟨0x21138 + 0x400 * i, 16, 11, 0⟩
/-- ARM.AGG.VAL -/
def ARM_AGG_VAL (i : Nat) (j : Nat) : Fld := ⟨0x21140 + 0x400 * i + 0x4 * j, 0, 32, 0⟩
/-- CELL.CD_CFG.ARM -/
def CELL_CD_CFG_ARM (i : Nat) : Fld := ⟨0x200000 + 0x40 * i, 0, 4, 0⟩
/-- CELL.CD_CFG.ROLE -/
def CELL_CD_CFG_ROLE (i : Nat) : Fld := ⟨0x200000 + 0x40 * i, 4, 2, 0⟩
/-- CELL.CD_CFG.BMODE -/
def CELL_CD_CFG_BMODE (i : Nat) : Fld := ⟨0x200000 + 0x40 * i, 6, 1, 0⟩
/-- CELL.CD_CFG.CONF -/
def CELL_CD_CFG_CONF (i : Nat) : Fld := ⟨0x200000 + 0x40 * i, 7, 1, 0⟩
/-- CELL.CD_CFG.LANE -/
def CELL_CD_CFG_LANE (i : Nat) : Fld := ⟨0x200000 + 0x40 * i, 8, 7, 0⟩
/-- CELL.CD_CFG.HOP -/
def CELL_CD_CFG_HOP (i : Nat) : Fld := ⟨0x200000 + 0x40 * i, 16, 6, 0⟩
/-- CELL.CD_CFG.LOCAL -/
def CELL_CD_CFG_LOCAL (i : Nat) : Fld := ⟨0x200000 + 0x40 * i, 22, 10, 0⟩
/-- CELL.CD_STATE.STATE -/
def CELL_CD_STATE_STATE (i : Nat) : Fld := ⟨0x200004 + 0x40 * i, 0, 4, 0⟩
/-- CELL.CD_STATE.XCL -/
def CELL_CD_STATE_XCL (i : Nat) : Fld := ⟨0x200004 + 0x40 * i, 4, 1, 0⟩
/-- CELL.CD_STATE.RATING -/
def CELL_CD_STATE_RATING (i : Nat) : Fld := ⟨0x200004 + 0x40 * i, 5, 1, 0⟩
/-- CELL.CD_STATE.PROMO -/
def CELL_CD_STATE_PROMO (i : Nat) : Fld := ⟨0x200004 + 0x40 * i, 6, 1, 0⟩
/-- CELL.CD_STATE.FPC -/
def CELL_CD_STATE_FPC (i : Nat) : Fld := ⟨0x200004 + 0x40 * i, 7, 1, 0⟩
/-- CELL.CD_STATE.DWELL -/
def CELL_CD_STATE_DWELL (i : Nat) : Fld := ⟨0x200004 + 0x40 * i, 8, 1, 0⟩
/-- CELL.CD_STATE.TRLIM -/
def CELL_CD_STATE_TRLIM (i : Nat) : Fld := ⟨0x200004 + 0x40 * i, 9, 1, 0⟩
/-- CELL.CD_STATE.MISM -/
def CELL_CD_STATE_MISM (i : Nat) : Fld := ⟨0x200004 + 0x40 * i, 10, 1, 0⟩
/-- CELL.CD_STATE.FLTREP -/
def CELL_CD_STATE_FLTREP (i : Nat) : Fld := ⟨0x200004 + 0x40 * i, 11, 1, 0⟩
/-- CELL.CD_STATE.MISS -/
def CELL_CD_STATE_MISS (i : Nat) : Fld := ⟨0x200004 + 0x40 * i, 12, 4, 0⟩
/-- CELL.CD_STATE.DWC -/
def CELL_CD_STATE_DWC (i : Nat) : Fld := ⟨0x200004 + 0x40 * i, 16, 8, 0⟩
/-- CELL.CD_STATE.MISMC -/
def CELL_CD_STATE_MISMC (i : Nat) : Fld := ⟨0x200004 + 0x40 * i, 24, 8, 0⟩
/-- CELL.CD_MEAS.VCAP -/
def CELL_CD_MEAS_VCAP (i : Nat) : Fld := ⟨0x200008 + 0x40 * i, 0, 16, 0⟩
/-- CELL.CD_MEAS.TEMP -/
def CELL_CD_MEAS_TEMP (i : Nat) : Fld := ⟨0x200008 + 0x40 * i, 16, 8, 0⟩
/-- CELL.CD_MEAS.STAT -/
def CELL_CD_MEAS_STAT (i : Nat) : Fld := ⟨0x200008 + 0x40 * i, 24, 8, 0⟩
/-- CELL.CD_RANK.RANK -/
def CELL_CD_RANK_RANK (i : Nat) : Fld := ⟨0x20000c + 0x40 * i, 0, 10, 0⟩
/-- CELL.CD_RANK.UNRANKED -/
def CELL_CD_RANK_UNRANKED (i : Nat) : Fld := ⟨0x20000c + 0x40 * i, 10, 1, 1⟩
/-- CELL.CD_RANK.SCORE -/
def CELL_CD_RANK_SCORE (i : Nat) : Fld := ⟨0x20000c + 0x40 * i, 16, 16, 0⟩
/-- CELL.CD_SW.WCNT -/
def CELL_CD_SW_WCNT (i : Nat) : Fld := ⟨0x200018 + 0x40 * i, 0, 16, 0⟩

/-! The registers of spec/07_insertion_timing.md. -/

/-- INS.STS.SHORT -/
def INS_STS_SHORT : Fld := ⟨0x140000, 0, 1, 0⟩
/-- INS.STS.HOSTIGN -/
def INS_STS_HOSTIGN : Fld := ⟨0x140000, 1, 1, 0⟩
/-- INS.CTL.CNTCLR -/
def INS_CTL_CNTCLR : Fld := ⟨0x140004, 0, 1, 0⟩
/-- INS.FP.CFG.SRC -/
def INS_FP_CFG_SRC (i : Nat) : Fld := ⟨0x140100 + 0x40 * i, 0, 1, 0⟩
/-- INS.FP.CFG.ALIGN -/
def INS_FP_CFG_ALIGN (i : Nat) : Fld := ⟨0x140100 + 0x40 * i, 1, 2, 1⟩
/-- INS.FP.CFG.UPD -/
def INS_FP_CFG_UPD (i : Nat) : Fld := ⟨0x140100 + 0x40 * i, 3, 2, 0⟩
/-- INS.FP.CFG.MODE -/
def INS_FP_CFG_MODE (i : Nat) : Fld := ⟨0x140100 + 0x40 * i, 5, 1, 0⟩
/-- INS.FP.CTL.COMMIT -/
def INS_FP_CTL_COMMIT (i : Nat) : Fld := ⟨0x140104 + 0x40 * i, 0, 1, 0⟩
/-- INS.FP.STS.PENDING -/
def INS_FP_STS_PENDING (i : Nat) : Fld := ⟨0x140108 + 0x40 * i, 0, 1, 0⟩
/-- INS.FP.STS.CREFUSED -/
def INS_FP_STS_CREFUSED (i : Nat) : Fld := ⟨0x140108 + 0x40 * i, 1, 1, 0⟩
/-- INS.FP.STS.PAIR_SKEW -/
def INS_FP_STS_PAIR_SKEW (i : Nat) : Fld := ⟨0x140108 + 0x40 * i, 2, 1, 0⟩
/-- INS.FP.STS.BADPER -/
def INS_FP_STS_BADPER (i : Nat) : Fld := ⟨0x140108 + 0x40 * i, 3, 1, 0⟩
/-- INS.FP.STS.STBY_WR -/
def INS_FP_STS_STBY_WR (i : Nat) : Fld := ⟨0x140108 + 0x40 * i, 4, 1, 0⟩
/-- INS.FP.PER.NS -/
def INS_FP_PER_NS (i : Nat) : Fld := ⟨0x14010c + 0x40 * i, 0, 17, 10000⟩
/-- INS.FP.DUTY.DUTY -/
def INS_FP_DUTY_DUTY (i : Nat) : Fld := ⟨0x140110 + 0x40 * i, 0, 16, 0⟩
/-- INS.FP.CMP.VAL -/
def INS_FP_CMP_VAL (i : Nat) (j : Nat) : Fld := ⟨0x140114 + 0x40 * i + 0x4 * j, 0, 17, 0⟩
/-- INS.FP.CMP.CMODE -/
def INS_FP_CMP_CMODE (i : Nat) (j : Nat) : Fld := ⟨0x140114 + 0x40 * i + 0x4 * j, 17, 2, 0⟩
/-- ARM.EDGE.SW -/
def ARM_EDGE_SW (i : Nat) : Fld := ⟨0x21180 + 0x400 * i, 0, 13, 2000⟩
/-- ARM.EDGE.ORD -/
def ARM_EDGE_ORD (i : Nat) : Fld := ⟨0x21180 + 0x400 * i, 13, 1, 1⟩
/-- ARM.EDGE.T0 -/
def ARM_EDGE_T0 (i : Nat) : Fld := ⟨0x21180 + 0x400 * i, 14, 17, 0⟩
/-- ARM.E0.E0 -/
def ARM_E0_E0 (i : Nat) : Fld := ⟨0x21184 + 0x400 * i, 0, 20, 0⟩
/-- ARM.E0.SWEFF -/
def ARM_E0_SWEFF (i : Nat) : Fld := ⟨0x21184 + 0x400 * i, 20, 12, 0⟩
/-- ARM.DLVT.CRT -/
def ARM_DLVT_CRT (i : Nat) : Fld := ⟨0x21188 + 0x400 * i, 0, 20, 0⟩
/-- ARM.DLVT.LOWPEND -/
def ARM_DLVT_LOWPEND (i : Nat) : Fld := ⟨0x21188 + 0x400 * i, 20, 1, 0⟩
/-- ARM.DEADT.NS -/
def ARM_DEADT_NS (i : Nat) : Fld := ⟨0x2118c + 0x400 * i, 0, 14, 2000⟩
/-- ARM.MINPULSE.NS -/
def ARM_MINPULSE_NS (i : Nat) : Fld := ⟨0x21190 + 0x400 * i, 0, 12, 200⟩
/-- ARM.MINPULSE.POLICY -/
def ARM_MINPULSE_POLICY (i : Nat) : Fld := ⟨0x21190 + 0x400 * i, 16, 1, 0⟩
/-- ARM.INSSTS.SHORT -/
def ARM_INSSTS_SHORT (i : Nat) : Fld := ⟨0x21194 + 0x400 * i, 0, 1, 0⟩
/-- ARM.INSSTS.SUPPR -/
def ARM_INSSTS_SUPPR (i : Nat) : Fld := ⟨0x21194 + 0x400 * i, 1, 1, 0⟩
/-- ARM.INSSTS.STRETCHED -/
def ARM_INSSTS_STRETCHED (i : Nat) : Fld := ⟨0x21194 + 0x400 * i, 2, 1, 0⟩
/-- ARM.INSSTS.GUARD -/
def ARM_INSSTS_GUARD (i : Nat) : Fld := ⟨0x21194 + 0x400 * i, 3, 1, 0⟩
/-- ARM.INSSTS.SWCLIP -/
def ARM_INSSTS_SWCLIP (i : Nat) : Fld := ⟨0x21194 + 0x400 * i, 4, 1, 0⟩
/-- ARM.INSSTS.TIGHT -/
def ARM_INSSTS_TIGHT (i : Nat) : Fld := ⟨0x21194 + 0x400 * i, 5, 1, 0⟩
/-- ARM.INSSTS.STBY_WR -/
def ARM_INSSTS_STBY_WR (i : Nat) : Fld := ⟨0x21194 + 0x400 * i, 6, 1, 0⟩
/-- ARM.INSCNT.SHORT -/
def ARM_INSCNT_SHORT (i : Nat) : Fld := ⟨0x21198 + 0x400 * i, 0, 16, 0⟩
/-- ARM.INSCNT.GUARD -/
def ARM_INSCNT_GUARD (i : Nat) : Fld := ⟨0x21198 + 0x400 * i, 16, 16, 0⟩
/-- ARM.FPLAST.CRT -/
def ARM_FPLAST_CRT (i : Nat) : Fld := ⟨0x2119c + 0x400 * i, 0, 20, 0⟩
/-- ARM.FPLAST.UNIT -/
def ARM_FPLAST_UNIT (i : Nat) : Fld := ⟨0x2119c + 0x400 * i, 20, 1, 0⟩
/-- ARM.FPLAST.NONE -/
def ARM_FPLAST_NONE (i : Nat) : Fld := ⟨0x2119c + 0x400 * i, 21, 1, 1⟩
/-- ARM.FPW.NS -/
def ARM_FPW_NS (i : Nat) : Fld := ⟨0x211a0 + 0x400 * i, 0, 17, 0⟩
/-- CELL.CD_LAST.CMD -/
def CELL_CD_LAST_CMD (i : Nat) : Fld := ⟨0x20001c + 0x40 * i, 0, 4, 0⟩
/-- CELL.CD_LAST.SEQ -/
def CELL_CD_LAST_SEQ (i : Nat) : Fld := ⟨0x20001c + 0x40 * i, 4, 4, 0⟩
/-- CELL.CD_LAST.CRT -/
def CELL_CD_LAST_CRT (i : Nat) : Fld := ⟨0x20001c + 0x40 * i, 8, 20, 0⟩

/-! The registers of spec/08_spaone_physical.md. -/

/-- CL.CFG.GEN -/
def CL_CFG_GEN (i : Nat) : Fld := ⟨0x180000 + 0x100 * i, 0, 2, 0⟩
/-- CL.CFG.USED -/
def CL_CFG_USED (i : Nat) : Fld := ⟨0x180000 + 0x100 * i, 2, 1, 0⟩
/-- CL.CFG.END -/
def CL_CFG_END (i : Nat) : Fld := ⟨0x180000 + 0x100 * i, 3, 1, 0⟩
/-- CL.CFG.ARM -/
def CL_CFG_ARM (i : Nat) : Fld := ⟨0x180000 + 0x100 * i, 4, 4, 0⟩
/-- CL.CFG.HOPS -/
def CL_CFG_HOPS (i : Nat) : Fld := ⟨0x180000 + 0x100 * i, 8, 7, 0⟩
/-- CL.CFG.RING -/
def CL_CFG_RING (i : Nat) : Fld := ⟨0x180000 + 0x100 * i, 16, 8, 255⟩
/-- CL.CFG.BURST -/
def CL_CFG_BURST (i : Nat) : Fld := ⟨0x180000 + 0x100 * i, 24, 8, 0⟩
/-- CL.CTL.GAPIDLE -/
def CL_CTL_GAPIDLE (i : Nat) : Fld := ⟨0x180004 + 0x100 * i, 0, 1, 0⟩
/-- CL.CTL.RETRAIN -/
def CL_CTL_RETRAIN (i : Nat) : Fld := ⟨0x180004 + 0x100 * i, 1, 1, 0⟩
/-- CL.CTL.GICLR -/
def CL_CTL_GICLR (i : Nat) : Fld := ⟨0x180004 + 0x100 * i, 2, 1, 0⟩
/-- CL.CTL.CNTCLR -/
def CL_CTL_CNTCLR (i : Nat) : Fld := ⟨0x180004 + 0x100 * i, 3, 1, 0⟩
/-- CL.STS.STATE -/
def CL_STS_STATE (i : Nat) : Fld := ⟨0x180008 + 0x100 * i, 0, 4, 0⟩
/-- CL.STS.RXLOCK -/
def CL_STS_RXLOCK (i : Nat) : Fld := ⟨0x180008 + 0x100 * i, 4, 1, 0⟩
/-- CL.STS.SIGDET -/
def CL_STS_SIGDET (i : Nat) : Fld := ⟨0x180008 + 0x100 * i, 5, 1, 0⟩
/-- CL.STS.GAP -/
def CL_STS_GAP (i : Nat) : Fld := ⟨0x180008 + 0x100 * i, 6, 1, 0⟩
/-- CL.STS.GIOFF -/
def CL_STS_GIOFF (i : Nat) : Fld := ⟨0x180008 + 0x100 * i, 7, 1, 0⟩
/-- CL.STS.HOPSEEN -/
def CL_STS_HOPSEEN (i : Nat) : Fld := ⟨0x180008 + 0x100 * i, 8, 7, 0⟩
/-- CL.STS.ATTEMPTS -/
def CL_STS_ATTEMPTS (i : Nat) : Fld := ⟨0x180008 + 0x100 * i, 16, 8, 0⟩
/-- CL.CAUSE.LOS -/
def CL_CAUSE_LOS (i : Nat) : Fld := ⟨0x18000c + 0x100 * i, 0, 1, 0⟩
/-- CL.CAUSE.LOCK -/
def CL_CAUSE_LOCK (i : Nat) : Fld := ⟨0x18000c + 0x100 * i, 1, 1, 0⟩
/-- CL.CAUSE.TRAIN -/
def CL_CAUSE_TRAIN (i : Nat) : Fld := ⟨0x18000c + 0x100 * i, 2, 1, 0⟩
/-- CL.CAUSE.HOPS -/
def CL_CAUSE_HOPS (i : Nat) : Fld := ⟨0x18000c + 0x100 * i, 3, 1, 0⟩
/-- CL.CAUSE.DMFAIL -/
def CL_CAUSE_DMFAIL (i : Nat) : Fld := ⟨0x18000c + 0x100 * i, 4, 1, 0⟩
/-- CL.CAUSE.DRIFT -/
def CL_CAUSE_DRIFT (i : Nat) : Fld := ⟨0x18000c + 0x100 * i, 5, 1, 0⟩
/-- CL.CAUSE.FEXIT -/
def CL_CAUSE_FEXIT (i : Nat) : Fld := ⟨0x18000c + 0x100 * i, 6, 1, 0⟩
/-- CL.CAUSE.CODE -/
def CL_CAUSE_CODE (i : Nat) : Fld := ⟨0x18000c + 0x100 * i, 7, 1, 0⟩
/-- CL.TRCFG.IDLEMS -/
def CL_TRCFG_IDLEMS (i : Nat) : Fld := ⟨0x180010 + 0x100 * i, 0, 8, 20⟩
/-- CL.TRCFG.TMOMS -/
def CL_TRCFG_TMOMS (i : Nat) : Fld := ⟨0x180010 + 0x100 * i, 8, 8, 40⟩
/-- CL.TRCFG.RETRYMS -/
def CL_TRCFG_RETRYMS (i : Nat) : Fld := ⟨0x180010 + 0x100 * i, 16, 8, 10⟩
/-- CL.TRCFG.RXWAIT -/
def CL_TRCFG_RXWAIT (i : Nat) : Fld := ⟨0x180010 + 0x100 * i, 24, 7, 16⟩
/-- CL.TRCFG.AUTORT -/
def CL_TRCFG_AUTORT (i : Nat) : Fld := ⟨0x180010 + 0x100 * i, 31, 1, 1⟩
/-- CL.DMCFG.EN -/
def CL_DMCFG_EN (i : Nat) : Fld := ⟨0x180014 + 0x100 * i, 0, 1, 1⟩
/-- CL.DMCFG.UPDTH -/
def CL_DMCFG_UPDTH (i : Nat) : Fld := ⟨0x180014 + 0x100 * i, 8, 8, 5⟩
/-- CL.DMCFG.PERIOD -/
def CL_DMCFG_PERIOD (i : Nat) : Fld := ⟨0x180014 + 0x100 * i, 16, 16, 100⟩
/-- CL.DRIFT.DRIFTTH -/
def CL_DRIFT_DRIFTTH (i : Nat) : Fld := ⟨0x180018 + 0x100 * i, 0, 16, 100⟩
/-- CL.ASYM.A -/
def CL_ASYM_A (i : Nat) : Fld := ⟨0x18001c + 0x100 * i, 0, 16, 0⟩
/-- CL.PHY.SWING -/
def CL_PHY_SWING (i : Nat) : Fld := ⟨0x180020 + 0x100 * i, 0, 4, 6⟩
/-- CL.PHY.DEEMPH -/
def CL_PHY_DEEMPH (i : Nat) : Fld := ⟨0x180020 + 0x100 * i, 4, 3, 1⟩
/-- CL.PHY.CTLE -/
def CL_PHY_CTLE (i : Nat) : Fld := ⟨0x180020 + 0x100 * i, 8, 4, 4⟩
/-- CL.ERR0.CV -/
def CL_ERR0_CV (i : Nat) : Fld := ⟨0x180024 + 0x100 * i, 0, 16, 0⟩
/-- CL.ERR0.DISP -/
def CL_ERR0_DISP (i : Nat) : Fld := ⟨0x180024 + 0x100 * i, 16, 16, 0⟩
/-- CL.ERR1.SLOTCRC -/
def CL_ERR1_SLOTCRC (i : Nat) : Fld := ⟨0x180028 + 0x100 * i, 0, 16, 0⟩
/-- CL.ERR1.FRMCRC -/
def CL_ERR1_FRMCRC (i : Nat) : Fld := ⟨0x180028 + 0x100 * i, 16, 16, 0⟩
/-- CL.ERR2.XTRA -/
def CL_ERR2_XTRA (i : Nat) : Fld := ⟨0x18002c + 0x100 * i, 0, 16, 0⟩
/-- CL.ERR2.DMERR -/
def CL_ERR2_DMERR (i : Nat) : Fld := ⟨0x18002c + 0x100 * i, 16, 16, 0⟩
/-- CL.ERR3.LOCKLOSS -/
def CL_ERR3_LOCKLOSS (i : Nat) : Fld := ⟨0x180030 + 0x100 * i, 0, 16, 0⟩
/-- CL.ERR3.TRAINS -/
def CL_ERR3_TRAINS (i : Nat) : Fld := ⟨0x180030 + 0x100 * i, 16, 16, 0⟩
/-- CL.DMSTS.NEXT -/
def CL_DMSTS_NEXT (i : Nat) : Fld := ⟨0x180034 + 0x100 * i, 0, 6, 0⟩
/-- CL.DMSTS.SKIP -/
def CL_DMSTS_SKIP (i : Nat) : Fld := ⟨0x180034 + 0x100 * i, 16, 16, 0⟩
/-- CL.HSEL.HOP -/
def CL_HSEL_HOP (i : Nat) : Fld := ⟨0x180038 + 0x100 * i, 0, 6, 0⟩
/-- CL.HCOMP.T -/
def CL_HCOMP_T (i : Nat) : Fld := ⟨0x18003c + 0x100 * i, 0, 20, 0⟩
/-- CL.HCOMP.NONE -/
def CL_HCOMP_NONE (i : Nat) : Fld := ⟨0x18003c + 0x100 * i, 31, 1, 1⟩
/-- CL.HRT.T -/
def CL_HRT_T (i : Nat) : Fld := ⟨0x180040 + 0x100 * i, 0, 20, 0⟩
/-- CL.HRT.NONE -/
def CL_HRT_NONE (i : Nat) : Fld := ⟨0x180040 + 0x100 * i, 31, 1, 1⟩
/-- CL.HREP.TLB -/
def CL_HREP_TLB (i : Nat) : Fld := ⟨0x180044 + 0x100 * i, 0, 16, 0⟩
/-- CL.HREP.RA -/
def CL_HREP_RA (i : Nat) : Fld := ⟨0x180044 + 0x100 * i, 16, 8, 0⟩
/-- CL.LOCKMAP.LOCKED -/
def CL_LOCKMAP_LOCKED (i : Nat) : Fld := ⟨0x188000 + 0x4 * i, 0, 32, 0⟩

/-! The registers of spec/09_spaone_frames.md. -/

/-- CL.FCFG.AUXSEL -/
def CL_FCFG_AUXSEL (i : Nat) : Fld := ⟨0x180048 + 0x100 * i, 0, 8, 0⟩
/-- CL.FSTS.LAST -/
def CL_FSTS_LAST (i : Nat) : Fld := ⟨0x18004c + 0x100 * i, 0, 6, 0⟩
/-- CL.FSTS.BREAK -/
def CL_FSTS_BREAK (i : Nat) : Fld := ⟨0x18004c + 0x100 * i, 6, 1, 0⟩
/-- CL.FSTS.ULOK -/
def CL_FSTS_ULOK (i : Nat) : Fld := ⟨0x18004c + 0x100 * i, 7, 1, 0⟩
/-- CL.FSTS.SERVED -/
def CL_FSTS_SERVED (i : Nat) : Fld := ⟨0x18004c + 0x100 * i, 8, 7, 0⟩
/-- CL.FSTS.TAG -/
def CL_FSTS_TAG (i : Nat) : Fld := ⟨0x18004c + 0x100 * i, 16, 4, 0⟩
/-- CL.FSTS.PBUSY -/
def CL_FSTS_PBUSY (i : Nat) : Fld := ⟨0x18004c + 0x100 * i, 20, 1, 0⟩
/-- CL.ERR4.HDRERR -/
def CL_ERR4_HDRERR (i : Nat) : Fld := ⟨0x180050 + 0x100 * i, 0, 16, 0⟩
/-- CL.ERR4.VINV -/
def CL_ERR4_VINV (i : Nat) : Fld := ⟨0x180050 + 0x100 * i, 16, 16, 0⟩
/-- CL.ERR5.ECHOERR -/
def CL_ERR5_ECHOERR (i : Nat) : Fld := ⟨0x180054 + 0x100 * i, 0, 16, 0⟩
/-- CL.ERR5.PTMO -/
def CL_ERR5_PTMO (i : Nat) : Fld := ⟨0x180054 + 0x100 * i, 16, 16, 0⟩
/-- CL.ENUM.DONE -/
def CL_ENUM_DONE (i : Nat) : Fld := ⟨0x180058 + 0x100 * i, 0, 7, 0⟩
/-- CL.ENUM.BUSY -/
def CL_ENUM_BUSY (i : Nat) : Fld := ⟨0x180058 + 0x100 * i, 7, 1, 0⟩
/-- CL.ENUM.FAIL -/
def CL_ENUM_FAIL (i : Nat) : Fld := ⟨0x180058 + 0x100 * i, 8, 7, 0⟩
/-- CL.ENUM.NEWID -/
def CL_ENUM_NEWID (i : Nat) : Fld := ⟨0x180058 + 0x100 * i, 16, 7, 0⟩
/-- CL.RINGSTS.MODE -/
def CL_RINGSTS_MODE (i : Nat) : Fld := ⟨0x18005c + 0x100 * i, 0, 2, 0⟩
/-- CL.RINGSTS.SPLIT -/
def CL_RINGSTS_SPLIT (i : Nat) : Fld := ⟨0x18005c + 0x100 * i, 8, 7, 127⟩
/-- CL.RINGSTS.SWCNT -/
def CL_RINGSTS_SWCNT (i : Nat) : Fld := ⟨0x18005c + 0x100 * i, 16, 16, 0⟩
/-- CL.PQREQ0.LANE -/
def CL_PQREQ0_LANE : Fld := ⟨0x189000, 0, 7, 0⟩
/-- CL.PQREQ0.HOP -/
def CL_PQREQ0_HOP : Fld := ⟨0x189000, 8, 6, 0⟩
/-- CL.PQREQ0.OP -/
def CL_PQREQ0_OP : Fld := ⟨0x189000, 16, 3, 0⟩
/-- CL.PQREQ0.REG -/
def CL_PQREQ0_REG : Fld := ⟨0x189000, 20, 11, 0⟩
/-- CL.PQREQ1.DATA -/
def CL_PQREQ1_DATA : Fld := ⟨0x189004, 0, 32, 0⟩
/-- CL.PQCTL.SUBMIT -/
def CL_PQCTL_SUBMIT : Fld := ⟨0x189008, 0, 1, 0⟩
/-- CL.PQCTL.POP -/
def CL_PQCTL_POP : Fld := ⟨0x189008, 1, 1, 0⟩
/-- CL.PQCTL.FLUSH -/
def CL_PQCTL_FLUSH : Fld := ⟨0x189008, 2, 1, 0⟩
/-- CL.PQSTS.WAIT -/
def CL_PQSTS_WAIT : Fld := ⟨0x18900c, 0, 5, 0⟩
/-- CL.PQSTS.RCOUNT -/
def CL_PQSTS_RCOUNT : Fld := ⟨0x18900c, 5, 5, 0⟩
/-- CL.PQSTS.OVF -/
def CL_PQSTS_OVF : Fld := ⟨0x18900c, 10, 1, 0⟩
/-- CL.PQRES0.LANE -/
def CL_PQRES0_LANE : Fld := ⟨0x189010, 0, 7, 0⟩
/-- CL.PQRES0.HOP -/
def CL_PQRES0_HOP : Fld := ⟨0x189010, 8, 6, 0⟩
/-- CL.PQRES0.OP -/
def CL_PQRES0_OP : Fld := ⟨0x189010, 16, 3, 0⟩
/-- CL.PQRES0.TAG -/
def CL_PQRES0_TAG : Fld := ⟨0x189010, 20, 4, 0⟩
/-- CL.PQRES0.RESULT -/
def CL_PQRES0_RESULT : Fld := ⟨0x189010, 24, 4, 0⟩
/-- CL.PQRES0.SRC -/
def CL_PQRES0_SRC : Fld := ⟨0x189010, 28, 2, 0⟩
/-- CL.PQRES1.DATA -/
def CL_PQRES1_DATA : Fld := ⟨0x189014, 0, 32, 0⟩
/-- CL.PQRES2.ERR -/
def CL_PQRES2_ERR : Fld := ⟨0x189018, 0, 8, 0⟩
/-- CL.PQRES2.TRIES -/
def CL_PQRES2_TRIES : Fld := ⟨0x189018, 8, 8, 0⟩
/-- CL.PQRES2.CYCLES -/
def CL_PQRES2_CYCLES : Fld := ⟨0x189018, 16, 16, 0⟩
/-- CL.PQCFG.RETRY -/
def CL_PQCFG_RETRY : Fld := ⟨0x18901c, 0, 4, 3⟩
/-- CL.PQCFG.BUSYMAX -/
def CL_PQCFG_BUSYMAX : Fld := ⟨0x18901c, 16, 16, 1000⟩

/-! The registers of spec/10_cell_records.md. -/

/-- TLY.CTL.CKPT -/
def TLY_CTL_CKPT : Fld := ⟨0x280000, 0, 1, 0⟩
/-- TLY.CTL.LTRIG -/
def TLY_CTL_LTRIG : Fld := ⟨0x280000, 1, 1, 0⟩
/-- TLY.CTL.LRELEASE -/
def TLY_CTL_LRELEASE : Fld := ⟨0x280000, 2, 1, 0⟩
/-- TLY.CTL.EXTRACT -/
def TLY_CTL_EXTRACT : Fld := ⟨0x280000, 3, 1, 0⟩
/-- TLY.CTL.RESUME -/
def TLY_CTL_RESUME : Fld := ⟨0x280000, 4, 1, 1⟩
/-- TLY.STS.TLOAD -/
def TLY_STS_TLOAD : Fld := ⟨0x280004, 0, 1, 0⟩
/-- TLY.STS.CKBUSY -/
def TLY_STS_CKBUSY : Fld := ⟨0x280004, 1, 1, 0⟩
/-- TLY.STS.XBUSY -/
def TLY_STS_XBUSY : Fld := ⟨0x280004, 2, 1, 0⟩
/-- TLY.STS.PINIT -/
def TLY_STS_PINIT : Fld := ⟨0x280004, 3, 1, 0⟩
/-- TLY.STS.NOCKPT -/
def TLY_STS_NOCKPT : Fld := ⟨0x280004, 4, 1, 0⟩
/-- TLY.CKPT.PERMIN -/
def TLY_CKPT_PERMIN : Fld := ⟨0x280008, 0, 11, 60⟩
/-- TLY.CKSEQ.VAL -/
def TLY_CKSEQ_VAL : Fld := ⟨0x28000c, 0, 32, 0⟩
/-- TLY.CKT_LO.VAL -/
def TLY_CKT_LO_VAL : Fld := ⟨0x280010, 0, 32, 0⟩
/-- TLY.CKT_HI.VAL -/
def TLY_CKT_HI_VAL : Fld := ⟨0x280014, 0, 32, 0⟩
/-- TLY.CKCNT.POSTPONE -/
def TLY_CKCNT_POSTPONE : Fld := ⟨0x280018, 0, 16, 0⟩
/-- TLY.CKCNT.FAIL -/
def TLY_CKCNT_FAIL : Fld := ⟨0x280018, 16, 16, 0⟩
/-- TLY.RF.HYST -/
def TLY_RF_HYST : Fld := ⟨0x28001c, 0, 4, 3⟩
/-- TLY.RF.BINW -/
def TLY_RF_BINW : Fld := ⟨0x28001c, 8, 4, 5⟩
/-- TLY.CAPCFG.QMIN -/
def TLY_CAPCFG_QMIN : Fld := ⟨0x280020, 0, 16, 2000⟩
/-- TLY.CAPCFG.WINLOG2 -/
def TLY_CAPCFG_WINLOG2 : Fld := ⟨0x280020, 16, 5, 20⟩
/-- TLY.LIFECFG.WARN -/
def TLY_LIFECFG_WARN : Fld := ⟨0x280024, 0, 10, 900⟩
/-- TLY.LIFEAPPLY.CYC -/
def TLY_LIFEAPPLY_CYC : Fld := ⟨0x280028, 0, 32, 0⟩
/-- TLY.ARCH.COUNT -/
def TLY_ARCH_COUNT : Fld := ⟨0x28002c, 0, 18, 0⟩
/-- TLY.ARCH.WRAP -/
def TLY_ARCH_WRAP : Fld := ⟨0x28002c, 18, 1, 0⟩
/-- TLY.REPL.NEW -/
def TLY_REPL_NEW : Fld := ⟨0x280030, 0, 8, 0⟩
/-- TLY.REPL.REPLACED -/
def TLY_REPL_REPLACED : Fld := ⟨0x280030, 8, 8, 0⟩
/-- TLY.REPL.MOVED -/
def TLY_REPL_MOVED : Fld := ⟨0x280030, 16, 8, 0⟩
/-- TLY.REPL.RESUMED -/
def TLY_REPL_RESUMED : Fld := ⟨0x280030, 24, 8, 0⟩
/-- TLY.LCFG.EN -/
def TLY_LCFG_EN : Fld := ⟨0x280040, 0, 1, 1⟩
/-- TLY.LCFG.PRE -/
def TLY_LCFG_PRE : Fld := ⟨0x280040, 4, 4, 8⟩
/-- TLY.LCFG.TRIGEN -/
def TLY_LCFG_TRIGEN : Fld := ⟨0x280040, 16, 11, 62⟩
/-- TLY.LTRIG.SEV -/
def TLY_LTRIG_SEV : Fld := ⟨0x280044, 0, 3, 4⟩
/-- TLY.LTRIG.LWC -/
def TLY_LTRIG_LWC : Fld := ⟨0x280044, 8, 8, 0⟩
/-- TLY.LTRIG.FPSEL_N -/
def TLY_LTRIG_FPSEL_N : Fld := ⟨0x280044, 16, 4, 0⟩
/-- TLY.LTRIG.FPSEL_J -/
def TLY_LTRIG_FPSEL_J : Fld := ⟨0x280044, 20, 2, 0⟩
/-- TLY.LSTS.STATE -/
def TLY_LSTS_STATE : Fld := ⟨0x280048, 0, 3, 0⟩
/-- TLY.LSTS.SHORTPRE -/
def TLY_LSTS_SHORTPRE : Fld := ⟨0x280048, 3, 1, 0⟩
/-- TLY.LSTS.DROP -/
def TLY_LSTS_DROP : Fld := ⟨0x280048, 4, 1, 0⟩
/-- TLY.LSTS.RELREF -/
def TLY_LSTS_RELREF : Fld := ⟨0x280048, 5, 1, 0⟩
/-- TLY.LSTS.EXTRA -/
def TLY_LSTS_EXTRA : Fld := ⟨0x280048, 16, 16, 0⟩
/-- TLY.LTSRC.SRC -/
def TLY_LTSRC_SRC : Fld := ⟨0x28004c, 0, 11, 0⟩
/-- TLY.LCAP.VAL -/
def TLY_LCAP_VAL : Fld := ⟨0x280050, 0, 32, 0⟩
/-- TLY.LRECSZ.VAL -/
def TLY_LRECSZ_VAL : Fld := ⟨0x280054, 0, 32, 0⟩
/-- TLY.LHEAD.VAL -/
def TLY_LHEAD_VAL : Fld := ⟨0x280058, 0, 32, 0⟩
/-- TLY.LTREC.VAL -/
def TLY_LTREC_VAL : Fld := ⟨0x28005c, 0, 32, 0⟩
/-- TLY.LOLDEST.VAL -/
def TLY_LOLDEST_VAL : Fld := ⟨0x280060, 0, 32, 0⟩
/-- TLY.LNUM.VAL -/
def TLY_LNUM_VAL : Fld := ⟨0x280064, 0, 32, 0⟩
/-- TLY.LTCYC.VAL -/
def TLY_LTCYC_VAL : Fld := ⟨0x280068, 0, 32, 0⟩
/-- TLY.LTT_LO.VAL -/
def TLY_LTT_LO_VAL : Fld := ⟨0x28006c, 0, 32, 0⟩
/-- TLY.LTT_HI.VAL -/
def TLY_LTT_HI_VAL : Fld := ⟨0x280070, 0, 32, 0⟩
/-- TLY.LDROPCNT.VAL -/
def TLY_LDROPCNT_VAL : Fld := ⟨0x280074, 0, 32, 0⟩
/-- TLY.XCFG0.PRE -/
def TLY_XCFG0_PRE : Fld := ⟨0x280080, 0, 16, 500⟩
/-- TLY.XCFG0.POST -/
def TLY_XCFG0_POST : Fld := ⟨0x280080, 16, 16, 2000⟩
/-- TLY.XCFG1.ARMMASK -/
def TLY_XCFG1_ARMMASK : Fld := ⟨0x280084, 0, 12, 4095⟩
/-- TLY.XCFG1.AUTO -/
def TLY_XCFG1_AUTO : Fld := ⟨0x280084, 12, 1, 1⟩
/-- TLY.XCFG1.CELLS -/
def TLY_XCFG1_CELLS : Fld := ⟨0x280084, 13, 1, 1⟩
/-- TLY.XSTS.DONE -/
def TLY_XSTS_DONE : Fld := ⟨0x280088, 0, 1, 0⟩
/-- TLY.XSTS.TRUNC -/
def TLY_XSTS_TRUNC : Fld := ⟨0x280088, 1, 1, 0⟩
/-- TLY.XSTS.FAIL -/
def TLY_XSTS_FAIL : Fld := ⟨0x280088, 2, 1, 0⟩
/-- TLY.XSTS.POSTPONED -/
def TLY_XSTS_POSTPONED : Fld := ⟨0x280088, 16, 16, 0⟩
/-- TLY.ECCCE.VAL -/
def TLY_ECCCE_VAL : Fld := ⟨0x280090, 0, 32, 0⟩
/-- TLY.ECCUE.VAL -/
def TLY_ECCUE_VAL : Fld := ⟨0x280094, 0, 32, 0⟩
/-- TLY.UEADR_LO.VAL -/
def TLY_UEADR_LO_VAL : Fld := ⟨0x280098, 0, 32, 0⟩
/-- TLY.UEADR_HI.VAL -/
def TLY_UEADR_HI_VAL : Fld := ⟨0x28009c, 0, 32, 0⟩
/-- TLY.ECCCFG.CETHR -/
def TLY_ECCCFG_CETHR : Fld := ⟨0x2800a0, 0, 8, 16⟩
/-- TLY.ECCCFG.SCRUBH -/
def TLY_ECCCFG_SCRUBH : Fld := ⟨0x2800a0, 8, 8, 24⟩
/-- TLY.SCRUBSTS.PROG -/
def TLY_SCRUBSTS_PROG : Fld := ⟨0x2800a4, 0, 10, 0⟩
/-- TLY.SCRUBSTS.PASSES -/
def TLY_SCRUBSTS_PASSES : Fld := ⟨0x2800a4, 16, 16, 0⟩
/-- ARM.CAPSRC.ACC -/
def ARM_CAPSRC_ACC (i : Nat) : Fld := ⟨0x21200 + 0x400 * i, 0, 5, 0⟩
/-- ARM.CAPSRC.EN -/
def ARM_CAPSRC_EN (i : Nat) : Fld := ⟨0x21200 + 0x400 * i, 5, 1, 0⟩
/-- ARM.CAPSRC.POL -/
def ARM_CAPSRC_POL (i : Nat) : Fld := ⟨0x21200 + 0x400 * i, 6, 1, 0⟩
/-- CELL.CD_ID_LO.ID -/
def CELL_CD_ID_LO_ID (i : Nat) : Fld := ⟨0x200010 + 0x40 * i, 0, 32, 0⟩
/-- CELL.CD_ID_HI.ID -/
def CELL_CD_ID_HI_ID (i : Nat) : Fld := ⟨0x200014 + 0x40 * i, 0, 32, 0⟩
/-- CELL.CD_LIFE.LIFE -/
def CELL_CD_LIFE_LIFE (i : Nat) : Fld := ⟨0x200020 + 0x40 * i, 0, 10, 0⟩
/-- CELL.CD_LIFE.NEXT -/
def CELL_CD_LIFE_NEXT (i : Nat) : Fld := ⟨0x200020 + 0x40 * i, 16, 10, 0⟩
/-- CELL.CD_LIFE.DOM -/
def CELL_CD_LIFE_DOM (i : Nat) : Fld := ⟨0x200020 + 0x40 * i, 26, 2, 0⟩
/-- CELL.CD_CAP.EST -/
def CELL_CD_CAP_EST (i : Nat) : Fld := ⟨0x200024 + 0x40 * i, 0, 16, 65535⟩
/-- CELL.CD_CAP.WINS -/
def CELL_CD_CAP_WINS (i : Nat) : Fld := ⟨0x200024 + 0x40 * i, 16, 16, 0⟩
/-- CELL.CD_TALLY.INDEX -/
def CELL_CD_TALLY_INDEX (i : Nat) : Fld := ⟨0x200028 + 0x40 * i, 0, 13, i⟩
/-- CELL.CD_TALLY.ORIGIN -/
def CELL_CD_TALLY_ORIGIN (i : Nat) : Fld := ⟨0x200028 + 0x40 * i, 13, 3, 0⟩
/-- CELL.CD_TALLY.RESTORED -/
def CELL_CD_TALLY_RESTORED (i : Nat) : Fld := ⟨0x200028 + 0x40 * i, 16, 1, 0⟩
/-- CELL.CD_TALLY.LWARN -/
def CELL_CD_TALLY_LWARN (i : Nat) : Fld := ⟨0x200028 + 0x40 * i, 17, 1, 0⟩

/-! The registers of spec/11_time_and_waybill.md. -/

/-- TB.CTL.STEP -/
def TB_CTL_STEP : Fld := ⟨0x300000, 0, 1, 0⟩
/-- TB.CTL.SET -/
def TB_CTL_SET : Fld := ⟨0x300000, 1, 1, 0⟩
/-- TB.CTL.SLEW -/
def TB_CTL_SLEW : Fld := ⟨0x300000, 2, 1, 0⟩
/-- TB.CTL.SLEWSTOP -/
def TB_CTL_SLEWSTOP : Fld := ⟨0x300000, 3, 1, 0⟩
/-- TB.CTL.HSYNC -/
def TB_CTL_HSYNC : Fld := ⟨0x300000, 4, 1, 0⟩
/-- TB.CTL.CNTCLR -/
def TB_CTL_CNTCLR : Fld := ⟨0x300000, 5, 1, 0⟩
/-- TB.SRC.SRC -/
def TB_SRC_SRC : Fld := ⟨0x300004, 0, 2, 1⟩
/-- TB.STS.SYNC -/
def TB_STS_SYNC : Fld := ⟨0x300008, 0, 1, 0⟩
/-- TB.STS.HOLD -/
def TB_STS_HOLD : Fld := ⟨0x300008, 1, 1, 0⟩
/-- TB.STS.SLEWING -/
def TB_STS_SLEWING : Fld := ⟨0x300008, 2, 1, 0⟩
/-- TB.STS.PPSLOCK -/
def TB_STS_PPSLOCK : Fld := ⟨0x300008, 3, 1, 0⟩
/-- TB.STS.PPSLOST -/
def TB_STS_PPSLOST : Fld := ⟨0x300008, 4, 1, 0⟩
/-- TB.STS.SRCWR -/
def TB_STS_SRCWR : Fld := ⟨0x300008, 5, 1, 0⟩
/-- TB.STS.STEPPED -/
def TB_STS_STEPPED : Fld := ⟨0x300008, 6, 1, 0⟩
/-- TB.STS.ADJERR -/
def TB_STS_ADJERR : Fld := ⟨0x300008, 7, 1, 0⟩
/-- TB.STS.RATECLIP -/
def TB_STS_RATECLIP : Fld := ⟨0x300008, 8, 1, 0⟩
/-- TB.STS.PPS_SKIP -/
def TB_STS_PPS_SKIP : Fld := ⟨0x300008, 9, 1, 0⟩
/-- TB.STS.ALIGNED -/
def TB_STS_ALIGNED : Fld := ⟨0x300008, 10, 1, 0⟩
/-- TB.STS.CYCNUM -/
def TB_STS_CYCNUM : Fld := ⟨0x300008, 11, 1, 0⟩
/-- TB.STEPCNT.N -/
def TB_STEPCNT_N : Fld := ⟨0x30000c, 0, 16, 0⟩
/-- TB.RAW_LO.INT -/
def TB_RAW_LO_INT : Fld := ⟨0x300010, 0, 32, 0⟩
/-- TB.RAW_HI.INT -/
def TB_RAW_HI_INT : Fld := ⟨0x300014, 0, 16, 0⟩
/-- TB.RAW_HI.FRAC -/
def TB_RAW_HI_FRAC : Fld := ⟨0x300014, 16, 16, 0⟩
/-- TB.NOW_LO.T -/
def TB_NOW_LO_T : Fld := ⟨0x300018, 0, 32, 0⟩
/-- TB.NOW_HI.T -/
def TB_NOW_HI_T : Fld := ⟨0x30001c, 0, 32, 0⟩
/-- TB.RATE.RATE -/
def TB_RATE_RATE : Fld := ⟨0x300020, 0, 32, 0⟩
/-- TB.OFS_LO.T -/
def TB_OFS_LO_T : Fld := ⟨0x300024, 0, 32, 0⟩
/-- TB.OFS_HI.T -/
def TB_OFS_HI_T : Fld := ⟨0x300028, 0, 32, 0⟩
/-- TB.SLEWREM_LO.T -/
def TB_SLEWREM_LO_T : Fld := ⟨0x300038, 0, 32, 0⟩
/-- TB.SLEWREM_HI.T -/
def TB_SLEWREM_HI_T : Fld := ⟨0x30003c, 0, 32, 0⟩
/-- TB.ADJ_LO.T -/
def TB_ADJ_LO_T : Fld := ⟨0x30002c, 0, 32, 0⟩
/-- TB.ADJ_HI.T -/
def TB_ADJ_HI_T : Fld := ⟨0x300030, 0, 32, 0⟩
/-- TB.SLEWCFG.PPM -/
def TB_SLEWCFG_PPM : Fld := ⟨0x300034, 0, 9, 20⟩
/-- TB.PPSCFG.KISH -/
def TB_PPSCFG_KISH : Fld := ⟨0x300040, 0, 4, 3⟩
/-- TB.PPSCFG.KPSH -/
def TB_PPSCFG_KPSH : Fld := ⟨0x300040, 4, 4, 1⟩
/-- TB.PPSCFG.STEPTH -/
def TB_PPSCFG_STEPTH : Fld := ⟨0x300040, 8, 8, 100⟩
/-- TB.PPSCFG.LOCKTH -/
def TB_PPSCFG_LOCKTH : Fld := ⟨0x300040, 16, 16, 1000⟩
/-- TB.PPSCAB.NS -/
def TB_PPSCAB_NS : Fld := ⟨0x300044, 0, 32, 0⟩
/-- TB.PPSERR.NS -/
def TB_PPSERR_NS : Fld := ⟨0x300050, 0, 32, 0⟩
/-- TB.PPSOFS.NS -/
def TB_PPSOFS_NS : Fld := ⟨0x30005c, 0, 32, 0⟩
/-- TB.PPSIN_LO.T -/
def TB_PPSIN_LO_T : Fld := ⟨0x300048, 0, 32, 0⟩
/-- TB.PPSIN_HI.T -/
def TB_PPSIN_HI_T : Fld := ⟨0x30004c, 0, 32, 0⟩
/-- TB.PPSCNT.GOOD -/
def TB_PPSCNT_GOOD : Fld := ⟨0x300054, 0, 16, 0⟩
/-- TB.PPSCNT.BAD -/
def TB_PPSCNT_BAD : Fld := ⟨0x300054, 16, 16, 0⟩
/-- TB.PPSOUT.EN -/
def TB_PPSOUT_EN : Fld := ⟨0x300058, 0, 1, 0⟩
/-- TB.PPSOUT.FREE -/
def TB_PPSOUT_FREE : Fld := ⟨0x300058, 1, 1, 0⟩
/-- TB.PPSOUT.WIDTH -/
def TB_PPSOUT_WIDTH : Fld := ⟨0x300058, 4, 20, 100000⟩
/-- TB.CYCCFG.SRC -/
def TB_CYCCFG_SRC : Fld := ⟨0x300060, 0, 2, 0⟩
/-- TB.CYCCFG.RENUM -/
def TB_CYCCFG_RENUM : Fld := ⟨0x300060, 2, 1, 1⟩
/-- TB.CYCCFG.SLEW -/
def TB_CYCCFG_SLEW : Fld := ⟨0x300060, 8, 5, 2⟩
/-- TB.CYCCFG.ERRTH -/
def TB_CYCCFG_ERRTH : Fld := ⟨0x300060, 16, 16, 1000⟩
/-- TB.CYCPH.NS -/
def TB_CYCPH_NS : Fld := ⟨0x300064, 0, 32, 0⟩
/-- TB.CYCERR.NS -/
def TB_CYCERR_NS : Fld := ⟨0x300068, 0, 32, 0⟩
/-- TB.CYCST_LO.T -/
def TB_CYCST_LO_T : Fld := ⟨0x30006c, 0, 32, 0⟩
/-- TB.CYCST_HI.T -/
def TB_CYCST_HI_T : Fld := ⟨0x300070, 0, 32, 0⟩
/-- WB.E.WORD -/
def WB_E_WORD (i : Nat) : Fld := ⟨0x301000 + 0x4 * i, 0, 32, 0⟩
/-- WB.CMD.PUSH -/
def WB_CMD_PUSH : Fld := ⟨0x301020, 0, 1, 0⟩
/-- WB.CMD.CANCEL -/
def WB_CMD_CANCEL : Fld := ⟨0x301020, 1, 1, 0⟩
/-- WB.CMD.FLUSH -/
def WB_CMD_FLUSH : Fld := ⟨0x301020, 2, 1, 0⟩
/-- WB.CMD.DONEPOP -/
def WB_CMD_DONEPOP : Fld := ⟨0x301020, 3, 1, 0⟩
/-- WB.PSTS.RESULT -/
def WB_PSTS_RESULT : Fld := ⟨0x301024, 0, 4, 0⟩
/-- WB.PSTS.SEQ -/
def WB_PSTS_SEQ : Fld := ⟨0x301024, 24, 8, 0⟩
/-- WB.STS.COUNT -/
def WB_STS_COUNT : Fld := ⟨0x301028, 0, 13, 0⟩
/-- WB.STS.LATE -/
def WB_STS_LATE : Fld := ⟨0x301028, 13, 1, 0⟩
/-- WB.STS.LATE_DROP -/
def WB_STS_LATE_DROP : Fld := ⟨0x301028, 14, 1, 0⟩
/-- WB.STS.OVF -/
def WB_STS_OVF : Fld := ⟨0x301028, 15, 1, 0⟩
/-- WB.STS.THR -/
def WB_STS_THR : Fld := ⟨0x301028, 16, 1, 0⟩
/-- WB.STS.FRZDROP -/
def WB_STS_FRZDROP : Fld := ⟨0x301028, 17, 1, 0⟩
/-- WB.STS.DONEOVF -/
def WB_STS_DONEOVF : Fld := ⟨0x301028, 18, 1, 0⟩
/-- WB.CFG.THR -/
def WB_CFG_THR : Fld := ⟨0x30102c, 0, 13, 3584⟩
/-- WB.CANSEL.TAG -/
def WB_CANSEL_TAG : Fld := ⟨0x301030, 0, 16, 0⟩
/-- WB.CANSEL.MASK -/
def WB_CANSEL_MASK : Fld := ⟨0x301030, 16, 16, 65535⟩
/-- WB.CANCNT.N -/
def WB_CANCNT_N : Fld := ⟨0x301034, 0, 13, 0⟩
/-- WB.CNT0.LATE -/
def WB_CNT0_LATE : Fld := ⟨0x301038, 0, 16, 0⟩
/-- WB.CNT0.LATEDROP -/
def WB_CNT0_LATEDROP : Fld := ⟨0x301038, 16, 16, 0⟩
/-- WB.CNT1.FULL -/
def WB_CNT1_FULL : Fld := ⟨0x30103c, 0, 16, 0⟩
/-- WB.CNT1.FLUSH -/
def WB_CNT1_FLUSH : Fld := ⟨0x30103c, 16, 16, 0⟩
/-- WB.CNT2.SHSKIP -/
def WB_CNT2_SHSKIP : Fld := ⟨0x301040, 0, 16, 0⟩
/-- WB.CNT2.FRZDROP -/
def WB_CNT2_FRZDROP : Fld := ⟨0x301040, 16, 16, 0⟩
/-- WB.MAXLAT.N -/
def WB_MAXLAT_N : Fld := ⟨0x301044, 0, 16, 0⟩
/-- WB.HWM.N -/
def WB_HWM_N : Fld := ⟨0x30104c, 0, 16, 0⟩
/-- WB.WIN.OPEN -/
def WB_WIN_OPEN : Fld := ⟨0x301048, 0, 8, 0⟩
/-- WB.DONE0.TAG -/
def WB_DONE0_TAG : Fld := ⟨0x301050, 0, 16, 0⟩
/-- WB.DONE0.CLASS -/
def WB_DONE0_CLASS : Fld := ⟨0x301050, 16, 4, 0⟩
/-- WB.DONE0.LATE -/
def WB_DONE0_LATE : Fld := ⟨0x301050, 20, 1, 0⟩
/-- WB.DONE0.DROPPED -/
def WB_DONE0_DROPPED : Fld := ⟨0x301050, 21, 1, 0⟩
/-- WB.DONE0.VALID -/
def WB_DONE0_VALID : Fld := ⟨0x301050, 22, 1, 0⟩
/-- WB.DONE0.NREC -/
def WB_DONE0_NREC : Fld := ⟨0x301050, 24, 7, 0⟩
/-- WB.DONE1.T -/
def WB_DONE1_T : Fld := ⟨0x301054, 0, 32, 0⟩
/-- WB.DONE2.T -/
def WB_DONE2_T : Fld := ⟨0x301058, 0, 32, 0⟩

/-! The registers of spec/12_station_network.md. -/

/-- NET.CTL.CNTCLR -/
def NET_CTL_CNTCLR : Fld := ⟨0x340000, 0, 1, 0⟩
/-- NET.CTL.PTPRST -/
def NET_CTL_PTPRST : Fld := ⟨0x340000, 1, 1, 0⟩
/-- NET.MAC_LO.ADDR -/
def NET_MAC_LO_ADDR : Fld := ⟨0x340004, 0, 32, 0⟩
/-- NET.MAC_HI.ADDR -/
def NET_MAC_HI_ADDR : Fld := ⟨0x340008, 0, 16, 0⟩
/-- NET.PRP.EN -/
def NET_PRP_EN : Fld := ⟨0x34000c, 0, 1, 0⟩
/-- NET.PRP.LOSTA -/
def NET_PRP_LOSTA : Fld := ⟨0x34000c, 1, 1, 0⟩
/-- NET.PRP.LOSTB -/
def NET_PRP_LOSTB : Fld := ⟨0x34000c, 2, 1, 0⟩
/-- NET.PRP.SUPMS -/
def NET_PRP_SUPMS : Fld := ⟨0x34000c, 16, 8, 200⟩
/-- NET.PRP.LANTMO -/
def NET_PRP_LANTMO : Fld := ⟨0x34000c, 24, 8, 10⟩
/-- NET.BRG.EN -/
def NET_BRG_EN : Fld := ⟨0x340010, 0, 1, 0⟩
/-- NET.BRG.ORPHAN -/
def NET_BRG_ORPHAN : Fld := ⟨0x340010, 16, 16, 0⟩
/-- NET.PTPCFG.DOMAIN -/
def NET_PTPCFG_DOMAIN : Fld := ⟨0x340020, 0, 8, 0⟩
/-- NET.PTPCFG.PORTS -/
def NET_PTPCFG_PORTS : Fld := ⟨0x340020, 8, 4, 3⟩
/-- NET.PTPCFG.TAG -/
def NET_PTPCFG_TAG : Fld := ⟨0x340020, 12, 1, 1⟩
/-- NET.PTPCFG.PDLOG -/
def NET_PTPCFG_PDLOG : Fld := ⟨0x340020, 16, 4, 0⟩
/-- NET.PTPSRV.KISH -/
def NET_PTPSRV_KISH : Fld := ⟨0x340024, 0, 4, 3⟩
/-- NET.PTPSRV.KPSH -/
def NET_PTPSRV_KPSH : Fld := ⟨0x340024, 4, 4, 1⟩
/-- NET.PTPSRV.STEPTH -/
def NET_PTPSRV_STEPTH : Fld := ⟨0x340024, 8, 8, 100⟩
/-- NET.PTPSRV.RUNSTEP -/
def NET_PTPSRV_RUNSTEP : Fld := ⟨0x340024, 16, 1, 0⟩
/-- NET.PTPLIM.LOCKTH -/
def NET_PTPLIM_LOCKTH : Fld := ⟨0x340028, 0, 16, 250⟩
/-- NET.PTPLIM.PDTH -/
def NET_PTPLIM_PDTH : Fld := ⟨0x340028, 16, 8, 50⟩
/-- NET.PTPLIM.ERRTH -/
def NET_PTPLIM_ERRTH : Fld := ⟨0x340028, 24, 8, 10⟩
/-- NET.PTPSTS.LOCK -/
def NET_PTPSTS_LOCK : Fld := ⟨0x34002c, 0, 1, 0⟩
/-- NET.PTPSTS.SLAVE -/
def NET_PTPSTS_SLAVE : Fld := ⟨0x34002c, 1, 3, 7⟩
/-- NET.PTPSTS.GMCHG -/
def NET_PTPSTS_GMCHG : Fld := ⟨0x34002c, 4, 1, 0⟩
/-- NET.PTPSTS.NOCORR -/
def NET_PTPSTS_NOCORR : Fld := ⟨0x34002c, 5, 1, 0⟩
/-- NET.PTPSTS.RATECLIP -/
def NET_PTPSTS_RATECLIP : Fld := ⟨0x34002c, 6, 1, 0⟩
/-- NET.PTPSTS.IGN -/
def NET_PTPSTS_IGN : Fld := ⟨0x34002c, 16, 16, 0⟩
/-- NET.PTPOFS.NS -/
def NET_PTPOFS_NS : Fld := ⟨0x340030, 0, 32, 0⟩
/-- NET.GMID_LO.ID -/
def NET_GMID_LO_ID : Fld := ⟨0x340034, 0, 32, 0⟩
/-- NET.GMID_HI.ID -/
def NET_GMID_HI_ID : Fld := ⟨0x340038, 0, 32, 0⟩
/-- NET.GMQ.CLASS -/
def NET_GMQ_CLASS : Fld := ⟨0x34003c, 0, 8, 255⟩
/-- NET.GMQ.ACC -/
def NET_GMQ_ACC : Fld := ⟨0x34003c, 8, 8, 254⟩
/-- NET.GMQ.STEPS -/
def NET_GMQ_STEPS : Fld := ⟨0x34003c, 16, 8, 0⟩
/-- NET.GMQ.UTCOFS -/
def NET_GMQ_UTCOFS : Fld := ⟨0x34003c, 24, 8, 0⟩
/-- NET.SVLOST.LOST -/
def NET_SVLOST_LOST : Fld := ⟨0x340040, 0, 32, 0⟩
/-- NET.P.CFG.MODE -/
def NET_P_CFG_MODE (i : Nat) : Fld := ⟨0x340100 + 0x80 * i, 0, 2, 2⟩
/-- NET.P.CFG.HOSTMC -/
def NET_P_CFG_HOSTMC (i : Nat) : Fld := ⟨0x340100 + 0x80 * i, 8, 8, 0⟩
/-- NET.P.STS.LINK -/
def NET_P_STS_LINK (i : Nat) : Fld := ⟨0x340104 + 0x80 * i, 0, 1, 0⟩
/-- NET.P.STS.SPEED -/
def NET_P_STS_SPEED (i : Nat) : Fld := ⟨0x340104 + 0x80 * i, 1, 1, 0⟩
/-- NET.P.STS.PDFAIL -/
def NET_P_STS_PDFAIL (i : Nat) : Fld := ⟨0x340104 + 0x80 * i, 2, 1, 0⟩
/-- NET.P.STS.PTPST -/
def NET_P_STS_PTPST (i : Nat) : Fld := ⟨0x340104 + 0x80 * i, 3, 3, 0⟩
/-- NET.P.ASYM.T -/
def NET_P_ASYM_T (i : Nat) : Fld := ⟨0x340108 + 0x80 * i, 0, 32, 0⟩
/-- NET.P.MDL.T -/
def NET_P_MDL_T (i : Nat) : Fld := ⟨0x34010c + 0x80 * i, 0, 32, 0⟩
/-- NET.P.LAT.RX -/
def NET_P_LAT_RX (i : Nat) : Fld := ⟨0x340110 + 0x80 * i, 0, 16, 0⟩
/-- NET.P.LAT.TX -/
def NET_P_LAT_TX (i : Nat) : Fld := ⟨0x340110 + 0x80 * i, 16, 16, 0⟩
/-- NET.P.TXGUARD.NS -/
def NET_P_TXGUARD_NS (i : Nat) : Fld := ⟨0x340114 + 0x80 * i, 0, 18, 12400⟩
/-- NET.P.POLICE.KBPS -/
def NET_P_POLICE_KBPS (i : Nat) : Fld := ⟨0x340118 + 0x80 * i, 0, 20, 20000⟩
/-- NET.P.POLICE.BURST -/
def NET_P_POLICE_BURST (i : Nat) : Fld := ⟨0x340118 + 0x80 * i, 24, 8, 16⟩
/-- NET.P.CNT0.RXOK -/
def NET_P_CNT0_RXOK (i : Nat) : Fld := ⟨0x340120 + 0x80 * i, 0, 16, 0⟩
/-- NET.P.CNT0.RXCRC -/
def NET_P_CNT0_RXCRC (i : Nat) : Fld := ⟨0x340120 + 0x80 * i, 16, 16, 0⟩
/-- NET.P.CNT1.FILT -/
def NET_P_CNT1_FILT (i : Nat) : Fld := ⟨0x340124 + 0x80 * i, 0, 16, 0⟩
/-- NET.P.CNT1.POL -/
def NET_P_CNT1_POL (i : Nat) : Fld := ⟨0x340124 + 0x80 * i, 16, 16, 0⟩
/-- NET.P.CNT2.TXOK -/
def NET_P_CNT2_TXOK (i : Nat) : Fld := ⟨0x340128 + 0x80 * i, 0, 16, 0⟩
/-- NET.P.CNT2.TXLATE -/
def NET_P_CNT2_TXLATE (i : Nat) : Fld := ⟨0x340128 + 0x80 * i, 16, 16, 0⟩
/-- NET.P.CNT3.DUP -/
def NET_P_CNT3_DUP (i : Nat) : Fld := ⟨0x34012c + 0x80 * i, 0, 16, 0⟩
/-- NET.P.CNT3.WLAN -/
def NET_P_CNT3_WLAN (i : Nat) : Fld := ⟨0x34012c + 0x80 * i, 16, 16, 0⟩
/-- NET.SV.CFG.EN -/
def NET_SV_CFG_EN (i : Nat) : Fld := ⟨0x341000 + 0x40 * i, 0, 1, 0⟩
/-- NET.SV.CFG.PORTS -/
def NET_SV_CFG_PORTS (i : Nat) : Fld := ⟨0x341000 + 0x40 * i, 1, 4, 3⟩
/-- NET.SV.CFG.ACCTEST -/
def NET_SV_CFG_ACCTEST (i : Nat) : Fld := ⟨0x341000 + 0x40 * i, 5, 1, 0⟩
/-- NET.SV.CFG.ACCSIM -/
def NET_SV_CFG_ACCSIM (i : Nat) : Fld := ⟨0x341000 + 0x40 * i, 6, 1, 0⟩
/-- NET.SV.CFG.ACCQ -/
def NET_SV_CFG_ACCQ (i : Nat) : Fld := ⟨0x341000 + 0x40 * i, 7, 1, 0⟩
/-- NET.SV.CFG.SYNCREQ -/
def NET_SV_CFG_SYNCREQ (i : Nat) : Fld := ⟨0x341000 + 0x40 * i, 8, 2, 2⟩
/-- NET.SV.CFG.CRCHK -/
def NET_SV_CFG_CRCHK (i : Nat) : Fld := ⟨0x341000 + 0x40 * i, 10, 1, 1⟩
/-- NET.SV.CFG.APPID -/
def NET_SV_CFG_APPID (i : Nat) : Fld := ⟨0x341000 + 0x40 * i, 16, 16, 16384⟩
/-- NET.SV.DMAC_LO.ADDR -/
def NET_SV_DMAC_LO_ADDR (i : Nat) : Fld := ⟨0x341004 + 0x40 * i, 0, 32, 0⟩
/-- NET.SV.DMAC_HI.ADDR -/
def NET_SV_DMAC_HI_ADDR (i : Nat) : Fld := ⟨0x341008 + 0x40 * i, 0, 16, 268⟩
/-- NET.SV.CONFREV.REV -/
def NET_SV_CONFREV_REV (i : Nat) : Fld := ⟨0x34100c + 0x40 * i, 0, 32, 1⟩
/-- NET.SV.WRAP.W -/
def NET_SV_WRAP_W (i : Nat) : Fld := ⟨0x341014 + 0x40 * i, 0, 17, 0⟩
/-- NET.SV.TIMING.STALE -/
def NET_SV_TIMING_STALE (i : Nat) : Fld := ⟨0x341010 + 0x40 * i, 0, 16, 300⟩
/-- NET.SV.TIMING.LOSS -/
def NET_SV_TIMING_LOSS (i : Nat) : Fld := ⟨0x341010 + 0x40 * i, 16, 16, 4⟩
/-- NET.SV.STS.SMPCNT -/
def NET_SV_STS_SMPCNT (i : Nat) : Fld := ⟨0x341018 + 0x40 * i, 0, 16, 0⟩
/-- NET.SV.STS.LOST -/
def NET_SV_STS_LOST (i : Nat) : Fld := ⟨0x341018 + 0x40 * i, 16, 1, 1⟩
/-- NET.SV.STS.GAP -/
def NET_SV_STS_GAP (i : Nat) : Fld := ⟨0x341018 + 0x40 * i, 17, 1, 0⟩
/-- NET.SV.STS.TESTSEEN -/
def NET_SV_STS_TESTSEEN (i : Nat) : Fld := ⟨0x341018 + 0x40 * i, 18, 1, 0⟩
/-- NET.SV.STS.CRMISM -/
def NET_SV_STS_CRMISM (i : Nat) : Fld := ⟨0x341018 + 0x40 * i, 19, 1, 0⟩
/-- NET.SV.STS.SYNCLOW -/
def NET_SV_STS_SYNCLOW (i : Nat) : Fld := ⟨0x341018 + 0x40 * i, 20, 1, 0⟩
/-- NET.SV.CNT.ERR -/
def NET_SV_CNT_ERR (i : Nat) : Fld := ⟨0x34101c + 0x40 * i, 0, 12, 0⟩
/-- NET.SV.CNT.GAPS -/
def NET_SV_CNT_GAPS (i : Nat) : Fld := ⟨0x34101c + 0x40 * i, 16, 16, 0⟩
/-- NET.SV.SVID.CHARS -/
def NET_SV_SVID_CHARS (i : Nat) (j : Nat) : Fld := ⟨0x341020 + 0x40 * i + 0x4 * j, 0, 32, 0⟩
/-- NET.SVSC.SCALE -/
def NET_SVSC_SCALE (i : Nat) (j : Nat) : Fld := ⟨0x342000 + 0x40 * i + 0x4 * j, 0, 32, 1065353216⟩
/-- NET.FB.CFG.LEN -/
def NET_FB_CFG_LEN (i : Nat) : Fld := ⟨0x343000 + 0x20 * i, 0, 11, 0⟩
/-- NET.FB.CFG.PORT -/
def NET_FB_CFG_PORT (i : Nat) : Fld := ⟨0x343000 + 0x20 * i, 12, 3, 0⟩
/-- NET.FB.CFG.GATEEN -/
def NET_FB_CFG_GATEEN (i : Nat) : Fld := ⟨0x343000 + 0x20 * i, 16, 1, 0⟩
/-- NET.FB.CFG.GATEJ -/
def NET_FB_CFG_GATEJ (i : Nat) : Fld := ⟨0x343000 + 0x20 * i, 17, 3, 0⟩
/-- NET.FB.CFG.LATE -/
def NET_FB_CFG_LATE (i : Nat) : Fld := ⟨0x343000 + 0x20 * i, 24, 1, 0⟩
/-- NET.FB.CFG.GATED -/
def NET_FB_CFG_GATED (i : Nat) : Fld := ⟨0x343000 + 0x20 * i, 25, 1, 0⟩
/-- NET.FB.CFG.BADCFG -/
def NET_FB_CFG_BADCFG (i : Nat) : Fld := ⟨0x343000 + 0x20 * i, 26, 1, 0⟩
/-- NET.FB.TRIG.MODE -/
def NET_FB_TRIG_MODE (i : Nat) : Fld := ⟨0x343004 + 0x20 * i, 0, 2, 0⟩
/-- NET.FB.TRIG.J -/
def NET_FB_TRIG_J (i : Nat) : Fld := ⟨0x343004 + 0x20 * i, 2, 3, 0⟩
/-- NET.FB.TRIG.PERIOD -/
def NET_FB_TRIG_PERIOD (i : Nat) : Fld := ⟨0x343004 + 0x20 * i, 8, 16, 1⟩
/-- NET.FB.DLY.NS -/
def NET_FB_DLY_NS (i : Nat) : Fld := ⟨0x343008 + 0x20 * i, 0, 20, 0⟩
/-- NET.FB.PATCH.OFS -/
def NET_FB_PATCH_OFS (i : Nat) (j : Nat) : Fld := ⟨0x34300c + 0x20 * i + 0x4 * j, 0, 11, 0⟩
/-- NET.FB.PATCH.KIND -/
def NET_FB_PATCH_KIND (i : Nat) (j : Nat) : Fld := ⟨0x34300c + 0x20 * i + 0x4 * j, 12, 3, 0⟩
/-- NET.FB.TXT_LO.T -/
def NET_FB_TXT_LO_T (i : Nat) : Fld := ⟨0x343018 + 0x20 * i, 0, 32, 0⟩
/-- NET.FB.TXT_HI.T -/
def NET_FB_TXT_HI_T (i : Nat) : Fld := ⟨0x34301c + 0x20 * i, 0, 32, 0⟩
/-- NET.FBD.DATA -/
def NET_FBD_DATA (i : Nat) (j : Nat) : Fld := ⟨0x348000 + 0x800 * i + 0x4 * j, 0, 32, 0⟩

/-! The registers of spec/13_local_measurement.md. -/

/-- LMU.CTL.SCOMMIT -/
def LMU_CTL_SCOMMIT : Fld := ⟨0x380000, 0, 1, 0⟩
/-- LMU.CTL.CAL -/
def LMU_CTL_CAL : Fld := ⟨0x380000, 1, 1, 0⟩
/-- LMU.CTL.REFEN -/
def LMU_CTL_REFEN : Fld := ⟨0x380000, 2, 1, 0⟩
/-- LMU.CTL.SWTRG0 -/
def LMU_CTL_SWTRG0 : Fld := ⟨0x380000, 3, 1, 0⟩
/-- LMU.CTL.SWTRG1 -/
def LMU_CTL_SWTRG1 : Fld := ⟨0x380000, 4, 1, 0⟩
/-- LMU.CTL.CNTCLR -/
def LMU_CTL_CNTCLR : Fld := ⟨0x380000, 5, 1, 0⟩
/-- LMU.STS.REFRDY -/
def LMU_STS_REFRDY : Fld := ⟨0x380004, 0, 1, 0⟩
/-- LMU.STS.REFFLT -/
def LMU_STS_REFFLT : Fld := ⟨0x380004, 1, 1, 0⟩
/-- LMU.STS.CALBUSY -/
def LMU_STS_CALBUSY : Fld := ⟨0x380004, 2, 1, 0⟩
/-- LMU.STS.CALDONE -/
def LMU_STS_CALDONE : Fld := ⟨0x380004, 3, 1, 0⟩
/-- LMU.STS.CAL_NRDY -/
def LMU_STS_CAL_NRDY : Fld := ⟨0x380004, 4, 1, 0⟩
/-- LMU.STS.CALFAIL -/
def LMU_STS_CALFAIL : Fld := ⟨0x380004, 5, 1, 0⟩
/-- LMU.STS.CALREF -/
def LMU_STS_CALREF : Fld := ⟨0x380004, 6, 1, 0⟩
/-- LMU.STS.SPEND0 -/
def LMU_STS_SPEND0 : Fld := ⟨0x380004, 7, 1, 0⟩
/-- LMU.STS.SPEND1 -/
def LMU_STS_SPEND1 : Fld := ⟨0x380004, 8, 1, 0⟩
/-- LMU.STS.SREF -/
def LMU_STS_SREF : Fld := ⟨0x380004, 9, 1, 0⟩
/-- LMU.STS.BADSEQ -/
def LMU_STS_BADSEQ : Fld := ⟨0x380004, 10, 1, 0⟩
/-- LMU.CAL.OFS -/
def LMU_CAL_OFS (i : Nat) (j : Nat) : Fld := ⟨0x380040 + 0x10 * i + 0x4 * j, 0, 16, 0⟩
/-- LMU.CAL.GAIN -/
def LMU_CAL_GAIN (i : Nat) (j : Nat) : Fld := ⟨0x380040 + 0x10 * i + 0x4 * j, 16, 16, 0⟩
/-- LMU.ADC.CFG.MODE -/
def LMU_ADC_CFG_MODE (i : Nat) : Fld := ⟨0x380100 + 0x40 * i, 0, 2, 0⟩
/-- LMU.ADC.CFG.FIRST -/
def LMU_ADC_CFG_FIRST (i : Nat) : Fld := ⟨0x380100 + 0x40 * i, 2, 6, 0⟩
/-- LMU.ADC.CFG.LAST -/
def LMU_ADC_CFG_LAST (i : Nat) : Fld := ⟨0x380100 + 0x40 * i, 8, 6, 0⟩
/-- LMU.ADC.CFG.TRGSRC -/
def LMU_ADC_CFG_TRGSRC (i : Nat) : Fld := ⟨0x380100 + 0x40 * i, 16, 3, 0⟩
/-- LMU.ADC.CFG.BUSYPOL -/
def LMU_ADC_CFG_BUSYPOL (i : Nat) : Fld := ⟨0x380100 + 0x40 * i, 19, 2, 0⟩
/-- LMU.ADC.CFG.GATEEN -/
def LMU_ADC_CFG_GATEEN (i : Nat) : Fld := ⟨0x380100 + 0x40 * i, 21, 1, 0⟩
/-- LMU.ADC.CFG.GATEJ -/
def LMU_ADC_CFG_GATEJ (i : Nat) : Fld := ⟨0x380100 + 0x40 * i, 22, 3, 0⟩
/-- LMU.ADC.CFG.TSEL -/
def LMU_ADC_CFG_TSEL (i : Nat) : Fld := ⟨0x380100 + 0x40 * i, 25, 6, 0⟩
/-- LMU.ADC.TRG.TPER -/
def LMU_ADC_TRG_TPER (i : Nat) : Fld := ⟨0x380104 + 0x40 * i, 0, 16, 1⟩
/-- LMU.ADC.TOFS.CRT -/
def LMU_ADC_TOFS_CRT (i : Nat) : Fld := ⟨0x380108 + 0x40 * i, 0, 20, 0⟩
/-- LMU.ADC.STS.BUSY -/
def LMU_ADC_STS_BUSY (i : Nat) : Fld := ⟨0x38010c + 0x40 * i, 0, 1, 0⟩
/-- LMU.ADC.STS.PEND -/
def LMU_ADC_STS_PEND (i : Nat) : Fld := ⟨0x38010c + 0x40 * i, 1, 1, 0⟩
/-- LMU.ADC.STS.ENTRY -/
def LMU_ADC_STS_ENTRY (i : Nat) : Fld := ⟨0x38010c + 0x40 * i, 2, 6, 0⟩
/-- LMU.ADC.CNT.TRIG_OVR -/
def LMU_ADC_CNT_TRIG_OVR (i : Nat) : Fld := ⟨0x380110 + 0x40 * i, 0, 16, 0⟩
/-- LMU.ADC.CNT.RESTARTS -/
def LMU_ADC_CNT_RESTARTS (i : Nat) : Fld := ⟨0x380110 + 0x40 * i, 16, 16, 0⟩
/-- LMU.ADC.CNT2.CALDROP -/
def LMU_ADC_CNT2_CALDROP (i : Nat) : Fld := ⟨0x380114 + 0x40 * i, 0, 16, 0⟩
/-- LMU.ADC.CNT2.GATED -/
def LMU_ADC_CNT2_GATED (i : Nat) : Fld := ⟨0x380114 + 0x40 * i, 16, 16, 0⟩
/-- LMU.SEQ.CFG.INPUT -/
def LMU_SEQ_CFG_INPUT (i : Nat) : Fld := ⟨0x381000 + 0x10 * i, 0, 5, 0⟩
/-- LMU.SEQ.CFG.GAIN -/
def LMU_SEQ_CFG_GAIN (i : Nat) : Fld := ⟨0x381000 + 0x10 * i, 5, 2, 0⟩
/-- LMU.SEQ.CFG.FILT -/
def LMU_SEQ_CFG_FILT (i : Nat) : Fld := ⟨0x381000 + 0x10 * i, 7, 1, 0⟩
/-- LMU.SEQ.CFG.REP -/
def LMU_SEQ_CFG_REP (i : Nat) : Fld := ⟨0x381000 + 0x10 * i, 8, 6, 0⟩
/-- LMU.SEQ.CFG.DLY -/
def LMU_SEQ_CFG_DLY (i : Nat) : Fld := ⟨0x381000 + 0x10 * i, 14, 8, 0⟩
/-- LMU.SEQ.CFG.DCH -/
def LMU_SEQ_CFG_DCH (i : Nat) : Fld := ⟨0x381000 + 0x10 * i, 22, 3, 0⟩
/-- LMU.SEQ.CFG.DCHEN -/
def LMU_SEQ_CFG_DCHEN (i : Nat) : Fld := ⟨0x381000 + 0x10 * i, 25, 1, 0⟩
/-- LMU.SEQ.SCALE.VAL -/
def LMU_SEQ_SCALE_VAL (i : Nat) : Fld := ⟨0x381004 + 0x10 * i, 0, 32, 1065353216⟩
/-- LMU.SEQ.OFS.VAL -/
def LMU_SEQ_OFS_VAL (i : Nat) : Fld := ⟨0x381008 + 0x10 * i, 0, 32, 0⟩
/-- LMU.SEQ.RES.CODE -/
def LMU_SEQ_RES_CODE (i : Nat) : Fld := ⟨0x38100c + 0x10 * i, 0, 16, 0⟩
/-- LMU.SEQ.RES.INV -/
def LMU_SEQ_RES_INV (i : Nat) : Fld := ⟨0x38100c + 0x10 * i, 16, 1, 0⟩
/-- LMU.SEQ.RES.REF_NRDY -/
def LMU_SEQ_RES_REF_NRDY (i : Nat) : Fld := ⟨0x38100c + 0x10 * i, 17, 1, 0⟩
/-- LMU.SEQ.RES.SAT -/
def LMU_SEQ_RES_SAT (i : Nat) : Fld := ⟨0x38100c + 0x10 * i, 18, 1, 0⟩
/-- LMU.SEQ.RES.VALID -/
def LMU_SEQ_RES_VALID (i : Nat) : Fld := ⟨0x38100c + 0x10 * i, 19, 1, 0⟩
/-- LMU.DCH.CFG.HIEN -/
def LMU_DCH_CFG_HIEN (i : Nat) : Fld := ⟨0x382000 + 0x40 * i, 0, 1, 0⟩
/-- LMU.DCH.CFG.LOEN -/
def LMU_DCH_CFG_LOEN (i : Nat) : Fld := ⟨0x382000 + 0x40 * i, 1, 1, 0⟩
/-- LMU.DCH.CFG.CNT -/
def LMU_DCH_CFG_CNT (i : Nat) : Fld := ⟨0x382000 + 0x40 * i, 2, 4, 0⟩
/-- LMU.DCH.CFG.HYS -/
def LMU_DCH_CFG_HYS (i : Nat) : Fld := ⟨0x382000 + 0x40 * i, 16, 16, 0⟩
/-- LMU.DCH.THR.LO -/
def LMU_DCH_THR_LO (i : Nat) : Fld := ⟨0x382004 + 0x40 * i, 0, 16, 32768⟩
/-- LMU.DCH.THR.HI -/
def LMU_DCH_THR_HI (i : Nat) : Fld := ⟨0x382004 + 0x40 * i, 16, 16, 32767⟩
/-- LMU.DCH.RES.CODE -/
def LMU_DCH_RES_CODE (i : Nat) : Fld := ⟨0x382008 + 0x40 * i, 0, 16, 0⟩
/-- LMU.DCH.RES.SAT -/
def LMU_DCH_RES_SAT (i : Nat) : Fld := ⟨0x382008 + 0x40 * i, 16, 1, 0⟩
/-- LMU.DCH.RES.VALID -/
def LMU_DCH_RES_VALID (i : Nat) : Fld := ⟨0x382008 + 0x40 * i, 17, 1, 0⟩
/-- LMU.DCH.RES.TRIP -/
def LMU_DCH_RES_TRIP (i : Nat) : Fld := ⟨0x382008 + 0x40 * i, 18, 1, 0⟩
/-- LMU.DCH.RES.TRIPPED -/
def LMU_DCH_RES_TRIPPED (i : Nat) : Fld := ⟨0x382008 + 0x40 * i, 19, 1, 0⟩
/-- LMU.DCH.RES.STALE -/
def LMU_DCH_RES_STALE (i : Nat) : Fld := ⟨0x382008 + 0x40 * i, 20, 1, 0⟩
/-- LMU.DCH.VAL.VAL -/
def LMU_DCH_VAL_VAL (i : Nat) : Fld := ⟨0x38200c + 0x40 * i, 0, 32, 0⟩
/-- LMU.DCH.TS_LO.T -/
def LMU_DCH_TS_LO_T (i : Nat) : Fld := ⟨0x382010 + 0x40 * i, 0, 32, 0⟩
/-- LMU.DCH.TS_HI.T -/
def LMU_DCH_TS_HI_T (i : Nat) : Fld := ⟨0x382014 + 0x40 * i, 0, 32, 0⟩
/-- LMU.DCH.TRT_LO.T -/
def LMU_DCH_TRT_LO_T (i : Nat) : Fld := ⟨0x382018 + 0x40 * i, 0, 32, 0⟩
/-- LMU.DCH.TRT_HI.T -/
def LMU_DCH_TRT_HI_T (i : Nat) : Fld := ⟨0x38201c + 0x40 * i, 0, 32, 0⟩
/-- LMU.DCH.STALE.US -/
def LMU_DCH_STALE_US (i : Nat) : Fld := ⟨0x382020 + 0x40 * i, 0, 16, 100⟩
/-- LMU.DCH.TRCNT.N -/
def LMU_DCH_TRCNT_N (i : Nat) : Fld := ⟨0x382024 + 0x40 * i, 0, 16, 0⟩
/-- LMU.ACC.CFG.ENTRY -/
def LMU_ACC_CFG_ENTRY (i : Nat) : Fld := ⟨0x383000 + 0x20 * i, 0, 6, 0⟩
/-- LMU.ACC.CFG.WMODE -/
def LMU_ACC_CFG_WMODE (i : Nat) : Fld := ⟨0x383000 + 0x20 * i, 6, 2, 0⟩
/-- LMU.ACC.CFG.EN -/
def LMU_ACC_CFG_EN (i : Nat) : Fld := ⟨0x383000 + 0x20 * i, 8, 1, 0⟩
/-- LMU.ACC.CFG.J -/
def LMU_ACC_CFG_J (i : Nat) : Fld := ⟨0x383000 + 0x20 * i, 9, 3, 0⟩
/-- LMU.ACC.CFG.N -/
def LMU_ACC_CFG_N (i : Nat) : Fld := ⟨0x383000 + 0x20 * i, 16, 16, 1⟩
/-- LMU.TRK.CFG.ENTRY -/
def LMU_TRK_CFG_ENTRY (i : Nat) : Fld := ⟨0x384000 + 0x20 * i, 0, 6, 0⟩
/-- LMU.TRK.CFG.WMODE -/
def LMU_TRK_CFG_WMODE (i : Nat) : Fld := ⟨0x384000 + 0x20 * i, 6, 2, 0⟩
/-- LMU.TRK.CFG.EN -/
def LMU_TRK_CFG_EN (i : Nat) : Fld := ⟨0x384000 + 0x20 * i, 8, 1, 0⟩
/-- LMU.TRK.CFG.J -/
def LMU_TRK_CFG_J (i : Nat) : Fld := ⟨0x384000 + 0x20 * i, 9, 3, 0⟩
/-- LMU.TRK.CFG.N -/
def LMU_TRK_CFG_N (i : Nat) : Fld := ⟨0x384000 + 0x20 * i, 16, 16, 1⟩
/-- LMU.ACC.SUM_LO.SUM -/
def LMU_ACC_SUM_LO_SUM (i : Nat) : Fld := ⟨0x383004 + 0x20 * i, 0, 32, 0⟩
/-- LMU.ACC.SUM_HI.SUM -/
def LMU_ACC_SUM_HI_SUM (i : Nat) : Fld := ⟨0x383008 + 0x20 * i, 0, 16, 0⟩
/-- LMU.ACC.NV.NV -/
def LMU_ACC_NV_NV (i : Nat) : Fld := ⟨0x38300c + 0x20 * i, 0, 32, 0⟩
/-- LMU.ACC.STS.EMPTY -/
def LMU_ACC_STS_EMPTY (i : Nat) : Fld := ⟨0x383010 + 0x20 * i, 0, 1, 1⟩
/-- LMU.ACC.STS.INCOMP -/
def LMU_ACC_STS_INCOMP (i : Nat) : Fld := ⟨0x383010 + 0x20 * i, 1, 1, 0⟩
/-- LMU.ACC.STS.SKIP -/
def LMU_ACC_STS_SKIP (i : Nat) : Fld := ⟨0x383010 + 0x20 * i, 16, 16, 0⟩
/-- LMU.TRK.STS.EMPTY -/
def LMU_TRK_STS_EMPTY (i : Nat) : Fld := ⟨0x384010 + 0x20 * i, 0, 1, 1⟩
/-- LMU.TRK.STS.INCOMP -/
def LMU_TRK_STS_INCOMP (i : Nat) : Fld := ⟨0x384010 + 0x20 * i, 1, 1, 0⟩
/-- LMU.TRK.STS.SKIP -/
def LMU_TRK_STS_SKIP (i : Nat) : Fld := ⟨0x384010 + 0x20 * i, 16, 16, 0⟩
/-- LMU.ACC.MEAN.VAL -/
def LMU_ACC_MEAN_VAL (i : Nat) : Fld := ⟨0x383014 + 0x20 * i, 0, 32, 2143289344⟩
/-- LMU.TRK.CODES.MIN -/
def LMU_TRK_CODES_MIN (i : Nat) : Fld := ⟨0x384004 + 0x20 * i, 0, 16, 0⟩
/-- LMU.TRK.CODES.MAX -/
def LMU_TRK_CODES_MAX (i : Nat) : Fld := ⟨0x384004 + 0x20 * i, 16, 16, 0⟩
/-- LMU.TRK.MINV.VAL -/
def LMU_TRK_MINV_VAL (i : Nat) : Fld := ⟨0x384008 + 0x20 * i, 0, 32, 2143289344⟩
/-- LMU.TRK.MAXV.VAL -/
def LMU_TRK_MAXV_VAL (i : Nat) : Fld := ⟨0x38400c + 0x20 * i, 0, 32, 2143289344⟩

/-! The registers of spec/14_protection_and_safety.md. -/

/-- LMU.PROT.ARMS -/
def LMU_PROT_ARMS (i : Nat) : Fld := ⟨0x385000 + 0x4 * i, 0, 12, 4095⟩
/-- LMU.PROT.EN -/
def LMU_PROT_EN (i : Nat) : Fld := ⟨0x385000 + 0x4 * i, 12, 1, 1⟩
/-- LMU.PROT.LATCH -/
def LMU_PROT_LATCH (i : Nat) : Fld := ⟨0x385000 + 0x4 * i, 13, 1, 0⟩
/-- LMU.PROTCNT.FIRES -/
def LMU_PROTCNT_FIRES : Fld := ⟨0x385020, 0, 16, 0⟩
/-- SBU.STS.LINK -/
def SBU_STS_LINK : Fld := ⟨0x3a0000, 0, 1, 0⟩
/-- SBU.STS.PREQA -/
def SBU_STS_PREQA : Fld := ⟨0x3a0000, 1, 1, 0⟩
/-- SBU.STS.PREQB -/
def SBU_STS_PREQB : Fld := ⟨0x3a0000, 2, 1, 0⟩
/-- SBU.STS.SO0 -/
def SBU_STS_SO0 : Fld := ⟨0x3a0000, 3, 1, 0⟩
/-- SBU.STS.SO1 -/
def SBU_STS_SO1 : Fld := ⟨0x3a0000, 4, 1, 0⟩
/-- SBU.STS.CFG -/
def SBU_STS_CFG : Fld := ⟨0x3a0000, 5, 1, 0⟩
/-- SBU.STS.PROOF -/
def SBU_STS_PROOF : Fld := ⟨0x3a0000, 6, 1, 0⟩
/-- SBU.STS.ALLCLOSED -/
def SBU_STS_ALLCLOSED : Fld := ⟨0x3a0000, 7, 1, 0⟩
/-- SBU.STS.VSAFEOK -/
def SBU_STS_VSAFEOK : Fld := ⟨0x3a0000, 8, 1, 0⟩
/-- SBU.STS.RWAIT -/
def SBU_STS_RWAIT : Fld := ⟨0x3a0000, 9, 1, 0⟩
/-- SBU.STS.LOCK -/
def SBU_STS_LOCK : Fld := ⟨0x3a0000, 10, 1, 0⟩
/-- SBU.CAUSE.RB -/
def SBU_CAUSE_RB : Fld := ⟨0x3a0004, 0, 1, 0⟩
/-- SBU.CAUSE.OPEN -/
def SBU_CAUSE_OPEN : Fld := ⟨0x3a0004, 1, 1, 0⟩
/-- SBU.CAUSE.OSC -/
def SBU_CAUSE_OSC : Fld := ⟨0x3a0004, 2, 1, 0⟩
/-- SBU.CAUSE.XCHK -/
def SBU_CAUSE_XCHK : Fld := ⟨0x3a0004, 3, 1, 0⟩
/-- SBU.CAUSE.CFG -/
def SBU_CAUSE_CFG : Fld := ⟨0x3a0004, 4, 1, 0⟩
/-- SBU.CAUSE.TEST -/
def SBU_CAUSE_TEST : Fld := ⟨0x3a0004, 5, 1, 0⟩
/-- SBU.CAUSE.PATH -/
def SBU_CAUSE_PATH : Fld := ⟨0x3a0004, 8, 1, 0⟩
/-- SBU.CMD.CODE -/
def SBU_CMD_CODE : Fld := ⟨0x3a0008, 0, 8, 0⟩
/-- SBU.CMD.KEY -/
def SBU_CMD_KEY : Fld := ⟨0x3a0008, 16, 16, 0⟩
/-- SBU.CMDSTS.RESULT -/
def SBU_CMDSTS_RESULT : Fld := ⟨0x3a000c, 0, 2, 0⟩
/-- SBU.CMDSTS.SEQ -/
def SBU_CMDSTS_SEQ : Fld := ⟨0x3a000c, 8, 8, 0⟩
/-- SBU.TICK.N -/
def SBU_TICK_N : Fld := ⟨0x3a0010, 0, 32, 0⟩
/-- SBU.PAIR.STS.AF -/
def SBU_PAIR_STS_AF (i : Nat) : Fld := ⟨0x3a0100 + 0x10 * i, 0, 1, 0⟩
/-- SBU.PAIR.STS.BF -/
def SBU_PAIR_STS_BF (i : Nat) : Fld := ⟨0x3a0100 + 0x10 * i, 1, 1, 0⟩
/-- SBU.PAIR.STS.DISC -/
def SBU_PAIR_STS_DISC (i : Nat) : Fld := ⟨0x3a0100 + 0x10 * i, 2, 1, 0⟩
/-- SBU.PAIR.STS.PROVEN -/
def SBU_PAIR_STS_PROVEN (i : Nat) : Fld := ⟨0x3a0100 + 0x10 * i, 3, 1, 0⟩
/-- SBU.PAIR.STS.MODE -/
def SBU_PAIR_STS_MODE (i : Nat) : Fld := ⟨0x3a0100 + 0x10 * i, 4, 2, 0⟩
/-- SBU.PAIR.STS.DCOUNT -/
def SBU_PAIR_STS_DCOUNT (i : Nat) : Fld := ⟨0x3a0100 + 0x10 * i, 16, 10, 0⟩
/-- SBU.PAIR.CNT.OPENS -/
def SBU_PAIR_CNT_OPENS (i : Nat) : Fld := ⟨0x3a0104 + 0x10 * i, 0, 16, 0⟩
/-- SBU.PAIR.CNT.DISCS -/
def SBU_PAIR_CNT_DISCS (i : Nat) : Fld := ⟨0x3a0104 + 0x10 * i, 16, 16, 0⟩
/-- SBU.OUT.STS.HSCMD -/
def SBU_OUT_STS_HSCMD (i : Nat) : Fld := ⟨0x3a0200 + 0x10 * i, 0, 1, 0⟩
/-- SBU.OUT.STS.LSCMD -/
def SBU_OUT_STS_LSCMD (i : Nat) : Fld := ⟨0x3a0200 + 0x10 * i, 1, 1, 0⟩
/-- SBU.OUT.STS.RBH -/
def SBU_OUT_STS_RBH (i : Nat) : Fld := ⟨0x3a0200 + 0x10 * i, 2, 1, 0⟩
/-- SBU.OUT.STS.RBL -/
def SBU_OUT_STS_RBL (i : Nat) : Fld := ⟨0x3a0200 + 0x10 * i, 3, 1, 0⟩
/-- SBU.OUT.CNT.TESTS -/
def SBU_OUT_CNT_TESTS (i : Nat) : Fld := ⟨0x3a0204 + 0x10 * i, 0, 16, 0⟩
/-- SBU.OUT.CNT.DEEN -/
def SBU_OUT_CNT_DEEN (i : Nat) : Fld := ⟨0x3a0204 + 0x10 * i, 16, 16, 0⟩

/-! The registers of spec/15_fault_collector.md. -/

/-- FC.STS.DEG -/
def FC_STS_DEG : Fld := ⟨0x3b0000, 0, 1, 0⟩
/-- FC.STS.HOV -/
def FC_STS_HOV : Fld := ⟨0x3b0000, 1, 1, 0⟩
/-- FC.STS.BLK -/
def FC_STS_BLK : Fld := ⟨0x3b0000, 2, 1, 0⟩
/-- FC.STS.TRIP -/
def FC_STS_TRIP : Fld := ⟨0x3b0000, 3, 1, 0⟩
/-- FC.STS.SELF -/
def FC_STS_SELF : Fld := ⟨0x3b0000, 4, 1, 0⟩
/-- FC.STS.SELFSEEN -/
def FC_STS_SELFSEEN : Fld := ⟨0x3b0000, 5, 1, 0⟩
/-- FC.STS.LIVEANY -/
def FC_STS_LIVEANY : Fld := ⟨0x3b0000, 6, 1, 0⟩
/-- FC.STS.FIRSTV -/
def FC_STS_FIRSTV : Fld := ⟨0x3b0000, 7, 1, 0⟩
/-- FC.CMD.CODE -/
def FC_CMD_CODE : Fld := ⟨0x3b0004, 0, 8, 0⟩
/-- FC.CMD.KEY -/
def FC_CMD_KEY : Fld := ⟨0x3b0004, 16, 16, 0⟩
/-- FC.CMDSTS.RESULT -/
def FC_CMDSTS_RESULT : Fld := ⟨0x3b0008, 0, 2, 0⟩
/-- FC.CMDSTS.KEPT -/
def FC_CMDSTS_KEPT : Fld := ⟨0x3b0008, 4, 4, 0⟩
/-- FC.CMDSTS.SEQ -/
def FC_CMDSTS_SEQ : Fld := ⟨0x3b0008, 8, 8, 0⟩
/-- FC.FIRST.SRC -/
def FC_FIRST_SRC : Fld := ⟨0x3b000c, 0, 9, 0⟩
/-- FC.FIRST.SEV -/
def FC_FIRST_SEV : Fld := ⟨0x3b000c, 9, 3, 0⟩
/-- FC.FIRST.INJ -/
def FC_FIRST_INJ : Fld := ⟨0x3b000c, 12, 1, 0⟩
/-- FC.FIRST.VALID -/
def FC_FIRST_VALID : Fld := ⟨0x3b000c, 13, 1, 0⟩
/-- FC.FIRST.COINC -/
def FC_FIRST_COINC : Fld := ⟨0x3b000c, 16, 8, 0⟩
/-- FC.FIRSTT_LO.VAL -/
def FC_FIRSTT_LO_VAL : Fld := ⟨0x3b0010, 0, 32, 0⟩
/-- FC.FIRSTT_HI.VAL -/
def FC_FIRSTT_HI_VAL : Fld := ⟨0x3b0014, 0, 32, 0⟩
/-- FC.FIRSTCYC.VAL -/
def FC_FIRSTCYC_VAL : Fld := ⟨0x3b0018, 0, 32, 0⟩
/-- FC.LANTERN.OUT -/
def FC_LANTERN_OUT : Fld := ⟨0x3b001c, 0, 1, 0⟩
/-- FC.LANTERN.RUN -/
def FC_LANTERN_RUN : Fld := ⟨0x3b001c, 1, 1, 0⟩
/-- FC.LANTERN.STOP_REACT -/
def FC_LANTERN_STOP_REACT : Fld := ⟨0x3b001c, 2, 1, 0⟩
/-- FC.LANTERN.STOP_STATE -/
def FC_LANTERN_STOP_STATE : Fld := ⟨0x3b001c, 3, 1, 1⟩
/-- FC.LANTERN.STOP_OHB -/
def FC_LANTERN_STOP_OHB : Fld := ⟨0x3b001c, 4, 1, 0⟩
/-- FC.LANTERN.STOP_SELF -/
def FC_LANTERN_STOP_SELF : Fld := ⟨0x3b001c, 5, 1, 0⟩
/-- FC.LANTERN.RB -/
def FC_LANTERN_RB : Fld := ⟨0x3b001c, 6, 1, 0⟩
/-- FC.LIN.LEVEL -/
def FC_LIN_LEVEL : Fld := ⟨0x3b0020, 0, 1, 0⟩
/-- FC.LIN.RUNNING -/
def FC_LIN_RUNNING : Fld := ⟨0x3b0020, 1, 1, 0⟩
/-- FC.LIN.STOPPED -/
def FC_LIN_STOPPED : Fld := ⟨0x3b0020, 2, 1, 1⟩
/-- FC.LIN.STOPCNT -/
def FC_LIN_STOPCNT : Fld := ⟨0x3b0020, 16, 16, 0⟩
/-- FC.OHB.TMO -/
def FC_OHB_TMO : Fld := ⟨0x3b0024, 0, 8, 50⟩
/-- FC.OHB.LOST -/
def FC_OHB_LOST : Fld := ⟨0x3b0024, 8, 1, 0⟩
/-- FC.TEST.INJ_REACT -/
def FC_TEST_INJ_REACT : Fld := ⟨0x3b0028, 0, 1, 0⟩
/-- FC.TEST.REFUSED -/
def FC_TEST_REFUSED : Fld := ⟨0x3b0028, 1, 1, 0⟩
/-- FC.TEST.BADKEY -/
def FC_TEST_BADKEY : Fld := ⟨0x3b0028, 2, 2, 0⟩
/-- FC.TEST.LOCKOUT -/
def FC_TEST_LOCKOUT : Fld := ⟨0x3b0028, 4, 1, 0⟩
/-- FC.UNLOCK.CODE -/
def FC_UNLOCK_CODE : Fld := ⟨0x3b002c, 0, 32, 0⟩
/-- FC.INJ.SRC -/
def FC_INJ_SRC : Fld := ⟨0x3b0030, 0, 9, 0⟩
/-- FC.INJ.MODE -/
def FC_INJ_MODE : Fld := ⟨0x3b0030, 9, 2, 0⟩
/-- FC.LOGCFG.RATE -/
def FC_LOGCFG_RATE : Fld := ⟨0x3b0034, 0, 8, 16⟩
/-- FC.LOGCFG.CLRLOG -/
def FC_LOGCFG_CLRLOG : Fld := ⟨0x3b0034, 8, 1, 1⟩
/-- FC.CNT.RAISES -/
def FC_CNT_RAISES : Fld := ⟨0x3b0038, 0, 16, 0⟩
/-- FC.CNT.LOGSUP -/
def FC_CNT_LOGSUP : Fld := ⟨0x3b0038, 16, 16, 0⟩
/-- FC.STICKY.S -/
def FC_STICKY_S (i : Nat) : Fld := ⟨0x3b0100 + 0x4 * i, 0, 32, 0⟩
/-- FC.LIVE.B -/
def FC_LIVE_B (i : Nat) : Fld := ⟨0x3b0140 + 0x4 * i, 0, 32, 0⟩
/-- FC.REAL.B -/
def FC_REAL_B (i : Nat) : Fld := ⟨0x3b0180 + 0x4 * i, 0, 32, 0⟩
/-- FC.INJB.B -/
def FC_INJB_B (i : Nat) : Fld := ⟨0x3b01c0 + 0x4 * i, 0, 32, 0⟩
/-- FC.SEV.SEV0 -/
def FC_SEV_SEV0 (i : Nat) : Fld := ⟨0x3b0200 + 0x4 * i, 0, 3, defaultSeverity (8 * i + 0)⟩
/-- FC.SEV.SEV1 -/
def FC_SEV_SEV1 (i : Nat) : Fld := ⟨0x3b0200 + 0x4 * i, 4, 3, defaultSeverity (8 * i + 1)⟩
/-- FC.SEV.SEV2 -/
def FC_SEV_SEV2 (i : Nat) : Fld := ⟨0x3b0200 + 0x4 * i, 8, 3, defaultSeverity (8 * i + 2)⟩
/-- FC.SEV.SEV3 -/
def FC_SEV_SEV3 (i : Nat) : Fld := ⟨0x3b0200 + 0x4 * i, 12, 3, defaultSeverity (8 * i + 3)⟩
/-- FC.SEV.SEV4 -/
def FC_SEV_SEV4 (i : Nat) : Fld := ⟨0x3b0200 + 0x4 * i, 16, 3, defaultSeverity (8 * i + 4)⟩
/-- FC.SEV.SEV5 -/
def FC_SEV_SEV5 (i : Nat) : Fld := ⟨0x3b0200 + 0x4 * i, 20, 3, defaultSeverity (8 * i + 5)⟩
/-- FC.SEV.SEV6 -/
def FC_SEV_SEV6 (i : Nat) : Fld := ⟨0x3b0200 + 0x4 * i, 24, 3, defaultSeverity (8 * i + 6)⟩
/-- FC.SEV.SEV7 -/
def FC_SEV_SEV7 (i : Nat) : Fld := ⟨0x3b0200 + 0x4 * i, 28, 3, defaultSeverity (8 * i + 7)⟩

/-! The registers of spec/16_twin_operation.md. -/

/-- TWN.CTL.REVINH -/
def TWN_CTL_REVINH : Fld := ⟨0x3c0000, 0, 1, 0⟩
/-- TWN.CTL.RETRAIN -/
def TWN_CTL_RETRAIN : Fld := ⟨0x3c0000, 1, 1, 0⟩
/-- TWN.CTL.CNTCLR -/
def TWN_CTL_CNTCLR : Fld := ⟨0x3c0000, 2, 1, 0⟩
/-- TWN.CMD.CODE -/
def TWN_CMD_CODE : Fld := ⟨0x3c0004, 0, 8, 0⟩
/-- TWN.CMD.ARG -/
def TWN_CMD_ARG : Fld := ⟨0x3c0004, 8, 8, 0⟩
/-- TWN.CMD.KEY -/
def TWN_CMD_KEY : Fld := ⟨0x3c0004, 16, 16, 0⟩
/-- TWN.CMDSTS.RESULT -/
def TWN_CMDSTS_RESULT : Fld := ⟨0x3c0008, 0, 2, 0⟩
/-- TWN.CMDSTS.SEQ -/
def TWN_CMDSTS_SEQ : Fld := ⟨0x3c0008, 8, 8, 0⟩
/-- TWN.STS.LSTATE -/
def TWN_STS_LSTATE : Fld := ⟨0x3c000c, 0, 3, 0⟩
/-- TWN.STS.LANES -/
def TWN_STS_LANES : Fld := ⟨0x3c000c, 3, 4, 0⟩
/-- TWN.STS.CKLOCK -/
def TWN_STS_CKLOCK : Fld := ⟨0x3c000c, 7, 1, 0⟩
/-- TWN.STS.INSYNC -/
def TWN_STS_INSYNC : Fld := ⟨0x3c000c, 8, 1, 0⟩
/-- TWN.STS.REH -/
def TWN_STS_REH : Fld := ⟨0x3c000c, 9, 1, 0⟩
/-- TWN.STS.PROLE -/
def TWN_STS_PROLE : Fld := ⟨0x3c000c, 10, 2, 1⟩
/-- TWN.STS.PSTATE -/
def TWN_STS_PSTATE : Fld := ⟨0x3c000c, 12, 4, 0⟩
/-- TWN.STS.PPREF -/
def TWN_STS_PPREF : Fld := ⟨0x3c000c, 16, 1, 0⟩
/-- TWN.STS.PDEG -/
def TWN_STS_PDEG : Fld := ⟨0x3c000c, 17, 1, 0⟩
/-- TWN.STS.PNR -/
def TWN_STS_PNR : Fld := ⟨0x3c000c, 18, 1, 0⟩
/-- TWN.NRCAUSE.CAUSE -/
def TWN_NRCAUSE_CAUSE : Fld := ⟨0x3c0010, 0, 9, 1⟩
/-- TWN.CFG.TKLAN -/
def TWN_CFG_TKLAN : Fld := ⟨0x3c0014, 0, 1, 1⟩
/-- TWN.CFG.TKHB -/
def TWN_CFG_TKHB : Fld := ⟨0x3c0014, 1, 1, 1⟩
/-- TWN.CFG.TKREQ -/
def TWN_CFG_TKREQ : Fld := ⟨0x3c0014, 2, 1, 1⟩
/-- TWN.CFG.HBQUAL -/
def TWN_CFG_HBQUAL : Fld := ⟨0x3c0014, 3, 1, 0⟩
/-- TWN.CFG.AUTORSYNC -/
def TWN_CFG_AUTORSYNC : Fld := ⟨0x3c0014, 4, 1, 1⟩
/-- TWN.CFG.ORPHAN -/
def TWN_CFG_ORPHAN : Fld := ⟨0x3c0014, 8, 8, 100⟩
/-- TWN.CFG.SYNCN -/
def TWN_CFG_SYNCN : Fld := ⟨0x3c0014, 16, 8, 16⟩
/-- TWN.MID.ID -/
def TWN_MID_ID : Fld := ⟨0x3c0018, 0, 16, 0⟩
/-- TWN.MID.PID -/
def TWN_MID_PID : Fld := ⟨0x3c0018, 16, 16, 0⟩
/-- TWN.PEPOCH.EPOCH -/
def TWN_PEPOCH_EPOCH : Fld := ⟨0x3c001c, 0, 16, 0⟩
/-- TWN.LRLY.NS -/
def TWN_LRLY_NS : Fld := ⟨0x3c0020, 0, 32, 0⟩
/-- TWN.ALIGN.NS -/
def TWN_ALIGN_NS : Fld := ⟨0x3c0024, 0, 32, 0⟩
/-- TWN.GMARGIN.NS -/
def TWN_GMARGIN_NS : Fld := ⟨0x3c0028, 0, 32, 0⟩
/-- TWN.ALIGNTH.NS -/
def TWN_ALIGNTH_NS : Fld := ⟨0x3c002c, 0, 10, 200⟩
/-- TWN.REVERT_HOLD.S -/
def TWN_REVERT_HOLD_S : Fld := ⟨0x3c0030, 0, 16, 120⟩
/-- TWN.REVTMR.S -/
def TWN_REVTMR_S : Fld := ⟨0x3c0034, 0, 16, 0⟩
/-- TWN.SNAP.Q -/
def TWN_SNAP_Q : Fld := ⟨0x3c0038, 0, 16, 0⟩
/-- TWN.SNAP.B -/
def TWN_SNAP_B : Fld := ⟨0x3c0038, 16, 16, 0⟩
/-- TWN.CMPCNT.N -/
def TWN_CMPCNT_N : Fld := ⟨0x3c003c, 0, 32, 0⟩
/-- TWN.MISCNT.N -/
def TWN_MISCNT_N : Fld := ⟨0x3c0040, 0, 32, 0⟩
/-- TWN.RSYNCCNT.N -/
def TWN_RSYNCCNT_N : Fld := ⟨0x3c0044, 0, 32, 0⟩
/-- TWN.ARMSYNC.SYNC -/
def TWN_ARMSYNC_SYNC : Fld := ⟨0x3c0048, 0, 12, 0⟩
/-- TWN.ARMSYNC.RSY -/
def TWN_ARMSYNC_RSY : Fld := ⟨0x3c0048, 16, 12, 0⟩
/-- TWN.TKSTS.TRIG -/
def TWN_TKSTS_TRIG : Fld := ⟨0x3c004c, 0, 3, 0⟩
/-- TWN.TKSTS.REFUSED -/
def TWN_TKSTS_REFUSED : Fld := ⟨0x3c004c, 3, 1, 0⟩
/-- TWN.TKSTS.LOSTFRM -/
def TWN_TKSTS_LOSTFRM : Fld := ⟨0x3c004c, 16, 12, 0⟩
/-- TWN.TKCYC.VAL -/
def TWN_TKCYC_VAL : Fld := ⟨0x3c0050, 0, 32, 0⟩
/-- TWN.TKT_LO.VAL -/
def TWN_TKT_LO_VAL : Fld := ⟨0x3c0054, 0, 32, 0⟩
/-- TWN.TKT_HI.VAL -/
def TWN_TKT_HI_VAL : Fld := ⟨0x3c0058, 0, 32, 0⟩
/-- TWN.REHCFG.CYC -/
def TWN_REHCFG_CYC : Fld := ⟨0x3c005c, 0, 8, 16⟩
/-- TWN.REHCFG.AUTO -/
def TWN_REHCFG_AUTO : Fld := ⟨0x3c005c, 8, 1, 1⟩
/-- TWN.REHSTS.RESULT -/
def TWN_REHSTS_RESULT : Fld := ⟨0x3c0060, 0, 2, 0⟩
/-- TWN.REHSTS.NFAIL -/
def TWN_REHSTS_NFAIL : Fld := ⟨0x3c0060, 2, 14, 0⟩
/-- TWN.REHSTS.FIRST -/
def TWN_REHSTS_FIRST : Fld := ⟨0x3c0060, 16, 13, 0⟩
/-- TWN.EXERCISE.DAYS -/
def TWN_EXERCISE_DAYS : Fld := ⟨0x3c0064, 0, 10, 90⟩
/-- TWN.LASTDRV_LO.T -/
def TWN_LASTDRV_LO_T : Fld := ⟨0x3c0068, 0, 32, 0⟩
/-- TWN.LASTDRV_HI.T -/
def TWN_LASTDRV_HI_T : Fld := ⟨0x3c006c, 0, 32, 0⟩
/-- TWN.ERR.CV -/
def TWN_ERR_CV : Fld := ⟨0x3c0070, 0, 8, 0⟩
/-- TWN.ERR.CRC -/
def TWN_ERR_CRC : Fld := ⟨0x3c0070, 8, 8, 0⟩
/-- TWN.ERR.HBMISS -/
def TWN_ERR_HBMISS : Fld := ⟨0x3c0070, 16, 8, 0⟩
/-- TWN.ERR.SNAPINC -/
def TWN_ERR_SNAPINC : Fld := ⟨0x3c0070, 24, 8, 0⟩

/-! The registers of spec/17_host_and_sideband.md. -/

/-- HST.STS.LINKUP -/
def HST_STS_LINKUP : Fld := ⟨0x3d0000, 0, 1, 0⟩
/-- HST.STS.SPEED -/
def HST_STS_SPEED : Fld := ⟨0x3d0000, 1, 2, 0⟩
/-- HST.STS.WIDTH -/
def HST_STS_WIDTH : Fld := ⟨0x3d0000, 3, 3, 0⟩
/-- HST.STS.VINON -/
def HST_STS_VINON : Fld := ⟨0x3d0000, 6, 1, 0⟩
/-- HST.STS.OSTADDR -/
def HST_STS_OSTADDR : Fld := ⟨0x3d0000, 7, 2, 0⟩
/-- HST.STS.OSTRDY -/
def HST_STS_OSTRDY : Fld := ⟨0x3d0000, 9, 1, 0⟩
/-- HST.WERR.PARTIAL -/
def HST_WERR_PARTIAL : Fld := ⟨0x3d0004, 0, 1, 0⟩
/-- HST.WERR.LOCKED -/
def HST_WERR_LOCKED : Fld := ⟨0x3d0004, 1, 1, 0⟩
/-- HST.WERR.LONG -/
def HST_WERR_LONG : Fld := ⟨0x3d0004, 2, 1, 0⟩
/-- HST.WERR.DMABUSY -/
def HST_WERR_DMABUSY : Fld := ⟨0x3d0004, 3, 1, 0⟩
/-- HST.WERR.RELREF -/
def HST_WERR_RELREF : Fld := ⟨0x3d0004, 4, 1, 0⟩
/-- HST.WERR.MASTER -/
def HST_WERR_MASTER : Fld := ⟨0x3d0004, 8, 2, 0⟩
/-- HST.FRZ.FROZEN -/
def HST_FRZ_FROZEN : Fld := ⟨0x3d0008, 0, 3, 0⟩
/-- HST.FRZ.COUNT -/
def HST_FRZ_COUNT : Fld := ⟨0x3d0008, 16, 16, 0⟩
/-- HST.RELEASE.REL -/
def HST_RELEASE_REL : Fld := ⟨0x3d000c, 0, 3, 0⟩
/-- HST.RELEASE.KEY -/
def HST_RELEASE_KEY : Fld := ⟨0x3d000c, 16, 16, 0⟩
/-- HST.PF1CFG.RO -/
def HST_PF1CFG_RO : Fld := ⟨0x3d0010, 0, 1, 0⟩
/-- HST.CWPAGE.PAGE -/
def HST_CWPAGE_PAGE : Fld := ⟨0x3d0014, 0, 9, 0⟩
/-- HST.PCIID.VID -/
def HST_PCIID_VID : Fld := ⟨0x3d0018, 0, 16, 0⟩
/-- HST.PCIERR.CORR -/
def HST_PCIERR_CORR : Fld := ⟨0x3d001c, 0, 16, 0⟩
/-- HST.PCIERR.UNCORR -/
def HST_PCIERR_UNCORR : Fld := ⟨0x3d001c, 16, 16, 0⟩
/-- HST.VIOL.ADDR.ADDR -/
def HST_VIOL_ADDR_ADDR (i : Nat) : Fld := ⟨0x3d0020 + 0x10 * i, 0, 32, 0⟩
/-- HST.VIOL.INFO.KIND -/
def HST_VIOL_INFO_KIND (i : Nat) : Fld := ⟨0x3d0024 + 0x10 * i, 0, 2, 0⟩
/-- HST.VIOL.INFO.WRITE -/
def HST_VIOL_INFO_WRITE (i : Nat) : Fld := ⟨0x3d0024 + 0x10 * i, 2, 1, 0⟩
/-- HST.VIOL.INFO.DMA -/
def HST_VIOL_INFO_DMA (i : Nat) : Fld := ⟨0x3d0024 + 0x10 * i, 3, 1, 0⟩
/-- HST.VIOL.INFO.CH -/
def HST_VIOL_INFO_CH (i : Nat) : Fld := ⟨0x3d0024 + 0x10 * i, 4, 3, 0⟩
/-- HST.VIOL.T_LO.T -/
def HST_VIOL_T_LO_T (i : Nat) : Fld := ⟨0x3d0028 + 0x10 * i, 0, 32, 0⟩
/-- HST.VIOL.T_HI.T -/
def HST_VIOL_T_HI_T (i : Nat) : Fld := ⟨0x3d002c + 0x10 * i, 0, 32, 0⟩
/-- HST.OSTLER_LOAD.LOAD -/
def HST_OSTLER_LOAD_LOAD : Fld := ⟨0x3d0050, 0, 10, 0⟩
/-- HST.OSTLER_LOAD.PEAK -/
def HST_OSTLER_LOAD_PEAK : Fld := ⟨0x3d0050, 10, 10, 0⟩
/-- HST.OSTLER_LOAD.OVER -/
def HST_OSTLER_LOAD_OVER : Fld := ⟨0x3d0050, 20, 1, 0⟩
/-- HST.OSTLER_STS.IMG -/
def HST_OSTLER_STS_IMG : Fld := ⟨0x3d0054, 0, 1, 0⟩
/-- HST.OSTLER_STS.STOPPED -/
def HST_OSTLER_STS_STOPPED : Fld := ⟨0x3d0054, 1, 1, 0⟩
/-- HST.OSTLER_CNT.POSTPONE -/
def HST_OSTLER_CNT_POSTPONE : Fld := ⟨0x3d0058, 0, 16, 0⟩
/-- HST.OSTLER_CNT.RESTARTS -/
def HST_OSTLER_CNT_RESTARTS : Fld := ⟨0x3d0058, 16, 16, 0⟩
/-- HST.SBCNT.CRC -/
def HST_SBCNT_CRC : Fld := ⟨0x3d005c, 0, 16, 0⟩
/-- HST.SBCNT.OVR -/
def HST_SBCNT_OVR : Fld := ⟨0x3d005c, 16, 16, 0⟩
/-- HST.EVSTS.EV -/
def HST_EVSTS_EV : Fld := ⟨0x3d0080, 0, 32, 0⟩
/-- HST.EVEN.EN -/
def HST_EVEN_EN : Fld := ⟨0x3d0084, 0, 32, 0⟩
/-- HST.EVVEC.VEC -/
def HST_EVVEC_VEC (i : Nat) : Fld := ⟨0x3d0100 + 0x4 * i, 0, 6, i⟩
/-- HST.DMA.HADDR_LO.ADDR -/
def HST_DMA_HADDR_LO_ADDR (i : Nat) : Fld := ⟨0x3d0200 + 0x20 * i, 0, 32, 0⟩
/-- HST.DMA.HADDR_HI.ADDR -/
def HST_DMA_HADDR_HI_ADDR (i : Nat) : Fld := ⟨0x3d0204 + 0x20 * i, 0, 32, 0⟩
/-- HST.DMA.DADDR_LO.ADDR -/
def HST_DMA_DADDR_LO_ADDR (i : Nat) : Fld := ⟨0x3d0208 + 0x20 * i, 0, 32, 0⟩
/-- HST.DMA.DADDR_HI.A32 -/
def HST_DMA_DADDR_HI_A32 (i : Nat) : Fld := ⟨0x3d020c + 0x20 * i, 0, 1, 0⟩
/-- HST.DMA.LEN.LEN -/
def HST_DMA_LEN_LEN (i : Nat) : Fld := ⟨0x3d0210 + 0x20 * i, 0, 25, 0⟩
/-- HST.DMA.CTL.START -/
def HST_DMA_CTL_START (i : Nat) : Fld := ⟨0x3d0214 + 0x20 * i, 0, 1, 0⟩
/-- HST.DMA.CTL.ABORT -/
def HST_DMA_CTL_ABORT (i : Nat) : Fld := ⟨0x3d0214 + 0x20 * i, 1, 1, 0⟩
/-- HST.DMA.CTL.DIR -/
def HST_DMA_CTL_DIR (i : Nat) : Fld := ⟨0x3d0214 + 0x20 * i, 2, 2, 0⟩
/-- HST.DMA.CTL.DSPACE -/
def HST_DMA_CTL_DSPACE (i : Nat) : Fld := ⟨0x3d0214 + 0x20 * i, 4, 1, 0⟩
/-- HST.DMA.CTL.FIX -/
def HST_DMA_CTL_FIX (i : Nat) : Fld := ⟨0x3d0214 + 0x20 * i, 5, 1, 0⟩
/-- HST.DMA.CTL.HSPACE -/
def HST_DMA_CTL_HSPACE (i : Nat) : Fld := ⟨0x3d0214 + 0x20 * i, 6, 1, 0⟩
/-- HST.DMA.STS.BUSY -/
def HST_DMA_STS_BUSY (i : Nat) : Fld := ⟨0x3d0218 + 0x20 * i, 0, 1, 0⟩
/-- HST.DMA.STS.ERR -/
def HST_DMA_STS_ERR (i : Nat) : Fld := ⟨0x3d0218 + 0x20 * i, 1, 3, 0⟩
/-- HST.DMA.STS.OWNER -/
def HST_DMA_STS_OWNER (i : Nat) : Fld := ⟨0x3d0218 + 0x20 * i, 4, 2, 0⟩
/-- HST.DMA.STS.DONE -/
def HST_DMA_STS_DONE (i : Nat) : Fld := ⟨0x3d0218 + 0x20 * i, 6, 26, 0⟩
/-- HST.NRX_LO.ADDR -/
def HST_NRX_LO_ADDR : Fld := ⟨0x3d0300, 0, 32, 0⟩
/-- HST.NRX_HI.ADDR -/
def HST_NRX_HI_ADDR : Fld := ⟨0x3d0304, 0, 32, 0⟩
/-- HST.NRXCFG.EN -/
def HST_NRXCFG_EN : Fld := ⟨0x3d0308, 0, 1, 0⟩
/-- HST.NRXCFG.NENT -/
def HST_NRXCFG_NENT : Fld := ⟨0x3d0308, 16, 13, 256⟩
/-- HST.NRXHEAD.IDX -/
def HST_NRXHEAD_IDX : Fld := ⟨0x3d030c, 0, 12, 0⟩
/-- HST.NRXTAIL.IDX -/
def HST_NRXTAIL_IDX : Fld := ⟨0x3d0310, 0, 12, 0⟩
/-- HST.NRXCNT.RX -/
def HST_NRXCNT_RX : Fld := ⟨0x3d0314, 0, 16, 0⟩
/-- HST.NRXCNT.DROP -/
def HST_NRXCNT_DROP : Fld := ⟨0x3d0314, 16, 16, 0⟩
/-- HST.NTX.BUF -/
def HST_NTX_BUF : Fld := ⟨0x3d0320, 0, 5, 0⟩
/-- HST.NTX.PORT -/
def HST_NTX_PORT : Fld := ⟨0x3d0320, 8, 3, 0⟩
/-- HST.MDIO.DATA -/
def HST_MDIO_DATA : Fld := ⟨0x3d0324, 0, 16, 0⟩
/-- HST.MDIO.REGAD -/
def HST_MDIO_REGAD : Fld := ⟨0x3d0324, 16, 5, 0⟩
/-- HST.MDIO.PHYAD -/
def HST_MDIO_PHYAD : Fld := ⟨0x3d0324, 21, 5, 0⟩
/-- HST.MDIO.OP -/
def HST_MDIO_OP : Fld := ⟨0x3d0324, 26, 1, 0⟩
/-- HST.MDIO.START -/
def HST_MDIO_START : Fld := ⟨0x3d0324, 27, 1, 0⟩
/-- HST.MDIO.BUSY -/
def HST_MDIO_BUSY : Fld := ⟨0x3d0324, 28, 1, 0⟩

/-! The registers of spec/18_clocks_and_power.md. -/

/-- CLK.SUPSTS.VIN -/
def CLK_SUPSTS_VIN : Fld := ⟨0x3e0000, 0, 1, 0⟩
/-- CLK.SUPSTS.VINWARN -/
def CLK_SUPSTS_VINWARN : Fld := ⟨0x3e0000, 1, 1, 0⟩
/-- CLK.SUPSTS.VAUX -/
def CLK_SUPSTS_VAUX : Fld := ⟨0x3e0000, 2, 1, 0⟩
/-- CLK.SUPSTS.VDDIOA -/
def CLK_SUPSTS_VDDIOA : Fld := ⟨0x3e0000, 3, 1, 0⟩
/-- CLK.SUPSTS.VDDIOB -/
def CLK_SUPSTS_VDDIOB : Fld := ⟨0x3e0000, 4, 1, 0⟩
/-- CLK.SUPSTS.RAILS -/
def CLK_SUPSTS_RAILS : Fld := ⟨0x3e0000, 5, 11, 0⟩
/-- CLK.SUPSTS.REGFLT -/
def CLK_SUPSTS_REGFLT : Fld := ⟨0x3e0000, 16, 1, 0⟩
/-- CLK.VMON.VIN -/
def CLK_VMON_VIN : Fld := ⟨0x3e0004, 0, 16, 0⟩
/-- CLK.VMON.VAUX -/
def CLK_VMON_VAUX : Fld := ⟨0x3e0004, 16, 16, 0⟩
/-- CLK.PWRCFG.WARN -/
def CLK_PWRCFG_WARN : Fld := ⟨0x3e0008, 0, 13, 2620⟩
/-- CLK.RSTCAUSE.CAUSE -/
def CLK_RSTCAUSE_CAUSE : Fld := ⟨0x3e000c, 0, 4, 0⟩
/-- CLK.RSTCAUSE.RAIL -/
def CLK_RSTCAUSE_RAIL : Fld := ⟨0x3e000c, 8, 4, 0⟩
/-- CLK.RSTCAUSE.COUNT -/
def CLK_RSTCAUSE_COUNT : Fld := ⟨0x3e000c, 16, 16, 0⟩
/-- CLK.RST.CODE -/
def CLK_RST_CODE : Fld := ⟨0x3e0010, 0, 8, 0⟩
/-- CLK.RST.KEY -/
def CLK_RST_KEY : Fld := ⟨0x3e0010, 16, 16, 0⟩
/-- CLK.TEMP.TJ -/
def CLK_TEMP_TJ : Fld := ⟨0x3e0014, 0, 16, 0⟩
/-- CLK.TEMP.SENSOR -/
def CLK_TEMP_SENSOR : Fld := ⟨0x3e0014, 16, 8, 0⟩
/-- CLK.THERM.WARN -/
def CLK_THERM_WARN : Fld := ⟨0x3e0018, 0, 8, 105⟩
/-- CLK.CKSTS.REFOK -/
def CLK_CKSTS_REFOK : Fld := ⟨0x3e001c, 0, 1, 0⟩
/-- CLK.CKSTS.FBORDY -/
def CLK_CKSTS_FBORDY : Fld := ⟨0x3e001c, 1, 1, 0⟩
/-- CLK.CKSTS.OFBRDY -/
def CLK_CKSTS_OFBRDY : Fld := ⟨0x3e001c, 2, 1, 0⟩
/-- CLK.CKSTS.TBFB -/
def CLK_CKSTS_TBFB : Fld := ⟨0x3e001c, 3, 1, 0⟩
/-- CLK.CKSTS.OSTFB -/
def CLK_CKSTS_OSTFB : Fld := ⟨0x3e001c, 4, 1, 0⟩
/-- CLK.CKSTS.HOLDRST -/
def CLK_CKSTS_HOLDRST : Fld := ⟨0x3e001c, 5, 1, 0⟩
/-- CLK.CKSTS.TBPLL -/
def CLK_CKSTS_TBPLL : Fld := ⟨0x3e001c, 6, 1, 0⟩
/-- CLK.CKSTS.RLYPLL -/
def CLK_CKSTS_RLYPLL : Fld := ⟨0x3e001c, 7, 1, 0⟩
/-- CLK.CKSTS.NETPLL -/
def CLK_CKSTS_NETPLL : Fld := ⟨0x3e001c, 8, 1, 0⟩
/-- CLK.CKSTS.CPLL0 -/
def CLK_CKSTS_CPLL0 : Fld := ⟨0x3e001c, 9, 1, 0⟩
/-- CLK.CKSTS.CPLL1 -/
def CLK_CKSTS_CPLL1 : Fld := ⟨0x3e001c, 10, 1, 0⟩
/-- CLK.CKSTS.CSEL -/
def CLK_CKSTS_CSEL : Fld := ⟨0x3e001c, 11, 1, 0⟩
/-- CLK.CKSTS.PCIEREF -/
def CLK_CKSTS_PCIEREF : Fld := ⟨0x3e001c, 12, 1, 0⟩
/-- CLK.LPLL.LOCK -/
def CLK_LPLL_LOCK : Fld := ⟨0x3e0020, 0, 32, 0⟩
/-- CLK.CKERR.REFFBO -/
def CLK_CKERR_REFFBO : Fld := ⟨0x3e0024, 0, 16, 0⟩
/-- CLK.CKERR.REFOFB -/
def CLK_CKERR_REFOFB : Fld := ⟨0x3e0024, 16, 16, 0⟩
/-- CLK.FBTRIM.FBO -/
def CLK_FBTRIM_FBO : Fld := ⟨0x3e0028, 0, 10, 0⟩
/-- CLK.FBTRIM.OFB -/
def CLK_FBTRIM_OFB : Fld := ⟨0x3e0028, 16, 10, 0⟩
/-- CLK.MUXCNT.SWITCHES -/
def CLK_MUXCNT_SWITCHES : Fld := ⟨0x3e002c, 0, 16, 0⟩
/-- CLK.MUXCNT.FORCED -/
def CLK_MUXCNT_FORCED : Fld := ⟨0x3e002c, 16, 16, 0⟩
/-- CLK.GATE0.LG -/
def CLK_GATE0_LG : Fld := ⟨0x3e0030, 0, 32, 0⟩
/-- CLK.GATE1.ETH -/
def CLK_GATE1_ETH : Fld := ⟨0x3e0034, 0, 4, 0⟩
/-- CLK.GATE1.RLY -/
def CLK_GATE1_RLY : Fld := ⟨0x3e0034, 4, 1, 0⟩
/-- CLK.GATE1.LADC -/
def CLK_GATE1_LADC : Fld := ⟨0x3e0034, 5, 2, 0⟩
/-- CLK.GSTS0.LG -/
def CLK_GSTS0_LG : Fld := ⟨0x3e0038, 0, 32, 0⟩
/-- CLK.GSTS1.UNITS -/
def CLK_GSTS1_UNITS : Fld := ⟨0x3e003c, 0, 7, 0⟩
/-- CLK.GSTS1.QUIESCE -/
def CLK_GSTS1_QUIESCE : Fld := ⟨0x3e003c, 7, 1, 0⟩
/-- CLK.ERR.INUSE -/
def CLK_ERR_INUSE : Fld := ⟨0x3e0040, 0, 1, 0⟩
/-- CLK.ERR.GATE_BUSY -/
def CLK_ERR_GATE_BUSY : Fld := ⟨0x3e0040, 1, 1, 0⟩
/-- CLK.ERR.GACC -/
def CLK_ERR_GACC : Fld := ⟨0x3e0040, 2, 1, 0⟩
/-- CLK.ERR.RSTREF -/
def CLK_ERR_RSTREF : Fld := ⟨0x3e0040, 3, 1, 0⟩
/-- CLK.ERR.UNIT -/
def CLK_ERR_UNIT : Fld := ⟨0x3e0040, 8, 6, 0⟩
/-- CLK.PLREQ.PL -/
def CLK_PLREQ_PL : Fld := ⟨0x3e0050, 0, 2, 0⟩
/-- CLK.PLREQ.KEY -/
def CLK_PLREQ_KEY : Fld := ⟨0x3e0050, 16, 16, 0⟩
/-- CLK.PLSTS.PL -/
def CLK_PLSTS_PL : Fld := ⟨0x3e0054, 0, 2, 0⟩
/-- CLK.PLSTS.TARGET -/
def CLK_PLSTS_TARGET : Fld := ⟨0x3e0054, 2, 2, 0⟩
/-- CLK.PLSTS.BUSY -/
def CLK_PLSTS_BUSY : Fld := ⟨0x3e0054, 4, 1, 0⟩
/-- CLK.PLSTS.PHASE -/
def CLK_PLSTS_PHASE : Fld := ⟨0x3e0054, 5, 3, 0⟩
/-- CLK.PLSTS.RESULT -/
def CLK_PLSTS_RESULT : Fld := ⟨0x3e0054, 8, 3, 0⟩
/-- CLK.PLSTS.INFORCE -/
def CLK_PLSTS_INFORCE : Fld := ⟨0x3e0054, 11, 2, 0⟩
/-- CLK.PLSTS.RETURNED -/
def CLK_PLSTS_RETURNED : Fld := ⟨0x3e0054, 13, 1, 0⟩
/-- CLK.PLCFG.SLEW -/
def CLK_PLCFG_SLEW : Fld := ⟨0x3e0058, 0, 3, 2⟩
/-- CLK.PLCFG.AUTOUP -/
def CLK_PLCFG_AUTOUP : Fld := ⟨0x3e0058, 3, 1, 0⟩
/-- CLK.PLCNT.CHANGES -/
def CLK_PLCNT_CHANGES : Fld := ⟨0x3e005c, 0, 16, 0⟩
/-- CLK.PLCNT.FAILS -/
def CLK_PLCNT_FAILS : Fld := ⟨0x3e005c, 16, 16, 0⟩
/-- CLK.VCORE.MV -/
def CLK_VCORE_MV : Fld := ⟨0x3e0060, 0, 16, 0⟩

/-! The registers of spec/19_register_map.md. -/

/-- GLB.UNMAP.ADDR -/
def GLB_UNMAP_ADDR : Fld := ⟨0x40, 0, 32, 0⟩
/-- GLB.UNMAPINFO.MASTER -/
def GLB_UNMAPINFO_MASTER : Fld := ⟨0x44, 0, 2, 0⟩
/-- GLB.UNMAPINFO.WRITE -/
def GLB_UNMAPINFO_WRITE : Fld := ⟨0x44, 2, 1, 0⟩
/-- GLB.UNMAPINFO.SEEN -/
def GLB_UNMAPINFO_SEEN : Fld := ⟨0x44, 3, 1, 0⟩
/-- GLB.UNMAPINFO.COUNT -/
def GLB_UNMAPINFO_COUNT : Fld := ⟨0x44, 16, 16, 0⟩

end F

end Sys2Proof.Machine
end

