-- ==== Sys2Proof/Machine/State.lean ====
section
/-! DEFINITION. The state of the block, plain data. `regs` holds every register field of the map (the list of them is
`Sys2Proof/Machine/Fields.lean`), each stored as its difference (exclusive or) from its reset value, so that the empty
map is the register file after reset. Beside it stands, unit by unit, every piece of state that the specification
gives the block and no register shows. -/

namespace Sys2Proof.Machine

/-- Why the block stops with a fault: nothing. No command of this block has an outcome that the specification leaves
without effect, so no meaning raises a fault and this type is empty. -/
inductive Fault
deriving DecidableEq, Repr

/-- Why a command has no meaning in the model. -/
inductive Refusal
  /-- A row of the command table that the model has no meaning for; raised by the dispatch alone. Safe: nothing can
  be proved of such a command. -/
  | notModelled (mnemonic : String)
deriving DecidableEq, Repr

/-- What leaves the block at a pin or on a link, in the order in which it leaves. -/
inductive Output
  /-- K28.3 on a lane: the urgent block (R307). -/
  | k283 (lane : Nat)
  /-- A downlink frame on a lane (R286 to R289). -/
  | downlink (lane : Nat) (bytes : List Byte)
  /-- Another lane pattern: 0 electrical idle, 1 K28.0, 2 fast-exit burst, 3 TS1, 4 DMREQ to a hop (R267 to R281). -/
  | laneCode (lane kind arg : Nat)
  /-- A packet on the Relay link: its TYPE and payload (R480, R490). -/
  | relay (type : Nat) (payload : List Byte)
  /-- The message of an MSI-X vector of function 0 or 1 (R526). -/
  | msix (fn vec : Nat)
  /-- A frame at an Ethernet port (R383, R400). -/
  | eth (port : Nat) (bytes : List Byte)
  /-- A PTP message at a port: 0 Pdelay_Req, 1 Pdelay_Resp, with its sequenceId and the turnaround in its correctionField
  (R387); 2 a PRP supervision frame with its sequence number (R384). -/
  | ptp (port kind seq turn : Nat)
  /-- A PCIe completion of a function: status 0 SC, 1 UR, 2 CA, and its data words (R521). -/
  | completion (fn status : Nat) (words : List Nat)
  /-- Data that a DMA channel writes to host memory (R527, R544). -/
  | hostWrite (fn addr : Nat) (bytes : List Byte)
  /-- An answer of the Ostler port (R536 to R538). -/
  | sideband (bytes : List Byte)
  /-- A level at an output pin: 0 to 3 TOUT, 4 PPS_OUT, 5 LANTERN, 6 OST_ALERT_N (R361, R368, R476, R526). -/
  | pin (which : Nat) (level : Bool)
  /-- An MDIO access: opcode, PHY, register, data (R546). -/
  | mdio (read : Bool) (phy reg data : Nat)
  /-- A request to the SBU or a value handed to it over the four connections of R435. -/
  | sbu (which arg : Nat)
  /-- A carrier compare event FPTRG(n, j) (R251) or a Waybill event WBTRG(j) (R368), as a trigger to the LMU. -/
  | trigger (kind n j : Nat)
deriving DecidableEq, Repr

/-- The timebase beside its registers (R353 to R366): TB.RAW in units of 2^−16 ns modulo 2^64, OFSX in units of 2^−16
ns, the part of a slew still to be applied, PPS and cycle alignment bookkeeping. -/
structure TbSt where
  raw : Nat := 0
  ofsx : Int := 0
  /-- Part of ADJ not yet applied, in units of 2^−16 ns (R357). -/
  slewRem : Int := 0
  /-- What the steps of the slew have left over, in 10^−6 units of OFSX (notes/assumptions/8). -/
  slewFrac : Nat := 0
  /-- A slew is in progress. -/
  slewing : Bool := false
  /-- The source named in `TB.SRC` has delivered a correction since the latest reset or change of `TB.SRC` (R358). -/
  delivered : Bool := false
  /-- TB.NOW of the previous valid PPS edge, none before the first edge (R360). -/
  ppsPrev : Option Int := none
  /-- Consecutive valid edges within LOCKTH (R360). -/
  ppsGood : Nat := 0
  /-- The level at PPS_OUT and the highest N already emitted (R361). -/
  ppsOut : Bool := false
  ppsLastN : Option Int := none
  /-- Consecutive cycles with |e| above ERRTH (R365). -/
  errRun : Nat := 0
  /-- The correction c of the present cycle (R362, R365). -/
  corr : Int := 0
  /-- The phase correction left by the present control-period alignment: the next start lands on a target start and
  takes this number (R365). -/
  renum : Option Nat := none
  /-- TB.RAW at CRT 0 of the present cycle. -/
  cycRaw : Nat := 0
deriving DecidableEq, Repr

/-- The device-state machine beside `GLB` (R19 to R51). -/
structure GlbSt where
  /-- The state and step that take effect at the next cycle start (R21). -/
  pend : Option (Nat × Nat) := none
  /-- A DEBLOCK is accepted and the state does not read RUN yet (R24, R40). -/
  deblockPend : Bool := false
  /-- An orderly block runs; in scope 1 or step 2 of a shutdown the shutdown goes on after it (R45, R47). -/
  orderly : Bool := false
  /-- The shutdown in progress: 0 none, else the step of R47 that it has reached. -/
  shutStep : Nat := 0
  /-- The scope of that shutdown (`GLB.CMD.ARG[1]`). -/
  shutScope : Nat := 0
  /-- The cycles left of the wait for role STANDBY in shutdown step 1 (R47). -/
  shutWait : Nat := 0
  /-- The main side requests permit (PREQ toggles, R442). -/
  permit : Bool := false
  /-- `GLB.OBLKTMO` has run out during an orderly block: it blocks at the next cycle start (R45). -/
  orderlyTmo : Bool := false
  /-- Level of TSTMODE. -/
  tstmode : Bool := false
  /-- The link process waits to start again after a population failure (R33). -/
  relink : Bool := false
  /-- A LINK command, or a start-up whose arm cycles do not run yet, asks for the link process (R22, R31, R32). -/
  linkReq : Bool := false
  /-- The role resolution of step 0x30 waits for the end of Relay training (R34). -/
  roleWait : Bool := false
  /-- The 2 s wait of the last row of R34 runs. -/
  roleTimer : Bool := false
  /-- Arms with an urgent block in progress: K28.3 sent and no frame started since (R44, R459). -/
  blkArms : Nat := 0
  /-- VIN on and the VIN domain out of reset; VAUX domain out of reset (R551, R553). -/
  vinOn : Bool := true
  vauxOn : Bool := true
  /-- The boot image, house and supply checks of the step in progress have failed: the boot stays (R22). -/
  bootFailed : Bool := false
deriving DecidableEq, Repr

/-- The fault collector beside `FC` (R454 to R478). -/
structure FcSt where
  /-- Sources whose owner's condition holds (R463). -/
  cond : List Nat := []
  /-- Sources that clear at the next cycle without their event, and have had it in the present cycle (R352). -/
  seen : List Nat := []
  /-- Sources held by an injection (R473). -/
  held : List Nat := []
  /-- The log entries of the last second: source and TB.RAW in ns (R469). -/
  logTimes : List (Nat × Nat) := []
  /-- The next index of the event-log ring (R328). -/
  logNext : Nat := 0
  /-- TB.RAW in ns of the previous edge at LANTERN_IN and the consecutive good intervals (R477). -/
  linPrev : Option Nat := none
  linGood : Nat := 0
deriving DecidableEq, Repr

/-- The host port beside `HST` (R520 to R548): MSI-X enables and masks, the vector tables and pending bits. -/
structure HstSt where
  /-- Bit f: MSI-X Enable of function f; Function Mask of function f. -/
  msixEn : Nat := 0
  fnMask : Nat := 0
  /-- The Ostler was overloaded in the latest window (R542). -/
  loadOver : Bool := false
  /-- Vector control words, keyed 64 × function + vector, as their differences from the masked word 1; pending bits
  likewise; address and data words of the table, keyed 4 × that number + word (R520). -/
  vecMask : Sparse := {}
  pba : Sparse := {}
  vecTab : Sparse := {}
  /-- The writable bits of the configuration spaces, keyed 4,096 × function + byte offset of the word (R520). -/
  cfg : Sparse := {}
  /-- The result of the side-band request in flight and whether it is ready; requests executed, modulo 256 (R536, R538);
  TB.RAW in ns of the CRC errors of the last second (FS408); consecutive windows above 900 permille (FS53). -/
  sbResult : Option (List Byte) := none
  sbReady : Bool := false
  /-- The request in flight came over SMBus. -/
  sbSmbus : Bool := false
  sbSeq : Nat := 0
  sbCrcTimes : List Nat := []
  loadRun : Nat := 0
deriving DecidableEq, Repr

/-- What the block holds of one hop of a lane (R277 to R282): the stored COMP and the latest median RT in 0.1 ns, TLB
and RA of the last valid DMRSP, the samples collected so far, consecutive failures, and whether its measurement of
the present training is over. -/
structure HopSt where
  comp : Option Nat := none
  rt : Option Nat := none
  tlb : Nat := 0
  ra : Nat := 0
  samples : List Nat := []
  fails : Nat := 0
  finished : Bool := false
deriving DecidableEq, Repr

/-- A parcel request to a cell (R310): `op` 1 READ, 2 WRITE, 4 WRITE_ALL. `src` is the host master that made it (0 PF0,
1 the Ostler port), 2 for the block's own requests, 3 for those of an enumeration, 4 for a READ that checks a
WRITE_ALL, whose `data` is the value expected (R313). -/
structure Req where
  hop : Nat := 0
  op : Nat := 0
  reg : Nat := 0
  data : Nat := 0
  src : Nat := 2
deriving DecidableEq, Repr

/-- The transaction that a lane has open (R312, R313): the request, its TAG, the requests sent so far, the repeats after
no reply, the cycle of the first request, the first frame that may carry it again, the cycle whose uplink carries the
reply, the cycle of the first BUSY, the frames of a WRITE_ALL sent. -/
structure Tx where
  req : Req := {}
  tag : Nat := 0
  tries : Nat := 0
  repeats : Nat := 0
  first : Nat := 0
  sendAt : Nat := 0
  await : Option Nat := none
  busy : Option Nat := none
  allSent : Nat := 0
deriving DecidableEq, Repr

/-- A command slot as the timing stage writes it (R288). -/
structure Slot where
  cmd : Nat := 0
  crt : Nat := 0
  param : Nat := 0
deriving DecidableEq, Repr

/-- One Spaone lane beside its registers (R257 to R324). -/
structure LaneSt where
  hops : List HopSt := []
  /-- The hop under measurement in MEASURE (R280). -/
  mhop : Nat := 0
  /-- A retraining without the link process is allowed: RETRAIN written or AUTORT (R274). -/
  retrain : Bool := false
  /-- The HOPSEEN that an END 1 lane expects in place of the LANE record's HOPS (R320, R321). -/
  want : Option Nat := none
  /-- CRT at which the uplink end symbol of the present cycle reached the pins (R270). -/
  te : Option Nat := none
  /-- The hop of the in-service DMREQ on the way, and the cycles since the latest one (R281). -/
  dmOut : Option Nat := none
  dmAge : Nat := 0
  /-- A gap idle has ended and its receiver is still to be checked (R272). -/
  gapCheck : Bool := false
  /-- Consecutive uplinks with BREAK = 1 and LAST below HOPS − 1 (R321). -/
  breaks : Nat := 0
  tx : Option Tx := none
  /-- The block's own requests that wait (R315). -/
  own : List Req := []
  /-- The hop under enumeration, its phase (0 identity, 1 wear ratings, 2 configuration), the requests of the phase
  that are left, and the values its READs returned so far: register and value (R316). -/
  ehop : Option Nat := none
  /-- The chain has ended its enumeration in the present link process (R316, R33). -/
  enumd : Bool := false
  ephase : Nat := 0
  etodo : List Req := []
  got : List (Nat × Nat) := []
deriving DecidableEq, Repr

/-- A parcel result that waits for the host (R315). -/
structure PqRes where
  lane : Nat := 0
  req : Req := {}
  tag : Nat := 0
  result : Nat := 0
  data : Nat := 0
  err : Nat := 0
  tries : Nat := 0
  cycles : Nat := 0
deriving DecidableEq, Repr

/-- The Spaone lanes beside `CL`. -/
structure ClSt where
  /-- EPOCH and DRV of the frames launched for the present cycle, and whether frames were launched (R286, R294). -/
  epoch : Nat := 0
  drv : Bool := false
  launched : Bool := false
  /-- EPOCH and DRV as the latest freeze locked them for the next frames (R94, R507, R510, R513). -/
  lock : Option (Nat × Bool) := none
  /-- Lanes whose frame of the present cycle K28.3 has cut (R307, R308). -/
  cut : Nat := 0
  lanes : List LaneSt := []
  /-- Host parcel requests that wait, with their lane, oldest first, and results, oldest first (R315). -/
  reqs : List (Nat × Req) := []
  results : List PqRes := []
  /-- Open host transactions whose result a FLUSH has discarded: their lanes. -/
  dropped : List Nat := []
deriving DecidableEq, Repr
/-- The arm-cycle schedule beside `SCH` (R92 to R117). -/
structure SchSt where
  /-- The freeze of the present cycle has passed (R94). -/
  frozen : Bool := false
  /-- The number of the first cycle, until it has started (R364). -/
  first : Option Nat := none
deriving DecidableEq, Repr

/-- The live counters of one cell, as the counting unit keeps them (R330 to R333): the fields of its Tally record that
advance in arm cycles. -/
structure LiveSt where
  sw : Nat := 0
  ins : Nat := 0
  obs : Nat := 0
  rf : List Nat := []
  /-- Rainflow residue: EXT, DIR, the stack; `started` once a slot has been taken. -/
  started : Bool := false
  ext : Int := 0
  dir : Int := 0
  stack : List Int := []
  tmin : Int := 127
  tmax : Int := -128
  vmax : Nat := 0
  sqq : Nat := 0
  sqv : Nat := 0
  capn : Nat := 0
deriving DecidableEq, Repr

/-- One configured cell (R57, R189 to R218): its TOPO record, what `CELL[i]` shows of it, and what the engines keep
of it beside that. -/
structure CellSt where
  gidx : Nat := 0
  arm : Nat := 0
  local_ : Nat := 0
  role : Nat := 0
  bmode : Nat := 0
  lane : Nat := 0
  hop : Nat := 0
  /-- The planned state (R189), the state planned at the marker of the present cycle and at the marker before. -/
  state : Nat := 0
  atMark : Nat := 0
  atPrev : Nat := 0
  xcl : Bool := false
  rating : Bool := false
  promo : Bool := false
  fpc : Bool := false
  dwell : Bool := false
  trlim : Bool := false
  mism : Bool := false
  fltrep : Bool := false
  miss : Nat := 0
  dwc : Nat := 0
  mismc : Nat := 0
  vcap : Nat := 0
  temp : Nat := 0
  stat : Nat := 0
  rank : Nat := 0
  unranked : Bool := true
  key : Int := 0
  score : Nat := 0
  wcnt : Nat := 0
  /-- SEQ counter and the latest command other than HOLD in a launched frame, with its SEQ and CRT (R288). -/
  seq : Nat := 0
  lastCmd : Nat := 0
  lastSeq : Nat := 0
  lastCrt : Nat := 0
  /-- lastSeq of the frames up to the cycle before (R294). -/
  echoSeq : Nat := 0
  /-- The command slot in preparation for the next frame and that of the frame launched (Q-CMD, R98). -/
  fill : Slot := {}
  sent : Slot := {}
  /-- A slot of the present cycle has been accepted; one of the cycle before had (R99, R200). -/
  present : Bool := false
  presentPrev : Bool := false
  vprev : Nat := 0
  /-- The frame of the present cycle, and the one before, carried a record for the cell (R200). -/
  recorded : Bool := false
  recordedPrev : Bool := false
  /-- The fractional-PWM cell of the frame of the present cycle, and of the one before (R193, R200). -/
  fpNow : Bool := false
  fpPrev : Bool := false
  /-- Consecutive present slots that report STATE 0x1 to 0x4 while UNOBSERVED (R192). -/
  reobs : Nat := 0
  /-- The first cycle after returning (R193). -/
  fresh : Bool := false
  /-- Inputs to the engine of the cycle before: VCAP, TEMP, LIFE, H (R206). -/
  seenIn : Nat × Nat × Nat × Bool := (0, 0, 0, false)
  /-- The latest accepted slot as received, 64 bits, and whether the slot of the present cycle failed its CRC-8
  (R293, R344). -/
  raw : Nat := 0
  crcBad : Bool := false
  /-- The part of the coming cycle, in ns, for which the pulse of an earlier frame keeps the cell inserted (R331). -/
  tail : Nat := 0
  /-- SPARE_OUT has taken out a cell that is still planned INSERTED (R198). -/
  spareOut : Bool := false
  /-- A forced FAILBYP record is due (R198). -/
  failbyp : Bool := false
  /-- A forced BYPASS record is due (R196). -/
  forceOut : Bool := false
  /-- Enumeration: answered by the present link process, identity, RATE word, IFVER word, WEAR words (R316). -/
  answered : Bool := false
  id : Nat := 0
  rate : Nat := 0
  ifver : Nat := 0
  wear : List Nat := []
  /-- `CD_LIFE` (R334, R335). -/
  life : Nat := 0
  lifeNext : Nat := 0
  dom : Nat := 0
  /-- `CD_CAP` (R333). -/
  capEst : Nat := 0xFFFF
  wins : Nat := 0
  /-- `CD_TALLY` (R337, R342, R336). -/
  origin : Nat := 0
  restored : Bool := false
  lwarn : Bool := false
  live : LiveSt := {}
deriving DecidableEq, Repr

/-- A change list (R214, R215): forced records (arm-local index, failbyp?), INSERT and BYPASS records by arm-local
index, and the end record. -/
structure Sel where
  forced : List (Nat × Bool) := []
  ins : List Nat := []
  byp : List Nat := []
  fp : Option Nat := none
  fpNew : Bool := false
  f : Nat := 0
  blockall : Bool := false
  release : Bool := false
  nr : Nat := 0
  /-- The cells of A in release order (R212), when it is a release. -/
  order : List Nat := []
  nshort : Bool := false
  chglim : Bool := false
  /-- Records of the list, forced included. -/
  n : Nat := 0
deriving DecidableEq, Repr

/-- A commanded pulse of the fractional-PWM cell (R240 to R245): its cell, leading edge, PARAM, unit in ns and width. -/
structure Pulse where
  local_ : Nat := 0
  lead : Nat := 0
  param : Nat := 0
  unit : Nat := 4
  w : Nat := 0
deriving DecidableEq, Repr

/-- One arm beside its registers (R92 to R256). -/
structure ArmSt where
  /-- The last uplink slot's entry into its engine queue; a slot was missing; the cut-off has passed (R99, R107). -/
  chain : Nat := 0
  missing : Bool := false
  cut : Bool := false
  ranked : Bool := false
  /-- The change list of the present cycle; the CRT at which the timing stage completed it (R107). -/
  sel : Option Sel := none
  done : Option Nat := none
  /-- The arm was late and its stage still completes the cycle before (R114). -/
  lateOpen : Bool := false
  /-- An engine of the arm has failed in this cycle (R225); the arm re-ranks in full in the next (R206). -/
  engErr : Bool := false
  fullNext : Bool := true
  /-- σ decided for the next cycle, and the σ that the active unit sent (R200, R201). -/
  sigNext : Int := 1
  /-- σ of the present cycle differs from the cycle before (R206). -/
  flip : Bool := false
  sigAct : Option Int := none
  /-- A standby has used its own σ in this cycle (R201, R493). -/
  sigOwn : Bool := false
  /-- The selection of this cycle is held for a resync (R503). -/
  rsHold : Bool := false
  /-- The fractional-PWM cell before the bookkeeping of the latest freeze (R509). -/
  fpBefore : Option Nat := none
  /-- The weights and mode of the latest ranking (R206). -/
  seenCfg : Nat × Nat := (0, 0)
  /-- A release is due (R212); the latest selection was in BLOCK standstill. -/
  release : Bool := false
  blockStill : Bool := false
  /-- The aggregate record before the one that `ARM[n].AGG` shows, and the cycle of the one shown (R122). -/
  aggPrev : List Nat := []
  aggCyc : Nat := 0
  /-- Outcome of the cycle before, for the aggregate record (R220). -/
  lastNchg : Nat := 0
  lastLate : Bool := false
  lastShort : Bool := false
  /-- Spares are exhausted (R197). -/
  spexh : Bool := false
  /-- The pulse in the frame in preparation and in the frame launched (R236, R245, R256). -/
  pulseFill : Option Pulse := none
  pulse : Option Pulse := none
  /-- E0 of the frame launched (R256). -/
  e0Sent : Nat := 0
  /-- Which of PER (1) and DUTY (2) transferred alone at the latest update point; 3 both, 0 neither (R249). -/
  skew : Nat := 0
  /-- Shadows of FP(n) written since the latest transfer, bits: 0 ALIGN, 1 PER, 2 DUTY, 3 to 6 CMP (R249). -/
  written : Nat := 0
  /-- Apply cycle of a carried FP commit (R254). -/
  fpAt : Option Nat := none
  /-- DLVT of the partner and a change of DLVT with its apply cycle (R231). -/
  dlvPartner : Nat := 0
  dlvSent : Nat := 0
  dlvtAt : Option (Nat × Nat) := none
deriving DecidableEq, Repr

/-- A host cell command that waits for its apply cycle (R198, R199). -/
structure CellCmd where
  cell : Nat := 0
  code : Nat := 0
  at_ : Nat := 0
deriving DecidableEq, Repr

/-- A carried or captured item that waits for its apply cycle (R148, R199, R219, R254, R490): kind and values. -/
structure Item where
  at_ : Nat := 0
  kind : Nat := 0
  vals : List Nat := []
deriving DecidableEq, Repr

/-- The balance engines and the timing stage beside `BE`, `ARM`, `INS` and `CELL` (R186 to R256). -/
structure BeSt where
  /-- The configured cells, by ascending global index. -/
  cells : List CellSt := []
  /-- Arms 0 to 11. -/
  arms : List ArmSt := []
  /-- The cells as they stood before the bookkeeping of the latest freeze (R509). -/
  before : List CellSt := []
  /-- Cell commands that wait for their apply point. -/
  cmds : List CellCmd := []
  /-- The rating ranges of the arms: arm, VR_MIN, VR_MAX, IR_MIN, IR_MAX (R57). -/
  ratings : List (Nat × Nat × Nat × Nat × Nat) := []
deriving DecidableEq, Repr
/-- Orders, ramps and references beside `REF` (R160 to R185). -/
structure RefSt where
  /-- ADEFF of each ramp: the deceleration limit in force (R163, R166). -/
  adeff : List Nat := []
  /-- Ramps that a PRESET takes at the next cycle start (R170). -/
  preset : Nat := 0
  /-- Ramps whose update of the coming cycle crossed zero (R167). -/
  crossed : Nat := 0
  /-- The reference buffers: front V and S per arm, back V and S per arm, and whether the back buffer was written by a
  run on time (R123). -/
  front : List (Nat × Nat) := []
  back : List (Nat × Nat) := []
  backOk : Bool := false
  /-- The cycle at which the present front buffer became the front buffer (R178). -/
  cp : Nat := 0
  /-- thm of the period before (R176). -/
  thmPrev : Nat := 0
  /-- The generator was at standstill in the cycle before (R174). -/
  still : Bool := true
deriving DecidableEq, Repr
/-- One non-volatile checkpoint copy (R340): its sequence number (0: the copy holds nothing that checks), fold cycle,
TB.NOW, and the records at their offsets from the first. -/
structure CkptSt where
  seq : Nat := 0
  cyc : Nat := 0
  now : Nat := 0
  recs : Memory := {}
deriving DecidableEq, Repr

/-- Cell records and the Ledger beside `TLY` (R325 to R352), with the parts of the NAND that they own. -/
structure TlySt where
  /-- Trigger sources that have fired in the present cycle, and after its freeze (R344, R349). -/
  fired : Nat := 0
  firedNext : Nat := 0
  /-- Records written since FILL was entered (R345). -/
  since : Nat := 0
  /-- A switch changed TOPO while FROZEN: RECSZ and CAP change at RELEASE (R345). -/
  resize : Bool := false
  /-- The checkpoint copies, and whether copy 1 is the one written last (R340). -/
  ck0 : CkptSt := {}
  ck1 : CkptSt := {}
  ckLast : Bool := false
  /-- The checkpoint that runs: fold cycle and TB.NOW. -/
  ckAt : Option (Nat × Nat) := none
  /-- The archive ring of the NAND: entries of 512 bytes, and the index of the next (R339). -/
  arch : Memory := {}
  archNext : Nat := 0
  /-- The extract area of the NAND (R351). -/
  extract : List Byte := []
  /-- LIFE values that the Ostler has completed for the next apply cycle: global indices (R335). -/
  lifeReady : List Nat := []
  /-- The table that the active unit carries for the next apply cycle: global index and LIFE, and whether it is whole. -/
  lifeTable : List (Nat × Nat) := []
  lifeWhole : Bool := false
  /-- The standby's table was incomplete at the latest apply cycle (R335). -/
  lifeMiss : Bool := false
  /-- A checkpoint has failed and waits for its retry; a due checkpoint or extract was moved to the next window (R340,
  R542). -/
  ckRetry : Bool := false
  ckMoved : Bool := false
  xMoved : Bool := false
deriving DecidableEq, Repr
/-- A block instance of the control graph (R152). -/
structure Inst where
  ty : Nat := 0
  core : Nat := 0
  nin : Nat := 0
  nout : Nat := 0
  flags : Nat := 0
  out : Nat := 0
  par : Nat := 0
  con : Nat := 0
  ins : List Nat := []
deriving DecidableEq, Repr

/-- The active GRPH section (R151 to R153): instances, an order of them that respects every edge, the schedule of each
core, initial values of the signals, input and output map entries (signal, class, selector), constants. -/
structure Grph where
  insts : List Inst := []
  order : List Nat := []
  sched : List (List Nat) := []
  init : List Nat := []
  inmap : List (Nat × Nat × Nat) := []
  outmap : List (Nat × Nat × Nat) := []
  npar : Nat := 0
  cons : List Nat := []
deriving DecidableEq, Repr

/-- A closed input image (R121) with what its run takes along: the cycle, TB.RAW and TB.NOW at its start, the values
in map order (none while a standby waits for them), AGGOLD, and the trace settings sampled for the period: on, DEC,
signals (R155). -/
structure Img where
  cyc : Nat := 0
  raw : Nat := 0
  now : Nat := 0
  vals : List (Option Nat) := []
  aggold : Bool := false
  tron : Bool := false
  trdec : Nat := 0
  trsel : List Nat := []
  periods : Nat := 0
deriving DecidableEq, Repr

/-- The graph run in progress (R119): its image, the cores that have completed and the latest of them, the parameter
words and TS values it uses, words that read NaN after an ECC error (core, kind, index), the cores with one. -/
structure Run where
  img : Img := {}
  done : List Nat := []
  last : Nat := 0
  par : List Nat := []
  ts : Nat := 0
  tsp : Nat := 0
  nan : List (Nat × Nat × Nat) := []
  ecc : List Nat := []
deriving DecidableEq, Repr

/-- The control graph beside `CG` and `CC` (R118 to R159). -/
structure CgSt where
  g : Grph := {}
  /-- Signal memory and the block states, by instance. -/
  sig : List Nat := []
  mem : List (List Nat) := []
  /-- What `CG.SIG` shows. -/
  shown : List Nat := []
  /-- TS of the latest computation of the products of R133. -/
  tsp : Nat := 0
  /-- Images that wait for their run, oldest first. -/
  imgs : List Img := []
  run : Option Run := none
  /-- Apply cycle of an accepted GRESET (R126, R148). -/
  gresetAt : Option Nat := none
  /-- Control periods since initialisation. -/
  periods : Nat := 0
  /-- The core that LATE3 names, until a run is on time. -/
  late3 : Option Nat := none
  /-- The latest run was late; the trace settings of the latest trace record (R156). -/
  trLast : List Nat := []
  trOn : Bool := false
deriving DecidableEq, Repr

/-- What an SV subscription holds (R395 to R397): per channel the newest valid value, and whether it comes from the newest
accepted sample; the receive stamp of that sample; whether a sample has been accepted since enabling or loss. -/
structure SvSub where
  vals : List Nat := []
  good : List Bool := []
  ta : Int := 0
  any : Bool := false
deriving DecidableEq, Repr

/-- A foreign master heard on a port (R388): its port identity, TB.RAW in ns of its latest Announce, whether it is
qualified, its dataset priority1, clockClass, clockAccuracy, variance, priority2, identity, stepsRemoved, and its UTC
offset. -/
structure Foreign where
  src : Nat := 0
  heard : Nat := 0
  qualified : Bool := false
  rank : List Nat := []
  gm : Nat := 0
  cls : Nat := 0
  acc : Nat := 0
  steps : Nat := 0
  utc : Nat := 0
deriving DecidableEq, Repr

/-- A port of the network beside its registers: the exchanges that dL is the mean of, in units of 1/327,680 ns, newest
first, and the consecutive outliers (R387); t1 of the Pdelay_Req under way with its sequence number, and the requests
without an answer; foreign masters; the two-step Sync that waits for its Follow_Up: sequenceId, source, o without the
Follow_Up's terms (R389); the policer's used micro-bits with TB.RAW in ns, and the drops of the second that began at a
TB.RAW (R403); a PRP port is silent (R385). -/
structure PortSt where
  kept : List Int := []
  outliers : Nat := 0
  reqSeq : Nat := 0
  reqT1 : Option Int := none
  misses : Nat := 0
  masters : List Foreign := []
  sync : Option (Nat × Nat × Int) := none
  used : Nat := 0
  usedAt : Nat := 0
  drops : Nat := 0
  dropsAt : Nat := 0
  silent : Bool := false
deriving DecidableEq, Repr

/-- A frame launch that waits (R399, R400): its buffer and port, its instant in TB.NOW ns, whether the launcher has taken it,
and whether it was taken too late. -/
structure Launch where
  buf : Nat := 0
  port : Nat := 0
  at_ : Int := 0
  taken : Bool := false
  late : Bool := false
deriving DecidableEq, Repr

/-- The station network beside `NET` (R381 to R405). -/
structure NetSt where
  sv : List SvSub := []
  ports : List PortSt := []
  /-- Consecutive Syncs within LOCKTH, and above ERRTH (R390). -/
  good : Nat := 0
  errRun : Nat := 0
  /-- Two-step Syncs that the bridge has forwarded: ingress port, sequenceId, source, r + dL in 2^−16 ns, TB.RAW in ns
  (R392). -/
  bridged : List (Nat × Nat × Nat × Int × Nat) := []
  /-- PRP: by source address its latest frame in TB.RAW ns and the sequence numbers delivered once, newest first; by
  destination address the next sequence number (R384). -/
  prpSeen : List (Nat × Nat × List Nat) := []
  prpSeq : List (Nat × Nat) := []
  launches : List Launch := []
  /-- Launches of each buffer, modulo 2^32 (R401). -/
  sent : Sparse := {}
deriving DecidableEq, Repr

/-- An entry of the Waybill queue (R367): its eight words, the master that pushed it, whether it is a shadow entry (R378). -/
structure WbEntry where
  words : List Nat := []
  master : Master := .pf0
  shadow : Bool := false
deriving DecidableEq, Repr

/-- An open window of WBWIN(j) (R368, R373): its TAG, and its end in the time of its entry: TB.NOW in ns for NET, TB.RAW in
ns otherwise. -/
structure WbWin where
  j : Nat := 0
  tag : Nat := 0
  net : Bool := false
  end_ : Int := 0
deriving DecidableEq, Repr

/-- A completion record (R377). -/
structure WbDone where
  tag : Nat := 0
  cls : Nat := 0
  late : Bool := false
  dropped : Bool := false
  time : Nat := 0
deriving DecidableEq, Repr

/-- The Waybill queue beside `WB` (R367 to R379): its entries in order of push, the open windows, the completion records
oldest first, the levels at TOUT[0] to TOUT[3], and the returns of OUT pulses: pin, level, TB.RAW in ns. -/
structure WbSt where
  ents : List WbEntry := []
  wins : List WbWin := []
  done : List WbDone := []
  tout : Nat := 0
  returns : List (Nat × Bool × Nat) := []
deriving DecidableEq, Repr

/-- A window of an accumulator or tracker (R423 to R425): its configuration (mode, entry, window j, N), TB.RAW at its start
and end, the results taken so far, and whether a change of its entry has made it incomplete. -/
structure Win where
  wmode : Nat := 0
  entry : Nat := 0
  j : Nat := 0
  n : Nat := 1
  from_ : Nat := 0
  to_ : Nat := 0
  sum : Int := 0
  nv : Nat := 0
  skip : Nat := 0
  lo : Int := 0
  hi : Int := 0
  incomp : Bool := false
deriving DecidableEq, Repr

/-- An accumulator (numbers 0 to 31) or tracker (32 to 47): the open window and those that have ended but not closed. -/
structure Meter where
  cur : Option Win := none
  ended : List Win := []
deriving DecidableEq, Repr

/-- The local measurement unit beside `LMU` (R406 to R427). -/
structure LmuSt where
  /-- By entry: conversions that its decimator holds, newest first, the conversions of the present run, and the results
  still to be marked INV (R415, R416). -/
  deci : List (List Int × Nat × Nat) := []
  /-- By direct channel: consecutive outside results; bit d of `stale`: the channel is stale (R420, R422). -/
  outs : List Nat := []
  stale : Nat := 0
  meters : List Meter := []
  /-- The windows WBWIN(j) that are open (R368). -/
  win : Nat := 0
  /-- A calibration began without a ready reference; it is the automatic one; one is due 5 ms after entry into LOADED. -/
  calNrdy : Bool := false
  calAuto : Bool := false
  calDue : Bool := false
deriving DecidableEq, Repr

/-- One channel of an SBU input pair (R439): its filtered state, closed or not; the consecutive samples at the level of the
latest one, that level as permissive or not, and whether the filter has taken a level since the pair came into use. -/
structure SbuChan where
  closed : Bool := false
  run : Nat := 0
  lvl : Bool := false
  known : Bool := false
deriving DecidableEq, Repr

/-- One SBU input pair (R438 to R445). -/
structure SbuPair where
  a : SbuChan := {}
  b : SbuChan := {}
  dcount : Nat := 0
  disc : Bool := false
  /-- Both filtered states have been open at one tick since the latch (R441), and since power-up for the proof (R445). -/
  dopen : Bool := false
  popen : Bool := false
  proven : Bool := false
  opens : Nat := 0
  discs : Nat := 0
deriving DecidableEq, Repr

/-- One SBU output path (R443 to R448): energised by both channels' evaluation, the switch under test (0 none, 1 high side,
2 low side), restart interlock, readback of SOkH and SOkL at the latest tick, counts. -/
structure SbuPath where
  on : Bool := false
  test : Nat := 0
  rwait : Bool := false
  rbh : Bool := false
  rbl : Bool := false
  tests : Nat := 0
  deen : Nat := 0
deriving DecidableEq, Repr

/-- The safety block unit itself, in the VAUX domain (R434 to R452). The registers `SBU` show what its latest status
reported. -/
structure SbuSt where
  /-- Safety ticks since power-up. -/
  ticks : Nat := 0
  /-- The active SAFE section with its CRC-32C, and the section handed over and still pending, with whether it has been
  acknowledged (R83, R84). Empty: none. -/
  sec : List Byte := []
  crc : Nat := 0
  pend : Option (List Byte × Nat) := none
  ack : Bool := false
  pairs : List SbuPair := List.replicate 8 {}
  paths : List SbuPath := List.replicate 2 {}
  /-- PREQ valid at CHA and CHB in the latest tick, and on both lines in the tick before; the main side requested permit at
  the latest tick (R442, R443). -/
  preqA : Bool := false
  preqB : Bool := false
  preqWas : Bool := false
  asked : Bool := false
  vsafeOk : Bool := false
  /-- Latched causes, bits as in `SBU.CAUSE`, and PATH. -/
  cause : Nat := 0
  path : Bool := false
  /-- Since the latest report: a path was de-energised while PREQ was requested; pairs that opened then (R450). -/
  deenNew : Bool := false
  openNew : Nat := 0
deriving DecidableEq, Repr

/-- What a unit keeps of one cycle for the comparison of R501: the cycle, CMDCRC, per arm ARMCRC and byte [6] of its arm
record, and the CRT at which the snapshot header of the cycle before came (R496). -/
structure CycleCrc where
  cyc : Nat := 0
  cmd : Nat := 0
  arms : List (Nat × Nat) := []
  head : Option Nat := none
deriving DecidableEq, Repr

/-- A rehearsal (R513, R514): r, R, and the cells that have failed step 3 or step 5. -/
structure Rehearsal where
  r : Nat := 0
  len : Nat := 16
  /-- 0 scheduled, 1 the standby drives, 2 the active has taken the cells back. -/
  phase : Nat := 0
  failed : List Nat := []
  /-- It is to be aborted (R514); the partner's flags when it began. -/
  abort : Bool := false
  flags : Nat := 0
deriving DecidableEq, Repr

/-- The twin beside `TWN` (R479 to R519). -/
structure TwnSt where
  /-- The partner's CYC and CPBASE of the latest heartbeat (R483, R488, R489). -/
  pcyc : Nat := 0
  pcpbase : Nat := 0
  /-- That heartbeat came in the last half of a cycle of this unit: it names the coming one (R488). -/
  pnext : Bool := false
  /-- The partner selects TWIN in `TB.CYCCFG.SRC` (R488). -/
  partnerTwin : Bool := false
  /-- Items that wait for their apply cycle, carried or captured (R490). -/
  items : List Item := []
  /-- A carried item did not arrive before its apply point, or a shadow entry was refused (cause MISSED, R490). -/
  missed : Bool := false
  /-- A cell has reported in this cycle that it obeys the master of its other port (R303). -/
  obSeen : Bool := false
  /-- A standby drives in a rehearsal: the EPOCH of its frames (R513). -/
  drive : Option Nat := none
  /-- Training attempts since OFF, whether the third has failed, and whether the present one has a time limit (R481). -/
  attempts : Nat := 0
  failed3 : Bool := false
  limit : Bool := true
  /-- Consecutive missed heartbeats (R483); TB.RAW in ns of the CRC errors of the last second (R519). -/
  hbMiss : Nat := 0
  crcTimes : List Nat := []
  /-- IMAGE_ID and section CRCs of the partner's ID packet; the partner's equal MID or PREF (R485, R498). -/
  pimage : Nat := 0
  pcrcs : List Nat := []
  clash : Bool := false
  /-- The active switched alone (R82). -/
  alone : Bool := false
  /-- The partner's CYC is adopted at the next cycle start (R489). -/
  adopt : Bool := false
  /-- Consecutive cycles out of alignment and in alignment (R489). -/
  alignBad : Nat := 0
  alignGood : Nat := 0
  /-- The latest snapshot header: k, state in effect for k + 1, and the parts that R501 and R503 read; the last complete
  snapshot: its k and its state (R492). -/
  snapHead : Option (Nat × Nat) := none
  snapLast : Option (Nat × Nat) := none
  snapArms : List (Nat × Nat) := []
  snapFp : List Nat := []
  /-- The CRT at which the snapshot header of the cycle before came, 0 when it came before the cycle start (R496). -/
  headIn : Option Nat := none
  /-- The parts of the snapshot under way, in order; the station block of the last complete snapshot until its cycle; the cycle
  compared last (R492, R501). -/
  snapBuf : Option (List Byte) := none
  station : Option (Nat × List Byte) := none
  cmpAt : Option Nat := none
  /-- This unit's command sets of its latest freezes (R499), newest first. -/
  crcs : List CycleCrc := []
  /-- Matching compared cycles of each arm since the count began (R502). -/
  match_ : List Nat := []
  /-- The resync under way: arm and r; the request that waits; per arm the cycle of its latest resync and the successive
  failures; arms given up (R503, R504); the resync part received. -/
  resync : Option (Nat × Nat) := none
  rsPart : Option (Nat × Nat × Nat × List Byte) := none
  rsLast : List (Nat × Nat × Nat) := []
  rsWant : Nat := 0
  rsGiven : Nat := 0
  /-- A takeover under way: its trigger and TB.RAW in ns at detection (R507). -/
  tk : Option (Nat × Nat) := none
  /-- The role that takes effect at the next cycle start (R507, R510). -/
  nextRole : Option Nat := none
  /-- The cycle in which UBLK came: BLOCKED from the next cycle start whatever the snapshots say (R490); the cycle of the latest takeover
  point (R518). -/
  ublk : Option Nat := none
  tkAt : Option Nat := none
  /-- The state taken from the snapshot for the next cycle start (R42). -/
  taken : Option Nat := none
  reh : Option Rehearsal := none
  /-- A rehearsal has run since both units became BLOCKED (R515). -/
  rehDone : Bool := false
  /-- Consecutive cycles in which no cell obeys another master (R511). -/
  orphan : Nat := 0
  /-- TB.RAW in ns since when the conditions of R512 hold. -/
  revFrom : Option Nat := none
  /-- The partner's latched DEG, HOV, BLK, TRIP, SELF of its heartbeat. -/
  pflags : Nat := 0
  /-- The limit of R517 has been passed and reported. -/
  overdue : Bool := false
  /-- A refresh under way: its first cycle s, a on the standby, and the items accepted from s on (R491). -/
  refresh : Option (Nat × Nat) := none
  refItems : List (List Byte) := []
  refData : List Byte := []
deriving DecidableEq, Repr

/-- A Recipe image as its checks leave it (R53, R54): FLAGS, DEVICE fields aside the header fields, and its sections in directory
order, each with its type, offset and bytes. -/
structure Recipe where
  flags : Nat := 0
  imageId : Nat := 0
  baseId : Nat := 0
  version : Nat := 0
  keyid : Nat := 0
  armcyc : Nat := 0
  m : Nat := 1
  pl : Nat := 0
  narms : Nat := 0
  secs : List (Nat × Nat × List Byte) := []
deriving DecidableEq, Repr

/-- A slot of the SLC NAND (R67): its image and its descriptor, with the CRC of the acknowledge record. -/
structure NvSlot where
  image : List Byte := []
  valid : Bool := false
  version : Nat := 0
  imageId : Nat := 0
  ack : Option Nat := none
deriving DecidableEq, Repr

/-- A key slot of the NOR store (R62): 0 EMPTY, 1 VALID, 2 REVOKED; the 64-byte point, none for the commissioning key (R64). -/
structure KeySlot where
  state : Nat := 0
  point : Option (List Byte) := none
deriving DecidableEq, Repr

/-- A copy of the house layer in the NOR store (R89): whether its magic and CRC are correct, its sequence number, its entries. -/
structure HouseCopy where
  sound : Bool := true
  seq : Nat := 0
  entries : List (Nat × Nat × Nat) := []
deriving DecidableEq, Repr

/-- A commit that has been accepted (R74 to R82): its image, the types of the changed sections, the origin of the image, whether
it belongs to an automatic load and carries an acknowledge record of its slot, whether prepare has ended, the switch cycle of a
coordinated commit with the partner's confirmation, and the role in which it was accepted. -/
structure Prep where
  img : Recipe := {}
  changed : List Nat := []
  src : Nat := 3
  acked : Bool := false
  ready : Bool := false
  k : Option Nat := none
  confirmed : Bool := false
  role : Nat := 0
  /-- The deadline has passed without confirmation and the unit switches alone (R82). -/
  alone : Bool := false
  /-- Lanes that the new LANE section names (R564). -/
  lanes : List Nat := []
deriving DecidableEq, Repr

/-- The Recipe unit beside `RCP` (R52 to R91), with the non-volatile stores that it owns. -/
structure RcpSt where
  /-- The bytes of the active sections by type; empty while no Recipe is active. -/
  secs : List (Nat × List Byte) := []
  slots : List NvSlot := [{}, {}]
  keys : List KeySlot := [⟨1, none⟩, {}, {}, {}]
  minver : Nat := 0
  houses : List HouseCopy := [{}, {}]
  /-- The command that runs and its argument. -/
  job : Option (Nat × Nat) := none
  /-- The origin of the staged image, as `RCP.STS.SRC` codes it (R69). -/
  origin : Nat := 3
  /-- The automatic load: the slot that it tries, and whether it is the second (R69). -/
  auto : Option (Nat × Bool) := none
  prep : Option Prep := none
  /-- On a standby: a proposal whose commit has not been prepared: IMAGE_ID, section CRCs and k (R81, R82). -/
  proposal : Option (Nat × List Nat × Nat) := none
  /-- HOUSE_STORE writes these entries (R90). -/
  houseNew : List (Nat × Nat × Nat) := []
deriving DecidableEq, Repr

/-- Supplies, clocks and performance levels beside `CLK` (R549 to R573). -/
structure ClkSt where
  /-- The step of the level change in progress: 0 none, 1 awaiting the cycle start, 2 VCORE ramp, 3 Cellar switch, 4 slack
  verification; the level that it comes from; whether it returns; whether it belongs to step 0x20 (R567 to R570). -/
  plStep : Nat := 0
  plFrom : Nat := 0
  returning : Bool := false
  start20 : Bool := false
  /-- A switch has changed PL or ARMCYC during a level change: when it ends, arm cycles stop and step 0x20 runs, with the link
  process asked for or not (R572). -/
  restart : Option Bool := none
  /-- Consecutive cycles with a replica above its limit (R105). -/
  replRun : Nat := 0
  /-- A software reset has been written and falls due (R554). -/
  swReset : Bool := false
  /-- Units that quiesce, and units that wait for their release, by the numbers of `CLK.ERR.UNIT` (R565). -/
  quiesce : List Nat := []
  ungate : List Nat := []
  /-- The Ostler domain is held for OFB; the fallback of the TB domain was not ready within 200 µs of the trip (R561). -/
  ostHold : Bool := false
  late8 : Bool := false
  ostLate : Bool := false
  /-- The power-loss record in the NOR store: TB.NOW, CYC, state, role (R552). -/
  lossRec : Option (Nat × Nat × Nat × Nat) := none
deriving DecidableEq, Repr

/-- The state of the block. -/
structure State where
  /-- The register file: every field of `Sys2Proof/Machine/Fields.lean`, as its difference from its reset value. -/
  regs : Sparse := {}
  /-- The shadow values of rwc fields, as their differences from the reset value (R5, R9). -/
  shadow : Sparse := {}
  /-- The register file as the fabric sampled it at the latest cycle-start token (R102). -/
  samp : Sparse := {}
  /-- The captures of accepted commits: the rwc values that a commit took and that wait for their apply point (R9). -/
  capt : Sparse := {}
  /-- The _HI latches, keyed by bank and address (R15, R524). -/
  latch : Sparse := {}
  /-- The Cellar: 8 GiB of bytes (R325). -/
  cellar : Memory := {}
  /-- The hidden state of Tb: see `TbSt`. -/
  tb : TbSt := {}
  /-- The hidden state of Glb: see `GlbSt`. -/
  glb : GlbSt := {}
  /-- The hidden state of Fc: see `FcSt`. -/
  fc : FcSt := {}
  /-- The hidden state of Hst: see `HstSt`. -/
  hst : HstSt := {}
  /-- The hidden state of Cl: see `ClSt`. -/
  cl : ClSt := {}
  /-- The hidden state of Sch: see `SchSt`. -/
  sch : SchSt := {}
  /-- The hidden state of Be: see `BeSt`. -/
  be : BeSt := {}
  /-- The hidden state of Ref: see `RefSt`. -/
  ref : RefSt := {}
  /-- The hidden state of Tly: see `TlySt`. -/
  tly : TlySt := {}
  /-- The hidden state of Cg: see `CgSt`. -/
  cg : CgSt := {}
  /-- The hidden state of Net: see `NetSt`. -/
  net : NetSt := {}
  /-- The hidden state of Wb: see `WbSt`. -/
  wb : WbSt := {}
  /-- The hidden state of Lmu: see `LmuSt`. -/
  lmu : LmuSt := {}
  /-- The hidden state of Sbu: see `SbuSt`. -/
  sbu : SbuSt := {}
  /-- The hidden state of Twn: see `TwnSt`. -/
  twn : TwnSt := {}
  /-- The hidden state of Rcp: see `RcpSt`. -/
  rcp : RcpSt := {}
  /-- The hidden state of Clk: see `ClkSt`. -/
  clk : ClkSt := {}
  /-- The counter of free values that the model has used: the model's own field (notes/assumptions/3). -/
  freeN : Nat := 0
  /-- What has left the block, oldest first: the model's own record of the pins and links (notes/assumptions/7). -/
  out : List Output := []
  /-- The commands that wait, first in first out. -/
  pending : List Instr := []
deriving DecidableEq, Repr

/-- The block right after the resets of the VAUX and VIN domains: every register at its reset column, BOOT with step
0x01 (R27), memory with nothing listed, no command waiting. -/
def State.reset : State := {}

end Sys2Proof.Machine
end

