-- ==== Sys2Proof/Machine/Ops.lean ====
section
/-! DEFINITION. The named operations over registers, memory and time that every meaning is built from: reading and
writing one register field, the time of R13 to R17, the event log of R328, host events (R525, R526), the access
gate of R3, R10, R28, R532 and R533. -/

namespace Sys2Proof.Machine

/-- What one command answers. -/
abbrev Res := Host.Outcome State Fault Refusal

/-! ### Register fields -/

/-- The value of a register field. -/
def State.rd (s : State) (f : Fld) : Nat := (s.regs.get f.key ^^^ f.reset) % 2 ^ f.w

/-- The field takes a value, cut to its width. -/
def State.wr (s : State) (f : Fld) (v : Nat) : State :=
  { s with regs := s.regs.set f.key ((v % 2 ^ f.w) ^^^ f.reset) }

/-- A one-bit field as a Bool. -/
def State.flag (s : State) (f : Fld) : Bool := s.rd f != 0

/-- A one-bit field takes a Bool. -/
def State.put (s : State) (f : Fld) (b : Bool) : State := s.wr f (b2n b)

/-- Several fields take values, in order. -/
def State.wrs (s : State) (l : List (Fld × Nat)) : State := l.foldl (fun s p => s.wr p.1 p.2) s

/-- A counter of its field's width that saturates goes up by `n`. -/
def State.inc (s : State) (f : Fld) (n : Nat := 1) : State := s.wr f (satAdd (2 ^ f.w - 1) (s.rd f) n)

/-- A counter that wraps at its field's width goes up by one. -/
def State.count (s : State) (f : Fld) : State := s.wr f (s.rd f + 1)

/-- One bit of a field. -/
def State.rdBit (s : State) (f : Fld) (i : Nat) : Bool := (s.rd f).testBit i

/-- One bit of a field takes a Bool. -/
def State.putBit (s : State) (f : Fld) (i : Nat) (b : Bool) : State :=
  s.wr f (if b then setBit (s.rd f) i else clearBit (s.rd f) i)

/-- The 64-bit value of a _LO/_HI pair. -/
def State.rd64 (s : State) (lo hi : Fld) : Nat := s.rd lo + s.rd hi * 2 ^ 32

/-- A _LO/_HI pair takes a 64-bit value. -/
def State.wr64 (s : State) (lo hi : Fld) (v : Nat) : State := (s.wr lo v).wr hi (v / 2 ^ 32)

/-- The shadow of an rwc field (R5). -/
def State.rdShadow (s : State) (f : Fld) : Nat := (s.shadow.get f.key ^^^ f.reset) % 2 ^ f.w

/-- The shadow of an rwc field takes a value. -/
def State.wrShadow (s : State) (f : Fld) (v : Nat) : State :=
  { s with shadow := s.shadow.set f.key ((v % 2 ^ f.w) ^^^ f.reset) }

/-- The captured value of an rwc field (R9). -/
def State.rdCapt (s : State) (f : Fld) : Nat := (s.capt.get f.key ^^^ f.reset) % 2 ^ f.w

/-- A commit takes the shadow of a field as it stands (R9). -/
def State.capture (s : State) (f : Fld) : State := { s with capt := s.capt.set f.key (s.shadow.get f.key) }

/-- The captured values of the fields become active. -/
def State.applyCapt (s : State) (fs : List Fld) : State := fs.foldl (fun s f => s.wr f (s.rdCapt f)) s

/-- The word at a register address as its difference from the reset word: the sum of the stored fields. -/
def State.rawWord (s : State) (addr : Nat) : Nat :=
  (List.range 32).foldl (fun a lo => a + s.regs.get (addr * 32 + lo) * 2 ^ lo) 0

/-- A field as the fabric sampled it at the latest cycle-start token (R102). -/
def State.smp (s : State) (f : Fld) : Nat := (s.samp.get f.key ^^^ f.reset) % 2 ^ f.w

/-- A one-bit field as sampled at the latest cycle-start token. -/
def State.smpFlag (s : State) (f : Fld) : Bool := s.smp f != 0

/-- `RCP.SECCRC[t]` of section type `t`, 1 to 6. -/
def secCrcFld (t : Nat) : Fld := F.RCP_SECCRC_CRC (t - 1)

/-- Lane `l` beside its registers. -/
def State.ln (s : State) (l : Nat) : LaneSt := s.cl.lanes.getD l {}

/-- Lane `l` changes. -/
def State.setLn (s : State) (l : Nat) (f : LaneSt → LaneSt) : State :=
  { s with cl := { s.cl with lanes := modifyPad {} f l s.cl.lanes } }

/-- The configured cell at global index `g`. -/
def State.cell? (s : State) (g : Nat) : Option CellSt := s.be.cells.find? (·.gidx == g)

/-- The cells that satisfy `p` change. -/
def State.mapCells (s : State) (p : CellSt → Bool) (f : CellSt → CellSt) : State :=
  { s with be := { s.be with cells := s.be.cells.map fun c => if p c then f c else c } }

/-- The cells of arm `n`, by ascending arm-local index. -/
def State.armCells (s : State) (n : Nat) : List CellSt :=
  sortBy (fun a b => decide (a.local_ ≤ b.local_)) (s.be.cells.filter (·.arm == n))

/-- Arm `n` beside its registers. -/
def State.arm (s : State) (n : Nat) : ArmSt := s.be.arms.getD n {}

/-- Arm `n` changes. -/
def State.setArm (s : State) (n : Nat) (f : ArmSt → ArmSt) : State :=
  { s with be := { s.be with arms := modifyPad {} f n s.be.arms } }

/-- Something leaves the block. -/
def State.emit (s : State) (o : Output) : State := { s with out := s.out ++ [o] }

/-- A free value of `w` bits (notes/assumptions/3) and the state after it is used. -/
def State.free (s : State) (w : Nat) : Nat × State :=
  (Config.freeValue s.freeN % 2 ^ w, { s with freeN := s.freeN + 1 })

/-- Apply `f` to the state for each element of a list, in order. -/
def forAll {α : Type} (l : List α) (f : α → State → State) (s : State) : State := l.foldl (fun s a => f a s) s

/-! ### Time (R13 to R17, R355) -/

/-- `TB.RATE` as a signed number. -/
def State.rate (s : State) : Int := signed 32 (s.rd F.TB_RATE_RATE)

/-- TB.RAW in whole ns. -/
def State.rawNs (s : State) : Nat := s.tb.raw / 2 ^ 16

/-- 2^16 × 10^9: the unit of `TB.RATE` (R14). -/
def rateUnit : Nat := 65536000000000

/-- TB.NOW in units of 2^−16 ns, as an integer, for a value of TB.RAW in the same unit (R355). -/
def State.nowFixAt (s : State) (raw : Nat) : Int :=
  ((raw : Int) * (rateUnit + s.rate)).fdiv rateUnit + s.tb.ofsx

/-- TB.NOW in ns, floor(TB.RAW × (1 + rate) + OFSX), before it is cut to 64 bits. -/
def State.nowInt (s : State) : Int :=
  (((s.tb.raw : Int) * (rateUnit + s.rate) + s.tb.ofsx * rateUnit).fdiv (rateUnit * 65536))

/-- TB.NOW as its 64-bit pattern. -/
def State.now (s : State) : Nat := unsigned 64 s.nowInt

/-- Arm cycles run (`SCH.CFG.RUNNING`). -/
def State.running (s : State) : Bool := s.flag F.SCH_CFG_RUNNING

/-- The cycle number, `SCH.CYC`. -/
def State.cyc (s : State) : Nat := s.rd F.SCH_CYC_CYC

/-- The cycle number that a record carries: 0 while arm cycles do not run (R21, R465). -/
def State.cycRec (s : State) : Nat := if s.running then s.cyc else 0

/-- The arm cycle length in ns of the active Recipe. -/
def State.armcyc (s : State) : Nat := s.rd F.SCH_CFG_ARMCYC

/-- The control period in arm cycles, M of the active Recipe. -/
def State.mper (s : State) : Nat := max 1 (s.rd F.SCH_CFG_M)

/-- Cycle `c` starts a control period (R93). -/
def State.isControl (s : State) (c : Nat) : Bool := unsigned 32 ((c : Int) - s.rd F.SCH_CPBASE_CYC) % s.mper = 0

/-- The first control-period start at or after cycle `c` (R93). -/
def State.controlAt (s : State) (c : Nat) : Nat :=
  (c + (s.mper - unsigned 32 ((c : Int) - s.rd F.SCH_CPBASE_CYC) % s.mper) % s.mper) % 2 ^ 32

/-! ### The device state and role -/

/-- `GLB.STATE.STATE` (R19). -/
def State.st (s : State) : Nat := s.rd F.GLB_STATE_STATE

/-- The state as the next command is judged against it: a state change that waits for the cycle start counts as made
(R26), a pending DEBLOCK apart (R24). -/
def State.eff (s : State) : Nat := match s.glb.pend with
  | some p => p.1
  | none => s.st

/-- Codes of R19. -/
abbrev stBOOT : Nat := 1
/-- DEFAULTS. -/
abbrev stDEFAULTS : Nat := 2
/-- LOADED. -/
abbrev stLOADED : Nat := 3
/-- LINKED. -/
abbrev stLINKED : Nat := 4
/-- ARMED. -/
abbrev stARMED : Nat := 5
/-- RUN. -/
abbrev stRUN : Nat := 6
/-- BLOCKED. -/
abbrev stBLOCKED : Nat := 7
/-- SAFE. -/
abbrev stSAFE : Nat := 8
/-- TEST. -/
abbrev stTEST : Nat := 15

/-- `GLB.ROLE.ROLE`. -/
def State.role (s : State) : Nat := s.rd F.GLB_ROLE_ROLE

/-- SOLO. -/
abbrev roSOLO : Nat := 0
/-- WAIT. -/
abbrev roWAIT : Nat := 1
/-- ACTIVE. -/
abbrev roACTIVE : Nat := 2
/-- STANDBY. -/
abbrev roSTANDBY : Nat := 3

/-- The active Recipe declares twin operation and the role is ACTIVE or STANDBY. -/
def State.twinned (s : State) : Bool := s.flag F.GLB_ROLE_TWIN && (s.role = roACTIVE || s.role = roSTANDBY)

/-- The unit refuses a carried write, as a standby of a declared twin (R148, R172, R219, R254). -/
def State.standbyWrite (s : State) : Bool := s.flag F.GLB_ROLE_TWIN && s.role = roSTANDBY

/-- `CG.PLEAD.CYC`: the lead of carried writes and commits (R145). -/
def State.plead (s : State) : Nat := s.rd F.CG_PLEAD_CYC

/-- The apply point of a commit accepted now (R145, R171): a control-period start. -/
def State.applyPoint (s : State) : Nat :=
  s.controlAt (s.cyc + if s.role = roACTIVE || s.role = roSTANDBY then s.plead else 1)

/-- An item waits for its apply cycle (R490). -/
def State.addItem (s : State) (at_ kind : Nat) (vals : List Nat) : State :=
  { s with twn := { s.twn with items := s.twn.items ++ [Item.mk at_ kind vals] } }

/-- Cycle `c` is the present cycle, the coming one, or past: an apply point that has come (R145). -/
def State.cycleDue (s : State) (c : Nat) : Bool := decide (cycDiff c s.cyc ≤ 1)

/-- The configured arms of the active Recipe: A0 to A(NARMS − 1). -/
def State.arms (s : State) : List Nat := List.range (min 12 (s.rd F.SCH_CFG_NARMS))

/-! ### The event log (R328) -/

/-- The first Cellar address of the event log partition (R325). -/
def logBase : Nat := 0x190000000

/-- The entries of the event-log ring. -/
def logSize : Nat := 8388608

/-- An entry of the event log: class, code and 12 data bytes, with TB.NOW, CYC and the CRC-32C. -/
def State.log (s : State) (cls code : Nat) (data : List Byte) : State :=
  let body := leBytes 8 s.now ++ leBytes 4 s.cycRec ++ leBytes 2 cls ++ leBytes 2 code ++ slice data 0 12
  { s with
    cellar := s.cellar.writeBytes (logBase + 32 * s.fc.logNext) (body ++ leBytes 4 (crc32c body))
    fc := { s.fc with logNext := (s.fc.logNext + 1) % logSize } }

/-- A class 2 entry: a state or role change; data: previous state, role, hold code (R328). -/
def State.logState (s : State) (new prev : Nat) : State :=
  s.log 2 new [BitVec.ofNat 8 prev, BitVec.ofNat 8 s.role, 0]

/-- A class 5 entry: a command judged; data: state, role, hold code (R328). -/
def State.logCommand (s : State) (code hold : Nat) : State :=
  s.log 5 code [BitVec.ofNat 8 s.st, BitVec.ofNat 8 s.role, BitVec.ofNat 8 hold]

/-! ### Host events (R525, R526) -/

/-- PF `fn` may send the message of vector `v`: MSI-X enabled, neither mask set, and not frozen (R526). -/
def State.msixOpen (s : State) (fn v : Nat) : Bool :=
  s.hst.msixEn.testBit fn && !s.hst.fnMask.testBit fn && (s.hst.vecMask.get (fn * 64 + v)).testBit 0
    && !s.rdBit F.HST_FRZ_FROZEN fn

/-- Function `fn` signals vector `v`: a message, or the pending bit while a mask holds it back. A frozen function
signals at its release instead (R526). -/
def State.signalPf (s : State) (fn v : Nat) : State :=
  if s.rdBit F.HST_FRZ_FROZEN fn || !s.hst.msixEn.testBit fn then s
  else if s.msixOpen fn v then s.emit (.msix fn v)
  else { s with hst := { s.hst with pba := s.hst.pba.set (fn * 64 + v) 1 } }

/-- Event `e` sets its bit in `HST.EVSTS` of every bank, and each bank signals a new enabled bit (R525, R526). -/
def State.event (s : State) (e : Nat) : State :=
  [0, 1, 2].foldl (fun s b =>
    let sts := F.HST_EVSTS_EV.inBank b
    let fresh := !s.rdBit sts e && s.rdBit (F.HST_EVEN_EN.inBank b) e
    let s := s.putBit sts e true
    if fresh then
      (if b = 2 then s.emit (.pin 6 false) else s.signalPf b (s.rd ((F.HST_EVVEC_VEC e).inBank b)))
    else s) s

/-! ### The Relay link -/

/-- The Relay link is UP (`TWN.STS.LSTATE`, R481). -/
def State.relayUp (s : State) : Bool := s.rd F.TWN_STS_LSTATE == 3

/-- A packet leaves on the Relay link, when it is UP (R480, R490). -/
def State.relay (s : State) (type : Nat) (payload : List Byte) : State :=
  if s.relayUp then s.emit (.relay type payload) else s

/-- A MSG item: its kind in the first byte (R490). -/
def State.carry (s : State) (kind : Nat) (payload : List Byte) : State :=
  if s.role = roACTIVE then s.relay 0x20 (BitVec.ofNat 8 kind :: payload) else s

/-! ### Access to registers: freeze, reach and view -/

/-- Master number `m` of R533 is frozen. -/
def State.frozen (s : State) (m : Nat) : Bool := s.rdBit F.HST_FRZ_FROZEN m

/-- The registers that the Ostler port reaches while VIN is off or before the end of step 0x01 (R540). -/
def vauxReach (addr : Nat) : Bool :=
  addr = 0x0 || addr = 0x4 ||
  (0x3A0000 ≤ addr && addr ≤ 0x3AFFFF) ||
  (0x3B0004 ≤ addr && addr ≤ 0x3B0018) || addr = 0x3B0000 || (0x3B0100 ≤ addr && addr < 0x3B0140) ||
  (0x3B0180 ≤ addr && addr < 0x3B0200) ||
  addr = 0x3C0068 || addr = 0x3C006C ||
  (0x10080 ≤ addr && addr < 0x100A0) || addr = 0x1004C ||
  addr = 0x3D0000 || addr = 0x3D0008 || addr = 0x3D000C || (0x3D0020 ≤ addr && addr < 0x3D0060) ||
  addr = 0x3D0080 || addr = 0x3D0084 ||
  (0x3E0000 ≤ addr && addr ≤ 0x3E000C)

/-- The access reaches the register (R28, R540): everything outside BOOT; in BOOT only `GLB.ID`, `GLB.STATE` and
`GLB.ROLE` from the end of step 0x01, and the list of R540 for the Ostler port. -/
def State.reach (s : State) (m : Master) (addr : Nat) : Bool :=
  if s.glb.vinOn && s.st != stBOOT then true
  else if m == .ost && vauxReach addr then true
  else s.glb.vinOn && s.rd F.GLB_STATE_STEP != 1 && (addr = 0 || addr = 4 || addr = 8)

/-- A write of the master is a violation under a view (R10, R532). -/
def State.writeBars (s : State) (m : Master) (v : View) : Bool :=
  m.owner = 1 && (v != .u || s.flag F.HST_PF1CFG_RO)

/-! ### Bookkeeping of refused writes -/

/-- A bit of `HST.WERR` is set with the master that set it. -/
def State.werr (s : State) (f : Fld) (m : Master) : State := (s.wr f 1).wr F.HST_WERR_MASTER m.bank

end Sys2Proof.Machine
end

