-- ==== Sys2Proof/Machine/Reactions.lean ====
section
/-! DEFINITION. What many commands share: a change of the device state (R21), an urgent block (R23, R44, R307), the
Ledger's triggers (R348, R349), standby readiness (R498), and the raise of a fault source with its reactions (R456 to
R465, R469, R474). -/

namespace Sys2Proof.Machine

/-! ### The Ledger's triggers -/

/-- The Ledger takes a state; a class 4 entry and the LEDGER event follow (R345, R525). -/
def ledgerState (n : Nat) (s : State) : State :=
  ((s.wr F.TLY_LSTS_STATE n).log 4 n []).event 11

/-- The cycle in which an event of this moment occurs: after the freeze of cycle k it is cycle k + 1 (R349). -/
def State.trigCycle (s : State) : Nat := (s.cyc + b2n s.sch.frozen) % 2 ^ 32

/-- The Ledger takes `kt` as its trigger cycle in FILL or ARMED, with the source bits `src` (R345, R349). The record of
the present trigger cycle is the next to be written, at `TLY.LHEAD`. -/
def ledgerTake (kt src : Nat) (s : State) : State :=
  let fill := s.rd F.TLY_LSTS_STATE == 1
  let cap := max 1 (s.rd F.TLY_LCAP_VAL)
  let rec_ := (((s.rd F.TLY_LHEAD_VAL : Int) + cycDiff kt s.trigCycle) % cap).toNat
  let s := s.wrs [(F.TLY_LTSRC_SRC, src), (F.TLY_LTCYC_VAL, kt), (F.TLY_LTREC_VAL, rec_), (F.TLY_LSTS_SHORTPRE, b2n fill)]
  let s := if kt = s.cyc then
      s.wr64 F.TLY_LTT_LO_VAL F.TLY_LTT_HI_VAL (s.rd64 F.TB_CYCST_LO_T F.TB_CYCST_HI_T) else s
  ledgerState 3 s

/-- A trigger source of R348 fires: bit `b`. -/
def ledgerFire (b : Nat) (s : State) : State :=
  if !s.rdBit F.TLY_LCFG_TRIGEN b then s
  else
    let t := s.tly
    let s := { s with tly := if s.sch.frozen then { t with firedNext := setBit t.firedNext b } else { t with fired := setBit t.fired b } }
    let kt := s.trigCycle
    let l := s.rd F.TLY_LSTS_STATE
    if l = 1 || l = 2 then
      let s := ledgerTake kt (2 ^ b) s
      -- a PARTNER trigger never returns to the sender (R349)
      if b != 5 && s.flag F.GLB_ROLE_TWIN then s.relay 0x20 (7 :: leBytes 4 kt) else s
    else if l = 3 && s.rd F.TLY_LTCYC_VAL = kt then s.putBit F.TLY_LTSRC_SRC b true
    else if l = 3 || l = 4 then s.inc F.TLY_LSTS_EXTRA
    else s

/-! ### LANTERN and standby readiness -/

/-- The LANTERN stop conditions and whether it runs (R476). -/
def lanternJudge (s : State) : State :=
  let react := s.flag F.FC_STS_HOV || s.flag F.FC_STS_BLK || s.flag F.FC_STS_TRIP
  let st := s.st
  let stopState := !(st = stLOADED || st = stLINKED || st = stARMED || st = stRUN || st = stBLOCKED)
  let ohb := s.flag F.FC_OHB_LOST
  let self := s.flag F.FC_STS_SELF
  ((((s.put F.FC_LANTERN_STOP_REACT react).put F.FC_LANTERN_STOP_STATE stopState).put F.FC_LANTERN_STOP_OHB ohb).put
    F.FC_LANTERN_STOP_SELF self).put F.FC_LANTERN_RUN (!react && !stopState && !ohb && !self)

/-! ### The state change -/

/-- The state takes a new value now: `GLB.STATE`, the time and cycle of the change, a class 2 entry, the STATE event
(R21, R328, R525), the SAFE trigger of the Ledger (R348). -/
def applyState (new step : Nat) (s : State) : State :=
  let prev := s.st
  let s := s.wrs [(F.GLB_STATE_PREV, prev), (F.GLB_STATE_STATE, new), (F.GLB_STATE_STEP, step),
    (F.GLB_STCYC_CYC, s.cycRec)]
  let s := s.wr64 F.GLB_STT_LO_T F.GLB_STT_HI_T s.now
  let s := (s.logState new prev).event 1
  let s := if new = stSAFE then ledgerFire 3 s else s
  lanternJudge s

/-- A state change: at the next cycle start once arm cycles run, otherwise at once (R21). -/
def changeState (new step : Nat) (s : State) : State :=
  if s.running then { s with glb := { s.glb with pend := some (new, step) } }
  else applyState new step { s with glb := { s.glb with pend := none } }

/-- The step code alone changes (R27). -/
def setStep (step : Nat) (s : State) : State := s.wr F.GLB_STATE_STEP step

/-! ### The urgent block -/

/-- The lanes of the arms in `mask` that send K28.3: READY or LOCKED (R307). -/
def State.blockLanes (s : State) (mask : Nat) : List Nat :=
  (List.range 128).filter fun l =>
    s.flag (F.CL_CFG_USED l) && mask.testBit (s.rd (F.CL_CFG_ARM l)) &&
      (s.rd (F.CL_STS_STATE l) = 6 || s.rd (F.CL_STS_STATE l) = 8)

/-- K28.3 on one lane; a lane in gap idle sends its fast-exit burst before it (R271). -/
def sendK283 (l : Nat) (s : State) : State :=
  let s := if s.flag (F.CL_STS_GAP l) then (s.wr (F.CL_STS_GAP l) 0).emit (.laneCode l 2 0) else s
  { s with cl := { s.cl with cut := setBit s.cl.cut l } }.emit (.k283 l)

/-- An urgent block of the arms in `mask` reaches the launcher: K28.3 on every READY or LOCKED lane of the arms that
have no block in progress (R44, R307, R459), UBLK to the partner from the active unit (R490), the UBLK trigger
(R348). -/
def urgentBlock (mask : Nat) (s : State) : State :=
  let fresh := mask &&& (mask ^^^ (mask &&& s.glb.blkArms))
  let s := forAll (s.blockLanes fresh) sendK283 s
  let s := { s with glb := { s.glb with blkArms := s.glb.blkArms ||| mask } }
  let s := if s.role = roACTIVE then s.relay 0x12 (leBytes 2 mask) else s
  ledgerFire 2 s

/-- A pending DEBLOCK ends with result "superseded" (R24). -/
def supersede (s : State) : State :=
  if s.glb.deblockPend then
    let s := { s with glb := { s.glb with deblockPend := false } }
    if s.rd F.GLB_CMDSTS_CODE = 4 then s.wr F.GLB_CMDSTS_RESULT 3 else s
  else s

/-- A running orderly block ends; a shutdown that ran it goes on with its step 3 (R25, R47). -/
def endOrderly (s : State) : State :=
  if s.glb.orderly then
    { s with glb := { s.glb with orderly := false, orderlyTmo := false, shutStep := if s.glb.shutStep = 0 then 0 else 3 } }
  else s

/-- An urgent block as the state machine sees it: every arm blocks, a pending DEBLOCK is superseded, an orderly block
ends, and RUN becomes BLOCKED (R22 to R25). -/
def blockAll (s : State) : State :=
  let s := endOrderly (supersede s)
  let s := urgentBlock 0xFFF s
  if s.eff = stRUN then changeState stBLOCKED 0x70 s else s

/-- The permit request to the SBU is withdrawn (R20, R442). -/
def permitWithdraw (s : State) : State :=
  { s with glb := { s.glb with permit := false } }

/-! ### Raising a source -/

/-- A source number that no chapter defines (R454, R455). -/
def reservedSource (fs : Nat) : Bool :=
  (24 ≤ fs && fs ≤ 31) || fs = 46 || fs = 47 || (54 ≤ fs && fs ≤ 63) || fs = 283 || (301 ≤ fs && fs ≤ 303) ||
  (312 ≤ fs && fs ≤ 315) || (325 ≤ fs && fs ≤ 335) || (357 ≤ fs && fs ≤ 367) || (389 ≤ fs && fs ≤ 399) ||
  (409 ≤ fs && fs ≤ 431) || fs = 447 || 456 ≤ fs

/-- The severity field of a source. -/
def sevField (fs : Nat) : Fld :=
  let w := fs / 8
  match fs % 8 with
  | 0 => F.FC_SEV_SEV0 w | 1 => F.FC_SEV_SEV1 w | 2 => F.FC_SEV_SEV2 w | 3 => F.FC_SEV_SEV3 w
  | 4 => F.FC_SEV_SEV4 w | 5 => F.FC_SEV_SEV5 w | 6 => F.FC_SEV_SEV6 w | _ => F.FC_SEV_SEV7 w

/-- The severity in effect: 6 and 7 act as 5; FS448 and FS449 have 5 (R457). -/
def State.sev (s : State) (fs : Nat) : Nat :=
  if fs = 448 || fs = 449 then 5 else min 5 (s.rd (sevField fs))

/-- The LIVE bit of a source. -/
def State.live (s : State) (fs : Nat) : Bool := s.rdBit (F.FC_LIVE_B (fs / 32)) (fs % 32)

/-- A source whose live bit clears "at once": every event of it is a raise (R456; the source tables of the owning
chapters). So do the events of FS36 to FS42, FS45, FS277, FS281 and FS443, of whose live bits the chapters say nothing
(notes/assumptions/105). -/
def atOnce (fs : Nat) : Bool :=
  ([15, 17, 23, 36, 37, 38, 39, 40, 41, 42, 45, 51, 277, 281, 443, 274, 276, 278, 279, 282, 290, 291, 296, 297, 298, 299, 309, 311, 375, 377, 378, 379, 381, 388,
    404, 405, 406, 407, 408, 453, 455] : List Nat).contains fs || (346 ≤ fs && fs ≤ 353)

/-- The cause word of a source's log entry: the cause register of its owner where its chapter defines one (R469). -/
def State.causeWord (s : State) (fs : Nat) : Nat :=
  if 64 ≤ fs && fs ≤ 191 then s.rawWord (0x18000C + 0x100 * (fs - 64))
  else if 192 ≤ fs && fs ≤ 215 then s.rawWord (0x100108 + 0x40 * (fs - 192))
  else if 216 ≤ fs && fs ≤ 223 then s.rawWord (0x41004 + 0x100 * (fs - 216))
  else if 224 ≤ fs && fs ≤ 247 && fs % 2 = 1 then s.rawWord (0x21098 + 0x400 * ((fs - 225) / 2))
  else if 248 ≤ fs && fs ≤ 271 then s.rawWord (0x21134 + 0x400 * ((fs - 248) / 2))
  else if 336 ≤ fs && fs ≤ 356 then s.rawWord 0x3A0004
  else 0

/-- A class 1 entry of source `fs`, unless the source has used up its entries of this second of TB.RAW (R469). -/
def logFault (fs sev : Nat) (real inj clear react first : Bool) (coinc : Nat) (s : State) : State :=
  let t := s.rawNs
  let recent := s.fc.logTimes.filter fun e => decide (t < e.2 + 1000000000)
  if s.rd F.FC_LOGCFG_RATE ≤ (recent.filter fun e => e.1 == fs).length then
    { s with fc := { s.fc with logTimes := recent } }.inc F.FC_CNT_LOGSUP
  else
    let fl := b2n real + 2 * b2n inj + 4 * b2n clear + 8 * b2n react + 16 * b2n first
    ({ s with fc := { s.fc with logTimes := recent ++ [(fs, t)] } }).log 1 fs
      ([BitVec.ofNat 8 sev, BitVec.ofNat 8 fl] ++ leBytes 2 (min 0xFFFF coinc) ++ leBytes 4 (s.causeWord fs))

/-- The LIVE bit follows the owner's condition or a held injection; a change to 0 may write an entry (R463, R469). -/
def liveUpdate (fs : Nat) (s : State) : State :=
  let on := s.fc.cond.contains fs || s.fc.held.contains fs
  if on = s.live fs then s
  else
    let s := s.putBit (F.FC_LIVE_B (fs / 32)) (fs % 32) on
    let s := s.put F.FC_STS_LIVEANY (!s.fc.cond.isEmpty || !s.fc.held.isEmpty)
    if !on && s.flag F.FC_LOGCFG_CLRLOG then
      logFault fs (s.sev fs) (s.rdBit (F.FC_REAL_B (fs / 32)) (fs % 32)) (s.rdBit (F.FC_INJB_B (fs / 32)) (fs % 32))
        true false false 0 s
    else s

/-- The wired path of R470: every arm blocks, the permit request is withdrawn, SAFE except in TEST, SELF set. -/
def selfFault (s : State) : State :=
  let s := (s.wr F.FC_STS_SELF 1).wr F.FC_STS_SELFSEEN 1
  let s := permitWithdraw (blockAll s)
  let s := if s.eff = stTEST || s.eff = stSAFE then s else changeState stSAFE 0x80 s
  lanternJudge s

/-- The latched flags of levels above `lo` up to `sev` (R458). -/
def latchFlags (lo sev : Nat) (s : State) : State :=
  let s := if lo < 2 && 2 ≤ sev then s.wr F.FC_STS_DEG 1 else s
  let s := if lo < 3 && 3 ≤ sev then s.wr F.FC_STS_HOV 1 else s
  let s := if lo < 4 && 4 ≤ sev then s.wr F.FC_STS_BLK 1 else s
  if lo < 5 && 5 ≤ sev then s.wr F.FC_STS_TRIP 1 else s

/-- The reactions of severity `sev` above level `lo` (R458, R461, R462). -/
def react (lo sev : Nat) (s : State) : State :=
  let s := if lo < 1 && 1 ≤ sev then s.event 0 else s
  if s.eff = stBOOT then s
  else if s.eff = stSAFE && sev = 5 then s.wr F.FC_STS_TRIP 1
  else
    let s := latchFlags lo sev s
    -- S2: the degraded mark; S3: the takeover request, from the active unit alone (R458)
    let s := if lo < 2 && 2 ≤ sev && (s.role = roACTIVE || s.role = roSTANDBY) then s.relay 0x13 [1] else s
    let s := if lo < 3 && 3 ≤ sev && s.role = roACTIVE then s.relay 0x10 [] else s
    let s := if lo < 4 && 4 ≤ sev then blockAll s else s
    let s := if lo < 5 && 5 ≤ sev then
        (if s.eff = stTEST then permitWithdraw s else changeState stSAFE 0x80 (permitWithdraw s)) else s
    lanternJudge s

/-- The first-fault record captures a raise, when it is empty (R465). -/
def captureFirst (fs sev : Nat) (inj : Bool) (coinc : Nat) (s : State) : State :=
  let s := s.wrs [(F.FC_FIRST_SRC, fs), (F.FC_FIRST_SEV, sev), (F.FC_FIRST_INJ, b2n inj), (F.FC_FIRST_VALID, 1),
    (F.FC_FIRST_COINC, min 255 coinc), (F.FC_STS_FIRSTV, 1), (F.FC_FIRSTCYC_VAL, s.cycRec)]
  s.wr64 F.FC_FIRSTT_LO_VAL F.FC_FIRSTT_HI_VAL s.now

/-- One raise of a slot: its bits, its reaction, its log entry, the FAULT and LATE triggers of the Ledger (R348,
R458, R463, R469, R474). -/
def raiseOne (fs sev : Nat) (real inj first : Bool) (coinc : Nat) (s : State) : State :=
  let w := fs / 32
  let b := fs % 32
  let s := s.putBit (F.FC_STICKY_S w) b true
  let s := if real then s.putBit (F.FC_REAL_B w) b true else s
  let s := if inj then s.putBit (F.FC_INJB_B w) b true else s
  let s := s.inc F.FC_CNT_RAISES
  -- a raise of S3 or above aborts a rehearsal (R514)
  let s := if 3 ≤ sev then { s with twn := { s.twn with reh := s.twn.reh.map fun r => { r with abort := true } } } else s
  let acts := real || s.flag F.FC_TEST_INJ_REACT
  let s := if !acts then s else if fs = 448 || fs = 449 then selfFault s else react 0 sev s
  let s := if min 5 (s.rd F.TLY_LTRIG_SEV) ≤ sev then ledgerFire 1 s else s
  let s := if 224 ≤ fs && fs ≤ 247 && fs % 2 = 0 then ledgerFire 10 s else s
  logFault fs sev real inj false acts first coinc s

/-- The raise that the first-fault record takes of the qualifying ones `l`, and what COINC then counts (R465): the lowest source of
the slot, whether the raises of that slot arrive in one command or in several. A slot is 8 ns of TB.NOW. -/
def State.firstOf (s : State) (l : List (Nat × Nat × Bool × Bool)) : Option (Nat × Nat × Bool × Bool) × Nat :=
  if !s.flag F.FC_FIRST_VALID then (l.head?, l.length - 1)
  else if (s.rd64 F.FC_FIRSTT_LO_VAL F.FC_FIRSTT_HI_VAL) / 8 != s.now / 8 then (none, s.rd F.FC_FIRST_COINC)
  else
    let src := s.rd F.FC_FIRST_SRC
    (l.head?.filter fun x => decide (x.1 < src), s.rd F.FC_FIRST_COINC + (l.filter fun x => x.1 != src).length)

/-- The raises of one slot of 8 ns, each with its severity at arrival, ascending by source (R456, R465, R478). -/
def raiseSlot (l : List (Nat × Bool × Bool)) (s : State) : State :=
  let items := l.map fun x => (x.1, s.sev x.1, x.2.1, x.2.2)
  let found := s.firstOf (items.filter fun x => x.2.2.1 || s.flag F.FC_TEST_INJ_REACT)
  let first := found.1
  let s := match first with
    | some x => captureFirst x.1 x.2.1 (x.2.2.2 && !x.2.2.1) found.2 s
    | none => s.wr F.FC_FIRST_COINC (min 255 found.2)
  items.foldl (fun s x =>
    raiseOne x.1 x.2.1 x.2.2.1 x.2.2.2 (first.any fun y => y.1 == x.1) (items.length - 1) s) s

/-- Standby readiness (R498): cause HEALTH follows the latched flags, NOT_READY follows the causes, and its change
raises FS374 and sets event TWIN. -/
def readyJudge (s : State) : State :=
  let health := s.flag F.FC_STS_HOV || s.flag F.FC_STS_BLK || s.flag F.FC_STS_TRIP || s.flag F.FC_STS_SELF
  let s := s.putBit F.TWN_NRCAUSE_CAUSE 7 health
  if s.role != roSTANDBY then
    let s := s.wr F.GLB_ROLE_NOT_READY 0
    if s.fc.cond.contains 374 then liveUpdate 374 { s with fc := { s.fc with cond := s.fc.cond.filter (· != 374) } } else s
  else
    let nr := s.rd F.TWN_NRCAUSE_CAUSE != 0
    let was := s.flag F.GLB_ROLE_NOT_READY
    let s := s.put F.GLB_ROLE_NOT_READY nr
    if nr && !was then
      let s := (s.event 14).event 1
      let s := liveUpdate 374 { s with fc := { s.fc with cond := 374 :: s.fc.cond.filter (· != 374) } }
      raiseSlot [(374, true, false)] s
    else if !nr && was then
      liveUpdate 374 { (s.event 14).event 1 with fc := { s.fc with cond := s.fc.cond.filter (· != 374) } }
    else s

/-- An occurrence of a source's event. A source that is a condition is raised when its live bit changes from 0 to 1;
a source whose live bit clears at once is raised every time (R456). The collector runs on VIN (R540, R549). -/
def raise (fs : Nat) (s : State) : State :=
  if reservedSource fs || !s.glb.vinOn then s
  else if atOnce fs then readyJudge (raiseSlot [(fs, true, false)] s)
  else if s.fc.cond.contains fs then s
  else
    let s := { s with fc := { s.fc with cond := fs :: s.fc.cond } }
    readyJudge (raiseSlot [(fs, true, false)] (liveUpdate fs s))

/-- The condition of a source ends (R463). -/
def unraise (fs : Nat) (s : State) : State :=
  if s.fc.cond.contains fs then
    liveUpdate fs { s with fc := { s.fc with cond := s.fc.cond.filter (· != fs) } }
  else s

/-- An event of a condition source whose every event its rule counts as a raise (FS444, R336). -/
def raiseEach (fs : Nat) (s : State) : State :=
  if s.fc.cond.contains fs then readyJudge (raiseSlot [(fs, true, false)] s) else raise fs s

/-- The sources whose live bit clears after a cycle without their event (R224, R352). -/
def cycleSources : List Nat := [433, 434, 435, 436, 438] ++ (List.range 24).map (192 + ·)

/-- An event of a source that clears at the next cycle without it (R352). -/
def raiseInCycle (fs : Nat) (s : State) : State :=
  raise fs { s with fc := { s.fc with seen := fs :: s.fc.seen.filter (· != fs) } }

/-- At a cycle start: of the sources in `l`, those without their event in the cycle that ends clear (R352). -/
def clearInCycle (l : List Nat) (s : State) : State :=
  let gone := l.filter fun fs => !s.fc.seen.contains fs
  let s := forAll gone unraise s
  { s with fc := { s.fc with seen := s.fc.seen.filter fun fs => !l.contains fs } }

/-- A source's condition holds or not. -/
def condition (fs : Nat) (on : Bool) (s : State) : State := if on then raise fs s else unraise fs s

/-! ### The access gate of a command that is a register write -/

/-- A violation by master `m`: the offending access has no effect, the master is frozen, the first violation is
recorded, FS(400 + m) is raised, event FREEZE is set (R533). `kind`: 0 view, 1 partition, 2 RO. -/
def violation (m : Master) (addr kind : Nat) (write : Bool) (s : State) : State :=
  let o := m.owner
  let dma := m.bank == 3
  let s := if s.frozen o then s else
    let s := s.wrs [(F.HST_VIOL_ADDR_ADDR o, addr), (F.HST_VIOL_INFO_KIND o, kind),
      (F.HST_VIOL_INFO_WRITE o, b2n write), (F.HST_VIOL_INFO_DMA o, b2n dma)]
    let s := s.wr64 (F.HST_VIOL_T_LO_T o) (F.HST_VIOL_T_HI_T o) s.now
    (s.putBit F.HST_FRZ_FROZEN o true).inc F.HST_FRZ_COUNT
  (raise (400 + o) s).event 16

/-- The status bit of unit `u`. -/
def gatedBit (u : Nat) : Fld × Nat := if u < 32 then (F.CLK_GSTS0_LG, u) else (F.CLK_GSTS1_UNITS, u - 32)

/-- The gate of unit `u` is closed. -/
def State.gated (s : State) (u : Nat) : Bool := s.rdBit (gatedBit u).1 (gatedBit u).2

/-- The gated unit that the registers at `addr` belong to. -/
def gateUnitOf (addr : Nat) : Option Nat :=
  if 0x180000 ≤ addr && addr < 0x188000 then some ((addr - 0x180000) / 0x400)
  else if 0x340100 ≤ addr && addr < 0x340300 then some (32 + (addr - 0x340100) / 0x80)
  else if 0x3C0000 ≤ addr && addr < 0x3C0068 then some 36
  else if 0x380040 ≤ addr && addr < 0x380060 then some (37 + (addr - 0x380040) / 0x10)
  else if 0x380100 ≤ addr && addr < 0x380180 then some (37 + (addr - 0x380100) / 0x40)
  else none

/-- The register at `addr` belongs to a gated unit: that unit (R565). -/
def State.gatedAt (s : State) (addr : Nat) : Option Nat :=
  match gateUnitOf addr with
  | some u => if s.gated u then some u else none
  | none => none

/-- An access to a gated unit (R565). -/
def gateAccess (u : Nat) (s : State) : State := s.wrs [(F.CLK_ERR_GACC, 1), (F.CLK_ERR_UNIT, u)]

/-- A register write at the arbiter with view `v` at `addr`: dropped for a frozen master (R533), without effect where
it does not reach the register (R28, R540) or its unit is gated (R565), a violation where R10 or R532 says so, else it has the
effect `k`. -/
def gate (m : Master) (v : View) (addr : Nat) (k : State → State) (s : State) : State :=
  if s.frozen m.owner then s
  else if !s.reach m addr then s
  else match s.gatedAt addr with
  | some u => gateAccess u s
  | none =>
  if s.writeBars m v then violation m addr (if v == .u then 2 else 0) true s
  else k s

end Sys2Proof.Machine
end

