-- ==== Sys2Proof/Machine/RegTable.lean ====
section
/-! DEFINITION. The register tables of spec/00 to spec/19 as data: for every register its place in the map, its array
strides and counts, and each field's place, access code, view, reset value and layer marks (R3 to R5, R10, R11, R575,
R577). The generic register access of `Sys2Proof/Machine/Bus.lean` reads them. -/

namespace Sys2Proof.Machine

/-- The registers of block GLB that spec/00_scope.md gives. -/
def regsGlb00 : List RegSpec := [
  -- GLB.ID
  ⟨0x0, [], [⟨16, 16, .ro, .a, .const 33170, false, false⟩,
    ⟨8, 8, .ro, .a, .const 66, false, false⟩,
    ⟨4, 4, .ro, .a, .const 1, false, false⟩]⟩]

/-- The registers of block GLB that spec/01_operating_states.md gives. -/
def regsGlb01 : List RegSpec := [
  -- GLB.STATE
  ⟨0x4, [], [⟨0, 4, .ro, .a, .const 1, false, false⟩,
    ⟨4, 4, .ro, .a, .const 0, false, false⟩,
    ⟨8, 8, .ro, .a, .const 1, false, false⟩,
    ⟨16, 1, .ro, .a, .const 0, false, false⟩]⟩,
  -- GLB.ROLE
  ⟨0x8, [], [⟨0, 2, .ro, .a, .const 1, false, false⟩,
    ⟨2, 1, .ro, .a, .const 0, false, false⟩,
    ⟨3, 1, .ro, .a, .const 0, false, false⟩,
    ⟨4, 1, .ro, .a, .const 0, false, false⟩,
    ⟨5, 1, .ro, .a, .const 0, false, false⟩,
    ⟨16, 16, .ro, .a, .const 0, false, false⟩]⟩,
  -- GLB.CMD
  ⟨0xc, [], [⟨0, 8, .wo, .p, .const 0, false, false⟩,
    ⟨8, 8, .wo, .p, .const 0, false, false⟩,
    ⟨16, 16, .wo, .p, .const 0, false, false⟩]⟩,
  -- GLB.CMDSTS
  ⟨0x10, [], [⟨0, 8, .ro, .a, .const 0, false, false⟩,
    ⟨8, 2, .ro, .a, .const 0, false, false⟩,
    ⟨10, 1, .w1c, .a, .const 0, false, false⟩,
    ⟨16, 8, .ro, .a, .const 0, false, false⟩,
    ⟨24, 8, .ro, .a, .const 0, false, false⟩]⟩,
  -- GLB.OPBLK
  ⟨0x14, [], [⟨0, 1, .w1s, .u, .const 0, false, false⟩]⟩,
  -- GLB.AUTO
  ⟨0x18, [], [⟨0, 1, .rwl, .p, .const 1, true, false⟩,
    ⟨1, 1, .rwl, .p, .const 1, true, false⟩,
    ⟨2, 1, .rwl, .p, .const 0, true, false⟩]⟩,
  -- GLB.LINKTMO
  ⟨0x1c, [], [⟨0, 16, .rwl, .p, .const 2000, true, false⟩]⟩,
  -- GLB.DBCHK
  ⟨0x20, [], [⟨0, 16, .rw, .p, .const 0, true, false⟩,
    ⟨16, 1, .rw, .p, .const 0, true, false⟩,
    ⟨17, 1, .rw, .p, .const 0, true, false⟩]⟩,
  -- GLB.STT_LO
  ⟨0x24, [], [⟨0, 32, .ro, .a, .const 0, false, false⟩]⟩,
  -- GLB.STT_HI
  ⟨0x28, [], [⟨0, 32, .ro, .a, .const 0, false, false⟩]⟩,
  -- GLB.STCYC
  ⟨0x2c, [], [⟨0, 32, .ro, .a, .const 0, false, false⟩]⟩,
  -- GLB.OBLKTMO
  ⟨0x30, [], [⟨0, 16, .rw, .p, .const 500, true, false⟩]⟩]

/-- The registers of block RCP that spec/02_recipe.md gives. -/
def regsRcp02 : List RegSpec := [
  -- RCP.CMD
  ⟨0x10000, [], [⟨0, 8, .wo, .p, .const 0, false, false⟩,
    ⟨8, 4, .wo, .p, .const 0, false, false⟩,
    ⟨16, 16, .wo, .p, .const 0, false, false⟩]⟩,
  -- RCP.STS
  ⟨0x10004, [], [⟨0, 1, .ro, .a, .const 0, false, false⟩,
    ⟨1, 3, .ro, .a, .const 0, false, false⟩,
    ⟨4, 1, .ro, .a, .const 0, false, false⟩,
    ⟨5, 2, .ro, .a, .const 3, false, false⟩,
    ⟨7, 1, .w1c, .a, .const 0, false, false⟩,
    ⟨8, 1, .ro, .a, .const 0, false, false⟩,
    ⟨9, 2, .ro, .a, .const 0, false, false⟩,
    ⟨11, 2, .ro, .a, .const 0, false, false⟩]⟩,
  -- RCP.RESULT
  ⟨0x10008, [], [⟨0, 8, .ro, .a, .const 0, false, false⟩,
    ⟨8, 3, .ro, .a, .const 0, false, false⟩,
    ⟨16, 8, .ro, .a, .const 0, false, false⟩,
    ⟨24, 8, .ro, .a, .const 0, false, false⟩]⟩,
  -- RCP.ERROFS
  ⟨0x1000c, [], [⟨0, 32, .ro, .a, .const 0, false, false⟩]⟩,
  -- RCP.ACT_VER
  ⟨0x1001c, [], [⟨0, 32, .ro, .a, .const 0, false, false⟩]⟩,
  -- RCP.COMMIT_CYC
  ⟨0x10044, [], [⟨0, 32, .ro, .a, .const 0, false, false⟩]⟩,
  -- RCP.MINVER
  ⟨0x1004c, [], [⟨0, 32, .ro, .a, .const 0, false, false⟩]⟩,
  -- RCP.STAGE_LEN
  ⟨0x10010, [], [⟨0, 25, .rw, .p, .const 0, false, false⟩]⟩,
  -- RCP.ACT_ID_LO
  ⟨0x10014, [], [⟨0, 32, .ro, .a, .const 0, false, false⟩]⟩,
  -- RCP.ACT_ID_HI
  ⟨0x10018, [], [⟨0, 32, .ro, .a, .const 0, false, false⟩]⟩,
  -- RCP.SECCRC
  ⟨0x10020, [(0x4, 6)], [⟨0, 32, .ro, .a, .const 0, false, false⟩]⟩,
  -- RCP.SBUCRC
  ⟨0x10038, [], [⟨0, 32, .ro, .a, .const 0, false, false⟩]⟩,
  -- RCP.SAFEACK
  ⟨0x1003c, [], [⟨0, 32, .wo, .p, .const 0, false, false⟩]⟩,
  -- RCP.SAFETMO
  ⟨0x10040, [], [⟨0, 16, .rw, .p, .const 600, true, false⟩]⟩,
  -- RCP.BOOTSEL
  ⟨0x10048, [], [⟨0, 1, .rw, .p, .const 0, true, false⟩,
    ⟨1, 1, .rw, .p, .const 0, true, false⟩]⟩,
  -- RCP.TWINCFG
  ⟨0x10050, [], [⟨0, 16, .rw, .p, .const 2000, true, false⟩,
    ⟨16, 1, .rw, .p, .const 1, true, false⟩]⟩,
  -- RCP.SLOT.STS
  ⟨0x10060, [(0x10, 2)], [⟨0, 1, .ro, .a, .const 0, false, false⟩,
    ⟨1, 1, .ro, .a, .const 0, false, false⟩]⟩,
  -- RCP.SLOT.VER
  ⟨0x10064, [(0x10, 2)], [⟨0, 32, .ro, .a, .const 0, false, false⟩]⟩,
  -- RCP.SLOT.ID_LO
  ⟨0x10068, [(0x10, 2)], [⟨0, 32, .ro, .a, .const 0, false, false⟩]⟩,
  -- RCP.SLOT.ID_HI
  ⟨0x1006c, [(0x10, 2)], [⟨0, 32, .ro, .a, .const 0, false, false⟩]⟩,
  -- RCP.KEY.STS
  ⟨0x10080, [(0x8, 4)], [⟨0, 2, .ro, .a, .const 0, false, false⟩]⟩,
  -- RCP.KEY.KEYID
  ⟨0x10084, [(0x8, 4)], [⟨0, 32, .ro, .a, .const 0, false, false⟩]⟩,
  -- RCP.KEYBUF
  ⟨0x100a0, [(0x4, 16)], [⟨0, 32, .wo, .p, .const 0, false, false⟩]⟩,
  -- RCP.HOUSE
  ⟨0x100e0, [], [⟨0, 1, .ro, .a, .const 0, false, false⟩,
    ⟨1, 1, .ro, .a, .const 0, false, false⟩,
    ⟨2, 1, .ro, .a, .const 0, false, false⟩,
    ⟨3, 1, .ro, .a, .const 0, false, false⟩,
    ⟨16, 16, .ro, .a, .const 0, false, false⟩]⟩,
  -- RCP.HOUSE_LEN
  ⟨0x100e4, [], [⟨0, 13, .rw, .p, .const 0, false, false⟩]⟩]

/-- The registers of block SCH that spec/03_arm_cycle.md gives. -/
def regsSch03 : List RegSpec := [
  -- SCH.CFG
  ⟨0x20000, [], [⟨0, 17, .ro, .a, .const 0, false, false⟩,
    ⟨17, 5, .ro, .a, .const 0, false, false⟩,
    ⟨22, 2, .ro, .a, .const 0, false, false⟩,
    ⟨24, 4, .ro, .a, .const 0, false, false⟩,
    ⟨28, 1, .ro, .a, .const 0, false, false⟩]⟩,
  -- SCH.CYC
  ⟨0x20004, [], [⟨0, 32, .ro, .a, .const 0, false, false⟩]⟩,
  -- SCH.CPBASE
  ⟨0x20008, [], [⟨0, 32, .ro, .a, .const 0, false, false⟩]⟩,
  -- SCH.ALLOW
  ⟨0x2000c, [], [⟨0, 12, .rwl, .p, .const 250, true, false⟩,
    ⟨16, 8, .rwl, .p, .const 10, true, false⟩]⟩,
  -- SCH.GUARD
  ⟨0x20010, [], [⟨0, 12, .rwl, .p, .const 200, true, false⟩]⟩,
  -- SCH.ACCEPT
  ⟨0x20014, [], [⟨0, 4, .ro, .a, .const 0, false, false⟩,
    ⟨8, 4, .ro, .a, .const 0, false, false⟩,
    ⟨16, 16, .ro, .a, .const 0, false, false⟩]⟩,
  -- SCH.SLKVER
  ⟨0x20018, [], [⟨0, 1, .ro, .a, .const 0, false, false⟩,
    ⟨1, 1, .ro, .a, .const 0, false, false⟩,
    ⟨2, 2, .ro, .a, .const 0, false, false⟩,
    ⟨16, 16, .ro, .a, .const 0, false, false⟩]⟩,
  -- SCH.REPL
  ⟨0x2001c, [], [⟨0, 16, .ro, .a, .const 0, false, false⟩,
    ⟨16, 6, .ro, .a, .const 0, false, false⟩,
    ⟨22, 1, .w1c, .a, .const 0, false, false⟩,
    ⟨23, 1, .w1c, .a, .const 0, false, false⟩]⟩,
  -- SCH.CTL
  ⟨0x20020, [], [⟨0, 1, .w1s, .u, .const 0, false, false⟩,
    ⟨1, 1, .w1s, .u, .const 0, false, false⟩,
    ⟨2, 1, .w1s, .p, .const 0, false, false⟩]⟩,
  -- SCH.LATEARMS
  ⟨0x20024, [], [⟨0, 12, .ro, .a, .const 0, false, false⟩]⟩]

/-- The registers of block ARM that spec/03_arm_cycle.md gives. -/
def regsArm03 : List RegSpec := [
  -- ARM.STS
  ⟨0x21000, [(0x400, 12)], [⟨0, 1, .w1c, .a, .const 0, false, false⟩,
    ⟨1, 1, .w1c, .a, .const 0, false, false⟩,
    ⟨2, 2, .ro, .a, .const 0, false, false⟩,
    ⟨4, 1, .ro, .a, .const 0, false, false⟩,
    ⟨5, 1, .ro, .a, .const 0, false, false⟩]⟩,
  -- ARM.DL
  ⟨0x21004, [(0x400, 12)], [⟨0, 20, .ro, .a, .const 0, false, false⟩]⟩,
  -- ARM.ULCUT
  ⟨0x21008, [(0x400, 12)], [⟨0, 20, .ro, .a, .const 0, false, false⟩]⟩,
  -- ARM.DLV
  ⟨0x2100c, [(0x400, 12)], [⟨0, 20, .ro, .a, .const 0, false, false⟩]⟩,
  -- ARM.CHAIN
  ⟨0x21010, [(0x400, 12)], [⟨0, 20, .ro, .a, .const 0, false, false⟩]⟩,
  -- ARM.DONE
  ⟨0x21014, [(0x400, 12)], [⟨0, 20, .ro, .a, .const 0, false, false⟩]⟩,
  -- ARM.SLACK
  ⟨0x21018, [(0x400, 12)], [⟨0, 32, .ro, .a, .const 0, false, false⟩]⟩,
  -- ARM.SLACKMIN
  ⟨0x2101c, [(0x400, 12)], [⟨0, 32, .ro, .a, .const 2147483647, false, false⟩]⟩,
  -- ARM.LATECNT
  ⟨0x21020, [(0x400, 12)], [⟨0, 16, .ro, .a, .const 0, false, false⟩,
    ⟨16, 16, .ro, .a, .const 0, false, false⟩]⟩,
  -- ARM.WCB
  ⟨0x21024, [(0x400, 12)], [⟨0, 16, .ro, .a, .const 0, false, false⟩,
    ⟨16, 16, .ro, .a, .const 0, false, false⟩]⟩]

/-- The registers of block CG that spec/04_control_graph.md gives. -/
def regsCg04 : List RegSpec := [
  -- CG.CTL
  ⟨0x40000, [], [⟨0, 1, .w1s, .p, .const 0, false, false⟩,
    ⟨1, 1, .w1s, .p, .const 0, false, false⟩,
    ⟨2, 1, .rw, .p, .const 0, false, false⟩]⟩,
  -- CG.STS
  ⟨0x40004, [], [⟨0, 1, .ro, .a, .const 0, false, false⟩,
    ⟨1, 1, .w1c, .a, .const 0, false, false⟩,
    ⟨2, 1, .ro, .a, .const 0, false, false⟩,
    ⟨3, 2, .ro, .a, .const 0, false, false⟩,
    ⟨5, 1, .w1c, .a, .const 0, false, false⟩,
    ⟨6, 1, .w1c, .a, .const 0, false, false⟩,
    ⟨7, 1, .ro, .a, .const 0, false, false⟩,
    ⟨8, 1, .ro, .a, .const 1, false, false⟩]⟩,
  -- CG.PSTS
  ⟨0x40008, [], [⟨0, 1, .ro, .a, .const 0, false, false⟩,
    ⟨1, 1, .w1c, .a, .const 0, false, false⟩,
    ⟨2, 1, .w1c, .a, .const 0, false, false⟩]⟩,
  -- CG.PAPPLY
  ⟨0x4000c, [], [⟨0, 32, .ro, .a, .const 0, false, false⟩]⟩,
  -- CG.RUNCYC
  ⟨0x40010, [], [⟨0, 32, .ro, .a, .const 0, false, false⟩]⟩,
  -- CG.RUNT
  ⟨0x40014, [], [⟨0, 32, .ro, .a, .const 0, false, false⟩]⟩,
  -- CG.RUNTMAX
  ⟨0x40018, [], [⟨0, 32, .ro, .a, .const 0, false, false⟩]⟩,
  -- CG.BUDGET
  ⟨0x4001c, [], [⟨0, 24, .ro, .a, .const 0, false, false⟩]⟩,
  -- CG.MARGIN
  ⟨0x40020, [], [⟨0, 32, .ro, .a, .const 0, false, false⟩]⟩,
  -- CG.GUARD
  ⟨0x40024, [], [⟨0, 12, .rwl, .p, .const 500, true, false⟩]⟩,
  -- CG.PLEAD
  ⟨0x40028, [], [⟨0, 8, .rw, .p, .const 8, true, false⟩]⟩,
  -- CG.TS
  ⟨0x4002c, [], [⟨0, 32, .ro, .a, .const 0, false, false⟩]⟩,
  -- CG.GINFO0
  ⟨0x40030, [], [⟨0, 13, .ro, .a, .const 0, false, false⟩,
    ⟨16, 14, .ro, .a, .const 0, false, false⟩]⟩,
  -- CG.GINFO1
  ⟨0x40034, [], [⟨0, 16, .ro, .a, .const 0, false, false⟩,
    ⟨16, 11, .ro, .a, .const 0, false, false⟩]⟩,
  -- CG.GINFO2
  ⟨0x40038, [], [⟨0, 21, .ro, .a, .const 0, false, false⟩,
    ⟨22, 10, .ro, .a, .const 0, false, false⟩]⟩,
  -- CG.TRCFG
  ⟨0x40040, [], [⟨0, 1, .rw, .p, .const 0, true, false⟩,
    ⟨1, 1, .w1s, .p, .const 0, false, false⟩,
    ⟨8, 8, .rw, .p, .const 0, true, false⟩,
    ⟨16, 9, .rw, .p, .const 0, false, false⟩]⟩,
  -- CG.TRSTS
  ⟨0x40044, [], [⟨0, 1, .ro, .a, .const 0, false, false⟩,
    ⟨1, 1, .ro, .a, .const 0, false, false⟩]⟩,
  -- CG.TRPTR
  ⟨0x40048, [], [⟨0, 29, .ro, .a, .const 0, false, false⟩]⟩,
  -- CG.HIN
  ⟨0x42000, [(0x4, 64)], [⟨0, 32, .rw, .u, .const 0, false, false⟩]⟩,
  -- CG.HOUT
  ⟨0x42100, [(0x4, 64)], [⟨0, 32, .ro, .a, .const 0, false, false⟩]⟩,
  -- CG.TRSEL
  ⟨0x42200, [(0x4, 256)], [⟨0, 13, .rw, .p, .const 0, false, false⟩]⟩,
  -- CG.SIG
  ⟨0x48000, [(0x4, 8192)], [⟨0, 32, .ro, .a, .const 0, false, false⟩]⟩,
  -- CG.PAR
  ⟨0x50000, [(0x4, 49152)], [⟨0, 32, .rwc, .a, .const 0, false, false⟩]⟩]

/-- The registers of block CC that spec/04_control_graph.md gives. -/
def regsCc04 : List RegSpec := [
  -- CC.STS
  ⟨0x41000, [(0x100, 8)], [⟨0, 1, .ro, .a, .const 0, false, false⟩,
    ⟨1, 1, .ro, .a, .const 0, false, false⟩]⟩,
  -- CC.CAUSE
  ⟨0x41004, [(0x100, 8)], [⟨0, 1, .w1c, .a, .const 0, false, false⟩,
    ⟨1, 1, .w1c, .a, .const 0, false, false⟩,
    ⟨2, 1, .w1c, .a, .const 0, false, false⟩,
    ⟨3, 1, .w1c, .a, .const 0, false, false⟩,
    ⟨4, 1, .w1c, .a, .const 0, false, false⟩]⟩,
  -- CC.FIN
  ⟨0x41008, [(0x100, 8)], [⟨0, 32, .ro, .a, .const 0, false, false⟩]⟩,
  -- CC.CNT
  ⟨0x4100c, [(0x100, 8)], [⟨0, 16, .ro, .a, .const 0, false, false⟩,
    ⟨16, 16, .ro, .a, .const 0, false, false⟩]⟩,
  -- CC.LOAD
  ⟨0x41010, [(0x100, 8)], [⟨0, 16, .ro, .a, .const 0, false, false⟩,
    ⟨16, 16, .ro, .a, .const 0, false, false⟩]⟩]

/-- The registers of block REF that spec/05_reference_and_orders.md gives. -/
def regsRef05 : List RegSpec := [
  -- REF.CTL
  ⟨0x80000, [], [⟨0, 1, .w1s, .p, .const 0, false, false⟩,
    ⟨1, 1, .w1s, .p, .const 0, false, false⟩,
    ⟨8, 4, .w1s, .p, .const 0, false, false⟩]⟩,
  -- REF.STS
  ⟨0x80004, [], [⟨0, 1, .ro, .a, .const 0, false, false⟩,
    ⟨1, 1, .ro, .a, .const 0, false, false⟩,
    ⟨2, 1, .w1c, .a, .const 0, false, false⟩,
    ⟨3, 1, .w1c, .a, .const 0, false, false⟩,
    ⟨4, 1, .w1c, .a, .const 0, false, false⟩]⟩,
  -- REF.OAPPLY
  ⟨0x80008, [], [⟨0, 32, .ro, .a, .const 0, false, false⟩]⟩,
  -- REF.WAPPLY
  ⟨0x8000c, [], [⟨0, 32, .ro, .a, .const 0, false, false⟩]⟩,
  -- REF.LGCFG
  ⟨0x80010, [], [⟨0, 1, .rw, .p, .const 1, true, false⟩,
    ⟨4, 4, .rw, .p, .const 3, true, false⟩,
    ⟨16, 16, .rw, .p, .const 2000, true, false⟩]⟩,
  -- REF.RPG
  ⟨0x80020, [], [⟨0, 1, .rw, .p, .const 0, true, false⟩,
    ⟨1, 2, .rw, .p, .const 0, true, false⟩,
    ⟨3, 1, .rw, .p, .const 0, true, false⟩,
    ⟨4, 1, .ro, .a, .const 1, false, false⟩]⟩,
  -- REF.RPG_PH0
  ⟨0x80024, [], [⟨0, 32, .rw, .p, .const 0, true, false⟩]⟩,
  -- REF.RPG_SLEW
  ⟨0x80028, [], [⟨0, 32, .rw, .p, .const 981668463, true, false⟩]⟩,
  -- REF.RPG_PH
  ⟨0x8002c, [], [⟨0, 32, .ro, .a, .const 0, false, false⟩]⟩,
  -- REF.SYN
  ⟨0x80040, [], [⟨0, 1, .rw, .p, .const 0, true, false⟩,
    ⟨8, 8, .rw, .p, .const 10, true, false⟩]⟩,
  -- REF.SYN_SEL
  ⟨0x80044, [(0x4, 3)], [⟨0, 8, .rwl, .p, .const 0, true, false⟩,
    ⟨8, 24, .rwl, .p, .const 0, true, false⟩]⟩,
  -- REF.SYN_THPH
  ⟨0x80050, [], [⟨0, 32, .rw, .p, .const 0, true, false⟩]⟩,
  -- REF.SYN_THF
  ⟨0x80054, [], [⟨0, 32, .rw, .p, .const 0, true, false⟩]⟩,
  -- REF.SYN_VMIN
  ⟨0x80058, [], [⟨0, 32, .rw, .p, .const 0, true, false⟩]⟩,
  -- REF.SYN_VMAX
  ⟨0x8005c, [], [⟨0, 32, .rw, .p, .const 0, true, false⟩]⟩,
  -- REF.SYN_PHOFS
  ⟨0x80060, [], [⟨0, 32, .rw, .p, .const 0, true, false⟩]⟩,
  -- REF.SYN_STS
  ⟨0x80064, [], [⟨0, 1, .ro, .a, .const 0, false, false⟩,
    ⟨1, 1, .ro, .a, .const 0, false, false⟩,
    ⟨2, 1, .w1c, .a, .const 0, false, false⟩,
    ⟨8, 8, .ro, .a, .const 0, false, false⟩]⟩,
  -- REF.SYN_V
  ⟨0x80068, [], [⟨0, 32, .ro, .a, .const 0, false, false⟩]⟩,
  -- REF.SYN_F
  ⟨0x8006c, [], [⟨0, 32, .ro, .a, .const 0, false, false⟩]⟩,
  -- REF.SYN_DPH
  ⟨0x80070, [], [⟨0, 32, .ro, .a, .const 0, false, false⟩]⟩,
  -- REF.ORD.TGT
  ⟨0x80100, [(0x40, 4)], [⟨0, 32, .rwc, .a, .const 0, true, false⟩]⟩,
  -- REF.ORD.RMAX
  ⟨0x80104, [(0x40, 4)], [⟨0, 32, .rwc, .a, .const 1065353216, true, false⟩]⟩,
  -- REF.ORD.AACC
  ⟨0x80108, [(0x40, 4)], [⟨0, 32, .rwc, .a, .const 1065353216, true, false⟩]⟩,
  -- REF.ORD.ADEC
  ⟨0x8010c, [(0x40, 4)], [⟨0, 32, .rwc, .a, .const 1065353216, true, false⟩]⟩,
  -- REF.ORD.LO
  ⟨0x80110, [(0x40, 4)], [⟨0, 32, .rwc, .a, .const 0, true, false⟩]⟩,
  -- REF.ORD.HI
  ⟨0x80114, [(0x40, 4)], [⟨0, 32, .rwc, .a, .const 0, true, false⟩]⟩,
  -- REF.ORD.INIT
  ⟨0x80118, [(0x40, 4)], [⟨0, 32, .rw, .p, .const 0, true, false⟩]⟩,
  -- REF.ORD.VAL
  ⟨0x8011c, [(0x40, 4)], [⟨0, 32, .ro, .a, .const 0, false, false⟩]⟩,
  -- REF.ORD.RATE
  ⟨0x80120, [(0x40, 4)], [⟨0, 32, .ro, .a, .const 0, false, false⟩]⟩,
  -- REF.ORD.STS
  ⟨0x80124, [(0x40, 4)], [⟨0, 3, .ro, .a, .const 0, false, false⟩,
    ⟨3, 1, .w1c, .a, .const 0, false, false⟩,
    ⟨4, 1, .w1c, .a, .const 0, false, false⟩,
    ⟨5, 1, .w1c, .a, .const 0, false, false⟩,
    ⟨6, 1, .ro, .a, .const 0, false, false⟩,
    ⟨7, 1, .w1c, .a, .const 0, false, false⟩,
    ⟨8, 1, .ro, .a, .const 0, false, false⟩,
    ⟨9, 1, .w1c, .a, .const 0, false, false⟩,
    ⟨10, 1, .w1c, .a, .const 0, false, false⟩]⟩,
  -- REF.ORD.ZCCYC
  ⟨0x80128, [(0x40, 4)], [⟨0, 32, .ro, .a, .const 0, false, false⟩]⟩,
  -- REF.ORD.ZCT_LO
  ⟨0x8012c, [(0x40, 4)], [⟨0, 32, .ro, .a, .const 0, false, false⟩]⟩,
  -- REF.ORD.ZCT_HI
  ⟨0x80130, [(0x40, 4)], [⟨0, 32, .ro, .a, .const 0, false, false⟩]⟩,
  -- REF.WT
  ⟨0x90000, [(0x1000, 8), (0x4, 1024)], [⟨0, 32, .rwc, .p, .wave, false, false⟩]⟩]

/-- The registers of block ARM that spec/05_reference_and_orders.md gives. -/
def regsArm05 : List RegSpec := [
  -- ARM.LGCTL
  ⟨0x21080, [(0x400, 12)], [⟨0, 1, .rw, .p, .const 0, true, false⟩,
    ⟨1, 1, .rw, .p, .const 0, false, false⟩,
    ⟨2, 1, .rw, .p, .const 0, true, false⟩,
    ⟨3, 1, .rwc, .p, .const 0, false, false⟩,
    ⟨4, 3, .rwc, .p, .const 0, false, false⟩]⟩,
  -- ARM.WAMP
  ⟨0x21084, [(0x400, 12)], [⟨0, 32, .rwc, .p, .const 0, false, false⟩]⟩,
  -- ARM.WPH
  ⟨0x21088, [(0x400, 12)], [⟨0, 32, .rwc, .p, .const 0, false, false⟩]⟩,
  -- ARM.LGSTS
  ⟨0x2108c, [(0x400, 12)], [⟨0, 1, .w1c, .a, .const 0, false, false⟩,
    ⟨1, 1, .w1c, .a, .const 0, false, false⟩,
    ⟨2, 1, .ro, .a, .const 0, false, false⟩,
    ⟨3, 1, .w1c, .a, .const 0, false, false⟩,
    ⟨4, 1, .ro, .a, .const 0, false, false⟩,
    ⟨8, 4, .ro, .a, .const 0, false, false⟩]⟩,
  -- ARM.LGOUT
  ⟨0x21090, [(0x400, 12)], [⟨0, 11, .ro, .a, .const 0, false, false⟩,
    ⟨16, 16, .ro, .a, .const 0, false, false⟩]⟩,
  -- ARM.VREF
  ⟨0x21094, [(0x400, 12)], [⟨0, 32, .ro, .a, .const 0, false, false⟩]⟩,
  -- ARM.REFCAUSE
  ⟨0x21098, [(0x400, 12)], [⟨0, 1, .w1c, .a, .const 0, false, false⟩,
    ⟨1, 1, .w1c, .a, .const 0, false, false⟩]⟩]

/-- The registers of block BE that spec/06_balance_engines.md gives. -/
def regsBe06 : List RegSpec := [
  -- BE.CTL
  ⟨0x100000, [], [⟨0, 1, .w1s, .p, .const 0, false, false⟩,
    ⟨1, 1, .w1s, .u, .const 0, false, false⟩]⟩,
  -- BE.USED
  ⟨0x100004, [], [⟨0, 24, .ro, .a, .const 0, false, false⟩]⟩,
  -- BE.CELLCMD
  ⟨0x100008, [], [⟨0, 13, .wo, .p, .const 0, false, false⟩,
    ⟨13, 3, .wo, .p, .const 0, false, false⟩,
    ⟨16, 16, .wo, .p, .const 0, false, false⟩]⟩,
  -- BE.CMDSTS
  ⟨0x10000c, [], [⟨0, 3, .ro, .a, .const 0, false, false⟩,
    ⟨3, 2, .ro, .a, .const 0, false, false⟩,
    ⟨8, 4, .ro, .a, .const 0, false, false⟩,
    ⟨12, 5, .ro, .a, .const 0, false, false⟩,
    ⟨24, 8, .ro, .a, .const 0, false, false⟩]⟩,
  -- BE.CMDAPPLY
  ⟨0x100010, [], [⟨0, 32, .ro, .a, .const 0, false, false⟩]⟩,
  -- BE.CFG
  ⟨0x100100, [(0x40, 24)], [⟨0, 4, .ro, .a, .const 0, false, false⟩,
    ⟨8, 10, .ro, .a, .const 0, false, false⟩,
    ⟨20, 9, .ro, .a, .const 0, false, false⟩]⟩,
  -- BE.STS
  ⟨0x100104, [(0x40, 24)], [⟨0, 1, .ro, .a, .const 0, false, false⟩,
    ⟨1, 1, .ro, .a, .const 0, false, false⟩,
    ⟨16, 9, .ro, .a, .const 0, false, false⟩]⟩,
  -- BE.CAUSE
  ⟨0x100108, [(0x40, 24)], [⟨0, 1, .w1c, .a, .const 0, false, false⟩,
    ⟨1, 1, .w1c, .a, .const 0, false, false⟩,
    ⟨2, 1, .w1c, .a, .const 0, false, false⟩,
    ⟨3, 1, .w1c, .a, .const 0, false, false⟩]⟩,
  -- BE.CNT
  ⟨0x10010c, [(0x40, 24)], [⟨0, 16, .ro, .a, .const 0, false, false⟩,
    ⟨16, 16, .ro, .a, .const 0, false, false⟩]⟩,
  -- BE.RRTHR
  ⟨0x100110, [(0x40, 24)], [⟨0, 7, .rw, .p, .const 0, false, false⟩]⟩]

/-- The registers of block ARM that spec/06_balance_engines.md gives. -/
def regsArm06 : List RegSpec := [
  -- ARM.MAXCHG
  ⟨0x21100, [(0x400, 12)], [⟨0, 8, .rw, .p, .const 8, true, false⟩]⟩,
  -- ARM.MINDWELL
  ⟨0x21104, [(0x400, 12)], [⟨0, 8, .rw, .p, .const 2, true, false⟩]⟩,
  -- ARM.TRLIM
  ⟨0x21108, [(0x400, 12)], [⟨0, 8, .rw, .p, .const 0, true, false⟩,
    ⟨16, 16, .rw, .p, .const 10000, true, false⟩]⟩,
  -- ARM.WEIGHT
  ⟨0x2110c, [(0x400, 12)], [⟨0, 8, .rw, .p, .const 16, true, false⟩,
    ⟨8, 8, .rw, .p, .const 8, true, false⟩,
    ⟨16, 8, .rw, .p, .const 0, true, false⟩,
    ⟨24, 8, .rw, .p, .const 0, true, false⟩]⟩,
  -- ARM.SCORE
  ⟨0x21110, [(0x400, 12)], [⟨0, 4, .rw, .p, .const 2, true, false⟩]⟩,
  -- ARM.SIGCFG
  ⟨0x21114, [(0x400, 12)], [⟨0, 2, .rw, .p, .const 0, true, false⟩,
    ⟨2, 1, .rw, .p, .const 0, true, false⟩,
    ⟨4, 3, .rw, .p, .const 0, true, false⟩,
    ⟨8, 8, .rw, .p, .const 4, true, false⟩,
    ⟨16, 16, .rw, .p, .const 8, true, false⟩]⟩,
  -- ARM.POPMIN
  ⟨0x21118, [(0x400, 12)], [⟨0, 11, .rwl, .p, .const 0, false, false⟩]⟩,
  -- ARM.SELCFG
  ⟨0x2111c, [(0x400, 12)], [⟨0, 2, .rw, .p, .const 0, true, false⟩,
    ⟨2, 1, .rw, .p, .const 1, true, false⟩,
    ⟨3, 1, .rw, .p, .const 1, true, false⟩,
    ⟨8, 8, .rw, .p, .const 8, true, false⟩,
    ⟨16, 8, .rw, .p, .const 4, true, false⟩,
    ⟨24, 8, .rw, .p, .const 3, true, false⟩]⟩,
  -- ARM.SELSTS
  ⟨0x21120, [(0x400, 12)], [⟨0, 1, .w1c, .a, .const 0, false, false⟩,
    ⟨1, 1, .w1c, .a, .const 0, false, false⟩,
    ⟨2, 1, .w1c, .a, .const 0, false, false⟩,
    ⟨3, 1, .ro, .a, .const 0, false, false⟩,
    ⟨4, 1, .w1c, .a, .const 0, false, false⟩,
    ⟨5, 1, .w1c, .a, .const 0, false, false⟩,
    ⟨16, 8, .ro, .a, .const 0, false, false⟩,
    ⟨24, 8, .ro, .a, .const 0, false, false⟩]⟩,
  -- ARM.SIGMA
  ⟨0x21124, [(0x400, 12)], [⟨0, 1, .ro, .a, .const 1, false, false⟩,
    ⟨1, 1, .w1c, .a, .const 0, false, false⟩,
    ⟨2, 1, .w1c, .a, .const 0, false, false⟩]⟩,
  -- ARM.DSUM
  ⟨0x21128, [(0x400, 12)], [⟨0, 32, .ro, .a, .const 0, false, false⟩]⟩,
  -- ARM.SELCNT
  ⟨0x2112c, [(0x400, 12)], [⟨0, 16, .ro, .a, .const 0, false, false⟩,
    ⟨16, 16, .ro, .a, .const 0, false, false⟩]⟩,
  -- ARM.FPCELL
  ⟨0x21130, [(0x400, 12)], [⟨0, 10, .ro, .a, .const 0, false, false⟩,
    ⟨10, 1, .ro, .a, .const 0, false, false⟩,
    ⟨16, 16, .ro, .a, .const 0, false, false⟩]⟩,
  -- ARM.POPCAUSE
  ⟨0x21134, [(0x400, 12)], [⟨0, 1, .w1c, .a, .const 0, false, false⟩,
    ⟨1, 1, .w1c, .a, .const 0, false, false⟩,
    ⟨2, 1, .w1c, .a, .const 0, false, false⟩,
    ⟨3, 1, .w1c, .a, .const 0, false, false⟩,
    ⟨4, 1, .w1c, .a, .const 0, false, false⟩,
    ⟨5, 1, .w1c, .a, .const 0, false, false⟩]⟩,
  -- ARM.CELLCNT
  ⟨0x21138, [(0x400, 12)], [⟨0, 11, .ro, .a, .const 0, false, false⟩,
    ⟨16, 11, .ro, .a, .const 0, false, false⟩]⟩,
  -- ARM.AGG
  ⟨0x21140, [(0x400, 12), (0x4, 16)], [⟨0, 32, .ro, .a, .const 0, false, false⟩]⟩]

/-- The registers of block CELL that spec/06_balance_engines.md gives. -/
def regsCell06 : List RegSpec := [
  -- CELL.CD_CFG
  ⟨0x200000, [(0x40, 8192)], [⟨0, 4, .ro, .a, .const 0, false, false⟩,
    ⟨4, 2, .ro, .a, .const 0, false, false⟩,
    ⟨6, 1, .ro, .a, .const 0, false, false⟩,
    ⟨7, 1, .ro, .a, .const 0, false, false⟩,
    ⟨8, 7, .ro, .a, .const 0, false, false⟩,
    ⟨16, 6, .ro, .a, .const 0, false, false⟩,
    ⟨22, 10, .ro, .a, .const 0, false, false⟩]⟩,
  -- CELL.CD_STATE
  ⟨0x200004, [(0x40, 8192)], [⟨0, 4, .ro, .a, .const 0, false, false⟩,
    ⟨4, 1, .ro, .a, .const 0, false, false⟩,
    ⟨5, 1, .ro, .a, .const 0, false, false⟩,
    ⟨6, 1, .ro, .a, .const 0, false, false⟩,
    ⟨7, 1, .ro, .a, .const 0, false, false⟩,
    ⟨8, 1, .ro, .a, .const 0, false, false⟩,
    ⟨9, 1, .ro, .a, .const 0, false, false⟩,
    ⟨10, 1, .ro, .a, .const 0, false, false⟩,
    ⟨11, 1, .ro, .a, .const 0, false, false⟩,
    ⟨12, 4, .ro, .a, .const 0, false, false⟩,
    ⟨16, 8, .ro, .a, .const 0, false, false⟩,
    ⟨24, 8, .ro, .a, .const 0, false, false⟩]⟩,
  -- CELL.CD_MEAS
  ⟨0x200008, [(0x40, 8192)], [⟨0, 16, .ro, .a, .const 0, false, false⟩,
    ⟨16, 8, .ro, .a, .const 0, false, false⟩,
    ⟨24, 8, .ro, .a, .const 0, false, false⟩]⟩,
  -- CELL.CD_RANK
  ⟨0x20000c, [(0x40, 8192)], [⟨0, 10, .ro, .a, .const 0, false, false⟩,
    ⟨10, 1, .ro, .a, .const 1, false, false⟩,
    ⟨16, 16, .ro, .a, .const 0, false, false⟩]⟩,
  -- CELL.CD_SW
  ⟨0x200018, [(0x40, 8192)], [⟨0, 16, .ro, .a, .const 0, false, false⟩]⟩]

/-- The registers of block INS that spec/07_insertion_timing.md gives. -/
def regsIns07 : List RegSpec := [
  -- INS.STS
  ⟨0x140000, [], [⟨0, 1, .w1c, .a, .const 0, false, false⟩,
    ⟨1, 1, .w1c, .a, .const 0, false, false⟩]⟩,
  -- INS.CTL
  ⟨0x140004, [], [⟨0, 1, .w1s, .u, .const 0, false, false⟩]⟩,
  -- INS.FP.CFG
  ⟨0x140100, [(0x40, 12)], [⟨0, 1, .rw, .p, .const 0, true, false⟩,
    ⟨1, 2, .rwc, .p, .const 1, true, false⟩,
    ⟨3, 2, .rw, .p, .const 0, true, false⟩,
    ⟨5, 1, .rw, .p, .const 0, true, false⟩]⟩,
  -- INS.FP.CTL
  ⟨0x140104, [(0x40, 12)], [⟨0, 1, .w1s, .p, .const 0, false, false⟩]⟩,
  -- INS.FP.STS
  ⟨0x140108, [(0x40, 12)], [⟨0, 1, .ro, .a, .const 0, false, false⟩,
    ⟨1, 1, .w1c, .a, .const 0, false, false⟩,
    ⟨2, 1, .w1c, .a, .const 0, false, false⟩,
    ⟨3, 1, .w1c, .a, .const 0, false, false⟩,
    ⟨4, 1, .w1c, .a, .const 0, false, false⟩]⟩,
  -- INS.FP.PER
  ⟨0x14010c, [(0x40, 12)], [⟨0, 17, .rwc, .p, .const 10000, true, false⟩]⟩,
  -- INS.FP.DUTY
  ⟨0x140110, [(0x40, 12)], [⟨0, 16, .rwc, .p, .const 0, false, false⟩]⟩,
  -- INS.FP.CMP
  ⟨0x140114, [(0x40, 12), (0x4, 4)], [⟨0, 17, .rwc, .p, .const 0, false, false⟩,
    ⟨17, 2, .rwc, .p, .const 0, false, false⟩]⟩]

/-- The registers of block ARM that spec/07_insertion_timing.md gives. -/
def regsArm07 : List RegSpec := [
  -- ARM.EDGE
  ⟨0x21180, [(0x400, 12)], [⟨0, 13, .rwl, .p, .const 2000, true, false⟩,
    ⟨13, 1, .rwl, .p, .const 1, true, false⟩,
    ⟨14, 17, .rwl, .p, .const 0, true, false⟩]⟩,
  -- ARM.E0
  ⟨0x21184, [(0x400, 12)], [⟨0, 20, .ro, .a, .const 0, false, false⟩,
    ⟨20, 12, .ro, .a, .const 0, false, false⟩]⟩,
  -- ARM.DLVT
  ⟨0x21188, [(0x400, 12)], [⟨0, 20, .ro, .a, .const 0, false, false⟩,
    ⟨20, 1, .ro, .a, .const 0, false, false⟩]⟩,
  -- ARM.DEADT
  ⟨0x2118c, [(0x400, 12)], [⟨0, 14, .rwl, .p, .const 2000, true, false⟩]⟩,
  -- ARM.MINPULSE
  ⟨0x21190, [(0x400, 12)], [⟨0, 12, .rwl, .p, .const 200, true, false⟩,
    ⟨16, 1, .rwl, .p, .const 0, true, false⟩]⟩,
  -- ARM.INSSTS
  ⟨0x21194, [(0x400, 12)], [⟨0, 1, .w1c, .a, .const 0, false, false⟩,
    ⟨1, 1, .w1c, .a, .const 0, false, false⟩,
    ⟨2, 1, .w1c, .a, .const 0, false, false⟩,
    ⟨3, 1, .w1c, .a, .const 0, false, false⟩,
    ⟨4, 1, .ro, .a, .const 0, false, false⟩,
    ⟨5, 1, .ro, .a, .const 0, false, false⟩,
    ⟨6, 1, .w1c, .a, .const 0, false, false⟩]⟩,
  -- ARM.INSCNT
  ⟨0x21198, [(0x400, 12)], [⟨0, 16, .ro, .a, .const 0, false, false⟩,
    ⟨16, 16, .ro, .a, .const 0, false, false⟩]⟩,
  -- ARM.FPLAST
  ⟨0x2119c, [(0x400, 12)], [⟨0, 20, .ro, .a, .const 0, false, false⟩,
    ⟨20, 1, .ro, .a, .const 0, false, false⟩,
    ⟨21, 1, .ro, .a, .const 1, false, false⟩]⟩,
  -- ARM.FPW
  ⟨0x211a0, [(0x400, 12)], [⟨0, 17, .ro, .a, .const 0, false, false⟩]⟩]

/-- The registers of block CELL that spec/07_insertion_timing.md gives. -/
def regsCell07 : List RegSpec := [
  -- CELL.CD_LAST
  ⟨0x20001c, [(0x40, 8192)], [⟨0, 4, .ro, .a, .const 0, false, false⟩,
    ⟨4, 4, .ro, .a, .const 0, false, false⟩,
    ⟨8, 20, .ro, .a, .const 0, false, false⟩]⟩]

/-- The registers of block CL that spec/08_spaone_physical.md gives. -/
def regsCl08 : List RegSpec := [
  -- CL.CFG
  ⟨0x180000, [(0x100, 128)], [⟨0, 2, .ro, .a, .const 0, false, false⟩,
    ⟨2, 1, .ro, .a, .const 0, false, false⟩,
    ⟨3, 1, .ro, .a, .const 0, false, false⟩,
    ⟨4, 4, .ro, .a, .const 0, false, false⟩,
    ⟨8, 7, .ro, .a, .const 0, false, false⟩,
    ⟨16, 8, .ro, .a, .const 255, false, false⟩,
    ⟨24, 8, .ro, .a, .const 0, false, false⟩]⟩,
  -- CL.CTL
  ⟨0x180004, [(0x100, 128)], [⟨0, 1, .rw, .p, .const 0, true, false⟩,
    ⟨1, 1, .w1s, .p, .const 0, false, false⟩,
    ⟨2, 1, .w1s, .p, .const 0, false, false⟩,
    ⟨3, 1, .w1s, .u, .const 0, false, false⟩]⟩,
  -- CL.STS
  ⟨0x180008, [(0x100, 128)], [⟨0, 4, .ro, .a, .const 0, false, false⟩,
    ⟨4, 1, .ro, .a, .const 0, false, false⟩,
    ⟨5, 1, .ro, .a, .const 0, false, false⟩,
    ⟨6, 1, .ro, .a, .const 0, false, false⟩,
    ⟨7, 1, .ro, .a, .const 0, false, false⟩,
    ⟨8, 7, .ro, .a, .const 0, false, false⟩,
    ⟨16, 8, .ro, .a, .const 0, false, false⟩]⟩,
  -- CL.CAUSE
  ⟨0x18000c, [(0x100, 128)], [⟨0, 1, .w1c, .a, .const 0, false, false⟩,
    ⟨1, 1, .w1c, .a, .const 0, false, false⟩,
    ⟨2, 1, .w1c, .a, .const 0, false, false⟩,
    ⟨3, 1, .w1c, .a, .const 0, false, false⟩,
    ⟨4, 1, .w1c, .a, .const 0, false, false⟩,
    ⟨5, 1, .w1c, .a, .const 0, false, false⟩,
    ⟨6, 1, .w1c, .a, .const 0, false, false⟩,
    ⟨7, 1, .w1c, .a, .const 0, false, false⟩]⟩,
  -- CL.TRCFG
  ⟨0x180010, [(0x100, 128)], [⟨0, 8, .rwl, .p, .const 20, true, false⟩,
    ⟨8, 8, .rwl, .p, .const 40, true, false⟩,
    ⟨16, 8, .rwl, .p, .const 10, true, false⟩,
    ⟨24, 7, .rwl, .p, .const 16, true, false⟩,
    ⟨31, 1, .rwl, .p, .const 1, true, false⟩]⟩,
  -- CL.DMCFG
  ⟨0x180014, [(0x100, 128)], [⟨0, 1, .rw, .p, .const 1, true, false⟩,
    ⟨8, 8, .rw, .p, .const 5, true, false⟩,
    ⟨16, 16, .rw, .p, .const 100, true, false⟩]⟩,
  -- CL.DRIFT
  ⟨0x180018, [(0x100, 128)], [⟨0, 16, .rw, .p, .const 100, true, false⟩]⟩,
  -- CL.ASYM
  ⟨0x18001c, [(0x100, 128)], [⟨0, 16, .rwl, .p, .const 0, true, false⟩]⟩,
  -- CL.PHY
  ⟨0x180020, [(0x100, 128)], [⟨0, 4, .rwl, .p, .const 6, true, false⟩,
    ⟨4, 3, .rwl, .p, .const 1, true, false⟩,
    ⟨8, 4, .rwl, .p, .const 4, true, false⟩]⟩,
  -- CL.ERR0
  ⟨0x180024, [(0x100, 128)], [⟨0, 16, .ro, .a, .const 0, false, false⟩,
    ⟨16, 16, .ro, .a, .const 0, false, false⟩]⟩,
  -- CL.ERR1
  ⟨0x180028, [(0x100, 128)], [⟨0, 16, .ro, .a, .const 0, false, false⟩,
    ⟨16, 16, .ro, .a, .const 0, false, false⟩]⟩,
  -- CL.ERR2
  ⟨0x18002c, [(0x100, 128)], [⟨0, 16, .ro, .a, .const 0, false, false⟩,
    ⟨16, 16, .ro, .a, .const 0, false, false⟩]⟩,
  -- CL.ERR3
  ⟨0x180030, [(0x100, 128)], [⟨0, 16, .ro, .a, .const 0, false, false⟩,
    ⟨16, 16, .ro, .a, .const 0, false, false⟩]⟩,
  -- CL.DMSTS
  ⟨0x180034, [(0x100, 128)], [⟨0, 6, .ro, .a, .const 0, false, false⟩,
    ⟨16, 16, .ro, .a, .const 0, false, false⟩]⟩,
  -- CL.HSEL
  ⟨0x180038, [(0x100, 128)], [⟨0, 6, .rw, .u, .const 0, false, false⟩]⟩,
  -- CL.HCOMP
  ⟨0x18003c, [(0x100, 128)], [⟨0, 20, .ro, .a, .const 0, false, false⟩,
    ⟨31, 1, .ro, .a, .const 1, false, false⟩]⟩,
  -- CL.HRT
  ⟨0x180040, [(0x100, 128)], [⟨0, 20, .ro, .a, .const 0, false, false⟩,
    ⟨31, 1, .ro, .a, .const 1, false, false⟩]⟩,
  -- CL.HREP
  ⟨0x180044, [(0x100, 128)], [⟨0, 16, .ro, .a, .const 0, false, false⟩,
    ⟨16, 8, .ro, .a, .const 0, false, false⟩]⟩,
  -- CL.LOCKMAP
  ⟨0x188000, [(0x4, 4)], [⟨0, 32, .ro, .a, .const 0, false, false⟩]⟩]

/-- The registers of block CL that spec/09_spaone_frames.md gives. -/
def regsCl09 : List RegSpec := [
  -- CL.FCFG
  ⟨0x180048, [(0x100, 128)], [⟨0, 8, .rwl, .p, .const 0, true, false⟩]⟩,
  -- CL.FSTS
  ⟨0x18004c, [(0x100, 128)], [⟨0, 6, .ro, .a, .const 0, false, false⟩,
    ⟨6, 1, .ro, .a, .const 0, false, false⟩,
    ⟨7, 1, .ro, .a, .const 0, false, false⟩,
    ⟨8, 7, .ro, .a, .const 0, false, false⟩,
    ⟨16, 4, .ro, .a, .const 0, false, false⟩,
    ⟨20, 1, .ro, .a, .const 0, false, false⟩]⟩,
  -- CL.ERR4
  ⟨0x180050, [(0x100, 128)], [⟨0, 16, .ro, .a, .const 0, false, false⟩,
    ⟨16, 16, .ro, .a, .const 0, false, false⟩]⟩,
  -- CL.ERR5
  ⟨0x180054, [(0x100, 128)], [⟨0, 16, .ro, .a, .const 0, false, false⟩,
    ⟨16, 16, .ro, .a, .const 0, false, false⟩]⟩,
  -- CL.ENUM
  ⟨0x180058, [(0x100, 128)], [⟨0, 7, .ro, .a, .const 0, false, false⟩,
    ⟨7, 1, .ro, .a, .const 0, false, false⟩,
    ⟨8, 7, .ro, .a, .const 0, false, false⟩,
    ⟨16, 7, .ro, .a, .const 0, false, false⟩]⟩,
  -- CL.RINGSTS
  ⟨0x18005c, [(0x100, 128)], [⟨0, 2, .ro, .a, .const 0, false, false⟩,
    ⟨8, 7, .ro, .a, .const 127, false, false⟩,
    ⟨16, 16, .ro, .a, .const 0, false, false⟩]⟩,
  -- CL.PQREQ0
  ⟨0x189000, [], [⟨0, 7, .rw, .p, .const 0, false, false⟩,
    ⟨8, 6, .rw, .p, .const 0, false, false⟩,
    ⟨16, 3, .rw, .p, .const 0, false, false⟩,
    ⟨20, 11, .rw, .p, .const 0, false, false⟩]⟩,
  -- CL.PQREQ1
  ⟨0x189004, [], [⟨0, 32, .rw, .p, .const 0, false, false⟩]⟩,
  -- CL.PQCTL
  ⟨0x189008, [], [⟨0, 1, .w1s, .p, .const 0, false, false⟩,
    ⟨1, 1, .w1s, .p, .const 0, false, false⟩,
    ⟨2, 1, .w1s, .p, .const 0, false, false⟩]⟩,
  -- CL.PQSTS
  ⟨0x18900c, [], [⟨0, 5, .ro, .p, .const 0, false, false⟩,
    ⟨5, 5, .ro, .p, .const 0, false, false⟩,
    ⟨10, 1, .w1c, .p, .const 0, false, false⟩]⟩,
  -- CL.PQRES0
  ⟨0x189010, [], [⟨0, 7, .ro, .p, .const 0, false, false⟩,
    ⟨8, 6, .ro, .p, .const 0, false, false⟩,
    ⟨16, 3, .ro, .p, .const 0, false, false⟩,
    ⟨20, 4, .ro, .p, .const 0, false, false⟩,
    ⟨24, 4, .ro, .p, .const 0, false, false⟩,
    ⟨28, 2, .ro, .p, .const 0, false, false⟩]⟩,
  -- CL.PQRES1
  ⟨0x189014, [], [⟨0, 32, .ro, .p, .const 0, false, false⟩]⟩,
  -- CL.PQRES2
  ⟨0x189018, [], [⟨0, 8, .ro, .p, .const 0, false, false⟩,
    ⟨8, 8, .ro, .p, .const 0, false, false⟩,
    ⟨16, 16, .ro, .p, .const 0, false, false⟩]⟩,
  -- CL.PQCFG
  ⟨0x18901c, [], [⟨0, 4, .rw, .p, .const 3, true, false⟩,
    ⟨16, 16, .rw, .p, .const 1000, true, false⟩]⟩]

/-- The registers of block TLY that spec/10_cell_records.md gives. -/
def regsTly10 : List RegSpec := [
  -- TLY.CTL
  ⟨0x280000, [], [⟨0, 1, .w1s, .p, .const 0, false, false⟩,
    ⟨1, 1, .w1s, .u, .const 0, false, false⟩,
    ⟨2, 1, .w1s, .p, .const 0, false, false⟩,
    ⟨3, 1, .w1s, .p, .const 0, false, false⟩,
    ⟨4, 1, .rw, .p, .const 1, true, false⟩]⟩,
  -- TLY.STS
  ⟨0x280004, [], [⟨0, 1, .ro, .a, .const 0, false, false⟩,
    ⟨1, 1, .ro, .a, .const 0, false, false⟩,
    ⟨2, 1, .ro, .a, .const 0, false, false⟩,
    ⟨3, 1, .ro, .a, .const 0, false, false⟩,
    ⟨4, 1, .ro, .a, .const 0, false, false⟩]⟩,
  -- TLY.CKPT
  ⟨0x280008, [], [⟨0, 11, .rw, .p, .const 60, true, false⟩]⟩,
  -- TLY.CKSEQ
  ⟨0x28000c, [], [⟨0, 32, .ro, .a, .const 0, false, false⟩]⟩,
  -- TLY.CKT_LO
  ⟨0x280010, [], [⟨0, 32, .ro, .a, .const 0, false, false⟩]⟩,
  -- TLY.CKT_HI
  ⟨0x280014, [], [⟨0, 32, .ro, .a, .const 0, false, false⟩]⟩,
  -- TLY.CKCNT
  ⟨0x280018, [], [⟨0, 16, .ro, .a, .const 0, false, false⟩,
    ⟨16, 16, .ro, .a, .const 0, false, false⟩]⟩,
  -- TLY.RF
  ⟨0x28001c, [], [⟨0, 4, .rwl, .p, .const 3, true, false⟩,
    ⟨8, 4, .rwl, .p, .const 5, true, false⟩]⟩,
  -- TLY.CAPCFG
  ⟨0x280020, [], [⟨0, 16, .rw, .p, .const 2000, true, false⟩,
    ⟨16, 5, .rw, .p, .const 20, true, false⟩]⟩,
  -- TLY.LIFECFG
  ⟨0x280024, [], [⟨0, 10, .rw, .p, .const 900, true, false⟩]⟩,
  -- TLY.LIFEAPPLY
  ⟨0x280028, [], [⟨0, 32, .ro, .a, .const 0, false, false⟩]⟩,
  -- TLY.ARCH
  ⟨0x28002c, [], [⟨0, 18, .ro, .a, .const 0, false, false⟩,
    ⟨18, 1, .ro, .a, .const 0, false, false⟩]⟩,
  -- TLY.REPL
  ⟨0x280030, [], [⟨0, 8, .ro, .a, .const 0, false, false⟩,
    ⟨8, 8, .ro, .a, .const 0, false, false⟩,
    ⟨16, 8, .ro, .a, .const 0, false, false⟩,
    ⟨24, 8, .ro, .a, .const 0, false, false⟩]⟩,
  -- TLY.LCFG
  ⟨0x280040, [], [⟨0, 1, .rw, .p, .const 1, true, false⟩,
    ⟨4, 4, .rw, .p, .const 8, true, false⟩,
    ⟨16, 11, .rw, .p, .const 62, true, false⟩]⟩,
  -- TLY.LTRIG
  ⟨0x280044, [], [⟨0, 3, .rw, .p, .const 4, true, false⟩,
    ⟨8, 8, .rw, .p, .const 0, true, false⟩,
    ⟨16, 4, .rw, .p, .const 0, true, false⟩,
    ⟨20, 2, .rw, .p, .const 0, true, false⟩]⟩,
  -- TLY.LSTS
  ⟨0x280048, [], [⟨0, 3, .ro, .a, .const 0, false, false⟩,
    ⟨3, 1, .ro, .a, .const 0, false, false⟩,
    ⟨4, 1, .w1c, .a, .const 0, false, false⟩,
    ⟨5, 1, .w1c, .a, .const 0, false, false⟩,
    ⟨16, 16, .ro, .a, .const 0, false, false⟩]⟩,
  -- TLY.LTSRC
  ⟨0x28004c, [], [⟨0, 11, .ro, .a, .const 0, false, false⟩]⟩,
  -- TLY.LCAP
  ⟨0x280050, [], [⟨0, 32, .ro, .a, .const 0, false, false⟩]⟩,
  -- TLY.LRECSZ
  ⟨0x280054, [], [⟨0, 32, .ro, .a, .const 0, false, false⟩]⟩,
  -- TLY.LHEAD
  ⟨0x280058, [], [⟨0, 32, .ro, .a, .const 0, false, false⟩]⟩,
  -- TLY.LTREC
  ⟨0x28005c, [], [⟨0, 32, .ro, .a, .const 0, false, false⟩]⟩,
  -- TLY.LOLDEST
  ⟨0x280060, [], [⟨0, 32, .ro, .a, .const 0, false, false⟩]⟩,
  -- TLY.LNUM
  ⟨0x280064, [], [⟨0, 32, .ro, .a, .const 0, false, false⟩]⟩,
  -- TLY.LTCYC
  ⟨0x280068, [], [⟨0, 32, .ro, .a, .const 0, false, false⟩]⟩,
  -- TLY.LTT_LO
  ⟨0x28006c, [], [⟨0, 32, .ro, .a, .const 0, false, false⟩]⟩,
  -- TLY.LTT_HI
  ⟨0x280070, [], [⟨0, 32, .ro, .a, .const 0, false, false⟩]⟩,
  -- TLY.LDROPCNT
  ⟨0x280074, [], [⟨0, 32, .ro, .a, .const 0, false, false⟩]⟩,
  -- TLY.XCFG0
  ⟨0x280080, [], [⟨0, 16, .rw, .p, .const 500, true, false⟩,
    ⟨16, 16, .rw, .p, .const 2000, true, false⟩]⟩,
  -- TLY.XCFG1
  ⟨0x280084, [], [⟨0, 12, .rw, .p, .const 4095, true, false⟩,
    ⟨12, 1, .rw, .p, .const 1, true, false⟩,
    ⟨13, 1, .rw, .p, .const 1, true, false⟩]⟩,
  -- TLY.XSTS
  ⟨0x280088, [], [⟨0, 1, .ro, .a, .const 0, false, false⟩,
    ⟨1, 1, .ro, .a, .const 0, false, false⟩,
    ⟨2, 1, .w1c, .a, .const 0, false, false⟩,
    ⟨16, 16, .ro, .a, .const 0, false, false⟩]⟩,
  -- TLY.ECCCE
  ⟨0x280090, [], [⟨0, 32, .ro, .a, .const 0, false, false⟩]⟩,
  -- TLY.ECCUE
  ⟨0x280094, [], [⟨0, 32, .ro, .a, .const 0, false, false⟩]⟩,
  -- TLY.UEADR_LO
  ⟨0x280098, [], [⟨0, 32, .ro, .a, .const 0, false, false⟩]⟩,
  -- TLY.UEADR_HI
  ⟨0x28009c, [], [⟨0, 32, .ro, .a, .const 0, false, false⟩]⟩,
  -- TLY.ECCCFG
  ⟨0x2800a0, [], [⟨0, 8, .rw, .p, .const 16, true, false⟩,
    ⟨8, 8, .rw, .p, .const 24, true, false⟩]⟩,
  -- TLY.SCRUBSTS
  ⟨0x2800a4, [], [⟨0, 10, .ro, .a, .const 0, false, false⟩,
    ⟨16, 16, .ro, .a, .const 0, false, false⟩]⟩]

/-- The registers of block ARM that spec/10_cell_records.md gives. -/
def regsArm10 : List RegSpec := [
  -- ARM.CAPSRC
  ⟨0x21200, [(0x400, 12)], [⟨0, 5, .rw, .p, .const 0, true, false⟩,
    ⟨5, 1, .rw, .p, .const 0, true, false⟩,
    ⟨6, 1, .rw, .p, .const 0, true, false⟩]⟩]

/-- The registers of block CELL that spec/10_cell_records.md gives. -/
def regsCell10 : List RegSpec := [
  -- CELL.CD_ID_LO
  ⟨0x200010, [(0x40, 8192)], [⟨0, 32, .ro, .a, .const 0, false, false⟩]⟩,
  -- CELL.CD_ID_HI
  ⟨0x200014, [(0x40, 8192)], [⟨0, 32, .ro, .a, .const 0, false, false⟩]⟩,
  -- CELL.CD_LIFE
  ⟨0x200020, [(0x40, 8192)], [⟨0, 10, .ro, .a, .const 0, false, false⟩,
    ⟨16, 10, .ro, .a, .const 0, false, false⟩,
    ⟨26, 2, .ro, .a, .const 0, false, false⟩]⟩,
  -- CELL.CD_CAP
  ⟨0x200024, [(0x40, 8192)], [⟨0, 16, .ro, .a, .const 65535, false, false⟩,
    ⟨16, 16, .ro, .a, .const 0, false, false⟩]⟩,
  -- CELL.CD_TALLY
  ⟨0x200028, [(0x40, 8192)], [⟨0, 13, .ro, .a, .index, false, false⟩,
    ⟨13, 3, .ro, .a, .const 0, false, false⟩,
    ⟨16, 1, .ro, .a, .const 0, false, false⟩,
    ⟨17, 1, .ro, .a, .const 0, false, false⟩]⟩]

/-- The registers of block TB that spec/11_time_and_waybill.md gives. -/
def regsTb11 : List RegSpec := [
  -- TB.CTL
  ⟨0x300000, [], [⟨0, 1, .w1s, .p, .const 0, false, false⟩,
    ⟨1, 1, .w1s, .p, .const 0, false, false⟩,
    ⟨2, 1, .w1s, .p, .const 0, false, false⟩,
    ⟨3, 1, .w1s, .p, .const 0, false, false⟩,
    ⟨4, 1, .rw, .p, .const 0, false, false⟩,
    ⟨5, 1, .w1s, .u, .const 0, false, false⟩]⟩,
  -- TB.SRC
  ⟨0x300004, [], [⟨0, 2, .rwl, .p, .const 1, true, false⟩]⟩,
  -- TB.STS
  ⟨0x300008, [], [⟨0, 1, .ro, .a, .const 0, false, false⟩,
    ⟨1, 1, .ro, .a, .const 0, false, false⟩,
    ⟨2, 1, .ro, .a, .const 0, false, false⟩,
    ⟨3, 1, .ro, .a, .const 0, false, false⟩,
    ⟨4, 1, .w1c, .a, .const 0, false, false⟩,
    ⟨5, 1, .w1c, .a, .const 0, false, false⟩,
    ⟨6, 1, .w1c, .a, .const 0, false, false⟩,
    ⟨7, 1, .w1c, .a, .const 0, false, false⟩,
    ⟨8, 1, .w1c, .a, .const 0, false, false⟩,
    ⟨9, 1, .w1c, .a, .const 0, false, false⟩,
    ⟨10, 1, .ro, .a, .const 0, false, false⟩,
    ⟨11, 1, .w1c, .a, .const 0, false, false⟩]⟩,
  -- TB.STEPCNT
  ⟨0x30000c, [], [⟨0, 16, .ro, .a, .const 0, false, false⟩]⟩,
  -- TB.RAW_LO
  ⟨0x300010, [], [⟨0, 32, .ro, .a, .const 0, false, false⟩]⟩,
  -- TB.RAW_HI
  ⟨0x300014, [], [⟨0, 16, .ro, .a, .const 0, false, false⟩,
    ⟨16, 16, .ro, .a, .const 0, false, false⟩]⟩,
  -- TB.NOW_LO
  ⟨0x300018, [], [⟨0, 32, .ro, .a, .const 0, false, false⟩]⟩,
  -- TB.NOW_HI
  ⟨0x30001c, [], [⟨0, 32, .ro, .a, .const 0, false, false⟩]⟩,
  -- TB.RATE
  ⟨0x300020, [], [⟨0, 32, .rw, .p, .const 0, false, false⟩]⟩,
  -- TB.OFS_LO
  ⟨0x300024, [], [⟨0, 32, .ro, .a, .const 0, false, false⟩]⟩,
  -- TB.OFS_HI
  ⟨0x300028, [], [⟨0, 32, .ro, .a, .const 0, false, false⟩]⟩,
  -- TB.SLEWREM_LO
  ⟨0x300038, [], [⟨0, 32, .ro, .a, .const 0, false, false⟩]⟩,
  -- TB.SLEWREM_HI
  ⟨0x30003c, [], [⟨0, 32, .ro, .a, .const 0, false, false⟩]⟩,
  -- TB.ADJ_LO
  ⟨0x30002c, [], [⟨0, 32, .rw, .p, .const 0, false, false⟩]⟩,
  -- TB.ADJ_HI
  ⟨0x300030, [], [⟨0, 32, .rw, .p, .const 0, false, false⟩]⟩,
  -- TB.SLEWCFG
  ⟨0x300034, [], [⟨0, 9, .rw, .p, .const 20, true, false⟩]⟩,
  -- TB.PPSCFG
  ⟨0x300040, [], [⟨0, 4, .rw, .p, .const 3, true, false⟩,
    ⟨4, 4, .rw, .p, .const 1, true, false⟩,
    ⟨8, 8, .rw, .p, .const 100, true, false⟩,
    ⟨16, 16, .rw, .p, .const 1000, true, false⟩]⟩,
  -- TB.PPSCAB
  ⟨0x300044, [], [⟨0, 32, .rw, .p, .const 0, true, false⟩]⟩,
  -- TB.PPSERR
  ⟨0x300050, [], [⟨0, 32, .ro, .a, .const 0, false, false⟩]⟩,
  -- TB.PPSOFS
  ⟨0x30005c, [], [⟨0, 32, .rw, .p, .const 0, true, false⟩]⟩,
  -- TB.PPSIN_LO
  ⟨0x300048, [], [⟨0, 32, .ro, .a, .const 0, false, false⟩]⟩,
  -- TB.PPSIN_HI
  ⟨0x30004c, [], [⟨0, 32, .ro, .a, .const 0, false, false⟩]⟩,
  -- TB.PPSCNT
  ⟨0x300054, [], [⟨0, 16, .ro, .a, .const 0, false, false⟩,
    ⟨16, 16, .ro, .a, .const 0, false, false⟩]⟩,
  -- TB.PPSOUT
  ⟨0x300058, [], [⟨0, 1, .rw, .p, .const 0, true, false⟩,
    ⟨1, 1, .rw, .p, .const 0, true, false⟩,
    ⟨4, 20, .rw, .p, .const 100000, true, false⟩]⟩,
  -- TB.CYCCFG
  ⟨0x300060, [], [⟨0, 2, .rwl, .p, .const 0, true, false⟩,
    ⟨2, 1, .rwl, .p, .const 1, true, false⟩,
    ⟨8, 5, .rwl, .p, .const 2, true, false⟩,
    ⟨16, 16, .rw, .p, .const 1000, true, false⟩]⟩,
  -- TB.CYCPH
  ⟨0x300064, [], [⟨0, 32, .rwl, .p, .const 0, true, false⟩]⟩,
  -- TB.CYCERR
  ⟨0x300068, [], [⟨0, 32, .ro, .a, .const 0, false, false⟩]⟩,
  -- TB.CYCST_LO
  ⟨0x30006c, [], [⟨0, 32, .ro, .a, .const 0, false, false⟩]⟩,
  -- TB.CYCST_HI
  ⟨0x300070, [], [⟨0, 32, .ro, .a, .const 0, false, false⟩]⟩]

/-- The registers of block WB that spec/11_time_and_waybill.md gives. -/
def regsWb11 : List RegSpec := [
  -- WB.E
  ⟨0x301000, [(0x4, 8)], [⟨0, 32, .rw, .p, .const 0, false, false⟩]⟩,
  -- WB.CMD
  ⟨0x301020, [], [⟨0, 1, .w1s, .p, .const 0, false, false⟩,
    ⟨1, 1, .w1s, .p, .const 0, false, false⟩,
    ⟨2, 1, .w1s, .p, .const 0, false, false⟩,
    ⟨3, 1, .w1s, .p, .const 0, false, false⟩]⟩,
  -- WB.PSTS
  ⟨0x301024, [], [⟨0, 4, .ro, .p, .const 0, false, false⟩,
    ⟨24, 8, .ro, .p, .const 0, false, false⟩]⟩,
  -- WB.STS
  ⟨0x301028, [], [⟨0, 13, .ro, .a, .const 0, false, false⟩,
    ⟨13, 1, .w1c, .a, .const 0, false, false⟩,
    ⟨14, 1, .w1c, .a, .const 0, false, false⟩,
    ⟨15, 1, .w1c, .a, .const 0, false, false⟩,
    ⟨16, 1, .w1c, .a, .const 0, false, false⟩,
    ⟨17, 1, .w1c, .a, .const 0, false, false⟩,
    ⟨18, 1, .w1c, .a, .const 0, false, false⟩]⟩,
  -- WB.CFG
  ⟨0x30102c, [], [⟨0, 13, .rw, .p, .const 3584, true, false⟩]⟩,
  -- WB.CANSEL
  ⟨0x301030, [], [⟨0, 16, .rw, .p, .const 0, false, false⟩,
    ⟨16, 16, .rw, .p, .const 65535, false, false⟩]⟩,
  -- WB.CANCNT
  ⟨0x301034, [], [⟨0, 13, .ro, .p, .const 0, false, false⟩]⟩,
  -- WB.CNT0
  ⟨0x301038, [], [⟨0, 16, .ro, .a, .const 0, false, false⟩,
    ⟨16, 16, .ro, .a, .const 0, false, false⟩]⟩,
  -- WB.CNT1
  ⟨0x30103c, [], [⟨0, 16, .ro, .a, .const 0, false, false⟩,
    ⟨16, 16, .ro, .a, .const 0, false, false⟩]⟩,
  -- WB.CNT2
  ⟨0x301040, [], [⟨0, 16, .ro, .a, .const 0, false, false⟩,
    ⟨16, 16, .ro, .a, .const 0, false, false⟩]⟩,
  -- WB.MAXLAT
  ⟨0x301044, [], [⟨0, 16, .ro, .a, .const 0, false, false⟩]⟩,
  -- WB.HWM
  ⟨0x30104c, [], [⟨0, 16, .ro, .a, .const 0, false, false⟩]⟩,
  -- WB.WIN
  ⟨0x301048, [], [⟨0, 8, .ro, .a, .const 0, false, false⟩]⟩,
  -- WB.DONE0
  ⟨0x301050, [], [⟨0, 16, .ro, .a, .const 0, false, false⟩,
    ⟨16, 4, .ro, .a, .const 0, false, false⟩,
    ⟨20, 1, .ro, .a, .const 0, false, false⟩,
    ⟨21, 1, .ro, .a, .const 0, false, false⟩,
    ⟨22, 1, .ro, .a, .const 0, false, false⟩,
    ⟨24, 7, .ro, .a, .const 0, false, false⟩]⟩,
  -- WB.DONE1
  ⟨0x301054, [], [⟨0, 32, .ro, .a, .const 0, false, false⟩]⟩,
  -- WB.DONE2
  ⟨0x301058, [], [⟨0, 32, .ro, .a, .const 0, false, false⟩]⟩]

/-- The registers of block NET that spec/12_station_network.md gives. -/
def regsNet12 : List RegSpec := [
  -- NET.CTL
  ⟨0x340000, [], [⟨0, 1, .w1s, .u, .const 0, false, false⟩,
    ⟨1, 1, .w1s, .p, .const 0, false, false⟩]⟩,
  -- NET.MAC_LO
  ⟨0x340004, [], [⟨0, 32, .rwl, .p, .const 0, true, false⟩]⟩,
  -- NET.MAC_HI
  ⟨0x340008, [], [⟨0, 16, .rwl, .p, .const 0, true, false⟩]⟩,
  -- NET.PRP
  ⟨0x34000c, [], [⟨0, 1, .rwl, .p, .const 0, true, false⟩,
    ⟨1, 1, .ro, .a, .const 0, false, false⟩,
    ⟨2, 1, .ro, .a, .const 0, false, false⟩,
    ⟨16, 8, .rw, .p, .const 200, true, false⟩,
    ⟨24, 8, .rw, .p, .const 10, true, false⟩]⟩,
  -- NET.BRG
  ⟨0x340010, [], [⟨0, 1, .rwl, .p, .const 0, true, false⟩,
    ⟨16, 16, .ro, .a, .const 0, false, false⟩]⟩,
  -- NET.PTPCFG
  ⟨0x340020, [], [⟨0, 8, .rwl, .p, .const 0, true, false⟩,
    ⟨8, 4, .rwl, .p, .const 3, true, false⟩,
    ⟨12, 1, .rw, .p, .const 1, true, false⟩,
    ⟨16, 4, .rw, .p, .const 0, true, false⟩]⟩,
  -- NET.PTPSRV
  ⟨0x340024, [], [⟨0, 4, .rw, .p, .const 3, true, false⟩,
    ⟨4, 4, .rw, .p, .const 1, true, false⟩,
    ⟨8, 8, .rw, .p, .const 100, true, false⟩,
    ⟨16, 1, .rw, .p, .const 0, true, false⟩]⟩,
  -- NET.PTPLIM
  ⟨0x340028, [], [⟨0, 16, .rw, .p, .const 250, true, false⟩,
    ⟨16, 8, .rw, .p, .const 50, true, false⟩,
    ⟨24, 8, .rw, .p, .const 10, true, false⟩]⟩,
  -- NET.PTPSTS
  ⟨0x34002c, [], [⟨0, 1, .ro, .a, .const 0, false, false⟩,
    ⟨1, 3, .ro, .a, .const 7, false, false⟩,
    ⟨4, 1, .w1c, .a, .const 0, false, false⟩,
    ⟨5, 1, .w1c, .a, .const 0, false, false⟩,
    ⟨6, 1, .w1c, .a, .const 0, false, false⟩,
    ⟨16, 16, .ro, .a, .const 0, false, false⟩]⟩,
  -- NET.PTPOFS
  ⟨0x340030, [], [⟨0, 32, .ro, .a, .const 0, false, false⟩]⟩,
  -- NET.GMID_LO
  ⟨0x340034, [], [⟨0, 32, .ro, .a, .const 0, false, false⟩]⟩,
  -- NET.GMID_HI
  ⟨0x340038, [], [⟨0, 32, .ro, .a, .const 0, false, false⟩]⟩,
  -- NET.GMQ
  ⟨0x34003c, [], [⟨0, 8, .ro, .a, .const 255, false, false⟩,
    ⟨8, 8, .ro, .a, .const 254, false, false⟩,
    ⟨16, 8, .ro, .a, .const 0, false, false⟩,
    ⟨24, 8, .ro, .a, .const 0, false, false⟩]⟩,
  -- NET.SVLOST
  ⟨0x340040, [], [⟨0, 32, .ro, .a, .const 0, false, false⟩]⟩,
  -- NET.P.CFG
  ⟨0x340100, [(0x80, 4)], [⟨0, 2, .rwl, .p, .const 2, true, false⟩,
    ⟨8, 8, .rw, .p, .const 0, true, false⟩]⟩,
  -- NET.P.STS
  ⟨0x340104, [(0x80, 4)], [⟨0, 1, .ro, .a, .const 0, false, false⟩,
    ⟨1, 1, .ro, .a, .const 0, false, false⟩,
    ⟨2, 1, .ro, .a, .const 0, false, false⟩,
    ⟨3, 3, .ro, .a, .const 0, false, false⟩]⟩,
  -- NET.P.ASYM
  ⟨0x340108, [(0x80, 4)], [⟨0, 32, .rw, .p, .const 0, true, false⟩]⟩,
  -- NET.P.MDL
  ⟨0x34010c, [(0x80, 4)], [⟨0, 32, .ro, .a, .const 0, false, false⟩]⟩,
  -- NET.P.LAT
  ⟨0x340110, [(0x80, 4)], [⟨0, 16, .rwl, .p, .const 0, true, false⟩,
    ⟨16, 16, .rwl, .p, .const 0, true, false⟩]⟩,
  -- NET.P.TXGUARD
  ⟨0x340114, [(0x80, 4)], [⟨0, 18, .rw, .p, .const 12400, true, false⟩]⟩,
  -- NET.P.POLICE
  ⟨0x340118, [(0x80, 4)], [⟨0, 20, .rw, .p, .const 20000, true, false⟩,
    ⟨24, 8, .rw, .p, .const 16, true, false⟩]⟩,
  -- NET.P.CNT0
  ⟨0x340120, [(0x80, 4)], [⟨0, 16, .ro, .a, .const 0, false, false⟩,
    ⟨16, 16, .ro, .a, .const 0, false, false⟩]⟩,
  -- NET.P.CNT1
  ⟨0x340124, [(0x80, 4)], [⟨0, 16, .ro, .a, .const 0, false, false⟩,
    ⟨16, 16, .ro, .a, .const 0, false, false⟩]⟩,
  -- NET.P.CNT2
  ⟨0x340128, [(0x80, 4)], [⟨0, 16, .ro, .a, .const 0, false, false⟩,
    ⟨16, 16, .ro, .a, .const 0, false, false⟩]⟩,
  -- NET.P.CNT3
  ⟨0x34012c, [(0x80, 4)], [⟨0, 16, .ro, .a, .const 0, false, false⟩,
    ⟨16, 16, .ro, .a, .const 0, false, false⟩]⟩,
  -- NET.SV.CFG
  ⟨0x341000, [(0x40, 32)], [⟨0, 1, .rw, .p, .const 0, true, false⟩,
    ⟨1, 4, .rw, .p, .const 3, true, false⟩,
    ⟨5, 1, .rw, .p, .const 0, true, false⟩,
    ⟨6, 1, .rw, .p, .const 0, true, false⟩,
    ⟨7, 1, .rw, .p, .const 0, true, false⟩,
    ⟨8, 2, .rw, .p, .const 2, true, false⟩,
    ⟨10, 1, .rw, .p, .const 1, true, false⟩,
    ⟨16, 16, .rw, .p, .const 16384, true, false⟩]⟩,
  -- NET.SV.DMAC_LO
  ⟨0x341004, [(0x40, 32)], [⟨0, 32, .rw, .p, .const 0, true, false⟩]⟩,
  -- NET.SV.DMAC_HI
  ⟨0x341008, [(0x40, 32)], [⟨0, 16, .rw, .p, .const 268, true, false⟩]⟩,
  -- NET.SV.CONFREV
  ⟨0x34100c, [(0x40, 32)], [⟨0, 32, .rw, .p, .const 1, true, false⟩]⟩,
  -- NET.SV.WRAP
  ⟨0x341014, [(0x40, 32)], [⟨0, 17, .rw, .p, .const 0, true, false⟩]⟩,
  -- NET.SV.TIMING
  ⟨0x341010, [(0x40, 32)], [⟨0, 16, .rw, .p, .const 300, true, false⟩,
    ⟨16, 16, .rw, .p, .const 4, true, false⟩]⟩,
  -- NET.SV.STS
  ⟨0x341018, [(0x40, 32)], [⟨0, 16, .ro, .a, .const 0, false, false⟩,
    ⟨16, 1, .ro, .a, .const 1, false, false⟩,
    ⟨17, 1, .w1c, .a, .const 0, false, false⟩,
    ⟨18, 1, .w1c, .a, .const 0, false, false⟩,
    ⟨19, 1, .w1c, .a, .const 0, false, false⟩,
    ⟨20, 1, .w1c, .a, .const 0, false, false⟩]⟩,
  -- NET.SV.CNT
  ⟨0x34101c, [(0x40, 32)], [⟨0, 12, .ro, .a, .const 0, false, false⟩,
    ⟨16, 16, .ro, .a, .const 0, false, false⟩]⟩,
  -- NET.SV.SVID
  ⟨0x341020, [(0x40, 32), (0x4, 8)], [⟨0, 32, .rw, .p, .const 0, true, false⟩]⟩,
  -- NET.SVSC
  ⟨0x342000, [(0x40, 32), (0x4, 16)], [⟨0, 32, .rw, .p, .const 1065353216, true, false⟩]⟩,
  -- NET.FB.CFG
  ⟨0x343000, [(0x20, 32)], [⟨0, 11, .rw, .p, .const 0, false, false⟩,
    ⟨12, 3, .rw, .p, .const 0, false, false⟩,
    ⟨16, 1, .rw, .p, .const 0, false, false⟩,
    ⟨17, 3, .rw, .p, .const 0, false, false⟩,
    ⟨24, 1, .w1c, .a, .const 0, false, false⟩,
    ⟨25, 1, .w1c, .a, .const 0, false, false⟩,
    ⟨26, 1, .w1c, .a, .const 0, false, false⟩]⟩,
  -- NET.FB.TRIG
  ⟨0x343004, [(0x20, 32)], [⟨0, 2, .rw, .p, .const 0, false, false⟩,
    ⟨2, 3, .rw, .p, .const 0, false, false⟩,
    ⟨8, 16, .rw, .p, .const 1, false, false⟩]⟩,
  -- NET.FB.DLY
  ⟨0x343008, [(0x20, 32)], [⟨0, 20, .rw, .p, .const 0, false, false⟩]⟩,
  -- NET.FB.PATCH
  ⟨0x34300c, [(0x20, 32), (0x4, 3)], [⟨0, 11, .rw, .p, .const 0, false, false⟩,
    ⟨12, 3, .rw, .p, .const 0, false, false⟩]⟩,
  -- NET.FB.TXT_LO
  ⟨0x343018, [(0x20, 32)], [⟨0, 32, .ro, .a, .const 0, false, false⟩]⟩,
  -- NET.FB.TXT_HI
  ⟨0x34301c, [(0x20, 32)], [⟨0, 32, .ro, .a, .const 0, false, false⟩]⟩,
  -- NET.FBD
  ⟨0x348000, [(0x800, 32), (0x4, 384)], [⟨0, 32, .rw, .p, .const 0, false, false⟩]⟩]

/-- The registers of block LMU that spec/13_local_measurement.md gives. -/
def regsLmu13 : List RegSpec := [
  -- LMU.CTL
  ⟨0x380000, [], [⟨0, 1, .w1s, .p, .const 0, false, false⟩,
    ⟨1, 1, .w1s, .p, .const 0, false, false⟩,
    ⟨2, 1, .rw, .p, .const 0, false, false⟩,
    ⟨3, 1, .w1s, .p, .const 0, false, false⟩,
    ⟨4, 1, .w1s, .p, .const 0, false, false⟩,
    ⟨5, 1, .w1s, .u, .const 0, false, false⟩]⟩,
  -- LMU.STS
  ⟨0x380004, [], [⟨0, 1, .ro, .a, .const 0, false, false⟩,
    ⟨1, 1, .ro, .a, .const 0, false, false⟩,
    ⟨2, 1, .ro, .a, .const 0, false, false⟩,
    ⟨3, 1, .ro, .a, .const 0, false, false⟩,
    ⟨4, 1, .ro, .a, .const 0, false, false⟩,
    ⟨5, 1, .w1c, .a, .const 0, false, false⟩,
    ⟨6, 1, .w1c, .a, .const 0, false, false⟩,
    ⟨7, 1, .ro, .a, .const 0, false, false⟩,
    ⟨8, 1, .ro, .a, .const 0, false, false⟩,
    ⟨9, 1, .w1c, .a, .const 0, false, false⟩,
    ⟨10, 1, .w1c, .a, .const 0, false, false⟩]⟩,
  -- LMU.CAL
  ⟨0x380040, [(0x10, 2), (0x4, 4)], [⟨0, 16, .ro, .a, .const 0, false, false⟩,
    ⟨16, 16, .ro, .a, .const 0, false, false⟩]⟩,
  -- LMU.ADC.CFG
  ⟨0x380100, [(0x40, 2)], [⟨0, 2, .rwc, .p, .const 0, true, false⟩,
    ⟨2, 6, .rwc, .p, .const 0, true, false⟩,
    ⟨8, 6, .rwc, .p, .const 0, true, false⟩,
    ⟨16, 3, .rw, .p, .const 0, true, false⟩,
    ⟨19, 2, .rw, .p, .const 0, true, false⟩,
    ⟨21, 1, .rw, .p, .const 0, true, false⟩,
    ⟨22, 3, .rw, .p, .const 0, true, false⟩,
    ⟨25, 6, .rw, .p, .const 0, true, false⟩]⟩,
  -- LMU.ADC.TRG
  ⟨0x380104, [(0x40, 2)], [⟨0, 16, .rw, .p, .const 1, true, false⟩]⟩,
  -- LMU.ADC.TOFS
  ⟨0x380108, [(0x40, 2)], [⟨0, 20, .rw, .p, .const 0, true, false⟩]⟩,
  -- LMU.ADC.STS
  ⟨0x38010c, [(0x40, 2)], [⟨0, 1, .ro, .a, .const 0, false, false⟩,
    ⟨1, 1, .ro, .a, .const 0, false, false⟩,
    ⟨2, 6, .ro, .a, .const 0, false, false⟩]⟩,
  -- LMU.ADC.CNT
  ⟨0x380110, [(0x40, 2)], [⟨0, 16, .ro, .a, .const 0, false, false⟩,
    ⟨16, 16, .ro, .a, .const 0, false, false⟩]⟩,
  -- LMU.ADC.CNT2
  ⟨0x380114, [(0x40, 2)], [⟨0, 16, .ro, .a, .const 0, false, false⟩,
    ⟨16, 16, .ro, .a, .const 0, false, false⟩]⟩,
  -- LMU.SEQ.CFG
  ⟨0x381000, [(0x10, 64)], [⟨0, 5, .rwc, .p, .const 0, true, false⟩,
    ⟨5, 2, .rwc, .p, .const 0, true, false⟩,
    ⟨7, 1, .rwc, .p, .const 0, true, false⟩,
    ⟨8, 6, .rwc, .p, .const 0, true, false⟩,
    ⟨14, 8, .rwc, .p, .const 0, true, false⟩,
    ⟨22, 3, .rwc, .p, .const 0, true, false⟩,
    ⟨25, 1, .rwc, .p, .const 0, true, false⟩]⟩,
  -- LMU.SEQ.SCALE
  ⟨0x381004, [(0x10, 64)], [⟨0, 32, .rwc, .p, .const 1065353216, true, false⟩]⟩,
  -- LMU.SEQ.OFS
  ⟨0x381008, [(0x10, 64)], [⟨0, 32, .rwc, .p, .const 0, true, false⟩]⟩,
  -- LMU.SEQ.RES
  ⟨0x38100c, [(0x10, 64)], [⟨0, 16, .ro, .a, .const 0, false, false⟩,
    ⟨16, 1, .ro, .a, .const 0, false, false⟩,
    ⟨17, 1, .ro, .a, .const 0, false, false⟩,
    ⟨18, 1, .ro, .a, .const 0, false, false⟩,
    ⟨19, 1, .ro, .a, .const 0, false, false⟩]⟩,
  -- LMU.DCH.CFG
  ⟨0x382000, [(0x40, 8)], [⟨0, 1, .rw, .p, .const 0, true, false⟩,
    ⟨1, 1, .rw, .p, .const 0, true, false⟩,
    ⟨2, 4, .rw, .p, .const 0, true, false⟩,
    ⟨16, 16, .rw, .p, .const 0, true, false⟩]⟩,
  -- LMU.DCH.THR
  ⟨0x382004, [(0x40, 8)], [⟨0, 16, .rw, .p, .const 32768, true, false⟩,
    ⟨16, 16, .rw, .p, .const 32767, true, false⟩]⟩,
  -- LMU.DCH.RES
  ⟨0x382008, [(0x40, 8)], [⟨0, 16, .ro, .a, .const 0, false, false⟩,
    ⟨16, 1, .ro, .a, .const 0, false, false⟩,
    ⟨17, 1, .ro, .a, .const 0, false, false⟩,
    ⟨18, 1, .ro, .a, .const 0, false, false⟩,
    ⟨19, 1, .w1c, .a, .const 0, false, false⟩,
    ⟨20, 1, .w1c, .a, .const 0, false, false⟩]⟩,
  -- LMU.DCH.VAL
  ⟨0x38200c, [(0x40, 8)], [⟨0, 32, .ro, .a, .const 0, false, false⟩]⟩,
  -- LMU.DCH.TS_LO
  ⟨0x382010, [(0x40, 8)], [⟨0, 32, .ro, .a, .const 0, false, false⟩]⟩,
  -- LMU.DCH.TS_HI
  ⟨0x382014, [(0x40, 8)], [⟨0, 32, .ro, .a, .const 0, false, false⟩]⟩,
  -- LMU.DCH.TRT_LO
  ⟨0x382018, [(0x40, 8)], [⟨0, 32, .ro, .a, .const 0, false, false⟩]⟩,
  -- LMU.DCH.TRT_HI
  ⟨0x38201c, [(0x40, 8)], [⟨0, 32, .ro, .a, .const 0, false, false⟩]⟩,
  -- LMU.DCH.STALE
  ⟨0x382020, [(0x40, 8)], [⟨0, 16, .rw, .p, .const 100, true, false⟩]⟩,
  -- LMU.DCH.TRCNT
  ⟨0x382024, [(0x40, 8)], [⟨0, 16, .ro, .a, .const 0, false, false⟩]⟩,
  -- LMU.ACC.CFG
  ⟨0x383000, [(0x20, 32)], [⟨0, 6, .rw, .p, .const 0, true, false⟩,
    ⟨6, 2, .rw, .p, .const 0, true, false⟩,
    ⟨8, 1, .rw, .p, .const 0, true, false⟩,
    ⟨9, 3, .rw, .p, .const 0, true, false⟩,
    ⟨16, 16, .rw, .p, .const 1, true, false⟩]⟩,
  -- LMU.TRK.CFG
  ⟨0x384000, [(0x20, 16)], [⟨0, 6, .rw, .p, .const 0, true, false⟩,
    ⟨6, 2, .rw, .p, .const 0, true, false⟩,
    ⟨8, 1, .rw, .p, .const 0, true, false⟩,
    ⟨9, 3, .rw, .p, .const 0, true, false⟩,
    ⟨16, 16, .rw, .p, .const 1, true, false⟩]⟩,
  -- LMU.ACC.SUM_LO
  ⟨0x383004, [(0x20, 32)], [⟨0, 32, .ro, .a, .const 0, false, false⟩]⟩,
  -- LMU.ACC.SUM_HI
  ⟨0x383008, [(0x20, 32)], [⟨0, 16, .ro, .a, .const 0, false, false⟩]⟩,
  -- LMU.ACC.NV
  ⟨0x38300c, [(0x20, 32)], [⟨0, 32, .ro, .a, .const 0, false, false⟩]⟩,
  -- LMU.ACC.STS
  ⟨0x383010, [(0x20, 32)], [⟨0, 1, .ro, .a, .const 1, false, false⟩,
    ⟨1, 1, .w1c, .a, .const 0, false, false⟩,
    ⟨16, 16, .ro, .a, .const 0, false, false⟩]⟩,
  -- LMU.TRK.STS
  ⟨0x384010, [(0x20, 16)], [⟨0, 1, .ro, .a, .const 1, false, false⟩,
    ⟨1, 1, .w1c, .a, .const 0, false, false⟩,
    ⟨16, 16, .ro, .a, .const 0, false, false⟩]⟩,
  -- LMU.ACC.MEAN
  ⟨0x383014, [(0x20, 32)], [⟨0, 32, .ro, .a, .const 2143289344, false, false⟩]⟩,
  -- LMU.TRK.CODES
  ⟨0x384004, [(0x20, 16)], [⟨0, 16, .ro, .a, .const 0, false, false⟩,
    ⟨16, 16, .ro, .a, .const 0, false, false⟩]⟩,
  -- LMU.TRK.MINV
  ⟨0x384008, [(0x20, 16)], [⟨0, 32, .ro, .a, .const 2143289344, false, false⟩]⟩,
  -- LMU.TRK.MAXV
  ⟨0x38400c, [(0x20, 16)], [⟨0, 32, .ro, .a, .const 2143289344, false, false⟩]⟩]

/-- The registers of block LMU that spec/14_protection_and_safety.md gives. -/
def regsLmu14 : List RegSpec := [
  -- LMU.PROT
  ⟨0x385000, [(0x4, 8)], [⟨0, 12, .rw, .p, .const 4095, true, false⟩,
    ⟨12, 1, .rw, .p, .const 1, true, false⟩,
    ⟨13, 1, .w1c, .a, .const 0, false, false⟩]⟩,
  -- LMU.PROTCNT
  ⟨0x385020, [], [⟨0, 16, .ro, .a, .const 0, false, false⟩]⟩]

/-- The registers of block SBU that spec/14_protection_and_safety.md gives. -/
def regsSbu14 : List RegSpec := [
  -- SBU.STS
  ⟨0x3a0000, [], [⟨0, 1, .ro, .a, .const 0, false, false⟩,
    ⟨1, 1, .ro, .a, .const 0, false, false⟩,
    ⟨2, 1, .ro, .a, .const 0, false, false⟩,
    ⟨3, 1, .ro, .a, .const 0, false, false⟩,
    ⟨4, 1, .ro, .a, .const 0, false, false⟩,
    ⟨5, 1, .ro, .a, .const 0, false, false⟩,
    ⟨6, 1, .ro, .a, .const 0, false, false⟩,
    ⟨7, 1, .ro, .a, .const 0, false, false⟩,
    ⟨8, 1, .ro, .a, .const 0, false, false⟩,
    ⟨9, 1, .ro, .a, .const 0, false, false⟩,
    ⟨10, 1, .ro, .a, .const 0, false, false⟩]⟩,
  -- SBU.CAUSE
  ⟨0x3a0004, [], [⟨0, 1, .ro, .a, .const 0, false, false⟩,
    ⟨1, 1, .ro, .a, .const 0, false, false⟩,
    ⟨2, 1, .ro, .a, .const 0, false, false⟩,
    ⟨3, 1, .ro, .a, .const 0, false, false⟩,
    ⟨4, 1, .ro, .a, .const 0, false, false⟩,
    ⟨5, 1, .ro, .a, .const 0, false, false⟩,
    ⟨8, 1, .ro, .a, .const 0, false, false⟩]⟩,
  -- SBU.CMD
  ⟨0x3a0008, [], [⟨0, 8, .wo, .p, .const 0, false, false⟩,
    ⟨16, 16, .wo, .p, .const 0, false, false⟩]⟩,
  -- SBU.CMDSTS
  ⟨0x3a000c, [], [⟨0, 2, .ro, .a, .const 0, false, false⟩,
    ⟨8, 8, .ro, .a, .const 0, false, false⟩]⟩,
  -- SBU.TICK
  ⟨0x3a0010, [], [⟨0, 32, .ro, .a, .const 0, false, false⟩]⟩,
  -- SBU.PAIR.STS
  ⟨0x3a0100, [(0x10, 8)], [⟨0, 1, .ro, .a, .const 0, false, false⟩,
    ⟨1, 1, .ro, .a, .const 0, false, false⟩,
    ⟨2, 1, .ro, .a, .const 0, false, false⟩,
    ⟨3, 1, .ro, .a, .const 0, false, false⟩,
    ⟨4, 2, .ro, .a, .const 0, false, false⟩,
    ⟨16, 10, .ro, .a, .const 0, false, false⟩]⟩,
  -- SBU.PAIR.CNT
  ⟨0x3a0104, [(0x10, 8)], [⟨0, 16, .ro, .a, .const 0, false, false⟩,
    ⟨16, 16, .ro, .a, .const 0, false, false⟩]⟩,
  -- SBU.OUT.STS
  ⟨0x3a0200, [(0x10, 2)], [⟨0, 1, .ro, .a, .const 0, false, false⟩,
    ⟨1, 1, .ro, .a, .const 0, false, false⟩,
    ⟨2, 1, .ro, .a, .const 0, false, false⟩,
    ⟨3, 1, .ro, .a, .const 0, false, false⟩]⟩,
  -- SBU.OUT.CNT
  ⟨0x3a0204, [(0x10, 2)], [⟨0, 16, .ro, .a, .const 0, false, false⟩,
    ⟨16, 16, .ro, .a, .const 0, false, false⟩]⟩]

/-- The registers of block FC that spec/15_fault_collector.md gives. -/
def regsFc15 : List RegSpec := [
  -- FC.STS
  ⟨0x3b0000, [], [⟨0, 1, .ro, .a, .const 0, false, false⟩,
    ⟨1, 1, .ro, .a, .const 0, false, false⟩,
    ⟨2, 1, .ro, .a, .const 0, false, false⟩,
    ⟨3, 1, .ro, .a, .const 0, false, false⟩,
    ⟨4, 1, .ro, .a, .const 0, false, false⟩,
    ⟨5, 1, .w1c, .a, .const 0, false, true⟩,
    ⟨6, 1, .ro, .a, .const 0, false, false⟩,
    ⟨7, 1, .ro, .a, .const 0, false, true⟩]⟩,
  -- FC.CMD
  ⟨0x3b0004, [], [⟨0, 8, .wo, .p, .const 0, false, false⟩,
    ⟨16, 16, .wo, .p, .const 0, false, false⟩]⟩,
  -- FC.CMDSTS
  ⟨0x3b0008, [], [⟨0, 2, .ro, .a, .const 0, false, false⟩,
    ⟨4, 4, .ro, .a, .const 0, false, false⟩,
    ⟨8, 8, .ro, .a, .const 0, false, false⟩]⟩,
  -- FC.FIRST
  ⟨0x3b000c, [], [⟨0, 9, .ro, .a, .const 0, false, true⟩,
    ⟨9, 3, .ro, .a, .const 0, false, true⟩,
    ⟨12, 1, .ro, .a, .const 0, false, true⟩,
    ⟨13, 1, .ro, .a, .const 0, false, true⟩,
    ⟨16, 8, .ro, .a, .const 0, false, true⟩]⟩,
  -- FC.FIRSTT_LO
  ⟨0x3b0010, [], [⟨0, 32, .ro, .a, .const 0, false, true⟩]⟩,
  -- FC.FIRSTT_HI
  ⟨0x3b0014, [], [⟨0, 32, .ro, .a, .const 0, false, true⟩]⟩,
  -- FC.FIRSTCYC
  ⟨0x3b0018, [], [⟨0, 32, .ro, .a, .const 0, false, true⟩]⟩,
  -- FC.LANTERN
  ⟨0x3b001c, [], [⟨0, 1, .ro, .a, .const 0, false, false⟩,
    ⟨1, 1, .ro, .a, .const 0, false, false⟩,
    ⟨2, 1, .ro, .a, .const 0, false, false⟩,
    ⟨3, 1, .ro, .a, .const 1, false, false⟩,
    ⟨4, 1, .ro, .a, .const 0, false, false⟩,
    ⟨5, 1, .ro, .a, .const 0, false, false⟩,
    ⟨6, 1, .ro, .a, .const 0, false, false⟩]⟩,
  -- FC.LIN
  ⟨0x3b0020, [], [⟨0, 1, .ro, .a, .const 0, false, false⟩,
    ⟨1, 1, .ro, .a, .const 0, false, false⟩,
    ⟨2, 1, .ro, .a, .const 1, false, false⟩,
    ⟨16, 16, .ro, .a, .const 0, false, false⟩]⟩,
  -- FC.OHB
  ⟨0x3b0024, [], [⟨0, 8, .rw, .p, .const 50, true, false⟩,
    ⟨8, 1, .ro, .a, .const 0, false, false⟩]⟩,
  -- FC.TEST
  ⟨0x3b0028, [], [⟨0, 1, .rw, .p, .const 0, false, false⟩,
    ⟨1, 1, .w1c, .a, .const 0, false, false⟩,
    ⟨2, 2, .ro, .a, .const 0, false, false⟩,
    ⟨4, 1, .ro, .a, .const 0, false, false⟩]⟩,
  -- FC.UNLOCK
  ⟨0x3b002c, [], [⟨0, 32, .wo, .p, .const 0, false, false⟩]⟩,
  -- FC.INJ
  ⟨0x3b0030, [], [⟨0, 9, .wo, .p, .const 0, false, false⟩,
    ⟨9, 2, .wo, .p, .const 0, false, false⟩]⟩,
  -- FC.LOGCFG
  ⟨0x3b0034, [], [⟨0, 8, .rw, .p, .const 16, true, false⟩,
    ⟨8, 1, .rw, .p, .const 1, true, false⟩]⟩,
  -- FC.CNT
  ⟨0x3b0038, [], [⟨0, 16, .ro, .a, .const 0, false, false⟩,
    ⟨16, 16, .ro, .a, .const 0, false, false⟩]⟩,
  -- FC.STICKY
  ⟨0x3b0100, [(0x4, 16)], [⟨0, 32, .w1c, .a, .const 0, false, true⟩]⟩,
  -- FC.LIVE
  ⟨0x3b0140, [(0x4, 16)], [⟨0, 32, .ro, .a, .const 0, false, false⟩]⟩,
  -- FC.REAL
  ⟨0x3b0180, [(0x4, 16)], [⟨0, 32, .ro, .a, .const 0, false, true⟩]⟩,
  -- FC.INJB
  ⟨0x3b01c0, [(0x4, 16)], [⟨0, 32, .ro, .a, .const 0, false, true⟩]⟩,
  -- FC.SEV
  ⟨0x3b0200, [(0x4, 64)], [⟨0, 3, .rwl, .p, .severity, true, false⟩,
    ⟨4, 3, .rwl, .p, .severity, true, false⟩,
    ⟨8, 3, .rwl, .p, .severity, true, false⟩,
    ⟨12, 3, .rwl, .p, .severity, true, false⟩,
    ⟨16, 3, .rwl, .p, .severity, true, false⟩,
    ⟨20, 3, .rwl, .p, .severity, true, false⟩,
    ⟨24, 3, .rwl, .p, .severity, true, false⟩,
    ⟨28, 3, .rwl, .p, .severity, true, false⟩]⟩]

/-- The registers of block TWN that spec/16_twin_operation.md gives. -/
def regsTwn16 : List RegSpec := [
  -- TWN.CTL
  ⟨0x3c0000, [], [⟨0, 1, .rw, .p, .const 0, false, false⟩,
    ⟨1, 1, .w1s, .p, .const 0, false, false⟩,
    ⟨2, 1, .w1s, .u, .const 0, false, false⟩]⟩,
  -- TWN.CMD
  ⟨0x3c0004, [], [⟨0, 8, .wo, .p, .const 0, false, false⟩,
    ⟨8, 8, .wo, .p, .const 0, false, false⟩,
    ⟨16, 16, .wo, .p, .const 0, false, false⟩]⟩,
  -- TWN.CMDSTS
  ⟨0x3c0008, [], [⟨0, 2, .ro, .a, .const 0, false, false⟩,
    ⟨8, 8, .ro, .a, .const 0, false, false⟩]⟩,
  -- TWN.STS
  ⟨0x3c000c, [], [⟨0, 3, .ro, .a, .const 0, false, false⟩,
    ⟨3, 4, .ro, .a, .const 0, false, false⟩,
    ⟨7, 1, .ro, .a, .const 0, false, false⟩,
    ⟨8, 1, .ro, .a, .const 0, false, false⟩,
    ⟨9, 1, .ro, .a, .const 0, false, false⟩,
    ⟨10, 2, .ro, .a, .const 1, false, false⟩,
    ⟨12, 4, .ro, .a, .const 0, false, false⟩,
    ⟨16, 1, .ro, .a, .const 0, false, false⟩,
    ⟨17, 1, .ro, .a, .const 0, false, false⟩,
    ⟨18, 1, .ro, .a, .const 0, false, false⟩]⟩,
  -- TWN.NRCAUSE
  ⟨0x3c0010, [], [⟨0, 9, .ro, .a, .const 1, false, false⟩]⟩,
  -- TWN.CFG
  ⟨0x3c0014, [], [⟨0, 1, .rwl, .p, .const 1, true, false⟩,
    ⟨1, 1, .rwl, .p, .const 1, true, false⟩,
    ⟨2, 1, .rwl, .p, .const 1, true, false⟩,
    ⟨3, 1, .rwl, .p, .const 0, true, false⟩,
    ⟨4, 1, .rw, .p, .const 1, true, false⟩,
    ⟨8, 8, .rwl, .p, .const 100, true, false⟩,
    ⟨16, 8, .rw, .p, .const 16, true, false⟩]⟩,
  -- TWN.MID
  ⟨0x3c0018, [], [⟨0, 16, .rwl, .p, .const 0, true, false⟩,
    ⟨16, 16, .ro, .a, .const 0, false, false⟩]⟩,
  -- TWN.PEPOCH
  ⟨0x3c001c, [], [⟨0, 16, .ro, .a, .const 0, false, false⟩]⟩,
  -- TWN.LRLY
  ⟨0x3c0020, [], [⟨0, 32, .ro, .a, .const 0, false, false⟩]⟩,
  -- TWN.ALIGN
  ⟨0x3c0024, [], [⟨0, 32, .ro, .a, .const 0, false, false⟩]⟩,
  -- TWN.GMARGIN
  ⟨0x3c0028, [], [⟨0, 32, .ro, .a, .const 0, false, false⟩]⟩,
  -- TWN.ALIGNTH
  ⟨0x3c002c, [], [⟨0, 10, .rw, .p, .const 200, true, false⟩]⟩,
  -- TWN.REVERT_HOLD
  ⟨0x3c0030, [], [⟨0, 16, .rw, .p, .const 120, true, false⟩]⟩,
  -- TWN.REVTMR
  ⟨0x3c0034, [], [⟨0, 16, .ro, .a, .const 0, false, false⟩]⟩,
  -- TWN.SNAP
  ⟨0x3c0038, [], [⟨0, 16, .ro, .a, .const 0, false, false⟩,
    ⟨16, 16, .ro, .a, .const 0, false, false⟩]⟩,
  -- TWN.CMPCNT
  ⟨0x3c003c, [], [⟨0, 32, .ro, .a, .const 0, false, false⟩]⟩,
  -- TWN.MISCNT
  ⟨0x3c0040, [], [⟨0, 32, .ro, .a, .const 0, false, false⟩]⟩,
  -- TWN.RSYNCCNT
  ⟨0x3c0044, [], [⟨0, 32, .ro, .a, .const 0, false, false⟩]⟩,
  -- TWN.ARMSYNC
  ⟨0x3c0048, [], [⟨0, 12, .ro, .a, .const 0, false, false⟩,
    ⟨16, 12, .ro, .a, .const 0, false, false⟩]⟩,
  -- TWN.TKSTS
  ⟨0x3c004c, [], [⟨0, 3, .ro, .a, .const 0, false, false⟩,
    ⟨3, 1, .w1c, .a, .const 0, false, false⟩,
    ⟨16, 12, .ro, .a, .const 0, false, false⟩]⟩,
  -- TWN.TKCYC
  ⟨0x3c0050, [], [⟨0, 32, .ro, .a, .const 0, false, false⟩]⟩,
  -- TWN.TKT_LO
  ⟨0x3c0054, [], [⟨0, 32, .ro, .a, .const 0, false, false⟩]⟩,
  -- TWN.TKT_HI
  ⟨0x3c0058, [], [⟨0, 32, .ro, .a, .const 0, false, false⟩]⟩,
  -- TWN.REHCFG
  ⟨0x3c005c, [], [⟨0, 8, .rw, .p, .const 16, true, false⟩,
    ⟨8, 1, .rw, .p, .const 1, true, false⟩]⟩,
  -- TWN.REHSTS
  ⟨0x3c0060, [], [⟨0, 2, .ro, .a, .const 0, false, false⟩,
    ⟨2, 14, .ro, .a, .const 0, false, false⟩,
    ⟨16, 13, .ro, .a, .const 0, false, false⟩]⟩,
  -- TWN.EXERCISE
  ⟨0x3c0064, [], [⟨0, 10, .rw, .p, .const 90, true, false⟩]⟩,
  -- TWN.LASTDRV_LO
  ⟨0x3c0068, [], [⟨0, 32, .ro, .a, .const 0, false, true⟩]⟩,
  -- TWN.LASTDRV_HI
  ⟨0x3c006c, [], [⟨0, 32, .ro, .a, .const 0, false, true⟩]⟩,
  -- TWN.ERR
  ⟨0x3c0070, [], [⟨0, 8, .ro, .a, .const 0, false, false⟩,
    ⟨8, 8, .ro, .a, .const 0, false, false⟩,
    ⟨16, 8, .ro, .a, .const 0, false, false⟩,
    ⟨24, 8, .ro, .a, .const 0, false, false⟩]⟩]

/-- The registers of block HST that spec/17_host_and_sideband.md gives. -/
def regsHst17 : List RegSpec := [
  -- HST.STS
  ⟨0x3d0000, [], [⟨0, 1, .ro, .a, .const 0, false, false⟩,
    ⟨1, 2, .ro, .a, .const 0, false, false⟩,
    ⟨3, 3, .ro, .a, .const 0, false, false⟩,
    ⟨6, 1, .ro, .a, .const 0, false, false⟩,
    ⟨7, 2, .ro, .a, .const 0, false, false⟩,
    ⟨9, 1, .ro, .a, .const 0, false, false⟩]⟩,
  -- HST.WERR
  ⟨0x3d0004, [], [⟨0, 1, .w1c, .u, .const 0, false, false⟩,
    ⟨1, 1, .w1c, .u, .const 0, false, false⟩,
    ⟨2, 1, .w1c, .u, .const 0, false, false⟩,
    ⟨3, 1, .w1c, .u, .const 0, false, false⟩,
    ⟨4, 1, .w1c, .u, .const 0, false, false⟩,
    ⟨8, 2, .ro, .u, .const 0, false, false⟩]⟩,
  -- HST.FRZ
  ⟨0x3d0008, [], [⟨0, 3, .ro, .a, .const 0, false, true⟩,
    ⟨16, 16, .ro, .a, .const 0, false, true⟩]⟩,
  -- HST.RELEASE
  ⟨0x3d000c, [], [⟨0, 3, .wo, .p, .const 0, false, false⟩,
    ⟨16, 16, .wo, .p, .const 0, false, false⟩]⟩,
  -- HST.PF1CFG
  ⟨0x3d0010, [], [⟨0, 1, .rw, .p, .const 0, true, false⟩]⟩,
  -- HST.CWPAGE
  ⟨0x3d0014, [], [⟨0, 9, .rw, .u, .const 0, false, false⟩]⟩,
  -- HST.PCIID
  ⟨0x3d0018, [], [⟨0, 16, .ro, .a, .const 0, false, false⟩]⟩,
  -- HST.PCIERR
  ⟨0x3d001c, [], [⟨0, 16, .ro, .a, .const 0, false, false⟩,
    ⟨16, 16, .ro, .a, .const 0, false, false⟩]⟩,
  -- HST.VIOL.ADDR
  ⟨0x3d0020, [(0x10, 3)], [⟨0, 32, .ro, .a, .const 0, false, true⟩]⟩,
  -- HST.VIOL.INFO
  ⟨0x3d0024, [(0x10, 3)], [⟨0, 2, .ro, .a, .const 0, false, true⟩,
    ⟨2, 1, .ro, .a, .const 0, false, true⟩,
    ⟨3, 1, .ro, .a, .const 0, false, true⟩,
    ⟨4, 3, .ro, .a, .const 0, false, true⟩]⟩,
  -- HST.VIOL.T_LO
  ⟨0x3d0028, [(0x10, 3)], [⟨0, 32, .ro, .a, .const 0, false, true⟩]⟩,
  -- HST.VIOL.T_HI
  ⟨0x3d002c, [(0x10, 3)], [⟨0, 32, .ro, .a, .const 0, false, true⟩]⟩,
  -- HST.OSTLER_LOAD
  ⟨0x3d0050, [], [⟨0, 10, .ro, .a, .const 0, false, false⟩,
    ⟨10, 10, .ro, .a, .const 0, false, false⟩,
    ⟨20, 1, .ro, .a, .const 0, false, false⟩]⟩,
  -- HST.OSTLER_STS
  ⟨0x3d0054, [], [⟨0, 1, .ro, .a, .const 0, false, false⟩,
    ⟨1, 1, .ro, .a, .const 0, false, false⟩]⟩,
  -- HST.OSTLER_CNT
  ⟨0x3d0058, [], [⟨0, 16, .ro, .a, .const 0, false, false⟩,
    ⟨16, 16, .ro, .a, .const 0, false, true⟩]⟩,
  -- HST.SBCNT
  ⟨0x3d005c, [], [⟨0, 16, .ro, .a, .const 0, false, false⟩,
    ⟨16, 16, .ro, .a, .const 0, false, false⟩]⟩,
  -- HST.EVSTS
  ⟨0x3d0080, [], [⟨0, 32, .w1c, .u, .const 0, false, false⟩]⟩,
  -- HST.EVEN
  ⟨0x3d0084, [], [⟨0, 32, .rw, .u, .const 0, false, false⟩]⟩,
  -- HST.EVVEC
  ⟨0x3d0100, [(0x4, 32)], [⟨0, 6, .rw, .u, .index, false, false⟩]⟩,
  -- HST.DMA.HADDR_LO
  ⟨0x3d0200, [(0x20, 8)], [⟨0, 32, .rw, .u, .const 0, false, false⟩]⟩,
  -- HST.DMA.HADDR_HI
  ⟨0x3d0204, [(0x20, 8)], [⟨0, 32, .rw, .u, .const 0, false, false⟩]⟩,
  -- HST.DMA.DADDR_LO
  ⟨0x3d0208, [(0x20, 8)], [⟨0, 32, .rw, .u, .const 0, false, false⟩]⟩,
  -- HST.DMA.DADDR_HI
  ⟨0x3d020c, [(0x20, 8)], [⟨0, 1, .rw, .u, .const 0, false, false⟩]⟩,
  -- HST.DMA.LEN
  ⟨0x3d0210, [(0x20, 8)], [⟨0, 25, .rw, .u, .const 0, false, false⟩]⟩,
  -- HST.DMA.CTL
  ⟨0x3d0214, [(0x20, 8)], [⟨0, 1, .w1s, .u, .const 0, false, false⟩,
    ⟨1, 1, .w1s, .u, .const 0, false, false⟩,
    ⟨2, 2, .rw, .u, .const 0, false, false⟩,
    ⟨4, 1, .rw, .u, .const 0, false, false⟩,
    ⟨5, 1, .rw, .u, .const 0, false, false⟩,
    ⟨6, 1, .rw, .u, .const 0, false, false⟩]⟩,
  -- HST.DMA.STS
  ⟨0x3d0218, [(0x20, 8)], [⟨0, 1, .ro, .a, .const 0, false, false⟩,
    ⟨1, 3, .ro, .a, .const 0, false, false⟩,
    ⟨4, 2, .ro, .a, .const 0, false, false⟩,
    ⟨6, 26, .ro, .a, .const 0, false, false⟩]⟩,
  -- HST.NRX_LO
  ⟨0x3d0300, [], [⟨0, 32, .rw, .p, .const 0, false, false⟩]⟩,
  -- HST.NRX_HI
  ⟨0x3d0304, [], [⟨0, 32, .rw, .p, .const 0, false, false⟩]⟩,
  -- HST.NRXCFG
  ⟨0x3d0308, [], [⟨0, 1, .rw, .p, .const 0, false, false⟩,
    ⟨16, 13, .rw, .p, .const 256, false, false⟩]⟩,
  -- HST.NRXHEAD
  ⟨0x3d030c, [], [⟨0, 12, .ro, .p, .const 0, false, false⟩]⟩,
  -- HST.NRXTAIL
  ⟨0x3d0310, [], [⟨0, 12, .rw, .p, .const 0, false, false⟩]⟩,
  -- HST.NRXCNT
  ⟨0x3d0314, [], [⟨0, 16, .ro, .p, .const 0, false, false⟩,
    ⟨16, 16, .ro, .p, .const 0, false, false⟩]⟩,
  -- HST.NTX
  ⟨0x3d0320, [], [⟨0, 5, .wo, .p, .const 0, false, false⟩,
    ⟨8, 3, .wo, .p, .const 0, false, false⟩]⟩,
  -- HST.MDIO
  ⟨0x3d0324, [], [⟨0, 16, .rw, .p, .const 0, false, false⟩,
    ⟨16, 5, .rw, .p, .const 0, false, false⟩,
    ⟨21, 5, .rw, .p, .const 0, false, false⟩,
    ⟨26, 1, .rw, .p, .const 0, false, false⟩,
    ⟨27, 1, .w1s, .p, .const 0, false, false⟩,
    ⟨28, 1, .ro, .p, .const 0, false, false⟩]⟩]

/-- The registers of block CLK that spec/18_clocks_and_power.md gives. -/
def regsClk18 : List RegSpec := [
  -- CLK.SUPSTS
  ⟨0x3e0000, [], [⟨0, 1, .ro, .a, .const 0, false, false⟩,
    ⟨1, 1, .ro, .a, .const 0, false, false⟩,
    ⟨2, 1, .ro, .a, .const 0, false, false⟩,
    ⟨3, 1, .ro, .a, .const 0, false, false⟩,
    ⟨4, 1, .ro, .a, .const 0, false, false⟩,
    ⟨5, 11, .ro, .a, .const 0, false, false⟩,
    ⟨16, 1, .ro, .a, .const 0, false, false⟩]⟩,
  -- CLK.VMON
  ⟨0x3e0004, [], [⟨0, 16, .ro, .a, .const 0, false, false⟩,
    ⟨16, 16, .ro, .a, .const 0, false, false⟩]⟩,
  -- CLK.PWRCFG
  ⟨0x3e0008, [], [⟨0, 13, .rw, .p, .const 2620, true, false⟩]⟩,
  -- CLK.RSTCAUSE
  ⟨0x3e000c, [], [⟨0, 4, .ro, .a, .const 0, false, true⟩,
    ⟨8, 4, .ro, .a, .const 0, false, true⟩,
    ⟨16, 16, .ro, .a, .const 0, false, true⟩]⟩,
  -- CLK.RST
  ⟨0x3e0010, [], [⟨0, 8, .wo, .p, .const 0, false, false⟩,
    ⟨16, 16, .wo, .p, .const 0, false, false⟩]⟩,
  -- CLK.TEMP
  ⟨0x3e0014, [], [⟨0, 16, .ro, .a, .const 0, false, false⟩,
    ⟨16, 8, .ro, .a, .const 0, false, false⟩]⟩,
  -- CLK.THERM
  ⟨0x3e0018, [], [⟨0, 8, .rw, .p, .const 105, true, false⟩]⟩,
  -- CLK.CKSTS
  ⟨0x3e001c, [], [⟨0, 1, .ro, .a, .const 0, false, false⟩,
    ⟨1, 1, .ro, .a, .const 0, false, false⟩,
    ⟨2, 1, .ro, .a, .const 0, false, false⟩,
    ⟨3, 1, .ro, .a, .const 0, false, false⟩,
    ⟨4, 1, .ro, .a, .const 0, false, false⟩,
    ⟨5, 1, .ro, .a, .const 0, false, false⟩,
    ⟨6, 1, .ro, .a, .const 0, false, false⟩,
    ⟨7, 1, .ro, .a, .const 0, false, false⟩,
    ⟨8, 1, .ro, .a, .const 0, false, false⟩,
    ⟨9, 1, .ro, .a, .const 0, false, false⟩,
    ⟨10, 1, .ro, .a, .const 0, false, false⟩,
    ⟨11, 1, .ro, .a, .const 0, false, false⟩,
    ⟨12, 1, .ro, .a, .const 0, false, false⟩]⟩,
  -- CLK.LPLL
  ⟨0x3e0020, [], [⟨0, 32, .ro, .a, .const 0, false, false⟩]⟩,
  -- CLK.CKERR
  ⟨0x3e0024, [], [⟨0, 16, .ro, .a, .const 0, false, false⟩,
    ⟨16, 16, .ro, .a, .const 0, false, false⟩]⟩,
  -- CLK.FBTRIM
  ⟨0x3e0028, [], [⟨0, 10, .ro, .a, .const 0, false, false⟩,
    ⟨16, 10, .ro, .a, .const 0, false, false⟩]⟩,
  -- CLK.MUXCNT
  ⟨0x3e002c, [], [⟨0, 16, .ro, .a, .const 0, false, false⟩,
    ⟨16, 16, .ro, .a, .const 0, false, false⟩]⟩,
  -- CLK.GATE0
  ⟨0x3e0030, [], [⟨0, 32, .rw, .p, .const 0, false, false⟩]⟩,
  -- CLK.GATE1
  ⟨0x3e0034, [], [⟨0, 4, .rw, .p, .const 0, false, false⟩,
    ⟨4, 1, .rw, .p, .const 0, false, false⟩,
    ⟨5, 2, .rw, .p, .const 0, false, false⟩]⟩,
  -- CLK.GSTS0
  ⟨0x3e0038, [], [⟨0, 32, .ro, .a, .const 0, false, false⟩]⟩,
  -- CLK.GSTS1
  ⟨0x3e003c, [], [⟨0, 7, .ro, .a, .const 0, false, false⟩,
    ⟨7, 1, .ro, .a, .const 0, false, false⟩]⟩,
  -- CLK.ERR
  ⟨0x3e0040, [], [⟨0, 1, .w1c, .a, .const 0, false, false⟩,
    ⟨1, 1, .w1c, .a, .const 0, false, false⟩,
    ⟨2, 1, .w1c, .a, .const 0, false, false⟩,
    ⟨3, 1, .w1c, .a, .const 0, false, false⟩,
    ⟨8, 6, .ro, .a, .const 0, false, false⟩]⟩,
  -- CLK.PLREQ
  ⟨0x3e0050, [], [⟨0, 2, .wo, .p, .const 0, false, false⟩,
    ⟨16, 16, .wo, .p, .const 0, false, false⟩]⟩,
  -- CLK.PLSTS
  ⟨0x3e0054, [], [⟨0, 2, .ro, .a, .const 0, false, false⟩,
    ⟨2, 2, .ro, .a, .const 0, false, false⟩,
    ⟨4, 1, .ro, .a, .const 0, false, false⟩,
    ⟨5, 3, .ro, .a, .const 0, false, false⟩,
    ⟨8, 3, .ro, .a, .const 0, false, false⟩,
    ⟨11, 2, .ro, .a, .const 0, false, false⟩,
    ⟨13, 1, .w1c, .a, .const 0, false, false⟩]⟩,
  -- CLK.PLCFG
  ⟨0x3e0058, [], [⟨0, 3, .rw, .p, .const 2, true, false⟩,
    ⟨3, 1, .rw, .p, .const 0, true, false⟩]⟩,
  -- CLK.PLCNT
  ⟨0x3e005c, [], [⟨0, 16, .ro, .a, .const 0, false, false⟩,
    ⟨16, 16, .ro, .a, .const 0, false, false⟩]⟩,
  -- CLK.VCORE
  ⟨0x3e0060, [], [⟨0, 16, .ro, .a, .const 0, false, false⟩]⟩]

/-- The registers of block GLB that spec/19_register_map.md gives. -/
def regsGlb19 : List RegSpec := [
  -- GLB.UNMAP
  ⟨0x40, [], [⟨0, 32, .ro, .a, .const 0, false, false⟩]⟩,
  -- GLB.UNMAPINFO
  ⟨0x44, [], [⟨0, 2, .ro, .a, .const 0, false, false⟩,
    ⟨2, 1, .ro, .a, .const 0, false, false⟩,
    ⟨3, 1, .w1c, .a, .const 0, false, false⟩,
    ⟨16, 16, .ro, .a, .const 0, false, false⟩]⟩]

/-- Every register of the map (R577). -/
def allRegs : List RegSpec :=
  regsGlb00 ++
  regsGlb01 ++
  regsRcp02 ++
  regsSch03 ++
  regsArm03 ++
  regsCg04 ++
  regsCc04 ++
  regsRef05 ++
  regsArm05 ++
  regsBe06 ++
  regsArm06 ++
  regsCell06 ++
  regsIns07 ++
  regsArm07 ++
  regsCell07 ++
  regsCl08 ++
  regsCl09 ++
  regsTly10 ++
  regsArm10 ++
  regsCell10 ++
  regsTb11 ++
  regsWb11 ++
  regsNet12 ++
  regsLmu13 ++
  regsLmu14 ++
  regsSbu14 ++
  regsFc15 ++
  regsTwn16 ++
  regsHst17 ++
  regsClk18 ++
  regsGlb19

end Sys2Proof.Machine
end

