-- ==== Sys2Proof/Machine/Access.lean ====
section
/-! DEFINITION. A whole-word write to a register as its field table gives it (R3 to R9): the register at an address,
the legal value of a field that a write outside its range takes, and the effect by access code. What a write does
beyond its fields stands with the units and in `Bus.lean`. -/

namespace Sys2Proof.Machine

/-- The indices of an array register at distance `d` from its base, outermost first, for its strides with their counts. -/
def indexOf : List (Nat × Nat) → Nat → Option (List Nat)
  | [], d => if d = 0 then some [] else none
  | (stride, count) :: r, d =>
    let i := d / stride
    if i < count then (indexOf r (d - i * stride)).map (i :: ·) else none

/-- The register at an address: its table and its indices. -/
def findReg (addr : Nat) : List RegSpec → Option (RegSpec × List Nat)
  | [] => none
  | r :: rs =>
    if r.base ≤ addr then
      match indexOf r.dims (addr - r.base) with
      | some ix => some (r, ix)
      | none => findReg addr rs
    else findReg addr rs

/-- The field of a table row at a register address; its reset value as the row states it. -/
def FldSpec.at (f : FldSpec) (addr : Nat) (ix : List Nat) : Fld :=
  let reset := match f.rst with
    | .const n => n
    | .index => ix.headD 0
    | .severity => defaultSeverity (8 * ix.headD 0 + f.lo / 4)
    | .wave => waveReset (ix.headD 0) (ix.getD 1 0)
  ⟨addr, f.lo, f.w, reset⟩

/-- The fields whose description gives a range: base of the register, lowest bit, least and greatest value, and the
value that a write outside the range sets. -/
def fieldRanges : List (Nat × Nat × Nat × Nat × Nat) := [
  (0x1C, 0, 100, 60000, 2000), (0x30, 0, 10, 10000, 500), (0x10040, 0, 10, 3600, 600), (0x10050, 0, 100, 60000, 2000),
  (0x2000C, 0, 0, 4000, 250), (0x20010, 0, 0, 2000, 200), (0x80010, 4, 1, 15, 3), (0x80040, 8, 1, 255, 10),
  (0x21100, 0, 1, 255, 1), (0x21108, 16, 1, 65535, 10000), (0x2111C, 8, 1, 255, 8), (0x2111C, 16, 1, 255, 4),
  (0x21180, 0, 0, 4000, 4000), (0x2118C, 0, 500, 10000, 2000), (0x21190, 0, 0, 2000, 200)] ++ [
  (0x180010, 0, 1, 255, 20), (0x180010, 8, 10, 255, 40), (0x180010, 16, 1, 255, 10), (0x180010, 24, 1, 127, 16),
  (0x180014, 8, 1, 255, 5), (0x180014, 16, 1, 65535, 100), (0x180018, 0, 1, 65535, 100), (0x18901C, 16, 2, 65535, 1000)] ++ [
  (0x40024, 0, 0, 4000, 500), (0x40028, 0, 2, 255, 8), (0x40040, 16, 0, 256, 256), (0x280008, 0, 10, 1440, 60),
  (0x28001C, 0, 1, 15, 3), (0x28001C, 8, 1, 15, 5), (0x280020, 16, 10, 30, 20), (0x2800A0, 8, 1, 168, 24),
  (0x300034, 0, 1, 500, 20), (0x300040, 8, 1, 255, 100), (0x300058, 4, 1, 500000, 100000), (0x300060, 8, 0, 20, 20),
  (0x30102C, 0, 1, 4096, 3584), (0x34000C, 16, 1, 255, 200), (0x34000C, 24, 1, 255, 10), (0x340024, 8, 1, 255, 100)] ++ [
  (0x340114, 0, 1000, 131071, 12400), (0x340118, 24, 1, 255, 16), (0x341010, 0, 1, 65535, 300),
  (0x341010, 16, 1, 65535, 4), (0x343004, 8, 1, 65535, 1), (0x380104, 0, 1, 65535, 1), (0x382020, 0, 1, 65535, 100),
  (0x383000, 16, 1, 65535, 1), (0x384000, 16, 1, 65535, 1), (0x3B0024, 0, 10, 255, 50), (0x3B0034, 0, 1, 255, 16),
  (0x3C0014, 8, 4, 255, 100), (0x3C0014, 16, 1, 255, 16), (0x3C002C, 0, 10, 1000, 200),
  (0x3C0030, 0, 10, 65535, 120), (0x3C005C, 0, 8, 255, 16)] ++ [
  (0x3D0308, 16, 16, 4096, 256), (0x3E0008, 0, 2550, 5200, 2620), (0x3E0018, 0, 60, 115, 105), (0x3E0058, 0, 1, 4, 2)]

/-- `ARMCYC − 1`, with 100,000 for ARMCYC without a Recipe: the greatest value of `TB.CYCPH` (R363) and of
`ARM[n].EDGE.T0` (R230; there the rule without a Recipe is DEDUCED, notes/assumptions/28). -/
def State.lastNs (s : State) : Nat := if s.armcyc = 0 then 99999 else s.armcyc - 1

/-- The value that a field takes at a write of `v` (the range in the field's description). -/
def legal (base lo : Nat) (ix : List Nat) (v : Nat) (s : State) : Nat :=
  match fieldRanges.find? fun r => r.1 == base && r.2.1 == lo with
  | some (_, _, least, most, dflt) => if least ≤ v && v ≤ most then v else dflt
  | none =>
    if base = 0x100110 then min v (s.rd (F.BE_CFG_COUNT (ix.headD 0)) / 4)
    else if base = 0x21118 then min v (s.be.cells.filter (·.arm == ix.headD 0)).length
    else if base = 0x300064 then (if v ≤ s.lastNs then v else 0)
    else if base = 0x21180 && lo = 14 then min v s.lastNs
    else if base = 0x34300C && lo = 12 then (if v ≤ 5 then v else 0)
    else v

/-- A write of `v` to a field by its access code (R5): `view` has been judged before. LOCKED is set by the caller. -/
def writeField (base : Nat) (ix : List Nat) (f : FldSpec) (fld : Fld) (v : Nat) (s : State) : State :=
  match f.acc with
  | .rw => s.wr fld (legal base f.lo ix v s)
  | .rwl => if s.st = stRUN then s else s.wr fld (legal base f.lo ix v s)
  | .rwc => s.wrShadow fld (legal base f.lo ix v s)
  | .w1c => s.wr fld (s.rd fld - (s.rd fld &&& v))
  | .ro | .wo | .w1s => s

/-- A field of the register at `addr` as the master reaches it: banked registers have a copy per bank (R524). -/
def bankedFld (banked : Bool) (m : Master) (fld : Fld) : Fld := if banked then fld.inBank m.bank else fld

/-- The master may write a field of this view (R10). -/
def mayWrite (m : Master) (v : View) : Bool := m.owner != 1 || v == .u

/-- A write of `w` to register `r` is a violation of its views (R578). -/
def viewBars (m : Master) (r : RegSpec) (w : Nat) : Bool :=
  r.fields.all (fun f => !mayWrite m f.view) ||
    r.fields.any fun f => (f.acc == .w1s || f.acc == .w1c) && !mayWrite m f.view && field w f.lo f.w != 0

/-- The whole-word write of `w` to the fields of register `r` at `addr` (R5, R578): each field that the master may
write by its own code; LOCKED when an rwl field in RUN carries another value. -/
def writeFields (m : Master) (banked : Bool) (r : RegSpec) (ix : List Nat) (addr w : Nat) (s : State) : State :=
  let fs := r.fields.filter fun f => mayWrite m f.view
  let locked := s.st = stRUN && fs.any fun f =>
    f.acc == .rwl && s.rd (bankedFld banked m (f.at addr ix)) != field w f.lo f.w
  let s := if locked then s.werr F.HST_WERR_LOCKED m else s
  fs.foldl (fun s f => writeField r.base ix f (bankedFld banked m (f.at addr ix)) (field w f.lo f.w) s) s

/-- The whole-word write to the register at `addr`, where the map has one. -/
def regWrite (m : Master) (addr w : Nat) (s : State) : State :=
  match findReg addr allRegs with
  | some (r, ix) => writeFields m false r ix addr w s
  | none => s

end Sys2Proof.Machine
end

