-- ==== Sys2Proof/Machine/Reference.lean ====
section
/-! DEFINITION. Orders, ramps and arm references (spec/05): the four ramps, their commits and presets, the reference
phase generator, the waveform tables, standstill and the level generator. The synchronism monitor, which reads the
graph's input image, stands in `Graph.lean`. -/

namespace Sys2Proof.Machine

/-- round32(10^−9). -/
abbrev kns : Nat := 0x3089705F
/-- round32(0.05). -/
abbrev k05 : Nat := 0x3D4CCCCD
/-- round32(2π). -/
abbrev k2pi : Nat := 0x40C90FDB
/-- round32(1 / 2π). -/
abbrev ki2pi : Nat := 0x3E22F983
/-- 2.0. -/
abbrev f2 : Nat := 0x40000000

/-- The arm cycle in s as binary32 (R163). -/
def State.dt32 (s : State) : Nat := f32ofRat s.armcyc 1000000000

/-! ### Commits of orders and waveforms (R161, R162, R171, R172) -/

/-- The rwc fields of ramp `o`. -/
def ordFields (o : Nat) : List Fld :=
  [F.REF_ORD_TGT_VAL o, F.REF_ORD_RMAX_VAL o, F.REF_ORD_AACC_VAL o, F.REF_ORD_ADEC_VAL o, F.REF_ORD_LO_VAL o,
    F.REF_ORD_HI_VAL o]

/-- The rwc fields that WCOMMIT commits: the tables and the waveform fields of every arm (R171). -/
def waveFields : List Fld :=
  ((List.range 8).flatMap fun t => (List.range 1024).map fun i => F.REF_WT_VAL t i) ++
    (List.range 12).flatMap fun n => [F.ARM_LGCTL_WTEN n, F.ARM_LGCTL_WT n, F.ARM_WAMP_VAL n, F.ARM_WPH_VAL n]

/-- Every shadow of the fields is captured (R9). -/
def captureAll (fs : List Fld) (s : State) : State := fs.foldl State.capture s

/-- OCOMMIT (R171, R172). -/
def ocommit (s : State) : State :=
  if s.standbyWrite then s.wr F.REF_STS_STBY_WR 1
  else if s.flag F.REF_STS_OPENDING then s.wr F.REF_STS_REFUSED 1
  else
    let s := captureAll ((List.range 4).flatMap ordFields) s
    let k := s.applyPoint
    let s := s.wrs [(F.REF_STS_OPENDING, 1), (F.REF_OAPPLY_CYC, k)]
    if s.flag F.GLB_ROLE_TWIN then
      s.carry 4 (leBytes 4 k ++ ((List.range 4).flatMap ordFields).flatMap fun f => leBytes 4 (s.rdCapt f))
    else s

/-- `REF.CTL.OCOMMIT` is written. -/
def execOcommit (m : Master) (s : State) : Res := .next (gate m .p 0x80000 ocommit s)

/-- WCOMMIT (R171, R172). The carried item names the commit; its 8,192 table entries follow as their captures. -/
def wcommit (s : State) : State :=
  if s.standbyWrite then s.wr F.REF_STS_STBY_WR 1
  else if s.flag F.REF_STS_WPENDING then s.wr F.REF_STS_REFUSED 1
  else
    let s := captureAll waveFields s
    let k := s.applyPoint
    let s := s.wrs [(F.REF_STS_WPENDING, 1), (F.REF_WAPPLY_CYC, k)]
    if s.flag F.GLB_ROLE_TWIN then s.carry 5 (leBytes 4 k ++ waveFields.flatMap fun f => leBytes 4 (s.rdCapt f)) else s

/-- `REF.CTL.WCOMMIT` is written. -/
def execWcommit (m : Master) (s : State) : Res := .next (gate m .p 0x80000 wcommit s)

/-- A committed limit that R162 refuses: not finite, or not above 0.0. -/
def badLimit (x : Nat) : Bool := !f32isFin x || !f32lt 0 x

/-- The committed fields of ramp `o` take effect, field by field (R162), with the rule for a changed ADEC (R166). -/
def ordApply (o : Nat) (s : State) : State :=
  let c := fun (f : Fld) => s.rdCapt f
  let tgt := F.REF_ORD_TGT_VAL o
  let lims := [F.REF_ORD_RMAX_VAL o, F.REF_ORD_AACC_VAL o, F.REF_ORD_ADEC_VAL o]
  let lo := F.REF_ORD_LO_VAL o
  let hi := F.REF_ORD_HI_VAL o
  let okTgt := f32isFin (c tgt)
  let okLo := f32isFin (c lo)
  let okHi := f32isFin (c hi)
  let loEff := if okLo then c lo else s.rd lo
  let hiEff := if okHi then c hi else s.rd hi
  let pair := !f32lt hiEff loEff
  let adecOld := s.rd (F.REF_ORD_ADEC_VAL o)
  let good := (if okTgt then [tgt] else []) ++ lims.filter (fun f => !badLimit (c f)) ++
    (if pair then (if okLo then [lo] else []) ++ (if okHi then [hi] else []) else [])
  let s' := s.applyCapt good
  let s' := if good.length = 6 then s' else (s'.wr (F.REF_ORD_STS_BADLIM o) 1).wr F.REF_STS_BADLIM 1
  -- ADEFF (R166)
  let adecNew := s'.rd (F.REF_ORD_ADEC_VAL o)
  if adecNew = adecOld then s'
  else
    let setAdeff := fun (v : Nat) (s : State) =>
      { s with ref := { s.ref with adeff := modifyPad f32one (fun _ => v) o s.ref.adeff } }
    let r := s'.rd (F.REF_ORD_RATE_VAL o)
    let y := s'.rd (F.REF_ORD_VAL_VAL o)
    let clampT := fun t => f32max (s'.rd lo) (f32min t (s'.rd hi))
    let e := f32sub (clampT (s'.rd tgt)) y
    if s'.rd (F.REF_ORD_STS_PHASE o) = 3 && !f32le (f32mul r r) (f32mul (f32mul f2 adecNew) (f32abs e)) then
      s'.wrs [(F.REF_ORD_STS_DEFER o, 1), (F.REF_ORD_STS_LIMIT_DEFERRED o, 1)]
    else setAdeff adecNew s'

/-- ORDER_APPLY: the apply point of a pending order commit. -/
def orderApply (s : State) : State :=
  if s.flag F.REF_STS_OPENDING && s.cycleDue (s.rd F.REF_OAPPLY_CYC) then
    (forAll [0, 1, 2, 3] ordApply s).wr F.REF_STS_OPENDING 0
  else s

/-- ORDER_APPLY. -/
def execOrderApply (s : State) : Res := .next (orderApply s)

/-- WAVEFORM_APPLY: the apply point of a pending waveform commit. -/
def waveformApply (s : State) : State :=
  if s.flag F.REF_STS_WPENDING && s.cycleDue (s.rd F.REF_WAPPLY_CYC) then
    (s.applyCapt waveFields).wr F.REF_STS_WPENDING 0
  else s

/-- WAVEFORM_APPLY. -/
def execWaveformApply (s : State) : Res := .next (waveformApply s)

/-- PRESET of the ramps of a mask (R170, R172). -/
def preset (m : Master) (mask : Nat) (s : State) : State :=
  if s.standbyWrite then s.wr F.REF_STS_STBY_WR 1
  else if s.st = stRUN then s.werr F.HST_WERR_LOCKED m
  else
    let s := if s.flag F.GLB_ROLE_TWIN then s.carry 6 (leBytes 4 ((s.cyc + s.plead) % 2 ^ 32) ++ leBytes 1 mask) else s
    if s.twinned then
      s.addItem ((s.cyc + s.plead) % 2 ^ 32) 6 [mask]
    else { s with ref := { s.ref with preset := s.ref.preset ||| mask } }

/-- `REF.CTL.PRESET` is written. -/
def execPreset (m : Master) (mask : BitVec 4) (s : State) : Res := .next (gate m .p 0x80000 (preset m mask.toNat) s)

/-! ### The ramps (R160 to R170) -/

/-- What one update of R163 gives: value, rate, phase, and whether it reversed or overshot. -/
structure RampOut where
  y : Nat
  r : Nat
  phase : Nat
  reversal : Bool
  overshoot : Bool
deriving DecidableEq, Repr

/-- The sign of a binary32 value, as 1.0, −1.0 or 0.0. -/
def f32sgn (x : Nat) : Nat := if f32lt 0 x then f32one else if f32lt x 0 then f32neg f32one else 0

/-- One update of a ramp (R163), for the clamped target `tgt`. -/
def rampStep (y r tgt rmax aacc adeff dt : Nat) : RampOut :=
  let aat := f32mul aacc dt
  let adt := f32mul adeff dt
  let e := f32sub tgt y
  if f32eq e 0 && f32eq r 0 then ⟨y, r, 0, false, false⟩
  else
    let sg := f32sgn e
    let away := f32eq sg 0 || f32lt (f32mul r sg) 0
    let v := f32abs r
    let vd := f32sub v adt
    let br : Nat × Nat :=
      if away then (if f32le vd 0 then 0 else f32mul (f32sgn r) vd, 4)
      else
        let vstop := f32sqrt (f32mul (f32mul f2 adeff) (f32abs e))
        let vn := f32max (f32min (f32min (f32add v aat) rmax) vstop) vd
        (f32mul sg vn, if f32lt v vn then 1 else if f32eq vn v then 2 else 3)
    let yn := f32add y (f32mul br.1 dt)
    let reversal := away && !f32eq sg 0
    if !f32eq sg 0 && f32le (f32mul (f32sub tgt yn) sg) 0 then
      if f32le (f32abs br.1) (f32mul f2 adt) then ⟨tgt, 0, 0, reversal, false⟩
      else ⟨yn, br.1, br.2, reversal, true⟩
    else ⟨yn, br.1, br.2, reversal, false⟩

/-- ADEFF of ramp `o`. -/
def State.adeff (s : State) (o : Nat) : Nat := s.ref.adeff.getD o f32one

/-- The target of ramp `o`: the committed one or, for P and Q during an orderly block, 0.0, clamped (R161, R169). -/
def State.rampTarget (s : State) (o : Nat) : Nat :=
  let tw := if s.glb.orderly && o < 2 then 0 else s.rd (F.REF_ORD_TGT_VAL o)
  f32max (s.rd (F.REF_ORD_LO_VAL o)) (f32min tw (s.rd (F.REF_ORD_HI_VAL o)))

/-- The update of ramp `o` as it stands, with the limits in effect. -/
def State.rampNext (s : State) (o : Nat) : RampOut :=
  rampStep (s.rd (F.REF_ORD_VAL_VAL o)) (s.rd (F.REF_ORD_RATE_VAL o)) (s.rampTarget o) (s.rd (F.REF_ORD_RMAX_VAL o))
    (s.rd (F.REF_ORD_AACC_VAL o)) (s.adeff o) s.dt32

/-- The update of ramp `o` at the cycle-start token of cycle `c` (R160 to R170). -/
def rampUpdate (c o : Nat) (s : State) : State :=
  let setAdeff := fun (v : Nat) (s : State) =>
    { s with ref := { s.ref with adeff := modifyPad f32one (fun _ => v) o s.ref.adeff } }
  if o < 2 && s.st != stRUN then s
  else if s.ref.preset.testBit o then
    setAdeff (s.rd (F.REF_ORD_ADEC_VAL o))
      (s.wrs [(F.REF_ORD_VAL_VAL o, s.smp (F.REF_ORD_INIT_VAL o)), (F.REF_ORD_RATE_VAL o, 0), (F.REF_ORD_STS_DEFER o, 0)])
  else
    let y := s.rd (F.REF_ORD_VAL_VAL o)
    let p := s.rampNext o
    let tw := if s.glb.orderly && o < 2 then 0 else s.rd (F.REF_ORD_TGT_VAL o)
    let s := if f32eq tw (s.rampTarget o) then s else s.wr (F.REF_ORD_STS_TCLAMP o) 1
    let s := s.wrs [(F.REF_ORD_VAL_VAL o, p.y), (F.REF_ORD_RATE_VAL o, p.r), (F.REF_ORD_STS_PHASE o, p.phase)]
    let s := s.put (F.REF_ORD_STS_OBLK o) (s.glb.orderly && o < 2)
    let s := if p.reversal then s.wr (F.REF_ORD_STS_REVERSAL o) 1 else s
    let s := if p.overshoot then s.wr (F.REF_ORD_STS_OVERSHOOT o) 1 else s
    -- the end of a deferral (R166)
    let s := if p.phase = 0 && s.flag (F.REF_ORD_STS_DEFER o) then
        setAdeff (s.rd (F.REF_ORD_ADEC_VAL o)) (s.wr (F.REF_ORD_STS_DEFER o) 0) else s
    -- a zero crossing (R167)
    if (f32lt y 0 && f32le 0 p.y) || (f32lt 0 y && f32le p.y 0) then
      { (s.wrs [(F.REF_ORD_STS_ZC o, 1), (F.REF_ORD_ZCCYC_VAL o, c)]) with
        ref := { s.ref with crossed := setBit s.ref.crossed o } }.event 4
    else s

/-- The four updates of a cycle-start token (R160). -/
def rampsUpdate (c : Nat) (s : State) : State :=
  let s := forAll [0, 1, 2, 3] (rampUpdate c) s
  { s with ref := { s.ref with preset := 0 } }

/-- What a cycle start does to the ramps: the time of a crossing (R167); P and Q at 0.0 outside RUN (R168). -/
def rampsStart (t : Nat) (s : State) : State :=
  let s := forAll (bitsOf 4 s.ref.crossed) (fun o s => s.wr64 (F.REF_ORD_ZCT_LO_VAL o) (F.REF_ORD_ZCT_HI_VAL o) t) s
  let s := { s with ref := { s.ref with crossed := 0 } }
  if s.st = stRUN then s
  else s.wrs [(F.REF_ORD_VAL_VAL 0, 0), (F.REF_ORD_RATE_VAL 0, 0), (F.REF_ORD_VAL_VAL 1, 0), (F.REF_ORD_RATE_VAL 1, 0),
    (F.REF_ORD_STS_PHASE 0, 0), (F.REF_ORD_STS_PHASE 1, 0), (F.REF_ORD_STS_OBLK 0, 0), (F.REF_ORD_STS_OBLK 1, 0)]

/-- Both the P and the Q ramp have reached zero (R169). -/
def State.rampsZero (s : State) : Bool :=
  [0, 1].all fun o => f32eq (s.rd (F.REF_ORD_VAL_VAL o)) 0 && f32eq (s.rd (F.REF_ORD_RATE_VAL o)) 0

/-! ### The reference phase generator (R173 to R175) -/

/-- θ brought into [0, 2π) by one subtraction or addition. -/
def wrapTheta (t : Nat) : Nat := if f32le k2pi t then f32sub t k2pi else if f32lt t 0 then f32add t k2pi else t

/-- The generator is at standstill (R174). -/
def State.genStill (s : State) : Bool :=
  s.st != stRUN || (s.smpFlag F.REF_RPG_AUTOSTILL &&
    f32eq (s.rd (F.REF_ORD_VAL_VAL 3)) 0 && f32eq (s.rd (F.REF_ORD_RATE_VAL 3)) 0)

/-- θ after one advance at frequency `f` (R173, R174), at standstill or not. -/
def State.thetaNext (s : State) (still : Bool) (theta f : Nat) : Nat :=
  let adv := wrapTheta (f32add theta (f32mul (f32mul k2pi f) s.dt32))
  if !still then adv
  else match s.smp F.REF_RPG_STILLPH with
    | 1 => s.smp F.REF_RPG_PH0_VAL
    | 2 => adv
    | _ => theta

/-- The generator at a cycle start: advance and standstill (R173, R174). -/
def phaseStart (s : State) : State :=
  let still := s.genStill
  let th := s.thetaNext still (s.rd F.REF_RPG_PH_VAL) (s.rd (F.REF_ORD_VAL_VAL 3))
  let s := (s.wr F.REF_RPG_PH_VAL th).put F.REF_RPG_STILL still
  { s with ref := { s.ref with still := still } }

/-- The correction of LOCK by a measured phase difference, none at standstill under HOLD or RESET (R175). -/
def phaseLock (dph : Nat) (s : State) : State :=
  if s.smpFlag F.REF_RPG_MODE && !(s.ref.still && s.smp F.REF_RPG_STILLPH != 2) then
    let slew := s.smp F.REF_RPG_SLEW_VAL
    s.wr F.REF_RPG_PH_VAL (wrapTheta (f32add (s.rd F.REF_RPG_PH_VAL) (f32max (f32neg slew) (f32min dph slew))))
  else s

/-! ### The level generator (R178 to R184) -/

/-- `REFB[n]`'s front buffer: V and S. -/
def State.refb (s : State) (n : Nat) : Nat × Nat := s.ref.front.getD n (0, 0)

/-- The value of the arm's waveform table at a phase (R183). -/
def State.tableAt (s : State) (t ph : Nat) : Nat :=
  let u := f32mul ph ki2pi
  if !f32isFin u then f32nan
  else
    let u := f32sub u (f32floor u)
    let x := f32mul u f32k1024
    let x := if f32le f32k1024 x then 0 else x
    let i := (f32floorInt x).toNat
    let q := f32sub x (f32ofInt i)
    let w := fun j => s.rd (F.REF_WT_VAL t (j % 1024))
    f32add (w i) (f32mul q (f32sub (w (i + 1)) (w i)))

/-- The reference v of arm `n` (R178). -/
def State.vref (s : State) (n : Nat) : Nat :=
  let a := s.armcyc
  let j := min (2 * s.mper) (unsigned 32 ((s.cyc : Int) + 1 - s.ref.cp))
  let eval := if s.smpFlag F.REF_LGCFG_EVAL then a / 2 else 0
  let tau := f32mul (f32ofInt (j * a + eval)) kns
  let b := s.refb n
  let v := f32add b.1 (f32mul b.2 tau)
  if s.flag (F.ARM_LGCTL_WTEN n) then
    -- phase and frequency of cycle k + 1, computed ahead
    let f1 := (s.rampNext 3).y
    let th1 := s.thetaNext s.genStill (s.rd F.REF_RPG_PH_VAL) f1
    let ph := f32add (f32add th1 (f32mul (f32mul k2pi f1) (f32mul (f32ofInt eval) kns))) (s.rd (F.ARM_WPH_VAL n))
    f32add v (f32mul (s.rd (F.ARM_WAMP_VAL n)) (s.tableAt (s.rd (F.ARM_LGCTL_WT n)) ph))
  else v

/-- What the level generator delivers: N, f, SAT, LOWV. -/
structure Level where
  n : Nat
  f : Nat
  sat : Bool
  lowv : Bool
deriving DecidableEq, Repr

/-- N and f from a finite reference (R181). -/
def levelOf (v vavg navail vfloor : Nat) (nlc : Bool) : Level :=
  let vc := max vavg vfloor
  let top := f32ofInt navail
  let x0 := if vc = 0 then (if f32lt 0 v then top else 0) else f32div v (f32mul (f32ofInt vc) k05)
  let sat0 := vc = 0
  let neg := f32lt x0 0
  let x1 := if neg then 0 else x0
  let big := f32lt top x1
  let x := if big then top else x1
  let nf : Nat × Nat :=
    if nlc then ((fRoundEvenInt fmt32 x).toNat, 0)
    else
      let n := (f32floorInt x).toNat
      let fc := (fRoundEvenInt fmt32 (f32mul (f32sub x (f32ofInt n)) 0x47800000)).toNat
      if 65535 ≤ fc then (n + 1, 0) else (n, fc)
  let nf := if navail ≤ nf.1 then (navail, 0) else nf
  ⟨nf.1, nf.2, sat0 || neg || big, decide (vavg < vfloor)⟩

/-- Arm `n` is at standstill (R184). -/
def State.armStill (s : State) (n : Nat) : Bool :=
  s.st = stRUN && (s.smpFlag (F.ARM_LGCTL_STILL n) || (s.smpFlag F.REF_RPG_AUTOSTILL && s.genStill))

/-- FP(n) acts with source HOST (R240, R252, R253). -/
def State.fpHost (s : State) (n : Nat) : Bool :=
  s.smpFlag (F.INS_FP_CFG_SRC n) && (s.role = roSOLO || s.st = stTEST)

/-- LEVEL_GEN_COMPLETE: the reference, N and f of arm `n` in this cycle (R178 to R184). -/
def levelGen (n : Nat) (s : State) : State :=
  if !s.running || !s.arms.contains n then s
  else
    let still := s.armStill n
    let v := s.vref n
    let s := (s.wr (F.ARM_VREF_VAL n) v).put (F.ARM_LGSTS_INSTILL n) still
    if !f32isFin v then
      let s := (s.wr (F.ARM_LGSTS_NONFIN n) 1).wr (F.ARM_REFCAUSE_NONFIN n) 1
      let s := raise (225 + 2 * n) s
      if still && !s.smpFlag (F.ARM_LGCTL_STILLMODE n) then s.wrs [(F.ARM_LGOUT_N n, 0), (F.ARM_LGOUT_F n, 0)] else s
    else
      let g := levelOf v (s.rd (F.ARM_AGG_VAL n 0)) (s.rd (F.ARM_AGG_VAL n 8)) (s.smp F.REF_LGCFG_VFLOOR)
        (s.smpFlag (F.ARM_LGCTL_NLC n))
      let s := if g.sat then s.wr (F.ARM_LGSTS_SAT n) 1 else s
      let s := if g.lowv then s.wr (F.ARM_LGSTS_LOWV n) 1 else s
      let zero := still && !s.smpFlag (F.ARM_LGCTL_STILLMODE n)
      let s := s.wrs [(F.ARM_LGOUT_N n, if zero then 0 else g.n), (F.ARM_LGOUT_F n, if zero then 0 else g.f)]
      if s.rd (F.ARM_LGSTS_HELDRUN n) < max 1 (s.rd F.REF_LGCFG_HOLDLIM) then unraise (225 + 2 * n) s else s

/-- LEVEL_GEN_COMPLETE. -/
def execLevelGenComplete (n : Fin 12) (s : State) : Res := .next (levelGen n s)

/-- REF_HELD_LIMIT: HELDRUN reaching HOLDLIM (R179). -/
def refHeldLimit (n : Nat) (s : State) : State :=
  if s.flag (F.ARM_LGSTS_HELD n) && s.rd F.REF_LGCFG_HOLDLIM ≤ s.rd (F.ARM_LGSTS_HELDRUN n) then
    raise (225 + 2 * n) (s.wr (F.ARM_REFCAUSE_HELD n) 1)
  else s

/-- REF_HELD_LIMIT. -/
def execRefHeldLimit (n : Fin 12) (s : State) : Res := .next (refHeldLimit n s)

/-- The swap of the reference buffers at a control-period start, or its absence (R123, R179). At the first control-period start
after an initialisation no run is due, so nothing is held (notes/assumptions/81). -/
def refbSwap (s : State) : State :=
  if s.ref.backOk then
    let s := { s with ref := { s.ref with front := s.ref.back, backOk := false, cp := s.cyc } }
    forAll s.arms (fun n s =>
      let was := s.flag (F.ARM_LGSTS_HELD n)
      let s := s.wrs [(F.ARM_LGSTS_HELD n, 0), (F.ARM_LGSTS_HELDRUN n, 0)]
      if was && f32isFin (s.rd (F.ARM_VREF_VAL n)) then unraise (225 + 2 * n) s else s) s
  else if s.cg.periods = 0 then s
  else
    forAll s.arms (fun n s => refHeldLimit n ((s.wr (F.ARM_LGSTS_HELD n) 1).inc (F.ARM_LGSTS_HELDRUN n))) s

end Sys2Proof.Machine
end

