-- ==== Sys2Proof/Machine/Engines.lean ====
section
/-! DEFINITION. The balance engines (spec/06): observation, the rank order, the aggregates, population, selection and
the host's cell commands. -/

namespace Sys2Proof.Machine

/-! ### Cell sets (R189, R190) -/

/-- UNOBSERVED. -/
abbrev csUNOBS : Nat := 5
/-- FAILED_BYPASS. -/
abbrev csFAILED : Nat := 4
/-- SPARE. -/
abbrev csSPARE : Nat := 6

/-- The cell belongs to the observed set O. -/
def CellSt.inO (c : CellSt) : Bool := c.state != csUNOBS && c.state != csFAILED && c.state != 0

/-- The cell belongs to the available set A. -/
def CellSt.inA (c : CellSt) : Bool :=
  c.inO && (c.role = 0 || (c.role = 1 && c.promo)) && !c.xcl && !c.rating

/-- The planned state that a cell's block mode gives: BYPASSED or BLOCKED; a spare that is not promoted reads SPARE
(R191, R195). -/
def CellSt.blockState (c : CellSt) : Nat :=
  if c.role = 1 && !c.promo then csSPARE else if c.bmode = 1 then 2 else 3

/-- STATE of the latest slot (R293). -/
def CellSt.reported (c : CellSt) : Nat := c.stat / 16

/-- The fault flag of the latest slot. -/
def CellSt.flt (c : CellSt) : Bool := c.stat.testBit 3

/-- Cell `g` of the list changes. -/
def State.setCell (s : State) (g : Nat) (f : CellSt → CellSt) : State := s.mapCells (·.gidx == g) f

/-! ### Observation (R192 to R194) -/

/-- The population source's causes and DROP of arm `n` (R223). -/
def dropRaise (n : Nat) (s : State) : State := raise (249 + 2 * n) (s.wr (F.ARM_POPCAUSE_DROP n) 1)

/-- The state that a comparison expects the cell to report (R193). -/
def expected (run : Bool) (c : CellSt) : Nat :=
  if c.atMark = csSPARE then (if run then 2 else if c.bmode = 1 then 2 else 3) else c.atMark

/-- One cell's observation in a cycle: UNOBSERVED, return, closed switch, fault flag, mismatch (R192 to R194). -/
def observeCell (run : Bool) (reobs mismlim : Nat) (c : CellSt) : CellSt :=
  let c := { c with fresh := false }
  if !c.present then
    let c := { c with reobs := 0 }
    if 2 ≤ c.miss && c.state != csFAILED then { c with state := csUNOBS } else c
  else if c.state = csUNOBS then
    let n := if 1 ≤ c.reported && c.reported ≤ 4 then c.reobs + 1 else 0
    if reobs ≤ n then { c with state := c.reported, atMark := c.reported, reobs := 0, fresh := true }
    else { c with reobs := n }
  else if c.state = csFAILED then c
  else if c.reported = 4 then { c with state := csFAILED }
  else if c.flt then
    if c.fltrep then c else { c with xcl := true, fltrep := true, forceOut := true }
  else if mismlim = 0 || c.fpPrev then c
  else if c.reported = expected run c then { c with mismc := 0 }
  else
    let k := min 255 (c.mismc + 1)
    if mismlim ≤ k && !c.mism then { c with mismc := k, xcl := true, mism := true, forceOut := true }
    else { c with mismc := k }

/-- The observation of arm `n` in this cycle, with the causes and the drop source (R192 to R194, R223). -/
def observeArm (n : Nat) (s : State) : State :=
  let run := s.st = stRUN
  let old := s.be.cells.filter (·.arm == n)
  let s := s.mapCells (·.arm == n)
    (observeCell run (max 1 (s.smp (F.ARM_SELCFG_REOBS n))) (s.smp (F.ARM_SELCFG_MISMLIM n)))
  let now := s.be.cells.filter (·.arm == n)
  let pairs := old.zip now
  let s := if pairs.any fun p => !p.1.mism && p.2.mism then s.wr (F.ARM_POPCAUSE_MISM n) 1 else s
  let s := if pairs.any fun p => !p.1.fltrep && p.2.fltrep then s.wr (F.ARM_POPCAUSE_FLT n) 1 else s
  if pairs.any fun p => p.1.inA && !p.2.inA then dropRaise n s else unraise (249 + 2 * n) s

/-! ### σ, key and score (R200 to R204) -/

/-- σ of the present cycle. -/
def State.sigma (s : State) (n : Nat) : Int := if s.flag (F.ARM_SIGMA_SIGMA n) then 1 else -1

/-- The rank key of a cell (R202, R204); `h` is H's magnitude for an inserted cell. -/
def rankKey (mode wv wh wt wl : Nat) (sigma : Int) (hOn : Bool) (c : CellSt) : Int :=
  if mode = 2 then c.local_
  else
    let h : Int := if hOn && c.state = 1 then -256 else 0
    let wt := if mode = 1 then 0 else wt
    let wl := if mode = 1 then 0 else wl
    wv * sigma * c.vcap + wh * h + wt * signed 8 c.temp + wl * c.life

/-- The key of arm `n`'s cells in this cycle. -/
def State.keyOf (s : State) (n : Nat) (hOn : Bool) : CellSt → Int :=
  rankKey (s.smp (F.ARM_SELCFG_MODE n)) (s.smp (F.ARM_WEIGHT_WV n)) (s.smp (F.ARM_WEIGHT_WH n))
    (s.smp (F.ARM_WEIGHT_WT n)) (s.smp (F.ARM_WEIGHT_WL n)) (s.sigma n) hOn

/-- Ascending (K, arm-local index). -/
def keyLe (a b : CellSt) : Bool := decide (a.key < b.key) || (a.key = b.key && a.local_ ≤ b.local_)

/-- The displayed score (R203). -/
def scoreOf (key wv sigma vrefc wt tavgp : Int) (shift : Nat) : Nat :=
  unsigned 16 (clampS 16 ((key - wv * sigma * vrefc - wt * tavgp).fdiv (2 ^ shift)))

/-- D(k) of an arm (R200). -/
def sigmaSum (cs : List CellSt) : Int :=
  cs.foldl (fun a c =>
    if c.inA && c.atPrev = 1 && !c.recordedPrev && !c.fpPrev && c.present && c.presentPrev then
      a + c.vcap - c.vprev else a) 0

/-- σ(k + 1), decided in cycle k (R200). -/
def sigmaDecide (n : Nat) (s : State) : State :=
  let d := sigmaSum (s.be.cells.filter (·.arm == n))
  let s := s.wr (F.ARM_DSUM_D n) (unsigned 32 d)
  let cur := s.sigma n
  let next : Int := match s.smp (F.ARM_SIGCFG_SRC n) with
    | 0 =>
      let th : Int := s.smp (F.ARM_SIGCFG_DTH n)
      if th < d then 1 else if d < -th then -1 else cur
    | 1 =>
      let r := signed 16 (s.smp (F.LMU_DCH_RES_CODE (s.smp (F.ARM_SIGCFG_CH n))))
      let r := if s.smpFlag (F.ARM_SIGCFG_POL n) then -r else r
      let th : Int := 16 * s.smp (F.ARM_SIGCFG_HYS n)
      if th < r then 1 else if r < -th then -1 else cur
    | 2 => 1
    | _ => -1
  s.setArm n fun a => { a with sigNext := next }

/-- σ of a cycle at its start: decided in the cycle before (R200). -/
def sigmaStart (n : Nat) (s : State) : State :=
  let next := (s.arm n).sigNext
  let flip := next != s.sigma n
  let s := (if flip then s.wr (F.ARM_SIGMA_FLIP n) 1 else s).setArm n fun a => { a with flip := flip }
  s.put (F.ARM_SIGMA_SIGMA n) (next = 1)

/-- A standby under SRC = 1 takes the σ that the active unit decided, or its own with SIGOWN (R201). -/
def sigmaTwin (n : Nat) (s : State) : State :=
  if s.role = roSTANDBY && s.relayUp && s.smp (F.ARM_SIGCFG_SRC n) = 1 then
    match (s.arm n).sigAct with
    | some v => (s.put (F.ARM_SIGMA_SIGMA n) (v = 1)).setArm n fun a => { a with sigAct := none, sigOwn := false }
    | none => (s.wr (F.ARM_SIGMA_SIGOWN n) 1).setArm n fun a => { a with sigOwn := true }
  else s.setArm n fun a => { a with sigOwn := false }

/-! ### Ranking (R205 to R207) -/

/-- The used engines of arm `n`. -/
def State.engines (s : State) (n : Nat) : List Nat :=
  (List.range 24).filter fun e => s.rdBit F.BE_USED_USED e && s.rd (F.BE_CFG_ARM e) = n

/-- A cell lies in the share of engine `e`. -/
def State.inShare (s : State) (e : Nat) (c : CellSt) : Bool :=
  s.rd (F.BE_CFG_FIRST e) ≤ c.local_ && c.local_ < s.rd (F.BE_CFG_FIRST e) + s.rd (F.BE_CFG_COUNT e)

/-- The inputs of the engine for a cell: VCAP, TEMP, LIFE, H (R206). -/
def CellSt.inputs (c : CellSt) : Nat × Nat × Nat × Bool := (c.vcap, c.temp, c.life, c.state = 1)

/-- Which engines re-rank in full, and how many inputs changed (R206). -/
def rerankStats (n : Nat) (forced : Bool) (s : State) : State :=
  let cs := s.be.cells.filter fun c => c.arm == n && c.inO
  let s := forAll (s.engines n) (fun e s =>
    let x := (cs.filter fun c => s.inShare e c && c.inputs != c.seenIn).length
    let full := forced || s.smp (F.BE_RRTHR_X e) < x
    let s := s.wrs [(F.BE_STS_FULL e, b2n full), (F.BE_STS_CHGD e, x), (F.BE_STS_BUSY e, 0)]
    if full then s.inc (F.BE_CNT_FULLCNT e) else s) s
  s.mapCells (fun c => c.arm == n && c.inO) fun c => { c with seenIn := c.inputs }

/-- The rank order of arm `n`: keys, ranks and scores of its cells of O (R202 to R205). -/
def rankArm (n : Nat) (s : State) : State :=
  let wv : Int := if s.smp (F.ARM_SELCFG_MODE n) = 2 then 0 else s.smp (F.ARM_WEIGHT_WV n)
  let wt : Int := if s.smp (F.ARM_SELCFG_MODE n) = 0 || s.smp (F.ARM_SELCFG_MODE n) = 3 then s.smp (F.ARM_WEIGHT_WT n) else 0
  let vref : Int := s.rd (F.ARM_AGG_VAL n 0)
  let tavg := signed 32 (s.rd (F.ARM_AGG_VAL n 6))
  let shift := s.smp (F.ARM_SCORE_SHIFT n)
  let key := s.keyOf n true
  let sg := s.sigma n
  let s := s.mapCells (·.arm == n) fun c => if !c.inO then c else { c with key := key c, score := scoreOf (key c) wv sg vref wt tavg shift }
  let order := sortBy keyLe (s.be.cells.filter fun c => c.arm == n && c.inO)
  let ranks := (List.range order.length).zip (order.map (·.gidx))
  s.mapCells (·.arm == n) fun c => match ranks.find? (fun r => r.2 == c.gidx) with
    | some r => { c with rank := r.1, unranked := false }
    | none => { c with unranked := true }

/-! ### Aggregates (R220, R221) -/

/-- The mean rounded to the nearest integer, ties to even; 0 over an empty set. -/
def meanEven (l : List Int) : Int :=
  let n : Int := l.length
  if n = 0 then 0
  else
    let t := l.foldl (· + ·) 0
    let q := t.fdiv n
    let r := 2 * (t - q * n)
    if n < r || (r = n && q % 2 = 1) then q + 1 else q

/-- The greatest or least of a list; 0 over an empty set. -/
def pickBy (le : Int → Int → Bool) : List Int → Int
  | [] => 0
  | x :: xs => xs.foldl (fun a b => if le a b then b else a) x

/-- The aggregate record of arm `n` in this cycle, 16 fields in integer form (R220). -/
def State.aggregate (s : State) (n : Nat) : List Int :=
  let cs := s.be.cells.filter (·.arm == n)
  let a := cs.filter (·.inA)
  let o := cs.filter (·.inO)
  let v := a.map fun c => (c.vcap : Int)
  let t := o.map fun c => signed 8 c.temp
  let sum := fun (l : List Int) => l.foldl (· + ·) 0
  let vmin := pickBy (fun a b => decide (b < a)) v
  let vmax := pickBy (fun a b => decide (a < b)) v
  let ins := a.filter (·.atMark == 1)
  let failed := cs.filter (·.state == csFAILED)
  let x := s.arm n
  let flags := b2n x.missing + 2 * b2n x.lastLate + 4 * b2n x.lastShort + 8 * b2n (a.length < s.rd (F.ARM_POPMIN_N n)) +
    16 * b2n (cs.any (·.state == csUNOBS))
  [meanEven v, sum v, vmin, vmax, vmax - vmin, sum (ins.map fun c => (c.vcap : Int)), meanEven t,
    pickBy (fun a b => decide (a < b)) t, a.length, ins.length, o.length + (failed.filter (·.present)).length,
    failed.length, (o.filter fun c => c.role == 1 && !c.promo).length, s.sigma n, x.lastNchg, flags]

/-- The aggregate record is written into AGG[n], a double buffer (R220, R98). -/
def aggWrite (n : Nat) (s : State) : State :=
  let l := s.aggregate n
  let old := (List.range 16).map fun j => s.rd (F.ARM_AGG_VAL n j)
  let s := s.setArm n fun a => { a with aggPrev := old, aggCyc := s.cyc }
  (List.range 16).foldl (fun s j => s.wr (F.ARM_AGG_VAL n j) (unsigned 32 (l.getD j 0))) s

/-! ### Population (R197, R222, R223) -/

/-- NAVAIL against POPMIN (R222). -/
def popJudge (n : Nat) (s : State) : State :=
  let low := s.rd (F.ARM_AGG_VAL n 8) < s.rd (F.ARM_POPMIN_N n)
  let s := if low then s.wr (F.ARM_POPCAUSE_POPLOW n) 1 else s
  condition (248 + 2 * n) low s

/-- Cell counts of the arm: `ARM[n].CELLCNT`. -/
def cellCount (n : Nat) (s : State) : State :=
  let cs := s.be.cells.filter (·.arm == n)
  s.wrs [(F.ARM_CELLCNT_NXCL n, (cs.filter (·.xcl)).length), (F.ARM_CELLCNT_NRATE n, (cs.filter (·.rating)).length)]

/-- A spare is promoted (R197). -/
def promoteCell (c : CellSt) : CellSt := { c with promo := true, state := 2 }

/-- Automatic promotion at the aggregate stage (R197). -/
def promote (n : Nat) (s : State) : State :=
  let st := s.st
  if !s.smpFlag (F.ARM_SELCFG_SPAUTO n) || !(st = stRUN || st = stARMED || st = stBLOCKED) then s
  else
    let cs := s.armCells n
    let want := (cs.filter (·.role == 0)).length
    if want ≤ (cs.filter (·.inA)).length then s.setArm n fun a => { a with spexh := false }
    else match cs.find? fun c => c.role == 1 && !c.promo && c.inO && !c.xcl with
      | some c =>
        ((s.setCell c.gidx promoteCell).wr (F.ARM_POPCAUSE_PROMO n) 1).setArm n fun a => { a with spexh := false }
      | none =>
        if (s.arm n).spexh then s
        else dropRaise n ((s.wr (F.ARM_POPCAUSE_SPEXH n) 1).setArm n fun a => { a with spexh := true })

/-! ### RANKING_COMPLETE -/

/-- Each slot of the arm has been taken by its engine: all are present, or the cut-off has passed (R95, R99). -/
def State.slotsTaken (s : State) (n : Nat) : Bool :=
  (s.arm n).cut || (s.be.cells.filter (·.arm == n)).all (·.present)

/-- A cell that is present has no missing slot in a row (R192). -/
def clearMiss (c : CellSt) : CellSt := if c.present then { c with miss := 0 } else c

/-- RANKING_COMPLETE: observation, σ, rank order, aggregates, population and promotion of arm `n` (R192 to R223). -/
def ranking (n : Nat) (s : State) : State :=
  if !s.running || !s.arms.contains n || (s.arm n).ranked || !s.slotsTaken n then s
  else
    let s := s.mapCells (·.arm == n) clearMiss
    let s := observeArm n s
    let s := sigmaTwin n s
    let a := s.arm n
    let cfg := (s.smp (F.ARM_WEIGHT_WV n) + 256 * s.smp (F.ARM_WEIGHT_WH n) + 65536 * s.smp (F.ARM_WEIGHT_WT n)
      + 2 ^ 24 * s.smp (F.ARM_WEIGHT_WL n), s.smp (F.ARM_SELCFG_MODE n))
    let forced := a.fullNext || a.flip || a.seenCfg != cfg
    let s := rerankStats n forced s
    let s := s.setArm n fun a => { a with fullNext := false, seenCfg := cfg, ranked := true }
    let s := rankArm n s
    let s := sigmaDecide n s
    let s := cellCount n (popJudge n (aggWrite n s))
    promote n s

/-- RANKING_COMPLETE. -/
def execRankingComplete (n : Fin 12) (s : State) : Res := .next (ranking n s)

/-! ### Host cell commands (R198, R199) -/

/-- The reason for refusing a cell command, 0 when it is accepted (R198): in the order of precedence. -/
def State.cellRefusal (s : State) (code key cell : Nat) : Nat :=
  match s.cell? cell with
  | none => 1
  | some c =>
    if s.role = roSTANDBY then 4
    else if code = 3 && key != 0xA5C3 then 3
    else if 16 ≤ s.be.cmds.length then 5
    else
      let ok := match code with
        | 1 => c.state != csFAILED
        | 2 => c.xcl && !c.flt && !c.rating
        | 3 => c.inO
        | 4 => c.role == 1 && !c.promo && c.inO
        | _ => c.promo
      if ok then 0 else 2

/-- A cell command is judged, recorded in `BE.CMDSTS` and, when accepted, waits for its apply cycle (R198, R199). -/
def cellCommand (code : Nat) (cell key : Nat) (s : State) : State :=
  let reason := if code = 0 || 5 < code then 6 else s.cellRefusal code key cell
  let s := (s.wrs [(F.BE_CMDSTS_CODE, code), (F.BE_CMDSTS_RESULT, if reason = 0 then 1 else 2),
    (F.BE_CMDSTS_REASON, reason)]).count F.BE_CMDSTS_SEQ
  let s := s.logCommand (0x40 + code) reason
  if reason != 0 then s
  else
    let k := (s.cyc + if s.twinned then s.plead else 1) % 2 ^ 32
    let s := { s with be := { s.be with cmds := s.be.cmds ++ [CellCmd.mk cell code k] } }
    let s := s.wrs [(F.BE_CMDAPPLY_CYC, k), (F.BE_CMDSTS_PEND, s.be.cmds.length)]
    if s.flag F.GLB_ROLE_TWIN then s.carry 8 (leBytes 4 k ++ leBytes 2 cell ++ leBytes 1 code) else s

/-- `BE.CELLCMD` is written with EXCLUDE. -/
def execExclude (m : Master) (cell : BitVec 13) (key : BitVec 16) (s : State) : Res :=
  .next (gate m .p 0x100008 (cellCommand 1 cell.toNat key.toNat) s)

/-- `BE.CELLCMD` is written with INCLUDE. -/
def execInclude (m : Master) (cell : BitVec 13) (key : BitVec 16) (s : State) : Res :=
  .next (gate m .p 0x100008 (cellCommand 2 cell.toNat key.toNat) s)

/-- `BE.CELLCMD` is written with FAILBYP. -/
def execFailbyp (m : Master) (cell : BitVec 13) (key : BitVec 16) (s : State) : Res :=
  .next (gate m .p 0x100008 (cellCommand 3 cell.toNat key.toNat) s)

/-- `BE.CELLCMD` is written with SPARE_IN. -/
def execSpareIn (m : Master) (cell : BitVec 13) (key : BitVec 16) (s : State) : Res :=
  .next (gate m .p 0x100008 (cellCommand 4 cell.toNat key.toNat) s)

/-- `BE.CELLCMD` is written with SPARE_OUT. -/
def execSpareOut (m : Master) (cell : BitVec 13) (key : BitVec 16) (s : State) : Res :=
  .next (gate m .p 0x100008 (cellCommand 5 cell.toNat key.toNat) s)

/-- The effect of a cell command at its apply point (R198). -/
def cellEffect (run : Bool) (code : Nat) (c : CellSt) : CellSt :=
  match code with
  | 1 => { c with xcl := true, forceOut := run && (c.state = 1 || c.fpc) }
  | 2 => { c with xcl := false, mism := false, fltrep := false, mismc := 0 }
  | 3 => { c with xcl := true, failbyp := true }
  | 4 => promoteCell c
  | _ => { c with promo := false, spareOut := c.state = 1, state := if c.state = 1 then 1 else csSPARE }

/-- The cell commands of arm `n` whose apply cycle has come apply, in order of acceptance. -/
def applyCellCmds (n : Nat) (s : State) : State :=
  let mine := fun (q : CellCmd) => decide (cycDiff q.at_ s.cyc ≤ 0) &&
    (match s.cell? q.cell with | some c => c.arm == n | none => true)
  let run := s.st = stRUN
  let s' := forAll (s.be.cmds.filter mine) (fun q s => s.setCell q.cell (cellEffect run q.code)) s
  let rest := s.be.cmds.filter fun q => !mine q
  { s' with be := { s'.be with cmds := rest } }.wr F.BE_CMDSTS_PEND rest.length

/-! ### Selection (R208 to R218) -/

/-- The transition and dwell limits of an arm, as sampled (R209). -/
structure Limits where
  mindwell : Nat
  maxtr : Nat
deriving DecidableEq, Repr

/-- DWC is below MINDWELL. -/
def Limits.dwellBars (p : Limits) (c : CellSt) : Bool := c.dwc < p.mindwell

/-- One more transition would pass MAXTR. -/
def Limits.trBars (p : Limits) (n : Nat) (c : CellSt) : Bool := p.maxtr != 0 && p.maxtr < c.wcnt + n

/-- Eligible for an ordinary record (R209), apart from being named. -/
def Limits.eligible (p : Limits) (c : CellSt) : Bool := !p.dwellBars c && !p.trBars 1 c

/-- The count correction of R210 over one list: the cells marked, what is left of d, and CHGLIM. -/
def correct (p : Limits) (budget : Nat) : Nat → Nat → List CellSt → List Nat × Nat × Nat × Bool
  | d, chg, [] => ([], d, chg, false)
  | d, chg, c :: cs =>
    if d = 0 then ([], 0, chg, false)
    else if chg = budget then ([], d, chg, true)
    else if p.eligible c then
      let r := correct p budget (d - 1) (chg + 1) cs
      (c.local_ :: r.1, r.2)
    else correct p budget d chg cs

/-- The swaps of R210 over the eligible bypassed cells (ascending) and inserted cells (descending). -/
def swaps (budget : Nat) : Nat → List CellSt → List CellSt → List Nat × List Nat × Nat × Bool
  | chg, b :: bs, j :: js =>
    if decide (b.key < j.key) then
      if budget < chg + 2 then ([], [], chg, true)
      else
        let r := swaps budget (chg + 2) bs js
        (b.local_ :: r.1, j.local_ :: r.2.1, r.2.2)
    else ([], [], chg, false)
  | chg, _, _ => ([], [], chg, false)

/-- The forced records of a selection, by ascending arm-local index, at most 255: cell and whether FAILBYP (R196). -/
def forcedRecords (release : Bool) (cs : List CellSt) : List (Nat × Bool) :=
  (cs.filterMap fun c =>
    if c.state = csFAILED || c.state = csUNOBS || c.state = 0 then none
    else if c.failbyp then some (c.local_, true)
    else
      let spare := c.role = 1 && !c.promo
      let out := c.forceOut || (c.spareOut && c.state = 1) || ((spare || c.role = 2) && c.state = 1) ||
        (spare && c.present && (c.reported = 1 || c.reported = 3)) ||
        (c.state = 3 && !c.rating && (!release || !c.inA)) || (spare && release && c.bmode = 0)
      if out then some (c.local_, false) else none).take 255

/-- The fractional-PWM cell of an ordinary selection (R211): the cell, whether it is new, whether f is realised. -/
def chooseFp (p : Limits) (keep budget chg : Nat) (prev : Option Nat) (cands : List CellSt) : Option Nat × Bool × Nat :=
  let ok := (cands.filter fun c => !p.trBars 2 c).map (·.local_)
  let kept := match prev with | some q => (ok.take keep).contains q | none => false
  let anywhere := match prev with | some q => ok.contains q | none => false
  if kept then (prev, false, chg)
  else if chg < budget && !ok.isEmpty then (ok.head?, ok.head? != prev, chg + 1)
  else if anywhere then (prev, false, chg)
  else (none, false, chg)

/-- An ordinary selection (R210, R211). -/
def ordinary (p : Limits) (maxchg keep n f : Nat) (prev : Option Nat) (forced : List (Nat × Bool)) (cs : List CellSt) : Sel :=
  let free := cs.filter fun c => c.inA && !forced.any fun r => r.1 == c.local_
  let budget := min maxchg (255 - forced.length)
  let byp := sortBy keyLe (free.filter (·.state == 2))
  let insd := (sortBy keyLe (free.filter (·.state == 1))).reverse
  let cnt := insd.length
  let up := correct p budget (n - cnt) 0 byp
  let down := correct p budget (cnt - n) 0 insd
  let chg := max up.2.2.1 down.2.2.1
  let lim1 := up.2.2.2 || down.2.2.2
  let bs := byp.filter fun c => p.eligible c && !up.1.contains c.local_
  let js := insd.filter fun c => p.eligible c && !down.1.contains c.local_
  let sw := swaps budget chg bs js
  let ins := up.1 ++ sw.1
  let out := down.1 ++ sw.2.1
  let chg := sw.2.2.1
  let short := (up.2.1 != 0 && cnt < n) || (down.2.1 != 0 && n < cnt)
  -- INSERT records ascending, BYPASS records descending by (K, index) (R215)
  let insL := (byp.filter fun c => ins.contains c.local_).map (·.local_)
  let outL := (insd.filter fun c => out.contains c.local_).map (·.local_)
  let cands := sortBy keyLe (free.filter fun c =>
    (c.state = 2 && !ins.contains c.local_) && !out.contains c.local_)
  let fp : Option Nat × Bool × Nat := if f = 0 then (none, false, chg) else chooseFp p keep budget chg prev cands
  { forced := forced, ins := insL, byp := outL, fp := fp.1, fpNew := fp.2.1, f := if fp.1.isSome then f else 0
    nshort := short || (f != 0 && fp.1.isNone), chglim := lim1 || sw.2.2.2
    n := forced.length + insL.length + outL.length }

/-- A release (R212). -/
def releaseSel (maxchg n f : Nat) (relall : Bool) (prev : Option Nat) (forced : List (Nat × Bool)) (cs : List CellSt) : Sel :=
  let order := (sortBy keyLe (cs.filter fun c => c.inA && !forced.any fun r => r.1 == c.local_)).map (·.local_)
  let nr := min order.length (if relall then n else min n maxchg)
  let fp := if f = 0 then none else order[nr]?
  { forced := forced, fp := fp, fpNew := fp != prev, f := if fp.isSome then f else 0, release := true, nr := nr, order := order
    nshort := nr < (if relall then n else min n maxchg), n := forced.length }

/-- The duty that selection receives: f of the level generator, or HOST's DUTY (R252). -/
def State.dutyFor (s : State) (n : Nat) : Nat :=
  if s.fpHost n then s.smp (F.INS_FP_DUTY_DUTY n) else s.rd (F.ARM_LGOUT_F n)

/-- The change list of arm `n` in RUN. -/
def State.select (s : State) (n : Nat) : Sel :=
  let a := s.arm n
  let cs := s.armCells n
  let prev := if s.flag (F.ARM_FPCELL_VALID n) then some (s.rd (F.ARM_FPCELL_LOCAL n)) else none
  let blk := s.armStill n && s.smpFlag (F.ARM_LGCTL_STILLMODE n)
  let release := a.release || a.blockStill
  let forced := forcedRecords release cs
  if blk then { forced := forced.filter (·.2), blockall := true, n := (forced.filter (·.2)).length }
  else
    let lv := s.rd (F.ARM_LGOUT_N n)
    let f := s.dutyFor n
    let maxchg := s.smp (F.ARM_MAXCHG_N n)
    if release then
      -- the rank order with H = 0
      let key := s.keyOf n false
      releaseSel maxchg lv f (s.smpFlag (F.ARM_SELCFG_RELALL n)) prev forced (cs.map fun c => { c with key := key c })
    else
      ordinary ⟨s.smp (F.ARM_MINDWELL_CYC n), s.smp (F.ARM_TRLIM_MAXTR n)⟩ maxchg (s.smp (F.ARM_SELCFG_FPKEEP n)) lv f prev
        forced cs

/-- SELECTION_COMPLETE: commands of this apply point, the transition window, and in RUN the change list of arm `n`
(R198, R208 to R216). -/
def selection (n : Nat) (s : State) : State :=
  if !s.running || !(s.arm n).ranked || (s.arm n).sel.isSome then s
  else
    let s := applyCellCmds n s
    let s := if s.cyc % max 1 (s.smp (F.ARM_TRLIM_WIN n)) = 0 then s.mapCells (·.arm == n) fun c => { c with wcnt := 0 } else s
    if s.st != stRUN then
      (s.mapCells (·.arm == n) fun c => { c with dwell := false, trlim := false, forceOut := false }).setArm n fun a =>
        { a with sel := some {} }
    else
      let q := s.select n
      let p : Limits := ⟨s.smp (F.ARM_MINDWELL_CYC n), s.smp (F.ARM_TRLIM_MAXTR n)⟩
      let s := s.mapCells (·.arm == n) fun c =>
        let ord := c.inA && !q.release && !q.blockall && !q.forced.any fun r => r.1 == c.local_
        { c with dwell := ord && p.dwellBars c, trlim := ord && p.trBars 1 c, fpc := q.fp == some c.local_ }
      let s := s.setArm n fun a => { a with sel := some q }
      let s := s.put (F.ARM_SELSTS_BLOCKALL n) q.blockall
      let s := if q.release then s.wr (F.ARM_SELSTS_RELEASE n) 1 else s
      let s := if q.nshort then (s.wr (F.ARM_SELSTS_NSHORT n) 1).inc (F.ARM_SELCNT_NSHORT n) else s
      if q.chglim then (s.wr (F.ARM_SELSTS_CHGLIM n) 1).inc (F.ARM_SELCNT_CHGLIM n) else s

/-! ### Engine faults and control (R206, R224, R225) -/

/-- ENGINE_FAULT: cause 0 ECCU, 1 ORDER, 2 ROUTE, 3 ECCC of engine `e` (R224, R225). An unused engine raises nothing
(R187). -/
def engineFault (e cause : Nat) (s : State) : State :=
  if !s.rdBit F.BE_USED_USED e then s
  else match cause with
    | 3 => (s.wr (F.BE_CAUSE_ECCC e) 1).inc (F.BE_CNT_ECCC e)
    | _ =>
      let n := s.rd (F.BE_CFG_ARM e)
      let s := s.wr (if cause = 0 then F.BE_CAUSE_ECCU e else if cause = 1 then F.BE_CAUSE_ORDER e else F.BE_CAUSE_ROUTE e) 1
      let s := (s.wr (F.ARM_SELSTS_ENGERR n) 1).setArm n fun a => { a with engErr := true }
      raiseInCycle (192 + e) s

/-- ENGINE_FAULT. -/
def execEngineFault (e : Fin 24) (cause : BitVec 2) (s : State) : Res := .next (engineFault e cause.toNat s)

/-- `BE.CTL.RERANK`: every engine re-ranks in full in the next cycle (R206). -/
def rerank (s : State) : State := { s with be := { s.be with arms := s.be.arms.map fun a => { a with fullNext := true } } }

/-- `BE.CTL.RERANK` is written. -/
def execRerank (m : Master) (s : State) : Res := .next (gate m .p 0x100000 rerank s)

/-- `BE.CTL.CNTCLR` clears every `BE[e].CNT` and `ARM[n].SELCNT`. -/
def beCntclr (s : State) : State :=
  let s := forAll (List.range 24) (fun e s => s.wrs [(F.BE_CNT_FULLCNT e, 0), (F.BE_CNT_ECCC e, 0)]) s
  forAll (List.range 12) (fun n s => s.wrs [(F.ARM_SELCNT_NSHORT n, 0), (F.ARM_SELCNT_CHGLIM n, 0)]) s

/-- `BE.CTL.CNTCLR` is written. -/
def execBeCntclr (m : Master) (s : State) : Res := .next (gate m .u 0x100000 beCntclr s)

/-! ### Run-time limits in twin operation (R219) -/

/-- A write to a register that a declared twin carries: refused on a standby with its flag, written and carried with its
apply cycle by an active unit, an ordinary write otherwise (R219, R254). `kind` 9 names the carried item. -/
def carriedWrite (m : Master) (stby : Fld) (addr w : Nat) (s : State) : State :=
  if s.standbyWrite then s.wr stby 1
  else
    let s := regWrite m addr w s
    if s.twinned then
      let k := (s.cyc + s.plead) % 2 ^ 32
      let s := s.addItem k 9 [addr, w]
      s.carry 9 (leBytes 4 k ++ leBytes 4 addr ++ leBytes 4 w)
    else s

/-- The registers of R219 by number: MAXCHG, MINDWELL, TRLIM, WEIGHT, SCORE, SIGCFG, SELCFG. -/
def limitAddr (n which : Nat) : Nat :=
  0x21000 + 0x400 * n + ([0x100, 0x104, 0x108, 0x10C, 0x110, 0x114, 0x11C] : List Nat).getD which 0x100

/-- ARM_SELECTION_LIMIT_WRITE. -/
def execArmSelectionLimitWrite (m : Master) (n : Fin 12) (which : Fin 7) (value : Word) (s : State) : Res :=
  .next (gate m .p (limitAddr n which) (carriedWrite m (F.ARM_SELSTS_STBY_WR n) (limitAddr n which) value.toNat) s)

end Sys2Proof.Machine
end

