-- ==== Sys2Proof/Machine/Lanes.lean ====
section
/-! DEFINITION. The Spaone lanes (spec/08): lane states, training, hop delay, gap idle, in-service measurement, and the
split of a ring (R320 to R322). Frames and parcels stand in `Frames.lean` and `Parcels.lean`. -/

namespace Sys2Proof.Machine

/-! ### Constants of a generation (R260) -/

/-- The symbol time of a generation in ns: S1 8, S2 4, S3 2. -/
def symbolNs (gen : Nat) : Nat := if gen = 1 then 8 else if gen = 2 then 4 else 2

/-- The fast-exit burst of a lane in symbols: BURST, or the default of its generation (R260). -/
def State.burst (s : State) (l : Nat) : Nat :=
  let b := s.rd (F.CL_CFG_BURST l)
  if b = 0 then 64 / symbolNs (s.rd (F.CL_CFG_GEN l)) else b

/-- The burst time Tb of a lane in ns. -/
def State.burstNs (s : State) (l : Nat) : Nat := s.burst l * symbolNs (s.rd (F.CL_CFG_GEN l))

/-! ### Lane states (R274) -/

/-- `CL[l].STS.STATE`. -/
def State.lane (s : State) (l : Nat) : Nat := s.rd (F.CL_STS_STATE l)

/-- OFF. -/
abbrev lsOFF : Nat := 0
/-- EIDLE. -/
abbrev lsEIDLE : Nat := 1
/-- EXIT. -/
abbrev lsEXIT : Nat := 2
/-- ALIGN. -/
abbrev lsALIGN : Nat := 3
/-- TRAIN. -/
abbrev lsTRAIN : Nat := 4
/-- MEASURE. -/
abbrev lsMEASURE : Nat := 5
/-- READY. -/
abbrev lsREADY : Nat := 6
/-- FAILED. -/
abbrev lsFAILED : Nat := 7
/-- LOCKED. -/
abbrev lsLOCKED : Nat := 8
/-- RXLOST. -/
abbrev lsRXLOST : Nat := 9

/-- The HOPS that HOPSEEN is held against: the LANE record's, or what the ring gives an END 1 lane (R320, R321). -/
def State.expHops (s : State) (l : Nat) : Nat := (s.ln l).want.getD (s.rd (F.CL_CFG_HOPS l))

/-- min(HOPSEEN, HOPS): the hops that a lane measures and enumerates (R274, R316). -/
def State.liveHops (s : State) (l : Nat) : Nat := min (s.rd (F.CL_STS_HOPSEEN l)) (s.expHops l)

/-- Hop `h` of lane `l`. -/
def State.hop (s : State) (l h : Nat) : HopSt := (s.ln l).hops.getD h {}

/-- Hop `h` of lane `l` changes. -/
def setHop (l h : Nat) (f : HopSt → HopSt) (s : State) : State :=
  s.setLn l fun x => { x with hops := modifyPad {} f h x.hops }

/-- The condition under which the live bit of FS(64 + l) clears: LOCKED, every cell counted, every hop with a COMP
(R284). -/
def State.laneSound (s : State) (l : Nat) : Bool :=
  s.lane l = lsLOCKED && s.rd (F.CL_STS_HOPSEEN l) = s.expHops l &&
    (List.range (s.expHops l)).all fun h => (s.hop l h).comp.isSome

/-- The live bit of FS(64 + l) clears when it may. -/
def laneJudge (l : Nat) (s : State) : State := if s.laneSound l then unraise (64 + l) s else s

/-- A cause of lane `l` is set and its source raised (R284). -/
def laneCause (l : Nat) (f : Nat → Fld) (s : State) : State := raise (64 + l) (s.wr (f l) 1)

/-- Lane `l` takes a state; CL.LOCKMAP follows. -/
def setLane (l v : Nat) (s : State) : State :=
  laneJudge l ((s.wr (F.CL_STS_STATE l) v).putBit (F.CL_LOCKMAP_LOCKED (l / 32)) (l % 32) (v = lsLOCKED))

/-- K28.0 on lane `l` (R267). -/
def sendIdle (l : Nat) (s : State) : State := s.emit (.laneCode l 0 0)

/-- Every sample collected on lane `l` is discarded (R282, R283). -/
def dropSamples (l : Nat) (s : State) : State :=
  s.setLn l fun x =>
    let hops := x.hops.map fun h => { h with samples := [], fails := 0 }
    { x with hops := hops, dmOut := none }

/-- A lane goes to electrical idle and to a state in which it sends nothing: FAILED or EIDLE (R268, R274). -/
def idleLane (l v : Nat) (s : State) : State :=
  let s := dropSamples l ((sendIdle l s).wr (F.CL_STS_GAP l) 0)
  setLane l v (s.setLn l fun x => { x with te := none, gapCheck := false, breaks := 0 })

/-- The link process runs (R32, R33). -/
def State.linking (s : State) : Bool := s.flag F.GLB_STATE_LINK_BUSY

/-- DMREQ for hop `h` leaves lane `l` (R277). -/
def sendDmreq (l h : Nat) (s : State) : State := s.emit (.laneCode l 4 h)

/-! ### COMP (R279) -/

/-- COMP(l, h) in 0.1 ns from RT, TLB, the RA of the hops before, and ASYM, rounding halves up. -/
def compOf (rt tlb : Nat) (ras : List Nat) (asym : Nat) : Nat :=
  let x : Int := rt - tlb + (ras.map (signed 8)).foldl (· + ·) 0 + signed 16 asym
  unsigned 20 ((x + 1).fdiv 2)

/-- COMP of hop `h` of lane `l` for a round trip `rt`. -/
def State.compFor (s : State) (l h rt : Nat) : Nat :=
  compOf rt (s.hop l h).tlb ((List.range h).map fun j => (s.hop l j).ra) (s.rd (F.CL_ASYM_A l))

/-- The median of 15 samples. -/
def median15 (l : List Nat) : Nat := (sortBy (fun a b => decide (a ≤ b)) l).getD 7 0

/-! ### The delivery bound of an arm (R97) -/

/-- The last CRT at which the slot of hop `h` is complete at its cell, rounded up to 1 ns: the slot ends
2 × S + 6 × (h + 1) × S after the marker (R286), and the cell stands COMP later. -/
def State.slotDone (s : State) (l h : Nat) : Nat :=
  let sym := symbolNs (s.rd (F.CL_CFG_GEN l))
  match (s.hop l h).comp with
  | some c => (c + 9) / 10 + 2 * sym + 6 * (h + 1) * sym
  | none => 0

/-- `ARM[n].DLV` of every arm (R97). -/
def dlvUpdate (s : State) : State :=
  forAll s.arms (fun n s =>
    let ls := (List.range 128).filter fun l => s.flag (F.CL_CFG_USED l) && s.rd (F.CL_CFG_ARM l) = n
    let worst := ls.foldl (fun w l => (List.range (s.liveHops l)).foldl (fun w h => max w (s.slotDone l h)) w) 0
    s.wr (F.ARM_DLV_CRT n) (worst + 20)) s

/-! ### Rings (R320 to R322) -/

/-- b of the latest split of lane `l`. -/
def State.splitAt (s : State) (l : Nat) : Int := signed 7 (s.rd (F.CL_RINGSTS_SPLIT l))

/-- The HOPS that lane `l` serves with frames (R287, R320, R321). -/
def State.served (s : State) (l : Nat) : Nat :=
  let hops := s.rd (F.CL_CFG_HOPS l)
  match s.rd (F.CL_RINGSTS_MODE l), s.rd (F.CL_CFG_END l) with
  | 1, 1 => 0
  | 2, 0 => (s.splitAt l + 1).toNat
  | 2, _ => (hops - s.splitAt l - 1).toNat
  | _, _ => hops

/-- The lane and hop at which a cell is served: its TOPO place, or its place from END 1 beyond a split (R321). -/
def State.place (s : State) (c : CellSt) : Nat × Nat :=
  if s.rd (F.CL_RINGSTS_MODE c.lane) = 2 && decide (s.splitAt c.lane < c.hop) then
    (s.rd (F.CL_CFG_RING c.lane), s.rd (F.CL_CFG_HOPS c.lane) - 1 - c.hop)
  else (c.lane, c.hop)

/-- The cell served at hop `h` of lane `l`. -/
def State.cellAt (s : State) (l h : Nat) : Option CellSt := s.be.cells.find? fun c => s.place c == (l, h)

/-- The ring of END 0 lane `l` splits beyond hop `b` (R321). -/
def ringSplit (l : Nat) (b : Int) (s : State) : State :=
  if s.rd (F.CL_RINGSTS_MODE l) != 1 || s.flag (F.CL_CFG_END l) then s
  else
    let p := s.rd (F.CL_CFG_RING l)
    let s := forAll [l, p] (fun x s =>
      (s.wrs [(F.CL_RINGSTS_MODE x, 2), (F.CL_RINGSTS_SPLIT x, unsigned 7 b)]).inc (F.CL_RINGSTS_SWCNT x)) s
    let want := (s.rd (F.CL_CFG_HOPS l) - b - 1).toNat
    let s := s.setLn p fun x => { x with want := some want, hops := [], mhop := 0 }
    if s.lane p = lsREADY then setLane p lsTRAIN (s.emit (.laneCode p 3 0)) else s

/-- BREAK in 2 consecutive uplinks of an END 0 lane splits its ring (R321). -/
def ringBreak (l : Nat) (s : State) : State :=
  if 2 ≤ (s.ln l).breaks then ringSplit l (s.rd (F.CL_FSTS_LAST l)) s else s

/-- The split of the ring of lane `l`, by BREAK or by a loss of lock. -/
def execRingSplit (l : Fin 128) (s : State) : Res :=
  .next (if s.lane l = lsRXLOST || s.lane l = lsFAILED then ringSplit l (-1) s else ringBreak l s)

/-! ### Loss of lock (R265, R274) -/

/-- The receiver of lane `l` loses lock. -/
def lockLoss (l : Nat) (s : State) : State :=
  let v := s.lane l
  if v = lsLOCKED then
    let s := ((s.wr (F.CL_STS_RXLOCK l) 0).inc (F.CL_ERR3_LOCKLOSS l)).wr (F.CL_STS_GAP l) 0
    let s := dropSamples l (setLane l lsRXLOST (laneCause l F.CL_CAUSE_LOCK s))
    ringSplit l (-1) s
  else if lsALIGN ≤ v && v ≤ lsREADY then
    let s := (s.wr (F.CL_STS_RXLOCK l) 0).inc (F.CL_ERR3_LOCKLOSS l)
    ringSplit l (-1) (idleLane l lsFAILED s)
  else if s.flag (F.CL_STS_RXLOCK l) then (s.wr (F.CL_STS_RXLOCK l) 0).inc (F.CL_ERR3_LOCKLOSS l)
  else s

/-- LANE_LOCK_LOSS. -/
def execLaneLockLoss (l : Fin 128) (s : State) : Res := .next (lockLoss l s)

/-- LANE_SIGNAL_LOSS: signal detect low without a preceding K28.0 sets cause LOS and loses lock (R265, R284). -/
def execLaneSignalLoss (l : Fin 128) (s : State) : Res :=
  .next (if s.flag (F.CL_CFG_USED l) && !s.flag (F.CL_STS_GAP l) then
    lockLoss l (laneCause l F.CL_CAUSE_LOS (s.wr (F.CL_STS_SIGDET l) 0)) else s)

/-! ### Training (R274) -/

/-- The END 1 lane of an unbroken ring: it carries no frames and enumerates nothing (R320). -/
def State.ringFar (s : State) (l : Nat) : Bool := s.rd (F.CL_RINGSTS_MODE l) = 1 && s.flag (F.CL_CFG_END l)

/-- An END 1 lane of an unbroken ring, or of any ring in a link process, holds EIDLE until its partner lane has reached
READY (R276, R322). -/
def State.ringWaits (s : State) (l : Nat) : Bool :=
  (s.rd (F.CL_RINGSTS_MODE l) = 1 || (s.linking && s.rd (F.CL_RINGSTS_MODE l) = 2)) && s.flag (F.CL_CFG_END l) &&
    !(let p := s.lane (s.rd (F.CL_CFG_RING l)); p = lsREADY || p = lsLOCKED || p = lsRXLOST)

/-- LANE_IDLE_EXPIRED: an attempt begins with the fast-exit burst. -/
def idleExpired (l : Nat) (s : State) : State :=
  if s.lane l = lsEIDLE && (s.linking || (s.ln l).retrain) && !s.ringWaits l then
    let s := (s.inc (F.CL_STS_ATTEMPTS l)).inc (F.CL_ERR3_TRAINS l)
    setLane l lsEXIT (s.emit (.laneCode l 2 (s.burst l)))
  else s

/-- LANE_IDLE_EXPIRED. -/
def execLaneIdleExpired (l : Fin 128) (s : State) : Res := .next (idleExpired l s)

/-- LANE_BURST_SENT: TS1 goes out. -/
def burstSent (l : Nat) (s : State) : State :=
  if s.lane l = lsEXIT then setLane l lsALIGN (s.emit (.laneCode l 3 0)) else s

/-- LANE_BURST_SENT. -/
def execLaneBurstSent (l : Fin 128) (s : State) : Res := .next (burstSent l s)

/-- LANE_RX_LOCK: ALIGN becomes TRAIN; RXLOST becomes LOCKED, and every hop in service is measured again. -/
def rxLock (l : Nat) (s : State) : State :=
  let v := s.lane l
  if v = lsALIGN || v = lsRXLOST || v = lsLOCKED then
    let s := s.wrs [(F.CL_STS_RXLOCK l, 1), (F.CL_STS_SIGDET l, 1)]
    if v = lsALIGN then setLane l lsTRAIN s
    else if v = lsRXLOST then setLane l lsLOCKED ((dropSamples l s).wr (F.CL_DMSTS_NEXT l) 0)
    else s
  else s

/-- LANE_RX_LOCK. -/
def execLaneRxLock (l : Fin 128) (s : State) : Res := .next (rxLock l s)

/-- The CHK of an ordered set over its data bytes (R264). -/
def orderedChk (bs : List Byte) : Byte := bs.foldl (· ^^^ ·) 0xA5

/-- A link process returns a split ring to one chain when its END 0 lane counts every cell (R322). -/
def ringRejoin (l hops : Nat) (s : State) : State :=
  if s.linking && s.rd (F.CL_RINGSTS_MODE l) = 2 && !s.flag (F.CL_CFG_END l) && hops = s.rd (F.CL_CFG_HOPS l) then
    let p := s.rd (F.CL_CFG_RING l)
    let s := (s.wr (F.CL_RINGSTS_MODE l) 1).wr (F.CL_RINGSTS_MODE p) 1
    (s.setLn l fun x => { x with want := none }).setLn p fun x => { x with want := some 1, hops := [], mhop := 0 }
  else s

/-- LANE_TS2_RECEIVED: TS2 with a correct CHK and the lane's own LANEID ends TRAIN (R264, R274). -/
def ts2Received (l : Nat) (gen hops laneid chk : Byte) (s : State) : State :=
  let own := l + 128 * (if s.rd (F.CL_CFG_RING l) = 0xFF then 0 else s.rd (F.CL_CFG_END l))
  if s.lane l = lsTRAIN && chk = orderedChk [gen, hops, laneid] && laneid.toNat = own then
    let s := ringRejoin l hops.toNat (s.wr (F.CL_STS_HOPSEEN l) hops.toNat)
    let s := if hops.toNat = s.expHops l then s else laneCause l F.CL_CAUSE_HOPS s
    let s := s.setLn l fun x => { x with hops := [], mhop := 0 }
    sendDmreq l 0 (setLane l lsMEASURE s)
  else s

/-- LANE_TS2_RECEIVED. -/
def execLaneTs2Received (l : Fin 128) (gen hops laneid chk : Byte) (s : State) : Res :=
  .next (ts2Received l gen hops laneid chk s)

/-- LANE_TRAIN_TIMEOUT: TMOMS passed since EXIT. -/
def trainTimeout (l : Nat) (s : State) : State :=
  if s.lane l = lsALIGN || s.lane l = lsTRAIN then idleLane l lsFAILED (laneCause l F.CL_CAUSE_TRAIN s) else s

/-- LANE_TRAIN_TIMEOUT. -/
def execLaneTrainTimeout (l : Fin 128) (s : State) : Res := .next (trainTimeout l s)

/-- The hops of lane `l` below min(HOPSEEN, HOPS) are all measured or given up (R280). -/
def State.measured (s : State) (l : Nat) : Bool := (List.range (s.liveHops l)).all fun h => (s.hop l h).finished

/-- Every COMP of lane `l` from its median round trips (R279). -/
def computeComps (l : Nat) (s : State) : State :=
  forAll (List.range (s.liveHops l)) (fun h s =>
    match (s.hop l h).rt with
    | some rt => setHop l h (fun x => { x with comp := some (s.compFor l h rt) }) s
    | none => s) s

/-- LANE_RETRY_EXPIRED: RETRYMS passed in FAILED while the link process runs. -/
def retryExpired (l : Nat) (s : State) : State :=
  if s.lane l = lsFAILED && s.linking then setLane l lsEIDLE s else s

/-- LANE_RETRY_EXPIRED. -/
def execLaneRetryExpired (l : Fin 128) (s : State) : Res := .next (retryExpired l s)

/-- LANE_RXWAIT_EXPIRED: RXWAIT cycles in RXLOST without relock. -/
def rxwaitExpired (l : Nat) (s : State) : State :=
  if s.lane l = lsRXLOST && (s.flag (F.CL_TRCFG_AUTORT l) || s.linking) then
    idleLane l lsEIDLE (s.setLn l fun x => { x with retrain := true })
  else s

/-- LANE_RXWAIT_EXPIRED. -/
def execLaneRxwaitExpired (l : Fin 128) (s : State) : Res := .next (rxwaitExpired l s)

/-- RETRAIN: from EIDLE or RXLOST; without effect elsewhere (R274, R283). -/
def laneRetrain (l : Nat) (s : State) : State :=
  if s.lane l = lsEIDLE then s.setLn l fun x => { x with retrain := true }
  else if s.lane l = lsRXLOST then idleLane l lsEIDLE (s.setLn l fun x => { x with retrain := true })
  else s

/-- `CL[l].CTL.RETRAIN` is written. -/
def execLaneRetrain (m : Master) (l : Fin 128) (s : State) : Res :=
  .next (gate m .p (0x180004 + 0x100 * l) (laneRetrain l) s)

/-- `CL[l].CTL.GICLR` clears GIOFF (R272). -/
def giclr (l : Nat) (s : State) : State := s.wr (F.CL_STS_GIOFF l) 0

/-- `CL[l].CTL.GICLR` is written. -/
def execGiclr (m : Master) (l : Fin 128) (s : State) : Res := .next (gate m .p (0x180004 + 0x100 * l) (giclr l) s)

/-- `CL[l].CTL.CNTCLR` clears ERR0 to ERR5 and DMSTS.SKIP. -/
def clCntclr (l : Nat) (s : State) : State :=
  s.wrs ([F.CL_ERR0_CV l, F.CL_ERR0_DISP l, F.CL_ERR1_SLOTCRC l, F.CL_ERR1_FRMCRC l, F.CL_ERR2_XTRA l,
    F.CL_ERR2_DMERR l, F.CL_ERR3_LOCKLOSS l, F.CL_ERR3_TRAINS l, F.CL_ERR4_HDRERR l, F.CL_ERR4_VINV l,
    F.CL_ERR5_ECHOERR l, F.CL_ERR5_PTMO l, F.CL_DMSTS_SKIP l].map fun f => (f, 0))

/-- `CL[l].CTL.CNTCLR` is written. -/
def execClCntclr (m : Master) (l : Fin 128) (s : State) : Res :=
  .next (gate m .u (0x180004 + 0x100 * l) (clCntclr l) s)

/-! ### Hop delay (R277 to R282) -/

/-- Hop `h` of lane `l` has no COMP (R280). -/
def hopFails (l h : Nat) (s : State) : State :=
  laneCause l F.CL_CAUSE_DMFAIL (setHop l h (fun x => { x with rt := none, comp := none, finished := true, samples := [] }) s)

/-- The next hop of a training measurement, if one is left (R274, R280). -/
def nextHop (l : Nat) (s : State) : State :=
  let h := (s.ln l).mhop + 1
  let s := s.setLn l fun x => { x with mhop := h }
  if h < s.liveHops l then sendDmreq l h s else s

/-- A failed exchange during training: a retry, or after 3 in a row the end of the hop (R280). -/
def trainFail (l : Nat) (s : State) : State :=
  let h := (s.ln l).mhop
  let n := (s.hop l h).fails + 1
  if 3 ≤ n then nextHop l (hopFails l h s)
  else sendDmreq l h (setHop l h (fun x => { x with fails := n }) s)

/-- A valid sample during training: 15 give the median, unless they spread by more than 2.0 ns (R280). -/
def trainSample (l rt : Nat) (s : State) : State :=
  let h := (s.ln l).mhop
  let all := (s.hop l h).samples ++ [rt]
  if all.length < 15 then sendDmreq l h (setHop l h (fun x => { x with samples := all, fails := 0 }) s)
  else
    let lo := all.foldl min rt
    let hi := all.foldl max rt
    if 20 < hi - lo then nextHop l (hopFails l h s)
    else nextHop l (setHop l h (fun x => { x with rt := some (median15 all), finished := true, samples := [], fails := 0 }) s)

/-- What a changed COMP of hop `h` brings: the cell gets it by WRITE (R315), the delivery bound follows (R97). -/
def deliverComp (l h c : Nat) (s : State) : State :=
  let s := setHop l h (fun x => { x with comp := some c }) s
  let r : Req := { hop := h, op := 2, reg := 0x020, data := c + 2 ^ 31 }
  dlvUpdate (s.setLn l fun x => { x with own := x.own ++ [r] })

/-- A valid in-service sample: 15 of one hop form a median, compared with the stored COMP (R282). -/
def serviceSample (l h rt : Nat) (s : State) : State :=
  let all := (s.hop l h).samples ++ [rt]
  if all.length < 15 then setHop l h (fun x => { x with samples := all }) s
  else
    let med := median15 all
    let s := setHop l h (fun x => { x with samples := [], rt := some med }) s
    let c := s.compFor l h med
    let d := match (s.hop l h).comp with
      | some old => ((c : Int) - old).natAbs
      | none => 2 ^ 20
    let s := if s.rd (F.CL_DRIFT_DRIFTTH l) ≤ d then laneCause l F.CL_CAUSE_DRIFT s else s
    if s.rd (F.CL_DMCFG_UPDTH l) ≤ d then laneJudge l (deliverComp l h c s) else s

/-- An urgent block has been sent on lane `l` in the present cycle. -/
def State.cutNow (s : State) (l : Nat) : Bool := s.cl.cut.testBit l

/-- DMRSP_RECEIVED: CHK, the hop and TLB are judged; the sample counts for training or in service (R277 to R283). `rt`
is the round trip in 0.1 ns between the two time stamps. -/
def dmrspReceived (l : Nat) (hop tlbLo tlbHi ra chk : Byte) (rt : Nat) (s : State) : State :=
  let tlb := tlbLo.toNat + 256 * tlbHi.toNat
  let h := hop.toNat
  let good := decide (chk = orderedChk [hop, tlbLo, tlbHi, ra]) && 200 ≤ tlb && tlb ≤ 5000
  let take := setHop l h (fun x => { x with tlb := tlb, ra := ra.toNat })
  if s.lane l = lsMEASURE then
    if s.cutNow l then sendDmreq l (s.ln l).mhop s
    else if good && h = (s.ln l).mhop then trainSample l (rt % 2 ^ 20) (take s)
    else trainFail l (s.inc (F.CL_ERR2_DMERR l))
  else match (s.ln l).dmOut with
    | none => s
    | some o =>
      let s := s.setLn l fun x => { x with dmOut := none }
      if s.cutNow l then s
      else if good && h = o then serviceSample l h (rt % 2 ^ 20) (take s)
      else s.inc (F.CL_ERR2_DMERR l)

/-- DMRSP_RECEIVED. -/
def execDmrspReceived (l : Fin 128) (hop tlbLo tlbHi ra chk : Byte) (rt : Word) (s : State) : Res :=
  .next (dmrspReceived l hop tlbLo tlbHi ra chk rt.toNat s)

/-- DMRSP_TIMEOUT: no DMRSP within 10 µs (R280). -/
def dmrspTimeout (l : Nat) (s : State) : State :=
  if s.lane l = lsMEASURE then trainFail l (s.inc (F.CL_ERR2_DMERR l))
  else match (s.ln l).dmOut with
    | none => s
    | some _ => (s.setLn l fun x => { x with dmOut := none }).inc (F.CL_ERR2_DMERR l)

/-- DMRSP_TIMEOUT. -/
def execDmrspTimeout (l : Fin 128) (s : State) : Res := .next (dmrspTimeout l s)

/-- An in-service measurement of lane `l` is due in this cycle: EN, LOCKED or the READY END 1 lane of an unbroken ring
(R281, R320), PERIOD cycles since the last. -/
def State.dmDue (s : State) (l : Nat) : Bool :=
  s.flag (F.CL_DMCFG_EN l) && (s.lane l = lsLOCKED || (s.lane l = lsREADY && s.rd (F.CL_RINGSTS_MODE l) = 1)) &&
    s.rd (F.CL_DMCFG_PERIOD l) ≤ (s.ln l).dmAge && 0 < s.liveHops l

/-- DM_INSERVICE_SEND: DMREQ for the next hop, if the exchange fits before the freeze (R281). -/
def dmSend (l : Nat) (s : State) : State :=
  if !s.dmDue l then s
  else
    let h := s.rd (F.CL_DMSTS_NEXT l) % s.liveHops l
    let te := if s.lane l = lsREADY then some 0 else (s.ln l).te
    let fits := match te with
      | some te => decide (te + 20 + ((s.hop l h).rt.getD 0) / 10 + 100 + 400 < s.armcyc) && !s.cutNow l
      | none => false
    if fits then
      let s := s.setLn l fun x => { x with dmOut := some h, dmAge := 0 }
      sendDmreq l h (s.wr (F.CL_DMSTS_NEXT l) ((h + 1) % s.liveHops l))
    else s.inc (F.CL_DMSTS_SKIP l)

/-- DM_INSERVICE_SEND. -/
def execDmInserviceSend (l : Fin 128) (s : State) : Res := .next (dmSend l s)

/-! ### Gap idle (R270 to R272) -/

/-- GAP_IDLE_ENTER: K28.0 after the uplink end, when every condition of R270 holds. -/
def gapEnter (l : Nat) (s : State) : State :=
  match (s.ln l).te with
  | none => s
  | some te =>
    let n := s.rd (F.CL_CFG_ARM l)
    if s.flag (F.CL_CTL_GAPIDLE l) && s.lane l = lsLOCKED && s.rd (F.CL_CFG_RING l) = 0xFF &&
        !s.flag (F.CL_STS_GIOFF l) && !s.flag (F.CL_STS_GAP l) && te < s.rd (F.ARM_ULCUT_CRT n) && !s.dmDue l &&
        (s.ln l).dmOut.isNone && te + 20 + 1000 + 400 + s.burstNs l ≤ s.armcyc then
      (sendIdle l s).wr (F.CL_STS_GAP l) 1
    else s

/-- GAP_IDLE_ENTER. -/
def execGapIdleEnter (l : Fin 128) (s : State) : Res := .next (gapEnter l s)

/-- GAP_IDLE_EXIT: the fast-exit burst. -/
def gapExit (l : Nat) (s : State) : State :=
  if s.flag (F.CL_STS_GAP l) then
    ((s.wr (F.CL_STS_GAP l) 0).setLn l fun x => { x with gapCheck := true }).emit (.laneCode l 2 (s.burst l))
  else s

/-- GAP_IDLE_EXIT. -/
def execGapIdleExit (l : Fin 128) (s : State) : Res := .next (gapExit l s)

/-- GAP_EXIT_LOCK_CHECK: a receiver that is not locked by RT(0) + Tb sets FEXIT and GIOFF and counts as a loss of lock
(R272); `locked` is the receiver's lock at that instant. -/
def gapCheck (l : Nat) (locked : Bool) (s : State) : State :=
  if !(s.ln l).gapCheck then s
  else
    let s := s.setLn l fun x => { x with gapCheck := false }
    if locked then s
    else lockLoss l (laneCause l F.CL_CAUSE_FEXIT (s.wr (F.CL_STS_GIOFF l) 1))

/-- GAP_EXIT_LOCK_CHECK. -/
def execGapExitLockCheck (l : Fin 128) (locked : Bool) (s : State) : Res := .next (gapCheck l locked s)

/-! ### Switches and the stop of arm cycles (R258, R274, R268) -/

/-- Lane `l` is dropped: K28.0, receiver off. -/
def laneOff (l : Nat) (s : State) : State :=
  if s.lane l = lsOFF then s
  else
    let s := idleLane l lsOFF s
    (s.wrs [(F.CL_STS_RXLOCK l, 0), (F.CL_STS_SIGDET l, 0), (F.CL_STS_HOPSEEN l, 0)]).setLn l fun _ => {}

/-- Lane `l` that a switch names: divider set, transmitter idle (R274). -/
def laneNamed (l : Nat) (s : State) : State := setLane l lsEIDLE (s.setLn l fun _ => {})

/-- Arm cycles stop: every lane that is not OFF goes to EIDLE (R274). -/
def lanesStop (s : State) : State :=
  forAll (List.range 128) (fun l s => if s.lane l = lsOFF then s else idleLane l lsEIDLE s) s

end Sys2Proof.Machine
end

