-- ==== Sys2Proof/Machine/Parcels.lean ====
section
/-! DEFINITION. Parcels and enumeration (R310 to R317): the transactions of a lane, the host's request queue, and the
enumeration of a chain. -/

namespace Sys2Proof.Machine

/-! ### Tally addresses (R330) -/

/-- The Cellar address of the Tally record of global index `i`. -/
def tallyAddr (i : Nat) : Nat := 0x180000000 + 512 * i

/-- `n` bytes at offset `o` of a Tally record, little-endian. -/
def State.tally (s : State) (i o n : Nat) : Nat := leNat (s.cellar.readBytes (tallyAddr i + o) n)

/-- The identity in the Tally record of global index `i`. -/
def State.tallyId (s : State) (i : Nat) : Nat := s.tally i 8 8

/-! ### The host's queue (R315) -/

/-- The lanes with an open host transaction. -/
def State.hostOpen (s : State) : Nat :=
  (s.cl.lanes.filter fun x => match x.tx with | some t => t.req.src < 2 | none => false).length

/-- The registers of the parcel queue follow it. -/
def pqSync (s : State) : State :=
  let r := s.cl.results.headD {}
  let q := r.req
  s.wrs [(F.CL_PQSTS_WAIT, s.cl.reqs.length + s.hostOpen), (F.CL_PQSTS_RCOUNT, s.cl.results.length),
    (F.CL_PQRES0_LANE, r.lane), (F.CL_PQRES0_HOP, q.hop), (F.CL_PQRES0_OP, if s.cl.results.isEmpty then 0 else q.op),
    (F.CL_PQRES0_TAG, r.tag), (F.CL_PQRES0_RESULT, r.result),
    (F.CL_PQRES0_SRC, if s.cl.results.isEmpty then 0 else q.src), (F.CL_PQRES1_DATA, r.data), (F.CL_PQRES2_ERR, r.err),
    (F.CL_PQRES2_TRIES, min 255 r.tries), (F.CL_PQRES2_CYCLES, min 65535 r.cycles)]

/-- A result waits for the host; event PQRES (R315, R525). -/
def pqResult (r : PqRes) (s : State) : State :=
  (pqSync { s with cl := { s.cl with results := s.cl.results ++ [r] } }).event 8

/-- The refusals of R315. -/
def State.pqRefused (s : State) (l : Nat) (r : Req) : Bool :=
  !(s.lane l = lsLOCKED || s.lane l = lsREADY) || !(r.op = 1 || r.op = 2) ||
    (r.op = 2 && 0x020 ≤ r.reg && r.reg ≤ 0x02F && r.reg != 0x025) || (r.op = 2 && s.role = roSTANDBY)

/-- The refused requests at the head of the queue end with REFUSED while a result place is free. -/
def pqRefuse : Nat → State → State
  | 0, s => s
  | n + 1, s => match s.cl.reqs with
    | (l, r) :: rest =>
      if s.pqRefused l r && s.cl.results.length < 16 then
        pqRefuse n (pqResult { lane := l, req := r, result := 4 } { s with cl := { s.cl with reqs := rest } })
      else s
    | [] => s

/-- SUBMIT: PQREQ0 and PQREQ1 as they stand, or OVF when 16 requests wait. -/
def pqSubmit (src : Nat) (s : State) : State :=
  if 16 ≤ s.cl.reqs.length + s.hostOpen then s.wr F.CL_PQSTS_OVF 1
  else
    let r : Req := { hop := s.rd F.CL_PQREQ0_HOP, op := s.rd F.CL_PQREQ0_OP, reg := s.rd F.CL_PQREQ0_REG, src := src
                     data := s.rd F.CL_PQREQ1_DATA }
    pqSync (pqRefuse 16 { s with cl := { s.cl with reqs := s.cl.reqs ++ [(s.rd F.CL_PQREQ0_LANE, r)] } })

/-- The SRC of a host parcel: 0 PF0, 1 the Ostler port; a DMA channel counts as its owner. -/
def pqSource (m : Master) : Nat := if m.owner = 2 then 1 else 0

/-- `CL.PQCTL.SUBMIT` is written. -/
def execPqSubmit (m : Master) (s : State) : Res := .next (gate m .p 0x189008 (pqSubmit (pqSource m)) s)

/-- POP removes the oldest result. -/
def pqPop (s : State) : State :=
  pqSync (pqRefuse 16 { s with cl := { s.cl with results := s.cl.results.tail } })

/-- `CL.PQCTL.POP` is written. -/
def execPqPop (m : Master) (s : State) : Res := .next (gate m .p 0x189008 pqPop s)

/-- FLUSH discards every waiting request and result; the results of open transactions will be discarded. -/
def pqFlush (s : State) : State :=
  let openLanes := (List.range 128).filter fun l => match (s.ln l).tx with | some t => t.req.src < 2 | none => false
  pqSync { s with cl := { s.cl with reqs := [], results := [], dropped := openLanes } }

/-- `CL.PQCTL.FLUSH` is written. -/
def execPqFlush (m : Master) (s : State) : Res := .next (gate m .p 0x189008 pqFlush s)

/-! ### Enumeration (R316) -/

/-- The requests of phase 0: IFVER, CAPS, ID_LO, ID_HI, RATE. -/
def enumReads (h : Nat) : List Req := [0x003, 0x010, 0x000, 0x001, 0x002].map fun r => { hop := h, op := 1, reg := r, src := 3 }

/-- The requests of phase 1: WEAR. -/
def enumWear (h : Nat) : List Req := (List.range 12).map fun j => { hop := h, op := 1, reg := 4 + j, src := 3 }

/-- The requests of phase 2: BMODE, DEADT, AUXSEL, COMP. -/
def State.enumWrites (s : State) (l h : Nat) : List Req :=
  let bm := match s.cellAt l h with | some c => c.bmode | none => 1
  let n := s.rd (F.CL_CFG_ARM l)
  [(0x022, bm), (0x021, s.rd (F.ARM_DEADT_NS n)), (0x023, s.rd (F.CL_FCFG_AUXSEL l)),
    (0x020, (s.hop l h).comp.getD 0 + 2 ^ 31)].map fun x => { hop := h, op := 2, reg := x.1, data := x.2, src := 3 }

/-- A value read in the present enumeration of a hop. -/
def LaneSt.read (x : LaneSt) (reg : Nat) : Nat := ((x.got.find? (·.1 == reg)).map (·.2)).getD 0

/-- The identity read. -/
def LaneSt.readId (x : LaneSt) : Nat := x.read 0 + 2 ^ 32 * x.read 1

/-- The enumeration goes to hop `h` or, past hops without a COMP, to the next one that has it. -/
def enumHop (l : Nat) : Nat → Nat → State → State
  | 0, _, s => s
  | n + 1, h, s =>
    if s.liveHops l ≤ h then s.setLn l fun x => { x with ehop := some h, etodo := [], ephase := 0, got := [] }
    else if (s.hop l h).comp.isSome then
      s.setLn l fun x => { x with ehop := some h, etodo := enumReads h, ephase := 0, got := [] }
    else enumHop l n (h + 1) (s.inc (F.CL_ENUM_FAIL l))

/-- The enumeration of a chain begins (R316). -/
def enumStart (l : Nat) (s : State) : State :=
  let s := s.wrs [(F.CL_ENUM_DONE l, 0), (F.CL_ENUM_FAIL l, 0), (F.CL_ENUM_NEWID l, 0), (F.CL_ENUM_BUSY l, 1)]
  -- an enumeration transaction that is open belongs to the enumeration before
  let s := s.setLn l fun x => { x with tx := (match x.tx with | some t => if t.req.src = 3 then none else some t | none => none) }
  enumHop l 65 0 s

/-- The hop under enumeration has not answered. -/
def enumFail (l : Nat) (s : State) : State :=
  match (s.ln l).ehop with
  | some h => enumHop l 65 (h + 1) (s.inc (F.CL_ENUM_FAIL l))
  | none => s

/-- The hop under enumeration has answered: what it declared goes to its cell (R316, R329, R33). -/
def enumDone (l h : Nat) (s : State) : State :=
  let x := s.ln l
  let id := x.readId
  let g := ((s.cellAt l h).map (·.gidx)).getD 8192
  let differs := g < 8192 && id != s.tallyId g
  let s := s.inc (F.CL_ENUM_DONE l)
  let s := if differs then s.inc (F.CL_ENUM_NEWID l) else s
  let wear := if differs then (List.range 12).map fun j => x.read (4 + j) else []
  let s := s.mapCells (·.gidx == g) fun c =>
    { c with answered := true, id := id, rate := x.read 2, ifver := x.read 3, wear := wear }
  enumHop l 65 (h + 1) s

/-- The end of an enumeration transaction (R316). -/
def enumResult (l result reg data : Nat) (s : State) : State :=
  match (s.ln l).ehop with
  | none => s
  | some h =>
    if result != 0 then enumFail l s
    else
      let s := s.setLn l fun x => { x with got := (reg, data) :: x.got, etodo := x.etodo.tail }
      let x := s.ln l
      if !x.etodo.isEmpty then s
      else
        let gen := s.rd (F.CL_CFG_GEN l)
        let caps := x.read 0x010
        let sound := x.read 0x003 % 2 ^ 16 = 1 && caps.testBit (gen - 1) &&
          (s.rd (F.CL_CFG_RING l) = 0xFF || caps.testBit 3)
        let known := match s.cellAt l h with | some c => x.readId == s.tallyId c.gidx | none => true
        let go := fun p todo => s.setLn l fun x => { x with ephase := p, etodo := todo }
        if x.ephase = 0 then
          (if !sound then enumFail l s else if known then go 2 (s.enumWrites l h) else go 1 (enumWear h))
        else if x.ephase = 1 then go 2 (s.enumWrites l h)
        else enumDone l h s

/-! ### Transactions (R312, R313) -/

/-- The transaction of lane `l` ends with a result, the DATA and ERR of its reply. -/
def txEnd (l result data err : Nat) (s : State) : State :=
  match (s.ln l).tx with
  | none => s
  | some t =>
    let s := (s.setLn l fun x => { x with tx := none }).wr (F.CL_FSTS_PBUSY l) 0
    let s := if result = 2 || result = 3 then s.inc (F.CL_ERR5_PTMO l) else s
    match t.req.src with
    | 2 => s
    | 3 => enumResult l result t.req.reg data s
    | 4 => if result = 0 && data != t.req.data then s.inc (F.CL_ERR5_PTMO l) else s
    | _ =>
      if s.cl.dropped.contains l then
        pqSync { s with cl := { s.cl with dropped := s.cl.dropped.filter (· != l) } }
      else
        -- the host sees the hop in TOPO numbering
        let place := match s.cellAt l t.req.hop with | some c => (c.lane, c.hop) | none => (l, t.req.hop)
        pqResult { lane := place.1, req := { t.req with hop := place.2 }, tag := t.tag, result := result, data := data
                   err := err, tries := t.tries, cycles := unsigned 32 ((s.cyc : Int) - t.first) } s

/-- The ring partner of lane `l` has a transaction open: a ring has at most one for the pair (R312). -/
def State.pairBusy (s : State) (l : Nat) : Bool :=
  let p := s.rd (F.CL_CFG_RING l)
  p != 0xFF && (s.ln p).tx.isSome

/-- The request that lane `l` opens next, by precedence (R315), and the state without it. -/
def nextRequest (l : Nat) (s : State) : Option (Req × State) :=
  let x := s.ln l
  match x.own with
  | r :: rest => some (r, s.setLn l fun x => { x with own := rest })
  | [] => match x.etodo with
    | r :: _ => some (r, s)
    | [] => match s.cl.reqs with
      | (hl, r) :: rest =>
        -- the request names a position in TOPO numbering
        let at_ := match s.be.cells.find? (fun c => c.lane == hl && c.hop == r.hop) with
          | some c => s.place c
          | none => (hl, r.hop)
        if at_.1 = l && !s.pqRefused hl r && s.cl.results.length + s.hostOpen < 16 then
          some ({ r with hop := at_.2 }, { s with cl := { s.cl with reqs := rest } })
        else none
      | [] => none

/-- Lane `l` opens its next transaction when it is free. -/
def txOpen (l : Nat) (s : State) : State :=
  if (s.ln l).tx.isSome || s.pairBusy l then s
  else match nextRequest l s with
    | none => s
    | some (r, s) =>
      let tag := (s.rd (F.CL_FSTS_TAG l) + 1) % 16
      let t : Tx := { req := r, tag := tag, first := s.cyc, sendAt := s.cyc }
      pqSync ((s.wrs [(F.CL_FSTS_TAG l, tag), (F.CL_FSTS_PBUSY l, 1)]).setLn l fun x => { x with tx := some t })

/-- The parcel field of a request (R310). -/
def parcelBytes (op hop tag reg data : Nat) : List Byte :=
  beBytes 8 (op * 2 ^ 61 + hop % 64 * 2 ^ 55 + tag % 16 * 2 ^ 51 + reg % 2 ^ 11 * 2 ^ 40 + data % 2 ^ 32 * 2 ^ 8)

/-- The parcel field of the frame that lane `l` launches in the present cycle, and the state after it (R312, R313). -/
def parcelSend (l : Nat) (s : State) : List Byte × State :=
  let s := txOpen l s
  match (s.ln l).tx with
  | none => (parcelBytes 0 0 0 0 0, s)
  | some t =>
    let lost := match t.await with | some c => decide (cycDiff c s.cyc < 0) | none => false
    if t.req.op = 4 then
      let t' := { t with tries := t.tries + 1, allSent := t.allSent + 1 }
      let bytes := parcelBytes 4 t.req.hop t.tag t.req.reg t.req.data
      if t'.allSent < 3 then (bytes, s.setLn l fun x => { x with tx := some t' })
      else
        -- after the third frame the lane READs the register back from every configured cell (R313)
        let back := ((List.range (s.liveHops l)).filter fun h => (s.cellAt l h).isSome).map fun h =>
          ({ hop := h, op := 1, reg := t.req.reg, data := t.req.data, src := 4 } : Req)
        let s := s.setLn l fun x => { x with tx := none, own := x.own ++ back }
        (bytes, s.wr (F.CL_FSTS_PBUSY l) 0)
    else
      -- a request on the way, a wait, or repeats used up: nothing is sent
      let retry := s.rd F.CL_PQCFG_RETRY
      let due := decide (0 ≤ cycDiff s.cyc t.sendAt) && (t.await.isNone || (lost && t.repeats < retry)) &&
        (match t.busy with | some b => decide (cycDiff s.cyc b < s.rd F.CL_PQCFG_BUSYMAX) | none => true)
      if !due then (parcelBytes 0 0 0 0 0, s)
      else
        let t' := { t with tries := t.tries + 1, repeats := if lost then t.repeats + 1 else t.repeats
                           await := some ((s.cyc + 1) % 2 ^ 32) }
        let op := if t.busy.isSome then 3 else t.req.op
        let data := if op = 2 then t.req.data else 0
        (parcelBytes op t.req.hop t.tag t.req.reg data, s.setLn l fun x => { x with tx := some t' })

/-- The reply field of an uplink frame whose CRC-32C is correct (R310 to R312). -/
def parcelReply (l : Nat) (field : List Byte) (s : State) : State :=
  match (s.ln l).tx with
  | none => s
  | some t =>
    let w := beNat field
    let st := Sys2Proof.Machine.field w 61 3
    let mine := Sys2Proof.Machine.field w 55 6 = t.req.hop && Sys2Proof.Machine.field w 51 4 = t.tag &&
      Sys2Proof.Machine.field w 40 11 = t.req.reg
    if t.await != some s.cyc || !mine then s
    else if st = 1 then txEnd l 0 (Sys2Proof.Machine.field w 8 32) 0 s
    else if st = 2 then txEnd l 1 0 (Sys2Proof.Machine.field w 0 8) s
    else if st = 3 then
      s.setLn l fun x => { x with tx := some { t with await := none, repeats := 0, busy := some (t.busy.getD s.cyc)
                                                      sendAt := (s.cyc + 1) % 2 ^ 32 } }
    else s

/-- PARCEL_RETRY_EXHAUSTED: no reply after RETRY repeats (R312). -/
def retryExhausted (l : Nat) (s : State) : State :=
  match (s.ln l).tx with
  | some t => if t.await.isSome && s.rd F.CL_PQCFG_RETRY ≤ t.repeats then txEnd l 2 0 0 s else s
  | none => s

/-- PARCEL_RETRY_EXHAUSTED. -/
def execParcelRetryExhausted (l : Fin 128) (s : State) : Res := .next (retryExhausted l s)

/-- PARCEL_BUSY_TIMEOUT: BUSYMAX cycles after the first BUSY (R312). -/
def busyTimeout (l : Nat) (s : State) : State :=
  match (s.ln l).tx with
  | some t => match t.busy with
    | some b => if decide ((s.rd F.CL_PQCFG_BUSYMAX : Int) ≤ cycDiff s.cyc b) then txEnd l 3 0 0 s else s
    | none => s
  | none => s

/-- PARCEL_BUSY_TIMEOUT. -/
def execParcelBusyTimeout (l : Fin 128) (s : State) : Res := .next (busyTimeout l s)

/-- The block writes a cell register by WRITE_ALL on lane `l` (R315). -/
def writeAll (l reg data : Nat) (s : State) : State :=
  s.setLn l fun x => { x with own := x.own ++ [{ op := 4, reg := reg, data := data }] }

/-- A write to `CL[l].FCFG.AUXSEL`, rwl: locked in RUN (R7); a change goes to the cells of the lane (R315). -/
def auxselWrite (m : Master) (l : Nat) (v : Nat) (s : State) : State :=
  if s.st = stRUN then s.werr F.HST_WERR_LOCKED m
  else if s.rd (F.CL_FCFG_AUXSEL l) = v then s
  else
    let s := s.wr (F.CL_FCFG_AUXSEL l) v
    if s.flag (F.CL_CFG_USED l) then writeAll l 0x023 v s else s

/-- CL_AUXSEL_WRITE. -/
def execClAuxselWrite (m : Master) (l : Fin 128) (value : Byte) (s : State) : Res :=
  .next (gate m .p (0x180048 + 0x100 * l) (auxselWrite m l value.toNat) s)

/-- LANE_MEASURE_DONE: every hop is measured; COMP, READY, and the chain is offered to enumeration (R274). -/
def measureDone (l : Nat) (s : State) : State :=
  if s.lane l = lsMEASURE && s.measured l then
    let s := (computeComps l s).setLn l fun x => { x with retrain := false }
    let s := setLane l lsREADY s
    if s.ringFar l then s else enumStart l s
  else s

/-- LANE_MEASURE_DONE. -/
def execLaneMeasureDone (l : Fin 128) (s : State) : Res := .next (measureDone l s)

end Sys2Proof.Machine
end

