-- ==== Sys2Proof/Machine/Tally.lean ====
section
/-! DEFINITION. Cell records (spec/10): the Cellar's initialisation and errors, the Tally record, the counting unit,
capacitance and life, the identity check, the archive and the checkpoints. -/

namespace Sys2Proof.Machine

/-! ### The Tally record (R330) -/

/-- The magic of a record. -/
abbrev tallyMagic : Nat := 0x594C4C54

/-- Bytes `[o, o + n)` of a record take a value. -/
def recSet (o n v : Nat) (r : List Byte) : List Byte := overwrite r o (leBytes n v)

/-- The record with its CRC-32C over bytes 0 to 507. -/
def recSeal (r : List Byte) : List Byte := recSet 508 4 (crc32c (r.take 508)) r

/-- The record's magic and CRC-32C check. -/
def recSound (r : List Byte) : Bool := leAt r 0 4 = tallyMagic && leAt r 508 4 = crc32c (r.take 508)

/-- An empty record of index `i`: nothing counted; its extremes before a first slot are the model's choice
(notes/assumptions/9). -/
def recEmpty (i : Nat) : List Byte :=
  recSeal (recSet 204 2 0xFFFF (recSet 180 2 0x807F (recSet 4 2 i (recSet 0 4 tallyMagic (List.replicate 512 0)))))

/-- The record of index `i` in the Cellar. -/
def State.record (s : State) (i : Nat) : List Byte := s.cellar.readBytes (tallyAddr i) 512

/-- A record is written to index `i`. -/
def recPut (i : Nat) (r : List Byte) (s : State) : State :=
  { s with cellar := s.cellar.writeBytes (tallyAddr i) r }

/-- The live counters that a record holds. A record without an accepted slot of a known temperature starts its residue
with the first one (R332). -/
def liveOf (r : List Byte) : LiveSt :=
  let tmax := signed 8 (leAt r 181 1)
  { sw := leAt r 80 8, ins := leAt r 88 8, obs := leAt r 96 8
    rf := (List.range 16).map fun b => leAt r (104 + 4 * b) 4
    started := leAt r 96 8 != 0 && tmax != -128
    ext := signed 8 (leAt r 168 1), dir := signed 8 (leAt r 169 1)
    stack := (List.range (leAt r 170 1)).map fun j => signed 8 (leAt r (171 + j) 1)
    tmin := signed 8 (leAt r 180 1), tmax := tmax, vmax := leAt r 182 2
    sqq := leAt r 184 8, sqv := leAt r 192 8, capn := leAt r 200 4 }

/-- A record with live counters folded in. -/
def foldLive (v : LiveSt) (r : List Byte) : List Byte :=
  let r := recSet 80 8 v.sw (recSet 88 8 v.ins (recSet 96 8 v.obs r))
  let r := overwrite r 104 ((List.range 16).flatMap fun b => leBytes 4 (v.rf.getD b 0))
  let r := recSet 168 1 (unsigned 8 v.ext) (recSet 169 1 (unsigned 8 v.dir) (recSet 170 1 v.stack.length r))
  let r := overwrite r 171 ((List.range 8).map fun j => BitVec.ofNat 8 (unsigned 8 (v.stack.getD j 0)))
  let r := recSet 180 1 (unsigned 8 v.tmin) (recSet 181 1 (unsigned 8 v.tmax) (recSet 182 2 v.vmax r))
  recSet 184 8 v.sqq (recSet 192 8 v.sqv (recSet 200 4 v.capn r))

/-! ### The counting unit (R331 to R333) -/

/-- Count a range of `r` K as `h` half-cycles (R332). -/
def rfCount (binw r h : Nat) (v : LiveSt) : LiveSt :=
  { v with rf := modifyPad 0 (fun x => satAdd 0xFFFFFFFF x h) (min 15 (r / max 1 binw)) v.rf }

/-- The full cycles that a push closes, at most as many as the stack holds (R332). -/
def rfClose (binw : Nat) : Nat → LiveSt → LiveSt
  | 0, v => v
  | k + 1, v =>
    let n := v.stack.length
    let at_ := fun j => v.stack.getD j 0
    let d := fun i j => (at_ i - at_ j).natAbs
    if 4 ≤ n && decide (d (n - 3) (n - 2) ≤ d (n - 4) (n - 3)) && decide (d (n - 3) (n - 2) ≤ d (n - 2) (n - 1)) then
      let v := rfCount binw (d (n - 3) (n - 2)) 2 v
      rfClose binw k { v with stack := v.stack.take (n - 3) ++ [at_ (n - 1)] }
    else v

/-- Push a turning point (R332). -/
def rfPush (binw : Nat) (p : Int) (v : LiveSt) : LiveSt :=
  let v := rfClose binw 9 { v with stack := v.stack ++ [p] }
  if v.stack.length = 9 then
    let v := rfCount binw (v.stack.getD 0 0 - v.stack.getD 1 0).natAbs 1 v
    { v with stack := v.stack.tail }
  else v

/-- The residue takes temperature `t` (R332). -/
def rfStep (hyst binw : Nat) (t : Int) (v : LiveSt) : LiveSt :=
  if !v.started then { v with started := true, ext := t, dir := 0, stack := [] }
  else
    let d := t - v.ext
    if v.dir = 0 then
      (if hyst ≤ d.natAbs then { rfPush binw v.ext v with dir := d.sign, ext := t } else v)
    else if 0 < d * v.dir then { v with ext := t }
    else if hyst ≤ d.natAbs then { rfPush binw v.ext v with dir := -v.dir, ext := t }
    else v

/-- The time in ns of a cycle of `armcyc` ns in which a cell is inserted, by the commands launched up to the frame of that
cycle, and the part of its pulse that falls into the next cycle (R331). -/
def insertedTime (armcyc : Nat) (c : CellSt) : Nat × Nat :=
  let held := c.atMark = 1
  let before := min c.tail armcyc
  match c.sent.cmd with
  | 1 => ((if held then armcyc else armcyc - c.sent.crt) + before, 0)
  | 2 | 3 | 6 => ((if held then min c.sent.crt armcyc else 0) + before, 0)
  | 4 | 5 =>
    let w := c.sent.param * (if c.sent.cmd = 4 then 4 else 25)
    let here := min w (armcyc - c.sent.crt)
    (here + before, w - here)
  | _ => ((if held then armcyc else 0) + before, c.tail - before)

/-- The cell qualifies for D(k) of its cycle (R200). -/
def CellSt.qualifies (c : CellSt) : Bool :=
  c.inA && c.atPrev = 1 && !c.recordedPrev && !c.fpPrev && c.present && c.presentPrev

/-- Iavg of arm `n` in binary64 (R333). -/
def State.iavg (s : State) (n : Nat) : Nat :=
  let m := f64of32 (s.smp (F.LMU_ACC_MEAN_VAL (s.smp (F.ARM_CAPSRC_ACC n))))
  if s.smpFlag (F.ARM_CAPSRC_POL n) then fNegF fmt64 m else m

/-- The capacitance sums take a qualifying cycle with charge `q` in C (R333). -/
def capStep (qmin q : Nat) (c : CellSt) : CellSt :=
  if !c.qualifies || !fLeF fmt64 (f64ofRat qmin 1000000) (fMag fmt64 q) then c
  else
    let dv := f64mul (f64ofInt ((c.vcap : Int) - c.vprev)) (f64ofRat 1 20)
    let v := c.live
    { c with live := { v with sqq := f64add v.sqq (f64mul q q), sqv := f64add v.sqv (f64mul q dv)
                              capn := min 0xFFFFFFFF (v.capn + 1) } }

/-- The live counters of a cell advance by the cycle that ends (R331 to R333). -/
def countCell (armcyc hyst binw : Nat) (c : CellSt) : CellSt :=
  let t := signed 8 c.temp
  let ins := insertedTime armcyc c
  let v := { c.live with ins := (c.live.ins + ins.1) % 2 ^ 64 }
  let v :=
    if !c.present then v
    else
      let v := { v with obs := (v.obs + armcyc) % 2 ^ 64, tmin := min v.tmin t, tmax := max v.tmax t, vmax := max v.vmax c.vcap }
      if t = -128 then v else rfStep hyst binw t v
  { c with live := v, tail := ins.2 }

/-- The counting unit takes the cycle of arm `n` at its freeze. -/
def countArm (n : Nat) (s : State) : State :=
  let s := s.mapCells (·.arm == n) (countCell s.armcyc (s.rd F.TLY_RF_HYST) (s.rd F.TLY_RF_BINW))
  if s.smpFlag (F.ARM_CAPSRC_EN n) then
    let q := f64mul (f64mul (s.iavg n) (f64ofInt s.armcyc)) (f64ofRat 1 1000000000)
    s.mapCells (·.arm == n) (capStep (s.rd F.TLY_CAPCFG_QMIN) q)
  else s

/-! ### Life consumed (R334) -/

/-- A permille component: rounded down, limited to 1,023. -/
def permille (x : Nat) : Nat := min 1023 (fFloorInt fmt64 x).toNat

/-- A rating outside its range counts as 0 (R329). -/
def ranged (lo hi x : Nat) : Nat := if lo ≤ x && x ≤ hi then x else 0

/-- The four life components of a record: LSW, LINS, LTH, LCAP (R334). The power of LTH is the open value of
notes/assumptions/4. -/
def lifeParts (binw : Nat) (r : List Byte) : List Nat :=
  let nsw := leAt r 32 4
  let hins := leAt r 36 4
  let nref := leAt r 40 4
  let th := leAt r 44 4
  let dt := ranged 1 200 (th % 256)
  let k := ranged 10 150 (th / 256 % 256)
  let ceol := ranged 1 1000 (leAt r 30 2)
  let cap := leAt r 204 2
  let q := fun a b => permille (f64div (f64mul (f64ofInt 1000) a) b)
  let lsw := if nsw = 0 then 0 else q (f64ofInt (leAt r 80 8)) (f64mul (f64ofInt nsw) (f64ofInt 1000000))
  let lins := if hins = 0 then 0 else q (f64ofInt (leAt r 88 8)) (f64mul (f64ofInt hins) (f64ofInt 3600000000000))
  let sum := (List.range 16).foldl (fun a b =>
    a + leAt r (104 + 4 * b) 4 * Config.lifePower (if b = 15 then 32 * binw else (2 * b + 1) * binw) (2 * dt) k) 0
  let lth := if nref = 0 || dt = 0 || k = 0 then 0 else min 1023 (sum / (2 * nref * 2 ^ 64))
  let lcap := if cap = 0xFFFF || ceol = 0 then 0 else min 1023 (1000 * (1000 - cap) / ceol)
  [lsw, lins, lth, lcap]

/-- LIFE: the largest of the four. -/
def lifeMax (l : List Nat) : Nat := l.foldl max 0

/-- The first component that is the largest. -/
def lifeDom (l : List Nat) : Nat := l.findIdx (· == lifeMax l)

/-- A record with its life components recomputed. -/
def foldLife (binw : Nat) (r : List Byte) : List Byte :=
  let l := lifeParts binw r
  recSet 214 2 (lifeMax l) (overwrite r 206 (l.flatMap (leBytes 2)))

/-- The class 3 event of a cell: code, identity and two global indices (R336, R337, R343). -/
def tallyEvent (code id i j : Nat) (s : State) : State := s.log 3 code (leBytes 8 id ++ leBytes 2 i ++ leBytes 2 j)

/-- LWARN of a cell follows the LIFE of its record (R336). -/
def lifeWarn (g life id : Nat) (s : State) : State :=
  let warn := decide (s.rd F.TLY_LIFECFG_WARN ≤ life)
  let was := match s.cell? g with | some c => c.lwarn | none => false
  let s := s.setCell g fun c => { c with lwarn := warn }
  if warn && !was then raiseEach 444 (tallyEvent 5 id g g s)
  else if (s.be.cells.any (·.lwarn)) then s else unraise 444 s

/-- One cell's live counters are folded into its record (R331), and the Ostler's life of it is computed (R334). -/
def foldCell (c : CellSt) (s : State) : State :=
  let r := recSet 204 2 c.capEst (foldLive c.live (s.record c.gidx))
  let r := foldLife (s.rd F.TLY_RF_BINW) (recSet 216 4 s.cycRec (recSet 220 4 s.now r))
  let life := leAt r 214 2
  let dom := lifeDom (lifeParts (s.rd F.TLY_RF_BINW) r)
  let s := recPut c.gidx (recSeal r) s
  let s := s.setCell c.gidx fun c => { c with lifeNext := life, dom := dom }
  let s := { s with tly := { s.tly with lifeReady := c.gidx :: s.tly.lifeReady.filter (· != c.gidx) } }
  lifeWarn c.gidx life c.id s

/-- Every configured cell is folded; an active unit carries its table of LIFE (R331, R335). -/
def tallyFold (s : State) : State :=
  let s := forAll s.be.cells foldCell s
  if s.flag F.GLB_ROLE_TWIN then
    s.carry 10 (s.be.cells.flatMap fun c => leBytes 2 c.gidx ++ leBytes 2 c.lifeNext)
  else s

/-- TALLY_FOLD: the counting unit folds, once the records are loaded. -/
def execTallyFold (s : State) : Res := .next (if s.flag F.TLY_STS_TLOAD then tallyFold s else s)

/-- CAPEST from the sums (R333). -/
def capEstOf (sqq sqv cnom : Nat) : Nat :=
  if cnom = 0 || !fLtF fmt64 0 sqv then 0xFFFF
  else
    let x := f64div (f64mul (f64ofInt 1000) (f64div sqq sqv)) (f64mul (f64ofInt cnom) (f64ofRat 1 1000000))
    if fIsFin fmt64 x then (min 0xFFFE (fRoundInt fmt64 x)).toNat else 0xFFFE

/-- CAPEST_UPDATE of the cell at index `g`: CAPN has reached its window (R333). -/
def capestUpdate (g : Nat) (s : State) : State :=
  match s.cell? g with
  | none => s
  | some c =>
    if c.live.capn < 2 ^ s.rd F.TLY_CAPCFG_WINLOG2 then s
    else
      s.setCell g fun c =>
        { c with capEst := capEstOf c.live.sqq c.live.sqv (s.tally g 24 4), wins := min 65535 (c.wins + 1)
                 live := { c.live with sqq := 0, sqv := 0, capn := 0 } }

/-- CAPEST_UPDATE. -/
def execCapestUpdate (g : BitVec 13) (s : State) : Res := .next (capestUpdate g.toNat s)

/-- Cause MISSED of a standby (R498): a carried item missed, or an incomplete table of LIFE. -/
def missedJudge (s : State) : State := readyJudge (s.putBit F.TWN_NRCAUSE_CAUSE 5 (s.twn.missed || s.tly.lifeMiss))

/-- LIFE_APPLY: at an apply cycle the computed values take effect, on a standby of a declared twin the carried ones
(R335). -/
def lifeApply (s : State) : State :=
  if !s.running || s.cyc % 2 ^ 22 != 0 then s
  else
    let t := s.tly
    let s := s.wr F.TLY_LIFEAPPLY_CYC s.cyc
    let s :=
      if s.standbyWrite then
        let s := if t.lifeWhole then
            s.mapCells (fun _ => true) fun c =>
              { c with life := ((t.lifeTable.find? (·.1 == c.gidx)).map (·.2)).getD c.life }
          else s
        missedJudge { s with tly := { s.tly with lifeMiss := !t.lifeWhole } }
      else s.mapCells (fun c => t.lifeReady.contains c.gidx) fun c => { c with life := c.lifeNext }
    { s with tly := { s.tly with lifeReady := [], lifeTable := [], lifeWhole := false } }

/-- LIFE_APPLY. -/
def execLifeApply (s : State) : Res := .next (lifeApply s)

/-! ### Identity and replacement (R337 to R339) -/

/-- The first Cellar address of the archive mirror. -/
abbrev archMirror : Nat := 0x181000000

/-- The entries of the archive ring. -/
abbrev archSize : Nat := 131072

/-- A record goes to the archive, and the Ostler mirrors it (R339). -/
def archive (former : Nat) (r : List Byte) (s : State) : State :=
  let j := s.tly.archNext
  let e := recSeal (recSet 224 2 2 (recSet 226 2 former (recSet 232 8 s.now r)))
  let wraps := s.rd F.TLY_ARCH_COUNT = archSize
  let s := { s with
    cellar := s.cellar.writeBytes (archMirror + 512 * j) e
    tly := { s.tly with arch := s.tly.arch.writeBytes (512 * j) e, archNext := (j + 1) % archSize } }
  if !wraps then s.wr F.TLY_ARCH_COUNT (s.rd F.TLY_ARCH_COUNT + 1)
  else if s.flag F.TLY_ARCH_WRAP then s
  else raise 443 (s.wr F.TLY_ARCH_WRAP 1)

/-- The newest archive entry with an identity, looking at `k` entries back from the next index. -/
def archiveFind (t : TlySt) (id : Nat) : Nat → Nat → Option (List Byte)
  | 0, _ => none
  | k + 1, j =>
    let j := (j + archSize - 1) % archSize
    let r := t.arch.readBytes (512 * j) 512
    if leAt r 8 8 = id && recSound r then some r else archiveFind t id k j

/-- A record taken over by position `c`: its DECL as read now, GIDX and FOLD of the position (R337). -/
def recTake (c : CellSt) (origin cyc now : Nat) (r : List Byte) : List Byte :=
  let r := overwrite r 16 ((c.rate :: c.ifver :: c.wear).flatMap (leBytes 4))
  recSeal (recSet 4 2 c.gidx (recSet 6 2 origin (recSet 216 4 cyc (recSet 220 4 now (overwrite r 224 (List.replicate 16 0))))))

/-- A new record for the cell read at a position (R337). -/
def recNew (c : CellSt) (cyc now : Nat) : List Byte :=
  recTake c 1 cyc now (recSet 8 8 c.id (recSet 72 8 now (recEmpty c.gidx)))

/-- What the engines forget of the former cell at a position, and what its new record brings (R337). -/
def renewCell (r : List Byte) (wins : Nat) (c : CellSt) : CellSt :=
  { c with xcl := false, mism := false, fltrep := false, mismc := 0, live := liveOf r, capEst := leAt r 204 2
           origin := leAt r 6 2, restored := false, wins := wins, lifeNext := leAt r 214 2, lwarn := false }

/-- The check of one changed position against the pool of records (former index, record). -/
def identityOne (c : CellSt) (x : State × List (Nat × List Byte)) : State × List (Nat × List Byte) :=
  let s := x.1
  let put := fun (r : List Byte) (code former wins : Nat) (f : Fld) (pool : List (Nat × List Byte)) =>
    let s := recPut c.gidx r (s.inc f)
    ((tallyEvent code c.id former c.gidx s).setCell c.gidx (renewCell r wins), pool)
  match x.2.find? fun p => leAt p.2 8 8 == c.id with
  | some p =>
    let wins := match s.cell? p.1 with | some o => o.wins | none => 0
    put (recTake c 2 s.cycRec s.now p.2) 3 p.1 wins F.TLY_REPL_MOVED (x.2.filter fun q => q.1 != p.1)
  | none =>
    let old := if s.flag F.TLY_CTL_RESUME then archiveFind s.tly c.id (s.rd F.TLY_ARCH_COUNT) s.tly.archNext else none
    match old with
    | some r => put (recTake c 3 s.cycRec s.now r) 4 (leAt r 226 2) 0 F.TLY_REPL_RESUMED x.2
    | none => put (recNew c s.cycRec s.now) 1 c.gidx 0 F.TLY_REPL_NEW x.2

/-- The identity check at the end of a link process (R337), and the LIFE in effect that it leaves (R335). -/
def identityCheck (s : State) : State :=
  let s := forAll s.be.cells foldCell s
  let s := s.wrs [(F.TLY_REPL_NEW, 0), (F.TLY_REPL_REPLACED, 0), (F.TLY_REPL_MOVED, 0), (F.TLY_REPL_RESUMED, 0)]
  let changed := s.be.cells.filter fun c => c.answered && c.id != s.tallyId c.gidx
  let pool := (changed.map fun c => (c.gidx, s.record c.gidx)).filter fun p => leAt p.2 8 8 != 0
  let x := changed.foldl (fun x c => identityOne c x) (s, pool)
  let s := forAll x.2 (fun (p : Nat × List Byte) s =>
    tallyEvent 2 (leAt p.2 8 8) p.1 p.1 (archive p.1 p.2 (s.inc F.TLY_REPL_REPLACED))) x.1
  s.mapCells (fun _ => true) fun c => { c with life := s.tally c.gidx 214 2 }

/-- The counters and marks of the configured cells as their records hold them (R330, R333): empty ones until they are loaded. -/
def loadLive (s : State) : State :=
  s.mapCells (fun _ => true) fun c =>
    let r := if s.flag F.TLY_STS_TLOAD then s.record c.gidx else recEmpty c.gidx
    { c with live := liveOf r, capEst := leAt r 204 2, origin := leAt r 6 2 }

/-! ### Checkpoints (R340 to R343) -/

/-- The first Cellar address of the Tally records and of the checkpoint build area, and the size of the records. -/
abbrev tallyBase : Nat := 0x180000000
/-- The checkpoint build area. -/
abbrev buildBase : Nat := 0x180800000
/-- 8,192 records of 512 bytes. -/
abbrev tallySize : Nat := 4194304

/-- A checkpoint starts: all records of one fold go to the build area (R340). -/
def ckptStart (s : State) : State :=
  if s.flag F.TLY_STS_CKBUSY || !s.flag F.TLY_STS_TLOAD then s
  else
    let s := tallyFold s
    let s := (s.wr F.TLY_STS_CKBUSY 1).wr F.TLY_CTL_CKPT 1
    { s with
      cellar := s.cellar.copyFrom s.cellar tallyBase buildBase tallySize
      tly := { s.tly with ckAt := some (s.cycRec, s.now), ckRetry := false, ckMoved := false } }

/-- A due duty of an overloaded Ostler moves to the next window (R542). -/
def postpone (f : Fld) (s : State) : State := raise 51 ((s.inc F.HST_OSTLER_CNT_POSTPONE).inc f)

/-- TALLY_CKPT_DUE: PERMIN minutes after the previous checkpoint (R340, R341). -/
def ckptDue (s : State) : State :=
  if s.hst.loadOver then postpone F.TLY_CKCNT_POSTPONE { s with tly := { s.tly with ckMoved := true } }
  else ckptStart s

/-- `TLY.CTL.CKPT` is written; an overloaded Ostler postpones it like a periodic one (R548). -/
def execCkpt (m : Master) (s : State) : Res := .next (gate m .p 0x280000 ckptDue s)

/-- TALLY_CKPT_DUE. -/
def execTallyCkptDue (s : State) : Res := .next (ckptDue s)

/-- TALLY_CKPT_RETRY: 1 min after a failed checkpoint. -/
def execTallyCkptRetry (s : State) : Res := .next (if s.tly.ckRetry then ckptStart s else s)

/-- The checkpoint that runs ends without completing: what that leaves of the copy it writes is a free value
(notes/assumptions/3). -/
def ckptLose (s : State) : State :=
  let one := !s.tly.ckLast
  let (b, s) := s.free 1
  let lose := fun (k : CkptSt) => if b = 1 then { k with seq := 0 } else k
  let t := s.tly
  { s with tly := { t with ck0 := if one then t.ck0 else lose t.ck0, ck1 := if one then lose t.ck1 else t.ck1, ckAt := none } }

/-- TALLY_CKPT_DONE: the copy not written last and its header are written, or programming failed (R340). -/
def ckptDone (ok : Bool) (s : State) : State :=
  match s.tly.ckAt with
  | none => s
  | some (cyc, now) =>
    let t := s.tly
    let s := ((s.wr F.TLY_STS_CKBUSY 0).wr F.TLY_CTL_CKPT 0).event 12
    let one := !t.ckLast
    if ok then
      let k : CkptSt := { seq := max t.ck0.seq t.ck1.seq + 1, cyc := cyc, now := now
                          recs := Memory.copyFrom {} s.cellar buildBase 0 tallySize }
      let t := { t with ck0 := if one then t.ck0 else k, ck1 := if one then k else t.ck1, ckLast := one, ckAt := none }
      let s := ({ s with tly := t }.wr F.TLY_CKSEQ_VAL k.seq).wr64 F.TLY_CKT_LO_VAL F.TLY_CKT_HI_VAL now
      unraise 441 (unraise 440 s)
    else
      let s := ckptLose s
      raiseEach 440 ({ s with tly := { s.tly with ckRetry := true } }.inc F.TLY_CKCNT_FAIL)

/-- TALLY_CKPT_OVERDUE: no checkpoint for 2 × PERMIN minutes (R341). -/
def execTallyCkptOverdue (s : State) : Res := .next (raise 441 s)

/-- The record of index `i` that the checkpoint copies give: from the first copy, else the second, else empty; and whether
it is marked RESTORED (R342). -/
def restoreRecord (a b : CkptSt) (i : Nat) : List Byte × Bool :=
  let r := a.recs.readBytes (512 * i) 512
  if a.seq != 0 && recSound r then (r, false)
  else
    let q := b.recs.readBytes (512 * i) 512
    if b.seq != 0 && recSound q then (q, true) else (recEmpty i, true)

/-- The checkpoint copies, the one with the higher sequence number first. -/
def TlySt.copies (t : TlySt) : CkptSt × CkptSt := if t.ck0.seq < t.ck1.seq then (t.ck1, t.ck0) else (t.ck0, t.ck1)

/-- TALLY_LOAD_DONE: the records are loaded from the checkpoint copies (R342), and the archive mirror stands (R339). -/
def tallyLoad (s : State) : State :=
  if s.st = stBOOT || s.flag F.TLY_STS_TLOAD then s
  else
    let (a, b) := s.tly.copies
    let none_ := a.seq = 0
    let recs : List (List Byte × Bool) := (List.range 8192).map fun i => if none_ then (recEmpty i, false) else restoreRecord a b i
    let s := { s with
      cellar := (s.cellar.writeBytes tallyBase (recs.flatMap Prod.fst)).copyFrom s.tly.arch 0 archMirror (512 * archSize) }
    let s := s.mapCells (fun _ => true) fun c => { c with restored := (recs.getD c.gidx ([], false)).2 }
    let s := loadLive (s.wr F.TLY_STS_TLOAD 1)
    if none_ then raise 442 (s.wr F.TLY_STS_NOCKPT 1)
    else
      let s := s.wr F.TLY_CKSEQ_VAL a.seq
      s.wr64 F.TLY_CKT_LO_VAL F.TLY_CKT_HI_VAL a.now

/-- TALLY_LOAD_DONE. -/
def execTallyLoadDone (s : State) : Res := .next (tallyLoad s)

/-! ### The Cellar (R326, R327) -/

/-- CELLAR_PINIT_DONE: background initialisation ends; the partitions that it covers hold zeros (R326). -/
def pinitDone (s : State) : State :=
  if s.st = stBOOT || s.flag F.TLY_STS_PINIT then s
  else { s with cellar := (s.cellar.clear 0 0x180000000).clear 0x1C0000000 0x40000000 }.wr F.TLY_STS_PINIT 1

/-- CELLAR_PINIT_DONE. -/
def execCellarPinitDone (s : State) : Res := .next (pinitDone s)

/-- Record `i` is reloaded from the newest checkpoint copy that holds it (R343). -/
def tallyReload (i : Nat) (s : State) : State :=
  let (a, b) := s.tly.copies
  let r := (restoreRecord a b i).1
  let s := recPut i r s
  let s := s.setCell i fun c => { c with restored := true, live := liveOf r, capEst := leAt r 204 2, origin := leAt r 6 2 }
  tallyEvent 6 (leAt r 8 8) i i s

/-- CELLAR_ECC_UNCORRECTABLE at the address of a 64-bit word (R327): the word reads with every bit inverted from now on
(notes/assumptions/10), a Tally record is restored. -/
def cellarEcc (addr : Nat) (s : State) : State :=
  let s := { s with cellar := s.cellar.writeBytes addr ((s.cellar.readBytes addr 8).map (~~~ ·)) }
  let s := (s.inc F.TLY_ECCUE_VAL).wr64 F.TLY_UEADR_LO_VAL F.TLY_UEADR_HI_VAL addr
  if addr < 0x180000000 then raiseInCycle 433 s
  else if addr < 0x190000000 then
    let s := if addr < tallyBase + tallySize then tallyReload ((addr - tallyBase) / 512) s else s
    raiseInCycle 434 s
  else if addr < 0x1E0000000 then raiseInCycle 435 s
  else raiseInCycle 436 s

/-- CELLAR_ECC_UNCORRECTABLE. -/
def execCellarEccUncorrectable (addr : BitVec 33) (s : State) : Res := .next (cellarEcc (addr.toNat / 8 * 8) s)

/-- SCRUB_PASS_DONE with the corrected errors of the pass (R327). -/
def scrubDone (corrected : Nat) (s : State) : State :=
  let s := (s.inc F.TLY_SCRUBSTS_PASSES).wr F.TLY_SCRUBSTS_PROG 0
  let s := unraise 446 (s.inc F.TLY_ECCCE_VAL corrected)
  condition 437 (decide (s.rd F.TLY_ECCCFG_CETHR < corrected)) s

/-- SCRUB_PASS_DONE. -/
def execScrubPassDone (corrected : BitVec 16) (s : State) : Res := .next (scrubDone corrected.toNat s)

end Sys2Proof.Machine
end

