-- ==== Sys2Proof/Machine/Ledger.lean ====
section
/-! DEFINITION. The Ledger (spec/10, R344 to R351): its states, records, triggers, freeze and extracts. -/

namespace Sys2Proof.Machine

/-! ### Size and states (R344, R345) -/

/-- OFF. -/
abbrev ldOFF : Nat := 0
/-- FILL. -/
abbrev ldFILL : Nat := 1
/-- ARMED. -/
abbrev ldARMED : Nat := 2
/-- POST. -/
abbrev ldPOST : Nat := 3
/-- FROZEN. -/
abbrev ldFROZEN : Nat := 4

/-- `TLY.LSTS.STATE`. -/
def State.ledger (s : State) : Nat := s.rd F.TLY_LSTS_STATE

/-- `x` rounded up to a multiple of 256. -/
def ceil256 (x : Nat) : Nat := (x + 255) / 256 * 256

/-- RECSZ for a number of arms and cells (R344). -/
def recordSize (narms ncells : Nat) : Nat := ceil256 (256 + 256 * narms + 8 * ncells)

/-- CAP: the records that the 6 GiB ring holds (R344). -/
def ledgerCap (recsz : Nat) : Nat := 6442450944 / max 1 recsz

/-- RECSZ and CAP follow the active TOPO; the ring starts again at record 0. -/
def ledgerSize (s : State) : State :=
  let z := recordSize (s.rd F.SCH_CFG_NARMS) s.be.cells.length
  { s with tly := { s.tly with resize := false, since := 0 } }.wrs
    [(F.TLY_LRECSZ_VAL, z), (F.TLY_LCAP_VAL, ledgerCap z), (F.TLY_LHEAD_VAL, 0)]

/-- A switch that changes TOPO (R345): content is discarded, but for a frozen window. -/
def ledgerTopo (s : State) : State :=
  if s.ledger = ldFROZEN then { s with tly := { s.tly with resize := true } }
  else
    let s := ledgerSize s
    if s.ledger = ldOFF || s.ledger = ldFILL then s else ledgerState ldFILL s

/-- PRE_N (R345). -/
def State.preN (s : State) : Nat := s.rd F.TLY_LCAP_VAL * s.rd F.TLY_LCFG_PRE / 16

/-- POST_N (R345). -/
def State.postN (s : State) : Nat := s.rd F.TLY_LCAP_VAL - s.preN - 1

/-- LEDGER_START: OFF becomes FILL (R345). -/
def ledgerStart (s : State) : State :=
  if s.ledger = ldOFF && s.flag F.TLY_LCFG_EN && s.running && s.flag F.TLY_STS_PINIT then
    ledgerState ldFILL { s with tly := { s.tly with since := 0 } }
  else s

/-- LEDGER_START. -/
def execLedgerStart (s : State) : Res := .next (ledgerStart s)

/-- LEDGER_ARMED: PRE_N records since FILL was entered (R345). -/
def ledgerArmed (s : State) : State :=
  if s.ledger = ldFILL && s.preN ≤ s.tly.since then ledgerState ldARMED s else s

/-- LEDGER_ARMED. -/
def execLedgerArmed (s : State) : Res := .next (ledgerArmed s)

/-! ### Records (R344, R346, R347) -/

/-- A change record of R214: arm-local index, OP, FORCED. -/
def changeWord (local_ op : Nat) (forced : Bool) : Nat := local_ + op * 2 ^ 10 + b2n forced * 2 ^ 12

/-- The change records of a list in order, the end record excluded (R214, R215). -/
def Sel.words (q : Sel) : List Nat :=
  q.forced.map (fun r => changeWord r.1 (if r.2 then 2 else 1) true) ++ q.ins.map (fun l => changeWord l 0 false) ++
    q.byp.map fun l => changeWord l 1 false

/-- The arm-local indices that the records of a list name. -/
def Sel.named (q : Sel) : List Nat := q.forced.map (·.1) ++ q.ins ++ q.byp

/-- The arm record of arm `n`, 256 bytes (R344). STS and SELSTS lie one after the other in bits [15:0]
(notes/assumptions/11). -/
def State.armRecord (s : State) (n : Nat) : List Byte :=
  let a := s.arm n
  let sts := s.rawWord (0x21000 + 0x400 * n) % 64
  let sel := s.rawWord (0x21120 + 0x400 * n) % 32
  let q := a.sel.getD {}
  let fpv := s.flag (F.ARM_FPCELL_VALID n)
  let pl := (a.pulseFill.getD {})
  let head := (List.range 16).flatMap (fun j => leBytes 4 (s.rd (F.ARM_AGG_VAL n j))) ++
    leBytes 2 (s.rd (F.ARM_LGOUT_N n)) ++ leBytes 2 (s.rd (F.ARM_LGOUT_F n)) ++ leBytes 4 (s.rd (F.ARM_VREF_VAL n)) ++
    leBytes 4 (sts + sel * 2 ^ 6 + b2n (s.flag (F.ARM_SIGMA_SIGMA n)) * 2 ^ 16) ++ leBytes 4 (s.rd (F.ARM_DONE_CRT n)) ++
    leBytes 4 (s.rd (F.ARM_SLACK_NS n)) ++
    leBytes 2 (if fpv then s.rd (F.ARM_FPCELL_LOCAL n) + 2 ^ 15 else 0) ++ leBytes 2 0 ++ leBytes 4 pl.lead ++ leBytes 4 pl.w ++
    leBytes 2 (s.rd (F.ARM_SELSTS_NCHG n)) ++ leBytes 2 (s.rd (F.ARM_SELSTS_NFORCED n)) ++ List.replicate 28 0
  slice (head ++ (q.words.take 16).flatMap (leBytes 8)) 0 256

/-- The cell slot of a cell, 8 bytes (R344), after the freeze has moved its marks on. -/
def State.cellSlot (s : State) (c : CellSt) : List Byte :=
  let q := (s.arm c.arm).sel.getD {}
  let flags := b2n (!c.present) + 2 * b2n c.crcBad + 4 * b2n (c.atPrev = 1) + 8 * b2n (q.named.contains c.local_) +
    16 * b2n (q.fp == some c.local_)
  leBytes 8 (c.raw / 256 * 256 + flags)

/-- A record with its CRC-32C, those 4 bytes taken as 0 (R344). -/
def ledgerSeal (r : List Byte) : List Byte :=
  let z := overwrite r 252 [0, 0, 0, 0]
  overwrite z 252 (leBytes 4 (crc32c z))

/-- The record of the present cycle (R344). -/
def State.ledgerRecord (s : State) : List Byte :=
  let trig := s.ledger = ldPOST && s.rd F.TLY_LTCYC_VAL = s.cyc
  let head := leBytes 4 s.cyc ++ leBytes 8 (s.rd64 F.TB_CYCST_LO_T F.TB_CYCST_HI_T) ++
    [BitVec.ofNat 8 (s.st + 16 * (s.role % 4) + 64 * b2n trig), BitVec.ofNat 8 (s.rd F.SCH_CFG_NARMS)] ++
    leBytes 2 s.be.cells.length ++ leBytes 2 s.tly.fired
  let body := slice head 0 256 ++ s.arms.flatMap s.armRecord ++ s.be.cells.flatMap s.cellSlot
  ledgerSeal (slice body 0 (ceil256 body.length))

/-- Ledger and graph-trace writes have stopped: VIN is below its warning, or the Cellar's PLL has failed (R552, R560). -/
def State.cellarHalt (s : State) : Bool := s.fc.cond.contains 0 || s.fc.cond.contains 13

/-- The Ledger writes the record of the present cycle at its freeze (R346): in FILL and ARMED, and in POST up to record
kt + POST_N. -/
def ledgerWrite (s : State) : State :=
  let l := s.ledger
  let cap := s.rd F.TLY_LCAP_VAL
  let more := l = ldFILL || l = ldARMED ||
    (l = ldPOST && decide (cycDiff s.cyc (s.rd F.TLY_LTCYC_VAL) ≤ s.postN))
  if !more || cap = 0 || !s.flag F.TLY_STS_PINIT || s.cellarHalt then s
  else
    let i := s.rd F.TLY_LHEAD_VAL
    let s := { s with
      cellar := s.cellar.writeBytes (i * s.rd F.TLY_LRECSZ_VAL) s.ledgerRecord
      tly := { s.tly with since := s.tly.since + 1 } }
    ledgerArmed (s.wr F.TLY_LHEAD_VAL ((i + 1) % cap))

/-- A written record takes flag bits in byte 12 and source bits, and its CRC-32C follows (R346, R347, R349). -/
def ledgerPatch (i flag src : Nat) (s : State) : State :=
  let z := s.rd F.TLY_LRECSZ_VAL
  let r := s.cellar.readBytes (i * z) z
  let r := recSet 12 1 (leAt r 12 1 ||| flag) (recSet 16 2 (leAt r 16 2 ||| src) r)
  { s with cellar := s.cellar.writeBytes (i * z) (ledgerSeal r) }

/-- A record that the Cellar could not complete (R347): the latest one. FS438 is raised by its report. -/
def ledgerDrop (s : State) : State :=
  let cap := max 1 (s.rd F.TLY_LCAP_VAL)
  let s := ledgerPatch ((s.rd F.TLY_LHEAD_VAL + cap - 1) % cap) 0x80 0 s
  (s.inc F.TLY_LDROPCNT_VAL).wr F.TLY_LSTS_DROP 1

/-! ### Triggers (R348, R349) -/

/-- LEDGER_TRIGGER: the event of trigger source `b` occurs. -/
def execLedgerTrigger (b : Fin 11) (s : State) : Res := .next (ledgerFire b s)

/-- `TLY.CTL.LTRIG` is written. -/
def execLtrig (m : Master) (s : State) : Res := .next (gate m .u 0x280000 (ledgerFire 0) s)

/-- PARTNER_LEDGER_TRIGGER: the partner's trigger cycle `kt` (R349). A record of that cycle that is already being written
takes the trigger flag. -/
def partnerTrigger (kt : Nat) (s : State) : State :=
  if !s.rdBit F.TLY_LCFG_TRIGEN 5 then s
  else
    let l := s.ledger
    let past := decide (cycDiff kt s.trigCycle < 0)
    let now := kt = s.trigCycle
    let note := fun (s : State) =>
      if now then
        let t := s.tly
        { s with tly := if s.sch.frozen then { t with firedNext := setBit t.firedNext 5 } else { t with fired := setBit t.fired 5 } }
      else s
    if l = ldFILL || l = ldARMED then
      let s := note (ledgerTake kt 0x20 s)
      if past && decide (-(s.tly.since : Int) ≤ cycDiff kt s.trigCycle) then
        let i := s.rd F.TLY_LTREC_VAL
        let s := s.wr64 F.TLY_LTT_LO_VAL F.TLY_LTT_HI_VAL (leNat (s.cellar.readBytes (i * s.rd F.TLY_LRECSZ_VAL + 4) 8))
        ledgerPatch i 0x40 0x20 s
      else s
    else if l = ldPOST && s.rd F.TLY_LTCYC_VAL = kt then
      let s := note (s.putBit F.TLY_LTSRC_SRC 5 true)
      if past then ledgerPatch (s.rd F.TLY_LTREC_VAL) 0x40 0x20 s else s
    else if l = ldPOST || l = ldFROZEN then s.inc F.TLY_LSTS_EXTRA
    else s

/-- PARTNER_LEDGER_TRIGGER. -/
def execPartnerLedgerTrigger (kt : Word) (s : State) : Res := .next (partnerTrigger kt.toNat s)

/-- At a cycle start: the sources that fired after the freeze belong to the new cycle, whose start is LTT when it is the
trigger cycle (R349, R350). -/
def ledgerCycle (s : State) : State :=
  let s := { s with tly := { s.tly with fired := s.tly.firedNext, firedNext := 0 } }
  if s.ledger = ldPOST && s.rd F.TLY_LTCYC_VAL = s.cyc then
    s.wr64 F.TLY_LTT_LO_VAL F.TLY_LTT_HI_VAL (s.rd64 F.TB_CYCST_LO_T F.TB_CYCST_HI_T)
  else s

/-! ### Freeze, release and extract (R345, R346, R350, R351) -/

/-- An extract starts while FROZEN; an overloaded Ostler postpones it (R351, R542). -/
def extractStart (s : State) : State :=
  if s.ledger != ldFROZEN || s.flag F.TLY_STS_XBUSY then s
  else if s.hst.loadOver then postpone F.TLY_XSTS_POSTPONED { s with tly := { s.tly with xMoved := true } }
  else
    { s with tly := { s.tly with xMoved := false, extract := [] } }.wrs
      [(F.TLY_STS_XBUSY, 1), (F.TLY_CTL_EXTRACT, 1), (F.TLY_XSTS_DONE, 0), (F.TLY_XSTS_TRUNC, 0), (F.TLY_XSTS_FAIL, 0)]

/-- LEDGER_FREEZE: POST_N records after kt the Ledger and the graph trace freeze; an automatic extract starts. -/
def ledgerFreeze (s : State) : State :=
  if s.ledger = ldPOST && decide ((s.postN : Int) < cycDiff s.cyc (s.rd F.TLY_LTCYC_VAL)) then
    let cap := max 1 (s.rd F.TLY_LCAP_VAL)
    let num := min cap s.tly.since
    let s := s.wrs [(F.TLY_LNUM_VAL, num), (F.TLY_LOLDEST_VAL, (s.rd F.TLY_LHEAD_VAL + cap - num) % cap),
      (F.CG_TRSTS_FROZEN, 1)]
    let s := raise 439 (ledgerState ldFROZEN s)
    if s.flag F.TLY_XCFG1_AUTO then extractStart s else s
  else s

/-- LEDGER_FREEZE. -/
def execLedgerFreeze (s : State) : Res := .next (ledgerFreeze s)

/-- The frozen window ends; the graph trace goes on (R157). -/
def ledgerThaw (next : Nat) (s : State) : State :=
  let s := unraise 439 (s.wr F.CG_TRSTS_FROZEN 0)
  let s := if s.tly.resize then ledgerSize s else s
  ledgerState next { s with tly := { s.tly with since := 0, xMoved := false } }

/-- LRELEASE: a frozen Ledger returns to FILL, unless an extract runs (R345, R351). -/
def ledgerRelease (s : State) : State :=
  if s.ledger != ldFROZEN then s
  else if s.flag F.TLY_STS_XBUSY then s.wr F.TLY_LSTS_RELREF 1
  else ledgerThaw ldFILL s

/-- `TLY.CTL.LRELEASE` is written. -/
def execLrelease (m : Master) (s : State) : Res := .next (gate m .p 0x280000 ledgerRelease s)

/-- EN has become 0: any state but OFF stops writing (R345). -/
def ledgerOff (s : State) : State :=
  if s.flag F.TLY_LCFG_EN || s.ledger = ldOFF then s
  else if s.ledger = ldFROZEN then ledgerThaw ldOFF s
  else ledgerState ldOFF s

/-- A word is written to `TLY.LCFG`. -/
def ledgerConfig (m : Master) (w : Nat) (s : State) : State := ledgerOff (regWrite m 0x280040 w s)

/-- LEDGER_DISABLE: a write to `TLY.LCFG`. -/
def execLedgerDisable (m : Master) (value : Word) (s : State) : Res :=
  .next (gate m .p 0x280040 (ledgerConfig m value.toNat) s)

/-- `TLY.CTL.EXTRACT` is written. -/
def execExtract (m : Master) (s : State) : Res := .next (gate m .p 0x280000 extractStart s)

/-- A record in its reduced form (R351): its header, the arm records of the mask, the cell slots when asked for. -/
def reducedRecord (mask : Nat) (cells : Bool) (r : List Byte) : List Byte :=
  let narms := leAt r 13 1
  let arms := ((List.range narms).filter mask.testBit).flatMap fun n => slice r (256 + 256 * n) 256
  let body := slice r 0 256 ++ arms ++ (if cells then slice r (256 + 256 * narms) (8 * leAt r 14 2) else [])
  ledgerSeal (slice body 0 (ceil256 body.length))

/-- The extract area of the NAND (R351). -/
abbrev extractSize : Nat := 134217728

/-- Whole records that fit the extract area, and whether some did not. -/
def fitRecords (room : Nat) : List (List Byte) → List Byte × Bool
  | [] => ([], false)
  | r :: rs =>
    if r.length ≤ room then
      let x := fitRecords (room - r.length) rs
      (r ++ x.1, x.2)
    else ([], true)

/-- What an extract writes: its header (layout: notes/assumptions/11), then the records in time order; and whether it was
truncated. -/
def State.extractBytes (s : State) : List Byte × Bool :=
  let cap := max 1 (s.rd F.TLY_LCAP_VAL)
  let old := s.rd F.TLY_LOLDEST_VAL
  let z := s.rd F.TLY_LRECSZ_VAL
  let mask := s.rd F.TLY_XCFG1_ARMMASK
  let cells := s.flag F.TLY_XCFG1_CELLS
  let jt := (s.rd F.TLY_LTREC_VAL + cap - old) % cap
  let j0 := jt - s.rd F.TLY_XCFG0_PRE
  let j1 := min (s.rd F.TLY_LNUM_VAL - 1) (jt + s.rd F.TLY_XCFG0_POST)
  let recs := (List.range (j1 + 1 - j0)).map fun d =>
    reducedRecord mask cells (s.cellar.readBytes ((old + j0 + d) % cap * z) z)
  let head := leBytes 4 z ++ leBytes 4 (mask + 4096 * b2n cells) ++ leBytes 4 (s.rd F.TLY_LTCYC_VAL) ++ leBytes 8 s.now
  let x := fitRecords (extractSize - head.length) recs
  (head ++ x.1, x.2)

/-- EXTRACT_DONE: the extract is complete, truncated or failed. -/
def extractDone (ok : Bool) (s : State) : State :=
  if !s.flag F.TLY_STS_XBUSY then s
  else
    let s := (s.wrs [(F.TLY_STS_XBUSY, 0), (F.TLY_CTL_EXTRACT, 0)]).event 12
    if ok then
      let x := s.extractBytes
      unraise 445 ({ s with tly := { s.tly with extract := x.1 } }.wrs [(F.TLY_XSTS_DONE, 1), (F.TLY_XSTS_TRUNC, b2n x.2)])
    else raiseEach 445 (s.wr F.TLY_XSTS_FAIL 1)

/-- EXTRACT_DONE. -/
def execExtractDone (ok : Bool) (s : State) : Res := .next (extractDone ok s)

end Sys2Proof.Machine
end

