-- ==== Sys2Proof/Machine/HostPort.lean ====
section
/-! DEFINITION. The host port and the Ostler beside their register accesses (spec/17): the PCIe link and its resets, the
configuration spaces, the MSI-X tables, the release of frozen masters, MDIO, and the Ostler's load and restarts. -/

namespace Sys2Proof.Machine

/-! ### Banks and DMA channels (R523, R524, R529) -/

/-- The register addresses that have a copy per bank (R524). -/
def bankedReg (addr : Nat) : Bool :=
  (0x301000 ≤ addr && addr < 0x301020) || addr = 0x301024 || addr = 0x3D0014 || addr = 0x3D0080 || addr = 0x3D0084 ||
  (0x3D0100 ≤ addr && addr < 0x3D0180)

/-- A key of the register file belongs to bank `b`. -/
def inBankKey (b key : Nat) : Bool :=
  let addr := key / 32
  addr / 2 ^ 36 = b && bankedReg (addr % 2 ^ 36)

/-- The bank of a function takes its reset values, its latches read 0 (R15, R523). -/
def bankReset (b : Nat) (s : State) : State :=
  { s with
    regs := s.regs.keep fun k => !inBankKey b k
    latch := s.latch.keep fun k => k / 2 ^ 36 != b }

/-- Channel `ch` ends with outcome `err` (R529); the event of the channel (R525). -/
def dmaEnd (ch err : Nat) (s : State) : State :=
  (s.wrs [(F.HST_DMA_STS_BUSY ch, 0), (F.HST_DMA_CTL_START ch, 0), (F.HST_DMA_STS_ERR ch, err)]).event (24 + ch)

/-- The channels that `owner` runs. -/
def State.dmaOf (s : State) (owner : Nat) : List Nat :=
  (List.range 8).filter fun ch => s.flag (F.HST_DMA_STS_BUSY ch) && s.rd (F.HST_DMA_STS_OWNER ch) = owner

/-- A reset of function `fn`: configuration space, MSI-X table, bank; its channels end with ABORT (R523). -/
def functionReset (fn : Nat) (s : State) : State :=
  let s := forAll (s.dmaOf fn) (fun ch => dmaEnd ch 3) s
  let s := bankReset fn s
  { s with hst := { s.hst with
      msixEn := clearBit s.hst.msixEn fn
      fnMask := clearBit s.hst.fnMask fn
      vecMask := s.hst.vecMask.keep fun k => k / 64 != fn
      pba := s.hst.pba.keep fun k => k / 64 != fn
      vecTab := s.hst.vecTab.keep fun k => k / 256 != fn
      cfg := s.hst.cfg.keep fun k => k / 4096 != fn } }

/-- PERST: PERST_N is asserted. -/
def execPerst (s : State) : Res := .next (functionReset 1 (functionReset 0 s))

/-- FLR of a function. -/
def execFlr (fn : Fin 2) (s : State) : Res := .next (functionReset fn s)

/-- PCIE_LINK_CHANGE: up with its generation and width, or down, which raises FS403 when the link was up (R523, R525). -/
def pcieLink (up : Bool) (speed width : Nat) (s : State) : State :=
  let was := s.flag F.HST_STS_LINKUP
  let s := s.wrs [(F.HST_STS_LINKUP, b2n up), (F.HST_STS_SPEED, if up then speed else 0), (F.HST_STS_WIDTH, if up then width else 0)]
  let s := if was != up then s.event 17 else s
  if up then unraise 403 s else if was then raise 403 s else s

/-- PCIE_LINK_CHANGE. -/
def execPcieLinkChange (up : Bool) (speed : BitVec 2) (width : BitVec 3) (s : State) : Res :=
  .next (pcieLink up speed.toNat width.toNat s)

/-! ### Configuration space (R520; the layout beside R520 is that of PCI Express, notes/assumptions/27) -/

/-- Offset of the MSI-X capability: ID 0x11, then Message Control with the table size in [26:16], [30] Function Mask, [31] Enable. -/
abbrev cfgMsix : Nat := 0x40
/-- Offset of the PCI Express capability: ID 0x10; Device Control at +8. -/
abbrev cfgPcie : Nat := 0x60

/-- The bits of a configuration word that a function does not let a write change. -/
def cfgFixed (vid fn ofs : Nat) : Nat :=
  if ofs = 0 then vid + (0x8192 + fn) * 2 ^ 16
  else if ofs = 0x4 then 0x00100000
  else if ofs = 0x8 then 0x11800042
  else if ofs = 0xC then 0x00800000
  else if ofs = 0x10 || ofs = 0x18 then 4
  else if ofs = 0x34 then cfgMsix
  else if ofs = cfgMsix then 0x11 + cfgPcie * 2 ^ 8 + 63 * 2 ^ 16
  else if ofs = cfgMsix + 4 then 2
  else if ofs = cfgMsix + 8 then 0x2002
  else if ofs = cfgPcie then 0x00020010
  else if ofs = cfgPcie + 4 then 0x10008021
  else if ofs = cfgPcie + 12 then 0x43
  else 0

/-- The bits that a write changes: memory space and bus master enables, BARs, MSI-X control, Device Control. -/
def cfgMask (ofs : Nat) : Nat :=
  if ofs = 0x4 then 0x546
  else if ofs = 0x10 then 0xFE000000
  else if ofs = 0x18 then 0xFFFFC000
  else if ofs = 0x14 || ofs = 0x1C then 0xFFFFFFFF
  else if ofs = 0x3C then 0xFF
  else if ofs = cfgMsix then 0xC0000000
  else if ofs = cfgPcie + 8 then 0x7FFF
  else 0

/-- A word of a function's configuration space. Device Control resets to a Max Read Request Size of 512 bytes and Extended Tag
Field Enable. -/
def State.cfgRead (s : State) (fn ofs : Nat) : Nat :=
  let dflt := if ofs = cfgPcie + 8 then 0x2100 else 0
  cfgFixed (s.rd F.HST_PCIID_VID) fn ofs ||| (s.hst.cfg.get (4096 * fn + ofs) ^^^ dflt)

/-- The messages of pending vectors that nothing holds back leave (R526). -/
def msixFlush (fn : Nat) (s : State) : State :=
  forAll (List.range 64) (fun v s =>
    if (s.hst.pba.get (fn * 64 + v)).testBit 0 && s.msixOpen fn v then
      { s with hst := { s.hst with pba := s.hst.pba.set (fn * 64 + v) 0 } }.emit (.msix fn v)
    else s) s

/-- Bits of a word in its enabled bytes. -/
def byteMask (be : Nat) : Nat := (bitsOf 4 be).foldl (fun a i => a + 0xFF * 2 ^ (8 * i)) 0

/-- A configuration write: the enabled bytes of the writable bits. A 1 in Initiate Function Level Reset resets the function. -/
def cfgWrite (fn ofs be v : Nat) (s : State) : State :=
  let m := cfgMask ofs &&& byteMask be
  let old := s.cfgRead fn ofs
  let dflt := if ofs = cfgPcie + 8 then 0x2100 else 0
  let new := ((old &&& (cfgMask ofs ^^^ m)) ||| (v &&& m)) ^^^ dflt
  let s := { s with hst := { s.hst with cfg := s.hst.cfg.set (4096 * fn + ofs) new } }
  let w := s.cfgRead fn ofs
  if ofs = cfgMsix then
    let put := fun (x : Nat) (b : Bool) => if b then setBit x fn else clearBit x fn
    msixFlush fn { s with hst := { s.hst with msixEn := put s.hst.msixEn (w.testBit 31), fnMask := put s.hst.fnMask (w.testBit 30) } }
  else if ofs = cfgPcie + 8 && be.testBit 1 && v.testBit 15 then functionReset fn s
  else s

/-- Data-link completion of one word. -/
def complete (fn status : Nat) (ws : List Nat) (s : State) : State := s.emit (.completion fn status ws)

/-- PCIE_CONFIG_REQUEST to a function; a frozen function answers with UR (R533). -/
def cfgRequest (fn : Nat) (write : Bool) (dw be v : Nat) (s : State) : State :=
  if s.frozen fn then complete fn 1 [] s
  else if write then complete fn 0 [] (cfgWrite fn (4 * dw) be v s)
  else complete fn 0 [s.cfgRead fn (4 * dw)] s

/-- PCIE_CONFIG_REQUEST. -/
def execPcieConfigRequest (fn : Fin 2) (write : Bool) (dw : BitVec 10) (be : BitVec 4) (value : Word) (s : State) : Res :=
  .next (cfgRequest fn write dw.toNat be.toNat value.toNat s)

/-! ### The MSI-X table and PBA (R520, R526) -/

/-- A word of BAR2: the table from 0x0000, the PBA from 0x2000. -/
def State.msixRead (s : State) (fn ofs : Nat) : Nat :=
  let v := 64 * fn + ofs / 16
  if ofs < 0x400 then
    (if ofs % 16 = 12 then s.hst.vecMask.get v ^^^ 1 else s.hst.vecTab.get (4 * v + ofs % 16 / 4))
  else if ofs = 0x2000 || ofs = 0x2004 then
    (List.range 32).foldl (fun a i => a + s.hst.pba.get (64 * fn + 8 * (ofs - 0x2000) + i) * 2 ^ i) 0
  else 0

/-- A write to a word of BAR2; the PBA is read only. -/
def msixWrite (fn ofs w : Nat) (s : State) : State :=
  let v := 64 * fn + ofs / 16
  if 0x400 ≤ ofs then s
  else if ofs % 16 = 12 then msixFlush fn { s with hst := { s.hst with vecMask := s.hst.vecMask.set v ((w % 2) ^^^ 1) } }
  else
    let w := if ofs % 16 = 0 then w / 4 * 4 else w
    { s with hst := { s.hst with vecTab := s.hst.vecTab.set (4 * v + ofs % 16 / 4) w } }

/-- MSIX_TABLE_ACCESS: one word; a frozen function answers with UR and drops writes (R533). -/
def msixAccess (fn : Nat) (write : Bool) (ofs w : Nat) (s : State) : State :=
  if s.frozen fn then (if write then s else complete fn 1 [] s)
  else if write then msixWrite fn ofs w s
  else complete fn 0 [s.msixRead fn ofs] s

/-- MSIX_TABLE_ACCESS. -/
def execMsixTableAccess (fn : Fin 2) (write : Bool) (dw : BitVec 12) (value : Word) (s : State) : Res :=
  .next (msixAccess fn write (4 * dw.toNat) value.toNat s)

/-! ### Release of frozen masters (R534) -/

/-- The masters that master `m` may release. -/
def mayRelease (m o : Nat) : Bool :=
  if o = 1 then m = 0 || m = 2 else if o = 0 then m = 2 else m = 0

/-- One master is released: event FREEZE, its source may clear, and a function sends the messages held back (R525, R526). -/
def releaseOne (m : Master) (o : Nat) (s : State) : State :=
  if !mayRelease m.owner o then s.werr F.HST_WERR_RELREF m
  else if !s.frozen o then s
  else
    let s := unraise (400 + o) ((s.putBit F.HST_FRZ_FROZEN o false).event 16)
    if o = 2 then s
    else
      let on := bitsOf 32 (s.rd (F.HST_EVSTS_EV.inBank o) &&& s.rd (F.HST_EVEN_EN.inBank o))
      let vecs := (List.range 64).filter fun v => on.any fun e => s.rd ((F.HST_EVVEC_VEC e).inBank o) = v
      forAll vecs (fun v s => s.signalPf o v) s

/-- A write to `HST.RELEASE`. -/
def release (m : Master) (mask key : Nat) (s : State) : State :=
  if key != 0xA5C3 then s else forAll (bitsOf 3 mask) (releaseOne m) s

/-- `HST.RELEASE` is written. -/
def execHstRelease (m : Master) (mask : BitVec 3) (key : BitVec 16) (s : State) : Res :=
  .next (gate m .p 0x3D000C (release m mask.toNat key.toNat) s)

/-! ### PHY management (R546) -/

/-- A write to `HST.MDIO` with START; without effect while BUSY. -/
def mdioStart (w : Nat) (s : State) : State :=
  if s.flag F.HST_MDIO_BUSY then s
  else
    let s := s.wrs [(F.HST_MDIO_DATA, w), (F.HST_MDIO_REGAD, w / 2 ^ 16), (F.HST_MDIO_PHYAD, w / 2 ^ 21), (F.HST_MDIO_OP, w / 2 ^ 26),
      (F.HST_MDIO_BUSY, 1)]
    s.emit (.mdio (!s.flag F.HST_MDIO_OP) (s.rd F.HST_MDIO_PHYAD) (s.rd F.HST_MDIO_REGAD) (s.rd F.HST_MDIO_DATA))

/-- MDIO_START. -/
def execMdioStart (m : Master) (value : BitVec 27) (s : State) : Res := .next (gate m .p 0x3D0324 (mdioStart value.toNat) s)

/-- MDIO_DONE with the data that the PHY returned. -/
def mdioDone (data : Nat) (s : State) : State :=
  if !s.flag F.HST_MDIO_BUSY then s
  else
    let s := s.wr F.HST_MDIO_BUSY 0
    if s.flag F.HST_MDIO_OP then s else s.wr F.HST_MDIO_DATA data

/-- MDIO_DONE. -/
def execMdioDone (data : BitVec 16) (s : State) : Res := .next (mdioDone data.toNat s)

/-! ### The Ostler (R539, R542, R543, R602) -/

/-- OSTLER_LOAD_WINDOW: the load of the window in permille, and whether its work of priorities 2 to 6 exceeded 750. Duties moved
to this window fall due again (R542). -/
def loadWindow (load : Nat) (heavy : Bool) (s : State) : State :=
  let s := s.wrs [(F.HST_OSTLER_LOAD_LOAD, load), (F.HST_OSTLER_LOAD_PEAK, max load (s.rd F.HST_OSTLER_LOAD_PEAK)),
    (F.HST_OSTLER_LOAD_OVER, b2n heavy)]
  let run := if 900 < load then min 100 (s.hst.loadRun + 1) else 0
  let s := { s with hst := { s.hst with loadOver := heavy, loadRun := run } }
  let s := if run = 100 then raise 53 s else if run = 0 then unraise 53 s else s
  let s := if s.tly.ckMoved then ckptDue s else s
  if s.tly.xMoved then extractStart s else s

/-- OSTLER_LOAD_WINDOW. -/
def execOstlerLoadWindow (load : BitVec 10) (heavy : Bool) (s : State) : Res := .next (loadWindow load.toNat heavy s)

/-- OSTLER_RESTART_DONE: the firmware image A runs, or B, or both fail. -/
def restartDone (a b : Bool) (s : State) : State :=
  if s.flag F.HST_STS_OSTRDY then s
  else if !a && !b then raise 50 (s.wr F.HST_OSTLER_STS_STOPPED 1)
  else
    let s := s.wrs [(F.HST_STS_OSTRDY, 1), (F.HST_OSTLER_STS_STOPPED, 0), (F.HST_OSTLER_STS_IMG, b2n !a)]
    let s := if a then s else raise 49 s
    unraise 52 (unraise 48 s)

/-- OSTLER_RESTART_DONE. -/
def execOstlerRestartDone (a b : Bool) (s : State) : Res := .next (restartDone a b s)

/-- OSTLER_RESULT_READY: the result of the request in flight can be read (R538). -/
def resultReady (s : State) : State :=
  match s.hst.sbResult with
  | some r => if s.hst.sbReady then s else { s with hst := { s.hst with sbReady := true } }.emit (.sideband r)
  | none => s

/-- OSTLER_RESULT_READY. -/
def execOstlerResultReady (s : State) : Res := .next (resultReady s)

/-- SMBUS_TIMEOUT: the interface is reset and its request in progress discarded (R602). -/
def smbusTimeout (s : State) : State :=
  if s.hst.sbSmbus then { s with hst := { s.hst with sbResult := none, sbReady := false, sbSmbus := false } } else s

/-- SMBUS_TIMEOUT. -/
def execSmbusTimeout (s : State) : Res := .next (smbusTimeout s)

end Sys2Proof.Machine
end

