-- ==== Sys2Proof/Machine/Timing.lean ====
section
/-! DEFINITION. Insertion timing and fractional PWM (spec/07): the edge window, the staggered edges, the pulse of FP(n),
the block-mode commands, the commits of FP(n), its update points and compare triggers. -/

namespace Sys2Proof.Machine

/-! ### The edge window (R230 to R233) -/

/-- `x` rounded up to a multiple of 100. -/
def ceil100 (x : Nat) : Nat := (x + 99) / 100 * 100

/-- G_n = DEADT + MINPULSE, as sampled (R233). -/
def State.gap (s : State) (n : Nat) : Nat := s.smp (F.ARM_DEADT_NS n) + s.smp (F.ARM_MINPULSE_NS n)

/-- DLVT of arm `n` for the coming cycle `c` (R230, R231): the arm's own DLV, or in a declared twin the larger of both
units' from its apply cycle. -/
def dlvtStart (n c : Nat) (s : State) : State :=
  let own := s.rd (F.ARM_DLV_CRT n)
  if !s.twinned then s.wr (F.ARM_DLVT_CRT n) own
  else if !s.relayUp then
    if s.rd (F.ARM_DLVT_CRT n) < own then s.wr (F.ARM_DLVT_CRT n) own else s
  else
    let a := s.arm n
    let s := if a.dlvSent = own then s else
      let k := (s.cyc + s.plead) % 2 ^ 32
      (s.setArm n fun a => { a with dlvSent := own, dlvtAt := some (k, max own a.dlvPartner) }).relay 0x20
        (12 :: BitVec.ofNat 8 n :: (leBytes 4 s.cyc ++ leBytes 4 own))
    match (s.arm n).dlvtAt with
    | some (k, v) =>
      if decide (cycDiff k c ≤ 0) then (s.setArm n fun a => { a with dlvtAt := none }).wr (F.ARM_DLVT_CRT n) v else s
    | none => s

/-- E0, SW_eff and their flags for the coming cycle (R230 to R233). -/
def e0Start (n c : Nat) (s : State) : State :=
  let s := dlvtStart n c s
  let want := ceil100 (max (s.smp (F.ARM_EDGE_T0 n)) (s.rd (F.ARM_DLVT_CRT n)))
  let have_ := s.rd (F.ARM_E0_E0 n)
  let keep := s.st = stRUN && want < have_
  let e0 := if keep then have_ else want
  let s := (s.wr (F.ARM_E0_E0 n) e0).put (F.ARM_DLVT_LOWPEND n) keep
  let room : Int := (s.armcyc : Int) - e0 - s.gap n
  let sw := s.smp (F.ARM_EDGE_SW n)
  let eff := min sw room.toNat
  ((s.wr (F.ARM_E0_SWEFF n) (min 4095 eff)).put (F.ARM_INSSTS_TIGHT n) (decide (room ≤ 0))).put
    (F.ARM_INSSTS_SWCLIP n) (decide (eff < sw))

/-- SW_eff of arm `n` (R233). -/
def State.swEff (s : State) (n : Nat) : Nat :=
  min (s.smp (F.ARM_EDGE_SW n)) ((s.armcyc : Int) - s.rd (F.ARM_E0_E0 n) - s.gap n).toNat

/-! ### Staggered edges (R234 to R238) -/

/-- Two lists taken alternately, the first list first; the rest of the longer one follows. -/
def alternate {α : Type} : List α → List α → List α
  | [], ys => ys
  | x :: xs, [] => x :: xs
  | x :: xs, y :: ys => x :: y :: alternate xs ys

/-- The edge sequence of a change list: arm-local index and command (R234). -/
def edgeSequence (pair : Bool) (q : Sel) : List (Nat × Nat) :=
  let f := q.forced.map fun r => (r.1, if r.2 then 6 else 2)
  let i := q.ins.map fun l => (l, 1)
  let b := q.byp.map fun l => (l, 2)
  f ++ (if !pair then i ++ b else if b.length ≤ i.length then alternate i b else alternate b i)

/-- The edge sequence of a release (R238): forced records, then the cells of A in release order. -/
def releaseSequence (q : Sel) : List (Nat × Nat) :=
  q.forced.map (fun r => (r.1, if r.2 then 6 else 2)) ++
    ((List.range q.order.length).zip q.order).map fun p => (p.2, if p.1 < q.nr then 1 else 2)

/-- Action times over an edge sequence: t_i = E0 + floor(i × SW_eff / X) (R235). -/
def edgeTimes (e0 sw : Nat) (l : List (Nat × Nat)) : List (Nat × Slot) :=
  ((List.range l.length).zip l).map fun p => (p.2.1, { cmd := p.2.2, crt := e0 + p.1 * sw / l.length })

/-- The guard of R237: an INSERT for the cell of the launched pulse is moved past its trailing edge by G_n. `le` is that
edge relative to the marker of the frame being built. -/
def guardEdge (le : Int) (g armcyc : Nat) (t : Nat) : Nat :=
  if decide (le < t) && decide ((t : Int) < le + g) then
    let m := (le + g).toNat
    if armcyc ≤ m then armcyc - 1 else m
  else t

/-! ### The pulse (R240 to R245) -/

/-- round-half-even of `a / b`. -/
def roundEvenDiv (a b : Nat) : Nat :=
  let q := a / b
  let r := 2 * (a % b)
  if b < r || (r = b && q % 2 = 1) then q + 1 else q

/-- The width of a pulse after quantising and the short-pulse rule: width, whether it was short, whether stretched
(R241, R243). -/
def pulseWidth (p duty g goff : Nat) (stretch : Bool) : Nat × Bool × Bool :=
  let u := if p ≤ 16380 then 4 else 25
  let param := if duty = 0 then 0 else if duty = 0xFFFF then p / u else roundEvenDiv (duty * p) (65536 * u)
  let w := u * param
  let on := 0 < w && w < g
  let off := 0 < p - w && p - w < goff
  if !on && !off then (w, false, false)
  else
    let up := u * ((g + u - 1) / u)
    let down := u * ((p - goff) / u)
    if stretch && up ≤ down then (if on then up else down, true, true)
    else (if w ≤ p - w then 0 else p, true, false)

/-- The pulse of arm `n` for the frame in preparation (R240 to R245). -/
def State.pulseOf (s : State) (n : Nat) (q : Sel) : Option (Pulse × Bool × Bool) :=
  q.fp.map fun cell =>
    let p := if s.fpHost n then s.smp (F.INS_FP_PER_NS n) else s.armcyc
    let wf := s.rd (F.ARM_E0_E0 n)
    let g := s.gap n
    let al := s.smp (F.INS_FP_CFG_ALIGN n)
    let centre := al = 1 || al = 3
    let r := pulseWidth p q.f g (if centre then 2 * g else g) (s.smpFlag (F.ARM_MINPULSE_POLICY n))
    let u := if p ≤ 16380 then 4 else 25
    let lead := if al = 0 then wf else if centre then wf + (p - r.1) / 2 else wf + p - r.1
    ({ local_ := cell, lead := lead, param := r.1 / u, unit := u, w := r.1 }, r.2.1, r.2.2)

/-- The command slot of a pulse (R244): a pulse of width 0 is HOLD. -/
def Pulse.slot (p : Pulse) : Slot :=
  if p.w = 0 then {} else { cmd := if p.unit = 4 then 4 else 5, crt := p.lead, param := p.param }

/-! ### TIMING_COMPLETE (R235, R239) -/

/-- The slots that the timing stage writes for arm `n` in RUN, by arm-local index (R235 to R240). -/
def State.timedSlots (s : State) (n : Nat) (q : Sel) (pulse : Option Pulse) : List (Nat × Slot × Bool) :=
  let e0 := s.rd (F.ARM_E0_E0 n)
  let seq := if q.release then releaseSequence q else edgeSequence (s.smpFlag (F.ARM_EDGE_ORD n)) q
  let timed := edgeTimes e0 (s.swEff n) seq
  let le : Option (Nat × Int) := match (s.arm n).pulse with
    | some p => if p.w = 0 then none else some (p.local_, (p.lead : Int) + p.w - s.armcyc)
    | none => none
  let moved := timed.map fun x => match le with
    | some (c, l) =>
      if x.1 = c && x.2.cmd = 1 then
        let t := guardEdge l (s.gap n) s.armcyc x.2.crt
        (x.1, { x.2 with crt := t }, t != x.2.crt)
      else (x.1, x.2, false)
    | none => (x.1, x.2, false)
  match pulse with
  | some p => (p.local_, p.slot, false) :: moved.filter fun x => x.1 != p.local_
  | none => moved

/-- The slots of arm `n` for frame k + 1 take the timing stage's commands; every other slot is HOLD (R229, R239). -/
def writeSlots (n : Nat) (q : Sel) (s : State) : State :=
  let pr := s.pulseOf n q
  let pulse := pr.map (·.1)
  let l := s.timedSlots n q pulse
  let s := s.mapCells (·.arm == n) fun c =>
    let slot := match l.find? fun x => x.1 == c.local_ with
      | some x => x.2.1
      | none => {}
    let slot := if q.blockall && c.state != csFAILED && slot.cmd != 6 then { cmd := 3 } else slot
    { c with fill := slot }
  let moved := (l.filter fun x => x.2.2).length
  let s := if moved = 0 then s else (s.wr (F.ARM_INSSTS_GUARD n) 1).inc (F.ARM_INSCNT_GUARD n) moved
  let s := s.setArm n fun a => { a with pulseFill := pulse }
  match pr with
  | some (p, short, stretched) =>
    let s := if p.w = 0 then s.wr (F.ARM_FPLAST_NONE n) 1
      else s.wrs [(F.ARM_FPLAST_CRT n, p.lead), (F.ARM_FPLAST_UNIT n, b2n (p.unit = 25)), (F.ARM_FPLAST_NONE n, 0), (F.ARM_FPW_NS n, p.w)]
    if short then
      let s := (s.wr F.INS_STS_SHORT 1).wr (F.ARM_INSSTS_SHORT n) 1
      (s.wr (if stretched then F.ARM_INSSTS_STRETCHED n else F.ARM_INSSTS_SUPPR n) 1).inc (F.ARM_INSCNT_SHORT n)
    else s
  | none => s.wr (F.ARM_FPLAST_NONE n) 1

/-- DONE and SLACK of arm `n` (R107). -/
def recordDone (n crt : Nat) (s : State) : State :=
  let slack : Int := (s.rd (F.ARM_DL_CRT n) : Int) - crt
  let s := s.wrs [(F.ARM_DONE_CRT n, crt), (F.ARM_SLACK_NS n, unsigned 32 slack)]
  if decide (slack < signed 32 (s.rd (F.ARM_SLACKMIN_NS n))) then s.wr (F.ARM_SLACKMIN_NS n) (unsigned 32 slack) else s

/-- TIMING_COMPLETE of arm `n` at CRT `crt`, counted from the start of its cycle: the slots of frame k + 1, DONE and
SLACK (R107, R235). The stage of a late cycle ends without slots (R114). -/
def timing (n crt : Nat) (s : State) : State :=
  let a := s.arm n
  if a.lateOpen then recordDone n crt (s.setArm n fun a => { a with lateOpen := false })
  else match a.sel with
    | none => s
    | some q =>
      if a.done.isSome then s
      else
        let s := if s.st = stRUN then writeSlots n q s else s
        let s := if s.smpFlag (F.INS_FP_CFG_SRC n) && !s.fpHost n then s.wr F.INS_STS_HOSTIGN 1 else s
        recordDone n crt (s.setArm n fun a => { a with done := some crt })

/-- TIMING_COMPLETE. -/
def execTimingComplete (n : Fin 12) (crt : BitVec 20) (s : State) : Res := .next (timing n crt.toNat s)

/-! ### Commits of FP(n) (R246 to R254) -/

/-- The rwc fields of FP(n) that a COMMIT carries to the partner: ALIGN, PER, DUTY. -/
def fpShared (n : Nat) : List Fld := [F.INS_FP_CFG_ALIGN n, F.INS_FP_PER_NS n, F.INS_FP_DUTY_DUTY n]

/-- The compares of FP(n). -/
def fpCompares (n : Nat) : List Fld :=
  (List.range 4).flatMap fun j => [F.INS_FP_CMP_VAL n j, F.INS_FP_CMP_CMODE n j]

/-- COMMIT of FP(n) (R248, R249, R254). -/
def fpCommit (n : Nat) (s : State) : State :=
  if s.standbyWrite then s.wr (F.INS_FP_STS_STBY_WR n) 1
  else if s.flag (F.INS_FP_CFG_MODE n) && !s.twinned then s
  else if s.flag (F.INS_FP_STS_PENDING n) then s.wr (F.INS_FP_STS_CREFUSED n) 1
  else
    let s := (captureAll (fpShared n ++ fpCompares n) s).wr (F.INS_FP_STS_PENDING n) 1
    if s.twinned then
      let k := (s.cyc + s.plead) % 2 ^ 32
      (s.setArm n fun a => { a with fpAt := some k }).carry 11
        (BitVec.ofNat 8 n :: (leBytes 4 k ++ (fpShared n).flatMap fun f => leBytes 4 (s.rdCapt f)))
    else s.setArm n fun a => { a with fpAt := none }

/-- `INS.FP[n].CTL.COMMIT` is written. -/
def execFpCommit (m : Master) (n : Fin 12) (s : State) : Res := .next (gate m .p (0x140104 + 0x40 * n) (fpCommit n) s)

/-- The period active in FP(n): ARMCYC or the HOST period (R240). -/
def State.fpPeriod (s : State) (n : Nat) : Nat := if s.fpHost n then s.rd (F.INS_FP_PER_NS n) else s.armcyc

/-- One captured or shadow value of FP(n) becomes active; a bad period keeps the old one (R250). -/
def fpTransfer (n : Nat) (src : State → Fld → Nat) (f : Fld) (s : State) : State :=
  let v := src s f
  if f.key = (F.INS_FP_PER_NS n).key && (v % 100 != 0 || v < 1000 || s.armcyc < v) then s.wr (F.INS_FP_STS_BADPER n) 1
  else s.wr f v

/-- The update point of FP(n) (R246 to R250, R254). -/
def fpUpdate (n : Nat) (s : State) : State :=
  if !s.running then s
  else
    let auto := s.flag (F.INS_FP_CFG_MODE n)
    let a := s.arm n
    let due := s.flag (F.INS_FP_STS_PENDING n) &&
      (match a.fpAt with | some k => decide (cycDiff k s.cyc ≤ 0) | none => true)
    -- the shadows written since the latest point transfer in AUTO mode, one by one
    let wr := fun b => a.written.testBit b
    let shared := fpShared n
    let autoShared := if auto && !s.twinned then (List.range 3).filter wr else []
    let s1 := if due then forAll (shared ++ (if s.twinned then [] else fpCompares n)) (fpTransfer n State.rdCapt) s
      else forAll (autoShared.map fun b => shared.getD b (F.INS_FP_CFG_ALIGN n)) (fpTransfer n State.rdShadow) s
    -- the compares transfer as in AUTO mode in a twin
    let s1 := if auto || s.twinned then
        forAll ((List.range 4).filter fun j => wr (3 + j)) (fun j s =>
          (s.wr (F.INS_FP_CMP_VAL n j) (s.rdShadow (F.INS_FP_CMP_VAL n j))).wr (F.INS_FP_CMP_CMODE n j)
            (s.rdShadow (F.INS_FP_CMP_CMODE n j))) s1
      else s1
    let per := autoShared.contains 1
    let duty := autoShared.contains 2
    let skew := b2n per + 2 * b2n duty
    let alone := (skew = 1 && (a.skew = 2)) || (skew = 2 && (a.skew = 1))
    let s1 := if alone && auto then s1.wr (F.INS_FP_STS_PAIR_SKEW n) 1 else s1
    let s1 := if due then s1.wr (F.INS_FP_STS_PENDING n) 0 else s1
    s1.setArm n fun a =>
      { a with skew := skew, written := if auto then 0 else if s.twinned then a.written % 8 else a.written
               fpAt := if due then none else a.fpAt }

/-- FP_UPDATE_POINT. -/
def execFpUpdatePoint (n : Fin 12) (s : State) : Res := .next (fpUpdate n s)

/-- A compare of FP(n) fires at this moment (R250, R251): mode 1 with VAL below the period, modes 2 and 3 with a pulse. -/
def State.compareFires (s : State) (n j : Nat) : Bool :=
  let pulse := match (s.arm n).pulse with | some p => p.w != 0 | none => false
  match s.rd (F.INS_FP_CMP_CMODE n j) with
  | 0 => false
  | 1 => s.running && s.rd (F.INS_FP_CMP_VAL n j) < s.fpPeriod n
  | _ => s.running && pulse && s.rd (F.INS_FP_CMP_VAL n j) < s.fpPeriod n

/-- FP_COMPARE_FIRE: the trigger FPTRG(n, j) (R251), with the Ledger's FPTRG source (R348). -/
def compareFire (n j : Nat) (s : State) : State :=
  if s.compareFires n j then
    let s := s.emit (.trigger 0 n j)
    if s.rd F.TLY_LTRIG_FPSEL_N = n && s.rd F.TLY_LTRIG_FPSEL_J = j then ledgerFire 7 s else s
  else s

/-- FP_COMPARE_FIRE. -/
def execFpCompareFire (n : Fin 12) (j : Fin 4) (s : State) : Res := .next (compareFire n j s)

/-- `INS.CTL.CNTCLR` clears every `ARM[n].INSCNT`. -/
def insCntclr (s : State) : State :=
  forAll (List.range 12) (fun n s => s.wrs [(F.ARM_INSCNT_SHORT n, 0), (F.ARM_INSCNT_GUARD n, 0)]) s

/-- `INS.CTL.CNTCLR` is written. -/
def execInsCntclr (m : Master) (s : State) : Res := .next (gate m .u 0x140004 insCntclr s)

end Sys2Proof.Machine
end

