-- ==== Sys2Proof/Machine/Frames.lean ====
section
/-! DEFINITION. Frames (R285 to R309): the downlink frame that each lane launches at a cycle start, the uplink frame that
returns, and the uplink cut-off (R99, R112). -/

namespace Sys2Proof.Machine

/-! ### The downlink frame (R286 to R288) -/

/-- EPOCH of this unit's frames: 0 in WAIT and in TEST (R19, R287), that of a rehearsal drive (R513), else
`GLB.ROLE.EPOCH`. -/
def State.sendEpoch (s : State) : Nat :=
  if s.st = stTEST || s.role = roWAIT then 0 else s.twn.drive.getD (s.rd F.GLB_ROLE_EPOCH)

/-- DRV of this unit's frames (R287); a standby that drives in a rehearsal sets it (R513), and
one that is about to be ACTIVE (R507). -/
def State.sendDrv (s : State) : Bool :=
  (s.role = roSOLO || s.role = roACTIVE || s.twn.nextRole = some roACTIVE || s.twn.drive.isSome) && s.sendEpoch != 0

/-- The downlink header of lane `l` (R287). -/
def State.downHeader (s : State) (l : Nat) : List Byte :=
  let w := s.armcyc / 100 % 1024 + 1024 * b2n s.cl.drv + 2048 * s.rd (F.CL_CFG_END l)
  let h := beBytes 4 s.cyc ++ beBytes 2 (s.rd F.TWN_MID_ID) ++ beBytes 2 s.cl.epoch ++ beBytes 2 w ++ beBytes 1 (s.served l)
  h ++ beBytes 1 (crc8 h)

/-- A command slot on the wire with its SEQ (R288). -/
def slotBytes (x : Slot) (seq : Nat) : List Byte :=
  let b := beBytes 5 (x.cmd % 16 * 2 ^ 36 + seq % 16 * 2 ^ 32 + x.crt % 2 ^ 20 * 2 ^ 12 + x.param % 2 ^ 12)
  b ++ beBytes 1 (crc8 b)

/-- A cell's slot is launched: the SEQ counter, and the latest command other than HOLD (R288). -/
def launchSlot (c : CellSt) : CellSt :=
  let c := { c with sent := c.fill, fill := {}, echoSeq := c.lastSeq }
  if c.sent.cmd = 0 then c
  else
    let q := (c.seq + 1) % 16
    { c with seq := q, lastCmd := c.sent.cmd, lastSeq := q, lastCrt := c.sent.crt }

/-- Lane `l` launches a frame in this cycle: LOCKED or RXLOST, or READY with cells to serve (R274, R286, R320). -/
def State.launches (s : State) (l : Nat) : Bool :=
  s.flag (F.CL_CFG_USED l) && (s.lane l = lsLOCKED || s.lane l = lsRXLOST || (s.lane l = lsREADY && 0 < s.served l))

/-- Lane `l` launches the frame of this cycle (R286); its first frame makes a READY lane LOCKED (R274). -/
def launchLane (l : Nat) (s : State) : State :=
  let s := if s.lane l = lsREADY then setLane l lsLOCKED s else s
  let h := s.served l
  let p := parcelSend l s
  let s := p.2
  let slots := (List.range h).flatMap fun j => match s.cellAt l j with
    | some c => slotBytes c.sent c.seq
    | none => slotBytes {} 0
  let body := s.downHeader l ++ slots ++ p.1
  (s.wr (F.CL_FSTS_SERVED l) h).emit (.downlink l (body ++ beBytes 4 (crc32c body)))

/-- What a lane forgets at a cycle start: the end of the uplink of the cycle before, the run of broken uplinks (R270,
R321), and the age of its in-service measurement (R281). -/
def laneCycle (l : Nat) (s : State) : State :=
  let got := (s.ln l).te.isSome
  let s := if got then s else s.wr (F.CL_FSTS_ULOK l) 0
  s.setLn l fun x => { x with te := none, breaks := if got then x.breaks else 0, dmAge := min 65535 (x.dmAge + 1) }

/-- The launch of the frames of a cycle: the buffers that the freeze has locked go out on every lane (R94, R98, R286). -/
def launchFrames (s : State) : State :=
  let s := forAll (List.range 128) laneCycle s
  let ls := (List.range 128).filter s.launches
  let s := s.mapCells (fun _ => true) fun c =>
    if ls.contains (s.place c).1 then launchSlot c else { c with sent := ⟨0, 0, 0⟩, fill := ⟨0, 0, 0⟩, echoSeq := c.lastSeq }
  let k := s.cl.lock.getD (s.sendEpoch, s.sendDrv)
  let s := { s with cl := { s.cl with epoch := k.1, drv := k.2, lock := none, launched := true, cut := 0 } }
  let arms := s.be.arms.map fun a => { a with pulse := a.pulseFill, pulseFill := none }
  let s := { s with be := { s.be with arms := arms } }
  forAll ls launchLane { s with glb := { s.glb with blkArms := 0 } }

/-! ### The uplink frame (R290 to R294) -/

/-- The source of a unit without a declared twin whose cells obey another master (R34). -/
def obeyJudge (s : State) : State :=
  if s.flag F.GLB_ROLE_OBEY_OTHER && !s.flag F.GLB_ROLE_TWIN then raise 371 s else unraise 371 s

/-- A cell obeys another master (R303). -/
def obeysOther (s : State) : State :=
  obeyJudge ({ s with twn := { s.twn with obSeen := true } }.wr F.GLB_ROLE_OBEY_OTHER 1)

/-- The slot of a cell is accepted (R294): the engine takes its values, `ARM[n].CHAIN` follows (R107). -/
def slotTaken (l : Nat) (c : CellSt) (w entry : Nat) (s : State) : State :=
  let n := c.arm
  let s := s.setCell c.gidx fun c =>
    { c with vcap := field w 48 16, temp := field w 40 8, stat := field w 32 8, raw := w, present := true }
  let s := s.setArm n fun a => { a with chain := max a.chain entry }
  let s := if field w 28 4 = c.echoSeq then s else s.inc (F.CL_ERR5_ECHOERR l)
  if field w 26 2 = 2 then obeysOther s else s

/-- The slot position `h` of an uplink frame that starts at CRT `start` (R99, R293, R294). -/
def slotJudge (l start : Nat) (bytes : List Byte) (h : Nat) (s : State) : State :=
  let b := slice bytes (12 + 8 * h) 8
  let entry := start + (13 + 8 * (h + 1)) * symbolNs (s.rd (F.CL_CFG_GEN l)) + 30
  match s.cellAt l h with
  | none => s.inc (F.CL_ERR2_XTRA l)
  | some c =>
    if b.length < 8 || (s.arm c.arm).cut || s.rd (F.ARM_ULCUT_CRT c.arm) ≤ entry then s
    else if crc8 (b.take 7) != beAt b 7 1 then
      (s.setCell c.gidx fun c => { c with crcBad := true }).inc (F.CL_ERR1_SLOTCRC l)
    else if beAt b 0 2 = 0xFFFF then s.inc (F.CL_ERR4_VINV l)
    else slotTaken l c (beNat b) entry s

/-- The header of an uplink frame belongs to the downlink frame of this cycle (R294). -/
def State.headerOk (s : State) (bytes : List Byte) : Bool :=
  decide (12 ≤ bytes.length) && crc8 (bytes.take 11) = beAt bytes 11 1 && beAt bytes 0 4 = s.cyc && beAt bytes 6 2 = s.cl.epoch

/-- Invalid code groups received with the frame (R262, R284). -/
def codeGroups (l cv disp : Nat) (s : State) : State :=
  let s := (s.inc (F.CL_ERR0_CV l) cv).inc (F.CL_ERR0_DISP l) disp
  if 8 ≤ cv + disp then s.wr (F.CL_CAUSE_CODE l) 1 else s

/-- An uplink frame on lane `l`: the bytes between K23.7 and K29.7, the CRT at which its start symbol reached the pins, and
the invalid code groups in it (R290 to R294). -/
def uplink (l start : Nat) (bytes : List Byte) (cv disp : Nat) (s : State) : State :=
  if s.lane l != lsLOCKED || !s.cl.launched || (s.ln l).te.isSome then s
  else
    let s := codeGroups l cv disp s
    if !s.headerOk bytes then s.inc (F.CL_ERR4_HDRERR l)
    else
      let last := beAt bytes 8 1 % 64
      let brk := (beAt bytes 9 1).testBit 0
      let s := s.wrs [(F.CL_FSTS_LAST l, last), (F.CL_FSTS_BREAK l, b2n brk), (F.CL_FSTS_ULOK l, 1)]
      let s := forAll (List.range (last + 1)) (slotJudge l start bytes) s
      let n := 12 + 8 * (last + 1)
      let s := if n + 12 ≤ bytes.length && crc32c (bytes.take (n + 8)) = beAt bytes (n + 8) 4 then
          parcelReply l (slice bytes n 8) s
        else s.inc (F.CL_ERR1_FRMCRC l)
      let short := brk && last + 1 < s.rd (F.CL_CFG_HOPS l)
      ringBreak l (s.setLn l fun x =>
        { x with te := some (start + (25 + 8 * (last + 1)) * symbolNs (s.rd (F.CL_CFG_GEN l)))
                 breaks := if short then min 2 (x.breaks + 1) else 0 })

/-- UPLINK_FRAME_RECEIVED. -/
def execUplinkFrameReceived (l : Fin 128) (start : BitVec 20) (bytes : List Byte) (cv disp : Byte) (s : State) : Res :=
  .next (uplink l start.toNat bytes cv.toNat disp.toNat s)

/-! ### The cut-off (R99, R107, R112) -/

/-- What the end of the uplink of arm `n` records: `ARM[n].CHAIN` and CHAINLONG (R107, R112). -/
def chainRecord (n : Nat) (missing : Bool) (s : State) : State :=
  let chain := if missing then 0xFFFFF else (s.arm n).chain
  let s := s.wr (F.ARM_CHAIN_CRT n) chain
  s.put (F.ARM_STS_CHAINLONG n) (s.rd (F.ARM_WCB_ALLOW n) < chain + 20)

/-- UPLINK_CUTOFF of arm `n`: every slot that has not passed is missing (R99). -/
def uplinkCutoff (n : Nat) (s : State) : State :=
  if !s.running || !s.arms.contains n || (s.arm n).cut then s
  else
    let missing := s.be.cells.any fun c => c.arm == n && !c.present
    let s := s.mapCells (fun c => c.arm == n && !c.present) fun c => { c with miss := min 255 (c.miss + 1) }
    let s := s.setArm n fun a => { a with cut := true, missing := missing }
    let s := chainRecord n missing s
    if missing then (s.wr (F.ARM_STS_STALE n) 1).inc (F.ARM_LATECNT_STALE n) else s

/-- UPLINK_CUTOFF. -/
def execUplinkCutoff (n : Fin 12) (s : State) : Res := .next (uplinkCutoff n s)

end Sys2Proof.Machine
end

