-- ==== Sys2Proof/Machine/Blocks.lean ====
section
/-! DEFINITION. The block library of the control graph (spec/04, R129 to R141): for each type its shape, its cost, its
initial state and one execution. -/

namespace Sys2Proof.Machine

/-! ### Shapes and costs (R134 to R137, R141) -/

/-- The shape of a block type: input counts allowed (least, most), outputs, parameter words (none: one for each input),
whether it takes constants. -/
structure Shape where
  lo : Nat
  hi : Nat
  nout : Nat
  npar : Option Nat
  cons : Bool
deriving DecidableEq, Repr

/-- The shape of each type, none for a code that no row defines. -/
def shape (ty : Nat) : Option Shape :=
  match ty with
  | 0x01 | 0x02 | 0x03 | 0x04 | 0x0E | 0x0F | 0x18 => some ⟨2, 2, 1, some 0, false⟩
  | 0x05 => some ⟨1, 8, 1, none, false⟩
  | 0x06 | 0x11 | 0x2B => some ⟨1, 1, 1, some 1, false⟩
  | 0x07 | 0x13 => some ⟨3, 3, 1, some 0, false⟩
  | 0x08 | 0x09 | 0x0A | 0x0B | 0x19 | 0x20 => some ⟨1, 1, 1, some 0, false⟩
  | 0x0C => some ⟨1, 8, 2, some 0, false⟩
  | 0x0D | 0x2D => some ⟨1, 1, 2, some 0, false⟩
  | 0x10 => some ⟨1, 3, 2, some 3, false⟩
  | 0x12 | 0x2C | 0x2E => some ⟨2, 2, 1, some 1, false⟩
  | 0x14 | 0x21 | 0x26 | 0x28 | 0x29 => some ⟨1, 1, 1, some 0, true⟩
  | 0x15 => some ⟨2, 2, 1, some 0, true⟩
  | 0x16 | 0x17 => some ⟨1, 8, 1, some 0, false⟩
  | 0x22 => some ⟨3, 3, 1, some 4, false⟩
  | 0x23 => some ⟨3, 3, 2, some 5, false⟩
  | 0x24 => some ⟨2, 2, 1, some 2, false⟩
  | 0x25 => some ⟨2, 2, 1, some 5, false⟩
  | 0x27 => some ⟨2, 2, 1, some 3, false⟩
  | 0x2A => some ⟨1, 1, 1, some 3, false⟩
  | 0x30 => some ⟨3, 3, 2, some 0, false⟩
  | 0x31 => some ⟨2, 2, 3, some 0, false⟩
  | 0x32 | 0x33 => some ⟨3, 3, 2, some 0, false⟩
  | 0x34 => some ⟨4, 4, 2, some 1, false⟩
  | 0x35 => some ⟨3, 3, 4, some 6, false⟩
  | _ => none

/-- DELAY and DELAYN: their outputs carry values of earlier runs (R120). -/
def isDelay (ty : Nat) : Bool := ty = 0x20 || ty = 0x21

/-- ⌈log2 n⌉. -/
def clog2 (n : Nat) : Nat := if n ≤ 1 then 0 else (n - 1).log2 + 1

/-- The cost of an instance in cu; `k0`, `k1` are the first two constants (R134 to R137). -/
def blockCost (ty nin k0 k1 : Nat) : Nat :=
  match ty with
  | 0x01 | 0x02 | 0x03 => 4
  | 0x04 | 0x0D => 14
  | 0x05 => 2 + 4 * nin
  | 0x06 | 0x12 | 0x2C | 0x2D => 3
  | 0x07 | 0x24 => 6
  | 0x08 | 0x09 | 0x13 | 0x18 | 0x19 | 0x20 => 2
  | 0x0A | 0x0B | 0x34 => 12
  | 0x0C => 2 + 2 * nin
  | 0x0E => 18
  | 0x0F | 0x23 | 0x25 => 16
  | 0x10 => 5
  | 0x11 | 0x21 | 0x2A | 0x2B | 0x2E => 4
  | 0x14 => 10 + 2 * clog2 k0
  | 0x15 => 24 + 2 * clog2 k0 + 2 * clog2 k1
  | 0x16 | 0x17 => 1 + nin
  | 0x22 | 0x27 | 0x31 => 8
  | 0x26 => 4 + 3 * k0
  | 0x28 => 6 + 2 * k0
  | 0x29 => 10 + 3 * k0
  | 0x30 => 10
  | 0x32 | 0x33 => 22
  | 0x35 => 48
  | _ => 0

/-! ### Arithmetic beside R129 -/

/-- 0.5. -/
abbrev f05 : Nat := 0x3F000000
/-- k23. -/
abbrev k23 : Nat := 0x3F2AAAAB
/-- ks3. -/
abbrev ks3 : Nat := 0x3F13CD3A
/-- ks32. -/
abbrev ks32 : Nat := 0x3F5DB3D7
/-- kpi. -/
abbrev kpi : Nat := 0x40490FDB

/-- A finite binary32 as a multiple of 2^−149. -/
def f32exact (x : Nat) : Int :=
  let (m, e) := fScaled fmt32 (flush32 x)
  m * 2 ^ (e + 149).toNat

/-- round32((a − b) / (c − d)), one rounding of the exact quotient; the stepwise value where an operand is not finite or
the divisor is not positive (R135). -/
def slope32 (a b c d : Nat) : Nat :=
  let den := f32exact c - f32exact d
  if [a, b, c, d].all f32isFin && 0 < den then f32ofRat (f32exact a - f32exact b) den.toNat
  else f32div (f32sub a b) (f32sub c d)

/-- CLARKE (R137). -/
def clarke (a b c : Nat) : Nat × Nat :=
  (f32mul k23 (f32sub (f32sub a (f32mul f05 b)) (f32mul f05 c)), f32mul ks3 (f32sub b c))

/-- PARK (R137). -/
def park (a b theta : Nat) : Nat × Nat :=
  let sc := f32sincos theta
  (f32add (f32mul a sc.2) (f32mul b sc.1), f32sub (f32mul b sc.2) (f32mul a sc.1))

/-- MAG2 (R134). -/
def mag2 (a b : Nat) : Nat := f32sqrt (f32add (f32mul a a) (f32mul b b))

/-- The update of a PI whose data inputs are valid (R138): y and the new i. -/
def piStep (i e ff kp kit lo hi : Nat) : Nat × Nat :=
  let p := f32mul kp e
  let inew := f32add i (f32mul kit e)
  let u := f32add (f32add p inew) ff
  if f32lt hi u then (hi, if f32lt e 0 then inew else i)
  else if f32lt u lo then (lo, if f32lt 0 e then inew else i)
  else (u, inew)

/-- The interval of a table axis: the index and, above its breakpoint, the distance; clamped at both ends (R135). -/
def axis (x : Nat) (bp : List Nat) : Nat × Nat :=
  let n := bp.length
  let i := (bp.filter fun b => f32le b x).length
  if i = 0 then (0, 0)
  else if n ≤ i then (n - 1, 0)
  else (i - 1, f32sub x (bp.getD (i - 1) 0))

/-- LUT1D (R135). -/
def lut1 (x : Nat) (con : Nat → Nat) : Nat :=
  let n := con 0
  let bp := (List.range n).map fun j => con (1 + j)
  let v := fun j => con (1 + n + j)
  let a := axis x bp
  if f32lt x (bp.headD 0) || a.1 = n - 1 then v a.1
  else
    f32add (v a.1) (f32mul a.2 (slope32 (v (a.1 + 1)) (v a.1) (bp.getD (a.1 + 1) 0) (bp.getD a.1 0)))

/-- LUT2D (R135). -/
def lut2 (x y : Nat) (con : Nat → Nat) : Nat :=
  let nx := con 0
  let ny := con 1
  let bx := (List.range nx).map fun j => con (2 + j)
  let by_ := (List.range ny).map fun j => con (2 + nx + j)
  let v := fun i j => con (2 + nx + ny + i * ny + j)
  let ax := axis x bx
  let ay := axis y by_
  let rec_ := fun (bp : List Nat) i => slope32 f32one 0 (bp.getD (i + 1) 0) (bp.getD i 0)
  let fx := if ax.1 = nx - 1 then 0 else f32mul ax.2 (rec_ bx ax.1)
  let fy := if ay.1 = ny - 1 then 0 else f32mul ay.2 (rec_ by_ ay.1)
  let i1 := min (ax.1 + 1) (nx - 1)
  let j1 := min (ay.1 + 1) (ny - 1)
  let za := f32add (v ax.1 ay.1) (f32mul fx (f32sub (v i1 ay.1) (v ax.1 ay.1)))
  let zb := f32add (v ax.1 j1) (f32mul fx (f32sub (v i1 j1) (v ax.1 j1)))
  f32add za (f32mul fy (f32sub zb za))

/-- The least and greatest of a list, NaN skipped, the first among equals (R134). -/
def minmax (l : List Nat) : Nat × Nat :=
  match l.filter fun x => !f32isNaN x with
  | [] => (f32nan, f32nan)
  | x :: xs => (flush32 (xs.foldl (fun a b => if f32lt b a then b else a) x),
      flush32 (xs.foldl (fun a b => if f32lt a b then b else a) x))

/-! ### Execution -/

/-- Stateless blocks that a NaN data input makes NaN on every output (R130). -/
def nanSpreads (ty : Nat) : Bool :=
  (1 ≤ ty && ty ≤ 0x0B) || (0x0D ≤ ty && ty ≤ 0x0F) || ty = 0x11 || ty = 0x14 || ty = 0x15 || (0x30 ≤ ty && ty ≤ 0x34)

/-- A stateless block: its outputs from its inputs (R134, R135, R137). `x` gives an input, `par` and `con` the words of the
instance. -/
def stateless (ty nin flags : Nat) (x par con : Nat → Nat) : List Nat :=
  let a := x 0
  let b := x 1
  let c := x 2
  let all := (List.range nin).map x
  match ty with
  | 0x01 => [f32add a b]
  | 0x02 => [f32sub a b]
  | 0x03 => [f32mul a b]
  | 0x04 => [f32div a b]
  | 0x05 => [(List.range (nin - 1)).foldl (fun y i => f32add y (f32mul (par (i + 1)) (x (i + 1)))) (f32mul (par 0) a)]
  | 0x06 => [f32mul (par 0) a]
  | 0x07 => [f32add (f32mul a b) c]
  | 0x08 => [f32abs a]
  | 0x09 => [f32neg a]
  | 0x0A => [f32sqrt a]
  | 0x0B => [f32div f32one a]
  | 0x0C => [(minmax all).1, (minmax all).2]
  | 0x0D => [(f32sincos a).1, (f32sincos a).2]
  | 0x0E => [f32atan2 a b]
  | 0x0F => [mag2 a b]
  | 0x10 =>
    if f32isNaN a then [par 2, f32one]
    else
      let lo := if flags.testBit 0 then b else par 0
      let hi := if flags.testBit 0 then c else par 1
      let y := if f32isNaN hi then a else f32min a hi
      let y := if f32isNaN lo then y else f32max lo y
      [flush32 y, f32bool (!f32eq y a)]
  | 0x11 => [if f32lt (par 0) a then f32sub a (par 0) else if f32lt a (f32neg (par 0)) then f32add a (par 0) else 0]
  | 0x12 =>
    let num := !f32isNaN a && !f32isNaN b
    [f32bool (match par 0 with
      | 0 => f32lt b a | 1 => f32le b a | 2 => f32lt a b | 3 => f32le a b | 4 => f32eq a b
      | 5 => num && !f32eq a b | _ => false)]
  | 0x13 => [if f32true c then a else b]
  | 0x14 => [lut1 a con]
  | 0x15 => [lut2 a b con]
  | 0x16 => [f32bool (all.all f32true)]
  | 0x17 => [f32bool (all.any f32true)]
  | 0x18 => [f32bool (f32true a != f32true b)]
  | 0x19 => [f32bool (!f32true a)]
  | 0x30 => [(clarke a b c).1, (clarke a b c).2]
  | 0x31 =>
    let h := f32mul (f32neg f05) a
    let k := f32mul ks32 b
    [a, f32add h k, f32sub h k]
  | 0x32 => [(park a b c).1, (park a b c).2]
  | 0x33 =>
    let sc := f32sincos c
    [f32sub (f32mul a sc.2) (f32mul b sc.1), f32add (f32mul a sc.1) (f32mul b sc.2)]
  | 0x34 =>
    let d := x 3
    [f32mul (par 0) (f32add (f32mul a c) (f32mul b d)), f32mul (par 0) (f32sub (f32mul b c) (f32mul a d))]
  | _ => []

/-- The state of an instance at initialisation (R126): `init` gives the initial values of its outputs, `x0` that of the
signal that feeds its first input. -/
def blockInit (ty : Nat) (init : List Nat) (x0 : Nat) (par con : Nat → Nat) : List Nat :=
  match ty with
  | 0x20 => [init.getD 0 0]
  | 0x21 => List.replicate (con 0) (init.getD 0 0)
  | 0x22 => [par 3]
  | 0x23 => [par 4]
  | 0x24 => [par 1]
  | 0x25 => [0, 0]
  | 0x26 | 0x28 | 0x29 => List.replicate (con 0) 0
  | 0x27 | 0x2A => [par 2]
  | 0x2B | 0x2E => [0]
  | 0x2C => [par 0]
  | 0x2D => [b2n (f32true x0)]
  | 0x35 => [par 5, par 2, 0]
  | _ => []

/-- What one execution of a stateful block gives: outputs, new state, whether it was held (R132). -/
abbrev Dyn := List Nat × List Nat × Bool

/-- The outcome of an update: held when a data input is NaN, `bad`, or the new state is not finite (R132). -/
def settle (prev st : List Nat) (bad : Bool) (out new : List Nat) : Dyn :=
  if bad || !new.all f32isFin then (prev, st, true) else (out, new, false)

/-- PLL (R140): `st` holds θ, ω and i. -/
def pllStep (prev st : List Nat) (a b en ts tsp : Nat) (par : Nat → Nat) : Dyn :=
  let th := st.getD 0 0
  let om := st.getD 1 0
  let i := st.getD 2 0
  let on := f32true en
  let bad := f32isNaN a || f32isNaN b
  let pq := park a b th
  let y := piStep i pq.2 0 (par 0) (f32mul (par 1) tsp) (f32sub (par 3) (par 2)) (f32sub (par 4) (par 2))
  let om' := f32add (par 2) y.1
  let ok := on && !bad && !f32isNaN pq.2 && f32isFin y.2 && f32isFin om'
  let om'' := if ok then om' else om
  let t := f32add th (f32mul om'' ts)
  let t := if f32le 0x40C90FDB t then f32sub t 0x40C90FDB else t
  let t := if f32lt t 0 then f32add t 0x40C90FDB else t
  let fin := f32isFin t
  let th' := if fin then t else th
  let v := if ok then [pq.1, pq.2] else [prev.getD 2 0, prev.getD 3 0]
  (th' :: om'' :: v, [th', om'', if ok then y.2 else i], (on && !ok) || !fin)

/-- A stateful block (R136 to R138, R140): `prev` its previous outputs, `st` its state, `ts` TS, `tsp` the TS of the
rounded products. For DELAY and DELAYN the outputs are those that have stood since the start of the run. -/
def stateful (ty : Nat) (x par con : Nat → Nat) (ts tsp : Nat) (prev st : List Nat) : Dyn :=
  let a := x 0
  let nan := f32isNaN a
  let s0 := st.getD 0 0
  let clamp := fun lo v hi => f32max lo (f32min v hi)
  match ty with
  | 0x20 => if f32isFin a then ([s0], [a], false) else ([s0], st, true)
  | 0x21 => if f32isFin a then ([s0], st.tail ++ [a], false) else ([s0], st, true)
  | 0x22 =>
    if f32true (x 1) then let y := clamp (par 1) (par 3) (par 2); settle prev st false [y] [y]
    else if nan then (prev, st, true)
    else if f32true (x 2) then ([s0], st, false)
    else
      let y := clamp (par 1) (f32add s0 (f32mul (f32mul (par 0) tsp) a)) (par 2)
      settle prev st false [y] [y]
  | 0x23 =>
    if f32true (x 2) then
      settle prev st false [clamp (par 2) (f32add (par 4) (x 1)) (par 3), par 4] [par 4]
    else
      let y := piStep s0 a (x 1) (par 0) (f32mul (par 1) tsp) (par 2) (par 3)
      settle prev st (nan || f32isNaN (x 1)) [y.1, y.2] [y.2]
  | 0x24 =>
    if f32true (x 1) then settle prev st false [par 1] [par 1]
    else let y := f32add s0 (f32mul (par 0) (f32sub a s0)); settle prev st nan [y] [y]
  | 0x25 =>
    if f32true (x 1) then ([0], [0, 0], false)
    else
      let y := f32add (f32mul (par 0) a) s0
      settle prev st nan [y] [f32add (f32sub (f32mul (par 1) a) (f32mul (par 3) y)) (st.getD 1 0),
        f32sub (f32mul (par 2) a) (f32mul (par 4) y)]
  | 0x26 =>
    let h := st.tail ++ [a]
    let n := con 0
    let at_ := fun i => h.getD (n - 1 - i) 0
    settle prev st nan
      [(List.range (n - 1)).foldl (fun y i => f32add y (f32mul (con (i + 2)) (at_ (i + 1)))) (f32mul (con 1) a)] h
  | 0x27 =>
    if f32true (x 1) then settle prev st false [par 2] [par 2]
    else
      let up := f32mul (par 0) tsp
      let dn := f32mul (par 1) tsp
      let y := f32add s0 (clamp (f32neg dn) (f32sub a s0) up)
      settle prev st nan [y] [y]
  | 0x28 =>
    let h := st.tail ++ [a]
    settle prev st nan [f32mul (h.tail.foldl f32add (h.headD 0)) (f32ofRat 1 (con 0))] h
  | 0x29 =>
    let h := st.tail ++ [a]
    let sq := h.map fun v => f32mul v v
    settle prev st nan [f32sqrt (f32mul (sq.tail.foldl f32add (sq.headD 0)) (f32ofRat 1 (con 0)))] h
  | 0x2A =>
    let y := if f32le (par 0) a then f32one else if f32le a (par 1) then 0 else s0
    settle prev st nan [y] [y]
  | 0x2B =>
    let n := if f32true a then min 0xFFFFFFFF (s0 + 1) else 0
    ([f32bool (f32true a && par 0 ≤ n)], [n], false)
  | 0x2C =>
    let q := if f32true (x 1) then 0 else if f32true a then f32one else s0
    ([q], [q], false)
  | 0x2D =>
    let t := f32true a
    ([f32bool (t && s0 = 0), f32bool (!t && s0 != 0)], [b2n t], false)
  | 0x2E =>
    let n := if f32true (x 1) then 0 else if f32true a then min (s0 + 1) (par 0) else s0
    ([f32ofInt n], [n], false)
  | 0x35 => pllStep prev st a (x 1) (x 2) ts tsp par
  | _ => ([], st, false)

/-- One execution of an instance (R120, R130, R132). -/
def runBlock (i : Inst) (x par con : Nat → Nat) (ts tsp : Nat) (prev st : List Nat) : Dyn :=
  if (0x20 ≤ i.ty && i.ty < 0x30) || i.ty = 0x35 then stateful i.ty x par con ts tsp prev st
  else if nanSpreads i.ty && ((List.range i.nin).any fun j => f32isNaN (x j)) then (List.replicate i.nout f32nan, st, false)
  else (stateless i.ty i.nin i.flags x par con, st, false)

end Sys2Proof.Machine
end

