-- ==== Sys2Proof/Machine/Graph.lean ====
section
/-! DEFINITION. The control graph (spec/04): its section, initialisation, input image, runs, outputs, parameters, trace and
core faults; and the synchronism monitor (R176, R177), which reads the graph's input image. -/

namespace Sys2Proof.Machine

/-! ### The GRPH section (R151 to R153) -/

/-- `n` little-endian words of `w` bytes from offset `o`. -/
def words (w n o : Nat) (bs : List Byte) : List Nat := (List.range n).map fun j => leAt bs (o + w * j) w

/-- The instance record at offset `o` (R152). -/
def instAt (bs : List Byte) (o : Nat) : Inst :=
  { ty := leAt bs o 2, core := leAt bs (o + 2) 1, nin := leAt bs (o + 3) 1, nout := leAt bs (o + 4) 1
    flags := leAt bs (o + 5) 1, out := leAt bs (o + 6) 2, par := leAt bs (o + 8) 2, con := leAt bs (o + 12) 4
    ins := words 2 8 (o + 16) bs }

/-- PLEN of the instance record at offset `o`. -/
def instPlen (bs : List Byte) (o : Nat) : Nat := leAt bs (o + 10) 2

/-- The map entry at offset `o` (R153). -/
def mapAt (bs : List Byte) (o : Nat) : Nat × Nat × Nat := (leAt bs o 2, leAt bs (o + 2) 1, leAt bs (o + 4) 4)

/-- Offsets of the parts of a section: schedules, initial values, input map, output map, parameters, constants, end. -/
def grphParts (bs : List Byte) : Nat × Nat × Nat × Nat × Nat × Nat × Nat :=
  let nsch := (words 2 8 16 bs).foldl (· + ·) 0
  let a := 64 + 32 * leAt bs 0 2
  let b := a + 4 * ((nsch + 1) / 2)
  let c := b + 4 * leAt bs 2 2
  let d := c + 8 * leAt bs 12 2
  let e := d + 8 * leAt bs 14 2
  let f := e + 4 * leAt bs 4 4
  (a, b, c, d, e, f, f + 4 * leAt bs 8 4)

/-- The parameter area of a section. -/
def grphParams (bs : List Byte) : List Nat := words 4 (leAt bs 4 4) (grphParts bs).2.2.2.2.1 bs

/-- Words `l` cut into pieces of the lengths `ns`. -/
def cutBy {α : Type} : List Nat → List α → List (List α)
  | [], _ => []
  | n :: ns, l => l.take n :: cutBy ns (l.drop n)

/-- The producer of signal `s` among the instances: its index. -/
def producer (insts : List Inst) (s : Nat) : Option Nat := insts.findIdx? fun i => i.out ≤ s && s < i.out + i.nout

/-- The heads of the schedules that may execute: every input signal that another instance produces, not DELAY or DELAYN,
is done (R120). -/
def readyHead (insts : List Inst) (done : List Nat) (i : Nat) : Bool :=
  match insts[i]? with
  | none => true
  | some x => (x.ins.take x.nin).all fun s =>
    s = 0xFFFF || (match producer insts s with
      | none => true
      | some p => isDelay (insts.getD p {}).ty || done.contains p)

/-- An order that respects every edge, by executing ready heads of the schedules; the instances not reached when the edges
have a cycle are left out. -/
def orderOf (insts : List Inst) : Nat → List (List Nat) → List Nat → List Nat
  | 0, _, done => done.reverse
  | n + 1, sched, done =>
    match sched.findIdx? fun l => match l with | [] => false | i :: _ => readyHead insts done i with
    | none => done.reverse
    | some c =>
      match sched.getD c [] with
      | [] => done.reverse
      | i :: rest => orderOf insts n (setAt c rest sched) (i :: done)

/-- A GRPH section as the cores hold it (R151). -/
def parseGrph (bs : List Byte) : Grph :=
  let p := grphParts bs
  let insts := (List.range (leAt bs 0 2)).map fun j => instAt bs (64 + 32 * j)
  let nsch := words 2 8 16 bs
  let sched := cutBy nsch (words 2 (nsch.foldl (· + ·) 0) p.1 bs)
  { insts := insts, order := orderOf insts insts.length sched [], sched := sched
    init := words 4 (leAt bs 2 2) p.2.1 bs
    inmap := (List.range (leAt bs 12 2)).map fun j => mapAt bs (p.2.2.1 + 8 * j)
    outmap := (List.range (leAt bs 14 2)).map fun j => mapAt bs (p.2.2.2.1 + 8 * j)
    npar := leAt bs 4 4, cons := words 4 (leAt bs 8 4) p.2.2.2.2.2.1 bs }

/-! ### Cost and budget (R141 to R143) -/

/-- The cost of an instance. -/
def Grph.cost (g : Grph) (i : Inst) : Nat := blockCost i.ty i.nin (g.cons.getD i.con 0) (g.cons.getD (i.con + 1) 0)

/-- The walk of R142: the finish of each instance, by index, in the order of execution. -/
def Grph.finishes (g : Grph) : List (Nat × Nat) :=
  (g.order.foldl (fun (a : List (Nat × Nat) × List Nat) j =>
    let i := g.insts.getD j {}
    let own := a.2.getD i.core 40
    let st := (i.ins.take i.nin).foldl (fun m s =>
      if s = 0xFFFF then m
      else match producer g.insts s with
        | some p =>
          let q := g.insts.getD p {}
          if isDelay q.ty || q.core = i.core then m else max m (((a.1.find? (·.1 == p)).map (·.2)).getD 0 + 12)
        | none => m) own
    let fin := st + g.cost i
    ((j, fin) :: a.1, modifyPad 40 (fun _ => fin) i.core a.2)) ([], List.replicate 8 40)).1

/-- CP (R142). -/
def Grph.cp (g : Grph) : Nat := g.finishes.foldl (fun m f => max m f.2) 0 + 20

/-- Ten times the worst cost unit in ns at a performance level (R141). -/
def unit10 (pl : Nat) : Nat := ([22, 16, 12, 10] : List Nat).getD pl 10

/-- The left side of R143 at a performance level, rounded up to 1 ns, without the guard. -/
def Grph.time (g : Grph) (pl : Nat) : Nat :=
  250 + g.inmap.length + (g.cp * unit10 pl + 9) / 10 + 100 + 2 * g.outmap.length

/-- The graph's margin at a performance level (R143). -/
def Grph.margin (g : Grph) (pl guard m armcyc : Nat) : Int := (m * armcyc : Int) - 400 - (g.time pl + guard)

/-! ### Initialisation and loading (R126, R133, R147) -/

/-- TS = round32(M × ARMCYC × 10^−9) (R133). -/
def State.tsNow (s : State) : Nat := f32ofRat (s.mper * s.armcyc) 1000000000

/-- The products of R133 are computed: with the TS of this moment. -/
def productsUpdate (s : State) : State := { s with cg := { s.cg with tsp := s.tsNow } }

/-- The parameter words in effect. -/
def State.params (s : State) : List Nat := (List.range s.cg.g.npar).map fun w => s.rd (F.CG_PAR_VAL w)

/-- The live bit of the source of core `c`: a stall, LATE3, or an uncorrectable error in the latest run (R159). -/
def coreJudge (c : Nat) (ecc : Bool) (s : State) : State :=
  if s.flag (F.CC_STS_STALLED c) || s.cg.late3 = some c || ecc then s else unraise (216 + c) s

/-- Graph initialisation (R126). -/
def graphInit (s : State) : State :=
  let g := s.cg.g
  let par := s.params
  let mem := g.insts.map fun i =>
    let init := (List.range i.nout).map fun j => g.init.getD (i.out + j) 0
    let in0 := i.ins.headD 0xFFFF
    blockInit i.ty init (if in0 = 0xFFFF then 0 else g.init.getD in0 0) (fun j => par.getD (i.par + j) 0)
      (fun j => g.cons.getD (i.con + j) 0)
  let s := { s with
    cg := { s.cg with sig := g.init, mem := mem, run := none, gresetAt := none, periods := 0
                      imgs := s.cg.imgs.filter fun i => i.cyc == s.cyc }
    ref := { s.ref with front := List.replicate 12 (0, 0), back := List.replicate 12 (0, 0), backOk := false, cp := s.cyc } }
  let s := s.wrs [(F.CG_STS_INIT, 1), (F.CG_CTL_GRESET, 0), (F.CG_STS_STOPPED, 0), (F.CG_STS_RUNNING, 0)]
  productsUpdate (forAll (List.range 8) (fun c s =>
    coreJudge c false (s.wrs [(F.CC_STS_STALLED c, 0), (F.CC_STS_BUSY c, 0)])) s)

/-- GRAPH_INIT: the first control-period start after an accepted GRESET (R126, R148). -/
def graphInitDue (s : State) : State :=
  match s.cg.gresetAt with
  | some k => if s.cycleDue k then graphInit s else s
  | none => s

/-- GRAPH_INIT. -/
def execGraphInit (s : State) : Res := .next (graphInitDue s)

/-- What `CG` and `CC` show of the active graph at the present performance level. -/
def graphFigures (s : State) : State :=
  let g := s.cg.g
  let s := s.wrs [(F.CG_GINFO0_NINST, g.insts.length), (F.CG_GINFO0_NSIG, g.init.length), (F.CG_GINFO1_NPARAM, g.npar),
    (F.CG_GINFO1_NINMAP, g.inmap.length), (F.CG_GINFO2_NCONST, g.cons.length), (F.CG_GINFO2_NOUTMAP, g.outmap.length),
    (F.CG_TS_TS, s.tsNow), (F.CG_BUDGET_CP, if g.insts.isEmpty then 0 else g.cp)]
  let fins := g.finishes
  forAll (List.range 8) (fun c s =>
    let mine := (List.range g.insts.length).filter fun j => (g.insts.getD j {}).core = c
    let cost := mine.foldl (fun a j => a + g.cost (g.insts.getD j {})) 0
    let worst := (fins.filter fun f => mine.contains f.1).foldl (fun m f => max m f.2) (if g.insts.isEmpty then 0 else 40)
    s.wrs [(F.CC_LOAD_COST c, min 65535 cost), (F.CC_LOAD_FINWC c, min 65535 worst)]) s

/-- A switch that changes GRPH loads the section: every parameter word, active copy and shadow; a pending commit is
discarded (R147). Initialisation follows the PARM entries of the switch. -/
def graphLoad (bs : List Byte) (s : State) : State :=
  let old := s.cg.g.npar
  let s := { s with cg := { s.cg with g := parseGrph bs, imgs := [], run := none } }
  let ps := grphParams bs
  let s := forAll (List.range (max old ps.length)) (fun w s =>
    (s.wr (F.CG_PAR_VAL w) (ps.getD w 0)).wrShadow (F.CG_PAR_VAL w) (ps.getD w 0)) s
  graphFigures (s.wr F.CG_PSTS_PENDING 0 |>.wr F.CG_CTL_PCOMMIT 0)

/-! ### The input image (R121, R122, R127) -/

/-- The value of SV channel `k` of subscription `i` (R397). -/
def State.svValue (s : State) (i k : Nat) : Nat :=
  if s.flag (F.NET_SV_CFG_EN i) then (s.net.sv.getD i {}).vals.getD k 0 else 0

/-- The quality of that channel at this moment (R397). -/
def State.svGood (s : State) (i k : Nat) : Bool :=
  let x := s.net.sv.getD i {}
  let age := s.nowInt - x.ta
  s.flag (F.NET_SV_CFG_EN i) && x.good.getD k false && decide (0 ≤ age) &&
    decide (age < 1000 * (s.rd (F.NET_SV_TIMING_STALE i) : Int))

/-- The aggregate record that the run of this cycle takes from arm `n`, and whether it is the one of cycle c − 2 (R122). -/
def State.aggFor (s : State) (n : Nat) : List Nat × Bool :=
  let a := s.arm n
  let now := (List.range 16).map fun j => s.rd (F.ARM_AGG_VAL n j)
  if s.flag (F.ARM_STS_LASTLATE n) then (if a.aggCyc = unsigned 32 ((s.cyc : Int) - 1) then a.aggPrev else now, true)
  else (now, false)

/-- The graph value of an aggregate field (R220, R221). -/
def aggValue (f x : Nat) : Nat :=
  if f ≤ 5 then f32mul (f32ofInt (if f = 1 || f = 5 then x else signed 32 x)) k05 else f32ofInt (signed 32 x)

/-- The value of an input class at the start of a control period (R127). -/
def State.inputValue (s : State) (cls sel : Nat) : Nat :=
  match cls with
  | 0x01 => s.svValue (field sel 0 5) (field sel 8 4)
  | 0x02 => f32bool (s.svGood (field sel 0 5) (field sel 8 4))
  | 0x03 => s.rd (F.LMU_DCH_VAL_VAL (field sel 0 3))
  | 0x04 => s.rd (F.LMU_ACC_MEAN_VAL (field sel 0 5))
  | 0x05 => s.rd (if bit sel 4 then F.LMU_TRK_MAXV_VAL (field sel 0 4) else F.LMU_TRK_MINV_VAL (field sel 0 4))
  | 0x06 => aggValue (field sel 8 4) ((s.aggFor (field sel 0 4)).1.getD (field sel 8 4) 0)
  | 0x07 => s.rd (if bit sel 8 then F.REF_ORD_RATE_VAL (field sel 0 2) else F.REF_ORD_VAL_VAL (field sel 0 2))
  | 0x08 => s.smp (F.CG_HIN_VAL (field sel 0 6))
  | 0x09 => f32bool (match sel with
    | 0 => s.st = stRUN | 1 => s.role = roSOLO || s.role = roACTIVE | _ => s.flag F.REF_SYN_STS_INSYNC)
  | 0x0A => match sel with
    | 0 => f32ofRat (s.now % 1000000000) 1000000000
    | 1 => s.tsNow
    | _ => f32ofInt (s.cg.periods % 2 ^ 24)
  | _ => 0

/-- The three monitor inputs of this unit; NaN where the class is not one of R176 or the quality is 0.0. -/
def State.monitorInputs (s : State) : List Nat :=
  (List.range 3).map fun i =>
    let cls := s.rd (F.REF_SYN_SEL_CLASS i)
    let sel := s.rd (F.REF_SYN_SEL_SEL i)
    if cls = 1 then (if s.svGood (field sel 0 5) (field sel 8 4) then s.inputValue 1 sel else f32nan)
    else if cls = 3 then s.inputValue 3 sel
    else f32nan

/-- An angle brought into (−π, π] by one addition or subtraction (R176). -/
def wrapPi (x : Nat) : Nat :=
  if f32lt kpi x then f32sub x k2pi else if f32le x (f32neg kpi) then f32add x k2pi else x

/-- The monitor's report (R177). -/
def syncReport (ok : Bool) (s : State) : State :=
  let was := s.flag F.REF_SYN_STS_INSYNC
  let count := if ok then min 255 (s.rd F.REF_SYN_STS_COUNT + 1) else 0
  let now := ok && max 1 (s.rd F.REF_SYN_NSYNC) ≤ count
  let s := (s.wr F.REF_SYN_STS_COUNT count).put F.REF_SYN_STS_INSYNC now
  if was && !now && s.st = stRUN then ledgerFire 9 (s.wr F.REF_SYN_STS_LOST 1) else s

/-- The synchronism monitor of a control period on its three inputs (R175 to R177). -/
def monitor (ins : List Nat) (s : State) : State :=
  if !s.flag F.REF_SYN_EN then s.wrs [(F.REF_SYN_STS_INSYNC, 0), (F.REF_SYN_STS_COUNT, 0)]
  else if ins.any f32isNaN then syncReport false (s.wr F.REF_SYN_STS_INVALID 1)
  else
    let ab := clarke (ins.getD 0 0) (ins.getD 1 0) (ins.getD 2 0)
    let vm := mag2 ab.1 ab.2
    let thm := f32atan2 ab.2 ab.1
    let theta := s.rd F.REF_RPG_PH_VAL
    let dph := wrapPi (f32sub thm (f32add theta (s.smp F.REF_SYN_PHOFS_VAL)))
    let fm := f32div (f32mul (wrapPi (f32sub thm s.ref.thmPrev)) ki2pi) s.tsNow
    let fval := s.rd (F.REF_ORD_VAL_VAL 3)
    let vmin := s.smp F.REF_SYN_VMIN_VAL
    let ok := f32le vmin vm && f32le vm (s.smp F.REF_SYN_VMAX_VAL) && f32le (f32abs dph) (s.smp F.REF_SYN_THPH_VAL) &&
      f32le (f32abs (f32sub fm fval)) (s.smp F.REF_SYN_THF_VAL)
    let s := s.wrs [(F.REF_SYN_STS_INVALID, 0), (F.REF_SYN_V_VAL, vm), (F.REF_SYN_F_VAL, fm), (F.REF_SYN_DPH_VAL, dph)]
    let s := syncReport ok { s with ref := { s.ref with thmPrev := thm } }
    if f32le vmin vm then phaseLock dph s else s

/-- The trace settings sampled at the start of a control period (R155). -/
def traceSample (s : State) : State :=
  let on := s.smpFlag F.CG_TRCFG_EN
  let s := if on && !s.cg.trOn then s.wr F.CG_TRSTS_WRAPPED 0 else s
  { s with cg := { s.cg with trOn := on } }

/-- The start of a control period: the image of its run is closed (R121, R150), the monitor runs (R176), the active unit
sends the image. -/
def graphClose (s : State) : State :=
  let s := traceSample s
  let old := s.cg.g.inmap.any fun e => e.2.1 == 6 && (s.aggFor (field e.2.2 0 4)).2
  let s := if old then s.wr F.CG_STS_AGGOLD 1 else s
  let foreign := s.role = roSTANDBY && s.relayUp
  let vals := s.cg.g.inmap.map fun e => if foreign && e.2.1 != 6 then none else some (s.inputValue e.2.1 e.2.2)
  let img : Img := { cyc := s.cyc, raw := s.rawNs, now := s.now, vals := vals, aggold := old, tron := s.cg.trOn
                     trdec := s.smp F.CG_TRCFG_DEC, periods := s.cg.periods
                     trsel := (List.range (s.smp F.CG_TRCFG_NTR)).map fun k => s.smp (F.CG_TRSEL_SIG k) }
  let s' := if foreign then s else
    let ins := s.monitorInputs
    let body := ((s.cg.g.inmap.filter fun e => e.2.1 != 6).map fun e => s.inputValue e.2.1 e.2.2) ++ ins
    let s := if s.role = roACTIVE then s.relay 0x03 (leBytes 4 s.cyc ++ body.flatMap (leBytes 4)) else s
    monitor ins s
  let live := !s'.flag F.CG_STS_STOPPED && !s'.cg.g.order.isEmpty
  -- an image that never arrived goes with the period that it was for
  let kept := s'.cg.imgs.filter fun i => i.vals.all Option.isSome
  { s' with cg := { s'.cg with periods := s'.cg.periods + 1, imgs := if live then kept ++ [img] else [] } }

/-- The words of the active unit fill the places that are not this unit's own. -/
def fillImage : List (Option Nat) → List Nat → List (Option Nat)
  | [], _ => []
  | some v :: r, ws => some v :: fillImage r ws
  | none :: r, [] => none :: fillImage r []
  | none :: r, w :: ws => some w :: fillImage r ws

/-- IMG_RECEIVED: the active unit's image for cycle `cyc` (R150, R176). -/
def imgReceived (cyc : Nat) (ws : List Nat) (s : State) : State :=
  if s.role != roSTANDBY || !s.relayUp then s
  else
    match s.cg.imgs.find? fun i => i.cyc == cyc && i.vals.any Option.isNone with
    | none => if cyc = s.cyc && s.cg.g.order.isEmpty then monitor (ws.drop (ws.length - 3)) s else s
    | some i =>
      let n := (i.vals.filter Option.isNone).length
      let i' := { i with vals := fillImage i.vals ws }
      let s := { s with cg := { s.cg with imgs := s.cg.imgs.map fun x => if x.cyc == cyc then i' else x } }
      monitor (ws.drop n) s

/-- IMG_RECEIVED. -/
def execImgReceived (cyc : Word) (values : List Word) (s : State) : Res :=
  .next (imgReceived cyc.toNat (values.map (·.toNat)) s)

/-! ### Runs (R119, R120, R123 to R125) -/

/-- Cores with something to execute. -/
def Grph.cores (g : Grph) : List Nat := (List.range 8).filter fun c => !(g.sched.getD c []).isEmpty

/-- GRAPH_IMAGE_READY: the oldest image is in signal memory and the previous run has completed. -/
def imageReady (s : State) : State :=
  match s.cg.run, s.cg.imgs with
  | none, img :: rest =>
    if img.vals.any Option.isNone || s.flag F.CG_STS_STOPPED then s
    else
      let run : Run := { img := img, par := s.params, ts := s.tsNow, tsp := s.cg.tsp }
      let s := { s with cg := { s.cg with run := some run, imgs := rest } }.wr F.CG_STS_RUNNING 1
      forAll s.cg.g.cores (fun c s => s.wr (F.CC_STS_BUSY c) 1) s
  | _, _ => s

/-- GRAPH_IMAGE_READY. -/
def execGraphImageReady (s : State) : Res := .next (imageReady s)

/-- CORE_SCHEDULE_DONE of core `c`, `t` ns after the start of the run's cycle. -/
def coreDone (c t : Nat) (s : State) : State :=
  match s.cg.run with
  | some r =>
    if s.cg.g.cores.contains c && !r.done.contains c then
      { s with cg := { s.cg with run := some { r with done := c :: r.done, last := c } } }.wrs
        [(F.CC_FIN_NS c, t), (F.CC_STS_BUSY c, 0)]
    else s
  | none => s

/-- CORE_SCHEDULE_DONE. -/
def execCoreScheduleDone (c : Fin 8) (t : Word) (s : State) : Res := .next (coreDone c t.toNat s)

/-- Signals, block states and held updates (by core) after a run. -/
abbrev Evaled := List Nat × List (List Nat) × List Nat

/-- One instance of a run. -/
def evalInst (g : Grph) (r : Run) (j : Nat) (a : Evaled) : Evaled :=
  let i := g.insts.getD j {}
  let bad := fun kind w => r.nan.contains (i.core, kind, w)
  let x := fun k =>
    let w := i.ins.getD k 0xFFFF
    if w = 0xFFFF || i.nin ≤ k then 0 else if bad 0 w then f32nan else a.1.getD w 0
  let par := fun k => if bad 1 (i.par + k) then f32nan else r.par.getD (i.par + k) 0
  let con := fun k => if bad 2 (i.con + k) then f32nan else g.cons.getD (i.con + k) 0
  let prev := (List.range i.nout).map fun k => a.1.getD (i.out + k) 0
  let d := runBlock i x par con r.ts r.tsp prev (a.2.1.getD j [])
  let sig := if isDelay i.ty then a.1
    else (List.range i.nout).foldl (fun l k => setAt (i.out + k) (d.1.getD k 0) l) a.1
  (sig, setAt j d.2.1 a.2.1, if d.2.2 then modifyPad 0 (· + 1) i.core a.2.2 else a.2.2)

/-- A run evaluated: its map inputs and the outputs of DELAY and DELAYN hold from its start; then every instance in order
(R120). -/
def evalRun (g : Grph) (sig : List Nat) (mem : List (List Nat)) (r : Run) : Evaled :=
  let sig := (g.inmap.zip r.img.vals).foldl (fun l e => setAt e.1.1 (e.2.getD 0) l) sig
  let sig := (List.range g.insts.length).foldl (fun l j =>
    let i := g.insts.getD j {}
    if isDelay i.ty then setAt i.out ((mem.getD j []).headD 0) l else l) sig
  g.order.foldl (fun a j => evalInst g r j a) (sig, mem, List.replicate 8 0)

/-- One output-map entry of an on-time run (R128). -/
def outputOne (g : Grph) (sig : List Nat) (e : Nat × Nat × Nat) (s : State) : State :=
  let v := sig.getD e.1 0
  if f32isNaN v then
    let s := s.wr F.CG_STS_OUTNAN 1
    match producer g.insts e.1 with
    | some p => s.wr (F.CC_CAUSE_OUTNAN (g.insts.getD p {}).core) 1
    | none => s
  else
    match e.2.1 with
    | 1 => { s with ref := { s.ref with back := modifyPad (0, 0) (fun b => (v, b.2)) (field e.2.2 0 4) s.ref.back } }
    | 2 => { s with ref := { s.ref with back := modifyPad (0, 0) (fun b => (b.1, v)) (field e.2.2 0 4) s.ref.back } }
    | _ => s.wr (F.CG_HOUT_VAL (field e.2.2 0 6)) v

/-- The trace record of an on-time run (R155 to R157). -/
def traceRecord (img : Img) (sig : List Nat) (prevLate : Bool) (s : State) : State :=
  if !img.tron || s.flag F.CG_TRSTS_FROZEN || !s.flag F.TLY_STS_PINIT || s.cellarHalt || img.periods % (img.trdec + 1) != 0 then s
  else
    let cfg := img.trdec :: img.trsel
    let flags := b2n prevLate + 2 * b2n (s.cg.trLast != cfg) + 4 * b2n img.aggold
    let vals := img.trsel.flatMap fun k => leBytes 4 (if k < sig.length then sig.getD k 0 else f32nan)
    let body := leBytes 4 img.cyc ++ leBytes 4 flags ++ leBytes 8 img.now ++ vals
    let n := (body.length + 15) / 16 * 16
    let ofs := s.rd F.CG_TRPTR_OFS
    -- the ring holds whole records
    let ofs := if 0x20000000 < ofs + n then 0 else ofs
    let s := if ofs = s.rd F.CG_TRPTR_OFS then s else s.wr F.CG_TRSTS_WRAPPED 1
    let s := { s with
      cellar := s.cellar.writeBytes (0x1C0000000 + ofs) (slice body 0 n)
      cg := { s.cg with trLast := cfg } }
    if ofs + n = 0x20000000 then (s.wr F.CG_TRPTR_OFS 0).wr F.CG_TRSTS_WRAPPED 1 else s.wr F.CG_TRPTR_OFS (ofs + n)

/-- The outputs of an on-time run (R123, R128). -/
def outputs (sig : List Nat) (s : State) : State :=
  let g := s.cg.g
  -- a destination without a new value keeps the one before
  let base := if s.ref.backOk then s.ref.back else s.ref.front
  let s := { s with ref := { s.ref with back := base } }
  let s := forAll g.outmap (outputOne g sig) s
  { s with ref := { s.ref with backOk := true } }

/-- The account of a late run (R124). -/
def lateRun (last : Nat) (s : State) : State :=
  let n := s.rd F.CG_STS_LATERUN
  let s := s.wrs [(F.CG_STS_LATE, 1), (F.CG_STS_LASTLATE, 1), (F.CG_STS_LATERUN, min 3 (n + 1))]
  if n = 2 then
    raise (216 + last) ({ s with cg := { s.cg with late3 := some last } }.wr (F.CC_CAUSE_LATE3 last) 1)
  else s

/-- GRAPH_RUN_COMPLETE, `t` ns after the start of the run's cycle: the run is judged (R119, R123, R124, R158). -/
def runComplete (t : Nat) (s : State) : State :=
  match s.cg.run with
  | none => s
  | some r =>
    if !(s.cg.g.cores.all r.done.contains) then s
    else
      let e := evalRun s.cg.g s.cg.sig s.cg.mem r
      let s := { s with cg := { s.cg with
        sig := e.1, mem := e.2.1, run := none, shown := if s.flag F.CG_CTL_SIGHOLD then s.cg.shown else e.1 } }
      let s := forAll (List.range 8) (fun c s => s.inc (F.CC_CNT_NAN c) (e.2.2.getD c 0)) s
      let s := s.wrs [(F.CG_STS_RUNNING, 0), (F.CG_RUNCYC_CYC, r.img.cyc), (F.CG_RUNT_NS, t),
        (F.CG_RUNTMAX_NS, max t (s.rd F.CG_RUNTMAX_NS))]
      let onTime := decide ((t : Int) < (s.mper * s.armcyc : Int) - 400)
      let prevLate := s.flag F.CG_STS_LASTLATE
      let s :=
        if !onTime then lateRun r.last s
        else
          let s := s.wrs [(F.CG_STS_LASTLATE, 0), (F.CG_STS_LATERUN, 0)]
          let s := { s with cg := { s.cg with late3 := none } }
          if !r.ecc.isEmpty then s
          else traceRecord r.img e.1 prevLate ((outputs e.1 s).wr F.CG_STS_INIT 0)
      (forAll (List.range 8) (fun c => coreJudge c (r.ecc.contains c)) s).event 15

/-- GRAPH_RUN_COMPLETE. -/
def execGraphRunComplete (t : Word) (s : State) : Res := .next (runComplete t.toNat s)

/-- GRAPH_STALL: core `c` has not completed 4 control periods after the start of the run (R125). -/
def graphStall (c : Nat) (s : State) : State :=
  match s.cg.run with
  | none => s
  | some r =>
    if s.cg.g.cores.contains c && !r.done.contains c && decide ((4 * s.mper : Int) ≤ cycDiff s.cyc r.img.cyc) then
      let s := { s with cg := { s.cg with run := none, imgs := [] } }
      let s := s.wrs [(F.CC_CAUSE_STALL c, 1), (F.CC_STS_STALLED c, 1), (F.CG_STS_STOPPED, 1), (F.CG_STS_RUNNING, 0)]
      raise (216 + c) s
    else s

/-- GRAPH_STALL. -/
def execGraphStall (c : Fin 8) (s : State) : Res := .next (graphStall c s)

/-- CORE_ECC_ERROR at core `c`: corrected, or uncorrectable in a word that the core reads: `kind` 0 a signal, 1 a
parameter, 2 a constant, with its index (R158). -/
def coreEcc (c : Nat) (corrected : Bool) (kind index : Nat) (s : State) : State :=
  if corrected then (s.inc (F.CC_CNT_ECCC c)).wr (F.CC_CAUSE_ECCC c) 1
  else
    let s := s.wr (F.CC_CAUSE_ECCU c) 1
    let s := match s.cg.run with
      | some r => { s with cg := { s.cg with run := some { r with nan := (c, kind, index) :: r.nan, ecc := c :: r.ecc } } }
      | none => s
    raise (216 + c) s

/-- CORE_ECC_ERROR. -/
def execCoreEccError (c : Fin 8) (corrected : Bool) (kind : Fin 3) (index : BitVec 20) (s : State) : Res :=
  .next (coreEcc c corrected kind index.toNat s)

/-! ### Parameters and host control (R126, R144 to R148) -/

/-- The parameter words as fields. -/
def State.parFields (s : State) : List Fld := (List.range s.cg.g.npar).map F.CG_PAR_VAL

/-- PCOMMIT (R144 to R146, R148). -/
def pcommit (s : State) : State :=
  if s.standbyWrite then s.wr F.CG_PSTS_STBY_WR 1
  else if s.flag F.CG_PSTS_PENDING then s.wr F.CG_PSTS_REFUSED 1
  else
    let s := captureAll s.parFields s
    let k := s.applyPoint
    let s := s.wrs [(F.CG_PSTS_PENDING, 1), (F.CG_CTL_PCOMMIT, 1), (F.CG_PAPPLY_CYC, k)]
    if s.flag F.GLB_ROLE_TWIN then s.carry 2 (leBytes 4 k ++ s.parFields.flatMap fun f => leBytes 4 (s.rdCapt f)) else s

/-- `CG.CTL.PCOMMIT` is written. -/
def execPcommit (m : Master) (s : State) : Res := .next (gate m .p 0x40000 pcommit s)

/-- PARAM_APPLY: the apply point of a parameter commit (R145). -/
def paramApply (s : State) : State :=
  if s.flag F.CG_PSTS_PENDING && s.cycleDue (s.rd F.CG_PAPPLY_CYC) then
    productsUpdate ((s.applyCapt s.parFields).wrs [(F.CG_PSTS_PENDING, 0), (F.CG_CTL_PCOMMIT, 0)])
  else s

/-- PARAM_APPLY. -/
def execParamApply (s : State) : Res := .next (paramApply s)

/-- GRESET (R126, R148). -/
def greset (m : Master) (s : State) : State :=
  if s.standbyWrite then s.wr F.CG_PSTS_STBY_WR 1
  else if s.st = stRUN then s.werr F.HST_WERR_LOCKED m
  else
    let k := s.controlAt (s.cyc + if s.twinned then s.plead else 1)
    let s := { s with cg := { s.cg with gresetAt := some k } }.wr F.CG_CTL_GRESET 1
    if s.flag F.GLB_ROLE_TWIN then s.carry 3 (leBytes 4 k) else s

/-- `CG.CTL.GRESET` is written. -/
def execGreset (m : Master) (s : State) : Res := .next (gate m .p 0x40000 (greset m) s)

/-- `CG.TRCFG.MAXCLR` is written. -/
def execMaxclr (m : Master) (s : State) : Res := .next (gate m .p 0x40040 (fun s => s.wr F.CG_RUNTMAX_NS 0) s)

/-- A write to `CG.HIN[k]` (R121, R148). -/
def hinWrite (k v : Nat) (s : State) : State :=
  if s.standbyWrite then s.wr F.CG_PSTS_STBY_WR 1
  else
    let s := s.wr (F.CG_HIN_VAL k) v
    if s.flag F.GLB_ROLE_TWIN then s.carry 1 (leBytes 1 k ++ leBytes 4 v) else s

/-- HIN_WRITE. -/
def execHinWrite (m : Master) (k : BitVec 6) (value : Word) (s : State) : Res :=
  .next (gate m .u (0x42000 + 4 * k.toNat) (hinWrite k.toNat value.toNat) s)

end Sys2Proof.Machine
end

