-- ==== Sys2Proof/Machine/Levels.lean ====
section
/-! DEFINITION. Worst-case bounds and the acceptance rule (R108 to R111, R143), what follows from the level in force (R99,
R495, R497, R568), the voltage–rate sequencer (R566 to R571) and slack verification (R106). -/

namespace Sys2Proof.Machine

/-! ### Bounds (R108, R109) -/

/-- Ten times TFIX, TCELL and TMERGE, and TINS and TCHG, of a performance level (R108). -/
def boundTable (pl : Nat) : Nat × Nat × Nat × Nat × Nat :=
  match pl with
  | 0 => (2910, 55, 670, 900, 22)
  | 1 => (1950, 40, 480, 640, 16)
  | 2 => (1450, 30, 360, 480, 12)
  | _ => (1200, 25, 300, 400, 10)

/-- RS(p, C, E) (R108). -/
def rsBound (pl c e : Nat) : Nat :=
  let t := boundTable pl
  (t.1 + t.2.1 * c + t.2.2.1 * (e - 1) + 9) / 10

/-- INS(p, X) (R108). -/
def insBound (pl x : Nat) : Nat :=
  let t := boundTable pl
  (t.2.2.2.1 + t.2.2.2.2 * x + 9) / 10

/-- D(g) and TA(g) (R109). -/
def genDelay (gen : Nat) : Nat × Nat := if gen = 1 then (72, 144) else if gen = 2 then (40, 80) else (24, 48)

/-- UL(g, H): the uplink frame of 208 + 64 × H bits at the payload rate, rounded up to 1 ns (R109). -/
def uplinkTime (gen h : Nat) : Nat :=
  let r := if gen = 1 then 1 else if gen = 2 then 2 else 4
  (208 + 64 * h + r - 1) / r

/-- The chain allowance U(l) (R109). -/
def chainAllow (first hop gen h : Nat) : Nat :=
  2 * (first + (h - 1) * ((genDelay gen).1 + hop)) + (genDelay gen).2 + uplinkTime gen h + 30

/-- HMAX (R318). -/
def chainMax (gen armcyc : Nat) : Nat := min 64 (armcyc * (if gen = 1 then 1 else if gen = 2 then 2 else 4) / 625)

/-- What the rule reads of an arm: generation and cells of each chain, cells of each engine. -/
structure ArmShape where
  chains : List (Nat × Nat) := []
  engines : List Nat := []
deriving DecidableEq, Repr

/-- U_n (R110). -/
def ArmShape.allow (a : ArmShape) (first hop : Nat) : Nat :=
  a.chains.foldl (fun m c => max m (chainAllow first hop c.1 c.2)) 0

/-- RS(p, C_n, E_n) + INS(p, 255) (R110). -/
def ArmShape.rsins (a : ArmShape) (pl : Nat) : Nat := rsBound pl (a.engines.foldl max 0) a.engines.length + insBound pl 255

/-- W_n(p) (R110). -/
def ArmShape.worst (a : ArmShape) (first hop pl : Nat) : Nat := a.allow first hop + a.rsins pl

/-- ARMCYC − 400 − GUARD − W_n(p). -/
def ArmShape.margin (a : ArmShape) (first hop guard armcyc pl : Nat) : Int :=
  (armcyc : Int) - 400 - guard - a.worst first hop pl

/-- Arm `n` of the active Recipe. -/
def State.armShape (s : State) (n : Nat) : ArmShape :=
  { chains := ((List.range 128).filter fun l => s.flag (F.CL_CFG_USED l) && s.rd (F.CL_CFG_ARM l) = n).map fun l =>
      (s.rd (F.CL_CFG_GEN l), s.rd (F.CL_CFG_HOPS l))
    engines := (s.engines n).map fun e => s.rd (F.BE_CFG_COUNT e) }

/-! ### The acceptance rule in effect (R110, R111, R143) -/

/-- The margin of arm `n` at level `pl`. -/
def State.armMargin (s : State) (n pl : Nat) : Int :=
  (s.armShape n).margin (s.rd F.SCH_ALLOW_FIRST) (s.rd F.SCH_ALLOW_HOP) (s.rd F.SCH_GUARD_NS) s.armcyc pl

/-- The graph's margin at level `pl`. -/
def State.graphMargin (s : State) (pl : Nat) : Int := s.cg.g.margin pl (s.rd F.CG_GUARD_NS) s.mper s.armcyc

/-- PLOK of the active Recipe. -/
def State.plok (s : State) : Nat :=
  [0, 1, 2, 3].foldl (fun a p =>
    if decide (0 ≤ s.graphMargin p) && s.arms.all fun n => decide (0 ≤ s.armMargin n p) then setBit a p else a) 0

/-- The arm with the smallest margin, the lowest of equals. -/
def State.worstArm (s : State) (pl : Nat) : Nat :=
  s.arms.foldl (fun w n => if decide (s.armMargin n pl < s.armMargin w pl) then n else w) 0

/-- The level in force (R568). -/
def State.inforce (s : State) : Nat := s.rd F.CLK_PLSTS_INFORCE

/-! ### The snapshot budget and the graph lead of a standby (R495, R497) -/

/-- IB (R495). -/
def State.imageBytes (s : State) : Nat :=
  16 + 4 * (s.cg.g.inmap.filter fun e => e.2.1 != 0x06).length + if s.flag F.REF_SYN_EN then 12 else 0

/-- The number of active Relay lanes. -/
def State.relayLanes (s : State) : Nat := popCount 4 (s.rd F.TWN_STS_LANES)

/-- TRLY in ns (R497). -/
def State.trly (s : State) : Nat :=
  let l := max 1 s.relayLanes
  s.rd F.TWN_LRLY_NS + ((16 * s.imageBytes + 10 * l - 1) / (10 * l) - s.cg.g.inmap.length) + 50

/-- Q and B of R495, `TWN.GMARGIN` of R497, and the causes BUDGET and GMARGIN of R498 with FS386. -/
def twinFigures (s : State) : State :=
  let cmax := s.arms.foldl (fun m n => max m (s.be.cells.filter (·.arm == n)).length) 0
  let q := 192 + 64 * s.rd F.SCH_CFG_NARMS + 16 + 8 * cmax + s.imageBytes
  let b := 4096 * s.relayLanes * s.armcyc / 10000
  let gm : Int := signed 32 (s.rd F.CG_MARGIN_NS) - s.trly
  let s := s.wrs [(F.TWN_SNAP_Q, q), (F.TWN_SNAP_B, min 65535 b), (F.TWN_GMARGIN_NS, unsigned 32 gm)]
  let tooLong := s.flag F.GLB_ROLE_TWIN && b < q
  let s := s.putBit F.TWN_NRCAUSE_CAUSE 2 tooLong
  let s := s.putBit F.TWN_NRCAUSE_CAUSE 6 (s.flag F.GLB_ROLE_TWIN && decide (gm < 0))
  readyJudge (condition 386 (tooLong && s.role = roSTANDBY) s)

/-! ### What follows from the level in force -/

/-- Every quantity tied to the present level (R99, R107, R110, R143, R497, R568). -/
def levelFigures (s : State) : State :=
  let pl := s.inforce
  let s := forAll s.arms (fun n s =>
    let a := s.armShape n
    let r := a.rsins pl
    s.wrs [(F.ARM_DL_CRT n, s.armcyc - 400), (F.ARM_ULCUT_CRT n, s.armcyc - 400 - r), (F.ARM_WCB_RSINS n, r),
      (F.ARM_WCB_ALLOW n, a.allow (s.rd F.SCH_ALLOW_FIRST) (s.rd F.SCH_ALLOW_HOP))]) s
  let w := s.worstArm pl
  twinFigures (s.wrs [(F.SCH_ACCEPT_WORSTARM, w), (F.SCH_ACCEPT_MARGIN, unsigned 16 (clampS 16 (s.armMargin w pl))),
    (F.CG_MARGIN_NS, unsigned 32 (s.graphMargin pl))])

/-- The rule is applied for every level (R111): at a switch, and at a write to SCH.ALLOW, SCH.GUARD or CG.GUARD. A level in
force that loses its bit loses its verification. -/
def acceptJudge (s : State) : State :=
  let s := levelFigures (s.wr F.SCH_ACCEPT_PLOK s.plok)
  if s.rdBit F.SCH_ACCEPT_PLOK s.inforce then s else s.wr F.SCH_SLKVER_PASS 0

/-- ACCEPT_REGISTER_WRITE: a write to SCH.ALLOW (0), SCH.GUARD (1) or CG.GUARD (2), rwl fields (R7, R111). A refused write
re-evaluates nothing. -/
def acceptWrite (m : Master) (addr w : Nat) (s : State) : State :=
  let t := regWrite m addr w s
  if s.st = stRUN then t else acceptJudge t

/-- The address of the register by its number. -/
def acceptAddr (which : Nat) : Nat := if which = 0 then 0x2000C else if which = 1 then 0x20010 else 0x40024

/-- ACCEPT_REGISTER_WRITE. -/
def execAcceptRegisterWrite (m : Master) (which : Fin 3) (value : Word) (s : State) : Res :=
  .next (gate m .p (acceptAddr which) (acceptWrite m (acceptAddr which) value.toNat) s)

/-! ### Slack verification (R106) -/

/-- Slack verification starts. -/
def slackStart (s : State) : State :=
  s.wrs [(F.SCH_SLKVER_BUSY, 1), (F.SCH_SLKVER_PL, s.inforce), (F.SCH_CTL_REVERIFY, 1)]

/-- REVERIFY is written: verification starts, unless it runs. -/
def reverify (s : State) : State := if s.flag F.SCH_SLKVER_BUSY then s else slackStart s

/-- `SCH.CTL.REVERIFY` is written. -/
def execReverify (m : Master) (s : State) : Res := .next (gate m .p 0x20020 reverify s)

/-! ### The voltage–rate sequencer (R567 to R571) -/

/-- The sequencer takes a step, which `CLK.PLSTS.PHASE` shows; a return shows 5. -/
def plStep (n : Nat) (s : State) : State :=
  let ph := if n != 0 && s.clk.returning then 5 else n
  ({ s with clk := { s.clk with plStep := n } }.wr F.CLK_PLSTS_PHASE ph).put F.CLK_PLSTS_BUSY (n != 0)

/-- Verification at the end of a change (R568 step 4). -/
def plVerify (s : State) : State := slackStart (plStep 4 s)

/-- The first cycle start after acceptance, or at once with arm cycles stopped: raising begins with VCORE, lowering with the
level in force and the Cellar (R568). -/
def plGo (s : State) : State :=
  let q := s.rd F.CLK_PLSTS_TARGET
  if s.clk.plFrom < q then plStep 2 s
  else plStep 3 (levelFigures (s.wr F.CLK_PLSTS_INFORCE q))

/-- A change from level `p` to level `q` begins. -/
def plStart (p q : Nat) (returning : Bool) (s : State) : State :=
  let s := { s with clk := { s.clk with plFrom := p, returning := returning } }.wr F.CLK_PLSTS_TARGET q
  if s.running then plStep 1 s else plGo s

/-- A request for level `q` (R567). -/
def plRequest (q key : Nat) (s : State) : State :=
  let r := if key != 0xA5C3 then 4 else if s.clk.plStep != 0 then 3 else if !s.running then 5
    else if q = s.rd F.CLK_PLSTS_PL then 6 else if !s.rdBit F.SCH_ACCEPT_PLOK q then 2 else 1
  let s := s.wr F.CLK_PLSTS_RESULT r
  if r = 1 then plStart (s.rd F.CLK_PLSTS_PL) q false s else s

/-- `CLK.PLREQ` is written. -/
def execPlreq (m : Master) (pl : BitVec 2) (key : BitVec 16) (s : State) : Res :=
  .next (gate m .p 0x3E0050 (plRequest pl.toNat key.toNat) s)

/-- A change has failed: it is reversed, or, when it was the reversal, the unit goes on at the level it has (R570). -/
def plFail (s : State) : State :=
  if s.clk.returning then
    let s := if s.clk.start20 then s.wr F.GLB_CMDSTS_HOLD 9 else s
    plStep 0 { (s.wr F.CLK_PLSTS_PL (s.rd F.CLK_PLSTS_TARGET)) with clk := { s.clk with returning := false } }
  else
    let q := s.rd F.CLK_PLSTS_TARGET
    plStart q s.clk.plFrom true ((s.wr F.CLK_PLSTS_RETURNED 1).inc F.CLK_PLCNT_FAILS)

/-- A change is complete. -/
def plDone (s : State) : State :=
  let ret := s.clk.returning
  let s := { (s.wr F.CLK_PLSTS_PL (s.rd F.CLK_PLSTS_TARGET)) with clk := { s.clk with returning := false } }
  unraise 22 (plStep 0 (if ret then s else s.inc F.CLK_PLCNT_CHANGES))

/-- PL_VCORE_SETTLED with the measured VCORE. -/
def vcoreSettled (mv : Nat) (s : State) : State :=
  let s := s.wr F.CLK_VCORE_MV mv
  if s.clk.plStep != 2 then s
  else if s.clk.plFrom < s.rd F.CLK_PLSTS_TARGET then plStep 3 s
  else plVerify s

/-- PL_VCORE_SETTLED. -/
def execPlVcoreSettled (mv : BitVec 16) (s : State) : Res := .next (vcoreSettled mv.toNat s)

/-- PL_CELLAR_SWITCHED: the Cellar leaves self-refresh at the new rate (R569). -/
def cellarSwitched (s : State) : State :=
  if s.clk.plStep != 3 then s
  else
    let s := (s.put F.CLK_CKSTS_CSEL (!s.flag F.CLK_CKSTS_CSEL)).inc F.CLK_MUXCNT_SWITCHES
    let q := s.rd F.CLK_PLSTS_TARGET
    if s.clk.plFrom < q then plVerify (levelFigures (s.wr F.CLK_PLSTS_INFORCE q)) else plStep 2 s

/-- PL_CELLAR_SWITCHED. -/
def execPlCellarSwitched (s : State) : Res := .next (cellarSwitched s)

/-- PL_VCORE_TIMEOUT: VCORE has not settled within 1 ms (R568). -/
def vcoreTimeout (s : State) : State := if s.clk.plStep = 2 then plFail (raise 22 s) else s

/-- PL_VCORE_TIMEOUT. -/
def execPlVcoreTimeout (s : State) : Res := .next (vcoreTimeout s)

/-- The end of a slack verification with the worst firing in permille (R106), and of the change that it belongs to (R568,
R570). -/
def slackResult (worst : Nat) (s : State) : State :=
  let pl := s.inforce
  let pass := worst ≤ 900 && s.rdBit F.SCH_ACCEPT_PLOK pl
  let s := s.wrs [(F.SCH_SLKVER_BUSY, 0), (F.SCH_CTL_REVERIFY, 0), (F.SCH_SLKVER_WORST, worst), (F.SCH_SLKVER_PL, pl),
    (F.SCH_SLKVER_PASS, b2n pass)]
  let s := if pass then unraise 21 s else if s.clk.plStep = 4 || s.clk.start20 then raiseEach 21 s else s
  if s.clk.plStep != 4 then s else if pass then plDone s else plFail s

/-! ### Replicas (R103 to R105, R571) -/

/-- REPLICA_OVER_LIMIT: the worst replica of a cycle above its limit in the 16th consecutive cycle raises FS20, and AUTOUP
asks for the next level (R105, R571). -/
def replicaLimit (s : State) : State :=
  if s.clk.replRun < 16 || s.fc.cond.contains 20 then s
  else
    let s := raise 20 s
    let q := s.rd F.CLK_PLSTS_PL + 1
    if s.flag F.CLK_PLCFG_AUTOUP && q ≤ 3 && s.rdBit F.SCH_ACCEPT_PLOK q && s.clk.plStep = 0 then
      plRequest q 0xA5C3 s
    else s

/-- REPLICA_OVER_LIMIT. -/
def execReplicaOverLimit (s : State) : Res := .next (replicaLimit s)

/-- The replicas of a cycle: the worst of them and its number (R103, R105). -/
def replicas (now idx : Nat) (s : State) : State :=
  let s := s.wrs [(F.SCH_REPL_NOW, now), (F.SCH_REPL_IDX, idx)]
  let s := if 950 ≤ now then s.wr F.SCH_REPL_WARN 1 else s
  let s := if 1000 < now then s.wr F.SCH_REPL_OVER 1 else unraise 20 s
  let run := if 1000 < now then min 16 (s.clk.replRun + 1) else 0
  replicaLimit { s with clk := { s.clk with replRun := run } }

end Sys2Proof.Machine
end

