-- ==== Sys2Proof/Machine/Lmu.lean ====
section
/-! DEFINITION. The local measurement unit (R406 to R427) and fast protection (R428 to R433): conversions and their results,
direct channels and comparators, accumulators and trackers, triggers, the sequence commit, reference and calibration. -/

namespace Sys2Proof.Machine

/-! ### Windows (R423 to R425) -/

/-- The configuration fields of an accumulator (`u` below 32) or tracker: ENTRY, WMODE, EN, J, N. -/
def meterCfg (u : Nat) : Fld × Fld × Fld × Fld × Fld :=
  if u < 32 then (F.LMU_ACC_CFG_ENTRY u, F.LMU_ACC_CFG_WMODE u, F.LMU_ACC_CFG_EN u, F.LMU_ACC_CFG_J u, F.LMU_ACC_CFG_N u)
  else (F.LMU_TRK_CFG_ENTRY (u - 32), F.LMU_TRK_CFG_WMODE (u - 32), F.LMU_TRK_CFG_EN (u - 32), F.LMU_TRK_CFG_J (u - 32),
    F.LMU_TRK_CFG_N (u - 32))

/-- Accumulator or tracker `u`. -/
def State.meter (s : State) (u : Nat) : Meter := s.lmu.meters.getD u {}

/-- Accumulator or tracker `u` changes. -/
def State.setMeter (s : State) (u : Nat) (f : Meter → Meter) : State :=
  { s with lmu := { s.lmu with meters := modifyPad {} f u s.lmu.meters } }

/-- A new window of `u` starts at TB.RAW `t`, with the configuration as it stands. -/
def State.newWin (s : State) (u t : Nat) : Win :=
  let c := meterCfg u
  { wmode := s.rd c.2.1, entry := s.rd c.1, j := s.rd c.2.2.2.1, n := max 1 (s.rd c.2.2.2.2), from_ := t }

/-- The open window of `u` ends at TB.RAW `t`; it closes 250 ns later, by the command for that. -/
def winEnd (u t : Nat) (s : State) : State :=
  s.setMeter u fun m => match m.cur with
    | some w => { cur := none, ended := m.ended ++ [{ w with to_ := t }] }
    | none => m

/-- A window of mode `wm` (and of WBWIN(j) for mode 3) starts on `u`, if it is on, has that mode and has no window open. -/
def winStart (u t wm j : Nat) (s : State) : State :=
  let c := meterCfg u
  if s.flag c.2.2.1 && s.rd c.2.1 = wm && (wm != 3 || s.rd c.2.2.2.1 = j) && (s.meter u).cur.isNone then
    s.setMeter u fun m => { m with cur := some (s.newWin u t) }
  else s

/-- Accumulators and trackers. -/
def meters : List Nat := List.range 48

/-- The windows of mode `wm` (of WBWIN(j) for mode 3) end at TB.RAW `t`. -/
def winsEnd (t wm j : Nat) (s : State) : State :=
  forAll meters (fun u s => match (s.meter u).cur with
    | some w => if w.wmode = wm && (wm != 3 || w.j = j) then winEnd u t s else s
    | none => s) s

/-- What a cycle start does to the windows: CYCLE windows, and at a control-period start CPERIOD windows, end and start. -/
def lmuCycle (control : Bool) (s : State) : State :=
  let t := s.tb.raw
  let s := forAll meters (fun u => winStart u t 0 0) (winsEnd t 0 0 s)
  if control then forAll meters (fun u => winStart u t 1 0) (winsEnd t 1 0 s) else s

/-- Arm cycles stop: open CYCLE and CPERIOD windows are discarded. -/
def lmuStop (s : State) : State :=
  forAll meters (fun u s => s.setMeter u fun m => match m.cur with
    | some w => if w.wmode < 2 then { m with cur := none } else m
    | none => m) s

/-- WBWIN(j) opens. -/
def lmuWinOpen (j : Nat) (s : State) : State :=
  let s := { s with lmu := { s.lmu with win := setBit s.lmu.win j } }
  forAll meters (fun u => winStart u s.tb.raw 3 j) s

/-- WBWIN(j) closes. -/
def lmuWinShut (j : Nat) (s : State) : State :=
  winsEnd s.tb.raw 3 j { s with lmu := { s.lmu with win := clearBit s.lmu.win j } }

/-- TB.RAW `a` is at or after `b`, modulo 2^64. -/
def rawGe (a b : Nat) : Bool := (a + 2 ^ 64 - b % 2 ^ 64) % 2 ^ 64 < 2 ^ 63

/-- A result enters a window. -/
def Win.take (w : Win) (valid : Bool) (code : Int) : Win :=
  if !valid then { w with skip := min 65535 (w.skip + 1) }
  else
    let lo := if w.nv = 0 then code else min w.lo code
    let hi := if w.nv = 0 then code else max w.hi code
    { w with sum := w.sum + code, nv := w.nv + 1, lo := lo, hi := hi }

/-- The first of the ended windows that holds the sample instant takes the result. -/
def takeEnded (e t : Nat) (valid : Bool) (code : Int) : List Win → List Win
  | [] => []
  | w :: ws =>
    if w.entry = e && w.wmode != 2 && rawGe t w.from_ && !rawGe t w.to_ then w.take valid code :: ws
    else w :: takeEnded e t valid code ws

/-- A result of entry `e` with its sample instant in TB.RAW enters the window of `u` that holds it; a COUNT window ends at its
N-th result and the next one starts with the next result. -/
def meterTake (u e t : Nat) (valid : Bool) (code : Int) (s : State) : State :=
  let s := winStart u t 2 0 s
  match (s.meter u).cur with
  | some w =>
    if w.entry != e then s.setMeter u fun m => { m with ended := takeEnded e t valid code m.ended }
    else if w.wmode = 2 then
      let w' := w.take valid code
      let s := s.setMeter u fun m => { m with cur := some w' }
      if w.n ≤ w'.nv + w'.skip then winEnd u t s else s
    else if rawGe t w.from_ then s.setMeter u fun m => { m with cur := some (w.take valid code) }
    else s.setMeter u fun m => { m with ended := takeEnded e t valid code m.ended }
  | none => s.setMeter u fun m => { m with ended := takeEnded e t valid code m.ended }

/-- (float(code) × SCALE) + OFS of an entry (R412). -/
def State.scaled (s : State) (e x : Nat) : Nat :=
  f32add (f32mul x (s.rd (F.LMU_SEQ_SCALE_VAL e))) (s.rd (F.LMU_SEQ_OFS_VAL e))

/-- A window of an accumulator is published (R424). -/
def publishAcc (a : Nat) (w : Win) (s : State) : State :=
  let sum := unsigned 48 w.sum
  let mean := if w.nv = 0 then f32nan else s.scaled w.entry (f32of64 (f64div (f64ofInt w.sum) (f64ofInt w.nv)))
  s.wrs [(F.LMU_ACC_SUM_LO_SUM a, sum), (F.LMU_ACC_SUM_HI_SUM a, sum / 2 ^ 32), (F.LMU_ACC_NV_NV a, w.nv),
    (F.LMU_ACC_STS_SKIP a, w.skip), (F.LMU_ACC_STS_EMPTY a, b2n (w.nv = 0)), (F.LMU_ACC_MEAN_VAL a, mean)]

/-- A window of a tracker is published (R425). The codes of a window without a valid result are free values
(notes/assumptions/3). -/
def publishTrk (t : Nat) (w : Win) (s : State) : State :=
  let s := s.wrs [(F.LMU_TRK_STS_SKIP t, w.skip), (F.LMU_TRK_STS_EMPTY t, b2n (w.nv = 0))]
  if w.nv = 0 then
    let (a, s) := s.free 16
    let (b, s) := s.free 16
    s.wrs [(F.LMU_TRK_CODES_MIN t, a), (F.LMU_TRK_CODES_MAX t, b), (F.LMU_TRK_MINV_VAL t, f32nan), (F.LMU_TRK_MAXV_VAL t, f32nan)]
  else
    s.wrs [(F.LMU_TRK_CODES_MIN t, unsigned 16 w.lo), (F.LMU_TRK_CODES_MAX t, unsigned 16 w.hi),
      (F.LMU_TRK_MINV_VAL t, s.scaled w.entry (f32ofInt w.lo)), (F.LMU_TRK_MAXV_VAL t, s.scaled w.entry (f32ofInt w.hi))]

/-- LMU_WINDOW_CLOSE of `u`: the oldest window that has ended is published, or marked incomplete (R423). -/
def windowClose (u : Nat) (s : State) : State :=
  match (s.meter u).ended with
  | [] => s
  | w :: ws =>
    let s := s.setMeter u fun m => { m with ended := ws }
    if w.incomp then s.wr (if u < 32 then F.LMU_ACC_STS_INCOMP u else F.LMU_TRK_STS_INCOMP (u - 32)) 1
    else if u < 32 then publishAcc u w s
    else publishTrk (u - 32) w s

/-- LMU_WINDOW_CLOSE: accumulators 0 to 31, trackers 32 to 47. -/
def execLmuWindowClose (u : Fin 48) (s : State) : Res := .next (windowClose u s)

/-! ### Comparators and the fast path (R420, R428 to R433) -/

/-- The fast path on a trip of direct channel `d` (R428 to R430). -/
def fastPath (arms d : Nat) (s : State) : State :=
  let s := (s.wr (F.LMU_PROT_LATCH d) 1).inc F.LMU_PROTCNT_FIRES
  -- the arms of ARMS first; in RUN the device state extends the block to every arm
  let s := urgentBlock arms s
  let s := if s.eff = stRUN then blockAll s else supersede s
  raise (316 + d) s

/-- The comparator of direct channel `d` trips (R420). -/
def trip (d t : Nat) (s : State) : State :=
  let s := (s.wrs [(F.LMU_DCH_RES_TRIP d, 1), (F.LMU_DCH_RES_TRIPPED d, 1)]).inc (F.LMU_DCH_TRCNT_N d)
  let s := s.wr64 (F.LMU_DCH_TRT_LO_T d) (F.LMU_DCH_TRT_HI_T d) t
  let s := if s.rdBit F.TLY_LTRIG_LWC d then ledgerFire 6 s else s
  if s.flag (F.LMU_PROT_EN d) then fastPath (s.rd (F.LMU_PROT_ARMS d)) d s else s

/-- The comparator of direct channel `d` judges a valid result (R420). -/
def compare (d : Nat) (code : Int) (t : Nat) (s : State) : State :=
  let hi := signed 16 (s.rd (F.LMU_DCH_THR_HI d))
  let lo := signed 16 (s.rd (F.LMU_DCH_THR_LO d))
  let hien := s.flag (F.LMU_DCH_CFG_HIEN d)
  let loen := s.flag (F.LMU_DCH_CFG_LOEN d)
  let hys : Int := s.rd (F.LMU_DCH_CFG_HYS d)
  let outside := (hien && decide (hi < code)) || (loen && decide (code < lo))
  let cnt := s.rd (F.LMU_DCH_CFG_CNT d) + 1
  let n := if outside then min 255 (s.lmu.outs.getD d 0 + 1) else 0
  let s := { s with lmu := { s.lmu with outs := modifyPad 0 (fun _ => n) d s.lmu.outs } }
  let clear := (!hien || decide (code ≤ hi - hys)) && (!loen || decide (lo + hys ≤ code))
  let s := if clear then unraise (316 + d) (s.wr (F.LMU_DCH_RES_TRIP d) 0) else s
  if outside && n = cnt then trip d t s else s

/-- FAST_PATH_FAULT: a trip of every enabled channel, and a block of every arm (R433). -/
def fastFault (s : State) : State :=
  let s := raise 324 s
  let s := forAll ((List.range 8).filter fun d => s.flag (F.LMU_PROT_EN d)) (fun d s => fastPath 0xFFF d s) s
  blockAll s

/-- FAST_PATH_FAULT. -/
def execFastPathFault (s : State) : Res := .next (fastFault s)

/-! ### Results (R407, R415, R416, R419) -/

/-- The decimator, run count and INV count of entry `e`. -/
def State.decimator (s : State) (e : Nat) : List Int × Nat × Nat := s.lmu.deci.getD e ([], 0, 0)

/-- They take new values. -/
def State.setDecimator (s : State) (e : Nat) (v : List Int × Nat × Nat) : State :=
  { s with lmu := { s.lmu with deci := modifyPad ([], 0, 0) (fun _ => v) e s.lmu.deci } }

/-- Results now carry REF_NRDY (R409). -/
def State.refNrdy (s : State) : Bool := !s.flag F.LMU_STS_REFRDY || s.flag F.LMU_STS_REFFLT

/-- A direct channel takes a valid result (R419), and is stale no more (R422). -/
def channelTake (d e : Nat) (code : Int) (sat : Bool) (t : Nat) (s : State) : State :=
  let s := s.wrs [(F.LMU_DCH_RES_CODE d, unsigned 16 code), (F.LMU_DCH_RES_SAT d, b2n sat), (F.LMU_DCH_RES_VALID d, 1),
    (F.LMU_DCH_VAL_VAL d, s.scaled e (f32ofInt code))]
  let s := s.wr64 (F.LMU_DCH_TS_LO_T d) (F.LMU_DCH_TS_HI_T d) t
  let stale := clearBit s.lmu.stale d
  let s := { s with lmu := { s.lmu with stale := stale } }
  compare d code t (if stale = 0 then unraise 310 s else s)

/-- A result of entry `e` is delivered: code, sample instant in TB.NOW and in TB.RAW (R416, R419 to R425). -/
def result (e : Nat) (code : Int) (t raw : Nat) (s : State) : State :=
  let x := s.decimator e
  let inv := x.2.2 != 0
  let s := s.setDecimator e (x.1, x.2.1, x.2.2 - 1)
  let nrdy := s.refNrdy
  let sat := code = 32767 || code = -32768
  let s := s.wrs [(F.LMU_SEQ_RES_CODE e, unsigned 16 code), (F.LMU_SEQ_RES_INV e, b2n inv), (F.LMU_SEQ_RES_REF_NRDY e, b2n nrdy),
    (F.LMU_SEQ_RES_SAT e, b2n sat), (F.LMU_SEQ_RES_VALID e, 1)]
  let valid := !inv && !nrdy
  let s := if valid && s.flag (F.LMU_SEQ_CFG_DCHEN e) then channelTake (s.rd (F.LMU_SEQ_CFG_DCH e)) e code sat t s else s
  forAll meters (fun u s => meterTake u e raw valid code s) s

/-- Coefficient i of (1 + z^−1 + … + z^−(r−1))^3. -/
def sinc3 (r i : Nat) : Nat :=
  (List.range r).foldl (fun a p => (List.range r).foldl (fun a q => if p + q ≤ i && i < p + q + r then a + 1 else a) a) 0

/-- The output of a SINC3 entry for its conversions, newest first (R415). -/
def sinc3Out (r : Nat) (xs : List Int) : Int :=
  let l := (List.range (3 * (r - 1) + 1)).map fun i => (sinc3 r i : Int) * xs.getD i 0
  let z := l.foldl (· + ·) 0
  let d : Int := r * r * r
  let q := z.fdiv d
  let m := 2 * (z - q * d)
  clampS 16 (if d < m || (m = d && q % 2 = 1) then q + 1 else q)

/-- The converter whose range holds entry `e`. -/
def State.converterOf (s : State) (e : Nat) : Option Nat :=
  [0, 1].find? fun c => s.rd (F.LMU_ADC_CFG_FIRST c) ≤ e && e ≤ s.rd (F.LMU_ADC_CFG_LAST c)

/-- The conversion that was the last of its entry's run moves the converter to the next entry of its pass. -/
def entryDone (e : Nat) (s : State) : State :=
  match s.converterOf e with
  | some c =>
    if s.flag (F.LMU_ADC_STS_BUSY c) && s.rd (F.LMU_ADC_STS_ENTRY c) = e && e < s.rd (F.LMU_ADC_CFG_LAST c) then
      s.wr (F.LMU_ADC_STS_ENTRY c) (e + 1)
    else s
  | none => s

/-- A conversion of entry `e` with its corrected code, sampled `age` ns ago (R407, R408, R415). -/
def conversion (e : Nat) (code : Int) (age : Nat) (s : State) : State :=
  let raw := (s.tb.raw + 2 ^ 64 - age * 65536) % 2 ^ 64
  let t := unsigned 64 ((s.nowFixAt s.tb.raw - age * 65536).fdiv 65536)
  let rep := s.rd (F.LMU_SEQ_CFG_REP e) + 1
  let x := s.decimator e
  let n := x.2.1 + 1
  let last := rep ≤ n
  let s := if last then entryDone e s else s
  if s.flag (F.LMU_SEQ_CFG_FILT e) then
    let xs := (code :: x.1).take (3 * rep)
    let s := s.setDecimator e (xs, if last then 0 else n, x.2.2)
    if last then result e (sinc3Out rep xs) t raw s else s
  else result e code t raw (s.setDecimator e ([], if last then 0 else n, x.2.2))

/-- LMU_CONVERSION_DONE. -/
def execLmuConversionDone (e : Fin 64) (code : BitVec 16) (age : Byte) (s : State) : Res :=
  .next (conversion e (signed 16 code.toNat) age.toNat s)

/-! ### The sequence commit (R414, R416) -/

/-- The rwc fields of entry `e`. -/
def seqFields (e : Nat) : List Fld :=
  [F.LMU_SEQ_CFG_INPUT e, F.LMU_SEQ_CFG_GAIN e, F.LMU_SEQ_CFG_FILT e, F.LMU_SEQ_CFG_REP e, F.LMU_SEQ_CFG_DLY e,
    F.LMU_SEQ_CFG_DCH e, F.LMU_SEQ_CFG_DCHEN e, F.LMU_SEQ_SCALE_VAL e, F.LMU_SEQ_OFS_VAL e]

/-- The rwc fields of converter `c`. -/
def adcFields (c : Nat) : List Fld := [F.LMU_ADC_CFG_MODE c, F.LMU_ADC_CFG_FIRST c, F.LMU_ADC_CFG_LAST c]

/-- The captured values of entry `e` apply: results to be marked INV (R416), windows made incomplete (R423). -/
def seqApply (e : Nat) (s : State) : State :=
  let chg := fun f => s.rd f != s.rdCapt f
  let filt := s.rdCapt (F.LMU_SEQ_CFG_FILT e)
  let refilt := chg (F.LMU_SEQ_CFG_FILT e) || (chg (F.LMU_SEQ_CFG_REP e) && filt = 1)
  let inv := max (if chg (F.LMU_SEQ_CFG_INPUT e) then 1 else 0)
    (max (if chg (F.LMU_SEQ_CFG_GAIN e) then 2 else 0) (if refilt then (if filt = 1 then 3 else 1) else 0))
  let source := [F.LMU_SEQ_CFG_INPUT e, F.LMU_SEQ_CFG_GAIN e, F.LMU_SEQ_CFG_FILT e, F.LMU_SEQ_CFG_REP e,
    F.LMU_SEQ_SCALE_VAL e, F.LMU_SEQ_OFS_VAL e].any chg
  let x := s.decimator e
  let s := s.setDecimator e (if refilt then ([], 0, max inv x.2.2) else (x.1, x.2.1, max inv x.2.2))
  let spoil := fun (w : Win) => if w.entry = e then { w with incomp := true } else w
  let s := if source then
      { s with lmu := { s.lmu with meters := s.lmu.meters.map fun m => ⟨m.cur.map spoil, m.ended.map spoil⟩ } }
    else s
  s.applyCapt (seqFields e)

/-- The captured range of converter `c`. -/
def State.captRange (s : State) (c : Nat) : List Nat :=
  (List.range 64).filter fun e => s.rdCapt (F.LMU_ADC_CFG_FIRST c) ≤ e && e ≤ s.rdCapt (F.LMU_ADC_CFG_LAST c)

/-- `LMU.STS.SPENDc`. -/
def spend (c : Nat) : Fld := if c = 0 then F.LMU_STS_SPEND0 else F.LMU_STS_SPEND1

/-- A pending commit of converter `c` applies (R414). -/
def commitApply (c : Nat) (s : State) : State :=
  if !s.flag (spend c) then s
  else
    let s := forAll (s.captRange c) seqApply s
    let s := (s.applyCapt (adcFields c)).wr (spend c) 0
    s.put F.LMU_CTL_SCOMMIT (s.flag F.LMU_STS_SPEND0 || s.flag F.LMU_STS_SPEND1)

/-- Converter `c` may run: MODE CONT or TRIG, no calibration. -/
def State.convMode (s : State) (c : Nat) : Nat :=
  if s.rd (F.LMU_ADC_CFG_MODE c) = 3 then 0 else s.rd (F.LMU_ADC_CFG_MODE c)

/-- A pass of converter `c` starts at FIRST, with a pending commit applied. -/
def passStart (c : Nat) (s : State) : State :=
  let s := commitApply c s
  if s.convMode c = 0 then s.wr (F.LMU_ADC_STS_BUSY c) 0
  else s.wrs [(F.LMU_ADC_STS_BUSY c, 1), (F.LMU_ADC_STS_ENTRY c, s.rd (F.LMU_ADC_CFG_FIRST c))]

/-- An idle converter: a pending commit applies at once, and CONT runs (R413, R414). -/
def convIdle (c : Nat) (s : State) : State :=
  if s.flag F.LMU_STS_CALBUSY || s.flag (F.LMU_ADC_STS_BUSY c) then s
  else
    let s := commitApply c s
    if s.convMode c = 1 then passStart c s else s

/-- The captured fields of entries `a` and `b` agree on what a shared direct channel needs (R414). -/
def State.sameChannel (s : State) (a b : Nat) : Bool :=
  let f := fun e => [F.LMU_SEQ_CFG_INPUT e, F.LMU_SEQ_CFG_GAIN e, F.LMU_SEQ_CFG_FILT e, F.LMU_SEQ_CFG_REP e,
    F.LMU_SEQ_SCALE_VAL e, F.LMU_SEQ_OFS_VAL e].map s.rdCapt
  f a == f b

/-- The captured sequence breaks a rule of R414. -/
def State.badSequence (s : State) : Bool :=
  let r0 := s.captRange 0
  let r1 := s.captRange 1
  let dirOf := fun e => if s.rdCapt (F.LMU_SEQ_CFG_DCHEN e) = 1 then some (s.rdCapt (F.LMU_SEQ_CFG_DCH e)) else none
  let es := List.range 64
  r0.any r1.contains ||
  ([0, 1] : List Nat).any (fun c =>
    let m := s.rdCapt (F.LMU_ADC_CFG_MODE c)
    m != 0 && m != 3 && s.rdCapt (F.LMU_ADC_CFG_LAST c) < s.rdCapt (F.LMU_ADC_CFG_FIRST c)) ||
  es.any (fun e => 25 < s.rdCapt (F.LMU_SEQ_CFG_INPUT e) ||
    (s.rdCapt (F.LMU_SEQ_CFG_FILT e) = 1 && !([3, 7, 15, 31] : List Nat).contains (s.rdCapt (F.LMU_SEQ_CFG_REP e)))) ||
  es.any fun a => es.any fun b => decide (a < b) && (dirOf a).isSome && dirOf a == dirOf b && !s.sameChannel a b

/-- SCOMMIT (R414). -/
def scommit (s : State) : State :=
  if s.flag F.LMU_STS_SPEND0 || s.flag F.LMU_STS_SPEND1 then s.wr F.LMU_STS_SREF 1
  else
    let fs := (List.range 64).flatMap seqFields ++ adcFields 0 ++ adcFields 1
    let t := fs.foldl (fun s f => s.capture f) s
    if t.badSequence then raise 311 (s.wr F.LMU_STS_BADSEQ 1)
    else
      let t := t.wrs [(F.LMU_STS_SPEND0, 1), (F.LMU_STS_SPEND1, 1), (F.LMU_CTL_SCOMMIT, 1)]
      let t := forAll ((List.range 64).filter fun e => !(t.captRange 0).contains e && !(t.captRange 1).contains e) seqApply t
      convIdle 1 (convIdle 0 t)

/-- `LMU.CTL.SCOMMIT` is written. -/
def execScommit (m : Master) (s : State) : Res := .next (gate m .p 0x380000 scommit s)

/-! ### Triggers and passes (R413, R417, R418) -/

/-- A trigger of converter `c` is dropped, counted in `f` (R418). -/
def triggerDrop (f : Fld) (s : State) : State := raise 309 (s.inc f)

/-- The rest of the pass is abandoned, and a new one starts (R418). -/
def passRestart (c : Nat) (s : State) : State :=
  let e := s.rd (F.LMU_ADC_STS_ENTRY c)
  let s := s.inc (F.LMU_ADC_CNT_RESTARTS c)
  let s := if s.flag (F.LMU_SEQ_CFG_FILT e) then s.setDecimator e ([], 0, 3)
    else s.setDecimator e ([], 0, (s.decimator e).2.2)
  passStart c s

/-- A trigger of converter `c` arrives (R418). -/
def lmuTrigger (c : Nat) (s : State) : State :=
  if s.convMode c != 2 then s
  else if s.flag F.LMU_STS_CALBUSY then triggerDrop (F.LMU_ADC_CNT2_CALDROP c) s
  else if s.flag (F.LMU_ADC_CFG_GATEEN c) && !s.lmu.win.testBit (s.rd (F.LMU_ADC_CFG_GATEJ c)) then
    s.inc (F.LMU_ADC_CNT2_GATED c)
  else if !s.flag (F.LMU_ADC_STS_BUSY c) then passStart c s
  else match s.rd (F.LMU_ADC_CFG_BUSYPOL c) with
    | 1 => triggerDrop (F.LMU_ADC_CNT_TRIG_OVR c) s
    | 2 => passRestart c s
    | _ => if s.flag (F.LMU_ADC_STS_PEND c) then triggerDrop (F.LMU_ADC_CNT_TRIG_OVR c) s else s.wr (F.LMU_ADC_STS_PEND c) 1

/-- The trigger source of converter `c` is one that an event of this moment can be: CYC at its cycle, FPTRG or WBTRG; a
CHAIN trigger comes with the pass end (R417). -/
def State.triggerNow (s : State) (c : Nat) : Bool :=
  match s.rd (F.LMU_ADC_CFG_TRGSRC c) with
  | 1 => s.running && s.cyc % max 1 (s.rd (F.LMU_ADC_TRG_TPER c)) = 0 && s.rd (F.LMU_ADC_TOFS_CRT c) < s.armcyc
  | 3 => true
  | 4 => true
  | _ => false

/-- LMU_TRIGGER. -/
def execLmuTrigger (c : Fin 2) (s : State) : Res := .next (if s.triggerNow c then lmuTrigger c s else s)

/-- `LMU.CTL.SWTRGc` is written (R417). -/
def swTrigger (c : Nat) (s : State) : State := if s.rd (F.LMU_ADC_CFG_TRGSRC c) = 0 then lmuTrigger c s else s

/-- SWTRG. -/
def execSwtrg (m : Master) (c : Fin 2) (s : State) : Res := .next (gate m .p 0x380000 (swTrigger c) s)

/-- LMU_TIMER_TRIGGER of converter `c`. -/
def execLmuTimerTrigger (c : Fin 2) (s : State) : Res :=
  .next (if s.rd (F.LMU_ADC_CFG_TRGSRC c) = 2 then lmuTrigger c s else s)

/-- LMU_PASS_END of converter `c` (R413, R417, R418, R427). -/
def passEnd (c : Nat) (s : State) : State :=
  if !s.flag (F.LMU_ADC_STS_BUSY c) then s
  else
    let s := unraise (306 + c) (s.wr (F.LMU_ADC_STS_BUSY c) 0)
    let s := if s.flag (F.LMU_ADC_STS_PEND c) then passStart c (s.wr (F.LMU_ADC_STS_PEND c) 0)
      else if s.convMode c = 1 then passStart c s
      else convIdle c s
    let o := 1 - c
    if s.rd (F.LMU_ADC_CFG_TRGSRC o) = 5 then lmuTrigger o s else s

/-- LMU_PASS_END. -/
def execLmuPassEnd (c : Fin 2) (s : State) : Res := .next (passEnd c s)

/-- LMU_DCH_STALE of channel `d`: STALE µs without a valid result while its converter runs (R422). -/
def channelStale (d : Nat) (s : State) : State :=
  let runs := (List.range 64).any fun e => s.flag (F.LMU_SEQ_CFG_DCHEN e) && s.rd (F.LMU_SEQ_CFG_DCH e) = d &&
    (match s.converterOf e with | some c => s.convMode c != 0 | none => false)
  if runs then raise 310 ({ s with lmu := { s.lmu with stale := setBit s.lmu.stale d } }.wr (F.LMU_DCH_RES_STALE d) 1)
  else s

/-- LMU_DCH_STALE. -/
def execLmuDchStale (d : Fin 8) (s : State) : Res := .next (channelStale d s)

/-! ### Reference and calibration (R409 to R411) -/

/-- Writes to CAL and REFEN are refused (R411). -/
def State.calLocked (s : State) : Bool := s.st = stARMED || s.st = stRUN || s.st = stBLOCKED

/-- Calibration starts: no converter starts or continues a pass (R410, R418). -/
def calStart (auto : Bool) (s : State) : State :=
  if s.flag F.LMU_STS_CALBUSY then s
  else
    let s := s.wrs [(F.LMU_STS_CALBUSY, 1), (F.LMU_CTL_CAL, 1), (F.LMU_ADC_STS_BUSY 0, 0), (F.LMU_ADC_STS_BUSY 1, 0),
      (F.LMU_ADC_STS_PEND 0, 0), (F.LMU_ADC_STS_PEND 1, 0)]
    { s with lmu := { s.lmu with calNrdy := s.refNrdy, calAuto := auto } }

/-- `LMU.CTL.CAL` is written. -/
def execCal (m : Master) (s : State) : Res :=
  .next (gate m .p 0x380000 (fun s => if s.calLocked then s.wr F.LMU_STS_CALREF 1 else calStart false s) s)

/-- Entry into LOADED: the reference buffer is on, calibration is due 5 ms later (R31, R409). -/
def lmuLoaded (s : State) : State := { s with lmu := { s.lmu with calDue := true } }.wr F.LMU_CTL_REFEN 1

/-- LMU_CAL_AUTO_START. -/
def execLmuCalAutoStart (s : State) : Res :=
  .next (if s.lmu.calDue then calStart true { s with lmu := { s.lmu with calDue := false } } else s)

/-- The corrections of a calibration are within bounds: offsets within ±512 codes (in 1/16 code), gains within ±2 %. -/
def calSound (ofs gain : Nat) : Bool := decide ((signed 16 ofs).natAbs ≤ 8192) && decide (50 * ((gain : Int) - 32768).natAbs ≤ 32768)

/-- The end of a calibration with the corrections it computed: offset and gain of converter c at gain g are words
2 × (4 × c + g) and the next (R410). -/
def calDone (l : List (BitVec 16)) (s : State) : State :=
  if !s.flag F.LMU_STS_CALBUSY then s
  else
    let w := fun i => (l.getD i 0).toNat
    let ok := (List.range 8).all fun i => calSound (w (2 * i)) (w (2 * i + 1))
    let s := s.wrs [(F.LMU_STS_CALBUSY, 0), (F.LMU_CTL_CAL, 0)]
    let s := if ok then
        let s := forAll (List.range 8) (fun i s =>
          s.wrs [(F.LMU_CAL_OFS (i / 4) (i % 4), w (2 * i)), (F.LMU_CAL_GAIN (i / 4) (i % 4), w (2 * i + 1))]) s
        unraise 305 ((s.wr F.LMU_STS_CALDONE (b2n (s.flag F.LMU_CTL_REFEN))).put F.LMU_STS_CAL_NRDY s.lmu.calNrdy)
      else raise 305 (s.wrs [(F.LMU_STS_CALFAIL, 1), (F.LMU_STS_CALDONE, 0)])
    -- every decimator starts empty (R410, R416)
    let s := forAll (List.range 64) (fun e s =>
      if s.flag (F.LMU_SEQ_CFG_FILT e) then s.setDecimator e ([], 0, 3) else s.setDecimator e ([], 0, (s.decimator e).2.2)) s
    convIdle 1 (convIdle 0 s)

/-- ARM condition 6 of R37: calibrated and not tagged CAL_NRDY (R411). -/
def State.calibrated (s : State) : Bool := s.flag F.LMU_STS_CALDONE && !s.flag F.LMU_STS_CAL_NRDY

/-- A write to REFEN (R409 to R411). -/
def refenWrite (on : Bool) (s : State) : State :=
  if on then s.wr F.LMU_CTL_REFEN 1
  else if s.calLocked then s.wr F.LMU_STS_CALREF 1
  else s.wrs [(F.LMU_CTL_REFEN, 0), (F.LMU_STS_REFRDY, 0), (F.LMU_STS_CALDONE, 0)]

/-- LMU_REFEN_WRITE. -/
def execLmuRefenWrite (m : Master) (on : Bool) (s : State) : Res := .next (gate m .p 0x380000 (refenWrite on) s)

/-- LMU_REF_READY. -/
def execLmuRefReady (s : State) : Res := .next (if s.flag F.LMU_CTL_REFEN then s.wr F.LMU_STS_REFRDY 1 else s)

/-- LMU_REF_FAULT: the reference has been beyond ±0.5 % for 100 µs, or back within it for 100 µs (R409). -/
def refFault (on : Bool) (s : State) : State := condition 304 on (s.put F.LMU_STS_REFFLT on)

/-- LMU_REF_FAULT. -/
def execLmuRefFault (on : Bool) (s : State) : Res := .next (refFault on s)

/-- `LMU.CTL.CNTCLR` is written. -/
def lmuCntclr (s : State) : State :=
  let s := forAll [0, 1] (fun c s => s.wrs [(F.LMU_ADC_CNT_TRIG_OVR c, 0), (F.LMU_ADC_CNT_RESTARTS c, 0),
    (F.LMU_ADC_CNT2_CALDROP c, 0), (F.LMU_ADC_CNT2_GATED c, 0)]) s
  (forAll (List.range 8) (fun d s => s.wr (F.LMU_DCH_TRCNT_N d) 0) s).wr F.LMU_PROTCNT_FIRES 0

/-- LMU_CNTCLR. -/
def execLmuCntclr (m : Master) (s : State) : Res := .next (gate m .u 0x380000 lmuCntclr s)

end Sys2Proof.Machine
end

