-- ==== Sys2Proof/Machine/WbQueue.lean ====
section
/-! DEFINITION. The Waybill queue as data (R367 to R379): the fields of an entry, its instant, the counts and registers
that follow the queue, cancel and flush, and what a stop of arm cycles does. How entries run stands in `Waybill.lean`. -/

namespace Sys2Proof.Machine

/-- Word `i` of an entry. -/
def WbEntry.w (e : WbEntry) (i : Nat) : Nat := e.words.getD i 0

/-- CLASS. -/
def WbEntry.cls (e : WbEntry) : Nat := field (e.w 2) 0 4

/-- BASE: 0 NET, 1 RAW, 2 CYC. -/
def WbEntry.base (e : WbEntry) : Nat := field (e.w 2) 4 2

/-- LP: DROP. -/
def WbEntry.drop (e : WbEntry) : Bool := bit (e.w 2) 6

/-- RELAY. -/
def WbEntry.relay (e : WbEntry) : Bool := bit (e.w 2) 7

/-- DONE. -/
def WbEntry.done (e : WbEntry) : Bool := bit (e.w 2) 8

/-- TAG. -/
def WbEntry.tag (e : WbEntry) : Nat := field (e.w 2) 16 16

/-- The time of a NET entry, TB.NOW in ns; of a RAW entry, TB.RAW in ns. -/
def WbEntry.time (e : WbEntry) : Int := if e.base = 0 then signed 64 (e.w 0 + 2 ^ 32 * e.w 1) else e.w 0 + 2 ^ 32 * (e.w 1 % 65536)

/-- CRT of the present moment: ns of TB.RAW since the start of the cycle (R16, R362). -/
def State.crt (s : State) : Int := ((s.tb.raw : Int) - s.tb.cycRaw) / 65536

/-- How far an entry's instant lies back, in ns; negative: still ahead (R371). A CYC entry counts from its CRT in its cycle;
in a cycle still to come it is ahead. -/
def State.wbAge (s : State) (e : WbEntry) : Int :=
  if e.base = 0 then s.nowInt - e.time
  else if e.base = 1 then s.rawNs - e.time
  else
    let d := cycDiff (e.w 1) s.cyc
    if 0 < d then -1 - d else s.crt - e.w 0 - d * s.armcyc

/-- An entry is due: the tick is at or after its instant. -/
def State.wbDue (s : State) (e : WbEntry) : Bool := decide (0 ≤ s.wbAge e)

/-- The registers that show the queue, the oldest completion record and the windows. -/
def wbSync (s : State) : State :=
  let q := s.wb
  let s := (s.wr F.WB_STS_COUNT q.ents.length).wr F.WB_HWM_N (max (s.rd F.WB_HWM_N) q.ents.length)
  let d := q.done.headD {}
  s.wrs [(F.WB_DONE0_TAG, d.tag), (F.WB_DONE0_CLASS, d.cls), (F.WB_DONE0_LATE, b2n d.late), (F.WB_DONE0_DROPPED, b2n d.dropped),
    (F.WB_DONE0_VALID, b2n (!q.done.isEmpty)), (F.WB_DONE0_NREC, q.done.length), (F.WB_DONE1_T, d.time),
    (F.WB_DONE2_T, d.time / 2 ^ 32)]

/-- An entry joins the queue; COUNT reaching THR is signalled (R376). -/
def wbAdd (e : WbEntry) (s : State) : State :=
  let s := wbSync { s with wb := { s.wb with ents := s.wb.ents ++ [e] } }
  if s.wb.ents.length = s.rd F.WB_CFG_THR then (s.wr F.WB_STS_THR 1).event 6 else s

/-- Entry number `i` of the queue leaves it. -/
def wbRemove (i : Nat) (s : State) : State := wbSync { s with wb := { s.wb with ents := s.wb.ents.eraseIdx i } }

/-- The queue is full: OVF, the count and FS277 (R376). -/
def wbFull (s : State) : State := raise 277 ((s.wr F.WB_STS_OVF 1).inc F.WB_CNT1_FULL)

/-- A completion record of an entry with DONE (R377). -/
def wbComplete (e : WbEntry) (late dropped : Bool) (s : State) : State :=
  if !e.done then s
  else if 64 ≤ s.wb.done.length then raise 279 (s.wr F.WB_STS_DONEOVF 1)
  else
    let d : WbDone := ⟨e.tag, e.cls, late, dropped, s.now⟩
    (wbSync { s with wb := { s.wb with done := s.wb.done ++ [d] } }).event 7

/-- `WB.WIN` and the windows of the LMU follow the open windows (R373). -/
def wbWindows (s : State) : State :=
  let now := s.wb.wins.foldl (fun m w => setBit m w.j) 0
  let was := s.rd F.WB_WIN_OPEN
  let s := s.wr F.WB_WIN_OPEN now
  forAll (List.range 8) (fun j s =>
    if now.testBit j && !was.testBit j then lmuWinOpen j s
    else if !now.testBit j && was.testBit j then lmuWinShut j s
    else s) s

/-- CANCEL with a tag and mask removes every pending entry that matches and closes every matching window (R375). -/
def wbCancel (tag mask : Nat) (s : State) : State :=
  let hit := fun (t : Nat) => (t &&& mask) == (tag &&& mask)
  let q := s.wb
  let n := (q.ents.filter fun e => hit e.tag).length + (q.wins.filter fun w => hit w.tag).length
  let q := { q with ents := q.ents.filter fun e => !hit e.tag }
  let q := { q with wins := q.wins.filter fun w => !hit w.tag }
  (wbWindows (wbSync { s with wb := q })).wr F.WB_CANCNT_N n

/-- Arm cycles stop: pending CYC entries are discarded and counted (R374). -/
def wbStop (s : State) : State :=
  let gone := (s.wb.ents.filter fun e => e.base == 2).length
  wbSync ({ s with wb := { s.wb with ents := s.wb.ents.filter fun e => e.base != 2 } }.inc F.WB_CNT1_FLUSH gone)

end Sys2Proof.Machine
end

