-- ==== Sys2Proof/Machine/Link.lean ====
section
/-! DEFINITION. The Relay link (R479 to R489) and standby readiness (R498): link states, lanes, cycle marks, heartbeats and
alignment. Roles and takeover stand in `States.lean` and `Twin.lean`. -/

namespace Sys2Proof.Machine

/-! ### Readiness (R498) -/

/-- The section CRCs of the active Recipe. -/
def State.secCrcs (s : State) : List Nat := (List.range 6).map fun j => s.rd (secCrcFld (j + 1))

/-- IMAGE_ID of the active Recipe. -/
def State.imageId (s : State) : Nat := s.rd64 F.RCP_ACT_ID_LO_ID F.RCP_ACT_ID_HI_ID

/-- Cause RECIPE: the partner's IMAGE_ID or a section CRC differs, or the active switched alone (R498). -/
def State.recipeDiffers (s : State) : Bool :=
  s.twn.alone || s.twn.pimage != s.imageId || (s.twn.pcrcs != [] && s.twn.pcrcs != s.secCrcs)

/-- The causes LINK, STATE, ALIGN, UNSYNC and RECIPE as they stand; the others are kept by the units that judge them
(R498). -/
def standbyJudge (s : State) : State :=
  let armed := s.st = stARMED || s.st = stRUN || s.st = stBLOCKED
  let s := s.putBit F.TWN_NRCAUSE_CAUSE 0 (!s.relayUp)
  let s := s.putBit F.TWN_NRCAUSE_CAUSE 1 (!armed)
  let s := s.putBit F.TWN_NRCAUSE_CAUSE 4 (!s.flag F.TWN_STS_INSYNC)
  let s := s.putBit F.TWN_NRCAUSE_CAUSE 8 (s.relayUp && s.recipeDiffers)
  readyJudge s

/-! ### Link states (R481) -/

/-- `TWN.STS.LSTATE` takes a value; event TWIN (R525). -/
def linkState (n : Nat) (s : State) : State :=
  if s.rd F.TWN_STS_LSTATE = n then s else (s.wr F.TWN_STS_LSTATE n).event 14

/-- Every arm is out of sync (R502). -/
def unsync (s : State) : State :=
  { s with twn := { s.twn with match_ := [], resync := none, rsPart := none, rsWant := 0, cmpAt := none } }.wrs
    [(F.TWN_ARMSYNC_SYNC, 0), (F.TWN_ARMSYNC_RSY, 0), (F.TWN_STS_INSYNC, 0)]

/-- A lane set: `TWN.STS.LANES`, the budget, FS369 (R484, R495). -/
def setLanes (mask : Nat) (s : State) : State :=
  let s := twinFigures (s.wr F.TWN_STS_LANES mask)
  if mask = 0xF then unraise 369 s else s

/-- What this unit says of itself in an ID packet (R481). -/
def State.idBytes (s : State) : List Byte :=
  leBytes 2 (s.rd F.TWN_MID_ID) ++ leBytes 1 (s.rd F.GLB_ROLE_PREF) ++ leBytes 2 (s.rd F.GLB_ROLE_EPOCH) ++ leBytes 1 s.role ++
    leBytes 1 s.st ++ leBytes 4 s.armcyc ++ leBytes 1 s.mper ++ leBytes 8 s.imageId ++ s.secCrcs.flatMap (leBytes 4) ++
    leBytes 4 s.cyc ++ leBytes 4 (s.rd F.SCH_CPBASE_CYC)

/-- Training begins: on entry into LOADED or a restart of arm cycles with a Recipe whose TWIN flag is set, or at RETRAIN. -/
def relayStart (s : State) : State :=
  if !s.flag F.GLB_ROLE_TWIN then s
  else
    let s := { s with twn := { s.twn with attempts := 1, failed3 := false, limit := true, hbMiss := 0 } }
    standbyJudge (unsync ((linkState 1 s).emit (.relay 0 s.idBytes)))

/-- Transmitters idle: a switch that clears TWIN, or arm cycles stop (R481). -/
def relayOff (s : State) : State :=
  if s.rd F.TWN_STS_LSTATE = 0 then s
  else standbyJudge (unsync (setLanes 0 ((linkState 0 s).wr F.TWN_STS_CKLOCK 0)))

/-- The link leaves UP for LISTEN with FS370. The budget and the arms in sync stay as they were: a takeover is judged by them
(R502, R506). -/
def linkLost (s : State) : State :=
  if s.relayUp then
    let s := { s with twn := { s.twn with snapBuf := none, reh := s.twn.reh.map fun r => { r with abort := true } } }
    standbyJudge (raise 370 ((linkState 2 s).wrs [(F.TWN_STS_LANES, 0), (F.TWN_STS_CKLOCK, 0)]))
  else s

/-- The phase of cycle `c` in the control period of a base (R489). -/
def phaseOf (c base m : Nat) : Nat := unsigned 32 ((c : Int) - base) % m

/-- At the link's coming UP a difference of cycles is adopted below ARMED, or is cause ALIGN (R489). -/
def alignAtUp (s : State) : State :=
  let t := s.twn
  let same := t.pcyc = s.cyc && phaseOf t.pcyc t.pcpbase s.mper = phaseOf s.cyc (s.rd F.SCH_CPBASE_CYC) s.mper
  if same then s
  else
    let held := s.st = stARMED || s.st = stRUN || s.st = stBLOCKED
    if held then
      if s.rdBit F.TWN_NRCAUSE_CAUSE 3 then s else raiseEach 382 (s.putBit F.TWN_NRCAUSE_CAUSE 3 true)
    else if s.role = roSTANDBY || (s.role = roWAIT && !(s.rd F.TWN_STS_PROLE = roWAIT && s.flag F.GLB_ROLE_PREF)) then
      { s with twn := { s.twn with adopt := true } }
    else s

/-- The link comes UP with the measured LRLY in ns (R481, R482). Roles follow in the command. -/
def linkUp (lrly : Nat) (s : State) : State :=
  let s := { s with twn := { s.twn with hbMiss := 0, failed3 := false, alignBad := 0, alignGood := 0 } }
  let s := (s.wr F.TWN_LRLY_NS lrly).wr F.TWN_STS_CKLOCK 1
  let s := unraise 370 (unraise 368 (unsync (setLanes 0xF (linkState 3 s))))
  standbyJudge (alignAtUp s)

/-- RELAY_PARTNER_DETECTED: in LISTEN the partner's training sequence, with no time limit. -/
def partnerDetected (s : State) : State :=
  if s.rd F.TWN_STS_LSTATE = 2 then
    (linkState 1 { s with twn := { s.twn with limit := false } }).emit (.relay 0 s.idBytes)
  else s

/-- RELAY_PARTNER_DETECTED. -/
def execRelayPartnerDetected (s : State) : Res := .next (partnerDetected s)

/-- RELAY_LANE_LOSS of lane `j` (R484). -/
def laneLoss (j : Nat) (s : State) : State :=
  if s.relayUp && s.rdBit F.TWN_STS_LANES j then
    let left := clearBit (s.rd F.TWN_STS_LANES) j
    if left = 0 then linkLost (raiseEach 369 s) else raiseEach 369 (setLanes left s)
  else s

/-- RELAY_LANE_LOSS. -/
def execRelayLaneLoss (j : Fin 4) (s : State) : Res := .next (laneLoss j s)

/-- RELAY_LANE_REJOIN of lane `j` (R484). -/
def laneRejoin (j : Nat) (s : State) : State :=
  if s.relayUp then standbyJudge (setLanes (setBit (s.rd F.TWN_STS_LANES) j) s) else s

/-- RELAY_LANE_REJOIN. -/
def execRelayLaneRejoin (j : Fin 4) (s : State) : Res := .next (laneRejoin j s)

/-- RELAY_LINK_LOST. -/
def execRelayLinkLost (s : State) : Res := .next (linkLost s)

/-- `TWN.CTL.RETRAIN`: the link trains again from OFF. -/
def relayRetrain (s : State) : State := if s.running then relayStart (relayOff s) else s

/-- `TWN.CTL.RETRAIN` is written. -/
def execRelayRetrain (m : Master) (s : State) : Res := .next (gate m .p 0x3C0000 relayRetrain s)

/-- `TWN.CTL.CNTCLR`. -/
def twnCntclr (s : State) : State :=
  s.wrs ([F.TWN_ERR_CV, F.TWN_ERR_CRC, F.TWN_ERR_HBMISS, F.TWN_ERR_SNAPINC, F.TWN_CMPCNT_N, F.TWN_MISCNT_N,
    F.TWN_RSYNCCNT_N].map fun f => (f, 0))

/-- `TWN.CTL.CNTCLR` is written. -/
def execTwnCntclr (m : Master) (s : State) : Res := .next (gate m .u 0x3C0000 twnCntclr s)

/-- A packet whose CRC fails is discarded and counted; more than 16 in one second raise FS388 (R480, R519). -/
def crcError (s : State) : State :=
  let t := s.rawNs
  let l := (s.twn.crcTimes.filter fun x => decide (t < x + 1000000000)) ++ [t]
  let s := { s with twn := { s.twn with crcTimes := l } }.inc F.TWN_ERR_CRC
  if l.length = 17 then raise 388 s else s

/-! ### Identity (R485) -/

/-- RELAY_ID_RECEIVED: the partner's ID packet; equal MID or PREF raise FS372. `tw`: the partner selects TWIN (R488). -/
def idReceived (mid : Nat) (pref : Bool) (epoch role state image : Nat) (crcs : List Nat) (cyc base : Nat) (tw : Bool)
    (s : State) : State :=
  if !s.flag F.GLB_ROLE_TWIN then s
  else
    let s := s.wrs [(F.TWN_MID_PID, mid), (F.TWN_STS_PPREF, b2n pref), (F.TWN_PEPOCH_EPOCH, epoch), (F.TWN_STS_PROLE, role),
      (F.TWN_STS_PSTATE, state)]
    let clash := mid = s.rd F.TWN_MID_ID || pref = s.flag F.GLB_ROLE_PREF
    let t := s.twn
    let s := { s with twn := { t with pimage := image, pcrcs := crcs, pcyc := cyc, pcpbase := base, partnerTwin := tw, clash := clash } }
    standbyJudge (condition 372 clash s)

/-- RELAY_ID_RECEIVED. -/
def execRelayIdReceived (mid : BitVec 16) (pref : Bool) (epoch : BitVec 16) (role : Fin 4) (state : BitVec 4) (image : BitVec 64)
    (crcs : List Word) (cyc base : Word) (tw : Bool) (s : State) : Res :=
  .next (idReceived mid.toNat pref epoch.toNat role state.toNat image.toNat (crcs.map (·.toNat)) cyc.toNat base.toNat tw s)

/-! ### Cycle marks and heartbeats (R482, R483, R489) -/

/-- RELAY_CYCLE_MARK: K28.1 arrives now; e_tw is the own cycle start less the partner's, in [−ARMCYC/2, ARMCYC/2). `cv`: code
violations since the mark before (R480). -/
def cycleMark (cv : Nat) (s : State) : State :=
  if !s.relayUp || s.armcyc = 0 then s
  else
    let a : Int := s.armcyc
    let x := signed 64 (s.rd64 F.TB_CYCST_LO_T F.TB_CYCST_HI_T) - (s.nowInt - s.rd F.TWN_LRLY_NS)
    let e := (x + a / 2) % a - a / 2
    (s.inc F.TWN_ERR_CV cv).wr F.TWN_ALIGN_NS (unsigned 32 e)

/-- RELAY_CYCLE_MARK. -/
def execRelayCycleMark (cv : Byte) (s : State) : Res := .next (cycleMark cv.toNat s)

/-- The HB packet of this unit (R483). -/
def State.hbBytes (s : State) : List Byte :=
  leBytes 4 s.cyc ++ leBytes 4 (s.rd F.SCH_CPBASE_CYC) ++ leBytes 1 s.st ++ leBytes 1 s.role ++
    leBytes 2 (s.rd F.GLB_ROLE_EPOCH) ++ leBytes 1 (s.rd F.FC_STS_DEG + 2 * s.rd F.FC_STS_HOV + 4 * s.rd F.FC_STS_BLK +
      8 * s.rd F.FC_STS_TRIP + 16 * s.rd F.FC_STS_SELF + 32 * s.rd F.GLB_ROLE_NOT_READY) ++ leBytes 4 (s.rd F.TWN_ALIGN_NS)

/-- A cycle mark and an HB packet leave at CRT 0 (R482, R483). -/
def hbSend (s : State) : State := s.relay 0x01 s.hbBytes

/-- The cycle counts to 16 of cause ALIGN are complete (R489). -/
def alignChange (s : State) : State :=
  let on := s.rdBit F.TWN_NRCAUSE_CAUSE 3
  if !on && 16 ≤ s.twn.alignBad then readyJudge (raise 382 (s.putBit F.TWN_NRCAUSE_CAUSE 3 true))
  else if on && 16 ≤ s.twn.alignGood then readyJudge (unraise 382 (s.putBit F.TWN_NRCAUSE_CAUSE 3 false))
  else s

/-- TWIN_ALIGN_CHANGE. -/
def execTwinAlignChange (s : State) : Res := .next (alignChange s)

/-- One cycle's alignment is judged at its heartbeat: |e_tw|, the CYC values, the phases (R489). In the last half of a cycle
the partner's heartbeat belongs to the coming one. -/
def alignCycle (s : State) : State :=
  let t := s.twn
  let own := if (s.armcyc : Int) < 2 * s.crt then (s.cyc + 1) % 2 ^ 32 else s.cyc
  let bad := decide (s.rd F.TWN_ALIGNTH_NS < (signed 32 (s.rd F.TWN_ALIGN_NS)).natAbs) || t.pcyc != own ||
    phaseOf t.pcyc t.pcpbase s.mper != phaseOf own (s.rd F.SCH_CPBASE_CYC) s.mper
  alignChange { s with twn := { t with alignBad := if bad then min 16 (t.alignBad + 1) else 0, alignGood := if bad then 0 else min 16 (t.alignGood + 1) } }

/-- EPOCH of a STANDBY with the link UP: the active unit's less 1 (R486). -/
def standbyEpoch (s : State) : State :=
  if s.role = roSTANDBY && s.relayUp && s.rd F.TWN_STS_PROLE = roACTIVE && s.twn.drive.isNone then
    s.wr F.GLB_ROLE_EPOCH (s.rd F.TWN_PEPOCH_EPOCH - 1)
  else s

/-- The partner's degraded mark (R458, R519). -/
def partnerDegraded (on : Bool) (s : State) : State := condition 380 on (s.put F.TWN_STS_PDEG on)

/-- RELAY_HB_RECEIVED (R483). `flags`: DEG, HOV, BLK, TRIP, SELF. -/
def hbReceived (ok : Bool) (cyc base state role epoch flags : Nat) (nr : Bool) (s : State) : State :=
  if !s.relayUp then s
  else if !ok then crcError s
  else
    let s := s.wrs [(F.TWN_STS_PROLE, role), (F.TWN_STS_PSTATE, state), (F.TWN_PEPOCH_EPOCH, epoch)]
    let s := if s.flag F.TWN_STS_PNR = nr then s else (s.put F.TWN_STS_PNR nr).event 14
    let next := decide ((s.armcyc : Int) < 2 * s.crt)
    let s := { s with twn := { s.twn with pcyc := cyc, pcpbase := base, hbMiss := 0, pflags := flags, pnext := next } }
    let s := partnerDegraded (flags.testBit 0) s
    standbyJudge (alignCycle (standbyEpoch s))

/-- RELAY_HB_RECEIVED. -/
def execRelayHbReceived (ok : Bool) (cyc base : Word) (state : BitVec 4) (role : Fin 4) (epoch : BitVec 16) (flags : BitVec 5)
    (nr : Bool) (s : State) : Res :=
  .next (hbReceived ok cyc.toNat base.toNat state.toNat role epoch.toNat flags.toNat nr s)

/-- DEG_RECEIVED: a degraded mark of the partner set or cleared (R458). -/
def execDegReceived (on : Bool) (s : State) : Res := .next (if s.relayUp then partnerDegraded on s else s)

end Sys2Proof.Machine
end

