-- ==== Sys2Proof/Machine/Timebase.lean ====
section
/-! DEFINITION. Device time (spec/11): the tick, `TB.RATE`, STEP, SET, SLEW, the time source, PPS input and output,
and the alignment of cycle starts. What a change of time does to waiting Waybill entries stands in
`Sys2Proof/Machine/Waybill.lean`, which the command meanings of this unit call. -/

namespace Sys2Proof.Machine

/-- 2^64: the modulus of TB.RAW in units of 2^−16 ns. -/
def rawMod : Nat := 2 ^ 64

/-- The commands STEP, SET, SLEW and `TB.RATE` belong to a servo: SRC is PTP or PPS (R358). -/
def State.servoOwned (s : State) : Bool := s.rd F.TB_SRC_SRC = 1 || s.rd F.TB_SRC_SRC = 2

/-- `TB.STS.SYNC` and HOLD follow the time source (R358). -/
def syncJudge (s : State) : State :=
  let src := s.rd F.TB_SRC_SRC
  let sync := if src = 1 then s.flag F.NET_PTPSTS_LOCK else if src = 2 then s.flag F.TB_STS_PPSLOCK
    else s.flag F.TB_CTL_HSYNC
  (s.put F.TB_STS_SYNC sync).put F.TB_STS_HOLD (!sync && s.tb.delivered && s.servoOwned)

/-- A new `TB.RATE` takes effect; OFSX is rebased so that TB.NOW stays continuous (R356). -/
def setRate (rate : Int) (s : State) : State :=
  let d := ((s.tb.raw : Int) * (rate - s.rate)).fdiv rateUnit
  { s with tb := { s.tb with ofsx := s.tb.ofsx - d } }.wr F.TB_RATE_RATE (unsigned 32 rate)

/-- The slew rate in effect: at most 20 ppm in ARMED, RUN and BLOCKED (R357). -/
def State.slewPpm (s : State) : Nat :=
  let p := s.rd F.TB_SLEWCFG_PPM
  if s.st = stARMED || s.st = stRUN || s.st = stBLOCKED then min p 20 else p

/-- The step of a slew due at this tick in 10^−6 units of OFSX: 2 × PPM × 10^−6 ns and what the steps before left over
(notes/assumptions/8). -/
def State.slewDue (s : State) : Nat := 131072 * s.slewPpm + s.tb.slewFrac

/-- One step of a slew in whole units of OFSX, toward the end of ADJ. -/
def State.slewStep (s : State) : Int :=
  let q : Int := (s.slewDue / 1000000 : Nat)
  max (-q) (min q s.tb.slewRem)

/-- A slew in progress takes one step. -/
def slewTick (s : State) : State :=
  if s.tb.slewing then
    { s with tb := { s.tb with
        ofsx := s.tb.ofsx + s.slewStep, slewRem := s.tb.slewRem - s.slewStep, slewFrac := s.slewDue % 1000000 } }
  else s

/-- One tick in units of 2^−16 ns: 2.0 ns (R353). -/
def rawPerTick : Nat := 131072

/-- TB.RAW advances by one tick (R353); at the wrap of its integer part OFSX is rebased (R356). -/
def rawTick (s : State) : State :=
  if s.tb.raw + rawPerTick < rawMod then { s with tb := { s.tb with raw := s.tb.raw + rawPerTick } }
  else
    { s with tb := { s.tb with
        raw := s.tb.raw + rawPerTick - rawMod
        ofsx := s.tb.ofsx + ((rawMod : Int) * (rateUnit + s.rate)).fdiv rateUnit } }

/-- One tick of the timebase clock: TB.RAW advances, a slew goes on (R353, R357). -/
def tick (s : State) : State := slewTick (rawTick s)

/-- TB.RAW's integer part wraps with the next tick. -/
def State.rawWraps (s : State) : Bool := decide (rawMod ≤ s.tb.raw + rawPerTick)

/-- The instant at which TB.RAW's integer part wraps: the tick that wraps it, with OFSX rebased (R356). -/
def execTbRawWrap (s : State) : Res := .next (if s.rawWraps then tick s else s)

/-- The slew in progress ends (R357). -/
def slewEnd (s : State) : State :=
  ({ s with tb := { s.tb with slewing := false, slewRem := 0 } }.wr F.TB_STS_SLEWING 0).wr F.TB_CTL_SLEW 0

/-- N of the PPS_OUT boundary at or before TB.NOW (R361). -/
def State.ppsN (s : State) : Int := (s.nowInt - signed 32 (s.rd F.TB_PPSOFS_NS)).fdiv 1000000000

/-- OFSX takes a new value by STEP or SET (R357): any slew ends, STEPPED, STEPCNT and FS274; a PPS_OUT boundary that
is jumped over gives no pulse (R361). -/
def jumpTime (ofsx : Int) (s : State) : State :=
  let n := s.ppsN
  let s := slewEnd s
  let s := { s with tb := { s.tb with ofsx := ofsx } }
  let s := if n < s.ppsN && s.flag F.TB_PPSOUT_EN then
      { s with tb := { s.tb with ppsLastN := some (max s.ppsN (s.tb.ppsLastN.getD s.ppsN)) } }.wr F.TB_STS_PPS_SKIP 1
    else s
  raise 274 ((s.wr F.TB_STS_STEPPED 1).inc F.TB_STEPCNT_N)

/-- STEP by `adj` ns (R357). -/
def stepTime (adj : Int) (s : State) : State := jumpTime (s.tb.ofsx + adj * 65536) s

/-- SET of TB.NOW to `t` ns (R357). -/
def setTime (t : Int) (s : State) : State :=
  jumpTime (t * 65536 - ((s.tb.raw : Int) * (rateUnit + s.rate)).fdiv rateUnit) s

/-- SLEW by `adj` ns, or its refusal (R357). -/
def slewTime (adj : Int) (s : State) : State :=
  if 2 ^ 31 ≤ adj.natAbs then s.wr F.TB_STS_ADJERR 1
  else
    let s := slewEnd s
    ({ s with tb := { s.tb with slewing := true, slewRem := adj * 65536, slewFrac := 0 } }.wr F.TB_STS_SLEWING 1).wr F.TB_CTL_SLEW 1

/-- ADJ as a signed number of ns (R357). -/
def State.adj (s : State) : Int := signed 64 (s.rd64 F.TB_ADJ_LO_T F.TB_ADJ_HI_T)

/-- A host's adjustment is dropped while a servo owns the time (R358). -/
def hostAdjust (k : State → State) (s : State) : State :=
  if s.servoOwned then s.wr F.TB_STS_SRCWR 1 else k s

/-- A write to `TB.RATE` (R356, R358). -/
def tbRateWrite (v : Nat) : State → State := hostAdjust (setRate (signed 32 v))

/-- `TB.RATE` is written. -/
def execTbRateWrite (m : Master) (value : Word) (s : State) : Res :=
  .next (gate m .p 0x300020 (tbRateWrite value.toNat) s)

/-- SLEW written to `TB.CTL`. -/
def execSlew (m : Master) (s : State) : Res :=
  .next (gate m .p 0x300000 (hostAdjust fun s => slewTime s.adj s) s)

/-- SLEWSTOP written to `TB.CTL`. -/
def execSlewstop (m : Master) (s : State) : Res := .next (gate m .p 0x300000 (hostAdjust slewEnd) s)

/-- A slew has applied all of ADJ (R357). -/
def slewComplete (s : State) : State := if s.tb.slewing && s.tb.slewRem = 0 then slewEnd s else s

/-- The end of a slew. -/
def execSlewComplete (s : State) : Res := .next (slewComplete s)

/-- `TB.CTL.CNTCLR` (R376). -/
def tbCntclr (s : State) : State :=
  s.wrs [(F.TB_PPSCNT_GOOD, 0), (F.TB_PPSCNT_BAD, 0), (F.WB_MAXLAT_N, 0), (F.WB_HWM_N, 0), (F.WB_CNT0_LATE, 0),
    (F.WB_CNT0_LATEDROP, 0), (F.WB_CNT1_FULL, 0), (F.WB_CNT1_FLUSH, 0), (F.WB_CNT2_SHSKIP, 0), (F.WB_CNT2_FRZDROP, 0)]

/-- `TB.CTL.CNTCLR` is written. -/
def execTbCntclr (m : Master) (s : State) : Res := .next (gate m .u 0x300000 tbCntclr s)

/-! ### PPS (R359 to R361) -/

/-- The error of a PPS stamp, in [−500,000,000, +500,000,000) ns (R359). -/
def ppsError (x : Int) : Int := x - 1000000000 * (x + 500000000).fdiv 1000000000

/-- The correction that a valid PPS edge makes under SRC = PPS (R359); `jump` makes a STEP, with its consequences. -/
def ppsServo (jump : Int → State → State) (e : Int) (s : State) : State :=
  let s := { s with tb := { s.tb with delivered := true } }
  if s.rd F.TB_PPSCFG_STEPTH * 1000 ≤ e.natAbs then
    -- a STEP caused by PPS_IN clears PPSLOCK and its count (R360)
    let s := raise 273 (jump (-e) s)
    { s with tb := { s.tb with ppsGood := 0 } }.wr F.TB_STS_PPSLOCK 0
  else
    let s := unraise 273 s
    let r := s.rate - e * 2 ^ (16 - s.rd F.TB_PPSCFG_KISH)
    let rc := clampS 32 r
    let s := if r = rc then s else s.wr F.TB_STS_RATECLIP 1
    slewTime (-(e.fdiv (2 ^ s.rd F.TB_PPSCFG_KPSH))) (setRate rc s)

/-- A rising edge at PPS_IN (R359, R360). -/
def ppsInEdge (jump : Int → State → State) (s : State) : State :=
  let t := s.nowInt
  let valid := match s.tb.ppsPrev with
    | none => true
    | some p => decide ((t - p - 1000000000).natAbs ≤ 100000)
  if !valid then s.inc F.TB_PPSCNT_BAD
  else
    let e := ppsError (t - signed 32 (s.rd F.TB_PPSCAB_NS))
    let ok := decide (e.natAbs ≤ s.rd F.TB_PPSCFG_LOCKTH)
    let good := if ok then s.tb.ppsGood + 1 else 0
    let s := (s.wr64 F.TB_PPSIN_LO_T F.TB_PPSIN_HI_T (unsigned 64 t)).inc F.TB_PPSCNT_GOOD
    let s := s.wr F.TB_PPSERR_NS (unsigned 32 e)
    let s := { s with tb := { s.tb with ppsPrev := some t, ppsGood := min 4 good } }
    let s := if !ok then s.wr F.TB_STS_PPSLOCK 0 else if 4 ≤ good then s.wr F.TB_STS_PPSLOCK 1 else s
    let s := unraise 272 s
    let s := if s.rd F.TB_SRC_SRC = 2 then ppsServo jump e s else s
    syncJudge s

/-- 2.0 s without a valid PPS edge (R360). -/
def ppsLoss (s : State) : State :=
  let s := (s.wr F.TB_STS_PPSLOCK 0).wr F.TB_STS_PPSLOST 1
  let s := { s with tb := { s.tb with ppsPrev := none, ppsGood := 0 } }
  syncJudge (if s.rd F.TB_SRC_SRC = 2 then raise 272 s else s)

/-- PPS_IN is lost. -/
def execPpsLoss (s : State) : Res := .next (ppsLoss s)

/-- TB.NOW reaches N × 10^9 + PPSOFS: PPS_OUT rises, once for each N, with SYNC or FREE (R361). -/
def ppsOutEdge (s : State) : State :=
  let fresh := match s.tb.ppsLastN with
    | none => true
    | some n => decide (n < s.ppsN)
  if s.flag F.TB_PPSOUT_EN && (s.flag F.TB_STS_SYNC || s.flag F.TB_PPSOUT_FREE) && fresh then
    { s with tb := { s.tb with ppsOut := true, ppsLastN := some s.ppsN } }.emit (.pin 4 true)
  else s

/-- The rising edge at PPS_OUT. -/
def execPpsOutEdge (s : State) : Res := .next (ppsOutEdge s)

/-- WIDTH µs after its rising edge PPS_OUT falls (R361). -/
def ppsOutFall (s : State) : State :=
  if s.tb.ppsOut then { s with tb := { s.tb with ppsOut := false } }.emit (.pin 4 false) else s

/-- The falling edge at PPS_OUT. -/
def execPpsOutFall (s : State) : Res := .next (ppsOutFall s)

/-- The time source named in `TB.SRC` stops delivering corrections (R358). -/
def timeSourceLoss (s : State) : State :=
  let src := s.rd F.TB_SRC_SRC
  let s := if src = 1 then s.wr F.NET_PTPSTS_LOCK 0 else if src = 2 then s.wr F.TB_STS_PPSLOCK 0 else s
  syncJudge s

/-- The loss of the time source. -/
def execTimeSourceLoss (s : State) : Res := .next (timeSourceLoss s)

/-! ### Cycle starts (R362 to R366) -/

/-- The 16th consecutive cycle with a phase error above ERRTH raises FS275 (R365). -/
def phaseErrorLimit (s : State) : State := if 16 ≤ s.tb.errRun then raise 275 s else s

/-- The limit of the cycle phase error is reached. -/
def execCyclePhaseErrorLimit (s : State) : Res := .next (phaseErrorLimit s)

/-- The partner's CYC at this cycle start, by its latest heartbeat (R488). -/
def State.partnerCyc (s : State) : Nat := (s.twn.pcyc + b2n (!s.twn.pnext) + s.twn.hbMiss) % 2 ^ 32

/-- The phase error against the nearest target start of network time, and the number of that target (R363). -/
def State.netTarget (s : State) : Int × Nat :=
  let a := s.armcyc
  let x := s.nowInt - s.rd F.TB_CYCPH_NS
  let m := (x + a / 2).fdiv a
  (x - m * a, unsigned 32 m)

/-- Without SYNC the comparison with network time goes on, and nothing is corrected (R363, R365). -/
def netShow (s : State) : State :=
  if s.rd F.TB_CYCCFG_SRC = 0 && s.armcyc != 0 then
    let e := s.netTarget.1
    (s.wr F.TB_CYCERR_NS (unsigned 32 e)).put F.TB_STS_ALIGNED (decide (e.natAbs ≤ s.rd F.TB_CYCCFG_SLEW))
  else s

/-- The phase error and the target number that alignment compares a cycle start with: network time (R363) or the
partner (R488), none when no correction applies. The partner's start counts as the target, numbered by its CYC. -/
def State.alignTarget (s : State) : Option (Int × Nat) :=
  let src := s.rd F.TB_CYCCFG_SRC
  if s.armcyc = 0 then none
  else if src = 0 && s.flag F.TB_STS_SYNC then some s.netTarget
  else if src = 1 && s.relayUp && !(s.flag F.GLB_ROLE_PREF && s.twn.partnerTwin) then
    some (signed 32 (s.rd F.TWN_ALIGN_NS), s.partnerCyc)
  else none

/-- The correction that the cycle start of this moment sets, the alignment flags, and the renumbering (R365). -/
def cycleAlign (s : State) : State :=
  match s.alignTarget with
  | none => netShow { s with tb := { s.tb with corr := 0, renum := none, errRun := 0 } }
  | some (e, num) =>
    let slew := s.rd F.TB_CYCCFG_SLEW
    let s := s.wr F.TB_CYCERR_NS (unsigned 32 e)
    let numErr := unsigned 32 ((s.cyc : Int) - num)
    let near := decide (e.natAbs ≤ slew)
    let s := s.put F.TB_STS_ALIGNED near
    let far := decide (s.rd F.TB_CYCCFG_ERRTH < e.natAbs)
    let s := { s with tb := { s.tb with errRun := if far then min 16 (s.tb.errRun + 1) else 0 } }
    let s := if far then phaseErrorLimit s else unraise 275 s
    let held := s.st = stARMED || s.st = stRUN || s.st = stBLOCKED || !s.flag F.TB_CYCCFG_RENUM
    if held then
      let s := if numErr = 0 then s else s.wr F.TB_STS_CYCNUM 1
      { s with tb := { s.tb with corr := -(max (-(slew : Int)) (min e slew)), renum := none } }
    else if !near || numErr != 0 then
      let next := (num + 1 + b2n (decide (0 < e))) % 2 ^ 32
      { s with tb := { s.tb with corr := (-e) % (s.armcyc : Int), renum := some next } }
    else { s with tb := { s.tb with corr := -e, renum := none } }

end Sys2Proof.Machine
end

