-- ==== Sys2Proof/Machine/Network.lean ====
section
/-! DEFINITION. The station network ports (R381 to R405): links, received frames, the PRP pair, PTP, the bridge, sampled
values, timed frame launch and host frames. Where the PTP servo steps the time it takes the step as a parameter, whose
consequences for the Waybill queue stand in `Waybill.lean`. -/

namespace Sys2Proof.Machine

/-! ### Ports and stamps (R381, R383) -/

/-- Port `p` beside its registers. -/
def State.port (s : State) (p : Nat) : PortSt := s.net.ports.getD p {}

/-- Port `p` changes. -/
def State.setPort (s : State) (p : Nat) (f : PortSt → PortSt) : State :=
  { s with net := { s.net with ports := modifyPad {} f p s.net.ports } }

/-- `NET.P[p].CFG.MODE` is not OFF. -/
def State.portOn (s : State) (p : Nat) : Bool := s.rd (F.NET_P_CFG_MODE p) != 0

/-- SGMII. -/
def State.sgmii (s : State) (p : Nat) : Bool := s.rd (F.NET_P_CFG_MODE p) = 3

/-- Units of 1/327,680 ns in 1 ns: a common unit of 0.1 ns, 0.25 ns and 2^−16 ns. -/
def tickUnit : Int := 327680

/-- TB.NOW of a receive timestamp point `age` quarter ns before this moment, to 0.25 ns, in units of 1/327,680 ns; for SGMII
less `LAT.RX` (R383). -/
def State.rxStamp (s : State) (p age : Nat) : Int :=
  let q := (s.nowFixAt s.tb.raw - age * 16384).fdiv 16384
  q * 81920 - (if s.sgmii p then s.rd (F.NET_P_LAT_RX p) * 32768 else 0)

/-- TB.NOW of a transmit timestamp point at this moment, likewise; for SGMII plus `LAT.TX` (R383). -/
def State.txStamp (s : State) (p : Nat) : Int :=
  (s.nowFixAt s.tb.raw).fdiv 16384 * 81920 + (if s.sgmii p then s.rd (F.NET_P_LAT_TX p) * 32768 else 0)

/-- The code-group bound of a launch on port `p` in ns (R400). -/
def State.groupNs (s : State) (p : Nat) : Nat :=
  match s.rd (F.NET_P_CFG_MODE p) with
  | 1 => 40
  | 3 => if s.flag (F.NET_P_STS_SPEED p) then 8 else 80
  | _ => 8

/-- The preamble time of port `p` in ns: 8 bytes at its data rate. -/
def State.preambleNs (s : State) (p : Nat) : Nat :=
  if s.rd (F.NET_P_CFG_MODE p) = 1 || (s.sgmii p && !s.flag (F.NET_P_STS_SPEED p)) then 640 else 64

/-- A PRP port is lost while its link is down or while it is silent (R385). -/
def prpJudge (s : State) : State :=
  let lost := fun p => s.flag F.NET_PRP_EN && (!s.flag (F.NET_P_STS_LINK p) || (s.port p).silent)
  condition 288 (lost 0 || lost 1) ((s.put F.NET_PRP_LOSTA (lost 0)).put F.NET_PRP_LOSTB (lost 1))

/-- PRP_PORT_LOST: port `p` is silent for 100 × LANTMO ms while the other port hears the same sources. -/
def prpLost (p : Nat) (s : State) : State :=
  if s.flag F.NET_PRP_EN then prpJudge (s.setPort p fun x => { x with silent := true }) else s

/-- PRP_PORT_LOST. -/
def execPrpPortLost (p : Fin 2) (s : State) : Res := .next (prpLost p s)

/-! ### PTP: master selection (R386, R388) -/

/-- Port `p` carries PTP. -/
def State.ptpPort (s : State) (p : Nat) : Bool := s.rdBit F.NET_PTPCFG_PORTS p && s.portOn p

/-- dL of port `p` is valid: some exchange has been kept since reset, PTPRST or a failure (R387). -/
def State.dlValid (s : State) (p : Nat) : Bool := !(s.port p).kept.isEmpty

/-- The lists compare as their first different element does. -/
def lexLt : List Nat → List Nat → Bool
  | a :: as, b :: bs => a < b || (a == b && lexLt as bs)
  | [], _ :: _ => true
  | _, [] => false

/-- The qualified masters of the ports that take part, with their rank: the dataset, stepsRemoved, the port number (R388). -/
def State.masterList (s : State) : List (List Nat × Nat × Foreign) :=
  (List.range 4).flatMap fun p =>
    if s.ptpPort p && s.dlValid p then
      ((s.port p).masters.filter (·.qualified)).map fun m => (m.rank ++ [m.steps, p], p, m)
    else []

/-- The least of a list of ranked masters. -/
def bestMaster : List (List Nat × Nat × Foreign) → Option (List Nat × Nat × Foreign)
  | [] => none
  | x :: xs => match bestMaster xs with
    | some y => if lexLt y.1 x.1 then some y else some x
    | none => some x

/-- LOCK changes: event PTP, and SYNC under SRC = PTP (R390, R358, R525). -/
def setLock (on : Bool) (s : State) : State :=
  let s := if on then s else { s with net := { s.net with good := 0 } }
  let s := if s.flag F.NET_PTPSTS_LOCK = on then s else (s.put F.NET_PTPSTS_LOCK on).event 10
  syncJudge s

/-- The choice of the master and the states of the ports follow what is heard (R388, R390). -/
def chooseMaster (s : State) : State :=
  let best := bestMaster s.masterList
  let s := s.wr F.NET_PTPSTS_SLAVE (match best with | some b => b.2.1 | none => 7)
  let s := forAll (List.range 4) (fun p s =>
    let st := if !s.ptpPort p then 0
      else match best with
        | some b => if b.2.1 = p then 3
          else if s.dlValid p && (s.port p).masters.any (fun m => m.qualified && m.gm == b.2.2.gm) then 2 else 1
        | none => 1
    s.wr (F.NET_P_STS_PTPST p) st) s
  match best with
  | none => setLock false (if s.rd F.TB_SRC_SRC = 1 then raise 289 s else s)
  | some b =>
    let m := b.2.2
    let s := unraise 289 s
    if m.gm = s.rd64 F.NET_GMID_LO_ID F.NET_GMID_HI_ID then s
    else
      let s := (s.wr64 F.NET_GMID_LO_ID F.NET_GMID_HI_ID m.gm).wrs [(F.NET_GMQ_CLASS, m.cls), (F.NET_GMQ_ACC, m.acc),
        (F.NET_GMQ_STEPS, min 255 m.steps), (F.NET_GMQ_UTCOFS, min 255 m.utc), (F.NET_PTPSTS_GMCHG, 1)]
      raise 290 s

/-- A PTP message that is ignored (R386). -/
def ptpIgnore (s : State) : State := s.inc F.NET_PTPSTS_IGN

/-- The logarithm of an interval as a signed byte. -/
def logOf (b : Byte) : Int := signed 8 b.toNat

/-- 2^log seconds in ns. -/
def intervalNs (log : Int) : Nat := if 0 ≤ log then 1000000000 * 2 ^ log.toNat else 1000000000 / 2 ^ (-log).toNat

/-- PTP_ANNOUNCE_RECEIVED: an Announce on port `p` from port identity `src`; `rank` is priority1, clockClass, clockAccuracy,
offsetScaledLogVariance, priority2 and grandmasterIdentity, in this order. A second one within 4 intervals qualifies. -/
def announce (p domain src : Nat) (log : Int) (rank : List Nat) (steps utc : Nat) (s : State) : State :=
  if !s.ptpPort p then s
  else if domain != s.rd F.NET_PTPCFG_DOMAIN || log < -3 || 3 < log then ptpIgnore s
  else
    let t := s.rawNs
    let old := (s.port p).masters.find? (·.src == src)
    let q := match old with
      | some m => m.qualified || decide (t ≤ m.heard + 4 * intervalNs log)
      | none => false
    let m : Foreign := ⟨src, t, q, rank, rank.getD 5 0, rank.getD 1 0, rank.getD 2 0, steps, utc⟩
    chooseMaster (s.setPort p fun x => { x with masters := x.masters.filter (·.src != src) ++ [m] })

/-- PTP_ANNOUNCE_RECEIVED. -/
def execPtpAnnounceReceived (p : Fin 4) (domain : Byte) (src : BitVec 80) (log pri1 cls acc : Byte) (var : BitVec 16)
    (pri2 : Byte) (gm : BitVec 64) (steps utc : BitVec 16) (s : State) : Res :=
  .next (announce p domain.toNat src.toNat (logOf log) [pri1.toNat, cls.toNat, acc.toNat, var.toNat, pri2.toNat, gm.toNat]
    steps.toNat utc.toNat s)

/-- PTP_ANNOUNCE_TIMEOUT of master `src` on port `p`: 3 intervals without an Announce (R386, R388). -/
def announceTimeout (p src : Nat) (s : State) : State :=
  chooseMaster (s.setPort p fun x => { x with masters := x.masters.filter (·.src != src) })

/-- PTP_ANNOUNCE_TIMEOUT. -/
def execPtpAnnounceTimeout (p : Fin 4) (src : BitVec 80) (s : State) : Res := .next (announceTimeout p src.toNat s)

/-- `NET.CTL.PTPRST`: master selection and peer delay start again on every port. -/
def ptpReset (s : State) : State :=
  let s := forAll (List.range 4) (fun p s =>
    let s := s.setPort p fun x => { x with kept := [], outliers := 0, reqT1 := none, misses := 0, masters := [], sync := none }
    s.wr (F.NET_P_MDL_T p) 0x7FFFFFFF) s
  chooseMaster s

/-- `NET.CTL.PTPRST` is written. -/
def execPtprst (m : Master) (s : State) : Res := .next (gate m .p 0x340000 ptpReset s)

/-! ### PTP: peer delay (R387) -/

/-- dL of port `p` becomes invalid, with PDFAIL and FS293. -/
def pdFail (p : Nat) (s : State) : State :=
  let s := (s.setPort p fun x => { x with kept := [], outliers := 0 }).wrs [(F.NET_P_STS_PDFAIL p, 1), (F.NET_P_MDL_T p, 0x7FFFFFFF)]
  chooseMaster (raise 293 s)

/-- PDELAY_REQ_SEND on port `p`; the third request in a row without a response has failed by now. -/
def pdelaySend (p : Nat) (s : State) : State :=
  if !s.ptpPort p then s
  else
    let x := s.port p
    let misses := if x.reqT1.isSome then x.misses + 1 else 0
    let s := if misses = 3 then pdFail p s else s
    let seq := (x.reqSeq + 1) % 65536
    let t1 := s.txStamp p
    let s := s.setPort p fun x => { x with misses := misses, reqSeq := seq, reqT1 := some t1 }
    (s.inc (F.NET_P_CNT2_TXOK p)).emit (.ptp p 0 seq 0)

/-- PDELAY_REQ_SEND. -/
def execPdelayReqSend (p : Fin 4) (s : State) : Res := .next (pdelaySend p s)

/-- PDELAY_REQ_RECEIVED: the answer carries the turnaround `turn`, measured between the two timestamp points, in 2^−16 ns. -/
def pdelayAnswer (p seq turn : Nat) (s : State) : State :=
  if s.ptpPort p then (s.inc (F.NET_P_CNT2_TXOK p)).emit (.ptp p 1 seq turn) else s

/-- PDELAY_REQ_RECEIVED. -/
def execPdelayReqReceived (p : Fin 4) (seq : BitVec 16) (turn : BitVec 48) (s : State) : Res :=
  .next (pdelayAnswer p seq.toNat turn.toNat s)

/-- The mean of the kept exchanges in 0.1 ns. -/
def meanDelay (l : List Int) : Int := divRound (l.foldl (· + ·) 0) (32768 * max 1 l.length)

/-- PDELAY_RESP_RECEIVED: an exchange with t4 `age` quarter ns ago, t3 − t2 = `turn` and correction `corr` in 2^−16 ns. -/
def pdelayResponse (p age seq : Nat) (turn corr : Int) (s : State) : State :=
  let x := s.port p
  match x.reqT1 with
  | none => s
  | some t1 =>
    if !s.ptpPort p || seq != x.reqSeq then s
    else
      let d := (s.rxStamp p age - t1 - 5 * turn - 5 * corr).fdiv 2
      let present := signed 32 (s.rd (F.NET_P_MDL_T p)) * 32768
      let out := s.dlValid p && decide (s.rd F.NET_PTPLIM_PDTH * tickUnit < (d - present).natAbs)
      let n := if out then x.outliers + 1 else 0
      let s := unraise 293 (s.wr (F.NET_P_STS_PDFAIL p) 0)
      let s := s.setPort p fun x => { x with reqT1 := none, misses := 0, outliers := n }
      if out && n < 4 then s
      else
        let kept := (d :: x.kept).take 8
        let s := s.setPort p fun x => { x with kept := kept, outliers := 0 }
        chooseMaster (s.wr (F.NET_P_MDL_T p) (unsigned 32 (meanDelay kept)))

/-- PDELAY_RESP_RECEIVED. -/
def execPdelayRespReceived (p : Fin 4) (age : Word) (seq : BitVec 16) (turn corr : BitVec 64) (s : State) : Res :=
  .next (pdelayResponse p age.toNat seq.toNat turn.toInt corr.toInt s)

/-! ### PTP: the servo (R389, R390) -/

/-- The PTP servo's correction for offset `o` in ns, with log sync interval `l`; `jump` makes a STEP. -/
def ptpCorrect (jump : Int → State → State) (o l : Int) (s : State) : State :=
  let s := { s with tb := { s.tb with delivered := true } }
  let slew := fun (d : Int) (s : State) =>
    if (2 ^ 31 : Nat) ≤ d.natAbs then raise 291 ((slewTime d s).wr F.NET_PTPSTS_NOCORR 1) else slewTime d s
  if s.rd F.NET_PTPSRV_STEPTH * 1000 ≤ o.natAbs then
    if (s.st = stARMED || s.st = stRUN || s.st = stBLOCKED) && !s.flag F.NET_PTPSRV_RUNSTEP then
      let s := slew (-o) s
      if (2 ^ 31 : Nat) ≤ o.natAbs then s else raise 291 s
    else setLock false (jump (-o) s)
  else
    let r := s.rate - o * 2 ^ (16 - s.rd F.NET_PTPSRV_KISH - l).toNat
    let rc := clampS 32 r
    let s := if r = rc then s else s.wr F.NET_PTPSTS_RATECLIP 1
    slew (-(o.fdiv (2 ^ s.rd F.NET_PTPSRV_KPSH))) (setRate rc s)

/-- An offset is computed: PTPOFS, the correction with SRC = PTP, LOCK and FS292. `o` is in units of 1/327,680 ns. -/
def ptpOffset (jump : Int → State → State) (o l : Int) (s : State) : State :=
  let o := divRound o tickUnit.toNat
  let s := s.wr F.NET_PTPOFS_NS (unsigned 32 (clampS 32 o))
  let lock := s.flag F.NET_PTPSTS_LOCK
  let near := decide (o.natAbs ≤ s.rd F.NET_PTPLIM_LOCKTH)
  let far := lock && decide (s.rd F.NET_PTPLIM_ERRTH * 1000 < o.natAbs)
  let good := if near then min 4 (s.net.good + 1) else 0
  let s := { s with net := { s.net with good := good, errRun := if far then min 16 (s.net.errRun + 1) else 0 } }
  let s := if s.net.errRun = 16 then raise 292 s
    else if o.natAbs ≤ s.rd F.NET_PTPLIM_ERRTH * 1000 then unraise 292 s else s
  let s := if !near then setLock false s else if good = 4 then setLock true s else s
  if s.rd F.TB_SRC_SRC = 1 then syncJudge (ptpCorrect jump o l s) else s

/-- PTP_SYNC_RECEIVED on port `p`: one-step it gives the offset, two-step it waits for its Follow_Up (R389). `t1` is
seconds and nanoseconds of originTimestamp, `corr` the correctionField. -/
def ptpSync (jump : Int → State → State) (p age domain src : Nat) (log : Int) (two : Bool) (seq t1 : Nat) (corr : Int)
    (s : State) : State :=
  if !s.ptpPort p then s
  else if domain != s.rd F.NET_PTPCFG_DOMAIN || log < -4 || 1 < log then ptpIgnore s
  else if s.rd F.NET_PTPSTS_SLAVE != p then s
  else
    let t2 := s.rxStamp p age
    let dl := signed 32 (s.rd (F.NET_P_MDL_T p)) + signed 32 (s.rd (F.NET_P_ASYM_T p))
    let o := t2 - 5 * corr - dl * 32768
    if two then s.setPort p fun x => { x with sync := some (seq, src, o) }
    else ptpOffset jump (o - t1 * tickUnit) log (s.setPort p fun x => { x with sync := none })

/-- PTP_FOLLOW_UP_RECEIVED on port `p` (R389). -/
def ptpFollowUp (jump : Int → State → State) (p domain src : Nat) (log : Int) (seq t1 : Nat) (corr : Int) (s : State) : State :=
  if !s.ptpPort p then s
  else if domain != s.rd F.NET_PTPCFG_DOMAIN || log < -4 || 1 < log then ptpIgnore s
  else match (s.port p).sync with
    | some (q, w, o) =>
      if s.rd F.NET_PTPSTS_SLAVE = p && q = seq && w = src then
        ptpOffset jump (o - 5 * corr - t1 * tickUnit) log (s.setPort p fun x => { x with sync := none })
      else s
    | none => s

/-- A PTP timestamp: 48 bits of seconds and 32 bits of nanoseconds, in ns. -/
def ptpTime (t : BitVec 80) : Nat := t.toNat / 2 ^ 32 * 1000000000 + t.toNat % 2 ^ 32

/-- PTP_SYNC_TIMEOUT: no Sync for 3 sync intervals (R390). -/
def execPtpSyncTimeout (s : State) : Res := .next (setLock false s)

/-! ### Link changes (R381) -/

/-- ETH_LINK_CHANGE on port `p`. -/
def ethLink (p : Nat) (up speed : Bool) (s : State) : State :=
  if !s.portOn p then s
  else
    let s := (s.put (F.NET_P_STS_LINK p) up).put (F.NET_P_STS_SPEED p) speed
    let s := condition (284 + p) (!up) s
    let s := if up then s else s.setPort p fun x => { x with masters := [], sync := none }
    prpJudge (chooseMaster s)

/-- ETH_LINK_CHANGE. -/
def execEthLinkChange (p : Fin 4) (up speed : Bool) (s : State) : Res := .next (ethLink p up speed s)

/-! ### Received frames (R382, R384, R391, R403, R544) -/

/-- The address `NET.MAC`. -/
def State.mac (s : State) : Nat := s.rd F.NET_MAC_HI_ADDR * 2 ^ 32 + s.rd F.NET_MAC_LO_ADDR

/-- Where the EtherType stands: behind the addresses and a tag with TPID 0x8100 (R382). -/
def etherAt (f : List Byte) : Nat := if beAt f 12 2 = 0x8100 then 16 else 12

/-- The EtherType. -/
def etherType (f : List Byte) : Nat := beAt f (etherAt f) 2

/-- The PTP address of Pdelay messages. -/
def pdelayMac : Nat := 0x0180C200000E

/-- The destination of an enabled SV subscription. -/
def State.svDest (s : State) (d : Nat) : Bool :=
  (List.range 32).any fun i => s.flag (F.NET_SV_CFG_EN i) &&
    d = s.rd (F.NET_SV_DMAC_HI_ADDR i) * 2 ^ 32 + s.rd (F.NET_SV_DMAC_LO_ADDR i)

/-- A multicast class enabled in HOSTMC. -/
def State.hostMulticast (s : State) (p d : Nat) : Bool :=
  let mc := s.rd (F.NET_P_CFG_HOSTMC p)
  (d / 2 ^ 40) % 2 = 1 &&
    (if d / 2 ^ 16 = 0x010CCD01 then mc.testBit 0 else if d / 2 ^ 16 = 0x010CCD02 then mc.testBit 1 else mc.testBit 2)

/-- The frame passes the port filter (R382). -/
def State.passes (s : State) (p d : Nat) : Bool :=
  d = s.mac || d = 2 ^ 48 - 1 || d = 0x011B19000000 || d = pdelayMac || s.svDest d || s.hostMulticast p d

/-- The redundancy control trailer of a frame: sequence number, LanId (R384); the size field counts the bytes behind the
EtherType. -/
def prpTrailer (f : List Byte) : Option (Nat × Nat) :=
  let n := f.length
  let w := beAt f (n - 4) 2
  if 20 ≤ n && beAt f (n - 2) 2 = 0x88FB && (w / 4096 = 0xA || w / 4096 = 0xB) && w % 4096 = n - etherAt f - 2 then
    some (beAt f (n - 6) 2, w / 4096)
  else none

/-- Duplicate discard of a frame from `src` with sequence number `seq` (R384): whether it is the second copy. -/
def prpDuplicate (src seq : Nat) (s : State) : Bool × State :=
  let t := s.rawNs
  let known := s.net.prpSeen.filter fun e => decide (t ≤ e.2.1 + 400000000)
  let seen := ((known.find? (·.1 == src)).map (·.2.2)).getD []
  let rest := known.filter (·.1 != src)
  let rest := if 256 ≤ rest.length then rest.tail else rest
  let dup := seen.contains seq
  let seen := if dup then seen.filter (· != seq) else (seq :: seen).take 256
  (dup, { s with net := { s.net with prpSeen := rest ++ [(src, t, seen)] } })

/-- A host frame enters the receive queue in the memory of PF0, or is dropped (R544). -/
def nrxPut (p flags : Nat) (stamp : Int) (f : List Byte) (s : State) : State :=
  let n := s.rd F.HST_NRXCFG_NENT
  let h := s.rd F.HST_NRXHEAD_IDX
  if !s.flag F.HST_NRXCFG_EN then s.inc F.HST_NRXCNT_DROP
  else if (h + 1) % n = s.rd F.HST_NRXTAIL_IDX % n then raise 407 (s.inc F.HST_NRXCNT_DROP)
  else
    let body := leBytes 2 f.length ++ leBytes 1 p ++ leBytes 1 flags ++ leBytes 8 (unsigned 64 (stamp.fdiv tickUnit)) ++
      leBytes 4 0 ++ f
    let s := s.emit (.hostWrite 0 (s.rd64 F.HST_NRX_LO_ADDR F.HST_NRX_HI_ADDR + 2048 * h) body)
    ((s.wr F.HST_NRXHEAD_IDX ((h + 1) % n)).inc F.HST_NRXCNT_RX).event 9

/-- The policer of port `p` (R403): a bucket of BURST KiB that fills at KBPS kbit/s, in micro-bits; a frame that finds too
few tokens is dropped, and more than 1,000 drops in a second raise FS299. -/
def police (p bytes : Nat) (s : State) : Bool × State :=
  let t := s.rawNs
  let x := s.port p
  let used := x.used - (t - x.usedAt) * s.rd (F.NET_P_POLICE_KBPS p)
  let cost := (bytes + 4) * 8 * 1000000
  if s.rd (F.NET_P_POLICE_KBPS p) != 0 && used + cost ≤ s.rd (F.NET_P_POLICE_BURST p) * 8192 * 1000000 then
    (true, s.setPort p fun x => { x with used := used + cost, usedAt := t })
  else
    let fresh := decide (x.dropsAt + 1000000000 ≤ t)
    let n := if fresh then 1 else x.drops + 1
    let s := s.setPort p fun x => { x with used := used, usedAt := t, drops := n, dropsAt := if fresh then t else x.dropsAt }
    let s := s.inc (F.NET_P_CNT1_POL p)
    (false, if n = 1001 then raise 299 s else s)

/-- dL of port `p` in 2^−16 ns; invalid, a free value (notes/assumptions/3). -/
def State.dlFix (s : State) (p : Nat) : Int × State :=
  if s.dlValid p then (divRound (signed 32 (s.rd (F.NET_P_MDL_T p)) * 65536) 10, s)
  else
    let r := s.free 32
    (r.1, r.2)

/-- The bridge forwards a frame between ETH2 and ETH3 with residence time `r` in 2^−16 ns (R391, R392). -/
def bridge (p r : Nat) (f : List Byte) (s : State) : State :=
  let d := beAt f 0 6
  if !s.flag F.NET_BRG_EN || p < 2 || d = pdelayMac || d = s.mac then s
  else
    let q := 5 - p
    let send := fun (f : List Byte) (s : State) => (s.inc (F.NET_P_CNT2_TXOK q)).emit (.eth q f)
    let o := etherAt f + 2
    let kind := beAt f o 1 % 16
    let ours := etherType f = 0x88F7 && beAt f (o + 4) 1 = s.rd F.NET_PTPCFG_DOMAIN
    let seq := beAt f (o + 30) 2
    let src := beAt f (o + 20) 10
    let addCorr := fun (x : Int) => overwrite f (o + 8) (beBytes 8 (unsigned 64 (signed 64 (beAt f (o + 8) 8) + x)))
    if !ours then send f s
    else if kind = 2 || kind = 3 || kind = 10 then s
    else if kind = 0 then
      let dl := s.dlFix p
      let s := dl.2
      let x := r + dl.1
      if bit (beAt f (o + 6) 1) 1 then
        let s := { s with net := { s.net with bridged := s.net.bridged ++ [(p, seq, src, x, s.rawNs)] } }
        send f s
      else send (addCorr x) s
    else if kind = 8 then
      match s.net.bridged.find? fun b => b.1 == p && b.2.1 == seq && b.2.2.1 == src && decide (s.rawNs ≤ b.2.2.2.2 + 1000000000) with
      | some b =>
        let s := { s with net := { s.net with bridged := s.net.bridged.filter fun c => !(c.1 == p && c.2.1 == seq && c.2.2.1 == src) } }
        send (addCorr b.2.2.2.1) s
      | none => send f (s.inc F.NET_BRG_ORPHAN)
    else send f s

/-- A frame that has passed the filter and the PRP pair goes to the host unless it is PTP, SV or PRP supervision: those are
taken by the commands of their own (R403). -/
def hostFrame (p flags : Nat) (stamp : Int) (f : List Byte) (s : State) : State :=
  let t := etherType f
  if t = 0x88F7 || t = 0x88BA || (t = 0x88FB && s.flag F.NET_PRP_EN) then s
  else
    let r := police p f.length s
    if r.1 then nrxPut p flags stamp f r.2 else r.2

/-- The PRP pair's receive side on port `p` (R384), then the host. -/
def prpReceive (p : Nat) (stamp : Int) (f : List Byte) (s : State) : State :=
  if s.flag F.NET_PRP_EN && p < 2 then
    let s := prpJudge (s.setPort p fun x => { x with silent := false })
    match if etherType f = 0x88F7 then none else prpTrailer f with
    | none => hostFrame p 0 stamp f s
    | some (seq, lan) =>
      let r := prpDuplicate (beAt f 6 6) seq s
      if r.1 then r.2.inc (F.NET_P_CNT3_DUP p)
      else
        let wrong := lan != 0xA + p
        let s := if wrong then r.2.inc (F.NET_P_CNT3_WLAN p) else r.2
        hostFrame p (1 + 2 * b2n wrong) stamp (f.take (f.length - 6)) s
  else hostFrame p 0 stamp f s

/-- ETH_FRAME_RECEIVED: a frame without its FCS, whether the FCS was correct, the age of its timestamp point in quarter ns,
and the residence time of a forwarded frame in 2^−16 ns. Frames outside 64 to 1,522 bytes are counted as filtered (R381). -/
def ethReceive (p : Nat) (fcs : Bool) (age res : Nat) (f : List Byte) (s : State) : State :=
  if !s.portOn p then s
  else if f.length + 4 < 64 || 1522 < f.length + 4 then s.inc (F.NET_P_CNT1_FILT p)
  else if !fcs then s.inc (F.NET_P_CNT0_RXCRC p)
  else
    let s := bridge p res f (s.inc (F.NET_P_CNT0_RXOK p))
    if s.passes p (beAt f 0 6) then prpReceive p (s.rxStamp p age) f s else s.inc (F.NET_P_CNT1_FILT p)

/-- ETH_FRAME_RECEIVED. -/
def execEthFrameReceived (p : Fin 4) (fcs : Bool) (age : Word) (res : BitVec 48) (bytes : List Byte) (s : State) : Res :=
  .next (ethReceive p fcs age.toNat res.toNat bytes s)

/-- `NET.CTL.CNTCLR` clears every network counter. -/
def netCntclr (s : State) : State :=
  let s := s.wrs [(F.NET_BRG_ORPHAN, 0), (F.NET_PTPSTS_IGN, 0)]
  let s := forAll (List.range 4) (fun p s => s.wrs ([F.NET_P_CNT0_RXOK p, F.NET_P_CNT0_RXCRC p, F.NET_P_CNT1_FILT p,
    F.NET_P_CNT1_POL p, F.NET_P_CNT2_TXOK p, F.NET_P_CNT2_TXLATE p, F.NET_P_CNT3_DUP p, F.NET_P_CNT3_WLAN p].map fun f => (f, 0))) s
  forAll (List.range 32) (fun i s => s.wrs [(F.NET_SV_CNT_ERR i, 0), (F.NET_SV_CNT_GAPS i, 0)]) s

/-- `NET.CTL.CNTCLR` is written. -/
def execNetCntclr (m : Master) (s : State) : Res := .next (gate m .u 0x340000 netCntclr s)

/-- The next PRP sequence number of a destination. -/
def prpNext (d : Nat) (s : State) : Nat × State :=
  let n := ((s.net.prpSeq.find? (·.1 == d)).map (·.2)).getD 0
  (n, { s with net := { s.net with prpSeq := s.net.prpSeq.filter (·.1 != d) ++ [(d, (n + 1) % 65536)] } })

/-- PRP_SUPERVISION_SEND (R384). -/
def prpSupervise (s : State) : State :=
  if s.flag F.NET_PRP_EN then
    let r := prpNext 0 s
    forAll [0, 1] (fun p s => (s.inc (F.NET_P_CNT2_TXOK p)).emit (.ptp p 2 r.1 0)) r.2
  else s

/-- PRP_SUPERVISION_SEND. -/
def execPrpSupervisionSend (s : State) : Res := .next (prpSupervise s)

/-! ### Sampled values (R393 to R398) -/

/-- One BER element with a one-byte tag: tag, content, the rest. -/
def ber (b : List Byte) : Option (Nat × List Byte × List Byte) :=
  match b with
  | t :: l :: r =>
    let l := l.toNat
    if l < 128 then (if l ≤ r.length then some (t.toNat, r.take l, r.drop l) else none)
    else
      let k := l - 128
      let n := beAt r 0 k
      if k = 0 || 3 < k || r.length < k + n then none else some (t.toNat, (r.drop k).take n, r.drop (k + n))
  | _ => none

/-- The elements of a BER content, at most `n` of them; none where one does not decode. -/
def berAll : Nat → List Byte → Option (List (Nat × List Byte))
  | _, [] => some []
  | 0, _ => none
  | n + 1, b => match ber b with
    | some (t, c, r) => (berAll n r).map ((t, c) :: ·)
    | none => none

/-- The content of the first element with a tag. -/
def berFind (t : Nat) (l : List (Nat × List Byte)) : Option (List Byte) := (l.find? (·.1 == t)).map (·.2)

/-- An ASDU (R394): svID, smpCnt, confRev, smpSynch, seqData. -/
structure Asdu where
  id : List Byte
  cnt : Nat
  rev : Nat
  sync : Nat
  data : List Byte
deriving DecidableEq, Repr

/-- The ASDU decoded; none where a required element is missing. -/
def asduOf (b : List Byte) : Option Asdu :=
  match berAll 16 b with
  | some l => match berFind 0x80 l, berFind 0x82 l, berFind 0x83 l, berFind 0x85 l, berFind 0x87 l with
    | some i, some c, some r, some y, some d =>
      if c.length = 2 && r.length = 4 && y.length = 1 then some ⟨i, beNat c, beNat r, beNat y, d⟩ else none
    | _, _, _, _, _ => none
  | none => none

/-- The ASDUs of a savPdu, at most 8, each decoded or not. -/
def asdus (pdu : List Byte) : List (Option Asdu) :=
  match ber pdu with
  | some (0x60, c, _) => match berAll 16 c with
    | some l => match berFind 0xA2 l with
      | some q => match berAll 64 q with
        | some es => (es.take 8).map fun e => if e.1 = 0x30 then asduOf e.2 else none
        | none => [none]
      | none => [none]
    | none => [none]
  | _ => [none]

/-- The svID of subscription `i`, without its padding. -/
def State.svId (s : State) (i : Nat) : List Byte :=
  ((List.range 8).flatMap fun w => leBytes 4 (s.rd (F.NET_SV_SVID_CHARS i w))).reverse.dropWhile (· == 0) |>.reverse

/-- The subscription that takes an ASDU of a frame (R393); an ASDU that does not decode is judged without its svID. -/
def State.svMatch (s : State) (p : Nat) (f : List Byte) (id : Option (List Byte)) : Option Nat :=
  (List.range 32).find? fun i => s.flag (F.NET_SV_CFG_EN i) && s.rdBit (F.NET_SV_CFG_PORTS i) p &&
    beAt f 0 6 = s.rd (F.NET_SV_DMAC_HI_ADDR i) * 2 ^ 32 + s.rd (F.NET_SV_DMAC_LO_ADDR i) &&
    beAt f (etherAt f + 2) 2 = s.rd (F.NET_SV_CFG_APPID i) &&
    (match id with | some x => s.svId i == x || (s.svId i).isEmpty | none => true)

/-- The quality of a channel lets its value be valid, the test and simulation bits apart (R396). -/
def State.svQual (s : State) (i q : Nat) : Bool :=
  (q % 4 = 0 || (q % 4 = 3 && s.flag (F.NET_SV_CFG_ACCQ i))) && !bit q 12

/-- A channel of an accepted sample is rejected for its test bit or the simulation bit (R396). -/
def State.svTest (s : State) (i q : Nat) (sim : Bool) : Bool :=
  (bit q 11 && !s.flag (F.NET_SV_CFG_ACCTEST i)) || (sim && !s.flag (F.NET_SV_CFG_ACCSIM i))

/-- An accepted sample delivers its channels (R396, R397). -/
def svDeliver (i : Nat) (a : Asdu) (sim : Bool) (ta : Int) (s : State) : State :=
  let x := s.net.sv.getD i {}
  let ks := List.range 16
  let has := fun k => decide (8 * (k + 1) ≤ a.data.length)
  let q := fun k => beAt a.data (8 * k + 4) 4
  let tested := ks.any fun k => has k && s.svTest i (q k) sim
  let ok := fun k => has k && s.svQual i (q k) && !s.svTest i (q k) sim
  let vals := ks.map fun k =>
    if ok k then f32mul (f32ofInt (signed 32 (beAt a.data (8 * k) 4))) (s.rd (F.NET_SVSC_SCALE i k)) else x.vals.getD k 0
  let s := { s with net := { s.net with sv := modifyPad {} (fun _ => ⟨vals, ks.map ok, ta, true⟩) i s.net.sv } }
  let s := s.wr (F.NET_SV_STS_SMPCNT i) a.cnt
  if tested then raise 297 (s.wr (F.NET_SV_STS_TESTSEEN i) 1) else s

/-- An accepted sample ends a loss (R398). -/
def svFound (i : Nat) (s : State) : State :=
  let s := (s.wr (F.NET_SV_STS_LOST i) 0).putBit F.NET_SVLOST_LOST i false
  if s.rd F.NET_SVLOST_LOST = 0 then unraise 294 s else s

/-- One ASDU of subscription `i` (R395). -/
def svSample (i : Nat) (sim : Bool) (ta : Int) (a : Asdu) (s : State) : State :=
  let w := if s.rd (F.NET_SV_WRAP_W i) = 0 then 65536 else s.rd (F.NET_SV_WRAP_W i)
  let first := !(s.net.sv.getD i {}).any
  let d := unsigned 32 ((a.cnt : Int) - s.rd (F.NET_SV_STS_SMPCNT i) + w * 65536) % w
  if !first && (d = 0 || w / 2 < d) then s
  else
    let low := decide (a.sync < s.rd (F.NET_SV_CFG_SYNCREQ i))
    let mism := a.rev != s.rd (F.NET_SV_CONFREV_REV i) && s.flag (F.NET_SV_CFG_CRCHK i)
    if low || mism then
      let s := if low then s.wr (F.NET_SV_STS_SYNCLOW i) 1 else s
      if mism then s.wr (F.NET_SV_STS_CRMISM i) 1 else s
    else
      let s := svFound i (svDeliver i a sim ta s)
      if !first && 1 < d then raise 296 ((s.wr (F.NET_SV_STS_GAP i) 1).inc (F.NET_SV_CNT_GAPS i) (d - 1)) else s

/-- SV_FRAME_RECEIVED on port `p` (R393, R394). -/
def svFrame (p age : Nat) (f : List Byte) (s : State) : State :=
  if !s.portOn p || etherType f != 0x88BA then s
  else
    let o := etherAt f + 2
    let sim := bit (beAt f (o + 4) 2) 15
    let ta := (s.rxStamp p age).fdiv tickUnit
    let as := asdus (f.drop (o + 8))
    if !as.any fun a => (s.svMatch p f (a.map (·.id))).isSome then s.inc (F.NET_P_CNT1_FILT p)
    else forAll as (fun a s => match s.svMatch p f (a.map (·.id)), a with
      | some i, some a => svSample i sim ta a s
      | some i, none => s.inc (F.NET_SV_CNT_ERR i)
      | none, _ => s) s

/-- SV_FRAME_RECEIVED. -/
def execSvFrameReceived (p : Fin 4) (age : Word) (bytes : List Byte) (s : State) : Res := .next (svFrame p age.toNat bytes s)

/-- SV_SUBSCRIPTION_LOST (R398). -/
def svLost (i : Nat) (s : State) : State :=
  if s.flag (F.NET_SV_CFG_EN i) then
    let s := { s with net := { s.net with sv := modifyPad {} (fun x => { x with any := false }) i s.net.sv } }
    raise 294 ((s.wr (F.NET_SV_STS_LOST i) 1).putBit F.NET_SVLOST_LOST i true)
  else s

/-- SV_SUBSCRIPTION_LOST. -/
def execSvSubscriptionLost (n : Fin 32) (s : State) : Res := .next (svLost n s)

/-! ### Timed frame launch (R399 to R402) -/

/-- The ports of a launch: port 4 is the PRP pair. -/
def launchPorts (p : Nat) : List Nat := if p = 4 then [0, 1] else [p]

/-- A launch of buffer `b` on port `p` is refused (R399). -/
def State.badLaunch (s : State) (b p : Nat) : Bool :=
  4 < p || (launchPorts p).any (fun q => !s.portOn q) || (p = 4 && !s.flag F.NET_PRP_EN) ||
    s.rd (F.NET_FB_CFG_LEN b) < 60 || 1514 < s.rd (F.NET_FB_CFG_LEN b)

/-- A launch of buffer `b` on port `p` for an instant is named. -/
def fbRequest (b p : Nat) (at_ : Int) (taken late : Bool) (s : State) : State :=
  if s.badLaunch b p then s.wr (F.NET_FB_CFG_BADCFG b) 1
  else { s with net := { s.net with launches := s.net.launches ++ [Launch.mk b p at_ taken late] } }

/-- FB_TRIGGER: the buffer's own trigger mode names an instant: DLY behind the WBTRG of this moment, at CRT DLY of a cycle of
its period, or DLY behind this cycle's start after a state or role change. -/
def fbTrigger (b : Nat) (s : State) : State :=
  let dly := s.rd (F.NET_FB_DLY_NS b)
  let p := s.rd (F.NET_FB_CFG_PORT b)
  let start := signed 64 (s.rd64 F.TB_CYCST_LO_T F.TB_CYCST_HI_T)
  match s.rd (F.NET_FB_TRIG_MODE b) with
  | 1 => fbRequest b p (s.nowInt + dly) false false s
  | 2 => if s.running && s.cyc % max 1 (s.rd (F.NET_FB_TRIG_PERIOD b)) = 0 then fbRequest b p (start + dly) false false s else s
  | 3 => if s.running then fbRequest b p (start + dly) false false s else s
  | _ => s

/-- FB_TRIGGER. -/
def execFbTrigger (b : Fin 32) (s : State) : Res := .next (fbTrigger b s)

/-- A launch taken now for an instant is late: less than the preamble time plus 100 ns before it (R400). -/
def State.takenLate (s : State) (p : Nat) (at_ : Int) : Bool :=
  decide (at_ - s.nowInt < ((launchPorts p).foldl (fun m q => max m (s.preambleNs q)) 0 + 100 : Nat))

/-- The instant of a NET, RAW or CYC entry in TB.NOW (R370). -/
def State.entryNow (s : State) (e : WbEntry) : Int := s.nowInt - s.wbAge e

/-- The entry with RELAY may run on this unit (R378). -/
def State.relayRuns (s : State) (e : WbEntry) : Bool :=
  !e.relay || !s.flag F.GLB_ROLE_TWIN || s.role = roACTIVE || s.role = roSOLO

/-- FB_TAKE of buffer `b`: the launcher takes the next launch of the buffer, or its next FRAME entry from the Waybill queue,
TXGUARD ns before the instant (R400). -/
def fbTake (b : Nat) (s : State) : State :=
  if s.net.launches.any fun l => l.buf == b && !l.taken then
    let ls := s.net.launches
    let i := ls.findIdx fun l => l.buf == b && !l.taken
    let late := fun (l : Launch) => s.takenLate l.port l.at_
    let ls := modifyAt (fun l => { l with taken := true, late := late l }) i ls
    { s with net := { s.net with launches := ls } }
  else
    let due := fun (e : WbEntry) => e.cls == 5 && e.w 4 == b && s.relayRuns e &&
      decide (s.entryNow e - (launchPorts (e.w 3)).foldl (fun m q => max m (s.rd (F.NET_P_TXGUARD_NS q))) 0 ≤ s.nowInt)
    match s.wb.ents.find? due with
    | some e =>
      let at_ := s.entryNow e
      wbComplete e false false (fbRequest b (e.w 3) at_ true (s.takenLate (e.w 3) at_) (wbRemove (s.wb.ents.findIdx due) s))
    | none => s

/-- FB_TAKE. -/
def execFbTake (b : Fin 32) (s : State) : Res := .next (fbTake b s)

/-- The bytes of patch `i` of buffer `b`: offset, length, value (R401). -/
def State.patch (s : State) (b i : Nat) (at_ : Int) (n : Nat) : Nat × Nat × Nat :=
  let o := s.rd (F.NET_FB_PATCH_OFS b i)
  match s.rd (F.NET_FB_PATCH_KIND b i) with
  | 1 => (o, 8, unsigned 64 at_)
  | 2 => (o, 4, s.cycRec)
  | 3 => (o, 2, s.st * 256 + s.role)
  | 4 => (o, 2, n % 65536)
  | 5 => (o, 4, n)
  | _ => (o, 0, 0)

/-- The frame of buffer `b` as it leaves with its patches (R401). -/
def fbFrame (b : Nat) (at_ : Int) (s : State) : List Byte × State :=
  let len := s.rd (F.NET_FB_CFG_LEN b)
  let n := (s.net.sent.get b + 1) % 2 ^ 32
  let s := { s with net := { s.net with sent := s.net.sent.set b n } }
  let f := ((List.range 384).flatMap fun w => leBytes 4 (s.rd (F.NET_FBD_DATA b w))).take len
  [0, 1, 2].foldl (fun (r : List Byte × State) i =>
    let p := r.2.patch b i at_ n
    if p.2.1 = 0 then r
    else if len < p.1 + p.2.1 then (r.1, r.2.wr (F.NET_FB_CFG_BADCFG b) 1)
    else (overwrite r.1 p.1 (beBytes p.2.1 p.2.2), r.2)) (f, s)

/-- A frame leaves on a port or the PRP pair, there with a trailer on each port (R384). -/
def sendFrame (p : Nat) (f : List Byte) (s : State) : State :=
  if p = 4 then
    let r := prpNext (beAt f 0 6) s
    let size := f.length + 6 - etherAt f - 2
    forAll [0, 1] (fun q s =>
      (s.inc (F.NET_P_CNT2_TXOK q)).emit (.eth q (f ++ beBytes 2 r.1 ++ beBytes 2 ((0xA + q) * 4096 + size) ++ beBytes 2 0x88FB))) r.2
  else (s.inc (F.NET_P_CNT2_TXOK p)).emit (.eth p f)

/-- FB_LAUNCH of buffer `b`: its taken launch with the earliest instant leaves; this moment is the timestamp point. It is
late when it was taken too late or leaves behind the code-group bound of its instant (R400). -/
def fbLaunch (b : Nat) (s : State) : State :=
  let mine := s.net.launches.filter fun l => l.buf == b && l.taken && decide (l.at_ ≤ s.nowInt)
  match (sortBy (fun (a c : Launch) => decide (a.at_ ≤ c.at_)) mine).head? with
  | none => s
  | some l =>
    let s := { s with net := { s.net with launches := s.net.launches.erase l } }
    if s.flag (F.NET_FB_CFG_GATEEN b) && !s.rdBit F.WB_WIN_OPEN (s.rd (F.NET_FB_CFG_GATEJ b)) then
      s.wr (F.NET_FB_CFG_GATED b) 1
    else
      let r := fbFrame b l.at_ s
      let s := (sendFrame l.port r.1 r.2).wr64 (F.NET_FB_TXT_LO_T b) (F.NET_FB_TXT_HI_T b) s.now
      let lateOn := (launchPorts l.port).filter fun q => l.late || decide (l.at_ + s.groupNs q < s.nowInt)
      if lateOn.isEmpty then s
      else raise 298 (forAll lateOn (fun q s => s.inc (F.NET_P_CNT2_TXLATE q)) (s.wr (F.NET_FB_CFG_LATE b) 1))

/-- FB_LAUNCH. -/
def execFbLaunch (b : Fin 32) (s : State) : Res := .next (fbLaunch b s)

/-- A write to `HST.NTX` sends buffer `b` on port `p` at once as a host frame (R545). -/
def hstNtx (b p : Nat) (s : State) : State :=
  if s.badLaunch b p then s.wr (F.NET_FB_CFG_BADCFG b) 1
  else
    let r := fbFrame b s.nowInt s
    sendFrame p r.1 r.2

/-- `HST.NTX` is written. -/
def execHstNtx (m : Master) (b : Fin 32) (p : Fin 8) (s : State) : Res := .next (gate m .p 0x3D0320 (hstNtx b p) s)

end Sys2Proof.Machine
end

