-- ==== Sys2Proof/Machine/Sbu.lean ====
section
/-! DEFINITION. The safety block unit (R434 to R453): input pairs, permit request, start-up proof, output paths, test
pulses, causes and CLEAR, and the status link to the main side. What the SBU holds stands in `State.sbu`; the registers
`SBU` show what its latest status reported. -/

namespace Sys2Proof.Machine

/-! ### The SAFE section (R452) -/

/-- Fletcher-32 over little-endian 16-bit words: both sums (R452). -/
def fletcher : List Byte → Nat × Nat → Nat × Nat
  | a :: b :: r, (s1, s2) =>
    let s1 := (s1 + a.toNat + 256 * b.toNat) % 65535
    fletcher r (s1, (s2 + s1) % 65535)
  | _, s => s

/-- CHKB of a SAFE section. -/
def safeChkb (sec : List Byte) : Nat :=
  let s := fletcher (sec.take 4092) (0, 0)
  s.2 * 65536 + s.1

/-- Both channels' checks of a SAFE section with the CRC of the directory (R452). -/
def safeOk (sec : List Byte) (crc : Nat) : Bool := crc32c sec = crc && safeChkb sec = leAt sec 4092 4

/-- A number of the active configuration. -/
def State.safe (s : State) (o n : Nat) : Nat := leAt s.sbu.sec o n

/-- MODE of pair `p`: 0 UNUSED, 1 EQUIV, 2 ANTIV. -/
def State.pairMode (s : State) (p : Nat) : Nat := s.safe (64 + 16 * p) 1

/-- FLAGS of pair `p`: bit 0 PROOF, bits 1 and 2 the paths that it names. -/
def State.pairFlags (s : State) (p : Nat) : Nat := s.safe (68 + 16 * p) 1

/-- An active configuration is held. -/
def State.sbuCfg (s : State) : Bool := !s.sbu.sec.isEmpty

/-- The eight pairs. -/
def sbuPairs : List Nat := List.range 8

/-- Pair `p`. -/
def State.pair (s : State) (p : Nat) : SbuPair := s.sbu.pairs.getD p {}

/-- Path `k`. -/
def State.path (s : State) (k : Nat) : SbuPath := s.sbu.paths.getD k {}

/-- Pair `p` changes. -/
def State.setPair (s : State) (p : Nat) (f : SbuPair → SbuPair) : State :=
  { s with sbu := { s.sbu with pairs := modifyAt f p s.sbu.pairs } }

/-- Path `k` changes. -/
def State.setPath (s : State) (k : Nat) (f : SbuPath → SbuPath) : State :=
  { s with sbu := { s.sbu with paths := modifyAt f k s.sbu.paths } }

/-- A source of the SBU is raised on the main side, where that is powered (R450, R540). -/
def sbuRaise (fs : Nat) (s : State) : State := if s.glb.vinOn then raise fs s else s

/-- A condition of the SBU has ended for the main side. -/
def sbuUnraise (fs : Nat) (s : State) : State := if s.glb.vinOn then unraise fs s else s

/-! ### Conditions of the output paths -/

/-- PREQ is valid on both lines in the latest tick. -/
def State.preq (s : State) : Bool := s.sbu.preqA && s.sbu.preqB

/-- CHA finds pair `p` closed: unused, or closed after the filter and no latched discrepancy (R438, R441). -/
def State.closedA (s : State) (p : Nat) : Bool := s.pairMode p = 0 || ((s.pair p).a.closed && !(s.pair p).disc)

/-- CHB finds pair `p` closed. -/
def State.closedB (s : State) (p : Nat) : Bool := s.pairMode p = 0 || ((s.pair p).b.closed && !(s.pair p).disc)

/-- Pair `p` is closed on both channels with no latched discrepancy. -/
def State.pairClosed (s : State) (p : Nat) : Bool := s.closedA p && s.closedB p

/-- The start-up proof is complete: every pair whose record carries PROOF is proven (R445). -/
def State.proof (s : State) : Bool :=
  sbuPairs.all fun p => s.pairMode p = 0 || !(s.pairFlags p).testBit 0 || (s.pair p).proven

/-- The conditions of R443 for path `k`, PREQ apart. -/
def State.pathReady (s : State) (k : Nat) : Bool :=
  s.sbuCfg && s.safe (192 + 16 * k) 1 = 1 && s.proof &&
    sbuPairs.all (fun p => s.pairMode p = 0 || !(s.pairFlags p).testBit (k + 1) || s.pairClosed p) &&
    s.sbu.vsafeOk && s.sbu.cause = 0 && !(s.path k).rwait

/-- Path `k` is to be energised at this tick (R443). -/
def State.pathOn (s : State) (k : Nat) : Bool := s.preq && s.sbu.preqWas && s.pathReady k

/-- The commanded switches of a path: high side, low side (R443, R448). -/
def SbuPath.hs (p : SbuPath) : Bool := p.on != (p.test == 1)

/-- The low side. -/
def SbuPath.ls (p : SbuPath) : Bool := p.on != (p.test == 2)

/-- Path `k` is de-energised. By a withdrawal of PREQ alone the restart interlock stays released; otherwise it holds, and
while PREQ is requested the event is counted and reported (R444, R450, R451). A test that runs is abandoned. -/
def deEnergise (k : Nat) (s : State) : State :=
  let s := s.setPath k fun p => { p with on := false, test := 0 }
  if s.preq then
    let s := s.setPath k fun p => { p with rwait := true, deen := min 65535 (p.deen + 1) }
    { s with sbu := { s.sbu with deenNew := true } }
  else s

/-- Each path follows its conditions (R443). -/
def driveOne (k : Nat) (s : State) : State :=
  let on := s.pathOn k
  if (s.path k).on && !on then deEnergise k s
  else if !(s.path k).on && on then s.setPath k fun p => { p with on := true, test := 0 }
  else s

/-- Both paths. -/
def driveAll (s : State) : State := driveOne 1 (driveOne 0 s)

/-- Both paths open at once, between ticks, when a condition of R443 has gone. -/
def openPaths (s : State) : State :=
  forAll [0, 1] (fun k s => if (s.path k).on && !s.pathReady k then deEnergise k s else s) s

/-! ### Causes (R446, R447) -/

/-- A cause latches: bit of `SBU.CAUSE`, and the path for RB, OPEN and TEST. Both paths open; FS336. -/
def sbuCause (b : Nat) (path : Option Nat) (s : State) : State :=
  let u := s.sbu
  let s := { s with sbu := { u with cause := setBit u.cause b, path := match path with
    | some k => k == 1
    | none => u.path } }
  sbuRaise 336 (openPaths s)

/-- The readback of path `k` at the latest tick differs from the table of R446. -/
def State.rbWrong (s : State) (k : Nat) : Bool :=
  let p := s.path k
  p.rbh != p.hs || p.rbl != (p.hs && !p.ls)

/-- SBU_READBACK_FAULT: a difference for more than 200 µs latches RB, or OPEN when SOkL reads low while only the high side
is on (R446). -/
def readbackFault (k : Nat) (open_ : Bool) (s : State) : State :=
  if open_ then sbuRaise 355 (sbuCause 1 (some k) s) else sbuCause 0 (some k) s

/-- SBU_READBACK_FAULT. -/
def execSbuReadbackFault (k : Fin 2) (open_ : Bool) (s : State) : Res := .next (readbackFault k open_ s)

/-- SBU_OSC_FAULT (R437). -/
def oscFault (s : State) : State := sbuCause 2 none s

/-- SBU_OSC_FAULT. -/
def execSbuOscFault (s : State) : Res := .next (oscFault s)

/-- SBU_XCHK_FAULT (R447). -/
def xchkFault (s : State) : State := sbuCause 3 none s

/-- SBU_XCHK_FAULT. -/
def execSbuXchkFault (s : State) : Res := .next (xchkFault s)

/-- VSAFE of `v` in 0.1 V is within the limits of the active configuration (R447). -/
def State.vsafeIn (s : State) (v : Nat) : Bool := s.sbuCfg && decide (s.safe 12 2 ≤ v ∧ v ≤ s.safe 14 2)

/-- VSAFE outside its limits opens both paths without latching; FS354 is a condition (R447). -/
def vsafeJudge (ok : Bool) (s : State) : State :=
  let s := { s with sbu := { s.sbu with vsafeOk := ok } }
  if ok then sbuUnraise 354 s else if s.sbuCfg then sbuRaise 354 (openPaths s) else openPaths s

/-- SBU_VSAFE_OUT. -/
def execSbuVsafeOut (s : State) : Res := .next (vsafeJudge false s)

/-! ### Configuration (R83, R84, R435, R447) -/

/-- CAUSE.CFG for a section that fails a channel's check. -/
def cfgCheck (sec : List Byte) (crc : Nat) (s : State) : State := if safeOk sec crc then s else sbuCause 4 none s

/-- The SBU takes a section at the switch as pending (R83). -/
def sbuHandover (sec : List Byte) (crc : Nat) (s : State) : State :=
  cfgCheck sec crc { s with sbu := { s.sbu with pend := some (sec, crc), ack := false } }

/-- The main side shows the active configuration of the SBU, and MATCH where it is the committed one (R83, R84). -/
def sbuShowCrc (s : State) : State := s.wr F.RCP_SBUCRC_CRC s.sbu.crc

/-- The channel of a pair that has come into use under another MODE: its samples stand, its filtered state does not. -/
def SbuChan.renew (flip : Bool) (c : SbuChan) : SbuChan := { run := c.run, lvl := c.lvl != flip }

/-- The acknowledged section becomes active at a tick (R84): pairs already proven under the configuration before keep their
proof, a pair that gains PROOF is to be proven again, a pair of another MODE has no filtered state yet (R445). -/
def sbuActivate (s : State) : State :=
  match s.sbu.ack, s.sbu.pend with
  | true, some (sec, crc) =>
    let old := s
    let s := { s with sbu := { s.sbu with sec := sec, crc := crc, pend := none, ack := false } }
    let s := forAll sbuPairs (fun p s =>
      let gains := (s.pairFlags p).testBit 0 && !(old.sbuCfg && old.pairMode p != 0 && (old.pairFlags p).testBit 0)
      let s := if gains then s.setPair p fun x => { x with proven := false, popen := false } else s
      if old.sbuCfg && old.pairMode p = s.pairMode p then s
      else
        let flip := (old.pairMode p == 2) != (s.pairMode p == 2)
        s.setPair p fun x => { x with a := x.a.renew false, b := x.b.renew flip, dcount := 0, disc := false, dopen := false }) s
    if s.glb.vinOn then (sbuShowCrc s).wr F.RCP_STS_SAFE_STATE 0 else s
  | _, _ => s

/-! ### The safety tick (R437 to R445) -/

/-- The sample of a channel is permissive (R438): `ch` 1 is CHB. -/
def permissive (mode ch : Nat) (level : Bool) : Bool := if mode = 2 && ch = 1 then !level else level

/-- A sample of a channel. -/
def SbuChan.sample (c : SbuChan) (perm : Bool) : SbuChan :=
  if perm = c.lvl then { c with run := min 64 (c.run + 1) } else { c with lvl := perm, run := 1 }

/-- SBU_FILTER_CHANGE: the FILT-th consecutive sample at a level sets the filtered state (R439). -/
def SbuChan.settle (filt : Nat) (c : SbuChan) : SbuChan :=
  if filt ≤ c.run && 0 < c.run then { c with closed := c.lvl, known := true } else c

/-- The filtered state of channel `ch` of pair `p` takes its new level where its samples are complete. A channel that opens
while PREQ is requested opens the pair (R440, R450). -/
def filterChange (p ch : Nat) (s : State) : State :=
  let was := s.pairClosed p
  let filt := s.safe (65 + 16 * p) 1
  let s := if s.pairMode p = 0 then s
    else if ch = 0 then s.setPair p fun x => { x with a := x.a.settle filt }
    else s.setPair p fun x => { x with b := x.b.settle filt }
  let s := if was && !s.pairClosed p && s.preq then
      let s := s.setPair p fun x => { x with opens := min 65535 (x.opens + 1) }
      { s with sbu := { s.sbu with openNew := setBit s.sbu.openNew p } }
    else s
  openPaths s

/-- SBU_FILTER_CHANGE. -/
def execSbuFilterChange (p : Fin 8) (ch : Fin 2) (s : State) : Res := .next (filterChange p ch s)

/-- SBU_DISCREPANCY_LATCH of pair `p`: its count has reached T + 1 (R441). -/
def discLatch (p : Nat) (s : State) : State :=
  if s.pairMode p != 0 && s.safe (66 + 16 * p) 2 + 1 ≤ (s.pair p).dcount && !(s.pair p).disc then
    let s := s.setPair p fun x => { x with disc := true, dopen := false, discs := min 65535 (x.discs + 1) }
    sbuRaise (338 + p) (openPaths s)
  else s

/-- SBU_DISCREPANCY_LATCH. -/
def execSbuDiscrepancyLatch (p : Fin 8) (s : State) : Res := .next (discLatch p s)

/-- A latched discrepancy clears when both filtered states were open at a tick and later are both closed at one (R441); the
start-up proof of the pair follows the same two ticks (R445). -/
def pairProof (p : Nat) (s : State) : State :=
  let x := s.pair p
  let bothOpen := x.a.known && x.b.known && !x.a.closed && !x.b.closed
  let bothClosed := x.a.closed && x.b.closed
  if s.pairMode p = 0 then s
  else if bothOpen then s.setPair p fun x => { x with dopen := x.dopen || x.disc, popen := true }
  else if bothClosed then
    let s := s.setPair p fun x => { x with proven := x.proven || x.popen }
    if x.disc && x.dopen then sbuUnraise (338 + p) (s.setPair p fun x => { x with disc := false, dopen := false }) else s
  else s

/-- One pair at a tick: samples, which every pair takes (R439); of a used pair the filter, discrepancy count, latch, proof. -/
def pairTick (si p : Nat) (s : State) : State :=
  let m := s.pairMode p
  let s := s.setPair p fun x =>
    { x with a := x.a.sample (permissive m 0 (si.testBit (2 * p))), b := x.b.sample (permissive m 1 (si.testBit (2 * p + 1))) }
  if m = 0 then s
  else
    let s := filterChange p 1 (filterChange p 0 s)
    let s := s.setPair p fun x => { x with dcount := if x.a.closed = x.b.closed then 0 else min 1023 (x.dcount + 1) }
    pairProof p (discLatch p s)

/-- PREQ of the tick: 8 to 12 rising edges on a line, while the main side drives the wave; it did so at this tick or the
one before (R442). The interlock of R444 is released when PREQ is requested again after a tick without it. -/
def preqTick (ea eb : Nat) (s : State) : State :=
  let asks := s.glb.permit && s.glb.vinOn
  let may := asks || s.sbu.asked
  let va := may && decide (8 ≤ ea ∧ ea ≤ 12)
  let vb := may && decide (8 ≤ eb ∧ eb ≤ 12)
  let u := s.sbu
  let s := { s with sbu := { u with preqWas := u.preqA && u.preqB, preqA := va, preqB := vb, asked := asks } }
  if !((va || vb) && !u.preqA && !u.preqB) then s
  else forAll [0, 1] (fun k s => s.setPath k fun x => { x with rwait := false }) s

/-- SBU_TICK: the inputs SI0A, SI0B, SI1A, … as levels, the rising edges on the two PREQ lines, VSAFE in 0.1 V, the readback
SO0H, SO0L, SO1H, SO1L. -/
def sbuTick (si ea eb vsafe rb : Nat) (s : State) : State :=
  if !s.glb.vauxOn then s
  else
    let s := { s with sbu := { s.sbu with ticks := (s.sbu.ticks + 1) % 2 ^ 32 } }
    let s := sbuActivate s
    let s := if s.sbuCfg then cfgCheck s.sbu.sec s.sbu.crc s else s
    let s := preqTick ea eb s
    let s := forAll [0, 1] (fun k s => s.setPath k fun x => { x with rbh := rb.testBit (2 * k), rbl := rb.testBit (2 * k + 1) }) s
    let s := forAll sbuPairs (pairTick si) s
    let s := vsafeJudge (s.vsafeIn vsafe) s
    driveAll s

/-- SBU_TICK. -/
def execSbuTick (si : BitVec 16) (ea eb : Byte) (vsafe : BitVec 16) (rb : BitVec 4) (s : State) : Res :=
  .next (sbuTick si.toNat ea.toNat eb.toNat vsafe.toNat rb.toNat s)

/-! ### Test pulses (R448) -/

/-- SBU_TEST_PULSE of path `k`: CHA changes the high side, or CHB the low side. -/
def testPulse (k : Nat) (low : Bool) (s : State) : State :=
  if s.sbuCfg && s.safe (193 + 16 * k) 1 = 1 && (s.path k).test = 0 then
    s.setPath k fun p => { p with test := if low then 2 else 1 }
  else s

/-- SBU_TEST_PULSE. -/
def execSbuTestPulse (k : Fin 2) (low : Bool) (s : State) : Res := .next (testPulse k low s)

/-- The readback that a test of a switch must show, SOkH in bit 0 and SOkL in bit 1 (R448). -/
def testPass (p : SbuPath) (rb : Nat) : Bool :=
  if p.on then (if p.test = 1 then !rb.testBit 0 else rb.testBit 1)
  else if p.test = 1 then rb.testBit 0 && rb.testBit 1
  else !rb.testBit 0 && !rb.testBit 1

/-- SBU_TEST_END of path `k`, TPW µs after its pulse. -/
def testEnd (k rb : Nat) (s : State) : State :=
  let p := s.path k
  if p.test = 0 then s
  else
    let s := s.setPath k fun p => { p with test := 0 }
    if testPass p rb then s.setPath k fun p => { p with tests := min 65535 (p.tests + 1) } else sbuCause 5 (some k) s

/-- SBU_TEST_END. -/
def execSbuTestEnd (k : Fin 2) (rb : BitVec 2) (s : State) : Res := .next (testEnd k rb.toNat s)

/-! ### CLEAR (R447) -/

/-- The causes whose condition lasts: RB while the readback differs, CFG while the held section fails its check. -/
def State.causeLasts (s : State) : Nat :=
  (if s.sbu.cause.testBit 0 && ([0, 1].any fun k => s.rbWrong k) then 1 else 0) +
    (if s.sbu.cause.testBit 4 && ((s.sbuCfg && !safeOk s.sbu.sec s.sbu.crc) ||
      s.sbu.pend.any fun c => !safeOk c.1 c.2) then 16 else 0)

/-- CLEAR clears every latched cause whose condition has ended. -/
def sbuClear (s : State) : State :=
  let left := s.causeLasts
  let s := { s with sbu := { s.sbu with cause := left } }
  let s := sbuUnraise 355 s
  if left = 0 then sbuUnraise 336 s else s

/-- A write of `SBU.CMD` is judged: result 3 for a wrong key or code, 2 while PREQ is not withdrawn on both lines. -/
def sbuCommand (code key : Nat) (s : State) : State :=
  let s := (s.wr F.SBU_CMDSTS_SEQ (s.rd F.SBU_CMDSTS_SEQ + 1)).event 2
  if code != 1 || key != 0xA5C3 then s.wr F.SBU_CMDSTS_RESULT 3
  else if s.sbu.preqA || s.sbu.preqB then s.wr F.SBU_CMDSTS_RESULT 2
  else (sbuClear s).wr F.SBU_CMDSTS_RESULT 1

/-- SBU_CLEAR: a write of CLEAR to `SBU.CMD` with the key. -/
def execSbuClear (m : Master) (key : BitVec 16) (s : State) : Res :=
  .next (gate m .p 0x3A0008 (sbuCommand 1 key.toNat) s)

/-! ### The status link (R450) -/

/-- The registers `SBU` take what the SBU reports. -/
def sbuShow (s : State) : State :=
  let u := s.sbu
  let s := s.wrs [(F.SBU_STS_LINK, 1), (F.SBU_STS_PREQA, b2n u.preqA), (F.SBU_STS_PREQB, b2n u.preqB),
    (F.SBU_STS_SO0, b2n ((s.path 0).rbh && !(s.path 0).rbl)), (F.SBU_STS_SO1, b2n ((s.path 1).rbh && !(s.path 1).rbl)),
    (F.SBU_STS_CFG, b2n s.sbuCfg), (F.SBU_STS_PROOF, b2n (s.sbuCfg && s.proof)),
    (F.SBU_STS_ALLCLOSED, b2n (sbuPairs.all s.pairClosed)), (F.SBU_STS_VSAFEOK, b2n u.vsafeOk),
    (F.SBU_STS_RWAIT, b2n ((s.path 0).rwait || (s.path 1).rwait)), (F.SBU_STS_LOCK, b2n (u.cause != 0)),
    (F.SBU_CAUSE_RB, u.cause), (F.SBU_CAUSE_OPEN, u.cause / 2), (F.SBU_CAUSE_OSC, u.cause / 4),
    (F.SBU_CAUSE_XCHK, u.cause / 8), (F.SBU_CAUSE_CFG, u.cause / 16), (F.SBU_CAUSE_TEST, u.cause / 32),
    (F.SBU_CAUSE_PATH, b2n u.path), (F.SBU_TICK_N, u.ticks)]
  let s := forAll sbuPairs (fun p s =>
    let x := s.pair p
    s.wrs [(F.SBU_PAIR_STS_AF p, b2n (s.pairMode p = 0 || x.a.closed)), (F.SBU_PAIR_STS_BF p, b2n (s.pairMode p = 0 || x.b.closed)),
      (F.SBU_PAIR_STS_DISC p, b2n x.disc), (F.SBU_PAIR_STS_PROVEN p, b2n x.proven), (F.SBU_PAIR_STS_MODE p, s.pairMode p),
      (F.SBU_PAIR_STS_DCOUNT p, x.dcount), (F.SBU_PAIR_CNT_OPENS p, x.opens), (F.SBU_PAIR_CNT_DISCS p, x.discs)]) s
  forAll [0, 1] (fun k s =>
    let x := s.path k
    s.wrs [(F.SBU_OUT_STS_HSCMD k, b2n x.hs), (F.SBU_OUT_STS_LSCMD k, b2n x.ls), (F.SBU_OUT_STS_RBH k, b2n x.rbh),
      (F.SBU_OUT_STS_RBL k, b2n x.rbl), (F.SBU_OUT_CNT_TESTS k, x.tests), (F.SBU_OUT_CNT_DEEN k, x.deen)]) s

/-- SBU_STATUS_RECEIVED: the main side takes the report of the latest tick; FS337 and FS(346 + p) as it shows. FS337 clears
with both paths energised (R450, R453). Without VIN the registers stay readable on the Ostler port (R436). -/
def statusReceived (s : State) : State :=
  if !s.glb.vinOn then sbuShow s
  else
    let before := s.rawWord 0x3A0000
    let s := unraise 356 (sbuShow s)
    let s := if s.rawWord 0x3A0000 = before then s else s.event 13
    let u := s.sbu
    let s := { s with sbu := { u with deenNew := false, openNew := 0 } }
    let s := if u.deenNew then raise 337 s
      else if s.flag F.SBU_STS_SO0 && s.flag F.SBU_STS_SO1 && (s.path 0).on && (s.path 1).on then unraise 337 s else s
    forAll (bitsOf 8 u.openNew) (fun p => raise (346 + p)) s

/-- SBU_STATUS_RECEIVED. -/
def execSbuStatusReceived (s : State) : Res := .next (statusReceived s)

/-- The registers `SBU` of the status link, which read 0 while it is lost. -/
def sbuBlank (s : State) : State :=
  { s with regs := s.regs.keep fun k => !(decide (0x3A0000 * 32 ≤ k) && decide (k < 0x3A0300 * 32)) ||
    (decide (0x3A0008 * 32 ≤ k) && decide (k < 0x3A0010 * 32)) }

/-- SBU_STATUS_LOST: no status for 5 ms (R450). -/
def statusLost (s : State) : State := if s.glb.vinOn then raise 356 ((sbuBlank s).event 13) else s

/-- SBU_STATUS_LOST. -/
def execSbuStatusLost (s : State) : Res := .next (statusLost s)

end Sys2Proof.Machine
end

