-- ==== Sys2Proof/Machine/States.lean ====
section
/-! DEFINITION. The device states and roles (R19 to R51): the commands of `GLB.CMD` and `GLB.OPBLK`, the start-up steps 0x20 to
0x30 with the link process and role resolution, orderly blocks and shutdown, and the part of a cycle start that changes the
state. -/

namespace Sys2Proof.Machine

/-! ### Roles (R34 to R36, R41, R486) -/

/-- The role takes a value: a class 2 entry, the STATE event (R328, R525). -/
def setRole (r : Nat) (s : State) : State :=
  if s.role = r then s
  else
    let s := s.wr F.GLB_ROLE_ROLE r
    standbyJudge ((s.logState s.st s.st).event 1)

/-- The role is resolved as SOLO or ACTIVE: EPOCH 1, or one more than the partner's (R486). Without such a value the role
stays as it is, with FS384. -/
def resolveDriver (r : Nat) (s : State) : State :=
  let e := s.rd F.TWN_PEPOCH_EPOCH + 1
  if 0xFFFF < e then raise 384 s else setRole r (s.wr F.GLB_ROLE_EPOCH e)

/-- The role is resolved as STANDBY: EPOCH one less than the active unit's while the link is UP (R486). -/
def resolveStandby (s : State) : State := standbyEpoch (setRole roSTANDBY s)

/-- The table of R34, for a role that is still WAIT; step 0x31 follows, where the role stays WAIT too (R27). Equal PREF levels or identities end in WAIT; a cell that obeys another
master comes first (notes/assumptions/21). -/
def roleResolve (s : State) : State :=
  let obey := s.flag F.GLB_ROLE_OBEY_OTHER
  let stop := fun (s : State) => { s with glb := { s.glb with roleWait := false, roleTimer := false } }
  if s.role != roWAIT then stop (setStep 0x31 s)
  else if !s.flag F.GLB_ROLE_TWIN then
    (if obey then (raise 371 (setStep 0x31 (stop s))).wr F.GLB_CMDSTS_HOLD 6 else resolveDriver roSOLO (setStep 0x31 (stop s)))
  else if s.relayUp then
    (if obey then resolveStandby (setStep 0x31 (stop s))
     else if s.twn.clash then raise 372 (setStep 0x31 (stop s))
     else if s.flag F.GLB_ROLE_PREF then resolveDriver roACTIVE (setStep 0x31 (stop s))
     else resolveStandby (setStep 0x31 (stop s)))
  else if s.twn.failed3 then
    (if obey then resolveStandby (setStep 0x31 (stop s))
     else if s.flag F.GLB_ROLE_PREF then resolveDriver roACTIVE (setStep 0x31 (stop s))
     else { s with glb := { s.glb with roleWait := false, roleTimer := true } })
  else { s with glb := { s.glb with roleWait := true } }

/-- ROLE_WAIT_EXPIRY: 2 s have passed in the last row of R34. -/
def roleWaitExpiry (s : State) : State :=
  if !s.glb.roleTimer || s.role != roWAIT then s
  else
    let s := setStep 0x31 { s with glb := { s.glb with roleTimer := false } }
    if s.flag F.GLB_ROLE_OBEY_OTHER then resolveStandby s else resolveDriver roACTIVE s

/-- ROLE_WAIT_EXPIRY. -/
def execRoleWaitExpiry (s : State) : Res := .next (roleWaitExpiry s)

/-- The link comes UP or its third attempt has failed: the resolution that waits for it goes on (R34). -/
def roleGoOn (s : State) : State :=
  if s.st = stLINKED && s.role = roWAIT && (s.glb.roleWait || s.glb.roleTimer) then roleResolve s else s

/-- RELAY_TRAINED with the LRLY measured, in ns (R481). -/
def relayTrained (lrly : Nat) (s : State) : State :=
  if s.rd F.TWN_STS_LSTATE = 1 then standbyEpoch (roleGoOn (linkUp lrly s)) else s

/-- RELAY_TRAINED. -/
def execRelayTrained (lrly : BitVec 16) (s : State) : Res := .next (relayTrained lrly.toNat s)

/-- RELAY_ATTEMPT_TIMEOUT: the next attempt, or LISTEN with FS368 after the third (R481, R519). -/
def attemptTimeout (s : State) : State :=
  if s.rd F.TWN_STS_LSTATE != 1 || !s.twn.limit then s
  else if s.twn.attempts < 3 then
    ({ s with twn := { s.twn with attempts := s.twn.attempts + 1 } }).emit (.relay 0 s.idBytes)
  else roleGoOn (standbyJudge (raise 368 (linkState 2 { s with twn := { s.twn with failed3 := true } })))

/-- RELAY_ATTEMPT_TIMEOUT. -/
def execRelayAttemptTimeout (s : State) : Res := .next (attemptTimeout s)

/-! ### The link process (R32, R33) -/

/-- The configured lanes. -/
def State.usedLanes (s : State) : List Nat := (List.range 128).filter fun l => s.flag (F.CL_CFG_USED l)

/-- What the start of a link process does to one lane: a split ring trains again from EIDLE (R322), a lane that carries frames
enumerates its chain again (R317), every other trains by itself (R274). -/
def linkLane (l : Nat) (s : State) : State :=
  let s := (s.wr (F.CL_STS_ATTEMPTS l) 0).setLn l fun x => { x with enumd := false }
  let v := s.lane l
  if s.rd (F.CL_RINGSTS_MODE l) = 2 then idleLane l lsEIDLE s
  else if (v = lsREADY || v = lsLOCKED || v = lsRXLOST) && !s.ringFar l then enumStart l s
  else s

/-- The size of A of arm `n` as the cells stand (R190). -/
def State.navail (s : State) (n : Nat) : Nat := ((s.armCells n).filter (·.inA)).length

/-- The declared ratings of a cell lie in the range of its arm (R33). -/
def State.ratingOk (s : State) (c : CellSt) : Bool :=
  match s.be.ratings.find? fun r => r.1 == c.arm with
  | some (_, vmin, vmax, imin, imax) =>
    let v := c.rate % 2 ^ 16
    let i := c.rate / 2 ^ 16
    decide (vmin ≤ v) && decide (v ≤ vmax) && decide (imin ≤ i) && decide (i ≤ imax)
  | none => true

/-- What the end of a link process makes of one cell (R33, R191). -/
def State.linkCell (s : State) (c : CellSt) : CellSt :=
  if !c.answered then { c with state := csUNOBS, unranked := true, reobs := 0 }
  else
    let c := if c.state = csFAILED && c.id != s.tallyId c.gidx then { c with state := c.blockState } else c
    if s.ratingOk c then { c with rating := false }
    else { c with rating := true, state := if c.state = csFAILED || c.state = csUNOBS then c.state else 3 }

/-- The population check of arm `n` (R33, R222). -/
def State.popShort (s : State) (n : Nat) : Bool := decide (s.navail n < s.rd (F.ARM_POPMIN_N n))

/-- The link process ends: identity and rating checks, then the population check (R33). -/
def linkEnd (s : State) : State :=
  let s := s.mapCells (fun _ => true) s.linkCell
  let s := dlvUpdate (identityCheck s)
  let s := forAll s.arms cellCount s
  let short := s.arms.filter s.popShort
  let s := setStep 0x24 (s.wr F.GLB_STATE_LINK_BUSY 0)
  let s := forAll short (fun n s => raise (248 + 2 * n) (s.wr (F.ARM_POPCAUSE_POPLOW n) 1)) s
  if short.isEmpty then (if s.eff = stLOADED then changeState stLINKED 0x30 s else s)
  else { s with glb := { s.glb with relink := true } }.wr F.GLB_CMDSTS_HOLD 7

/-- The link process ends when every configured chain is enumerated (R33). The END 1 lane of an unbroken ring has no chain of
its own (R320). -/
def linkJudge (s : State) : State :=
  if s.linking && s.usedLanes.all fun l => s.ringFar l || (s.ln l).enumd then linkEnd s else s

/-- The link process starts (R32). -/
def linkStart (s : State) : State :=
  let s := setStep 0x22 (s.wr F.GLB_STATE_LINK_BUSY 1)
  let s := { s with glb := { s.glb with relink := false, linkReq := false } }
  let s := s.mapCells (fun _ => true) fun c => { c with answered := false }
  linkJudge (forAll s.usedLanes linkLane s)

/-- The link process is asked for: at once while arm cycles run, else when they start (R31, R32). -/
def linkAsk (s : State) : State :=
  if s.running then linkStart s else { s with glb := { s.glb with linkReq := true } }

/-- STEP reads 0x23 once every lane has trained (R27). -/
def linkStep (s : State) : State :=
  if s.linking && s.rd F.GLB_STATE_STEP = 0x22 && s.usedLanes.all fun l => s.lane l = lsREADY || s.lane l = lsLOCKED then
    setStep 0x23 s
  else s

/-- CHAIN_ENUMERATED: the enumeration of lane `l` has passed its last hop (R316). -/
def chainEnumerated (l : Nat) (s : State) : State :=
  match (s.ln l).ehop with
  | some h =>
    if s.flag (F.CL_ENUM_BUSY l) && s.liveHops l ≤ h then
      linkJudge ((s.wr (F.CL_ENUM_BUSY l) 0).setLn l fun x => { x with ehop := none, enumd := true })
    else s
  | none => s

/-- CHAIN_ENUMERATED. -/
def execChainEnumerated (l : Fin 128) (s : State) : Res := .next (chainEnumerated l s)

/-- LINK_TIMEOUT: `GLB.LINKTMO.MS` since the start of step 0x22 ends the process; the same time after a failed population check
starts it again (R33). -/
def linkTimeout (s : State) : State :=
  if s.linking then linkEnd s
  else if s.glb.relink && s.eff = stLOADED && s.running then linkStart s
  else s

/-- LINK_TIMEOUT. -/
def execLinkTimeout (s : State) : Res := .next (linkTimeout s)

/-! ### Step 0x20 (R30, R31, R364) -/

/-- Steps 0x20 and 0x21 begin: the level of the Recipe and its slack verification; the LMU reference; Relay training. -/
def startUp (s : State) : State :=
  let s := relayStart (lmuLoaded (setStep 0x20 s))
  let s := { s with clk := { s.clk with start20 := true } }
  let p := s.rd F.CLK_PLSTS_PL
  let q := s.rd F.SCH_CFG_PL
  if s.clk.plStep != 0 then { s with clk := { s.clk with restart := some s.glb.linkReq } }
  else if p = q then slackStart s
  else plStart p q false s

/-- The number of the first cycle: with SRC = NET and SYNC = 1 that of the first target start at least 100 µs ahead, else 0
(R362, R364). -/
def State.firstCycle (s : State) : Nat :=
  if s.rd F.TB_CYCCFG_SRC = 0 && s.flag F.TB_STS_SYNC && s.armcyc != 0 then
    let a : Int := s.armcyc
    let m := (s.nowInt + 100000 - s.rd F.TB_CYCPH_NS + a - 1).fdiv a
    unsigned 32 m
  else 0

/-- Arm cycles start (R30, R160, R170, R200, R206). -/
def armCyclesStart (s : State) : State :=
  let s := s.wr F.SCH_CFG_RUNNING 1
  let s := { s with clk := { s.clk with start20 := false } }
  let s := { s with sch := { s.sch with first := some s.firstCycle, frozen := false } }
  let s := { s with ref := { s.ref with preset := 0xF } }
  let s := forAll s.arms (fun n s => s.setArm n fun a => { a with sigNext := 1, fullNext := true, chain := 0, missing := false, cut := false }) s
  if s.flag F.GLB_AUTO_AUTO_LINK || s.glb.linkReq then linkStart s else setStep 0x21 s

/-- Arm cycles stop: lanes idle, what waits for a cycle is dropped (R47, R79, R274, R374, R423, R481). -/
def armCyclesStop (s : State) : State :=
  let s := s.wrs ([(F.SCH_CFG_RUNNING, 0), (F.GLB_STATE_LINK_BUSY, 0), (F.GLB_OPBLK_BLK, 0), (F.CG_STS_RUNNING, 0)] ++
    (List.range 8).map fun c => (F.CC_STS_BUSY c, 0))
  let s := { s with glb := { s.glb with deblockPend := false, relink := false, linkReq := false, blkArms := 0 } }
  let s := { s with cl := { s.cl with launched := false, lock := none, cut := 0 } }
  let s := { s with cg := { s.cg with imgs := [], run := none } }
  let s := { s with twn := { s.twn with items := [], resync := none, tk := none, nextRole := none, drive := none, reh := none } }
  relayOff (wbStop (lmuStop (lanesStop s)))

/-- SLACK_VERIFY_DONE with the worst firing in permille: the result of R106; at step 0x20 arm cycles start, or hold code 0x09
(R30). -/
def slackDone (worst : Nat) (s : State) : State :=
  if !s.flag F.SCH_SLKVER_BUSY then s
  else
    let s := slackResult worst s
    if s.clk.restart.isSome && s.clk.plStep = 0 && !s.running then startUp { s with clk := { s.clk with restart := none } }
    else if !s.clk.start20 || s.clk.plStep != 0 || s.running then s
    else if s.flag F.SCH_SLKVER_PASS && s.inforce = s.rd F.SCH_CFG_PL then armCyclesStart s
    else s.wr F.GLB_CMDSTS_HOLD 9

/-- SLACK_VERIFY_DONE. -/
def execSlackVerifyDone (worst : BitVec 16) (s : State) : Res := .next (slackDone worst.toNat s)

/-- LMU_CAL_DONE: the calibration of R410; the automatic one of step 0x21 that leaves the LMU uncalibrated records hold code
0x0B (R27). -/
def lmuCalDone (l : List (BitVec 16)) (s : State) : State :=
  if !s.flag F.LMU_STS_CALBUSY then s
  else
    let auto := s.lmu.calAuto
    let s := calDone l s
    if auto && !s.calibrated then s.wr F.GLB_CMDSTS_HOLD 0xB else s

/-- LMU_CAL_DONE. -/
def execLmuCalDone (l : List (BitVec 16)) (s : State) : Res := .next (lmuCalDone l s)

/-! ### Judging a command (R22, R26, R51) -/

/-- The key of `GLB.CMD.KEY`. -/
abbrev cmdKey : Nat := 0xA5C3

/-- A command is judged: `GLB.CMDSTS`, a class 5 entry, the CMD event; accepted, it acts. -/
def command (code hold : Nat) (k : State → State) (s : State) : State :=
  let s := ((s.wr F.GLB_CMDSTS_CODE code).count F.GLB_CMDSTS_SEQ)
  if hold = 0 then ((k (s.logCommand code 0)).wr F.GLB_CMDSTS_RESULT 1).event 2
  else ((s.wrs [(F.GLB_CMDSTS_RESULT, 2), (F.GLB_CMDSTS_HOLD, hold)]).logCommand code hold).event 2

/-- An orderly block, a link process or a shutdown runs (R25). -/
def State.busy (s : State) : Bool := s.glb.orderly || s.linking || s.glb.shutStep != 0

/-- LINK: the hold code (R22, R25). -/
def State.linkHold (s : State) : Nat :=
  if s.busy then 0xF
  else if s.eff != stLOADED then 1
  else if s.rd F.GLB_STATE_STEP != 0xF0 && s.flag F.GLB_AUTO_AUTO_LINK then 1
  else 0

/-- LINK acts: after a shutdown steps 0x20 to 0x24 run again whatever AUTO_LINK holds (R22, R47). -/
def linkAct (s : State) : State :=
  if s.rd F.GLB_STATE_STEP = 0xF0 then startUp { s with glb := { s.glb with linkReq := true } } else linkAsk s

/-- The LINK command. -/
def cmdLink (s : State) : State := command 2 s.linkHold linkAct s

/-- `GLB.CMD` is written with code 0x02. -/
def execLink (m : Master) (s : State) : Res := .next (gate m .p 0xC cmdLink s)

/-- No latched reaction of severity S4 or S5. -/
def State.noLatch45 (s : State) : Bool := !s.flag F.FC_STS_BLK && !s.flag F.FC_STS_TRIP

/-- The SAFE section of the Recipe is the one that the SBU holds active (R37 condition 5, R85). -/
def State.safeAcked (s : State) : Bool := s.rd F.RCP_SBUCRC_CRC = s.rd (secCrcFld 6) && s.flag F.SBU_STS_CFG

/-- The ARM conditions in the order of R37, after R25; `keyOk` for the command, true for AUTO_ARM. -/
def State.armHold (s : State) (keyOk : Bool) : Nat :=
  if s.busy then 0xF
  else if s.eff != stLINKED then 1
  else if !keyOk then 2
  else if s.role = roWAIT then 6
  else if s.glb.tstmode then 0x10
  else if !s.safeAcked then 0xA
  else if !s.calibrated then 0xB
  else if !(s.flag F.SCH_SLKVER_PASS && s.rd F.SCH_SLKVER_PL = s.inforce) then 9
  else if !s.flag F.SBU_STS_PROOF then 4
  else if !s.flag F.SBU_STS_ALLCLOSED then 5
  else if !s.noLatch45 then 3
  else 0

/-- ARM acts: the state becomes ARMED, with which permit is requested (R19, R22). -/
def armAct (s : State) : State := changeState stARMED 0x40 s

/-- The ARM command. -/
def cmdArm (key : Nat) (s : State) : State := command 3 (s.armHold (key = cmdKey)) armAct s

/-- `GLB.CMD` is written with code 0x03. -/
def execArm (m : Master) (key : BitVec 16) (s : State) : Res := .next (gate m .p 0xC (cmdArm key.toNat) s)

/-- AUTO_ARM: in LINKED with AUTO_ARM = 1 and every condition met (R37). -/
def autoArm (s : State) : State :=
  if s.flag F.GLB_AUTO_AUTO_ARM && s.st = stLINKED && s.armHold true = 0 then armAct s else s

/-- AUTO_ARM. -/
def execAutoArm (s : State) : Res := .next (autoArm s)

/-- Each arm's mean VCAP over its observed cells is at least VMIN (R39 condition 7). -/
def State.vcapOk (s : State) : Bool :=
  s.arms.all fun n =>
    let cs := (s.armCells n).filter (·.inO)
    decide (s.rd F.GLB_DBCHK_VMIN * max 1 cs.length ≤ (cs.map (·.vcap)).foldl (· + ·) 0)

/-- The DEBLOCK conditions in the order of R39, after R25; a rehearsal that runs counts as in progress (R516). -/
def State.deblockHold (s : State) (key : Nat) : Nat :=
  if s.busy || s.flag F.TWN_STS_REH then 0xF
  else if !(s.eff = stARMED || s.eff = stBLOCKED) then 1
  else if key != cmdKey then 2
  else if !(s.role = roSOLO || s.role = roACTIVE) then 6
  else if !s.noLatch45 then 3
  else if !(s.flag F.SBU_STS_SO0 && s.flag F.SBU_STS_SO1) then 0xC
  else if s.arms.any s.popShort then 7
  else if s.flag F.GLB_DBCHK_VCHK_EN && !s.vcapOk then 8
  else if s.flag F.GLB_DBCHK_SYNCREQ && !s.flag F.REF_SYN_STS_INSYNC then 0xD
  else 0

/-- DEBLOCK acts: the state reads RUN from the next cycle start (R40). -/
def deblockAct (s : State) : State := { s with glb := { s.glb with deblockPend := true } }

/-- The DEBLOCK command. -/
def cmdDeblock (key : Nat) (s : State) : State := command 4 (s.deblockHold key) deblockAct s

/-- `GLB.CMD` is written with code 0x04. -/
def execDeblock (m : Master) (key : BitVec 16) (s : State) : Res := .next (gate m .p 0xC (cmdDeblock key.toNat) s)

/-! ### Blocks (R23, R41, R44, R45) -/

/-- A state in which BLOCK and `GLB.OPBLK` act (R22). -/
def State.blockable (s : State) : Bool :=
  s.eff = stLOADED || s.eff = stLINKED || s.eff = stARMED || s.eff = stRUN || s.eff = stBLOCKED

/-- An orderly block begins (R45). -/
def orderlyStart (s : State) : State := setStep 0x60 { s with glb := { s.glb with orderly := true, orderlyTmo := false } }

/-- A block of this unit: orderly only in RUN, urgent otherwise (R23, R45). -/
def blockHere (orderly : Bool) (s : State) : State :=
  if orderly && s.eff = stRUN then (if s.glb.orderly then s else orderlyStart s) else blockAll s

/-- BLOCK acts by role: a STANDBY forwards it (R41). MSG kind 20: 0 urgent, 1 orderly. -/
def blockAct (orderly : Bool) (s : State) : State :=
  if s.role = roSTANDBY then s.relay 0x20 [20, BitVec.ofNat 8 (b2n orderly)] else blockHere orderly s

/-- BLOCK: the hold code. -/
def State.blockHold (s : State) : Nat := if !s.blockable then 1 else if s.role = roWAIT then 6 else 0

/-- The BLOCK command. -/
def cmdBlock (arg : Nat) (s : State) : State := command 5 s.blockHold (blockAct (arg.testBit 0)) s

/-- `GLB.CMD` is written with code 0x05. -/
def execBlock (m : Master) (arg : Byte) (s : State) : Res := .next (gate m .p 0xC (cmdBlock arg.toNat) s)

/-- A write of 1 to `GLB.OPBLK` (R22, R41): it reads 1 until the next cycle start, when the block has taken effect. A refusal
records its hold code (notes/assumptions/22). MSG kind 21. -/
def opblk (s : State) : State :=
  if !s.blockable then s
  else if s.role = roWAIT then s.wr F.GLB_CMDSTS_HOLD 6
  else
    let s := s.put F.GLB_OPBLK_BLK s.running
    if s.role = roSTANDBY then s.relay 0x20 [21] else blockHere false s

/-- `GLB.OPBLK.BLK` is written with 1. -/
def execOpblkWrite (m : Master) (s : State) : Res := .next (gate m .u 0x14 opblk s)

/-- FORWARDED_BLOCK_RECEIVED: a BLOCK or OPBLK of the STANDBY acts here (R41). -/
def forwardedBlock (op orderly : Bool) (s : State) : State :=
  if s.role != roACTIVE || !s.relayUp then s
  else if op then (if s.blockable then blockHere false (s.put F.GLB_OPBLK_BLK s.running) else s)
  else command 5 s.blockHold (blockHere orderly) s

/-- FORWARDED_BLOCK_RECEIVED. -/
def execForwardedBlockReceived (op orderly : Bool) (s : State) : Res := .next (forwardedBlock op orderly s)

/-- ORDERLY_BLOCK_TIMEOUT: the block follows at the next cycle start (R45). -/
def orderlyTimeout (s : State) : State :=
  if s.glb.orderly then { s with glb := { s.glb with orderlyTmo := true } }.wr F.GLB_CMDSTS_OBLK_TMO 1 else s

/-- ORDERLY_BLOCK_TIMEOUT. -/
def execOrderlyBlockTimeout (s : State) : Res := .next (orderlyTimeout s)

/-- DISARM: the hold code. -/
def State.disarmHold (s : State) : Nat := if s.eff = stARMED || s.eff = stBLOCKED then 0 else 1

/-- DISARM acts at the next cycle start; a pending DEBLOCK is superseded (R24, R46). -/
def disarmAct (s : State) : State := changeState stLINKED 0x31 (supersede s)

/-- The DISARM command. -/
def cmdDisarm (s : State) : State := command 6 s.disarmHold disarmAct s

/-- `GLB.CMD` is written with code 0x06. -/
def execDisarm (m : Master) (s : State) : Res := .next (gate m .p 0xC cmdDisarm s)

/-! ### RECOVER and SHUTDOWN (R47 to R49) -/

/-- RECOVER: the hold code. -/
def State.recoverHold (s : State) (key : Nat) : Nat :=
  if s.busy || s.flag F.TWN_STS_REH then 0xF
  else if s.eff != stSAFE then 1
  else if s.flag F.FC_STS_SELF then 0xE
  else if key != cmdKey then 2
  else if s.flag F.FC_STS_TRIP then 3
  else 0

/-- RECOVER acts: LOADED, and the link process as R32 and R33 say (R48). With arm cycles stopped and a Recipe active, steps
0x20 to 0x24 run (notes/assumptions/23). -/
def recoverAct (s : State) : State :=
  if s.running then
    let auto := s.flag F.GLB_AUTO_AUTO_LINK
    let s := changeState stLOADED (if auto then 0x22 else 0x21) s
    if auto then linkStart s else s
  else
    let s := changeState stLOADED 0x20 s
    if s.armcyc = 0 then s else startUp s

/-- The RECOVER command. -/
def cmdRecover (key : Nat) (s : State) : State := command 7 (s.recoverHold key) recoverAct s

/-- `GLB.CMD` is written with code 0x07. -/
def execRecover (m : Master) (key : BitVec 16) (s : State) : Res := .next (gate m .p 0xC (cmdRecover key.toNat) s)

/-- Step 5 of a shutdown: lanes idle, arm cycles stop, LOADED with STEP 0xF0 (R47). TEST stays (R50). -/
def shutEnd (s : State) : State :=
  let s := { s with glb := { s.glb with shutStep := 0, pend := none } }
  let s := { s with clk := { s.clk with start20 := false } }
  let s := if s.st = stTEST then s else if s.st = stLOADED then setStep 0xF0 s else applyState stLOADED 0xF0 s
  armCyclesStop s

/-- The partner is a STANDBY that can take over (R47 step 1). -/
def State.partnerReady (s : State) : Bool :=
  s.relayUp && s.role = roACTIVE && s.rd F.TWN_STS_PROLE = roSTANDBY && !s.flag F.TWN_STS_PNR

/-- A shutdown goes to step 2 of scope 0 or to step 3. -/
def shutTwo (s : State) : State :=
  let drives := s.role = roSOLO || s.role = roACTIVE
  let s := { s with glb := { s.glb with shutStep := 2 } }
  if drives && s.eff = stRUN then (if s.glb.orderly then s else orderlyStart s)
  else { s with glb := { s.glb with shutStep := 3 } }

/-- Steps 3 to 5: permit withdrawn, the final checkpoint once no other runs, the end when it has ended. Without a Tally there
is no checkpoint to make. -/
def shutTail (s : State) : State :=
  let s := if s.glb.shutStep = 3 then permitWithdraw { s with glb := { s.glb with shutStep := 4 } } else s
  let s := if s.glb.shutStep = 4 && !s.flag F.TLY_STS_CKBUSY then
      ckptStart { s with glb := { s.glb with shutStep := 5 } } else s
  if s.glb.shutStep = 5 && !s.flag F.TLY_STS_CKBUSY then shutEnd s else s

/-- What a shutdown does at a cycle start (R47). -/
def shutTick (s : State) : State :=
  let s := if s.glb.shutStep = 1 then
      (if s.role != roACTIVE then shutTwo s
       else if s.glb.shutWait = 0 then shutTwo s
       else { s with glb := { s.glb with shutWait := s.glb.shutWait - 1 } })
    else s
  shutTail s

/-- A shutdown begins. Scope 0: the standby is asked to take over, and at most 4 cycle starts pass until this unit is STANDBY
(the takeover within 2, then 2: notes/assumptions/24). Scope 1: an orderly block, and the partner is told (MSG kind 22). -/
def shutBegin (scope : Nat) (s : State) : State :=
  let s := { s with glb := { s.glb with shutScope := scope } }
  let s := if scope = 0 then
      (if s.partnerReady && s.running then
        { s with glb := { s.glb with shutStep := 1, shutWait := 4 } }.relay 0x10 []
       else shutTwo s)
    else shutTwo (s.relay 0x20 [22])
  if s.running then s else shutTail s

/-- SHUTDOWN: the hold code. -/
def State.shutHold (s : State) (key : Nat) : Nat :=
  if !(s.blockable || s.eff = stSAFE) then 1 else if key != cmdKey then 2 else 0

/-- The SHUTDOWN command; one that runs already goes on. -/
def cmdShutdown (arg key : Nat) (s : State) : State :=
  command 8 (s.shutHold key) (fun s => if s.glb.shutStep != 0 then s else shutBegin (b2n (arg.testBit 1)) s) s

/-- `GLB.CMD` is written with code 0x08. -/
def execShutdown (m : Master) (arg : Byte) (key : BitVec 16) (s : State) : Res :=
  .next (gate m .p 0xC (cmdShutdown arg.toNat key.toNat) s)

/-- PARTNER_SHUTDOWN_RECEIVED: scope 1 runs here; the partner is not told back (R47). -/
def partnerShutdown (s : State) : State :=
  if !s.relayUp || s.glb.shutStep != 0 || !(s.blockable || s.eff = stSAFE) then s
  else
    let s := shutTwo { s with glb := { s.glb with shutScope := 1 } }
    if s.running then s else shutTail s

/-- PARTNER_SHUTDOWN_RECEIVED. -/
def execPartnerShutdownReceived (s : State) : Res := .next (partnerShutdown s)

/-- TALLY_CKPT_DONE (R340); with arm cycles stopped a shutdown goes on at once. -/
def execTallyCkptDone (ok : Bool) (s : State) : Res :=
  .next (let s := ckptDone ok s
         if s.running then s else shutTail s)

/-- `GLB.CMD` is written with any word (R22). -/
def glbCommand (w : Nat) (s : State) : State :=
  let arg := w / 2 ^ 8 % 2 ^ 8
  let key := w / 2 ^ 16 % 2 ^ 16
  match w % 2 ^ 8 with
  | 2 => cmdLink s
  | 3 => cmdArm key s
  | 4 => cmdDeblock key s
  | 5 => cmdBlock arg s
  | 6 => cmdDisarm s
  | 7 => cmdRecover key s
  | 8 => cmdShutdown arg key s
  | c => command c 1 id s

/-! ### Structural commits (R79) -/

/-- Arm cycles stop and steps 0x20 to 0x24 run again under a new ARMCYC or PL. -/
def restart20 (relink : Bool) (s : State) : State :=
  let s := armCyclesStop s
  startUp { s with glb := { s.glb with linkReq := relink } }

/-- A restart that waits for the end of a level change (R572). -/
def restartDue (s : State) : State :=
  match s.clk.restart with
  | some relink => if s.clk.plStep = 0 then restart20 relink { s with clk := { s.clk with restart := none } } else s
  | none => s

/-! ### The state at a cycle start (R21, R40, R42, R45) -/

/-- The step code that goes with a state taken from the partner. -/
def stepOf (st : Nat) : Nat :=
  if st = stARMED then 0x40 else if st = stRUN then 0x50 else if st = stBLOCKED then 0x70 else 0

/-- What entering a state does beside the register: permit (R19), the release of the first selection (R212), role resolution
(R34). -/
def enterState (new step : Nat) (s : State) : State :=
  let s := standbyJudge (applyState new step s)
  if new = stARMED then { s with glb := { s.glb with permit := true } }
  else if new = stLINKED then roleResolve (permitWithdraw s)
  else if new = stLOADED then permitWithdraw s
  else if new = stRUN then forAll s.arms (fun n s => s.setArm n fun a => { a with release := true }) s
  else s

/-- The state part of a cycle start: an orderly block whose ramps are at zero or whose time is over, the change that waits, the
DEBLOCK that waits, the state taken from the active unit, a shutdown, the link process. -/
def stateStart (s : State) : State :=
  let s := s.wr F.GLB_OPBLK_BLK 0
  let s := if s.glb.orderly && s.st = stRUN && (s.rampsZero || s.glb.orderlyTmo) then blockAll s else s
  let taken := s.twn.taken
  let s := { s with twn := { s.twn with taken := none } }
  let s := match s.glb.pend with
    | some (new, step) =>
      let s := { s with glb := { s.glb with pend := none } }
      if new = s.st then setStep step s else enterState new step s
    | none =>
      if s.glb.deblockPend then enterState stRUN 0x50 { s with glb := { s.glb with deblockPend := false } }
      else match taken with
        | some t =>
          if s.role = roSTANDBY && (s.st = stARMED || s.st = stRUN || s.st = stBLOCKED) && t != s.st then
            enterState t (stepOf t) s
          else s
        | none => s
  let s := if s.glb.orderly && s.st != stRUN then endOrderly s else s
  restartDue (linkStep (shutTick s))

end Sys2Proof.Machine
end

