-- ==== Sys2Proof/Machine/Clocks.lean ====
section
/-! DEFINITION. Supplies, clocks and gates (spec/18): supply and temperature reports, clock failures with their muxes and fallback
oscillators, clock gating, and the request of a software reset. The resets themselves stand in `Sys2Proof/Machine/Resets.lean`,
the performance levels in `Sys2Proof/Machine/Levels.lean`. -/

namespace Sys2Proof.Machine

/-! ### Supplies and temperature (R550, R552, R573) -/

/-- A level change in progress is abandoned (R572): the Cellar keeps its rate, verification is void. -/
def plAbandon (s : State) : State :=
  if s.clk.plStep = 0 then s
  else plStep 0 ({ s with clk := { s.clk with returning := false } }.wrs [(F.SCH_SLKVER_PASS, 0), (F.SCH_SLKVER_BUSY, 0)])

/-- VIN_POWER_WARNING with VIN in mV: the power-loss sequence (R552). The Ledger and the graph trace stop while FS0 is live. -/
def powerWarning (mv : Nat) (s : State) : State :=
  let s := s.wrs [(F.CLK_VMON_VIN, mv), (F.CLK_SUPSTS_VINWARN, 1)]
  let rec_ := (s.now, s.cycRec, s.st, s.role)
  plAbandon (raise 0 { s with clk := { s.clk with lossRec := some rec_ } })

/-- VIN_POWER_WARNING. -/
def execVinPowerWarning (mv : BitVec 16) (s : State) : Res :=
  .next (if mv.toNat < s.rd F.CLK_PWRCFG_WARN then powerWarning mv.toNat s else s)

/-- RAIL_OUT_OF_WINDOW: rail by its bit in `CLK.SUPSTS.RAILS`. -/
def railOut (rail : Nat) (s : State) : State := raise (if rail = 0 then 3 else 4) (s.putBit F.CLK_SUPSTS_RAILS rail false)

/-- RAIL_OUT_OF_WINDOW. -/
def execRailOutOfWindow (rail : Fin 11) (s : State) : Res := .next (railOut rail s)

/-- REGULATOR_FAULT. -/
def execRegulatorFault (s : State) : Res := .next (raise 5 (s.wr F.CLK_SUPSTS_REGFLT 1))

/-- JUNCTION_TEMP_WARN with the highest temperature in 0.1 °C and its sensor. -/
def junction (tj : Int) (sensor : Nat) (s : State) : State :=
  let s := s.wrs [(F.CLK_TEMP_TJ, unsigned 16 tj), (F.CLK_TEMP_SENSOR, sensor)]
  let w : Int := 10 * s.rd F.CLK_THERM_WARN
  let s := if w ≤ tj then raise 18 s else if tj ≤ w - 50 then unraise 18 s else s
  if 1180 ≤ tj then raise 19 s else if tj < 1100 then unraise 19 s else s

/-- JUNCTION_TEMP_WARN. -/
def execJunctionTempWarn (tj : BitVec 16) (sensor : Byte) (s : State) : Res := .next (junction (signed 16 tj.toNat) sensor.toNat s)

/-! ### Clock failures (R560 to R562) -/

/-- MX_TB switches to FBO, or its domain is held until FBO is ready. -/
def tbFallback (s : State) : State :=
  if s.flag F.CLK_CKSTS_TBFB then s
  else if s.flag F.CLK_CKSTS_FBORDY then (s.wr F.CLK_CKSTS_TBFB 1).inc F.CLK_MUXCNT_SWITCHES
  else s.wr F.CLK_CKSTS_HOLDRST 1

/-- MX_OST switches to OFB, or its domain is held. -/
def ostFallback (s : State) : State :=
  if s.flag F.CLK_CKSTS_OSTFB then s
  else if s.flag F.CLK_CKSTS_OFBRDY then raise 16 ((s.wr F.CLK_CKSTS_OSTFB 1).inc F.CLK_MUXCNT_SWITCHES)
  else { s with clk := { s.clk with ostHold := true } }

/-- Arm cycles stop with the timebase clock; a state change that waited for a cycle start takes effect (R21, R560). -/
def clockStop (s : State) : State :=
  let s := if s.running then armCyclesStop s else s
  match s.glb.pend with
  | some (new, step) => enterState new step { s with glb := { s.glb with pend := none } }
  | none => s

/-- The bit of a Cellar PLL, and whether MX_CEL selects it. -/
def cpllFail (c : Nat) (s : State) : State :=
  let s := s.wr (if c = 0 then F.CLK_CKSTS_CPLL0 else F.CLK_CKSTS_CPLL1) 0
  if s.rd F.CLK_CKSTS_CSEL = c then raise 13 s else s

/-- CLOCK_FAILURE: 0 REFCLK_25, 1 TB PLL, 2 FBO, 3 OFB, 4 lane PLL `q`, 5 Relay PLL, 6 NET PLL, 7 Cellar PLL `q`, 8 PCIe REFCLK. -/
def clockFailure (c q : Nat) (s : State) : State :=
  match c with
  | 0 =>
    let s := s.wrs [(F.CLK_CKSTS_REFOK, 0), (F.CLK_CKSTS_TBPLL, 0), (F.CLK_CKSTS_RLYPLL, 0), (F.CLK_CKSTS_NETPLL, 0),
      (F.CLK_CKSTS_CPLL0, 0), (F.CLK_CKSTS_CPLL1, 0), (F.CLK_LPLL_LOCK, 0)]
    raise 6 (plAbandon (clockStop (ostFallback (tbFallback s))))
  | 1 => raise 7 (clockStop (tbFallback (s.wr F.CLK_CKSTS_TBPLL 0)))
  | 2 =>
    let s := raise 9 (s.wr F.CLK_CKSTS_FBORDY 0)
    if s.flag F.CLK_CKSTS_TBFB then s.wrs [(F.CLK_CKSTS_TBFB, 0), (F.CLK_CKSTS_HOLDRST, 1)] else s
  | 3 =>
    let s := raise 10 (s.wr F.CLK_CKSTS_OFBRDY 0)
    if s.flag F.CLK_CKSTS_OSTFB then { (s.wr F.CLK_CKSTS_OSTFB 0) with clk := { s.clk with ostHold := true } } else s
  | 4 => raise 11 (forAll (List.range 4) (fun i => lockLoss (4 * q + i)) (s.putBit F.CLK_LPLL_LOCK q false))
  | 5 => raise 12 (linkLost (s.wr F.CLK_CKSTS_RLYPLL 0))
  | 6 => raise 12 (forAll (List.range 4) (fun p => ethLink p false (s.flag (F.NET_P_STS_SPEED p))) (s.wr F.CLK_CKSTS_NETPLL 0))
  | 7 => cpllFail (q % 2) s
  | _ => raise 14 (pcieLink false 0 0 (s.wr F.CLK_CKSTS_PCIEREF 0))

/-- CLOCK_FAILURE. -/
def execClockFailure (c : Fin 9) (q : Fin 32) (s : State) : Res := .next (clockFailure c q s)

/-- Every lane PLL whose group has a configured lane is locked. -/
def State.lanePllsOk (s : State) : Bool :=
  (List.range 128).all fun l => !s.flag (F.CL_CFG_USED l) || s.rdBit F.CLK_LPLL_LOCK (l / 4)

/-- A lane whose PLL locks again trains from EIDLE (R560, R274). -/
def laneReturn (l : Nat) (s : State) : State :=
  let v := s.lane l
  if v = lsFAILED || v = lsRXLOST then idleLane l lsEIDLE (s.setLn l fun x => { x with retrain := true }) else s

/-- PLL_LOCK_REGAINED: 0 lane PLL `q`, 1 Relay, 2 NET. -/
def pllRegained (c q : Nat) (s : State) : State :=
  if c = 0 then
    let s := s.putBit F.CLK_LPLL_LOCK q true
    let s := forAll (List.range 4) (fun i => laneReturn (4 * q + i)) s
    if s.lanePllsOk then unraise 11 s else s
  else
    let s := s.wr (if c = 1 then F.CLK_CKSTS_RLYPLL else F.CLK_CKSTS_NETPLL) 1
    if s.flag F.CLK_CKSTS_RLYPLL && s.flag F.CLK_CKSTS_NETPLL then unraise 12 s else s

/-- PLL_LOCK_REGAINED. -/
def execPllLockRegained (c : Fin 3) (q : Fin 32) (s : State) : Res := .next (pllRegained c q s)

/-- FALLBACK_OSC_READY of FBO or OFB: a held domain starts on it; FS8 when it came too late (R557, R561). -/
def fallbackReady (ofb : Bool) (s : State) : State :=
  if ofb then
    let s := unraise 10 (s.wr F.CLK_CKSTS_OFBRDY 1)
    if !s.clk.ostHold then s
    else
      let late := s.clk.ostLate
      let s := ostFallback { s with clk := { s.clk with ostHold := false, ostLate := false } }
      if late then raise 8 s else s
  else
    let s := unraise 9 (s.wr F.CLK_CKSTS_FBORDY 1)
    if !s.flag F.CLK_CKSTS_HOLDRST then s
    else
      let late := s.clk.late8
      let s := tbFallback ({ s with clk := { s.clk with late8 := false } }.wr F.CLK_CKSTS_HOLDRST 0)
      if late then raise 8 s else s

/-- FALLBACK_OSC_READY. -/
def execFallbackOscReady (ofb : Bool) (s : State) : Res := .next (fallbackReady ofb s)

/-- FALLBACK_NOT_READY_TIMEOUT: 200 µs after the trip the domain is still held. -/
def fallbackLate (ofb : Bool) (s : State) : State :=
  if ofb then { s with clk := { s.clk with ostLate := s.clk.ostHold } }
  else { s with clk := { s.clk with late8 := s.flag F.CLK_CKSTS_HOLDRST } }

/-- FALLBACK_NOT_READY_TIMEOUT. -/
def execFallbackNotReadyTimeout (ofb : Bool) (s : State) : Res := .next (fallbackLate ofb s)

/-- FALLBACK_TRIM: the trim codes found and the frequency errors of the latest window in 0.01 % (R558, R560). -/
def fallbackTrim (fbo ofb eFbo eOfb : Nat) (s : State) : State :=
  if !s.flag F.CLK_CKSTS_REFOK then s
  else s.wrs [(F.CLK_FBTRIM_FBO, fbo), (F.CLK_FBTRIM_OFB, ofb), (F.CLK_CKERR_REFFBO, eFbo), (F.CLK_CKERR_REFOFB, eOfb)]

/-- FALLBACK_TRIM. -/
def execFallbackTrim (fbo ofb : BitVec 10) (eFbo eOfb : BitVec 16) (s : State) : Res :=
  .next (fallbackTrim fbo.toNat ofb.toNat eFbo.toNat eOfb.toNat s)

/-- MUX_FORCED_SWITCH of MX_TB or MX_OST: the switch to the fallback was forced. Registers and TB.RAW keep their values (R562). -/
def muxForced (ost : Bool) (s : State) : State :=
  if s.flag (if ost then F.CLK_CKSTS_OSTFB else F.CLK_CKSTS_TBFB) then raise 15 (s.inc F.CLK_MUXCNT_FORCED) else s

/-- MUX_FORCED_SWITCH. -/
def execMuxForcedSwitch (ost : Bool) (s : State) : Res := .next (muxForced ost s)

/-- OSTLER_CLOCK_RETURN: REFCLK_25 has been good for 100 ms. -/
def ostlerClock (s : State) : State :=
  if !s.flag F.CLK_CKSTS_OSTFB then s
  else unraise 16 ((s.wrs [(F.CLK_CKSTS_REFOK, 1), (F.CLK_CKSTS_OSTFB, 0)]).inc F.CLK_MUXCNT_SWITCHES)

/-- OSTLER_CLOCK_RETURN. -/
def execOstlerClockReturn (s : State) : Res := .next (ostlerClock s)

/-! ### Clock gating (R563 to R565, R572) -/

/-- The gate bit of unit `u`: 0 to 31 lane group, 32 to 35 ETH0 to ETH3, 36 Relay, 37 and 38 LADC0 and LADC1. -/
def gateBit (u : Nat) : Fld × Nat :=
  if u < 32 then (F.CLK_GATE0_LG, u) else if u < 36 then (F.CLK_GATE1_ETH, u - 32) else if u = 36 then (F.CLK_GATE1_RLY, 0)
  else (F.CLK_GATE1_LADC, u - 37)

/-- The gate bit of unit `u` reads 1. -/
def State.gateOn (s : State) (u : Nat) : Bool := s.rdBit (gateBit u).1 (gateBit u).2

/-- Unit `u` is in use (R564). -/
def State.unitUsed (s : State) (u : Nat) : Bool :=
  if u < 32 then
    (List.range 4).any (fun i => s.flag (F.CL_CFG_USED (4 * u + i))) ||
      (match s.rcp.prep with | some p => p.lanes.any fun l => l / 4 = u | none => false)
  else if u < 36 then s.portOn (u - 32)
  else if u = 36 then
    s.flag F.GLB_ROLE_TWIN || (match s.rcp.prep with | some p => p.img.flags.testBit 1 | none => false)
  else s.rd (F.LMU_ADC_CFG_MODE (u - 37)) != 0

/-- The list of quiescing units; `CLK.GSTS1.QUIESCE` follows. -/
def setQuiesce (l : List Nat) (s : State) : State :=
  { s with clk := { s.clk with quiesce := l } }.put F.CLK_GSTS1_QUIESCE (!l.isEmpty)

/-- The gate of unit `u` is requested: it quiesces. -/
def gateRequest (u : Nat) (s : State) : State :=
  if s.gateOn u then s
  else if s.unitUsed u then s.wrs [(F.CLK_ERR_INUSE, 1), (F.CLK_ERR_UNIT, u)]
  else
    let s := { (s.putBit (gateBit u).1 (gateBit u).2 true) with clk := { s.clk with ungate := s.clk.ungate.filter (· != u) } }
    if s.gated u then s else setQuiesce (s.clk.quiesce ++ [u]) s

/-- Unit `u` is ungated: a quiesce ends, a closed gate opens. -/
def ungateRequest (u : Nat) (s : State) : State :=
  if !s.gateOn u then s
  else
    let s := s.putBit (gateBit u).1 (gateBit u).2 false
    let s := setQuiesce (s.clk.quiesce.filter (· != u)) s
    if s.gated u then { s with clk := { s.clk with ungate := s.clk.ungate ++ [u] } } else s

/-- The units of `CLK.GATE0` or `CLK.GATE1` with their bit positions. -/
def gateUnits (which : Nat) : List (Nat × Nat) :=
  if which = 0 then (List.range 32).map fun q => (q, q) else (List.range 7).map fun b => (32 + b, b)

/-- A word is written to `CLK.GATE0` or `CLK.GATE1`. -/
def gateWrite (which v : Nat) (s : State) : State :=
  forAll (gateUnits which) (fun x s => if v.testBit x.2 then gateRequest x.1 s else ungateRequest x.1 s) s

/-- CLK_GATE_WRITE. -/
def execClkGateWrite (m : Master) (which : Fin 2) (value : Word) (s : State) : Res :=
  .next (gate m .p (0x3E0030 + 4 * which) (gateWrite which value.toNat) s)

/-- GATE_QUIESCED: unit `u` reports its bus idle. The PLL of a lane group powers down. -/
def gateQuiesced (u : Nat) (s : State) : State :=
  if !s.clk.quiesce.contains u then s
  else
    let s := (setQuiesce (s.clk.quiesce.filter (· != u)) s).putBit (gatedBit u).1 (gatedBit u).2 true
    if u < 32 then s.putBit F.CLK_LPLL_LOCK u false else s

/-- GATE_QUIESCED. -/
def execGateQuiesced (u : Fin 39) (s : State) : Res := .next (gateQuiesced u s)

/-- GATE_QUIESCE_TIMEOUT: 4,096 cycles without idleness. -/
def gateTimeout (u : Nat) (s : State) : State :=
  if !s.clk.quiesce.contains u then s
  else
    let s := (setQuiesce (s.clk.quiesce.filter (· != u)) s).putBit (gateBit u).1 (gateBit u).2 false
    raise 17 (s.wrs [(F.CLK_ERR_GATE_BUSY, 1), (F.CLK_ERR_UNIT, u)])

/-- GATE_QUIESCE_TIMEOUT. -/
def execGateQuiesceTimeout (u : Fin 39) (s : State) : Res := .next (gateTimeout u s)

/-- UNGATE_RELEASE: the clock of unit `u` is stable and its logic is released. -/
def ungateRelease (u : Nat) (s : State) : State :=
  if !s.clk.ungate.contains u then s
  else
    let s := { (s.putBit (gatedBit u).1 (gatedBit u).2 false) with clk := { s.clk with ungate := s.clk.ungate.filter (· != u) } }
    if u < 32 then s.putBit F.CLK_LPLL_LOCK u true else s

/-- UNGATE_RELEASE. -/
def execUngateRelease (u : Fin 39) (s : State) : Res := .next (ungateRelease u s)

/-! ### Software reset (R554) -/

/-- A write to `CLK.RST`. -/
def softReset (code key : Nat) (s : State) : State :=
  if code != 1 || key != 0xA5C3 then s
  else if s.st = stARMED || s.st = stRUN || s.st = stBLOCKED then s.wr F.CLK_ERR_RSTREF 1
  else { s with clk := { s.clk with swReset := true } }

/-- `CLK.RST` is written. -/
def execSoftwareReset (m : Master) (code : Byte) (key : BitVec 16) (s : State) : Res :=
  .next (gate m .p 0x3E0010 (softReset code.toNat key.toNat) s)

end Sys2Proof.Machine
end

