-- ==== Sys2Proof/Machine/Twin.lean ====
section
/-! DEFINITION. Twin operation (R490 to R518): snapshots, shadow comparison and resync, takeover and return, orphan adoption,
rehearsal. Carried items stand in `Carried.lean`. -/

namespace Sys2Proof.Machine

/-! ### Rehearsal: end and abort (R513, R514) -/

/-- A rehearsal ends with a result: 1 PASS, 2 FAIL, 3 ABORT. -/
def rehEnd (result : Nat) (failed : List Nat) (s : State) : State :=
  let s := { s with twn := { s.twn with reh := none, drive := none } }
  let s := s.wrs [(F.TWN_STS_REH, 0), (F.TWN_REHSTS_RESULT, result), (F.TWN_REHSTS_NFAIL, failed.length),
    (F.TWN_REHSTS_FIRST, failed.foldl min (failed.headD 0))]
  if result = 2 then raise 383 s else if result = 1 then unraise 383 s else s

/-- A rehearsal that runs is to be aborted: step 4 follows at the next freeze (R514). -/
def rehAbort (s : State) : State := { s with twn := { s.twn with reh := s.twn.reh.map fun r => { r with abort := true } } }

/-- Step 4: the active unit raises EPOCH to the standby's + 1, the standby stops driving (R513). After the freeze the locked
frame follows. -/
def rehTakeBack (s : State) : State :=
  let s := if s.role = roACTIVE then s.wr F.GLB_ROLE_EPOCH (min 0xFFFF (s.rd F.GLB_ROLE_EPOCH + 2)) else s
  let s := { s with twn := { s.twn with drive := none } }
  if s.sch.frozen then { s with cl := { s.cl with lock := some (s.sendEpoch, s.sendDrv) } } else s

/-- At a freeze an aborted rehearsal carries out step 4 and ends. -/
def rehFreeze (s : State) : State :=
  match s.twn.reh with
  | some r =>
    if r.abort && s.twn.tk.isNone then
      let s := if r.phase = 1 then rehTakeBack s else s
      rehEnd 3 r.failed s
    else s
  | none => s

/-- A rehearsal ends as soon as either unit leaves BLOCKED, the link is not UP, the partner is not ready any more or has a new
flag of S3 or above (R514). The partner is told. -/
def rehJudge (s : State) : State :=
  match s.twn.reh with
  | some r =>
    let fresh := (s.twn.pflags &&& 0xE) &&& (0xE ^^^ (r.flags &&& 0xE))
    let bad := s.eff != stBLOCKED || s.rd F.TWN_STS_PSTATE != stBLOCKED || !s.relayUp || fresh != 0 ||
      (s.role = roACTIVE && s.flag F.TWN_STS_PNR)
    if bad && !r.abort then (rehAbort s).relay 0x14 [1] else s
  | none => s

/-- The cells that a rehearsal checks: configured, answered, neither UNOBSERVED nor FAILED_BYPASS (R513). -/
def CellSt.checked (c : CellSt) : Bool := c.answered && c.inO

/-- The cells of those that do not echo OB = 0b01 with the bits of an epoch (R293, R513). -/
def State.notEchoing (s : State) (epoch : Nat) : List Nat :=
  (s.be.cells.filter fun c => c.checked && !(c.present && field c.raw 26 2 == 1 && field c.raw 24 2 == epoch % 4)).map (·.gidx)

/-- The standby's check of step 3, at the end of each of the cycles r + 2 to r + R − 1. -/
def rehWatch (s : State) : State :=
  match s.twn.reh, s.twn.drive with
  | some r, some e =>
    let d := cycDiff s.cyc r.r
    if s.role = roSTANDBY && decide (2 ≤ d) && decide (d < r.len) then
      let l := s.notEchoing e
      let q := { r with failed := r.failed ++ l.filter fun g => !r.failed.contains g }
      { s with twn := { s.twn with reh := some q } }
    else s
  | _, _ => s

/-! ### Takeover (R505 to R509) -/

/-- The EPOCH of a takeover, a return or an orphan adoption (R486). -/
def State.nextEpoch (s : State) : Nat := max (s.rd F.GLB_ROLE_EPOCH) (s.rd F.TWN_PEPOCH_EPOCH) + 1

/-- A takeover is refused (R506). -/
def takeoverRefused (s : State) : State := rehAbort (raise 378 (s.wr F.TWN_TKSTS_REFUSED 1))

/-- A trigger of R505, R512 is detected on the standby; `trig` as `TWN.TKSTS.TRIG` codes it. The causes are judged as they
stand; with trigger 2 LINK does not count (R506). A standby that drives in a rehearsal keeps its epoch (R518). -/
def takeoverTrigger (trig : Nat) (s : State) : State :=
  if s.role != roSTANDBY then s
  else
    let causes := if trig = 2 then clearBit (s.rd F.TWN_NRCAUSE_CAUSE) 0 else s.rd F.TWN_NRCAUSE_CAUSE
    if causes != 0 || s.twn.tk.isSome || s.twn.nextRole.isSome then takeoverRefused s
    else if s.twn.drive.isNone && 0xFFFF < s.nextEpoch then takeoverRefused (raise 384 s)
    else ({ s with twn := { s.twn with tk := some (trig, s.rawNs) } }).wr F.TWN_TKSTS_LOSTFRM 0

/-- The first freeze at or after detection + 200 ns has come (R507). -/
def State.takeoverDue (s : State) (t : Nat) : Bool :=
  let fz : Int := (s.armcyc : Int) - 400
  decide (fz ≤ s.crt) && decide ((t : Int) + 200 ≤ s.rawNs - s.crt + fz)

/-- TAKEOVER_POINT: EPOCH, the state of the last complete snapshot or BLOCKED, the frame locked with DRV = 1, TKNOTE, FS377, the
Ledger's trigger (R507, R348). -/
def takeoverPoint (s : State) : State :=
  match s.twn.tk with
  | some (trig, t) =>
    if !s.running || s.role != roSTANDBY || !s.takeoverDue t then s
    else
      let e := s.twn.drive.getD s.nextEpoch
      let reh := s.twn.reh.isSome
      let st := if s.twn.ublk.isSome then some stBLOCKED else s.twn.snapLast.map Prod.snd
      let s := { s with twn := { s.twn with tk := none, tkAt := some s.cyc, nextRole := some roACTIVE, taken := st } }
      let s := if reh then rehEnd 3 [] s else s
      let s := s.wrs [(F.GLB_ROLE_EPOCH, e), (F.TWN_TKSTS_TRIG, trig), (F.TWN_TKCYC_VAL, s.cyc)]
      let s := s.wr64 F.TWN_TKT_LO_VAL F.TWN_TKT_HI_VAL s.now
      let s := { s with cl := { s.cl with lock := some (e, true) } }
      let s := raise 377 (s.relay 0x11 (leBytes 2 e))
      ledgerFire 4 s
  | none => s

/-- TAKEOVER_POINT. -/
def execTakeoverPoint (s : State) : Res := .next (takeoverPoint s)

/-- A missed heartbeat (R483): the third in a row takes the link down and triggers the standby (R505). Misses go on counting
while the link that was UP does not come back. -/
def hbMissed (s : State) : State :=
  let listening := s.rd F.TWN_STS_LSTATE = 2 && !s.twn.failed3 && s.twn.hbMiss < 3
  if !(s.relayUp || listening) then s
  else
    let n := s.twn.hbMiss + 1
    let s := { s with twn := { s.twn with hbMiss := n } }.inc F.TWN_ERR_HBMISS
    if n != 3 then s
    else
      let on := s.flag F.TWN_CFG_TKHB && !(s.flag F.TWN_CFG_HBQUAL && s.flag F.FC_LIN_RUNNING)
      linkLost (if on then takeoverTrigger 2 s else s)

/-- RELAY_HB_MISSED. -/
def execRelayHbMissed (s : State) : Res := .next (hbMissed s)

/-- TKREQ_RECEIVED: FS381; the trigger of R505. -/
def tkreqReceived (s : State) : State :=
  if !s.relayUp || s.role != roSTANDBY then s
  else
    let s := raise 381 s
    if s.flag F.TWN_CFG_TKREQ then takeoverTrigger 3 s else s

/-- TKREQ_RECEIVED. -/
def execTkreqReceived (s : State) : Res := .next (tkreqReceived s)

/-- TKNOTE_RECEIVED: the former active becomes STANDBY at the next cycle start (R510). -/
def tknoteReceived (epoch : Nat) (s : State) : State :=
  if !s.relayUp || s.role != roACTIVE then s
  else
    let s := if s.twn.reh.isSome then rehEnd 3 [] s else s
    let s := { s with twn := { s.twn with nextRole := some roSTANDBY } }
    (s.wr F.TWN_PEPOCH_EPOCH epoch).wr F.TWN_STS_PROLE roACTIVE

/-- TKNOTE_RECEIVED. -/
def execTknoteReceived (epoch : BitVec 16) (s : State) : Res := .next (tknoteReceived epoch.toNat s)

/-- UBLK_RECEIVED with its arm mask: the standby takes BLOCKED from its next cycle start; within 2 cycles after a takeover point
the new active issues its own urgent block (R490, R518). -/
def ublkReceived (mask : Nat) (s : State) : State :=
  let near := match s.twn.tkAt with | some k => decide (cycDiff s.cyc k ≤ 2) | none => false
  if near && (s.role = roACTIVE || s.twn.nextRole = some roACTIVE) then
    let s := urgentBlock mask (endOrderly (supersede s))
    if s.eff = stRUN then changeState stBLOCKED 0x70 s else { s with twn := { s.twn with taken := s.twn.taken.map fun _ => stBLOCKED } }
  else if s.role = roSTANDBY then
    { s with twn := { s.twn with ublk := some s.cyc, taken := if s.st = stRUN then some stBLOCKED else none } }
  else s

/-- UBLK_RECEIVED. -/
def execUblkReceived (mask : BitVec 12) (s : State) : Res := .next (ublkReceived mask.toNat s)

/-- A command of `TWN.CMD` is judged: 1 accepted, 2 refused by condition, 3 by key or code. -/
def twnJudged (r : Nat) (s : State) : State := ((s.wr F.TWN_CMDSTS_RESULT r).count F.TWN_CMDSTS_SEQ).event 2

/-- TAKEOVER (R505). -/
def takeoverCmd (key : Nat) (s : State) : State :=
  if key != cmdKey then twnJudged 3 s
  else if s.role = roSTANDBY then
    let had := s.twn.tk.isSome
    let s := takeoverTrigger 4 s
    twnJudged (if !had && s.twn.tk.isSome then 1 else 2) s
  else if s.role = roACTIVE && s.relayUp && !s.flag F.TWN_STS_PNR then twnJudged 1 (s.relay 0x10 [])
  else twnJudged 2 s

/-- `TWN.CMD` is written with code 0x01. -/
def execTakeover (m : Master) (key : BitVec 16) (s : State) : Res := .next (gate m .p 0x3C0004 (takeoverCmd key.toNat) s)

/-- The role that waits takes effect (R507, R510); an active unit whose cells obey another master becomes STANDBY, except in a
rehearsal. -/
def roleStart (s : State) : State :=
  let s := if s.role = roACTIVE && s.flag F.GLB_ROLE_OBEY_OTHER && s.flag F.GLB_ROLE_TWIN && s.twn.reh.isNone then
      { s with twn := { s.twn with nextRole := some roSTANDBY } } else s
  match s.twn.nextRole with
  | some r =>
    let s := { s with twn := { s.twn with nextRole := none, snapHead := none, snapLast := none, snapBuf := none, orphan := 0 } }
    -- the arms in sync are the standby's: a unit that leaves the role starts again from none (R502)
    standbyJudge (unsync (setRole r s))
  | none => s

/-! ### Orphans and the preferred unit's return (R511, R512) -/

/-- ORPHAN_ADOPTION. -/
def orphanAdopt (s : State) : State :=
  if s.running && s.role = roSTANDBY && s.flag F.GLB_ROLE_NOT_READY && (s.flag F.FC_LIN_STOPPED || !s.relayUp) &&
      s.rd F.TWN_CFG_ORPHAN ≤ s.twn.orphan && s.twn.nextRole.isNone then
    if 0xFFFF < s.nextEpoch then takeoverRefused (raise 384 s)
    else
      let s := (s.wr F.GLB_ROLE_EPOCH s.nextEpoch).wr F.TWN_TKSTS_TRIG 6
      let s := { s with twn := { s.twn with nextRole := some roACTIVE, tk := none } }
      let s := raise 379 s
      if s.eff = stARMED || s.eff = stRUN then changeState stBLOCKED 0x70 s else s
  else s

/-- ORPHAN_ADOPTION. -/
def execOrphanAdoption (s : State) : Res := .next (orphanAdopt s)

/-- The conditions of R512. -/
def State.revertReady (s : State) : Bool :=
  s.role = roSTANDBY && s.flag F.GLB_ROLE_PREF && !s.flag F.GLB_ROLE_NOT_READY && s.flag F.TWN_STS_INSYNC &&
    !s.flag F.FC_STS_DEG && s.flag F.FC_LIN_RUNNING && !s.flag F.TWN_CTL_REVINH

/-- The return timer at a cycle start (R512). -/
def revertTimer (s : State) : State :=
  if s.revertReady then
    let t := s.twn.revFrom.getD s.rawNs
    { s with twn := { s.twn with revFrom := some t } }.wr F.TWN_REVTMR_S (min 65535 ((s.rawNs - t) / 1000000000))
  else { s with twn := { s.twn with revFrom := none } }.wr F.TWN_REVTMR_S 0

/-- PREF_RETURN. -/
def prefReturn (s : State) : State :=
  match s.twn.revFrom with
  | some t =>
    if s.revertReady && t + s.rd F.TWN_REVERT_HOLD_S * 1000000000 ≤ s.rawNs && s.twn.tk.isNone && s.twn.nextRole.isNone then
      takeoverTrigger 5 s
    else s
  | none => s

/-- PREF_RETURN. -/
def execPrefReturn (s : State) : Res := .next (prefReturn s)

/-! ### Rehearsal (R513 to R515) -/

/-- The conditions of R513. Two more epochs must be left. -/
def State.rehReady (s : State) : Bool :=
  s.role = roACTIVE && s.relayUp && s.st = stBLOCKED && s.eff = stBLOCKED && s.rd F.TWN_STS_PSTATE = stBLOCKED &&
    !s.flag F.TWN_STS_PNR && s.twn.reh.isNone && s.rd F.GLB_ROLE_EPOCH + 2 ≤ 0xFFFF

/-- A rehearsal is scheduled on the active unit. REH: 0, r, R. -/
def rehStart (s : State) : State :=
  let r := (s.cyc + s.plead) % 2 ^ 32
  let n := s.rd F.TWN_REHCFG_CYC
  let q : Rehearsal := { r := r, len := n, flags := s.twn.pflags }
  ({ s with twn := { s.twn with reh := some q, rehDone := true } }.wr F.TWN_STS_REH 1).relay 0x14
    (0 :: (leBytes 4 r ++ leBytes 1 n))

/-- REHEARSE. -/
def rehearse (key : Nat) (s : State) : State :=
  if key != cmdKey then twnJudged 3 s else if s.rehReady then twnJudged 1 (rehStart s) else twnJudged 2 s

/-- `TWN.CMD` is written with code 0x02. -/
def execRehearse (m : Master) (key : BitVec 16) (s : State) : Res := .next (gate m .p 0x3C0004 (rehearse key.toNat) s)

/-- REHEARSAL_AUTO: once in a period of both units BLOCKED (R515). -/
def rehearsalAuto (s : State) : State :=
  if s.flag F.TWN_REHCFG_AUTO && s.rehReady && !s.twn.rehDone then rehStart s else s

/-- REHEARSAL_AUTO. -/
def execRehearsalAuto (s : State) : Res := .next (rehearsalAuto s)

/-- REH_RECEIVED: the active unit schedules a rehearsal, or aborts it. -/
def rehReceived (abort : Bool) (r len : Nat) (s : State) : State :=
  if abort then rehAbort s
  else if s.relayUp && s.role = roSTANDBY && s.eff = stBLOCKED then
    let q : Rehearsal := { r := r, len := len, flags := s.twn.pflags }
    { s with twn := { s.twn with reh := some q } }.wr F.TWN_STS_REH 1
  else s

/-- REH_RECEIVED. -/
def execRehReceived (abort : Bool) (r : Word) (len : Byte) (s : State) : Res := .next (rehReceived abort r.toNat len.toNat s)

/-- REHEARSAL_DRIVE_START: the freeze of cycle r − 1. -/
def rehDriveStart (s : State) : State :=
  match s.twn.reh with
  | some r =>
    if r.phase != 0 || r.abort || decide (cycDiff s.cyc r.r < -1) then s
    else
      let s := { s with twn := { s.twn with reh := some { r with phase := 1 } } }
      if s.role != roSTANDBY then s
      else
        let e := s.rd F.TWN_PEPOCH_EPOCH + 1
        let s := { s with twn := { s.twn with drive := some e } }.wr F.GLB_ROLE_EPOCH e
        if s.sch.frozen then { s with cl := { s.cl with lock := some (e, true) } } else s
  | none => s

/-- REHEARSAL_DRIVE_START. -/
def execRehearsalDriveStart (s : State) : Res := .next (rehDriveStart s)

/-- REHEARSAL_DRIVE_END: the freeze of cycle r + R − 1. -/
def rehDriveEnd (s : State) : State :=
  match s.twn.reh with
  | some r =>
    if r.phase != 1 || decide (cycDiff s.cyc r.r < (r.len : Int) - 1) then s
    else rehTakeBack { s with twn := { s.twn with reh := some { r with phase := 2 } } }
  | none => s

/-- REHEARSAL_DRIVE_END. -/
def execRehearsalDriveEnd (s : State) : Res := .next (rehDriveEnd s)

/-- REHEARSAL_CHECK: the active unit checks the uplink of cycle r + R + 2 (step 5); the standby reports what it found in step 3
(notes/assumptions/25). -/
def rehCheck (s : State) : State :=
  match s.twn.reh with
  | some r =>
    if r.phase != 2 || r.abort then s
    else if s.role = roACTIVE then
      (if decide (cycDiff s.cyc r.r < (r.len : Int) + 2) then s
       else
        let l := s.notEchoing (s.rd F.GLB_ROLE_EPOCH)
        rehEnd (if l.isEmpty then 1 else 2) l s)
    else rehEnd (if r.failed.isEmpty then 1 else 2) r.failed s
  | none => s

/-- REHEARSAL_CHECK. -/
def execRehearsalCheck (s : State) : Res := .next (rehCheck s)

/-! ### The drive exercise (R517) -/

/-- The length of a day in ns. -/
abbrev dayNs : Nat := 86400000000000

/-- DRIVE_EXERCISE_OVERDUE: once each time the limit is passed. -/
def driveOverdue (s : State) : State :=
  let d := s.rd F.TWN_EXERCISE_DAYS
  if d != 0 && !s.twn.overdue && s.rd64 F.TWN_LASTDRV_LO_T F.TWN_LASTDRV_HI_T + d * dayNs < s.now then
    raise 385 { s with twn := { s.twn with overdue := true } }
  else s

/-- DRIVE_EXERCISE_OVERDUE. -/
def execDriveExerciseOverdue (s : State) : Res := .next (driveOverdue s)

/-- A control period in which the unit drives the cells in RUN (R517). -/
def driveRecord (s : State) : State :=
  if s.st = stRUN && s.cl.drv then
    unraise 385 ({ s with twn := { s.twn with overdue := false } }.wr64 F.TWN_LASTDRV_LO_T F.TWN_LASTDRV_HI_T s.now)
  else s

/-! ### The command sets and the snapshot (R492 to R500) -/

/-- The five bytes of a cell's command (R500). -/
def cmdBytes (c : CellSt) : List Byte := beBytes 5 (c.fill.cmd % 16 * 2 ^ 32 + c.fill.crt % 2 ^ 20 * 2 ^ 12 + c.fill.param % 2 ^ 12)

/-- Byte [6] of an arm record (R493). -/
def State.armFlags (s : State) (n : Nat) : Nat :=
  let a := s.arm n
  let ownl := s.be.cells.any fun c => c.arm == n && c.present && c.stat.testBit 2
  b2n (a.sigNext = 1) + 2 * b2n a.missing + 4 * b2n a.lastLate + 8 * b2n a.engErr + 16 * b2n a.sigOwn + 32 * b2n ownl +
    64 * s.rd (F.ARM_LGSTS_HELD n) + 128 * b2n a.rsHold

/-- What this unit keeps of the freeze of the present cycle (R499). -/
def State.cycleCrc (s : State) : CycleCrc :=
  { cyc := s.cyc, cmd := crc64 (s.be.cells.flatMap cmdBytes), head := s.twn.headIn
    arms := s.arms.map fun n => (crc64 ((s.be.cells.filter (·.arm == n)).flatMap cmdBytes), s.armFlags n) }

/-- The state in effect for the coming cycle, as the freeze knows it. -/
def State.stateNext (s : State) : Nat :=
  match s.glb.pend with
  | some p => p.1
  | none => if s.glb.deblockPend then stRUN else s.st

/-- The header of the snapshot (R493). -/
def State.snapHeader (s : State) (q : CycleCrc) (rs : Bool) : List Byte :=
  leBytes 4 s.cyc ++ leBytes 2 (s.rd F.TWN_MID_ID) ++ leBytes 2 (s.rd F.GLB_ROLE_EPOCH) ++
    leBytes 1 (s.stateNext + 16 * s.role + 64 * b2n (s.glb.blkArms != 0)) ++
    leBytes 1 (s.rd F.FC_STS_DEG + 2 * s.rd F.FC_STS_HOV + 4 * s.rd F.FC_STS_BLK + 8 * s.rd F.FC_STS_TRIP +
      16 * s.rd (F.ARM_LGSTS_HELD 0) + 32 * b2n rs) ++ leBytes 2 0 ++ leBytes 8 q.cmd ++
    leBytes 8 (s.rd64 F.TB_CYCST_LO_T F.TB_CYCST_HI_T) ++ leBytes 4 (s.rd F.SCH_CPBASE_CYC) ++ leBytes 8 s.imageId ++
    List.replicate 24 0

/-- The station block: the ramps after the update of the coming cycle and θ at its start, as the present registers give them
(R493; notes/assumptions/26). -/
def State.stationBlock (s : State) : List Byte :=
  let t := rampsUpdate (s.cyc + 1) { s with samp := s.regs }
  let ramp := fun (o : Nat) => leBytes 4 (t.rd (F.REF_ORD_VAL_VAL o)) ++ leBytes 4 (t.rd (F.REF_ORD_RATE_VAL o)) ++
    leBytes 4 (t.adeff o) ++ leBytes 1 (t.rd (F.REF_ORD_STS_PHASE o)) ++ leBytes 1 (t.rd (F.REF_ORD_STS_DEFER o)) ++ leBytes 2 0
  let u := phaseStart t
  [0, 1, 2, 3].flatMap ramp ++ leBytes 4 (u.rd F.REF_RPG_PH_VAL) ++ leBytes 4 s.ref.thmPrev ++
    leBytes 1 (s.rd F.REF_SYN_STS_COUNT) ++ leBytes 1 (s.rd F.REF_SYN_STS_INSYNC) ++ List.replicate 54 0

/-- The record of arm `n` (R493). -/
def State.snapArm (s : State) (n : Nat) (q : Nat × Nat) : List Byte :=
  leBytes 2 (s.rd (F.ARM_LGOUT_N n)) ++ leBytes 2 (s.rd (F.ARM_LGOUT_F n)) ++
    leBytes 2 (s.rd (F.ARM_FPCELL_LOCAL n) + 0x8000 * s.rd (F.ARM_FPCELL_VALID n)) ++ leBytes 1 q.2 ++ leBytes 1 0 ++
    leBytes 8 q.1 ++ leBytes 2 (s.rd (F.ARM_AGG_VAL n 8)) ++ leBytes 2 (s.rd (F.ARM_AGG_VAL n 9)) ++
    leBytes 4 (s.rd (F.ARM_DLV_CRT n)) ++ List.replicate 40 0

/-- A cell's record of the resync part (R494). -/
def rsRecord (c : CellSt) : List Byte :=
  leBytes 8 (c.state + 2 ^ 4 * b2n c.xcl + 2 ^ 5 * b2n c.promo + 2 ^ 6 * b2n c.mism + 2 ^ 7 * b2n c.fltrep + 2 ^ 8 * b2n c.rating +
    2 ^ 16 * (c.dwc % 256) + 2 ^ 24 * (c.wcnt % 65536) + 2 ^ 40 * (c.miss % 16) + 2 ^ 44 * (c.seq % 16) + 2 ^ 48 * (c.mismc % 256))

/-- The resync part of arm `n` (R494). -/
def State.rsBytes (s : State) (n : Nat) : List Byte :=
  let cs := s.armCells n
  leBytes 1 n ++ leBytes 1 0 ++ leBytes 2 cs.length ++ List.replicate 12 0 ++ cs.flatMap rsRecord

/-- Bytes in packets of at most 1,024 (R480). -/
def packets : Nat → List Byte → List (List Byte)
  | 0, _ => []
  | n + 1, bs => if bs.length ≤ 1024 then [bs] else bs.take 1024 :: packets n (bs.drop 1024)

/-- The freeze of a cycle: what this unit keeps for the comparison, and the snapshot of the active unit (R492, R499, R503). -/
def snapSend (s : State) : State :=
  let q := s.cycleCrc
  let s := { s with twn := { s.twn with crcs := (q :: s.twn.crcs).take 4 } }
  if s.role != roACTIVE || !s.relayUp then s
  else
    let rs := match s.twn.resync with
      | some (n, r) => if unsigned 32 ((s.cyc : Int) + 1) = r then some n else none
      | none => none
    let body := s.snapHeader q rs.isSome ++ s.stationBlock ++
      (s.arms.zip q.arms).flatMap (fun p => s.snapArm p.1 p.2) ++ (match rs with | some n => s.rsBytes n | none => [])
    forAll (packets (body.length + 1) body) (fun p s => s.relay 2 p) s

/-! ### Resync (R503, R504) -/

/-- The standby asks for the resync of arm `n` (MSG kind 23). -/
def resyncAsk (n : Nat) (s : State) : State :=
  if s.rd F.TWN_ARMSYNC_RSY != 0 || !s.relayUp then { s with twn := { s.twn with rsWant := setBit s.twn.rsWant n } }
  else
    let s := { s with twn := { s.twn with rsWant := clearBit s.twn.rsWant n } }
    (s.putBit F.TWN_ARMSYNC_RSY n true).relay 0x20 [23, BitVec.ofNat 8 n]

/-- An arm has left sync: counted against R504, and resynced where AUTORSYNC says so. -/
def leftSync (n : Nat) (s : State) : State :=
  let old := (s.twn.rsLast.find? fun x => x.1 == n).map fun x => (x.2.1, x.2.2)
  let fails := match old with
    | some (c, f) => if decide (cycDiff s.cyc c ≤ 100) then f + 1 else 0
    | none => 0
  let rest := s.twn.rsLast.filter fun x => x.1 != n
  let s := match old with
    | some (c, _) => { s with twn := { s.twn with rsLast := (n, c, fails) :: rest } }
    | none => s
  if 3 ≤ fails then raiseEach 376 { s with twn := { s.twn with rsGiven := setBit s.twn.rsGiven n } }
  else if s.flag F.TWN_CFG_AUTORSYNC && !s.twn.rsGiven.testBit n then resyncAsk n s
  else s

/-- RESYNC of arm `n` (R503): on a standby with the link UP. -/
def resyncCmd (n : Nat) (s : State) : State :=
  if s.role = roSTANDBY && s.relayUp && s.arms.contains n then
    let s := { s with twn := { s.twn with rsGiven := clearBit s.twn.rsGiven n, rsLast := s.twn.rsLast.filter fun x => x.1 != n } }
    twnJudged 1 (resyncAsk n (unraise 376 s))
  else twnJudged 2 s

/-- `TWN.CMD` is written with code 0x03. -/
def execResync (m : Master) (arm : Byte) (s : State) : Res := .next (gate m .p 0x3C0004 (resyncCmd arm.toNat) s)

/-- The active unit has received the request: r is named, and the standby told (MSG kind 24). -/
def resyncNamed (n : Nat) (s : State) : State :=
  if s.role != roACTIVE || s.twn.resync.isSome then s
  else
    let r := (s.cyc + 2) % 2 ^ 32
    ({ s with twn := { s.twn with resync := some (n, r) } }.putBit F.TWN_ARMSYNC_RSY n true).relay 0x20
      (24 :: BitVec.ofNat 8 n :: leBytes 4 r)

/-- RESYNC_HOLD: in cycle r the selection of the arm is held on both units. -/
def resyncHold (s : State) : State :=
  match s.twn.resync with
  | some (n, r) => if r = s.cyc && !s.sch.frozen then s.setArm n fun a => { a with rsHold := true } else s
  | none => s

/-- RESYNC_HOLD. -/
def execResyncHold (s : State) : Res := .next (resyncHold s)

/-- A cell takes its record of the resync part (R494). -/
def rsTake (w : Nat) (c : CellSt) : CellSt :=
  { c with state := w % 16, xcl := w.testBit 4, promo := w.testBit 5, mism := w.testBit 6, fltrep := w.testBit 7, rating := w.testBit 8
           dwc := field w 16 8, wcnt := field w 24 16, miss := field w 40 4, seq := field w 44 4, mismc := field w 48 8 }

/-- The resync part takes the place of the bookkeeping of arm `n` (R503 step 5). -/
def rsReplace (n : Nat) (bs : List Byte) (s : State) : State :=
  let cs := s.armCells n
  forAll (cs.zip (List.range cs.length)) (fun (p : CellSt × Nat) s => s.setCell p.1.gidx (rsTake (leAt bs (16 + 8 * p.2) 8))) s

/-- At the freeze of cycle r, before the held commands: the standby takes the resync part and the fractional-PWM cell that the
arm record named; without the part the resync fails and is asked for again (R503). -/
def rsFreeze (n : Nat) (s : State) : State :=
  if !(s.arm n).rsHold then s
  else
    let s := s.putBit F.TWN_ARMSYNC_RSY n false
    let s := { s with twn := { s.twn with resync := none } }
    if s.role != roSTANDBY then (s.inc F.TWN_RSYNCCNT_N).setArm n fun a => { a with fullNext := true }
    else match s.twn.rsPart with
      | some (m, k, fp, bs) =>
        if m != n || unsigned 32 ((k : Int) + 1) != s.cyc then resyncAsk n s
        else
          let s := rsReplace n bs s
          let s := s.wrs [(F.ARM_FPCELL_LOCAL n, fp % 0x8000), (F.ARM_FPCELL_VALID n, fp / 0x8000)]
          let last := ((s.twn.rsLast.find? fun x => x.1 == n).map fun x => x.2.2).getD 0
          let s := { s with
            twn := { s.twn with rsPart := none, match_ := modifyPad 0 (fun _ => 0) n s.twn.match_
                                rsLast := (n, s.cyc, last) :: s.twn.rsLast.filter fun x => x.1 != n } }
          (s.inc F.TWN_RSYNCCNT_N).setArm n fun a => { a with fullNext := true }
      | none => resyncAsk n s

/-- The next arm that waits for its resync. -/
def resyncNext (s : State) : State :=
  if s.rd F.TWN_ARMSYNC_RSY != 0 || s.role != roSTANDBY then s
  else match bitsOf 12 s.twn.rsWant with
    | n :: _ => resyncAsk n s
    | [] => s

/-! ### What a standby does with the snapshot (R42, R496, R501, R502) -/

/-- One arm is compared: its own CRC and flags, the partner's (R501, R502). -/
def compareArm (n : Nat) (own theirs : Nat × Nat) (intime : Bool) (s : State) : State :=
  if own.2 / 2 != 0 || theirs.2 / 2 != 0 || !intime then s
  else if own.1 = theirs.1 then
    let m := s.twn.match_.getD n 0 + 1
    let s := { s with twn := { s.twn with match_ := modifyPad 0 (fun _ => m) n s.twn.match_ } }.inc F.TWN_CMPCNT_N
    if s.rd F.TWN_CFG_SYNCN ≤ m then s.putBit F.TWN_ARMSYNC_SYNC n true else s
  else
    let s := { s with twn := { s.twn with match_ := modifyPad 0 (fun _ => 0) n s.twn.match_ } }.inc F.TWN_MISCNT_N
    leftSync n ((raise 375 s).putBit F.TWN_ARMSYNC_SYNC n false)

/-- The comparison of a cycle, once the snapshot is complete and the own freeze is over (R501). An arm's header is in time when
it came before the arm's ULCUT (R496). -/
def compareCycle (s : State) : State :=
  match s.twn.snapLast with
  | none => s
  | some (k, _) =>
    if s.twn.cmpAt = some k || s.role != roSTANDBY then s
    else match s.twn.crcs.find? fun q => q.cyc == k with
      | none => s
      | some q =>
        let s := { s with twn := { s.twn with cmpAt := some k } }
        if s.twn.pimage != s.imageId then s
        else
          let snaps := s.twn.snapArms
          let s := forAll s.arms (fun n s =>
            let intime := match q.head with | some c => decide (c ≤ s.rd (F.ARM_ULCUT_CRT n)) | none => false
            compareArm n (q.arms.getD n (0, 0)) (snaps.getD n (0, 0)) intime s) s
          let all := s.arms.all fun n => s.rdBit F.TWN_ARMSYNC_SYNC n
          standbyJudge (s.put F.TWN_STS_INSYNC all)

/-- The header has come: the state for the cycle after k, taken now if that cycle runs, or at its start (R42, R496). BLOCKED by
UBLK stands against a snapshot made before (R490). -/
def snapHeaderIn (bs : List Byte) (s : State) : State :=
  let k := leAt bs 0 4
  let w := leAt bs 8 1
  let blocked := match s.twn.ublk with | some u => decide (cycDiff k u ≤ 0) | none => false
  let st := if blocked then stBLOCKED else w % 16
  let s := s.wrs [(F.TWN_PEPOCH_EPOCH, leAt bs 6 2), (F.TWN_STS_PROLE, field w 4 2)]
  let s := { s with twn := { s.twn with snapHead := some (k, st), pimage := leAt bs 32 8
                                        ublk := if blocked then s.twn.ublk else none } }
  let takes := st = stARMED || st = stRUN || st = stBLOCKED
  let armed := s.st = stARMED || s.st = stRUN || s.st = stBLOCKED
  let now_ := unsigned 32 ((k : Int) + 1) = s.cyc
  let s := if now_ then { s with twn := { s.twn with headIn := some s.crt.toNat } } else s
  if !takes || !armed || s.role != roSTANDBY then s
  else if now_ then (if s.glb.pend.isSome || st = s.st then s else enterState st (stepOf st) s)
  else if k = s.cyc then { s with twn := { s.twn with taken := some st } }
  else s

/-- The station block takes effect: the active unit's ramps, θ and synchronism monitor (R172, R493). -/
def stationTake (b : List Byte) (s : State) : State :=
  let s := forAll [0, 1, 2, 3] (fun o s =>
    let s := s.wrs [(F.REF_ORD_VAL_VAL o, leAt b (16 * o) 4), (F.REF_ORD_RATE_VAL o, leAt b (16 * o + 4) 4),
      (F.REF_ORD_STS_PHASE o, leAt b (16 * o + 12) 1), (F.REF_ORD_STS_DEFER o, leAt b (16 * o + 13) 1)]
    { s with ref := { s.ref with adeff := modifyPad f32one (fun _ => leAt b (16 * o + 8) 4) o s.ref.adeff } }) s
  let s := s.wrs [(F.REF_RPG_PH_VAL, leAt b 64 4), (F.REF_SYN_STS_COUNT, leAt b 72 1), (F.REF_SYN_STS_INSYNC, leAt b 73 1)]
  { s with ref := { s.ref with thmPrev := leAt b 68 4 } }

/-- The station block that waits for its cycle. -/
def stationStart (s : State) : State :=
  match s.twn.station with
  | some (k, b) =>
    if s.role = roSTANDBY && unsigned 32 ((k : Int) + 1) = s.cyc then
      stationTake b { s with twn := { s.twn with station := none } }
    else s
  | none => s

/-- The length of the snapshot, with its resync part: the arm and its cells follow from byte 9 of the header and the part's
head. -/
def State.snapLen (s : State) (bs : List Byte) : Nat :=
  let base := 192 + 64 * s.arms.length
  if (leAt bs 9 1).testBit 5 then base + 16 + 8 * leAt bs (base + 2) 2 else base

/-- The snapshot is complete (R492). -/
def snapDone (bs : List Byte) (s : State) : State :=
  let k := leAt bs 0 4
  let st := match s.twn.snapHead with | some h => h.2 | none => leAt bs 8 1 % 16
  let recs := s.arms.map fun n => slice bs (192 + 64 * n) 64
  let s := { s with
    twn := { s.twn with snapBuf := none, snapLast := some (k, st), snapArms := recs.map fun r => (leAt r 8 8, leAt r 6 1)
                        snapFp := recs.map fun r => leAt r 4 2, station := some (k, slice bs 64 128) } }
  let s := forAll (s.arms.zip recs) (fun (p : Nat × List Byte) s =>
    s.setArm p.1 fun a => { a with sigAct := some (if (leAt p.2 6 1).testBit 0 then 1 else -1), dlvPartner := leAt p.2 20 4 }) s
  let base := 192 + 64 * s.arms.length
  let s := if (leAt bs 9 1).testBit 5 then
      let n := leAt bs base 1
      { s with twn := { s.twn with rsPart := some (n, k, s.twn.snapFp.getD n 0, bs.drop base) } }
    else s
  stationStart (compareCycle s)

/-- SNAP_RECEIVED: one packet; `first`: it begins a snapshot. -/
def snapReceived (ok first : Bool) (bs : List Byte) (s : State) : State :=
  if !s.relayUp || s.role != roSTANDBY then s
  else if !ok then crcError { s with twn := { s.twn with snapBuf := none } }
  else
    let old := if first then some [] else s.twn.snapBuf
    match old with
    | none => s
    | some b =>
      let all := b ++ bs
      let s := { s with twn := { s.twn with snapBuf := some all } }
      let s := if b.length < 64 && 64 ≤ all.length then snapHeaderIn all s else s
      if 192 + 64 * s.arms.length ≤ all.length && s.snapLen all ≤ all.length then snapDone all s else s

/-- SNAP_RECEIVED. -/
def execSnapReceived (ok first : Bool) (bytes : List Byte) (s : State) : Res := .next (snapReceived ok first bytes s)

/-- The standby's freeze: a snapshot of the cycle before that is not complete is counted (R492); the comparison. -/
def snapFreeze (s : State) : State :=
  if s.role != roSTANDBY || !s.relayUp then s
  else
    let prev := unsigned 32 ((s.cyc : Int) - 1)
    let full := match s.twn.snapLast with | some (k, _) => decide (0 ≤ cycDiff k prev) | none => false
    compareCycle (if full then s else s.inc F.TWN_ERR_SNAPINC)

/-! ### A lost frame (R509) and the selection -/

/-- A cell goes back to its bookkeeping before the freeze of the cycle before, as a held cycle leaves it (R217, R509). What this
cycle's uplink has shown stands. -/
def lostCell (fp : Option Nat) (old c : CellSt) : CellSt :=
  let own := fp = some c.local_
  let keep := c.state = csUNOBS || c.state = csFAILED
  { c with state := if keep then c.state else old.state, dwc := if own then 0 else min 255 (old.dwc + 1)
           wcnt := if own then min 65535 (old.wcnt + 2) else old.wcnt }

/-- In the cycle of a takeover, an arm whose accepted slots all carry OWNL (R509). -/
def lostFrame (n : Nat) (s : State) : State :=
  let cs := (s.be.cells.filter (·.arm == n)).filter (·.present)
  if s.role != roSTANDBY || s.twn.tk.isNone || cs.isEmpty || !(cs.all fun c => c.stat.testBit 2) || (s.arm n).sel.isSome then s
  else
    let fp := (s.arm n).fpBefore
    let s := s.mapCells (·.arm == n) fun c =>
      match s.be.before.find? fun o => o.gidx == c.gidx with
      | some o => lostCell fp o c
      | none => c
    let s := s.wrs [(F.ARM_FPCELL_VALID n, b2n fp.isSome), (F.ARM_FPCELL_LOCAL n, fp.getD 0)]
    s.putBit F.TWN_TKSTS_LOSTFRM n true

/-- SELECTION_COMPLETE of arm `n` (R210), after the judgement of R509. -/
def execSelectionComplete (n : Fin 12) (s : State) : Res := .next (selection n (lostFrame n s))

/-! ### The twin's part of a cycle start -/

/-- Counts and timers that advance with the cycles (R510 to R515). -/
def twinStart (s : State) : State :=
  let held : Bool := match s.twn.snapHead with | some (k, _) => decide (unsigned 32 ((k : Int) + 1) = s.cyc) | none => false
  let both : Bool := s.st = stBLOCKED && s.rd F.TWN_STS_PSTATE = stBLOCKED
  let orphan := if s.flag F.GLB_ROLE_OBEY_OTHER then 0 else min 255 (s.twn.orphan + 1)
  let s := { s with
    twn := { s.twn with headIn := if held then some 0 else none, orphan := orphan
                        rehDone := s.twn.rehDone && both } }
  let s := if s.isControl s.cyc then driveRecord s else s
  resyncNext (revertTimer (rehJudge (stationStart s)))

/-- `TWN.CMD` is written with any word. -/
def twnCommand (w : Nat) (s : State) : State :=
  let key := w / 2 ^ 16 % 2 ^ 16
  match w % 2 ^ 8 with
  | 1 => takeoverCmd key s
  | 2 => rehearse key s
  | 3 => resyncCmd (w / 2 ^ 8 % 2 ^ 8) s
  | _ => twnJudged 3 s

end Sys2Proof.Machine
end

