-- ==== Sys2Proof/Machine/Collector.lean ====
section
/-! DEFINITION. The fault collector's commands (spec/15): reports that arrive and clear, the collector's own checks, the clear
commands, severities, TEST and injection, LANTERN and LANTERN_IN. -/

namespace Sys2Proof.Machine

/-! ### Reports (R456, R463, R469) -/

/-- The sources of one slot that are raised: defined ones, each once, ascending, a condition only when it is not live by its owner
yet (R455, R456, R478). -/
def State.slotOf (s : State) (l : List Nat) : List Nat :=
  (List.range 512).filter fun fs => l.contains fs && !reservedSource fs && (atOnce fs || !s.fc.cond.contains fs)

/-- What a report brings beside its raise: TSTMODE (FS454), a Ledger record that is lost (FS438, R347). -/
def reportEffect (fs : Nat) (s : State) : State :=
  if fs = 454 then { s with glb := { s.glb with tstmode := true } }
  else if fs = 438 then ledgerDrop s
  else if fs = 1 then s.wr F.CLK_SUPSTS_VAUX 0
  else s

/-- FAULT_RAISE: the reports that arrive in one slot of 8 ns (R456). -/
def faultRaise (l : List Nat) (s : State) : State :=
  let srcs := s.slotOf l
  let s := forAll srcs reportEffect s
  let seen := srcs.filter cycleSources.contains ++ s.fc.seen
  let s := { s with fc := { s.fc with seen := seen } }
  let live := srcs.filter fun fs => !atOnce fs
  let s := forAll live (fun fs s => liveUpdate fs { s with fc := { s.fc with cond := fs :: s.fc.cond } }) s
  readyJudge (raiseSlot (srcs.map fun fs => (fs, true, false)) s)

/-- FAULT_RAISE. -/
def execFaultRaise (srcs : List (BitVec 9)) (s : State) : Res := .next (faultRaise (srcs.map (·.toNat)) s)

/-- FAULT_LIVE_CLEAR: the owner's condition of a source ends. A self-fault ends with a reset of the VIN domain alone (R471). -/
def faultLiveClear (fs : Nat) (s : State) : State :=
  if fs = 448 || fs = 449 then s
  else
    let s := if fs = 454 then { s with glb := { s.glb with tstmode := false } } else s
    let s := if fs = 451 then s.put F.FC_LANTERN_RB (s.flag F.FC_LANTERN_OUT) else s
    let s := if fs = 0 then s.wr F.CLK_SUPSTS_VINWARN 0 else if fs = 1 then s.wr F.CLK_SUPSTS_VAUX 1
      else if fs = 3 then s.putBit F.CLK_SUPSTS_RAILS 0 true
      else if fs = 4 then s.wr F.CLK_SUPSTS_RAILS (s.rd F.CLK_SUPSTS_RAILS ||| 0x7FE)
      else s
    unraise fs s

/-- FAULT_LIVE_CLEAR. -/
def execFaultLiveClear (fs : BitVec 9) (s : State) : Res := .next (faultLiveClear fs.toNat s)

/-! ### The collector's own checks (R470, R471) -/

/-- COLLECTOR_SELF_FAULT: a parity error (FS448) or an uncorrectable ECC error (FS449); the wired path acts whatever is live. -/
def collectorSelf (ecc : Bool) (s : State) : State :=
  let fs := if ecc then 449 else 448
  if s.fc.cond.contains fs then readyJudge (selfFault s) else raise fs s

/-- COLLECTOR_SELF_FAULT. -/
def execCollectorSelfFault (ecc : Bool) (s : State) : Res := .next (collectorSelf ecc s)

/-- ALIVE_TOKEN_TIMEOUT. -/
def execAliveTokenTimeout (s : State) : Res := .next (raise 450 s)

/-- LANTERN_READBACK_FAULT: the pin reads the other level. -/
def execLanternReadbackFault (s : State) : Res := .next (raise 451 (s.put F.FC_LANTERN_RB (!s.flag F.FC_LANTERN_OUT)))

/-! ### LANTERN (R476, R477) -/

/-- OSTLER_HEARTBEAT: a heartbeat returns. -/
def heartbeat (s : State) : State := unraise 452 (lanternJudge (s.wr F.FC_OHB_LOST 0))

/-- OSTLER_HEARTBEAT. -/
def execOstlerHeartbeat (s : State) : Res := .next (heartbeat s)

/-- OSTLER_HEARTBEAT_LOST: `FC.OHB.TMO` ms without one. -/
def heartbeatLost (s : State) : State := raise 452 (lanternJudge (s.wr F.FC_OHB_LOST 1))

/-- OSTLER_HEARTBEAT_LOST. -/
def execOstlerHeartbeatLost (s : State) : Res := .next (heartbeatLost s)

/-- LANTERN_EDGE: TB.RAW is at a whole multiple of 500,000 ns and LANTERN runs. The readback follows unless it differs (FS451). -/
def lanternEdge (s : State) : State :=
  if s.flag F.FC_LANTERN_RUN && s.rawNs % 500000 = 0 then
    let out := !s.flag F.FC_LANTERN_OUT
    let s := s.put F.FC_LANTERN_OUT out
    let s := if s.fc.cond.contains 451 then s else s.put F.FC_LANTERN_RB out
    s.emit (.pin 5 out)
  else s

/-- LANTERN_EDGE. -/
def execLanternEdge (s : State) : Res := .next (lanternEdge s)

/-- TB.RAW in ns since `t`, through a wrap (R13). -/
def State.sinceNs (s : State) (t : Nat) : Nat := (s.rawNs + 2 ^ 48 - t) % 2 ^ 48

/-- LANTERN_IN_EDGE: the fourth consecutive interval of 450 to 550 µs makes it RUNNING. -/
def lanternIn (s : State) : State :=
  let good := match s.fc.linPrev with
    | some t => if 450000 ≤ s.sinceNs t && s.sinceNs t ≤ 550000 then s.fc.linGood + 1 else 0
    | none => 0
  let s := { s with fc := { s.fc with linPrev := some s.rawNs, linGood := min 4 good } }
  let s := s.put F.FC_LIN_LEVEL (!s.flag F.FC_LIN_LEVEL)
  if 4 ≤ good && !s.flag F.FC_LIN_RUNNING then unraise 373 (s.wrs [(F.FC_LIN_RUNNING, 1), (F.FC_LIN_STOPPED, 0)]) else s

/-- LANTERN_IN_EDGE. -/
def execLanternInEdge (s : State) : Res := .next (lanternIn s)

/-- LANTERN_IN_STOPPED: 1,500 µs since the latest edge. A change raises FS373 and, with TKLAN, is a takeover trigger of a standby
(R505). -/
def lanternStopped (s : State) : State :=
  let due : Bool := match s.fc.linPrev with
    | some t => decide (1500000 ≤ s.sinceNs t)
    | none => true
  if s.flag F.FC_LIN_STOPPED || !due then s
  else
    let s := { s with fc := { s.fc with linGood := 0 } }
    let s := raise 373 ((s.wrs [(F.FC_LIN_RUNNING, 0), (F.FC_LIN_STOPPED, 1)]).inc F.FC_LIN_STOPCNT)
    if s.flag F.TWN_CFG_TKLAN then takeoverTrigger 1 s else s

/-- LANTERN_IN_STOPPED. -/
def execLanternInStopped (s : State) : Res := .next (lanternStopped s)

/-! ### Clearing (R463, R466 to R468) -/

/-- A command of `FC.CMD` is judged. -/
def fcJudged (result : Nat) (s : State) : State := ((s.wr F.FC_CMDSTS_RESULT result).count F.FC_CMDSTS_SEQ).event 2

/-- The latched flag of severity `l`. -/
def flagOf (l : Nat) : Fld :=
  if l = 2 then F.FC_STS_DEG else if l = 3 then F.FC_STS_HOV else if l = 4 then F.FC_STS_BLK else F.FC_STS_TRIP

/-- A source of severity `l` or higher is live. -/
def State.liveAt (s : State) (l : Nat) : Bool :=
  (List.range 512).any fun fs => s.live fs && decide (l ≤ s.sev fs)

/-- CLR_REACT: each latched flag by itself. The partner learns that the degraded mark has gone. -/
def clrReact (s : State) : State :=
  let kept := [2, 3, 4, 5].filter fun l => s.flag (flagOf l) && s.liveAt l
  let gone := [2, 3, 4, 5].filter fun l => s.flag (flagOf l) && !s.liveAt l
  let s := gone.foldl (fun s l => s.wr (flagOf l) 0) s
  let s := s.wr F.FC_CMDSTS_KEPT (kept.foldl (fun a l => setBit a (l - 2)) 0)
  let s := if gone.contains 2 && (s.role = roACTIVE || s.role = roSTANDBY) then s.relay 0x13 [0] else s
  readyJudge (lanternJudge (fcJudged (if kept.isEmpty then 1 else 2) s))

/-- CLR_FIRST: the record is empty. -/
def clrFirst (s : State) : State :=
  let s := s.wrs [(F.FC_FIRST_SRC, 0), (F.FC_FIRST_SEV, 0), (F.FC_FIRST_INJ, 0), (F.FC_FIRST_VALID, 0), (F.FC_FIRST_COINC, 0),
    (F.FC_STS_FIRSTV, 0), (F.FC_FIRSTCYC_VAL, 0)]
  fcJudged 1 (s.wr64 F.FC_FIRSTT_LO_VAL F.FC_FIRSTT_HI_VAL 0)

/-- The bits in `mask` of word `w` whose LIVE is clear leave STICKY, REAL and INJ. -/
def clearSticky (mask w : Nat) (s : State) : State :=
  [F.FC_STICKY_S w, F.FC_REAL_B w, F.FC_INJB_B w].foldl (fun s f =>
    s.wr f (s.rd f - (s.rd f &&& (mask &&& (mask ^^^ (mask &&& s.rd (F.FC_LIVE_B w))))))) s

/-- CLR_STICKY. -/
def clrSticky (s : State) : State := fcJudged 1 (forAll (List.range 16) (clearSticky 0xFFFFFFFF) s)

/-- A write to `FC.CMD` with any code; while VIN is off and in BOOT only CLR_FIRST and CLR_STICKY are reached (R540). -/
def fcCommand (code key : Nat) (s : State) : State :=
  if !(s.glb.vinOn && s.st != stBOOT) && code != 2 && code != 3 then s
  else if code = 3 then clrSticky s
  else if code = 1 && key = cmdKey then clrReact s
  else if code = 2 && key = cmdKey then clrFirst s
  else fcJudged 3 s

/-- `FC.CMD` is written with code 0x01. -/
def execClrReact (m : Master) (key : BitVec 16) (s : State) : Res := .next (gate m .p 0x3B0004 (fcCommand 1 key.toNat) s)

/-- `FC.CMD` is written with code 0x02. -/
def execClrFirst (m : Master) (key : BitVec 16) (s : State) : Res := .next (gate m .p 0x3B0004 (fcCommand 2 key.toNat) s)

/-- `FC.CMD` is written with code 0x03. -/
def execClrSticky (m : Master) (s : State) : Res := .next (gate m .p 0x3B0004 (fcCommand 3 0) s)

/-! ### Severities (R457, R462) -/

/-- A live source whose severity has risen from `lo` carries out the reactions that it lacked; an injected one only while
INJ_REACT is set (R474). -/
def sevRaised (fs lo : Nat) (s : State) : State :=
  let hi := s.sev fs
  let acts := s.fc.cond.contains fs || s.flag F.FC_TEST_INJ_REACT
  if lo < hi && s.live fs && acts then
    let s := if lo < 3 && 3 ≤ hi then { s with twn := { s.twn with reh := s.twn.reh.map fun r => { r with abort := true } } } else s
    react lo hi s
  else s

/-- The severities of the sources changed since `old`. -/
def sevSettle (old s : State) : State :=
  readyJudge (forAll (List.range 512) (fun fs s => sevRaised fs (old.sev fs) s) s)

/-- A severity field ignores writes: FS448, FS449 and reserved sources (R455, R457). -/
def sevFixed (fs : Nat) : Bool := fs = 448 || fs = 449 || reservedSource fs

/-- The word written to `FC.SEV[w]` with the fields that ignore writes as they read. -/
def State.sevWord (s : State) (w v : Nat) : Nat :=
  (List.range 8).foldl (fun v j =>
    if sevFixed (8 * w + j) then putField v (4 * j) 3 (s.rd (sevField (8 * w + j))) else v) v

/-- A write to `FC.SEV[w]`. -/
def sevWrite (m : Master) (w v : Nat) (s : State) : State := sevSettle s (regWrite m (0x3B0200 + 4 * w) (s.sevWord w v) s)

/-- FC_SEV_WRITE. -/
def execFcSevWrite (m : Master) (w : Fin 64) (value : Word) (s : State) : Res :=
  .next (gate m .p (0x3B0200 + 4 * w) (sevWrite m w value.toNat) s)

/-! ### TEST and injection (R472 to R475) -/

/-- A write to `FC.UNLOCK`. -/
def unlock (m : Master) (code : Nat) (s : State) : State :=
  if m != .ost then s.wr F.FC_TEST_REFUSED 1
  else if s.flag F.FC_TEST_LOCKOUT then raise 455 (s.wr F.FC_TEST_REFUSED 1)
  else if code != 0x54455354 then
    let n := s.rd F.FC_TEST_BADKEY + 1
    raise 455 ((s.wr F.FC_TEST_BADKEY (min 3 n)).put F.FC_TEST_LOCKOUT (3 ≤ n))
  else if s.glb.tstmode && (s.eff = stDEFAULTS || s.eff = stLOADED || s.eff = stLINKED) then
    changeState stTEST 0xF8 (permitWithdraw s)
  else s.wr F.FC_TEST_REFUSED 1

/-- `FC.UNLOCK` is written. -/
def execFcUnlock (m : Master) (code : Word) (s : State) : Res := .next (gate m .p 0x3B002C (unlock m code.toNat) s)

/-- A write to `FC.TEST`; a set of REFUSED wins over its clear (R7). -/
def testWrite (v : Nat) (s : State) : State :=
  let s' := if v.testBit 1 then s.wr F.FC_TEST_REFUSED 0 else s
  if s.st = stTEST then s'.put F.FC_TEST_INJ_REACT (v.testBit 0)
  else if v.testBit 0 != s.flag F.FC_TEST_INJ_REACT then s.wr F.FC_TEST_REFUSED 1
  else s'

/-- `FC.TEST` is written. -/
def execFcTestWrite (m : Master) (value : Word) (s : State) : Res := .next (gate m .p 0x3B0028 (testWrite value.toNat) s)

/-- A write to `FC.INJ`: mode 0 PULSE, 1 HOLD, 2 RELEASE. -/
def inject (mode fs : Nat) (s : State) : State :=
  if s.st != stTEST then s.wr F.FC_TEST_REFUSED 1
  else if reservedSource fs then s
  else if mode = 0 then readyJudge (raiseSlot [(fs, false, true)] s)
  else if mode = 1 then
    let s := { s with fc := { s.fc with held := fs :: s.fc.held.filter (· != fs) } }
    readyJudge (raiseSlot [(fs, false, true)] (liveUpdate fs s))
  else if mode = 2 then liveUpdate fs { s with fc := { s.fc with held := s.fc.held.filter (· != fs) } }
  else s

/-- `FC.INJ` is written with MODE PULSE. -/
def execInjPulse (m : Master) (fs : BitVec 9) (s : State) : Res := .next (gate m .p 0x3B0030 (inject 0 fs.toNat) s)

/-- `FC.INJ` is written with MODE HOLD. -/
def execInjHold (m : Master) (fs : BitVec 9) (s : State) : Res := .next (gate m .p 0x3B0030 (inject 1 fs.toNat) s)

/-- `FC.INJ` is written with MODE RELEASE. -/
def execInjRelease (m : Master) (fs : BitVec 9) (s : State) : Res := .next (gate m .p 0x3B0030 (inject 2 fs.toNat) s)

end Sys2Proof.Machine
end

