-- ==== Sys2Proof/Machine/Hooks.lean ====
section
/-! DEFINITION. What follows when a rw, rwl or rwc field of a register takes a value, whoever sets it: a register write, a PARM
entry at a switch (R78), an entry of the house layer (R87), a carried write (R490). -/

namespace Sys2Proof.Machine

/-- `addr` is one of `n` registers from `base` with a stride: its index. -/
def arrayIx (base stride n addr : Nat) : Option Nat :=
  if base ≤ addr && (addr - base) % stride = 0 && (addr - base) / stride < n then some ((addr - base) / stride) else none

/-- `ARM[n].DEADT` has changed: the cells of the arm take it by WRITE_ALL 0x021 (R315). -/
def deadtSend (n : Nat) (s : State) : State :=
  forAll ((List.range 128).filter fun l => s.flag (F.CL_CFG_USED l) && s.rd (F.CL_CFG_ARM l) = n)
    (fun l s => writeAll l 0x021 (s.rd (F.ARM_DEADT_NS n)) s) s

/-- `REF.SYN.EN` is 0: out of sync, count 0 (R175). -/
def monitorOff (s : State) : State :=
  let s := if s.flag F.REF_SYN_EN then s else s.wrs [(F.REF_SYN_STS_INSYNC, 0), (F.REF_SYN_STS_COUNT, 0)]
  twinFigures s

/-- What an array register's new value brings about. -/
def settleArray (addr : Nat) (old s : State) : State :=
  match arrayIx 0x180048 0x100 128 addr with
  | some l =>
    if s.rd (F.CL_FCFG_AUXSEL l) != old.rd (F.CL_FCFG_AUXSEL l) && s.flag (F.CL_CFG_USED l) then
      writeAll l 0x023 (s.rd (F.CL_FCFG_AUXSEL l)) s
    else s
  | none =>
  match arrayIx 0x2118C 0x400 12 addr with
  | some n => if s.rd (F.ARM_DEADT_NS n) != old.rd (F.ARM_DEADT_NS n) then deadtSend n s else s
  | none =>
  match arrayIx 0x341000 0x40 32 addr with
  | some i =>
    if s.flag (F.NET_SV_CFG_EN i) && !old.flag (F.NET_SV_CFG_EN i) then
      { s with net := { s.net with sv := modifyPad {} (fun x => { x with any := false }) i s.net.sv } }
    else s
  | none => if 0x3B0200 ≤ addr && addr < 0x3B0300 then sevSettle old s else s

/-- What follows from the new value of the register at `addr`; `old` is the state before the write. -/
def settleReg (addr : Nat) (old s : State) : State :=
  match addr with
  | 0x2000C | 0x20010 | 0x40024 => acceptJudge s
  | 0x40000 => if old.flag F.CG_CTL_SIGHOLD && !s.flag F.CG_CTL_SIGHOLD then { s with cg := { s.cg with shown := s.cg.sig } } else s
  | 0x80040 => monitorOff s
  | 0x280040 => ledgerOff s
  | 0x300000 => syncJudge s
  | 0x300004 =>
    if s.rd F.TB_SRC_SRC = old.rd F.TB_SRC_SRC then s else syncJudge { s with tb := { s.tb with delivered := false } }
  | _ => settleArray addr old s

/-- Entries of a layer reached the shadows of ramp `o`: its addressed fields take effect as at an order commit, with the
refusals of R162 and the rule of R166 (DEDUCED from R78; notes/assumptions/29). A commit that waits keeps its values. -/
def ordEntries (addrs : List Nat) (o : Nat) (s : State) : State :=
  let fs := ordFields o
  if fs.any fun f => addrs.contains f.addr then
    let capt := fs.foldl (fun c f => c.set f.key (if addrs.contains f.addr then s.shadow.get f.key else s.regs.get f.key)) s.capt
    { ordApply o { s with capt := capt } with capt := s.capt }
  else s

/-- A period of FP(n) that the transfer would refuse (R250). -/
def State.badPeriod (s : State) (v : Nat) : Bool := v % 100 != 0 || v < 1000 || s.armcyc < v

/-- An rwc field receives `v` in both copies; SHADOW_LOST where a shadow was not committed (R78). -/
def setBoth (base : Nat) (ix : List Nat) (f : FldSpec) (fld : Fld) (v : Nat) (s : State) : State :=
  let s := if s.rdShadow fld != s.rd fld then s.wr F.RCP_STS_SHADOW_LOST 1 else s
  let v := legal base f.lo ix v s
  let s := s.wrShadow fld v
  if 0x80100 ≤ base && base < 0x80118 then s
  else if base = 0x14010C && s.badPeriod v then s.wr (F.INS_FP_STS_BADPER (ix.headD 0)) 1
  else s.wr fld v

/-- A field takes `v` from a layer, with the same outcome as a register write of that value (R78). -/
def setByLayer (base : Nat) (ix : List Nat) (f : FldSpec) (fld : Fld) (v : Nat) (s : State) : State :=
  match f.acc with
  | .rw | .rwl =>
    match base with
    | 0x300020 => tbRateWrite v s
    | 0x380000 => refenWrite (v = 1) s
    | 0x3E0030 => forAll (List.range 32) (fun q s => if v.testBit q then gateRequest q s else ungateRequest q s) s
    | 0x3E0034 =>
      forAll (List.range f.w) (fun b s => if v.testBit b then gateRequest (32 + f.lo + b) s else ungateRequest (32 + f.lo + b) s) s
    | 0x3B0028 => if s.st = stTEST then s.wr fld v else if v != s.rd fld then s.wr F.FC_TEST_REFUSED 1 else s
    | 0x3B0200 => if sevFixed (8 * ix.headD 0 + f.lo / 4) then s else s.wr fld v
    | _ => s.wr fld (legal base f.lo ix v s)
  | .rwc => if base = 0x50000 && s.cg.g.npar ≤ ix.headD 0 then s else setBoth base ix f fld v s
  | _ => s

/-- One entry of a layer: (old AND NOT MASK) OR (VALUE AND MASK) on each field that MASK reaches (R78). -/
def applyEntry (e : Nat × Nat × Nat) (s : State) : State :=
  match findReg e.1 allRegs with
  | none => s
  | some (r, ix) =>
    let t := r.fields.foldl (fun s f =>
      let m := field e.2.1 f.lo f.w
      if m = 0 then s
      else
        let fld := f.at e.1 ix
        let old := s.rd fld
        setByLayer r.base ix f fld ((old - (old &&& m)) ||| (field e.2.2 f.lo f.w &&& m)) s) s
    settleReg e.1 s t

/-- The entries of a layer, as one access (R78). -/
def applyEntries (l : List (Nat × Nat × Nat)) (s : State) : State :=
  forAll [0, 1, 2, 3] (ordEntries (l.map (·.1))) (forAll l applyEntry s)

end Sys2Proof.Machine
end

