-- ==== Sys2Proof/Machine/Image.lean ====
section
/-! DEFINITION. The Recipe image (R52 to R60, R151 to R154, R452): its parts, and the checks of R72. -/

namespace Sys2Proof.Machine

/-- A check that fails at offset `o`. -/
def must (ok : Bool) (o : Nat) : Option Nat := if ok then none else some o

/-- The first check of a list that fails. -/
def firstOf : List (Option Nat) → Option Nat
  | [] => none
  | some o :: _ => some o
  | none :: r => firstOf r

/-- The first byte in [a, b) that is not 0. -/
def zeros (bs : List Byte) (a b : Nat) : Option Nat :=
  (List.range (b - a)).findSome? fun i => must (leAt bs (a + i) 1 = 0) (a + i)

/-- No value of a list occurs twice; the values before come in `seen`. -/
def distinct : List Nat → Bool
  | [] => true
  | x :: xs => !xs.contains x && distinct xs

/-! ### The sections (R57 to R60) -/

/-- An arm record of TOPO. -/
structure TopoArm where
  arm : Nat
  n : Nat
  popmin : Nat
  vmin : Nat
  vmax : Nat
  imin : Nat
  imax : Nat
deriving DecidableEq, Repr

/-- A cell record of TOPO. -/
structure TopoCell where
  gidx : Nat
  loc : Nat
  arm : Nat
  role : Nat
  bmode : Nat
  lane : Nat
  hop : Nat
deriving DecidableEq, Repr

/-- A LANE record. -/
structure LaneRec where
  lane : Nat
  gen : Nat
  arm : Nat
  hops : Nat
  ring : Nat
  end_ : Nat
  burst : Nat
deriving DecidableEq, Repr

/-- An ENGN record. -/
structure EngRec where
  be : Nat
  arm : Nat
  first : Nat
  count : Nat
deriving DecidableEq, Repr

/-- The arms that ARMMASK of a TOPO section names. -/
def topoMask (d : List Byte) : List Nat := bitsOf 16 (leAt d 2 2)

/-- The arm records. -/
def topoArms (d : List Byte) : List TopoArm :=
  (List.range (topoMask d).length).map fun i =>
    let o := 64 + 32 * i
    ⟨leAt d o 1, leAt d (o + 2) 2, leAt d (o + 4) 2, leAt d (o + 6) 2, leAt d (o + 8) 2, leAt d (o + 10) 2, leAt d (o + 12) 2⟩

/-- The offset of the cell records. -/
def topoBase (d : List Byte) : Nat := 64 + 32 * (topoMask d).length

/-- The cell records. -/
def topoCells (d : List Byte) : List TopoCell :=
  (List.range (leAt d 0 2)).map fun i =>
    let o := topoBase d + 8 * i
    let b := leAt d (o + 4) 1
    ⟨leAt d o 2, leAt d (o + 2) 2, field b 0 4, field b 4 2, field b 6 1, leAt d (o + 5) 1, leAt d (o + 6) 1⟩

/-- The records of a LANE section. -/
def laneRecs (d : List Byte) : List LaneRec :=
  (List.range (leAt d 0 1)).map fun i =>
    let o := 16 + 16 * i
    ⟨leAt d o 1, leAt d (o + 1) 1, leAt d (o + 2) 1, leAt d (o + 3) 1, leAt d (o + 4) 1, leAt d (o + 5) 1, leAt d (o + 6) 1⟩

/-- The records of an ENGN section. -/
def engRecs (d : List Byte) : List EngRec :=
  (List.range (leAt d 0 1)).map fun i =>
    let o := 16 + 8 * i
    ⟨leAt d o 1, leAt d (o + 1) 1, leAt d (o + 2) 2, leAt d (o + 4) 2⟩

/-- The entries of a PARM section: ADDR, MASK, VALUE. -/
def parmEntries (d : List Byte) : List (Nat × Nat × Nat) :=
  (List.range (leAt d 0 4)).map fun i =>
    let o := 16 + 12 * i
    (leAt d o 4, leAt d (o + 4) 4, leAt d (o + 8) 4)

/-! ### Check 13: each section against its own format -/

/-- TOPO (R57). Each arm's records cover its arm-local indices once. -/
def checkTopo (d : List Byte) : Option Nat :=
  let mask := leAt d 2 2
  let arms := topoArms d
  let cells := topoCells d
  let base := topoBase d
  let cell := fun (i : Nat) =>
    let o := base + 8 * i
    let b := leAt d (o + 4) 1
    let before := cells.take i
    match cells[i]? with
    | none => none
    | some c =>
      must (before.all (fun p => p.gidx < c.gidx) && !b.testBit 7 && c.role ≤ 2 &&
        (match arms.find? (·.arm == c.arm) with | some a => c.loc < a.n | none => false) &&
        !before.any (fun p => (p.arm == c.arm && p.loc == c.loc) || (p.lane == c.lane && p.hop == c.hop)) &&
        c.lane ≤ 127 && c.hop ≤ 63 && leAt d (o + 7) 1 = 0) o
  if d.length < 64 then some 0
  else firstOf [must (mask != 0 && mask < 4096) (if mask < 4096 then 2 else 3), zeros d 4 64,
    must (d.length = base + 8 * leAt d 0 2) 0] <|>
    ((List.range arms.length).findSome? fun i =>
      let o := 64 + 32 * i
      match arms[i]? with
      | none => none
      | some a => must (a.arm = (topoMask d).getD i 0 && 1 ≤ a.n && leAt d (o + 1) 1 = 0 && (zeros d (o + 14) (o + 32)).isNone) o) <|>
    ((List.range cells.length).findSome? cell) <|>
    ((List.range arms.length).findSome? fun i =>
      match arms[i]? with
      | none => none
      | some a => must ((cells.filter (·.arm == a.arm)).length = a.n) (64 + 32 * i))

/-- LANE (R58, R260). -/
def checkLane (d : List Byte) : Option Nat :=
  let rs := laneRecs d
  if d.length < 16 || d.length != 16 + 16 * leAt d 0 1 then some 0
  else zeros d 1 16 <|> ((List.range rs.length).findSome? fun i =>
    let o := 16 + 16 * i
    match rs[i]? with
    | none => none
    | some r =>
      must ((rs.take i).all (fun p => p.lane < r.lane) && r.lane ≤ 127 && 1 ≤ r.gen && r.gen ≤ 3 && r.arm ≤ 11 && 1 ≤ r.hops &&
        (r.ring = 0xFF || (r.ring ≤ 127 && r.ring != r.lane)) && r.end_ ≤ 1 && (r.ring != 0xFF || r.end_ = 0) &&
        !(1 ≤ r.burst && r.burst ≤ 7) && (zeros d (o + 7) (o + 16)).isNone) o)

/-- ENGN (R59). -/
def checkEngn (d : List Byte) : Option Nat :=
  let rs := engRecs d
  if d.length < 16 || d.length != 16 + 8 * leAt d 0 1 then some 0
  else zeros d 1 16 <|> ((List.range rs.length).findSome? fun i =>
    let o := 16 + 8 * i
    match rs[i]? with
    | none => none
    | some r =>
      must ((rs.take i).all (fun p => p.be < r.be) && r.be ≤ 23 && r.arm ≤ 11 && r.first ≤ 1023 && 1 ≤ r.count &&
        (zeros d (o + 6) (o + 8)).isNone) o)

/-- The header of PARM (R60); its entries are judged at check 17. -/
def checkParm (d : List Byte) : Option Nat :=
  if d.length < 16 || 65536 < leAt d 0 4 || d.length != 16 + 12 * leAt d 0 4 then some 0 else zeros d 4 16

/-- The fields of the SAFE header with their ranges: offset, size, least, greatest (R452). -/
def safeFields : List (Nat × Nat × Nat × Nat) :=
  [(0, 4, 0x45464153, 0x45464153), (4, 2, 1, 1), (6, 2, 0, 0), (8, 2, 100, 1000), (10, 2, 1, 60), (12, 2, 160, 200), (14, 2, 300, 340)]

/-- SAFE (R452). CHKB is CHB's to judge (R447). -/
def checkSafe (d : List Byte) : Option Nat :=
  if d.length != 4096 then some 0
  else (safeFields.findSome? fun f => must (f.2.2.1 ≤ leAt d f.1 f.2.1 && leAt d f.1 f.2.1 ≤ f.2.2.2) f.1) <|> zeros d 16 64 <|>
    ((List.range 8).findSome? fun p =>
      let o := 64 + 16 * p
      let mode := leAt d o 1
      let filt := leAt d (o + 1) 1
      let t := leAt d (o + 2) 2
      let fl := leAt d (o + 4) 1
      must (if mode = 0 then (zeros d (o + 1) (o + 16)).isNone
        else mode ≤ 2 && 1 ≤ filt && filt ≤ 32 && 2 ≤ t && t ≤ 1000 && fl < 8 && 2 ≤ fl && (zeros d (o + 5) (o + 16)).isNone) o) <|>
    ((List.range 2).findSome? fun k =>
      let o := 192 + 16 * k
      must (leAt d o 1 ≤ 1 && leAt d (o + 1) 1 ≤ 1 && (zeros d (o + 2) (o + 16)).isNone) o) <|>
    zeros d 224 4092

/-! ### GRPH (R151 to R154) -/

/-- Words `i` to `i + n − 1` of the constants are finite and strictly ascending. -/
def ascending (cons : List Nat) (i n : Nat) : Bool :=
  let l := (cons.drop i).take n
  l.all f32isFin && (l.zip (l.drop 1)).all fun p => f32lt p.1 p.2

/-- The constant block of an instance lies within NCONST, its sizes and breakpoints are within their ranges (R135, R136, R154). -/
def constOk (cons : List Nat) (ty con : Nat) : Bool :=
  let k := cons.getD con 0
  let k1 := cons.getD (con + 1) 0
  let fits := fun (n : Nat) => con + n ≤ cons.length
  match ty with
  | 0x21 => fits 1 && 1 ≤ k && k ≤ 64
  | 0x26 => fits 1 && 1 ≤ k && k ≤ 64 && fits (1 + k)
  | 0x28 | 0x29 => fits 1 && 1 ≤ k && k ≤ 256
  | 0x14 => fits 1 && 2 ≤ k && k ≤ 256 && fits (1 + 2 * k) && ascending cons (con + 1) k
  | 0x15 => fits 2 && 2 ≤ k && k ≤ 64 && 2 ≤ k1 && k1 ≤ 64 && fits (2 + k + k1 + k * k1) && ascending cons (con + 2) k &&
      ascending cons (con + 2 + k) k1
  | _ => con = 0

/-- An instance fits its type (R152, R154). -/
def instOk (g : Grph) (par : List Nat) (plen : Nat) (x : Inst) : Bool :=
  match shape x.ty with
  | none => false
  | some sh =>
    x.core ≤ 7 && x.nout = sh.nout && sh.lo ≤ x.nin && x.nin ≤ sh.hi && plen = sh.npar.getD x.nin &&
      (if x.ty = 0x10 then x.flags ≤ 1 && x.nin = (if x.flags = 1 then 3 else 1) else x.flags = 0) &&
      x.par + plen ≤ g.npar && constOk g.cons x.ty x.con && (x.ty != 0x12 || par.getD x.par 0 ≤ 5) &&
      (x.ins.take x.nin).all (fun s => s = 0xFFFF || s < g.init.length) && (x.ins.drop x.nin).all (· = 0xFFFF)

/-- An input selector is valid (R127). -/
def inputOk (arms : List Nat) (cls sel : Nat) : Bool :=
  let only := fun (mask : Nat) => sel &&& mask = sel
  match cls with
  | 0x01 | 0x02 => only 0xF1F
  | 0x03 => sel ≤ 7
  | 0x04 => sel ≤ 31
  | 0x05 => sel ≤ 0x1F
  | 0x06 => only 0xF0F && arms.contains (sel % 16)
  | 0x07 => only 0x103
  | 0x08 => sel ≤ 63
  | 0x09 | 0x0A => sel ≤ 2
  | _ => false

/-- An output selector is valid (R128). -/
def outputOk (arms : List Nat) (cls sel : Nat) : Bool :=
  match cls with
  | 0x01 | 0x02 => arms.contains sel
  | 0x03 => sel ≤ 63
  | _ => false

/-- The producers of the signals, in order: those of the input map, then those of the instances. -/
def signalSources (g : Grph) : List Nat :=
  g.inmap.map (·.1) ++ g.insts.flatMap fun x => (List.range x.nout).map (x.out + ·)

/-- Check 13 of a GRPH section for the arms of the TOPO section. -/
def checkGrph (arms : List Nat) (d : List Byte) : Option Nat :=
  if d.length < 64 then some 0
  else
    let p := grphParts d
    let nsch := (words 2 8 16 d).foldl (· + ·) 0
    let nin := leAt d 12 2
    let nout := leAt d 14 2
    let size := p.2.2.2.2.2.2
    zeros d 32 64 <|> must (d.length = size) (min size d.length) <|>
    (if nsch % 2 = 1 then must (leAt d (p.1 + 2 * nsch) 2 = 0) (p.1 + 2 * nsch) else none) <|>
    ((List.range (nin + nout)).findSome? fun j => must (leAt d (p.2.2.1 + 8 * j + 3) 1 = 0) (p.2.2.1 + 8 * j)) <|>
    let g := parseGrph d
    let par := grphParams d
    let flat := g.sched.flatten
    let owner := g.sched.zipIdx.flatMap fun (x : List Nat × Nat) => x.1.map fun i => (i, x.2)
    let srcs := signalSources g
    let nsig := g.init.length
    ((List.range g.insts.length).findSome? fun i =>
      match g.insts[i]? with
      | none => none
      | some x => must (instOk g par (instPlen d (64 + 32 * i)) x) (64 + 32 * i)) <|>
    ((List.range flat.length).findSome? fun j =>
      match owner[j]? with
      | none => none
      | some (i, c) =>
        must ((match g.insts[i]? with | some x => x.core = c | none => false) && !(flat.take j).contains i) (p.1 + 2 * j)) <|>
    ((List.range g.insts.length).findSome? fun i => must (flat.contains i) (64 + 32 * i)) <|>
    ((List.range nin).findSome? fun j =>
      must (srcs.getD j 0 < nsig && !(srcs.take j).contains (srcs.getD j 0)) (p.2.2.1 + 8 * j)) <|>
    ((List.range g.insts.length).findSome? fun i =>
      match g.insts[i]? with
      | none => none
      | some x =>
        let own := (List.range x.nout).map (x.out + ·)
        let before := g.inmap.map (·.1) ++ (g.insts.take i).flatMap fun y => (List.range y.nout).map (y.out + ·)
        must (own.all fun s => s < nsig && !before.contains s) (64 + 32 * i)) <|>
    ((List.range nsig).findSome? fun s => must (srcs.contains s) (p.2.1 + 4 * s)) <|>
    ((List.range g.insts.length).findSome? fun i => must (g.order.contains i) (64 + 32 * i)) <|>
    ((List.range nin).findSome? fun j =>
      match g.inmap[j]? with
      | none => none
      | some e => must (inputOk arms e.2.1 e.2.2) (p.2.2.1 + 8 * j)) <|>
    ((List.range nout).findSome? fun j =>
      match g.outmap[j]? with
      | none => none
      | some e =>
        must (e.1 < nsig && outputOk arms e.2.1 e.2.2 && !(g.outmap.take j).any (fun q => q.2 == e.2)) (p.2.2.2.1 + 8 * j)) <|>
    must (arms.all fun n => g.outmap.any fun e => e.2.1 == 1 && e.2.2 == n) p.2.2.2.1

/-- Check 14 of a GRPH section: R151's counts, and 2,048 instances on one core. -/
def capsGrph (d : List Byte) : Option Nat :=
  must (1 ≤ leAt d 0 2 && leAt d 0 2 ≤ 4096 && 1 ≤ leAt d 2 2 && leAt d 2 2 ≤ 8192 && leAt d 4 4 ≤ 49152 &&
    leAt d 8 4 ≤ 1048576 && leAt d 12 2 ≤ 1024 && 1 ≤ leAt d 14 2 && leAt d 14 2 ≤ 512) 0 <|>
  must ((words 2 8 16 d).all (· ≤ 2048)) 16

/-! ### The image (R52 to R56) -/

/-- A directory entry: TYPE, OFFSET, LENGTH, CRC, and whether it is used. -/
structure DirEntry where
  type : Nat
  ofs : Nat
  len : Nat
  crc : Nat
  used : Bool
  clean : Bool
deriving DecidableEq, Repr

/-- The directory of an image, used entries only. -/
def directory (raw : List Byte) : List DirEntry :=
  ((List.range 6).map fun j =>
    let o := 0x60 + 16 * j
    (⟨leAt raw o 1, leAt raw (o + 4) 4, leAt raw (o + 8) 4, leAt raw (o + 12) 4, (zeros raw o (o + 16)).isSome,
      (zeros raw (o + 1) (o + 4)).isNone⟩ : DirEntry)).filter (·.used)

/-- LEN of the header. -/
def imageLen (raw : List Byte) : Nat := leAt raw 0xC 4

/-- An image's header and sections. -/
def readRecipe (raw : List Byte) : Recipe :=
  { flags := leAt raw 6 2, imageId := leAt raw 0x10 8, baseId := leAt raw 0x18 8, version := leAt raw 0x20 4
    keyid := leAt raw 0x24 4, armcyc := leAt raw 0x28 4, m := leAt raw 0x2C 1, pl := leAt raw 0x2D 1, narms := leAt raw 0x2E 1
    secs := (directory raw).map fun e => (e.type, e.ofs, slice raw e.ofs e.len) }

/-- The directory as R54 has it: defined types, each once, aligned, behind the header, before the signature, no overlap. -/
def directoryOk (raw : List Byte) : Bool :=
  let ds := directory raw
  ds.all (fun e => 1 ≤ e.type && e.type ≤ 6 && e.clean && e.ofs % 256 = 0 && 256 ≤ e.ofs && e.ofs + e.len ≤ imageLen raw - 64) &&
    distinct (ds.map (·.type)) &&
    ds.all (fun e => ds.all fun f => e.type == f.type || e.ofs + e.len ≤ f.ofs || f.ofs + f.len ≤ e.ofs)

/-- DELTA. -/
def Recipe.delta (r : Recipe) : Bool := r.flags.testBit 0
/-- TWIN. -/
def Recipe.twin (r : Recipe) : Bool := r.flags.testBit 1

/-- The section of a type that the image carries. -/
def Recipe.own (r : Recipe) (t : Nat) : Option (List Byte) := (r.secs.find? (·.1 == t)).map (·.2.2)

/-- The offset in the image of byte `o` of a section; 0 for a section that the image leaves to the active Recipe. -/
def Recipe.at (r : Recipe) (t o : Nat) : Nat := match r.secs.find? (·.1 == t) with | some x => x.2.1 + o | none => 0

/-- A Recipe is active. -/
def State.recipeActive (s : State) : Bool := !s.rcp.secs.isEmpty

/-- The active section of a type. -/
def State.activeSec (s : State) (t : Nat) : List Byte := ((s.rcp.secs.find? (·.1 == t)).map (·.2)).getD []

/-- The section of a type that the image puts in force: its own, else the active one (R56). -/
def State.newSec (s : State) (r : Recipe) (t : Nat) : List Byte := (r.own t).getD (s.activeSec t)

/-! ### Checks 11 to 17 -/

/-- The verdict on an image: CODE, SECTION, ERROFS. -/
abbrev Verdict := Option (Nat × Nat × Nat)

/-- A check with its code, its section and the failing offset. -/
def verdict (code sec : Nat) (o : Option Nat) : Verdict := o.map fun o => (code, sec, o)

/-- Check 11 (R56). -/
def check11 (s : State) (r : Recipe) : Verdict :=
  let ok := if r.delta then
      s.recipeActive && !r.secs.isEmpty && r.armcyc = s.armcyc && r.m = s.rd F.SCH_CFG_M && r.pl = s.rd F.SCH_CFG_PL &&
        r.narms = s.rd F.SCH_CFG_NARMS && r.twin == s.flag F.GLB_ROLE_TWIN
    else [1, 2, 3, 4, 5, 6].all fun t => (r.own t).isSome
  verdict 0x0B 0 (must ok 0)

/-- Check 12. -/
def check12 (s : State) (r : Recipe) : Verdict := verdict 0x0C 0 (must (!r.delta || r.baseId = s.imageId) 0)

/-- Check 13 of the header: the fields that no earlier check judges. -/
def checkHeader (raw : List Byte) (r : Recipe) : Option Nat :=
  must (r.flags % 256 < 4) 6 <|> must (r.flags < 256) 7 <|> (if r.delta then none else zeros raw 0x18 0x20) <|>
    must (1 ≤ r.m && r.m ≤ 16) 0x2C <|> must (r.pl ≤ 3) 0x2D <|> must (1 ≤ r.narms && r.narms ≤ 12) 0x2E <|>
    zeros raw 0x2F 0x30 <|> zeros raw 0x50 0x60 <|> zeros raw 0xC0 0xF8 <|> zeros raw 0xFC 0x100

/-- Check 13 of one section. -/
def checkSection (arms : List Nat) (t : Nat) (d : List Byte) : Option Nat :=
  match t with
  | 1 => checkTopo d
  | 2 => checkLane d
  | 3 => checkEngn d
  | 4 => checkGrph arms d
  | 5 => checkParm d
  | _ => checkSafe d

/-- The padding between parts, in ascending order of the parts: the section that it follows and its first nonzero byte. -/
def checkPadding (raw : List Byte) : List DirEntry → Nat → Nat → Verdict
  | [], t, o => verdict 0x0E t (zeros raw o (imageLen raw - 64))
  | e :: es, t, o => verdict 0x0E t (zeros raw o e.ofs) <|> checkPadding raw es e.type (e.ofs + e.len)

/-- Check 13. -/
def check13 (s : State) (raw : List Byte) (r : Recipe) : Verdict :=
  let topo := s.newSec r 1
  let arms := if (checkTopo topo).isNone then topoMask topo else []
  verdict 0x0E 0 (checkHeader raw r) <|>
    (r.secs.findSome? fun x => (checkSection arms x.1 x.2.2).map fun o => (0x0E, x.1, x.2.1 + o)) <|>
    checkPadding raw (sortBy (fun a b => decide (a.ofs ≤ b.ofs)) (directory raw)) 0 0x100

/-- The value of a field that checks 14 and 16 use: the one in effect, or that of a PARM entry of the image (R110, R143). -/
def State.parmValue (s : State) (es : List (Nat × Nat × Nat)) (fld : Fld) : Nat :=
  let v := es.foldl (fun v e =>
    let m := field e.2.1 fld.lo fld.w
    if e.1 = fld.addr && m != 0 then (v - (v &&& m)) ||| (field e.2.2 fld.lo fld.w &&& m) else v) (s.rd fld)
  legal fld.addr fld.lo [] v s

/-- The PARM entries of the image's own PARM section. -/
def Recipe.parm (r : Recipe) : List (Nat × Nat × Nat) := parmEntries ((r.own 5).getD [])

/-- An arm of a Recipe, as the acceptance rule reads it. -/
def shapeOf (ls : List LaneRec) (es : List EngRec) (n : Nat) : ArmShape :=
  { chains := (ls.filter (·.arm == n)).map fun l => (l.gen, l.hops), engines := (es.filter (·.arm == n)).map (·.count) }

/-- Check 14: capacities (R2, R318, R151, R143). -/
def check14 (s : State) (r : Recipe) : Verdict :=
  let topo := s.newSec r 1
  let arms := topoArms topo
  let cells := topoCells topo
  let ls := laneRecs (s.newSec r 2)
  let es := engRecs (s.newSec r 3)
  let grph := s.newSec r 4
  verdict 0x10 1 (must (cells.length ≤ 8192) (r.at 1 0) <|>
    ((List.range cells.length).findSome? fun i =>
      match cells[i]? with | some c => must (c.gidx ≤ 8191) (r.at 1 (topoBase topo + 8 * i)) | none => none) <|>
    ((List.range arms.length).findSome? fun i =>
      match arms[i]? with | some a => must (a.n ≤ 1024) (r.at 1 (64 + 32 * i)) | none => none)) <|>
  verdict 0x10 3 ((List.range es.length).findSome? fun i =>
    match es[i]? with
    | some e => must (e.count ≤ 256 && ((es.take i).filter (·.arm == e.arm)).length < 4) (r.at 3 (16 + 8 * i))
    | none => none) <|>
  verdict 0x10 2 ((List.range ls.length).findSome? fun i =>
    match ls[i]? with | some l => must (l.hops ≤ chainMax l.gen r.armcyc) (r.at 2 (16 + 16 * i)) | none => none) <|>
  verdict 0x10 4 ((capsGrph grph).map (r.at 4)) <|>
  verdict 0x10 4 (must (decide (0 ≤ (parseGrph grph).margin r.pl (s.parmValue r.parm F.CG_GUARD_NS) r.m r.armcyc)) (r.at 4 0))

/-- The engines of arm `n` cover its arm-local indices once, from `next` on. -/
def covers : List EngRec → Nat → Nat → Bool
  | [], next, n => next = n
  | e :: es, next, n => e.first = next && covers es (next + e.count) n

/-- Check 15: the header and the sections agree. -/
def check15 (s : State) (r : Recipe) : Verdict :=
  let topo := s.newSec r 1
  let arms := topoArms topo
  let cells := topoCells topo
  let ls := laneRecs (s.newSec r 2)
  let es := engRecs (s.newSec r 3)
  let size := fun (n : Nat) => ((arms.find? (·.arm == n)).map (·.n)).getD 0
  verdict 0x0F 0 (must (r.narms = arms.length) 0x2E) <|>
  verdict 0x0F 1 ((List.range cells.length).findSome? fun i =>
    match cells[i]? with
    | some c => must (ls.any fun l => l.lane == c.lane && l.arm == c.arm && decide (c.hop < l.hops)) (r.at 1 (topoBase topo + 8 * i))
    | none => none) <|>
  verdict 0x0F 2 ((List.range ls.length).findSome? fun i =>
    match ls[i]? with
    | some l =>
      must (arms.any (·.arm == l.arm) && (l.ring = 0xFF ||
        ls.any fun p => p.lane == l.ring && p.ring == l.lane && p.end_ != l.end_ && p.arm == l.arm)) (r.at 2 (16 + 16 * i))
    | none => none) <|>
  verdict 0x0F 3 ((List.range es.length).findSome? fun i =>
    match es[i]? with
    | some e => must (arms.any (·.arm == e.arm) && e.first + e.count ≤ size e.arm) (r.at 3 (16 + 8 * i))
    | none => none) <|>
  verdict 0x0F 3 (arms.findSome? fun a =>
    let own := sortBy (fun x y => decide (x.first ≤ y.first)) (es.filter (·.arm == a.arm))
    must (!own.isEmpty && covers own 0 a.n) (r.at 3 0))

/-- Check 16: ARMCYC and the acceptance rule at the header's PL (R110). -/
def check16 (s : State) (r : Recipe) : Verdict :=
  let ls := laneRecs (s.newSec r 2)
  let es := engRecs (s.newSec r 3)
  let v := s.parmValue r.parm
  verdict 0x11 0 (must (r.armcyc % 100 = 0 && 5000 ≤ r.armcyc && r.armcyc ≤ 100000 &&
    (topoArms (s.newSec r 1)).all fun a =>
      decide (0 ≤ (shapeOf ls es a.arm).margin (v F.SCH_ALLOW_FIRST) (v F.SCH_ALLOW_HOP) (v F.SCH_GUARD_NS) r.armcyc r.pl)) 0)

/-- Addresses that PARM does not reach: RCP, CELL, HST (R60). -/
def parmBarred (addr : Nat) : Bool :=
  (0x10000 ≤ addr && addr < 0x20000) || (0x200000 ≤ addr && addr < 0x280000) || (0x3D0000 ≤ addr && addr < 0x3E0000)

/-- The bits of the register at `addr` whose fields satisfy `p`; none where no register stands. -/
def fieldMask (p : FldSpec → Bool) (addr : Nat) : Option Nat :=
  (findReg addr allRegs).map fun x => (x.1.fields.filter p).foldl (fun a f => a ||| ((2 ^ f.w - 1) * 2 ^ f.lo)) 0

/-- The field has code rw, rwl or rwc. -/
def FldSpec.settable (f : FldSpec) : Bool := f.acc == .rw || f.acc == .rwl || f.acc == .rwc

/-- An entry of a layer reaches only fields that satisfy `p`, and VALUE stays within MASK. -/
def entryOk (p : FldSpec → Bool) (e : Nat × Nat × Nat) : Bool :=
  e.1 % 4 = 0 && e.1 < 0x1000000 && e.2.2 &&& e.2.1 = e.2.2 &&
    match fieldMask p e.1 with
    | some m => e.2.1 &&& m = e.2.1
    | none => false

/-- Check 17: the PARM entries (R60). -/
def check17 (r : Recipe) : Verdict :=
  let es := r.parm
  verdict 0x12 5 ((List.range es.length).findSome? fun i =>
    match es[i]? with
    | some e => must ((es.take i).all (fun p => p.1 < e.1) && !parmBarred e.1 && entryOk FldSpec.settable e) (r.at 5 (16 + 12 * i))
    | none => none)

/-! ### All checks -/

/-- The public point of a key slot. -/
def KeySlot.key (k : KeySlot) : List Byte := k.point.getD ((List.range 64).map Config.commissioningKey)

/-- `RCP.KEY[k].KEYID`: 0 while EMPTY. -/
def KeySlot.keyid (k : KeySlot) : Nat := if k.state = 0 then 0 else keyIdOf k.key

/-- The VALID key slots that hold the image's KEYID (R61). -/
def State.keysFor (s : State) (keyid : Nat) : List KeySlot := s.rcp.keys.filter fun k => k.state == 1 && k.keyid == keyid

/-- Check 8. -/
def check8 (s : State) (r : Recipe) : Verdict := verdict 0x08 0 (must (!(s.keysFor r.keyid).isEmpty) 0)

/-- Check 9. -/
def check9 (s : State) (raw : List Byte) (r : Recipe) : Verdict :=
  let n := imageLen raw
  verdict 0x09 0 (must ((s.keysFor r.keyid).any fun k => ecdsaOk k.key (raw.take (n - 64)) (slice raw (n - 64) 64)) 0)

/-- Check 10. -/
def check10 (s : State) (r : Recipe) : Verdict := verdict 0x0A 0 (must (s.rcp.minver ≤ r.version) 0)

/-- The DEVICE field names this device. -/
def State.deviceOk (s : State) (dev : Nat) : Bool := dev / 256 = s.rd F.GLB_ID_PART * 256 + s.rd F.GLB_ID_REV

/-- VERIFY of the first bytes of the stage area, `limit` the length allowed by check 3 (R72). -/
def verifyImage (s : State) (stage : List Byte) (limit : Nat) : Verdict :=
  let n := imageLen stage
  let raw := stage.take n
  let r := readRecipe raw
  verdict 0x01 0 (must (leAt stage 0 4 = 0x50435257) 0) <|>
  verdict 0x02 0 (must (leAt stage 4 2 = 2) 0) <|>
  verdict 0x03 0 (must (512 ≤ n && n ≤ 16777216 && n ≤ limit) 0) <|>
  verdict 0x04 0 (must (s.deviceOk (leAt stage 8 4)) 0) <|>
  verdict 0x05 0 (must (leAt stage 0xF8 4 = crc32c (stage.take 0xF8)) 0) <|>
  verdict 0x06 0 (must (directoryOk raw) 0) <|>
  ((directory raw).findSome? fun e => verdict 0x07 e.type (must (crc32c (slice raw e.ofs e.len) = e.crc) 0)) <|>
  check8 s r <|> check9 s raw r <|> check10 s r <|> check11 s r <|> check12 s r <|> check13 s raw r <|> check14 s r <|>
  check15 s r <|> check16 s r <|> check17 r

/-- The checks that a COMMIT repeats (R74). -/
def repeatChecks (s : State) (r : Recipe) : Verdict :=
  check8 s r <|> check10 s r <|> check11 s r <|> check12 s r <|> check14 s r <|> check15 s r <|> check16 s r

end Sys2Proof.Machine
end

