-- ==== Sys2Proof/Machine/Recipe.lean ====
section
/-! DEFINITION. The Recipe unit (R62 to R90): the commands of `RCP.CMD`, the stage area, slots and key slots, the commit with its
switch, commits in twin operation, the SAFE acknowledge, the automatic load and the house layer. -/

namespace Sys2Proof.Machine

/-! ### The stage area and the bookkeeping of commands -/

/-- The first Cellar address of the stage area (R66). -/
abbrev stageBase : Nat := 0x1A0000000
/-- The size of the stage area. -/
abbrev stageSize : Nat := 16777216
/-- The first Cellar address of the house area (R90). -/
abbrev houseBase : Nat := 0x1A1000000

/-- The first `n` bytes of the stage area. -/
def State.stage (s : State) (n : Nat) : List Byte := s.cellar.readBytes stageBase n

/-- The staged image: as many bytes as its LEN gives, within the stage area. -/
def State.staged (s : State) : List Byte := s.stage (min stageSize (max 256 (leNat (s.cellar.readBytes (stageBase + 12) 4))))

/-- VERIFY, COMMIT, STORE, LOAD, ABORT, SAFE_ACK, SLOT_ERASE, HOUSE_READ, HOUSE_STORE, KEY_WRITE, KEY_REVOKE, MINVER_SET. -/
abbrev rcVERIFY : Nat := 1
/-- COMMIT. -/
abbrev rcCOMMIT : Nat := 2
/-- STORE. -/
abbrev rcSTORE : Nat := 3
/-- LOAD. -/
abbrev rcLOAD : Nat := 4
/-- SLOT_ERASE. -/
abbrev rcERASE : Nat := 7
/-- HOUSE_STORE. -/
abbrev rcHSTORE : Nat := 9

/-- `RCP.RESULT` and `RCP.ERROFS` of a command (R72). -/
def rcpResult (cmd code sec ofs : Nat) (s : State) : State :=
  (s.wrs [(F.RCP_RESULT_CODE, code), (F.RCP_RESULT_SECTION, sec), (F.RCP_RESULT_CMD, cmd), (F.RCP_ERROFS_VALUE, ofs)]).count
    F.RCP_RESULT_SEQ

/-- A command is refused: its result, and the CMD event (R525). -/
def rcpRefuse (cmd code : Nat) (s : State) : State := (rcpResult cmd code 0 0 s).event 2

/-- A command that runs begins. -/
def rcpBegin (cmd arg phase : Nat) (s : State) : State :=
  ({ s with rcp := { s.rcp with job := some (cmd, arg) } }.wrs [(F.RCP_STS_BUSY, 1), (F.RCP_STS_PHASE, phase)]).event 2

/-- A command ends: its result, the RCP event. -/
def rcpEnd (cmd code sec ofs : Nat) (s : State) : State :=
  let s := { s with rcp := { s.rcp with job := none, prep := none, houseNew := [] } }.wrs [(F.RCP_STS_BUSY, 0), (F.RCP_STS_PHASE, 0)]
  (rcpResult cmd code sec ofs s).event 3

/-- A command that has its effect at once. -/
def rcpDone (cmd : Nat) (s : State) : State := rcpEnd cmd 0 0 0 (s.event 2)

/-- The command `cmd` with argument none runs. -/
def State.rcpRuns (s : State) (cmd : Nat) : Bool := match s.rcp.job with | some (c, _) => c == cmd | none => false

/-- A command other than ABORT is judged: busy, else `k` (R71). -/
def rcpJudge (cmd : Nat) (k : State → State) (s : State) : State := if s.rcp.job.isSome then rcpRefuse cmd 0x14 s else k s

/-- STAGE_OK. -/
def stageOk (b : Bool) (s : State) : State := s.put F.RCP_STS_STAGE_OK b

/-- Slot `i`. -/
def State.slot (s : State) (i : Nat) : NvSlot := s.rcp.slots.getD i {}

/-- Slot `i` changes. -/
def State.setSlot (s : State) (i : Nat) (f : NvSlot → NvSlot) : State :=
  { s with rcp := { s.rcp with slots := modifyAt f i s.rcp.slots } }

/-- The CRC of the SAFE section in an image's directory. -/
def safeCrcOf (raw : List Byte) : Option Nat := ((directory raw).find? (·.type == 6)).map (·.crc)

/-- The section CRCs of an image's directory, by type 1 to 6; those that it leaves to the active Recipe as they are. -/
def State.crcsOf (s : State) (raw : List Byte) : List Nat :=
  [1, 2, 3, 4, 5, 6].map fun t => ((directory raw).find? (·.type == t)).elim (s.rd (secCrcFld t)) (·.crc)

/-! ### What a commit changes and where it is allowed (R73 to R75) -/

/-- The changed sections of an image (R73). -/
def State.changed (s : State) (r : Recipe) : List Nat :=
  let head := !s.recipeActive || r.armcyc != s.armcyc || r.m != s.rd F.SCH_CFG_M || r.pl != s.rd F.SCH_CFG_PL ||
    r.twin != s.flag F.GLB_ROLE_TWIN
  [1, 2, 3, 4, 5, 6].filter fun t =>
    (t = 1 && head) || (match r.own t with | some d => !s.recipeActive || d != s.activeSec t | none => false)

/-- A section of type `t` may change in state `st` (R74). -/
def mayChange (t st : Nat) : Bool :=
  let low := st = stDEFAULTS || st = stLOADED || st = stLINKED || st = stTEST
  if t = 5 then low || st = stARMED || st = stRUN || st = stBLOCKED || st = stSAFE
  else if t = 6 then low || st = stSAFE
  else low

/-- An entry reaches an rwl field. -/
def entryLocked (e : Nat × Nat × Nat) : Bool :=
  match findReg e.1 allRegs with
  | some (r, _) => r.fields.any fun f => f.acc == .rwl && field e.2.1 f.lo f.w != 0
  | none => false

/-- The table of R74 in state `st`: 0, 0x0D or 0x13. -/
def stateVerdict (r : Recipe) (changed : List Nat) (st : Nat) : Nat :=
  if st = stBOOT || (st = stDEFAULTS && r.delta) || !changed.all (fun t => mayChange t st) then 0x0D
  else if changed.contains 5 && st = stRUN && r.parm.any entryLocked then 0x13
  else 0

/-- The bound of prepare in ns (R75). -/
def prepareNs (r : Recipe) (changed : List Nat) : Nat :=
  let c := fun t => changed.contains t
  (if c 1 || c 2 || c 3 then 500000000 else 0) + (if c 4 then 400000000 else 0) +
    (if c 5 then 1000000 + 3000 * r.parm.length else 0) + (if c 6 then 20000000 else 0)

/-- The switch cycle of a coordinated commit accepted now (R81). -/
def State.switchCycle (s : State) (r : Recipe) (changed : List Nat) : Nat :=
  let p := (prepareNs r changed + s.armcyc - 1) / max 1 s.armcyc + 1
  s.controlAt ((s.cyc + max (s.rd F.RCP_TWINCFG_LEAD) p) % 2 ^ 32)

/-- The units that the Recipe in prepare uses are ungated (R564). -/
def prepareUngate (p : Prep) (s : State) : State :=
  let s := forAll (List.range 32) (fun q s => if p.lanes.any fun l => l / 4 = q then ungateRequest q s else s) s
  if p.img.twin then ungateRequest 36 s else s

/-- Prepare begins. -/
def commitBegin (r : Recipe) (k : Option Nat) (acked : Bool) (s : State) : State :=
  let p : Prep := { img := r, changed := s.changed r, src := s.rcp.origin, acked := acked, k := k, role := s.role
                    lanes := (laneRecs (s.newSec r 2)).map (·.lane) }
  let s := rcpBegin rcCOMMIT 0 2 s
  prepareUngate p { s with rcp := { s.rcp with prep := some p, proposal := none } }

/-- A COMMIT is judged (R74, R81): its result code, section and offset; none when it is accepted. -/
def State.commitVerdict (s : State) (keyOk : Bool) : Verdict :=
  let r := readRecipe s.staged
  if !s.flag F.RCP_STS_STAGE_OK then some (0x1B, 0, 0)
  else if !keyOk then some (0x1A, 0, 0)
  else if s.flag F.GLB_ROLE_TWIN && s.role = roSTANDBY then some (0x0D, 0, 0)
  else match stateVerdict r (s.changed r) s.eff with
    | 0 => repeatChecks s r
    | c => some (c, 0, 0)

/-- COMMIT: accepted, it starts prepare; coordinated, it is proposed to the partner (R74, R81). The result of a refusal. -/
def commitStart (acked : Bool) (s : State) : State :=
  let r := readRecipe s.staged
  if s.twinned then
    let k := s.switchCycle r (s.changed r)
    let crcs := s.crcsOf s.staged
    (commitBegin r (some k) acked s).carry 14 (leBytes 8 r.imageId ++ crcs.flatMap (leBytes 4) ++ leBytes 4 k)
  else commitBegin r none acked s

/-! ### The switch (R76 to R79) -/

/-- The record of a configured cell after a switch that changes TOPO: its planned state from its record, its promotion undone;
what concerns the cell at the position stays (R191, R197). -/
def switchCell (s : State) (c : TopoCell) : CellSt :=
  let old := (s.cell? c.gidx).getD { gidx := c.gidx }
  { old with
    gidx := c.gidx, arm := c.arm, local_ := c.loc, role := c.role, bmode := c.bmode, lane := c.lane, hop := c.hop
    state := if c.role = 1 then 6 else if c.bmode = 1 then 2 else 3
    promo := false, miss := 0, reobs := 0, fpc := false, fpNow := false, fpPrev := false, spareOut := false, failbyp := false
    forceOut := false, unranked := true }

/-- The TOPO section takes effect. -/
def applyTopo (d : List Byte) (s : State) : State :=
  let arms := topoArms d
  let s := { s with
    be := { s.be with
      cells := (topoCells d).map (switchCell s)
      ratings := arms.map fun a => (a.arm, a.vmin, a.vmax, a.imin, a.imax)
      cmds := [], before := [] } }
  let s := forAll arms (fun a s => s.wr (F.ARM_POPMIN_N a.arm) (legal 0x21118 0 [a.arm] a.popmin s)) s
  let s := forAll (List.range 12) (fun n s => s.setArm n fun a => { a with spexh := false, fpBefore := none }) s
  ledgerTopo (loadLive s)

/-- The default burst of a generation in symbols (R260). -/
def burstDefault (gen : Nat) : Nat := if gen = 1 then 8 else if gen = 2 then 16 else 32

/-- The LANE section takes effect: named lanes go to electrical idle with their divider set, the others are OFF (R258, R274). -/
def applyLane (d : List Byte) (s : State) : State :=
  let rs := laneRecs d
  forAll (List.range 128) (fun l s =>
    match rs.find? (·.lane == l) with
    | some r =>
      laneNamed l (s.wrs [(F.CL_CFG_USED l, 1), (F.CL_CFG_GEN l, r.gen), (F.CL_CFG_ARM l, r.arm), (F.CL_CFG_HOPS l, r.hops),
        (F.CL_CFG_RING l, r.ring), (F.CL_CFG_END l, r.end_),
        (F.CL_CFG_BURST l, if r.burst = 0 then burstDefault r.gen else r.burst),
        (F.CL_RINGSTS_MODE l, if r.ring = 0xFF then 0 else 1), (F.CL_RINGSTS_SPLIT l, 0x7F)])
    | none =>
      laneOff l (s.wrs [(F.CL_CFG_USED l, 0), (F.CL_CFG_GEN l, 0), (F.CL_CFG_ARM l, 0), (F.CL_CFG_HOPS l, 0), (F.CL_CFG_RING l, 0xFF),
        (F.CL_CFG_END l, 0), (F.CL_CFG_BURST l, 0), (F.CL_RINGSTS_MODE l, 0), (F.CL_RINGSTS_SPLIT l, 0x7F)])) s

/-- The ENGN section takes effect (R186, R187); `BE[e].RRTHR` takes a quarter of the share. -/
def applyEngn (d : List Byte) (s : State) : State :=
  let rs := engRecs d
  forAll (List.range 24) (fun e s =>
    match rs.find? (·.be == e) with
    | some r =>
      (s.putBit F.BE_USED_USED e true).wrs [(F.BE_CFG_ARM e, r.arm), (F.BE_CFG_FIRST e, r.first), (F.BE_CFG_COUNT e, r.count),
        (F.BE_RRTHR_X e, r.count / 4)]
    | none => (s.putBit F.BE_USED_USED e false).wrs [(F.BE_CFG_ARM e, 0), (F.BE_CFG_FIRST e, 0), (F.BE_CFG_COUNT e, 0),
        (F.BE_RRTHR_X e, 0)]) s

/-- The registers that a layer has set count as sampled for the present cycle (R76, R102). -/
def sampleEntries (es : List (Nat × Nat × Nat)) (s : State) : State :=
  forAll es (fun (e : Nat × Nat × Nat) s =>
    match findReg e.1 allRegs with
    | some (r, ix) =>
      let samp := r.fields.foldl (fun m f => let k := (f.at e.1 ix).key; m.set k (s.regs.get k)) s.samp
      { s with samp := samp }
    | none => s) s

/-- The PARM section takes effect (R78); the products of R133 follow a write of `CG.PAR` (R147). -/
def applyParm (es : List (Nat × Nat × Nat)) (s : State) : State :=
  let s := sampleEntries es (applyEntries es s)
  if es.any fun e => 0x50000 ≤ e.1 && e.1 < 0x80000 then productsUpdate s else s

/-- The SAFE section is handed over (R83, R86). -/
def applySafe (d : List Byte) (acked : Bool) (s : State) : State :=
  let crc := crc32c d
  let s := s.wr F.RCP_STS_ACK_FAIL 0
  if crc = s.rd F.RCP_SBUCRC_CRC && !s.sbu.sec.isEmpty then
    { s with sbu := { s.sbu with pend := none, ack := false } }.wr F.RCP_STS_SAFE_STATE 0
  else
    let s := sbuHandover d crc (s.wr F.RCP_STS_SAFE_STATE 1)
    { s with sbu := { s.sbu with ack := acked } }

/-- The gate bits of unused lane groups, and of the Relay without twin operation, are set (R564). -/
def switchGates (s : State) : State :=
  let s := forAll (List.range 32) (fun q s => if s.unitUsed q then s else gateRequest q s) s
  if s.unitUsed 36 then s else gateRequest 36 s

/-- A switch that changes TOPO or ENGN: σ is +1 (R200). One that changes TOPO, ENGN or PARM: the engines rank in full (R206). -/
def switchEngines (changed : List Nat) (s : State) : State :=
  let c := fun t => changed.contains t
  let s := if c 1 || c 3 then
      forAll (List.range 12) (fun n s => (s.wr (F.ARM_SIGMA_SIGMA n) 1).setArm n fun a => { a with sigNext := 1 }) s
    else s
  if c 1 || c 3 || c 5 then forAll (List.range 12) (fun n s => s.setArm n fun a => { a with fullNext := true }) s else s

/-- The state after the switch of changed sections (R22, R76, R79, R572). `was` is the state before, `head` says that ARMCYC or
PL changed. -/
def switchState (was : Nat) (changed : List Nat) (head : Bool) (s : State) : State :=
  let structural := changed.contains 1 || changed.contains 2 || changed.contains 3
  let step := s.rd F.GLB_STATE_STEP
  let ended := s.glb.relink || step = 0x24
  if was = stDEFAULTS then startUp (enterState stLOADED 0x20 s)
  else if !structural then s
  else if s.running then
    let relink := was = stLINKED || s.linking || ended
    let s := if was = stLINKED then enterState stLOADED 0x22 s else s
    if head then
      (if s.clk.plStep != 0 then { s with clk := { s.clk with restart := some relink } } else restart20 relink s)
    else if was = stTEST then s
    else if relink then linkStart s
    else s
  else if was = stLOADED && step = 0x20 then startUp s
  else s

/-- The switch, first part: the new section images with their CRCs, the header fields and the identity of the Recipe (R76, R77). -/
def switchTables (k : Nat) (p : Prep) (s : State) : State :=
  let r := p.img
  let secs := [1, 2, 3, 4, 5, 6].map fun t => (t, if p.changed.contains t then s.newSec r t else s.activeSec t)
  let s := { s with rcp := { s.rcp with secs := secs, prep := none } }
  let s := s.wrs [(F.SCH_CFG_ARMCYC, r.armcyc), (F.SCH_CFG_M, r.m), (F.SCH_CFG_PL, r.pl), (F.SCH_CFG_NARMS, r.narms),
    (F.GLB_ROLE_TWIN, b2n r.twin), (F.RCP_COMMIT_CYC_VALUE, k), (F.RCP_ACT_VER_VALUE, r.version), (F.RCP_STS_SRC, p.src)]
  let s := s.wr64 F.RCP_ACT_ID_LO_ID F.RCP_ACT_ID_HI_ID r.imageId
  forAll [1, 2, 3, 4, 5, 6] (fun t s => s.wr (secCrcFld t) (crc32c (s.activeSec t))) s

/-- The switch, second part: the changed sections take effect, LANE before TOPO and ENGN, then CTRL with its initialisation and
PARM (R77, R78, R126, R133, R187). -/
def switchSections (p : Prep) (s : State) : State :=
  let c := fun t => p.changed.contains t
  let s := if c 2 then applyLane (s.activeSec 2) s else s
  let s := if c 1 then applyTopo (s.activeSec 1) s else s
  let s := if c 3 then applyEngn (s.activeSec 3) s else s
  let s := if c 4 then graphLoad (s.activeSec 4) s else s
  let s := switchEngines p.changed s
  let s := if c 5 then applyParm (parmEntries (s.activeSec 5)) s else s
  let s := if c 4 then graphInit s else s
  if c 1 then graphFigures s else s

/-- The switch, third part: the cycle phase, the SAFE hand-over and the twin (R79, R81, R86, R503). -/
def switchTwin (cycle untwin : Bool) (p : Prep) (s : State) : State :=
  let c := fun t => p.changed.contains t
  let s := if cycle && s.lastNs < s.rd F.TB_CYCPH_NS then s.wr F.TB_CYCPH_NS 0 else s
  let s := if c 6 then applySafe (s.activeSec 6) p.acked s else s
  let s := { s with twn := { s.twn with rsGiven := 0, alone := false } }
  let s := unraise 376 s
  let s := if p.k.isSome && p.confirmed then
      { s with twn := { s.twn with pimage := p.img.imageId
                                   pcrcs := [1, 2, 3, 4, 5, 6].map fun t => crc32c (s.activeSec t) } }
    else s
  let s := if untwin then relayOff s else s
  if c 1 || c 3 then unsync s else s

/-- The switch of a prepared commit at cycle `k`, or with arm cycles stopped (`cyc` 0): R76 to R79, R81 to R86. -/
def switchNow (k : Nat) (p : Prep) (s : State) : State :=
  let r := p.img
  let was := s.st
  let head := r.armcyc != s.armcyc || r.pl != s.rd F.SCH_CFG_PL
  let cycle := r.armcyc != s.armcyc
  let untwin := s.flag F.GLB_ROLE_TWIN && !r.twin
  let s := switchTwin cycle untwin p (switchSections p (switchTables k p s))
  let s := acceptJudge (switchGates s)
  let s := switchState was p.changed head s
  let s := if r.twin && s.running && s.rd F.TWN_STS_LSTATE = 0 && s.st = stLOADED then relayStart s else s
  standbyJudge s

/-! ### The automatic load (R69, R70) -/

/-- A LOAD begins: the slot is read into the stage area. -/
def loadBegin (i : Nat) (s : State) : State := stageOk false (rcpBegin rcLOAD i 4 s)

/-- LOAD of a slot that is not VALID (R69): the stage area keeps its content. -/
def loadInvalid (s : State) : State := rcpEnd rcLOAD 0x1D 0 0 (s.event 2)

/-- The automatic load ends without a Recipe: FS38, the state stays DEFAULTS. -/
def autoGiveUp (s : State) : State := raise 38 (setStep 0x10 { s with rcp := { s.rcp with auto := none } })

/-- The slot under trial has failed: its source; the other slot, or the end (R69 steps 3 and 4). -/
def autoFail (s : State) : State :=
  match s.rcp.auto with
  | none => s
  | some (i, second) =>
    let s := raise (36 + i) s
    if second then autoGiveUp s
    else
      let o := 1 - i
      let s := { s with rcp := { s.rcp with auto := some (o, true) } }
      if (s.slot o).valid then loadBegin o s else autoGiveUp (raise (36 + o) (loadInvalid s))

/-- The first slot (R69). -/
def State.firstSlot (s : State) : Nat :=
  let first := s.rd F.RCP_BOOTSEL_FIRST
  let a := s.slot first
  let b := s.slot (1 - first)
  if s.flag F.RCP_BOOTSEL_MODE && b.valid && (!a.valid || a.version < b.version) then 1 - first else first

/-- DEFAULTS is entered with AUTO_LOAD = 1 (R29, R69). -/
def autoLoad (s : State) : State :=
  let i := s.firstSlot
  let s := setStep 0x11 { s with rcp := { s.rcp with auto := some (i, false) } }
  if (s.slot i).valid then loadBegin i s else autoFail (loadInvalid s)

/-- The slot of the automatic load carries an acknowledge record equal to the CRC of its SAFE section (R86). -/
def State.autoAcked (s : State) : Bool :=
  match s.rcp.auto with
  | some (i, _) =>
    (match (s.slot i).ack with
    | some c => (safeCrcOf s.staged == some c)
    | none => false)
  | none => false

/-- A LOAD or COMMIT has ended with `code`: the automatic load goes on. -/
def autoNext (cmd code : Nat) (s : State) : State :=
  match s.rcp.auto with
  | none => s
  | some (_, second) =>
    if code != 0 then autoFail s
    else if cmd = rcLOAD then
      (match s.commitVerdict true with
      | none => commitStart s.autoAcked s
      | some (c, t, o) => autoFail (rcpEnd rcCOMMIT c t o (s.event 2)))
    else
      let s := { s with rcp := { s.rcp with auto := none } }
      if second then s.wr F.RCP_STS_FALLBACK 1 else s

/-- A command ends and the automatic load goes on. -/
def rcpFinish (cmd code sec ofs : Nat) (s : State) : State := autoNext cmd code (rcpEnd cmd code sec ofs s)

/-! ### Commits in twin operation (R81, R82) -/

/-- A standby with a proposal starts its own prepare once its stage area holds the verified image (R81). -/
def proposalTry (s : State) : State :=
  match s.rcp.proposal with
  | none => s
  | some (id, crcs, k) =>
    let r := readRecipe s.staged
    if s.rcp.job.isNone && s.flag F.RCP_STS_STAGE_OK && r.imageId = id && s.crcsOf s.staged == crcs &&
        stateVerdict r (s.changed r) s.eff = 0 && (repeatChecks s r).isNone then
      commitBegin r (some k) false s
    else s

/-- COMMIT_PROPOSAL_RECEIVED. -/
def proposalReceived (id : Nat) (crcs : List Nat) (k : Nat) (s : State) : State :=
  if s.standbyWrite then proposalTry { s with rcp := { s.rcp with proposal := some (id, crcs, k) } } else s

/-- COMMIT_PROPOSAL_RECEIVED. -/
def execCommitProposalReceived (imageId : BitVec 64) (crcs : List Word) (k : Word) (s : State) : Res :=
  .next (proposalReceived imageId.toNat (crcs.map (·.toNat)) k.toNat s)

/-- The commit under way changes. -/
def setPrep (f : Prep → Prep) (s : State) : State := { s with rcp := { s.rcp with prep := s.rcp.prep.map f } }

/-- COMMIT_CONFIRM_RECEIVED: the active unit waits for the switch once its own prepare has ended. -/
def confirmReceived (s : State) : State :=
  match s.rcp.prep with
  | some p =>
    if p.k.isSome then
      let s := setPrep (fun p => { p with confirmed := true }) s
      if p.ready then s.wr F.RCP_STS_PHASE 3 else s
    else s
  | none => s

/-- COMMIT_CONFIRM_RECEIVED. -/
def execCommitConfirmReceived (s : State) : Res := .next (confirmReceived s)

/-- A coordinated commit ends with 0x17 on this unit (R82). -/
def commitUnready (s : State) : State :=
  rcpEnd rcCOMMIT 0x17 0 0 (raise 45 { s with rcp := { s.rcp with proposal := none } })

/-- Cycle `k` − 1 has come. -/
def State.deadlineDue (s : State) (k : Nat) : Bool := s.cycleDue (unsigned 32 ((k : Int) - 1))

/-- COMMIT_CONFIRM_DEADLINE: the start of cycle k − 1 without confirmation (R82). A standby that has not confirmed takes the same
decision. -/
def confirmDeadline (s : State) : State :=
  let both := s.flag F.RCP_TWINCFG_REQ_BOTH
  match s.rcp.prep, s.rcp.proposal with
  | some p, _ =>
    (match p.k with
    | some k =>
      if p.confirmed || !s.deadlineDue k then s
      else if both then commitUnready (s.carry 16 (leBytes 4 k))
      else if s.role = roSTANDBY then
        standbyJudge { (rcpEnd rcCOMMIT 0x17 0 0 s) with twn := { s.twn with alone := true } }
      else
        let s := setPrep (fun p => { p with alone := true }) s
        if p.ready then s.wr F.RCP_STS_PHASE 3 else s
    | none => s)
  | none, some (_, _, k) =>
    if !s.deadlineDue k then s
    else if both then commitUnready s
    else standbyJudge { s with rcp := { s.rcp with proposal := none }, twn := { s.twn with alone := true } }
  | none, none => s

/-- COMMIT_CONFIRM_DEADLINE. -/
def execCommitConfirmDeadline (s : State) : Res := .next (confirmDeadline s)

/-- The active unit has aborted the commit for cycle `k` (R82). -/
def commitAborted (k : Nat) (s : State) : State :=
  match s.rcp.prep, s.rcp.proposal with
  | some p, _ => if p.k = some k then commitUnready s else s
  | none, some (_, _, j) => if j = k then commitUnready s else s
  | none, none => s

/-! ### Prepare and switch -/

/-- The switch is due: with arm cycles stopped at once, else at the start of cycle k, or at the first control-period start
(R76, R82). The command comes between the cycle-start token and the cycle start. -/
def State.switchDue (s : State) (p : Prep) : Bool :=
  if !s.running then true
  else match p.k with
    | some k => s.cycleDue k && (p.confirmed || p.alone)
    | none => s.isControl ((s.cyc + 1) % 2 ^ 32)

/-- The value of `RCP.COMMIT_CYC`. -/
def State.commitCyc (s : State) (p : Prep) : Nat := if !s.running then 0 else p.k.getD ((s.cyc + 1) % 2 ^ 32)

/-- COMMIT_SWITCH: the state is judged once more (R77); the changed sections take effect together. -/
def commitSwitch (s : State) : State :=
  match s.rcp.prep with
  | none => s
  | some p =>
    if !p.ready || !s.switchDue p then s
    else if stateVerdict { p.img with flags := clearBit p.img.flags 0 } p.changed s.st != 0 then
      rcpFinish rcCOMMIT 0x16 0 0 (raise 39 s)
    else rcpFinish rcCOMMIT 0 0 0 (switchNow (s.commitCyc p) p s)

/-- COMMIT_SWITCH. -/
def execCommitSwitch (s : State) : Res := .next (commitSwitch s)

/-- COMMIT_PREPARE_END (R75, R76, R81). -/
def prepareEnd (s : State) : State :=
  match s.rcp.prep with
  | none => s
  | some p =>
    if p.ready then s
    else
      let s := setPrep (fun p => { p with ready := true }) s
      if !s.running then commitSwitch s
      else if p.k.isSome && p.role = roSTANDBY then
        let s := s.relay 0x20 (15 :: leBytes 8 p.img.imageId)
        setPrep (fun p => { p with confirmed := true }) (s.wr F.RCP_STS_PHASE 3)
      else s.wr F.RCP_STS_PHASE (if p.k.isSome && !p.confirmed && !p.alone then 5 else 3)

/-- COMMIT_PREPARE_END. -/
def execCommitPrepareEnd (s : State) : Res := .next (prepareEnd s)

/-- COMMIT (R74). -/
def rcpCommit (key : Nat) : State → State := rcpJudge rcCOMMIT fun s =>
  match s.commitVerdict (key = cmdKey) with
  | none => commitStart false s
  | some (c, t, o) => (rcpResult rcCOMMIT c t o s).event 2

/-- `RCP.CMD` is written with COMMIT. -/
def execRcpCommit (m : Master) (key : BitVec 16) (s : State) : Res := .next (gate m .p 0x10000 (rcpCommit key.toNat) s)

/-! ### VERIFY, LOAD, ABORT -/

/-- VERIFY. -/
def rcpVerify : State → State := rcpJudge rcVERIFY fun s => stageOk false (rcpBegin rcVERIFY 0 1 s)

/-- `RCP.CMD` is written with VERIFY. -/
def execRcpVerify (m : Master) (s : State) : Res := .next (gate m .p 0x10000 rcpVerify s)

/-- The checks end: STAGE_OK and the result (R72). -/
def verifyEnd (cmd limit : Nat) (s : State) : State :=
  match verifyImage s s.staged limit with
  | none => proposalTry (rcpFinish cmd 0 0 0 (stageOk true s))
  | some (c, t, o) => rcpFinish cmd c t o (stageOk false s)

/-- VERIFY_COMPLETE. -/
def execVerifyComplete (s : State) : Res :=
  .next (if s.rcpRuns rcVERIFY then verifyEnd rcVERIFY (s.rd F.RCP_STAGE_LEN_LEN) s else s)

/-- LOAD (R69). -/
def rcpLoad (arg : Nat) : State → State := rcpJudge rcLOAD fun s =>
  if 1 < arg then rcpRefuse rcLOAD 0x1D s else if (s.slot arg).valid then loadBegin arg s else loadInvalid s

/-- `RCP.CMD` is written with LOAD. -/
def execRcpLoad (m : Master) (arg : BitVec 4) (s : State) : Res := .next (gate m .p 0x10000 (rcpLoad arg.toNat) s)

/-- LOAD_COMPLETE: the slot is in the stage area and has been checked, or the read failed with code 0x15 (R69, R72). -/
def loadComplete (ok : Bool) (s : State) : State :=
  match s.rcp.job with
  | some (4, i) =>
    if !ok then rcpFinish rcLOAD 0x15 0 0 (raise 42 s)
    else
      let img := (s.slot i).image
      let s := { s with cellar := s.cellar.writeBytes stageBase img, rcp := { s.rcp with origin := i + 1 } }
      verifyEnd rcLOAD img.length s
  | _ => s

/-- LOAD_COMPLETE. -/
def execLoadComplete (ok : Bool) (s : State) : Res := .next (loadComplete ok s)

/-- ABORT (R80). A coordinated commit that the active unit aborts ends on its partner as well. -/
def rcpAbort (s : State) : State :=
  match s.rcp.job with
  | some (1, _) => rcpFinish rcVERIFY 0x16 0 0 (stageOk false s)
  | some (4, _) => rcpFinish rcLOAD 0x16 0 0 (stageOk false s)
  | some (2, _) =>
    let s := match s.rcp.prep with
      | some p => (match p.k with | some k => s.carry 16 (leBytes 4 k) | none => s)
      | none => s
    rcpFinish rcCOMMIT 0x16 0 0 s
  | _ => s

/-- `RCP.CMD` is written with ABORT. -/
def execRcpAbort (m : Master) (s : State) : Res := .next (gate m .p 0x10000 rcpAbort s)

/-- The stage area has been written (R66, R71, R75). -/
def stageTouched (s : State) : State :=
  let s := stageOk false { s with rcp := { s.rcp with origin := 3 } }
  match s.rcp.job with
  | some (1, _) => rcpFinish rcVERIFY 0x16 0 0 s
  | some (4, _) => rcpFinish rcLOAD 0x16 0 0 s
  | some (2, _) =>
    (match s.rcp.prep with
    | some p => if p.ready then s else rcpFinish rcCOMMIT 0x16 0 0 s
    | none => s)
  | _ => s

/-! ### Slots (R67, R68) -/

/-- STORE. -/
def rcpStore (arg key : Nat) : State → State := rcpJudge rcSTORE fun s =>
  if key != cmdKey then rcpRefuse rcSTORE 0x1A s
  else if 1 < arg then rcpRefuse rcSTORE 0x1D s
  else if !s.flag F.RCP_STS_STAGE_OK then rcpRefuse rcSTORE 0x1B s
  else
    let raw := s.staged
    rcpBegin rcSTORE arg 4 (s.setSlot arg fun _ => { image := raw.take (imageLen raw) })

/-- `RCP.CMD` is written with STORE. -/
def execRcpStore (m : Master) (arg : BitVec 4) (key : BitVec 16) (s : State) : Res :=
  .next (gate m .p 0x10000 (rcpStore arg.toNat key.toNat) s)

/-- STORE_COMPLETE: programmed and read back; a difference from the stage area is a failure (R67, R86). -/
def storeComplete (ok : Bool) (s : State) : State :=
  match s.rcp.job with
  | some (3, i) =>
    let img := (s.slot i).image
    if ok && s.stage img.length == img then
      let r := readRecipe img
      let crc := safeCrcOf img
      let ack := if crc = some (s.rd F.RCP_SBUCRC_CRC) && !s.sbu.sec.isEmpty then crc else none
      rcpEnd rcSTORE 0 0 0 (s.setSlot i fun x => { x with valid := true, version := r.version, imageId := r.imageId, ack := ack })
    else rcpEnd rcSTORE 0x15 0 0 (raise 41 s)
  | _ => s

/-- STORE_COMPLETE. -/
def execStoreComplete (ok : Bool) (s : State) : Res := .next (storeComplete ok s)

/-- SLOT_ERASE. -/
def rcpErase (arg key : Nat) : State → State := rcpJudge rcERASE fun s =>
  if key != cmdKey then rcpRefuse rcERASE 0x1A s
  else if 1 < arg then rcpRefuse rcERASE 0x1D s
  else rcpBegin rcERASE arg 4 (s.setSlot arg fun x => { x with valid := false })

/-- `RCP.CMD` is written with SLOT_ERASE. -/
def execSlotErase (m : Master) (arg : BitVec 4) (key : BitVec 16) (s : State) : Res :=
  .next (gate m .p 0x10000 (rcpErase arg.toNat key.toNat) s)

/-- SLOT_ERASE_COMPLETE. -/
def eraseComplete (ok : Bool) (s : State) : State :=
  match s.rcp.job with
  | some (7, i) =>
    if ok then rcpEnd rcERASE 0 0 0 (s.setSlot i fun _ => {}) else rcpEnd rcERASE 0x15 0 0 (raise 41 s)
  | _ => s

/-- SLOT_ERASE_COMPLETE. -/
def execSlotEraseComplete (ok : Bool) (s : State) : Res := .next (eraseComplete ok s)

/-! ### Keys and the rollback floor (R63, R65) -/

/-- Key operations are refused in ARMED, RUN and BLOCKED (R63). -/
def State.keysLocked (s : State) : Bool := s.eff = stARMED || s.eff = stRUN || s.eff = stBLOCKED

/-- Key slot `i` changes. -/
def State.setKey (s : State) (i : Nat) (k : KeySlot) : State := { s with rcp := { s.rcp with keys := setAt i k s.rcp.keys } }

/-- The point in `RCP.KEYBUF`. -/
def State.keyBuf (s : State) : List Byte := (List.range 16).flatMap fun w => leBytes 4 (s.rd (F.RCP_KEYBUF_DATA w))

/-- KEY_WRITE. -/
def rcpKeyWrite (arg key : Nat) : State → State := rcpJudge 0xA fun s =>
  if key != cmdKey then rcpRefuse 0xA 0x1A s
  else if s.keysLocked then rcpRefuse 0xA 0x0D s
  else match s.rcp.keys[arg]? with
    | some k =>
      if k.state = 0 && onCurve (keyPoint s.keyBuf) then rcpDone 0xA (s.setKey arg ⟨1, some s.keyBuf⟩) else rcpRefuse 0xA 0x19 s
    | none => rcpRefuse 0xA 0x19 s

/-- `RCP.CMD` is written with KEY_WRITE. -/
def execKeyWrite (m : Master) (arg : BitVec 4) (key : BitVec 16) (s : State) : Res :=
  .next (gate m .p 0x10000 (rcpKeyWrite arg.toNat key.toNat) s)

/-- KEY_REVOKE. -/
def rcpKeyRevoke (arg key : Nat) : State → State := rcpJudge 0xB fun s =>
  if key != cmdKey then rcpRefuse 0xB 0x1A s
  else if s.keysLocked then rcpRefuse 0xB 0x0D s
  else match s.rcp.keys[arg]? with
    | some k =>
      if k.state = 1 && 2 ≤ (s.rcp.keys.filter (·.state == 1)).length then rcpDone 0xB (s.setKey arg { k with state := 2 })
      else rcpRefuse 0xB 0x19 s
    | none => rcpRefuse 0xB 0x19 s

/-- `RCP.CMD` is written with KEY_REVOKE. -/
def execKeyRevoke (m : Master) (arg : BitVec 4) (key : BitVec 16) (s : State) : Res :=
  .next (gate m .p 0x10000 (rcpKeyRevoke arg.toNat key.toNat) s)

/-- MINVER_SET. -/
def rcpMinverSet (key : Nat) : State → State := rcpJudge 0xC fun s =>
  let v := s.rd F.RCP_ACT_VER_VALUE
  if key != cmdKey then rcpRefuse 0xC 0x1A s
  else if v < s.rcp.minver then rcpRefuse 0xC 0x0A s
  else rcpDone 0xC { s with rcp := { s.rcp with minver := v } }

/-- `RCP.CMD` is written with MINVER_SET. -/
def execMinverSet (m : Master) (key : BitVec 16) (s : State) : Res := .next (gate m .p 0x10000 (rcpMinverSet key.toNat) s)

/-! ### The SAFE acknowledge (R84 to R86) -/

/-- The pending configuration is discarded (R85). -/
def safeExpire (s : State) : State :=
  raise 40 ({ s with sbu := { s.sbu with pend := none, ack := false } }.wr F.RCP_STS_SAFE_STATE 2)

/-- A SAFE section is pending and not acknowledged. -/
def State.safePending (s : State) : Bool := s.rd F.RCP_STS_SAFE_STATE = 1 && !s.sbu.ack

/-- SAFE_ACK. -/
def rcpSafeAck : State → State := rcpJudge 6 fun s =>
  let crc := s.rd (secCrcFld 6)
  if !s.safePending then rcpRefuse 6 0x1E s
  else if s.rd F.RCP_SAFEACK_CODE != 0xFFFFFFFF - crc then
    let n := s.rd F.RCP_STS_ACK_FAIL + 1
    let s := rcpRefuse 6 0x18 (s.wr F.RCP_STS_ACK_FAIL (min 3 n))
    if 3 ≤ n then safeExpire s else s
  else
    let s := { s with
      sbu := { s.sbu with ack := true }
      rcp := { s.rcp with slots := s.rcp.slots.map fun x =>
        if x.valid && safeCrcOf x.image == some crc then { x with ack := some crc } else x } }
    rcpDone 6 s

/-- `RCP.CMD` is written with SAFE_ACK. -/
def execSafeAck (m : Master) (s : State) : Res := .next (gate m .p 0x10000 rcpSafeAck s)

/-- SAFE_ACK_EXPIRY: `RCP.SAFETMO.S` has passed. -/
def execSafeAckExpiry (s : State) : Res := .next (if s.safePending then safeExpire s else s)

/-! ### The house layer (R89, R90) -/

/-- A bit of the house layer's MASK must lie in a house-marked field. -/
def houseEntryOk (e : Nat × Nat × Nat) : Bool := entryOk (fun f => f.house && f.settable) e

/-- A copy checks (R89). -/
def HouseCopy.ok (c : HouseCopy) : Bool :=
  c.sound && c.entries.length ≤ 4096 && c.entries.all houseEntryOk &&
    (c.entries.zip (c.entries.drop 1)).all fun p => p.1.1 < p.2.1

/-- Copy `i`. -/
def State.house (s : State) (i : Nat) : HouseCopy := s.rcp.houses.getD i {}

/-- The entries in the house area: `RCP.HOUSE_LEN.N` of them. -/
def State.houseArea (s : State) : List (Nat × Nat × Nat) :=
  (List.range (s.rd F.RCP_HOUSE_LEN_N)).map fun i =>
    let b := s.cellar.readBytes (houseBase + 12 * i) 12
    (leAt b 0 4, leAt b 4 4, leAt b 8 4)

/-- The first entry that HOUSE_STORE refuses: 0x0E out of order or malformed, 0x1C a bit outside the house-marked fields. -/
def houseVerdict (es : List (Nat × Nat × Nat)) : Verdict :=
  (List.range es.length).findSome? fun i =>
    match es[i]? with
    | some e =>
      if 4096 ≤ i || !(es.take i).all (fun p => p.1 < e.1) then some (0x0E, 0, 12 * i)
      else if !houseEntryOk (e.1, e.2.1, e.2.2 &&& e.2.1) then some (0x1C, 0, 12 * i)
      else if e.2.2 &&& e.2.1 != e.2.2 then some (0x0E, 0, 12 * i)
      else none
    | none => none

/-- HOUSE_READ. -/
def rcpHouseRead : State → State := rcpJudge 8 fun s =>
  let es := if s.flag F.RCP_HOUSE_NONE then [] else (s.house (s.rd F.RCP_HOUSE_USED)).entries
  let bs := es.flatMap fun e => leBytes 4 e.1 ++ leBytes 4 e.2.1 ++ leBytes 4 e.2.2
  rcpDone 8 ({ s with cellar := s.cellar.writeBytes houseBase bs }.wr F.RCP_HOUSE_LEN_N es.length)

/-- `RCP.CMD` is written with HOUSE_READ. -/
def execHouseRead (m : Master) (s : State) : Res := .next (gate m .p 0x10000 rcpHouseRead s)

/-- The copy that HOUSE_STORE writes: the one not applied. -/
def State.houseTarget (s : State) : Nat := 1 - s.rd F.RCP_HOUSE_USED

/-- HOUSE_STORE: the old content of the copy is gone from its start. -/
def rcpHouseStore (key : Nat) : State → State := rcpJudge rcHSTORE fun s =>
  if key != cmdKey then rcpRefuse rcHSTORE 0x1A s
  else match houseVerdict s.houseArea with
    | some (c, t, o) => (rcpResult rcHSTORE c t o s).event 2
    | none =>
      let es := s.houseArea
      let t := s.houseTarget
      let s := { s with rcp := { s.rcp with houses := modifyAt (fun c => { c with sound := false }) t s.rcp.houses, houseNew := es } }
      rcpBegin rcHSTORE t 4 s

/-- `RCP.CMD` is written with HOUSE_STORE. -/
def execHouseStore (m : Master) (key : BitVec 16) (s : State) : Res := .next (gate m .p 0x10000 (rcpHouseStore key.toNat) s)

/-- HOUSE_STORE_COMPLETE: the copy holds the entries with a sequence number one higher. -/
def houseStoreComplete (ok : Bool) (s : State) : State :=
  match s.rcp.job with
  | some (9, t) =>
    if ok then
      let seq := if s.flag F.RCP_HOUSE_NONE then 0 else (s.house (1 - t)).seq
      let c : HouseCopy := ⟨true, (seq + 1) % 2 ^ 32, s.rcp.houseNew⟩
      rcpEnd rcHSTORE 0 0 0 { s with rcp := { s.rcp with houses := setAt t c s.rcp.houses } }
    else rcpEnd rcHSTORE 0x15 0 0 s
  | _ => s

/-- HOUSE_STORE_COMPLETE. -/
def execHouseStoreComplete (ok : Bool) (s : State) : Res := .next (houseStoreComplete ok s)

/-! ### `RCP.CMD` -/

/-- `RCP.CMD` is written with any word. -/
def rcpCommand (w : Nat) : State → State :=
  let arg := field w 8 4
  let key := field w 16 16
  match w % 256 with
  | 1 => rcpVerify
  | 2 => rcpCommit key
  | 3 => rcpStore arg key
  | 4 => rcpLoad arg
  | 5 => rcpAbort
  | 6 => rcpSafeAck
  | 7 => rcpErase arg key
  | 8 => rcpHouseRead
  | 9 => rcpHouseStore key
  | 10 => rcpKeyWrite arg key
  | 11 => rcpKeyRevoke arg key
  | 12 => rcpMinverSet key
  | c => rcpJudge c (rcpRefuse c 0x0D)

end Sys2Proof.Machine
end

