-- ==== Sys2Proof/Machine/BusCore.lean ====
section
/-! DEFINITION. A whole-word access at the arbiter (R8) to a register of the control units: the unmapped record of R579, the
views of R578, the gates of R565, the fields by their codes, and the actions that command bits start. The registers of
RCP, TB, WB, SBU, FC, HST and the CELL array follow in `Bus.lean`; no Waybill WRITE reaches them (R369). -/

namespace Sys2Proof.Machine

/-! ### Commands that no other file holds -/

/-- `SCH.CTL.SLKCLR`. -/
def slkclr (s : State) : State := forAll (List.range 12) (fun n s => s.wr (F.ARM_SLACKMIN_NS n) 0x7FFFFFFF) s

/-- SLKCLR. -/
def execSlkclr (m : Master) (s : State) : Res := .next (gate m .u 0x20020 slkclr s)

/-- `SCH.CTL.CNTCLR`. -/
def schCntclr (s : State) : State :=
  forAll (List.range 12) (fun n s => s.wrs [(F.ARM_LATECNT_LATE n, 0), (F.ARM_LATECNT_STALE n, 0)]) s

/-- SCH_CNTCLR. -/
def execSchCntclr (m : Master) (s : State) : Res := .next (gate m .u 0x20020 schCntclr s)

/-- The registers of R254 by number: EDGE, DEADT, MINPULSE of arm `n`. -/
def insLimitAddr (n which : Nat) : Nat := 0x21000 + 0x400 * n + ([0x180, 0x18C, 0x190] : List Nat).getD which 0x180

/-- A write to a register of R254; a new dead time goes to the cells (R315). -/
def insLimitWrite (m : Master) (n addr w : Nat) (s : State) : State :=
  settleReg addr s (carriedWrite m (F.ARM_INSSTS_STBY_WR n) addr w s)

/-- INS_LIMIT_WRITE. -/
def execInsLimitWrite (m : Master) (n : Fin 12) (which : Fin 3) (value : Word) (s : State) : Res :=
  .next (gate m .p (insLimitAddr n which) (insLimitWrite m n (insLimitAddr n which) value.toNat) s)

/-! ### The actions of command bits -/

/-- The action that a 1 in bit `i` of the written word starts. -/
def onBit (w i : Nat) (f : State → State) (s : State) : State := if w.testBit i then f s else s

/-- The actions of the array registers. -/
def arrayCommand (addr w : Nat) (s : State) : State :=
  match arrayIx 0x180004 0x100 128 addr with
  | some l => onBit w 3 (clCntclr l) (onBit w 2 (giclr l) (onBit w 1 (laneRetrain l) s))
  | none =>
    match arrayIx 0x140104 0x40 12 addr with
    | some n => onBit w 0 (fpCommit n) s
    | none => s

/-- The actions that the word `w` written at `addr` starts, by ascending bit. -/
def unitCommand (m : Master) (addr w : Nat) (s : State) : State :=
  match addr with
  | 0xC => glbCommand w s
  | 0x14 => onBit w 0 opblk s
  | 0x44 => onBit w 3 (fun s => s.wr F.GLB_UNMAPINFO_COUNT 0) s
  | 0x20020 => onBit w 2 reverify (onBit w 1 schCntclr (onBit w 0 slkclr s))
  | 0x40000 => onBit w 1 (greset m) (onBit w 0 pcommit s)
  | 0x40040 => onBit w 1 (fun s => s.wr F.CG_RUNTMAX_NS 0) s
  | 0x80000 =>
    let s := onBit w 1 wcommit (onBit w 0 ocommit s)
    if field w 8 4 = 0 then s else preset m (field w 8 4) s
  | 0x100000 => onBit w 1 beCntclr (onBit w 0 rerank s)
  | 0x100008 => cellCommand (field w 13 3) (field w 0 13) (field w 16 16) s
  | 0x140004 => onBit w 0 insCntclr s
  | 0x189008 => onBit w 2 pqFlush (onBit w 1 pqPop (onBit w 0 (pqSubmit (pqSource m)) s))
  | 0x280000 =>
    onBit w 3 extractStart (onBit w 2 ledgerRelease (onBit w 1 (ledgerFire 0) (onBit w 0 ckptDue s)))
  | 0x340000 => onBit w 1 ptpReset (onBit w 0 netCntclr s)
  | 0x380000 =>
    let s := onBit w 1 (fun s => if s.calLocked then s.wr F.LMU_STS_CALREF 1 else calStart false s) (onBit w 0 scommit s)
    onBit w 5 lmuCntclr (onBit w 4 (swTrigger 1) (onBit w 3 (swTrigger 0) s))
  | 0x3C0000 => onBit w 2 twnCntclr (onBit w 1 relayRetrain s)
  | 0x3C0004 => twnCommand w s
  | 0x3E0010 => softReset (field w 0 8) (field w 16 16) s
  | 0x3E0050 => plRequest (field w 0 2) (field w 16 16) s
  | _ => arrayCommand addr w s

/-! ### The fields -/

/-- The arm and offset of an `ARM[n]` register. -/
def armReg (addr : Nat) : Nat × Nat := ((addr - 0x21000) / 0x400, (addr - 0x21000) % 0x400)

/-- The bit of `written` for a shadow of FP(n) at offset `o` (R249): CFG, PER, DUTY, CMP[j]. -/
def fpShadowBit (o : Nat) : Option Nat :=
  if o = 0 then some 0 else if o = 0xC then some 1 else if o = 0x10 then some 2
  else if 0x14 ≤ o && o ≤ 0x20 then some (3 + (o - 0x14) / 4) else none

/-- The fields of register `r` at `addr` take the word `w`, with what follows from their new values. -/
def fieldEffect (m : Master) (r : RegSpec) (ix : List Nat) (addr w : Nat) (s : State) : State :=
  let plain := fun s => settleReg addr s (writeFields m false r ix addr w s)
  if 0x21000 ≤ addr && addr < 0x24000 then
    let (n, o) := armReg addr
    if ([0x100, 0x104, 0x108, 0x10C, 0x110, 0x114, 0x11C] : List Nat).contains o then
      carriedWrite m (F.ARM_SELSTS_STBY_WR n) addr w s
    else if ([0x180, 0x18C, 0x190] : List Nat).contains o then insLimitWrite m n addr w s
    else plain s
  else if 0x42000 ≤ addr && addr < 0x42100 then hinWrite ((addr - 0x42000) / 4) w s
  else if 0x50000 ≤ addr && addr < 0x80000 then
    if s.standbyWrite then s.wr F.CG_PSTS_STBY_WR 1
    else if s.cg.g.npar ≤ ix.headD 0 then s
    else plain s
  else if 0x140100 ≤ addr && addr < 0x140400 then
    let n := (addr - 0x140100) / 0x40
    let s := plain s
    match fpShadowBit ((addr - 0x140100) % 0x40) with
    | some b => s.setArm n fun a => { a with written := setBit a.written b }
    | none => s
  else match addr with
    | 0x380000 => if mayWrite m .p then refenWrite (w.testBit 2) s else s
    | 0x3E0030 => gateWrite 0 w s
    | 0x3E0034 => gateWrite 1 w s
    | 0x2000C | 0x20010 | 0x40024 => acceptWrite m addr w s
    | _ => plain s

/-! ### The access -/

/-- An access to an address that names no register is recorded (R579). -/
def unmapped (m : Master) (addr : Nat) (write : Bool) (s : State) : State :=
  (s.wrs [(F.GLB_UNMAP_ADDR, addr), (F.GLB_UNMAPINFO_MASTER, m.bank), (F.GLB_UNMAPINFO_WRITE, b2n write),
    (F.GLB_UNMAPINFO_SEEN, 1)]).inc F.GLB_UNMAPINFO_COUNT

/-- What the arbiter finds of an access: out of reach, no register, a gated unit, a violation of kind 0 view, 1 partition or
2 RO (R533), a register with its indices. -/
inductive Reached
  | nothing
  | unmapped
  | gated (u : Nat)
  | barred (kind : Nat)
  | reg (r : RegSpec) (ix : List Nat)

/-- A whole-word write to a register of the map, but for the freeze of its master: out of reach (R28, R540); no register
(R579) or RO (R532); a gated unit (R565); the views (R578). -/
def State.writeVerdict (s : State) (m : Master) (addr w : Nat) : Reached :=
  if !s.reach m addr then .nothing
  else
    let ro := s.writeBars m .u
    match findReg addr allRegs with
    | none => if ro then .barred 2 else .unmapped
    | some (r, ix) =>
      match s.gatedAt addr with
      | some u => .gated u
      | none => if viewBars m r w then .barred 0 else if ro then .barred 2 else .reg r ix

/-- A write with the effect `k` on its register. -/
def writeLive (m : Master) (addr w : Nat) (k : RegSpec → List Nat → State → State) (s : State) : State :=
  match s.writeVerdict m addr w with
  | .nothing => s
  | .unmapped => unmapped m addr true s
  | .gated u => gateAccess u s
  | .barred kind => violation m addr kind true s
  | .reg r ix => k r ix s

/-- A write at the arbiter: dropped for a frozen master (R533). -/
def writeAccess (m : Master) (addr w : Nat) (k : RegSpec → List Nat → State → State) (s : State) : State :=
  if s.frozen m.owner then s else writeLive m addr w k s

/-- The effect of a write to a register of the control units. -/
def coreEffect (m : Master) (addr w : Nat) (r : RegSpec) (ix : List Nat) (s : State) : State :=
  unitCommand m addr w (fieldEffect m r ix addr w s)

/-- A whole-word write to a register of the control units. -/
def coreWrite (m : Master) (addr w : Nat) (s : State) : State := writeAccess m addr w (coreEffect m addr w) s

/-- UNMAP_SEEN_CLEAR: a write of 1 to `GLB.UNMAPINFO.SEEN` (R581). -/
def execUnmapSeenClear (m : Master) (s : State) : Res := .next (coreWrite m 0x44 8 s)

/-- The word that a masked write gives register `r` (R372): fields in the mask take the value, fields outside keep their
present value where they are rw or rwl, their shadow where they are rwc, and receive 0 otherwise. -/
def maskedWord (r : RegSpec) (ix : List Nat) (addr mask v : Nat) (s : State) : Nat :=
  r.fields.foldl (fun w f =>
    let fld := f.at addr ix
    let old := match f.acc with
      | .rw | .rwl => s.rd fld
      | .rwc => s.rdShadow fld
      | _ => 0
    let k := field mask f.lo f.w
    w + ((old - (old &&& k)) ||| (field v f.lo f.w &&& k)) * 2 ^ f.lo) 0

/-- The write of a Waybill WRITE entry by the master that pushed it (R372, R580). -/
def maskedWrite (m : Master) (addr mask v : Nat) (s : State) : State :=
  match findReg addr allRegs with
  | none => coreWrite m addr v s
  | some (r, ix) => coreWrite m addr (maskedWord r ix addr mask v s) s

end Sys2Proof.Machine
end

