-- ==== Sys2Proof/Machine/Waybill.lean ====
section
/-! DEFINITION. The Waybill queue at work (R367 to R379): the push and its checks, the late rule, the classes, windows and
pulses, and the jumps of TB.NOW that make entries late: STEP, SET, the PPS servo, the PTP servo. -/

namespace Sys2Proof.Machine

/-! ### Running an entry (R368, R371, R372) -/

/-- OUT: the pin takes the level; its return is noted (R368). `at_` is the edge in TB.RAW ns. -/
def runOut (e : WbEntry) (at_ : Nat) (s : State) : State :=
  let p := field (e.w 3) 0 2
  let level := bit (e.w 3) 4
  let back := if e.w 4 = 0 then [] else [(p, !level, at_ + e.w 4)]
  let tout := if level then setBit s.wb.tout p else clearBit s.wb.tout p
  { s with wb := { s.wb with tout := tout, returns := s.wb.returns ++ back } }.emit (.pin p level)

/-- WRITE: one masked access of the master that pushed the entry (R372). -/
def runWrite (e : WbEntry) (s : State) : State :=
  if s.frozen e.master.owner then raise 282 ((s.wr F.WB_STS_FRZDROP 1).inc F.WB_CNT2_FRZDROP)
  else maskedWrite e.master (e.w 3) (e.w 4) (e.w 5) s

/-- WINDOW: WBWIN(j) is held open to instant + duration (R373). -/
def runWindow (e : WbEntry) (age : Int) (s : State) : State :=
  let end_ := if e.base = 2 then (s.rawNs : Int) - age + e.w 4 else e.time + e.w 4
  wbWindows { s with wb := { s.wb with wins := s.wb.wins ++ [⟨field (e.w 3) 0 3, e.tag, e.base == 0, end_⟩] } }

/-- The action of an entry that starts now, by class; `late` entries count from now (R368). -/
def wbAction (e : WbEntry) (late : Bool) (s : State) : State :=
  let age := if late then 0 else s.wbAge e
  match e.cls with
  | 1 => runOut e ((s.rawNs : Int) - age).toNat s
  | 2 => runWrite e s
  | 3 => s.emit (.trigger 1 (field (e.w 3) 0 3) 0)
  | 4 => ledgerFire 8 s
  | 5 => fbRequest (e.w 4) (e.w 3) (s.nowInt - age) true (late || s.takenLate (e.w 3) (s.nowInt - age)) s
  | 6 => runWindow e age s
  | 7 => s.event 5
  | _ => s

/-- An entry starts: its completion record, the largest delay, its action (R371, R377). -/
def wbRun (e : WbEntry) (late : Bool) (s : State) : State :=
  let delay := min 65535 (s.wbAge e).toNat
  let s := s.wr F.WB_MAXLAT_N (max (s.rd F.WB_MAXLAT_N) delay)
  wbAction e late (wbComplete e late false s)

/-- A late entry follows its policy: it runs at once, or is dropped; a WINDOW is dropped whatever LP says (R370). A RELAY entry
that this unit may not run is discarded (R378). -/
def wbLate (e : WbEntry) (s : State) : State :=
  if !s.relayRuns e then s.inc F.WB_CNT2_SHSKIP
  else if e.drop || e.cls = 6 then
    wbComplete e true true (raise 278 ((s.wr F.WB_STS_LATE_DROP 1).inc F.WB_CNT0_LATEDROP))
  else wbRun e true (raise 278 ((s.wr F.WB_STS_LATE 1).inc F.WB_CNT0_LATE))

/-- The position of the due entry with the earliest instant, the first pushed among equals (R371). -/
def earliest (age : WbEntry → Int) (p : WbEntry → Bool) (l : List WbEntry) : Option Nat :=
  let go := l.zipIdx.foldl (fun (b : Option (Nat × Int)) x =>
    if !p x.1 then b
    else match b with
      | none => some (x.2, age x.1)
      | some (i, a) => if a < age x.1 then some (x.2, age x.1) else some (i, a)) none
  go.map (·.1)

/-- WB_ENTRY_START: the next due entry starts. -/
def entryStart (s : State) : State :=
  match earliest s.wbAge (fun e => s.wbDue e && s.relayRuns e) s.wb.ents with
  | some i => wbRun (s.wb.ents.getD i {}) false (wbRemove i s)
  | none => s

/-- WB_ENTRY_START. -/
def execWbEntryStart (s : State) : Res := .next (entryStart s)

/-- WB_RELAY_SKIP: the next due RELAY entry that this unit may not run is discarded (R378). -/
def relaySkip (s : State) : State :=
  match earliest s.wbAge (fun e => s.wbDue e && !s.relayRuns e) s.wb.ents with
  | some i => (wbRemove i s).inc F.WB_CNT2_SHSKIP
  | none => s

/-- WB_RELAY_SKIP. -/
def execWbRelaySkip (s : State) : Res := .next (relaySkip s)

/-- WB_OUT_RETURN at TOUT[p]: a pulse whose width has passed ends (R368). -/
def outReturn (p : Nat) (s : State) : State :=
  let due := fun (r : Nat × Bool × Nat) => r.1 == p && decide (r.2.2 ≤ s.rawNs)
  match s.wb.returns.find? due with
  | some (_, level, _) =>
    let tout := if level then setBit s.wb.tout p else clearBit s.wb.tout p
    let rest := s.wb.returns.eraseIdx (s.wb.returns.findIdx due)
    { s with wb := { s.wb with tout := tout, returns := rest } }.emit (.pin p level)
  | none => s

/-- WB_OUT_RETURN. -/
def execWbOutReturn (p : Fin 4) (s : State) : Res := .next (outReturn p s)

/-- WB_WINDOW_CLOSE of window `j`: the window entries that have reached their end close (R373). -/
def wbWindowClose (j : Nat) (s : State) : State :=
  let ended := fun (w : WbWin) => w.j == j && decide (w.end_ ≤ if w.net then s.nowInt else s.rawNs)
  wbWindows { s with wb := { s.wb with wins := s.wb.wins.filter fun w => !ended w } }

/-- WB_WINDOW_CLOSE. -/
def execWbWindowClose (j : Fin 8) (s : State) : Res := .next (wbWindowClose j s)

/-! ### The push (R369, R370) -/

/-- A WRITE may name this address (R369): the blocks and the CELL array are excluded. -/
def writeAddrOk (a : Nat) : Bool :=
  a % 4 = 0 && a < 0x1000000 && !(0x10000 ≤ a && a < 0x20000) && !(0x200000 ≤ a && a < 0x280000)
    && !(0x300000 ≤ a && a < 0x340000) && !(0x3A0000 ≤ a && a < 0x3C0000) && !(0x3D0000 ≤ a && a < 0x3E0000)

/-- CLASS and BASE are defined, and the reserved bits are 0 (R367, R369). -/
def WbEntry.formOk (e : WbEntry) : Bool :=
  1 ≤ e.cls && e.cls ≤ 7 && e.base != 3 && field (e.w 2) 9 7 = 0 && e.w 7 = 0
    && (e.base != 1 || e.w 1 < 2 ^ 16) && (e.base != 2 || e.w 0 < 2 ^ 20)

/-- The entry is late against the programming margin of 250 ns (R370). -/
def State.pushLate (s : State) (e : WbEntry) : Bool :=
  if e.base = 0 then decide (e.time < s.nowInt + 250)
  else if e.base = 1 then decide (e.time < (s.rawNs : Int) + 250)
  else
    let d := cycDiff (e.w 1) s.cyc
    decide (d < 0) ||
      decide (signed 64 (s.rd64 F.TB_CYCST_LO_T F.TB_CYCST_HI_T) + d * s.armcyc + e.w 0 < s.nowInt + 250)

/-- The result of a push in the order of R369. -/
def State.pushResult (s : State) (e : WbEntry) : Nat :=
  if !e.formOk then 4
  else if e.cls = 2 && !writeAddrOk (e.w 3) then 5
  else if e.base = 2 && !(s.running && e.w 0 < s.armcyc) then 6
  else if (e.cls = 6 && (e.w 4 = 0 || 8 ≤ e.w 3)) || (e.cls = 1 && 1000000000 < e.w 4) then 7
  else if 4096 ≤ s.wb.ents.length then 3
  else if s.pushLate e then (if e.drop || e.cls = 6 then 2 else 1)
  else 0

/-- The staging words of a master (R367). -/
def State.wbStaged (s : State) (m : Master) : List Nat := (List.range 8).map fun i => s.rd ((F.WB_E_WORD i).inBank m.bank)

/-- A push by master `m`: judged, reported in its `WB.PSTS`, then queued, run late, dropped or refused. A queued RELAY entry goes
to the partner (R378). -/
def push (m : Master) (s : State) : State :=
  let e : WbEntry := ⟨s.wbStaged m, m, false⟩
  let res := s.pushResult e
  let seq := F.WB_PSTS_SEQ.inBank m.bank
  let s := (s.wr (F.WB_PSTS_RESULT.inBank m.bank) res).wr seq (s.rd seq + 1)
  match res with
  | 0 =>
    let s := wbAdd e s
    if e.relay && s.flag F.GLB_ROLE_TWIN then s.carry 17 (leBytes 1 m.owner ++ e.words.flatMap (leBytes 4)) else s
  | 1 | 2 => wbLate e s
  | 3 => wbFull s
  | _ => s

/-- `WB.CMD.PUSH` is written. -/
def execPush (m : Master) (s : State) : Res := .next (gate m .p 0x301020 (push m) s)

/-- A CANCEL with this tag and mask, carried to the partner of a declared twin (R375, R378). -/
def cancelBy (tag mask : Nat) (s : State) : State :=
  let s := wbCancel tag mask s
  if s.flag F.GLB_ROLE_TWIN then s.carry 18 (leBytes 2 tag ++ leBytes 2 mask) else s

/-- CANCEL with `WB.CANSEL`. -/
def wbCancelled (s : State) : State := cancelBy (s.rd F.WB_CANSEL_TAG) (s.rd F.WB_CANSEL_MASK) s

/-- `WB.CMD.CANCEL` is written. -/
def execWbCancel (m : Master) (s : State) : Res := .next (gate m .p 0x301020 wbCancelled s)

/-- `WB.CMD.FLUSH` is written: a CANCEL with MASK 0. -/
def execWbFlush (m : Master) (s : State) : Res := .next (gate m .p 0x301020 (cancelBy 0 0) s)

/-- DONEPOP: the oldest completion record goes (R377). -/
def donePop (s : State) : State := wbSync { s with wb := { s.wb with done := s.wb.done.drop 1 } }

/-- `WB.CMD.DONEPOP` is written. -/
def execDonepop (m : Master) (s : State) : Res := .next (gate m .p 0x301020 donePop s)

/-- A shadow entry arrives from the partner (R378): a full queue counts it and loses it. -/
def shadowAdd (e : WbEntry) (s : State) : State :=
  if 4096 ≤ s.wb.ents.length then wbFull s else wbAdd { e with shadow := true } s

/-! ### Jumps of time and of cycles (R374) -/

/-- The entries `l` leave the queue as late, in queue order. -/
def makeLate (l : List WbEntry) (s : State) : State := forAll l wbLate s

/-- TB.NOW has jumped from what it was in `old`: NET entries that it passed over are late; windows follow the new time. -/
def jumped (old s : State) : State :=
  let hit := fun (e : WbEntry) => e.base == 0 && !old.wbDue e && decide (0 < s.wbAge e)
  let late := s.wb.ents.filter hit
  let s := { s with wb := { s.wb with ents := s.wb.ents.filter fun e => !hit e } }
  if late.isEmpty then s else makeLate late (wbSync s)

/-- A STEP with its consequences. -/
def jump (adj : Int) (s : State) : State := jumped s (stepTime adj s)

/-- The numbers of the cycles from the present one up to `c` are passed over: CYC entries there are late (R374). -/
def passOver (c : Nat) (s : State) : State :=
  let hit := fun (e : WbEntry) => e.base == 2 && decide (cycDiff (e.w 1) c < 0)
  let late := s.wb.ents.filter hit
  let s := { s with wb := { s.wb with ents := s.wb.ents.filter fun e => !hit e } }
  if late.isEmpty then s else makeLate late (wbSync s)

/-- STEP by ADJ (R357). -/
def hostStep : State → State := hostAdjust fun s => jump s.adj s

/-- SET to ADJ (R357). -/
def hostSet : State → State := hostAdjust fun s => jumped s (setTime s.adj s)

/-- `TB.CTL.STEP` is written. -/
def execStep (m : Master) (s : State) : Res := .next (gate m .p 0x300000 hostStep s)

/-- `TB.CTL.SET` is written. -/
def execSet (m : Master) (s : State) : Res := .next (gate m .p 0x300000 hostSet s)

/-- PPS_IN_EDGE (R359, R360). -/
def execPpsInEdge (s : State) : Res := .next (ppsInEdge jump s)

/-- PTP_SYNC_RECEIVED: age of the timestamp in quarter ns, domain, source port identity, log interval, two-step flag, sequence,
originTimestamp, correctionField (R389). -/
def execPtpSyncReceived (p : Fin 4) (age : Word) (domain : Byte) (src : BitVec 80) (log : Byte) (two : Bool)
    (seq : BitVec 16) (t1 : BitVec 80) (corr : BitVec 64) (s : State) : Res :=
  .next (ptpSync jump p age.toNat domain.toNat src.toNat log.toInt two seq.toNat (ptpTime t1) corr.toInt s)

/-- PTP_FOLLOW_UP_RECEIVED. -/
def execPtpFollowUpReceived (p : Fin 4) (domain : Byte) (src : BitVec 80) (log : Byte) (seq : BitVec 16) (t1 : BitVec 80)
    (corr : BitVec 64) (s : State) : Res :=
  .next (ptpFollowUp jump p domain.toNat src.toNat log.toInt seq.toNat (ptpTime t1) corr.toInt s)

end Sys2Proof.Machine
end

