-- ==== Sys2Proof/Machine/Carried.lean ====
section
/-! DEFINITION. What a twin carries over the Relay link in MSG packets (R490): an item received, its apply point (R148, R172,
R199, R219, R231, R254, R335, R378), and the refresh after a missed item (R491). -/

namespace Sys2Proof.Machine

/-- The apply point of a carried item had passed before it came: MISSED and FS387 (R498). -/
def missItem (s : State) : State := missedJudge (raise 387 { s with twn := { s.twn with missed := true } })

/-- An item with apply cycle `k`: missed when that is past, else taken by `f`. Items after a refresh apply no earlier than its
cycle `clamp` (R491). -/
def atCycle (clamp : Option Nat) (k : Nat) (f : Nat → State → State) (s : State) : State :=
  match clamp with
  | some a => f (if cycDiff k a < 0 then a else k) s
  | none => if cycDiff k s.cyc ≤ 0 then missItem s else f k s

/-- The captured values of a carried commit: one word for each field. -/
def takeCapt (fs : List Fld) (b : List Byte) (s : State) : State :=
  let capt := fs.zipIdx.foldl (fun (c : Sparse) x => c.set x.1.key ((leAt b (4 * x.2) 4 % 2 ^ x.1.w) ^^^ x.1.reset)) s.capt
  { s with capt := capt }

/-- DLV of the partner's arm `n`, sent in cycle `c` (R231). -/
def dlvReceived (n c own : Nat) (s : State) : State :=
  let k := (c + s.plead) % 2 ^ 32
  let at_ := match (s.arm n).dlvtAt with
    | some (j, _) => if cycDiff k j < 0 then j else k
    | none => k
  s.setArm n fun a => { a with dlvPartner := own, dlvtAt := some (at_, max own (s.rd (F.ARM_DLV_CRT n))) }

/-- The partner's table of LIFE (R335). -/
def lifeReceived (b : List Byte) (s : State) : State :=
  let t := (List.range (b.length / 4)).map fun i => (leAt b (4 * i) 2, leAt b (4 * i + 2) 2)
  let whole := s.be.cells.all fun c => t.any (·.1 == c.gidx)
  { s with tly := { s.tly with lifeTable := t, lifeWhole := whole } }

/-- A Waybill entry as carried: its master, its words. -/
def wbOf (b : List Byte) : WbEntry :=
  ⟨(List.range 8).map fun i => leAt b (1 + 4 * i) 4, if leAt b 0 1 = 2 then .ost else .pf0, true⟩

/-- A shadow entry that finds the queue full makes the partner NOT_READY (R379). -/
def entryReceived (b : List Byte) (s : State) : State :=
  let t := shadowAdd (wbOf b) s
  if 4096 ≤ s.wb.ents.length then missedJudge { t with twn := { t.twn with missed := true } } else t

/-- A carried register write (R219, R254): the register reads it, its computations take it from its apply cycle. -/
def writeReceived (k addr w : Nat) (s : State) : State :=
  (settleReg addr s (regWrite .pf0 addr w s)).addItem k 9 [addr, w]

/-- A MSG item by kind. The items with a row of their own (Ledger trigger, proposal and confirm of a commit, BLOCK, SHUTDOWN)
are judged there. -/
def itemTake (clamp : Option Nat) (b : List Byte) (s : State) : State :=
  let d := b.drop 1
  let k := leAt d 0 4
  match leAt b 0 1 with
  | 1 => s.wr (F.CG_HIN_VAL (leAt d 0 1 % 64)) (leAt d 1 4)
  | 2 => atCycle clamp k (fun k s =>
      (takeCapt s.parFields (d.drop 4) s).wrs [(F.CG_PSTS_PENDING, 1), (F.CG_CTL_PCOMMIT, 1), (F.CG_PAPPLY_CYC, k)]) s
  | 3 => atCycle clamp k (fun k s => { s with cg := { s.cg with gresetAt := some k } }.wr F.CG_CTL_GRESET 1) s
  | 4 => atCycle clamp k (fun k s =>
      (takeCapt ((List.range 4).flatMap ordFields) (d.drop 4) s).wrs [(F.REF_STS_OPENDING, 1), (F.REF_OAPPLY_CYC, k)]) s
  | 5 => atCycle clamp k (fun k s =>
      (takeCapt waveFields (d.drop 4) s).wrs [(F.REF_STS_WPENDING, 1), (F.REF_WAPPLY_CYC, k)]) s
  | 6 => atCycle clamp k (fun k s => s.addItem k 6 [leAt d 4 1]) s
  | 8 => atCycle clamp k (fun k s =>
      let cmds := s.be.cmds ++ [CellCmd.mk (leAt d 4 2) (leAt d 6 1) k]
      { s with be := { s.be with cmds := cmds } }.wr F.BE_CMDSTS_PEND cmds.length) s
  | 9 => atCycle clamp k (fun k s => writeReceived k (leAt d 4 4) (leAt d 8 4) s) s
  | 10 => lifeReceived d s
  | 11 => atCycle clamp (leAt d 1 4) (fun k s =>
      let n := leAt d 0 1
      ((takeCapt (fpShared n) (d.drop 5) s).wr (F.INS_FP_STS_PENDING n) 1).setArm n fun a => { a with fpAt := some k }) s
  | 12 => dlvReceived (leAt d 0 1) (leAt d 1 4) (leAt d 5 4) s
  | 16 => commitAborted k s
  | 17 => entryReceived d s
  | 18 => wbCancel (leAt d 0 2) (leAt d 2 2) s
  | 23 => resyncNamed (leAt d 0 1) s
  | 24 => { s with twn := { s.twn with resync := some (leAt d 0 1, leAt d 1 4) } }
  | 25 =>
    let a := s.controlAt (s.cyc + s.plead)
    { s with twn := { s.twn with refresh := some (k, a), refData := d.drop 4, refItems := [] } }
  | _ => s

/-- CARRIED_ITEM_RECEIVED: a MSG packet. A wrong CRC loses it. While a refresh waits for its cycle, items are kept for step 4 of
R491 too. -/
def itemReceived (ok : Bool) (b : List Byte) (s : State) : State :=
  if !ok then crcError s
  else
    let s := if s.twn.refresh.isSome && s.role = roSTANDBY then { s with twn := { s.twn with refItems := s.twn.refItems ++ [b] } } else s
    itemTake none b s

/-- CARRIED_ITEM_RECEIVED. -/
def execCarriedItemReceived (ok : Bool) (bytes : List Byte) (s : State) : Res := .next (itemReceived ok bytes s)

/-- The sampled fields of the register at `addr` take the word `w` (R102, R219). -/
def sampleWord (addr w : Nat) (s : State) : State :=
  match findReg addr allRegs with
  | none => s
  | some (r, ix) =>
    let samp := r.fields.foldl (fun (m : Sparse) f =>
      let fld := f.at addr ix
      m.set fld.key ((legal r.base f.lo ix (field w f.lo f.w) s % 2 ^ f.w) ^^^ fld.reset)) s.samp
    { s with samp := samp }

/-- A waiting item takes effect: PRESET at the next cycle-start token, a register write in the computations. -/
def itemApply (i : Item) (s : State) : State :=
  if i.kind = 6 then { s with ref := { s.ref with preset := s.ref.preset ||| i.vals.headD 0 } }
  else if i.kind = 9 then sampleWord (i.vals.headD 0) (i.vals.getD 1 0) s
  else s

/-- CARRIED_ITEM_APPLY: the waiting items whose cycle has come take effect. -/
def itemsApply (s : State) : State :=
  let due := s.twn.items.filter fun i => s.cycleDue i.at_
  forAll due itemApply { s with twn := { s.twn with items := s.twn.items.filter fun i => !s.cycleDue i.at_ } }

/-- CARRIED_ITEM_APPLY. -/
def execCarriedItemApply (s : State) : Res := .next (itemsApply s)

/-! ### Refresh (R491) -/

/-- The fields of the register at an address. -/
def regFields (addr : Nat) : List Fld :=
  match findReg addr allRegs with
  | some (r, ix) => r.fields.map fun f => f.at addr ix
  | none => []

/-- Every field that the carried items reach. -/
def State.carriedFields (s : State) : List Fld :=
  (List.range 64).map F.CG_HIN_VAL ++ s.parFields ++ (List.range 4).flatMap ordFields ++ waveFields ++
    (List.range 12).flatMap fun n =>
      (List.range 7).flatMap (fun i => regFields (limitAddr n i)) ++ (List.range 3).flatMap (fun i => regFields (insLimitAddr n i))
        ++ fpShared n

/-- The pending RELAY entries. -/
def State.relayEntries (s : State) : List WbEntry := s.wb.ents.filter (·.relay)

/-- The bytes of a refresh: the first cycle, each field's value and shadow, the RELAY entries, LIFE. -/
def State.refreshBytes (s : State) : List Byte :=
  leBytes 4 s.cyc ++ (s.carriedFields.flatMap fun f => leBytes 4 (s.rd f) ++ leBytes 4 (s.rdShadow f)) ++
    leBytes 2 s.relayEntries.length ++ (s.relayEntries.flatMap fun e => leBytes 1 e.master.owner ++ e.words.flatMap (leBytes 4)) ++
    s.be.cells.flatMap fun c => leBytes 2 c.gidx ++ leBytes 2 c.life

/-- REFRESH_START: the active unit of a twin whose partner is NOT_READY sends the refresh. -/
def refreshStart (s : State) : State :=
  if s.twinned && s.role = roACTIVE && s.relayUp && s.flag F.TWN_STS_PNR then s.carry 25 s.refreshBytes else s

/-- REFRESH_START. -/
def execRefreshStart (s : State) : Res := .next (refreshStart s)

/-- The values, shadows, shadow entries and LIFE of a refresh take the place of the standby's own (step 3). -/
def refreshTake (d : List Byte) (s : State) : State :=
  let fs := s.carriedFields
  let old := s
  let s := fs.zipIdx.foldl (fun s x => (s.wr x.1 (leAt d (8 * x.2) 4)).wrShadow x.1 (leAt d (8 * x.2 + 4) 4)) s
  let s := forAll s.arms (fun n s => if s.rd (F.ARM_DEADT_NS n) != old.rd (F.ARM_DEADT_NS n) then deadtSend n s else s) s
  let o := 8 * fs.length
  let n := leAt d o 2
  let ents := (List.range n).map fun i => wbOf (slice d (o + 2 + 33 * i) 33)
  let life := d.drop (o + 2 + 33 * n)
  let table := (List.range (life.length / 4)).map fun i => (leAt life (4 * i) 2, leAt life (4 * i + 2) 2)
  let s := wbSync { s with wb := { s.wb with ents := (s.wb.ents.filter fun e => !e.shadow) ++ ents } }
  s.mapCells (fun _ => true) fun c => { c with life := ((table.find? (·.1 == c.gidx)).map (·.2)).getD c.life }

/-- REFRESH_APPLY: the start of cycle a on the standby (steps 3 and 4). -/
def refreshApply (s : State) : State :=
  match s.twn.refresh with
  | some (_, a) =>
    if s.role != roSTANDBY || !s.cycleDue a then s
    else
      let items := s.twn.refItems
      let s := refreshTake s.twn.refData s
      let t := { s.twn with refresh := none, refData := [], refItems := [], items := [], missed := false }
      let s := { s with twn := t, tly := { s.tly with lifeMiss := false } }
      forAll items (itemTake (some a)) (missedJudge (unraise 387 s))
  | none => s

/-- REFRESH_APPLY. -/
def execRefreshApply (s : State) : Res := .next (refreshApply s)

end Sys2Proof.Machine
end

