-- ==== Sys2Proof/Machine/Cycle.lean ====
section
/-! DEFINITION. The arm cycle itself: the cycle-start token (R102, R362), the cycle start (R92, R93), the freeze (R94) with the
deadline of every arm and the bookkeeping of its selection (R113 to R116, R216, R217, R225, R239, R256). -/

namespace Sys2Proof.Machine

/-! ### CYCLE_START_TOKEN -/

/-- The number that the coming cycle takes: the first of R364, a number adopted from the partner (R489), a renumbering (R365), or
the next. -/
def State.nextCyc (s : State) : Nat :=
  match s.sch.first with
  | some f => f
  | none =>
    if s.twn.adopt then s.partnerCyc
    else match s.tb.renum with
      | some n => n
      | none => (s.cyc + 1) % 2 ^ 32

/-- The register values that the fabric samples for cycle `c` (R102): carried writes count from their apply cycle (R219, R254). -/
def sampleAll (c : Nat) (s : State) : State :=
  let keep := s.samp
  let s := { s with samp := s.regs }
  forAll s.twn.items (fun (i : Item) s =>
    if i.kind != 9 then s
    else if cycDiff i.at_ c ≤ 0 then sampleWord (i.vals.headD 0) (i.vals.getD 1 0) s
    else
      let samp := (regFields (i.vals.headD 0)).foldl (fun (m : Sparse) f =>
        let due := s.twn.items.any fun j => j.kind == 9 && j.vals.headD 0 == i.vals.headD 0 && cycDiff j.at_ c ≤ 0
        if due then m else m.set f.key (keep.get f.key)) s.samp
      { s with samp := samp }) s

/-- The token at CRT −200: registers are sampled, the ramps move on (R163), the replicas fire (R103); `now` is the worst of them in
permille of its limit, `idx` its number. -/
def token (now idx : Nat) (s : State) : State :=
  if !s.running then s
  else
    let c := s.nextCyc
    replicas now idx (rampsUpdate c (sampleAll c s))

/-- CYCLE_START_TOKEN. -/
def execCycleStartToken (now : BitVec 16) (idx : BitVec 6) (s : State) : Res := .next (token now.toNat idx.toNat s)

/-! ### CYCLE_START -/

/-- SCH.CYC takes its number; a first, adopted or renumbered cycle anchors the control periods (R93, R364, R365, R489). -/
def numberCycle (s : State) : State :=
  let c := s.nextCyc
  match s.sch.first with
  | some _ => { s with sch := { s.sch with first := none } }.wrs [(F.SCH_CYC_CYC, c), (F.SCH_CPBASE_CYC, c)]
  | none =>
    if s.twn.adopt then
      let s := { s with twn := { s.twn with adopt := false }, tb := { s.tb with renum := none } }
      passOver c (raise 276 (s.wrs [(F.SCH_CYC_CYC, c), (F.SCH_CPBASE_CYC, s.twn.pcpbase)]))
    else match s.tb.renum with
      | some _ =>
        let s := { s with tb := { s.tb with renum := none } }
        passOver c (raise 276 (s.wrs [(F.SCH_CYC_CYC, c), (F.SCH_CPBASE_CYC, c)]))
      | none => s.wr F.SCH_CYC_CYC c

/-- What the engines keep of a cell from one cycle to the next. -/
def cycleCell (c : CellSt) : CellSt :=
  { c with presentPrev := c.present, present := false, vprev := c.vcap, crcBad := false }

/-- An arm at a cycle start. -/
def cycleArm (a : ArmSt) : ArmSt :=
  { a with chain := 0, missing := false, cut := false, ranked := false, sel := none, done := none, engErr := false, rsHold := false }

/-- A cycle without an echo of another master clears OBEY_OTHER (R303). -/
def obeyStart (s : State) : State :=
  let s := if s.twn.obSeen then s else obeyJudge (s.wr F.GLB_ROLE_OBEY_OTHER 0)
  { s with twn := { s.twn with obSeen := false } }

/-- The control-period part of a cycle start: the reference buffers swap, the image closes, the monitor runs (R121, R123, R176). -/
def controlStart (s : State) : State := if s.isControl s.cyc then graphClose (refbSwap s) else s

/-- CYCLE_START at CRT 0. -/
def cycleStart (s : State) : State :=
  if !s.running then s
  else
    let s := clearInCycle cycleSources (rehWatch s)
    let s := numberCycle s
    let s := { s with tb := { s.tb with cycRaw := s.tb.raw }, sch := { s.sch with frozen := false } }
    let s := s.wr64 F.TB_CYCST_LO_T F.TB_CYCST_HI_T s.now
    let s := cycleAlign s
    let s := s.mapCells (fun _ => true) cycleCell
    let s := { s with be := { s.be with arms := s.be.arms.map cycleArm } }
    let s := launchFrames s
    let s := twinStart (roleStart (stateStart (obeyStart s)))
    if !s.running then s
    else
      let s := forAll s.arms (fun n s => e0Start n s.cyc (sigmaStart n s)) s
      let s := controlStart (phaseStart (rampsStart s.now s))
      let s := ledgerCycle (lmuCycle (s.isControl s.cyc) s)
      let s := if s.clk.plStep = 1 then plGo s else s
      hbSend s

/-- CYCLE_START. -/
def execCycleStart (s : State) : Res := .next (cycleStart s)

/-! ### ARM_FREEZE: the deadline (R113, R115) -/

/-- MISSRUN has reached 3 (R115). -/
def missrunLimit (n : Nat) (s : State) : State := if s.rd (F.ARM_STS_MISSRUN n) = 3 then raise (224 + 2 * n) s else s

/-- MISSRUN_LIMIT. -/
def execMissrunLimit (n : Fin 12) (s : State) : Res := .next (missrunLimit n s)

/-- Arm `n` has missed its deadline: its timing stage has not completed below `ARM[n].DL` (R113). An arm held for a resync is
not judged (R503). -/
def State.armLate (s : State) (n : Nat) : Bool :=
  !(s.arm n).rsHold && (match (s.arm n).done with | some t => s.rd (F.ARM_DL_CRT n) ≤ t | none => true)

/-- The flags and counts of the deadline (R113, R115, R117). -/
def deadline (n : Nat) (s : State) : State :=
  if s.armLate n then
    let m := s.rd (F.ARM_STS_MISSRUN n)
    let s := s.wrs [(F.ARM_STS_LATE n, 1), (F.ARM_STS_LASTLATE n, 1), (F.ARM_STS_MISSRUN n, min 3 (m + 1))]
    let s := (s.inc (F.ARM_LATECNT_LATE n)).putBit F.SCH_LATEARMS_ARMS n true
    let s := s.setArm n fun a => { a with lateOpen := a.done.isNone }
    if m = 2 then missrunLimit n s else s
  else if (s.arm n).rsHold then s
  else
    unraise (224 + 2 * n) ((s.wrs [(F.ARM_STS_LASTLATE n, 0), (F.ARM_STS_MISSRUN n, 0)]).putBit F.SCH_LATEARMS_ARMS n false)

/-! ### The bookkeeping of a cell (R189 to R191, R216, R217, R239, R331) -/

/-- The marks of a cell move on: its state at the marker of the coming cycle, records and pulses of the frames. -/
def shiftMarks (c : CellSt) : CellSt :=
  { c with atPrev := c.atMark, atMark := c.state, recordedPrev := c.recorded, recorded := false, fpPrev := c.fpNow, fpNow := false }

/-- The cell makes `k` transitions that `CD_SW` counts; DWC starts again. -/
def CellSt.moves (c : CellSt) (k : Nat) : CellSt :=
  { c with wcnt := min 65535 (c.wcnt + k), dwc := 0, live := { c.live with sw := (c.live.sw + k) % 2 ^ 64 } }

/-- DWC goes on. -/
def CellSt.dwells (c : CellSt) : CellSt := { c with dwc := min 255 (c.dwc + 1) }

/-- The planned state changes without a record: one transition of SWTOT (R331). -/
def CellSt.plan (c : CellSt) (n : Nat) : CellSt :=
  if c.state = n then c else { c with state := n, live := { c.live with sw := (c.live.sw + 1) % 2 ^ 64 } }

/-- A cell that receives its block mode (R44, R191, R239). A cell BLOCKED for its ratings stays so. No selection is applied,
so DWC and `CD_SW` stay (R216, notes/assumptions/89). -/
def blockCell (c : CellSt) : CellSt :=
  let fill : Slot := if c.state = csFAILED then {} else { cmd := if c.bmode = 1 then 2 else 3 }
  let d := if c.state = 1 || c.state = 2 || (c.state = 3 && !c.rating) then c.plan c.blockState else c
  { d with fill := fill }

/-- A cell of a held arm (R217): the repeated fractional-PWM cell `fp` pulses again. -/
def heldCell (fp : Option Nat) (pulse : Option Pulse) (c : CellSt) : CellSt :=
  let slot : Slot := match pulse with
    | some p => if p.local_ = c.local_ then p.slot else {}
    | none => {}
  let d := if fp = some c.local_ then { (c.moves 2) with fpNow := true } else c.dwells
  { d with fill := slot }

/-- The state that an applied list gives a cell, none when no command names it. -/
def Sel.stateOf (q : Sel) (c : CellSt) : Option Nat :=
  if q.forced.any fun r => r.1 == c.local_ then some (if c.spareOut || c.state = csSPARE then csSPARE else 2)
  else if q.ins.contains c.local_ then some 1
  else if q.byp.contains c.local_ then some 2
  else if q.release && q.order.contains c.local_ then some (if (q.order.take q.nr).contains c.local_ then 1 else 2)
  else none

/-- A cell of an arm whose selection is applied (R213, R216). -/
def appliedCell (q : Sel) (c : CellSt) : CellSt :=
  let forced := q.forced.any fun r => r.1 == c.local_
  let c := if forced then { c with forceOut := false, failbyp := false } else c
  if q.fp = some c.local_ then { (({ c with state := 2 } : CellSt).moves 2) with fpNow := true, recorded := q.release }
  else match q.stateOf c with
    | some n => { (({ c with state := n } : CellSt).moves 1) with recorded := true, spareOut := c.spareOut && !forced }
    | none =>
      let c := if q.blockall && (c.state = 1 || c.state = 2) then c.plan 3 else c
      if c.inO then c.dwells else c

/-! ### The bookkeeping of an arm -/

/-- The fractional-PWM cell that `ARM[n].FPCELL` names. -/
def State.fpCell (s : State) (n : Nat) : Option Nat :=
  if s.flag (F.ARM_FPCELL_VALID n) then some (s.rd (F.ARM_FPCELL_LOCAL n)) else none

/-- `ARM[n].FPCELL` takes the cell of an applied selection (R211). -/
def fpShow (n : Nat) (fp : Option Nat) (s : State) : State :=
  match fp with
  | none => s.wrs [(F.ARM_FPCELL_VALID n, 0), (F.ARM_FPCELL_LOCAL n, 0), (F.ARM_FPCELL_KEPT n, 0)]
  | some l =>
    let kept := if s.fpCell n = some l then min 65535 (s.rd (F.ARM_FPCELL_KEPT n) + 1) else 0
    s.wrs [(F.ARM_FPCELL_VALID n, 1), (F.ARM_FPCELL_LOCAL n, l), (F.ARM_FPCELL_KEPT n, kept)]

/-- The selection of arm `n` is applied to the engines' records (R216). -/
def applySel (n : Nat) (q : Sel) (s : State) : State :=
  let s := s.mapCells (·.arm == n) fun c => appliedCell q (shiftMarks c)
  let s := fpShow n q.fp (s.wrs [(F.ARM_SELSTS_NCHG n, q.n), (F.ARM_SELSTS_NFORCED n, q.forced.length)])
  s.setArm n fun a =>
    { a with release := a.release && !q.release, blockStill := q.blockall, lastNchg := q.n, lastShort := q.nshort, lastLate := false }

/-- Every cell of arm `n` receives its block mode (R44, R239). After K28.3 it holds that at the coming marker already (R308). -/
def blockArm (n : Nat) (late : Bool) (s : State) : State :=
  let sent := s.glb.blkArms.testBit n
  let s := s.mapCells (·.arm == n) fun c =>
    let d := blockCell (shiftMarks c)
    if sent then { d with atMark := d.state } else d
  let s := fpShow n none (s.wrs [(F.ARM_SELSTS_NCHG n, 0), (F.ARM_SELSTS_NFORCED n, 0), (F.ARM_SELSTS_BLOCKALL n, 0)])
  s.setArm n fun a =>
    { a with sel := some {}, pulseFill := none, blockStill := false, lastNchg := 0, lastShort := false, lastLate := late }

/-- The commands that keep every cell of arm `n` as it is, its pulse repeated (R113, R217, R256). -/
def holdArm (n : Nat) (late : Bool) (s : State) : State :=
  let rise := s.rd (F.ARM_E0_E0 n) - (s.arm n).e0Sent
  let fp := s.fpCell n
  let pulse := ((s.arm n).pulse.filter fun p => fp = some p.local_).map fun p => { p with lead := p.lead + rise }
  let s := s.mapCells (·.arm == n) fun c => heldCell fp pulse (shiftMarks c)
  let short := ((s.arm n).sel.getD {}).nshort
  s.setArm n fun a => { a with sel := none, pulseFill := pulse, lastNchg := 0, lastShort := short, lastLate := late }

/-- The freeze of arm `n` (R113, R216, R217, R225, R239, R503). -/
def freezeArm (n : Nat) (s : State) : State :=
  let fp := s.fpCell n
  let late := s.armLate n
  let s := (deadline n (countArm n s)).setArm n fun a => { a with fpBefore := fp }
  let s := rsFreeze n s
  let a := s.arm n
  let s :=
    if s.eff != stRUN || s.glb.blkArms.testBit n then blockArm n late s
    else if late || a.engErr || a.rsHold then holdArm n late s
    else applySel n (a.sel.getD {}) s
  let s := if a.engErr then s.setArm n fun a => { a with fullNext := true } else s
  s.setArm n fun a => { a with e0Sent := s.rd (F.ARM_E0_E0 n) }

/-- ARM_FREEZE at CRT ARMCYC − 400: the buffers of the next frame are locked. -/
def armFreeze (s : State) : State :=
  if !s.running || s.sch.frozen || s.sch.first.isSome then s
  else
    let s := { s with be := { s.be with before := s.be.cells } }
    let s := rehFreeze s
    let s := forAll s.arms freezeArm s
    let s := snapFreeze (snapSend (ledgerWrite s))
    let lock := s.cl.lock.getD (s.sendEpoch, s.sendDrv)
    { s with cl := { s.cl with lock := some lock }, sch := { s.sch with frozen := true } }

/-- ARM_FREEZE. -/
def execArmFreeze (s : State) : Res := .next (armFreeze s)

end Sys2Proof.Machine
end

