-- ==== Sys2Proof/Machine/Reads.lean ====
section
/-! DEFINITION. What a register reads (R3 to R5, R15): the words that the unit computes at the read, the _HI latches, the
views of R578, the cell words of the CELL array, and the Cellar with its partitions and rights (R325, R326, R530, R531). -/

namespace Sys2Proof.Machine

/-! ### The words computed at the read -/

/-- A word from fields given as (lowest bit, width, value). -/
def packWord (l : List (Nat × Nat × Nat)) : Nat := l.foldl (fun a f => a + f.2.2 % 2 ^ f.2.1 * 2 ^ f.1) 0

/-- The words of `CELL[i]` by their offset; a position that no Recipe configures reads its reset values (R576). -/
def cellWord (c : CellSt) (conf : Bool) (i ofs : Nat) : Nat :=
  match ofs with
  | 0x00 => packWord [(0, 4, c.arm), (4, 2, c.role), (6, 1, c.bmode), (7, 1, b2n conf), (8, 7, c.lane), (16, 6, c.hop),
      (22, 10, c.local_)]
  | 0x04 => packWord [(0, 4, c.state), (4, 1, b2n c.xcl), (5, 1, b2n c.rating), (6, 1, b2n c.promo), (7, 1, b2n c.fpc),
      (8, 1, b2n c.dwell), (9, 1, b2n c.trlim), (10, 1, b2n c.mism), (11, 1, b2n c.fltrep), (12, 4, min 15 c.miss),
      (16, 8, min 255 c.dwc), (24, 8, min 255 c.mismc)]
  | 0x08 => packWord [(0, 16, c.vcap), (16, 8, c.temp), (24, 8, c.stat)]
  | 0x0C => packWord [(0, 10, c.rank), (10, 1, b2n c.unranked), (16, 16, c.score)]
  | 0x10 => c.id % 2 ^ 32
  | 0x14 => c.id / 2 ^ 32 % 2 ^ 32
  | 0x18 => packWord [(0, 16, min 65535 c.wcnt)]
  | 0x1C => packWord [(0, 4, c.lastCmd), (4, 4, c.lastSeq), (8, 20, c.lastCrt)]
  | 0x20 => packWord [(0, 10, c.life), (16, 10, c.lifeNext), (26, 2, c.dom)]
  | 0x24 => packWord [(0, 16, c.capEst), (16, 16, min 65535 c.wins)]
  | 0x28 => packWord [(0, 13, i), (13, 3, c.origin), (16, 1, b2n c.restored), (17, 1, b2n c.lwarn)]
  | _ => 0

/-- The word of a `CELL` register at `addr`. -/
def State.cellReg (s : State) (addr : Nat) : Nat :=
  let i := (addr - 0x200000) / 0x40
  match s.cell? i with
  | some c => cellWord c true i ((addr - 0x200000) % 0x40)
  | none => cellWord {} false i ((addr - 0x200000) % 0x40)

/-- HCOMP, HRT and HREP of lane `l` for the hop that HSEL names (R277 to R282). -/
def State.hopReg (s : State) (l ofs : Nat) : Nat :=
  let h := (s.ln l).hops.getD (s.rd (F.CL_HSEL_HOP l)) {}
  let time : Option Nat → Nat := fun t => match t with
    | some t => t % 2 ^ 20
    | none => 2 ^ 31
  if ofs = 0x3C then time h.comp else if ofs = 0x40 then time h.rt else packWord [(0, 16, h.tlb), (16, 8, h.ra)]

/-- The low or high word of a 64-bit value. -/
def half (v : Nat) (hi : Bool) : Nat := if hi then v / 2 ^ 32 % 2 ^ 32 else v % 2 ^ 32

/-- TB.RAW as its two words hold it (R13, R354). -/
def State.rawPair (s : State) (hi : Bool) : Nat :=
  let ns := s.tb.raw / 2 ^ 16
  if hi then ns / 2 ^ 32 % 2 ^ 16 + s.tb.raw % 2 ^ 16 * 2 ^ 16 else ns % 2 ^ 32

/-- Slot `i` of the NAND, key slot `k` of the NOR store as their registers show them (R62, R67). -/
def State.nvReg (s : State) (addr : Nat) : Nat :=
  if addr < 0x10080 then
    let x := s.rcp.slots.getD ((addr - 0x10060) / 0x10) {}
    match (addr - 0x10060) % 0x10 with
    | 0 => packWord [(0, 1, b2n x.valid), (1, 1, b2n x.ack.isSome)]
    | 4 => x.version
    | 8 => half x.imageId false
    | _ => half x.imageId true
  else
    let k := s.rcp.keys.getD ((addr - 0x10080) / 8) {}
    if (addr - 0x10080) % 8 = 0 then k.state else k.keyid

/-- The words that a unit forms at the read, where the register file does not hold them; the command bits that read the
progress of their command. -/
def State.formed (s : State) (addr : Nat) : Option Nat :=
  if 0x200000 ≤ addr && addr < 0x280000 then some (s.cellReg addr)
  else if 0x180000 ≤ addr && addr < 0x188000 && 0x3C ≤ addr % 0x100 && addr % 0x100 ≤ 0x44 then
    some (s.hopReg ((addr - 0x180000) / 0x100) (addr % 0x100))
  else if 0x10060 ≤ addr && addr < 0x100A0 then some (s.nvReg addr)
  else if 0x48000 ≤ addr && addr < 0x50000 then some (s.cg.shown.getD ((addr - 0x48000) / 4) 0)
  else match addr with
    | 0x4 => if s.glb.vinOn && !(s.st = stBOOT && s.rd F.GLB_STATE_STEP = 1) then none else some 0
    | 0x1004C => some s.rcp.minver
    | 0x80000 => some (packWord [(0, 1, s.rd F.REF_STS_OPENDING), (1, 1, s.rd F.REF_STS_WPENDING)])
    | 0x300010 => some (s.rawPair false)
    | 0x300014 => some (s.rawPair true)
    | 0x300018 => some (half s.now false)
    | 0x30001C => some (half s.now true)
    | 0x300024 => some (half (unsigned 64 (s.tb.ofsx.fdiv (2 ^ 16))) false)
    | 0x300028 => some (half (unsigned 64 (s.tb.ofsx.fdiv (2 ^ 16))) true)
    | 0x300038 => some (half (unsigned 64 (s.tb.slewRem.fdiv (2 ^ 16))) false)
    | 0x30003C => some (half (unsigned 64 (s.tb.slewRem.fdiv (2 ^ 16))) true)
    | 0x3B0000 => if s.glb.vinOn && s.st != stBOOT then none
        else some (packWord [(5, 1, s.rd F.FC_STS_SELFSEEN), (7, 1, s.rd F.FC_STS_FIRSTV)])
    | _ =>
      match arrayIx 0x140104 0x40 12 addr with
      | some n => some (s.rd (F.INS_FP_STS_PENDING n))
      | none => none

/-! ### The _HI latches (R15) -/

/-- The _LO registers that latch the word after them: base, stride, count. -/
def latchPairs : List (Nat × Nat × Nat) := [(0x24, 4, 1), (0x10014, 4, 1), (0x10068, 0x10, 2), (0x8012C, 0x40, 4),
  (0x200010, 0x40, 8192), (0x280010, 4, 1), (0x28006C, 4, 1), (0x280098, 4, 1), (0x300010, 4, 1), (0x300018, 4, 1),
  (0x300024, 4, 1), (0x300038, 4, 1), (0x300048, 4, 1), (0x30006C, 4, 1), (0x301054, 4, 1), (0x340034, 4, 1),
  (0x343018, 0x20, 32), (0x382010, 0x40, 8), (0x382018, 0x40, 8), (0x383004, 0x20, 32), (0x3B0010, 4, 1),
  (0x3C0054, 4, 1), (0x3C0068, 4, 1), (0x3D0028, 0x10, 3)]

/-- `addr` is a _LO register whose read latches. -/
def latchesAt (addr : Nat) : Bool := latchPairs.any fun p => (arrayIx p.1 p.2.1 p.2.2 addr).isSome

/-! ### A register read -/

/-- The bank that an access reaches at a banked register (R524): the latches and the Waybill staging words have one of the DMA
engine; the window page and the events, which have none, are its owner's (DEDUCED, notes/assumptions/32). -/
def bankAt (m : Master) (addr : Nat) : Nat := if addr < 0x302000 then m.bank else m.owner

/-- The field of the register at `addr` as the master reaches it. -/
def fieldAt (m : Master) (addr : Nat) (f : Fld) : Fld := if bankedReg addr then f.inBank (bankAt m addr) else f

/-- A master may read a field of this view (R10). -/
def mayRead (m : Master) (v : View) : Bool := m.owner != 1 || v != .p

/-- The word of register `r` at `addr` without the latches: the fields that the master may read; wo fields read 0 (R5, R578). -/
def State.regWord (s : State) (m : Master) (r : RegSpec) (ix : List Nat) (addr : Nat) : Nat :=
  if bankAt m addr = 2 && 0x3D0100 ≤ addr && addr < 0x3D0180 then 0
  else
    packWord ((r.fields.filter fun f => mayRead m f.view && f.acc != .wo).map fun f =>
      (f.lo, f.w, match s.formed addr with
        | some w => field w f.lo f.w
        | none => s.rd (fieldAt m addr (f.at addr ix))))

/-- What the arbiter finds of a read, but for the freeze of its master. -/
def State.readVerdict (s : State) (m : Master) (addr : Nat) : Reached :=
  if !s.reach m addr then .nothing
  else match findReg addr allRegs with
    | none => .unmapped
    | some (r, ix) =>
      match s.gatedAt addr with
      | some u => .gated u
      | none => if r.fields.all fun f => !mayRead m f.view then .barred 0 else .reg r ix

/-- The latch key of the _HI register at `addr` for a master. -/
def latchKey (m : Master) (addr : Nat) : Nat := m.bank * 2 ^ 36 + addr

/-- A read of a register: the word, and what the read changes. -/
def regRead (m : Master) (addr : Nat) (s : State) : Nat × State :=
  match s.readVerdict m addr with
  | .nothing => (0, s)
  | .unmapped => (0, unmapped m addr false s)
  | .gated u => (0, gateAccess u s)
  | .barred kind => (0, violation m addr kind false s)
  | .reg r ix =>
    if 4 ≤ addr && latchesAt (addr - 4) then (s.latch.get (latchKey m addr), s)
    else
      let w := s.regWord m r ix addr
      if latchesAt addr then
        match findReg (addr + 4) allRegs with
        | some (r', ix') =>
          let hi := s.regWord m r' ix' (addr + 4)
          (w, { s with latch := s.latch.set (latchKey m (addr + 4)) hi })
        | none => (w, s)
      else (w, s)

/-! ### The Cellar (R325, R326, R530, R531) -/

/-- The Ledger and the graph trace, which read zeros until their background initialisation has ended (R326). -/
def ledgerOrTrace (a : Nat) : Bool := a < 0x180000000 || (0x1C0000000 ≤ a && a < 0x1E0000000)

/-- The staging partition. -/
def inStaging (a : Nat) : Bool := 0x1A0000000 ≤ a && a < 0x1C0000000

/-- An owner may read the Cellar at `a` (R531). -/
def cellarReads (o a : Nat) : Bool := a < 0x1A0000000 || (inStaging a && o != 1) || (0x1C0000000 ≤ a && a < 0x1E0000000)

/-- An owner may write the Cellar at `a` (R531). -/
def cellarWrites (o a : Nat) : Bool := inStaging a && o != 1

/-- The Cellar address of a window address for a bank (R530). -/
def State.windowAt (s : State) (m : Master) (addr : Nat) : Nat :=
  s.rd (F.HST_CWPAGE_PAGE.inBank m.owner) * 0x1000000 + (addr - 0x1000000)

/-- A read of the Cellar word at `a` for `m`, shown as `shown` in a violation. While its PLL has failed the Cellar stops and reads
return 0 (R560); a write then has no effect (DEDUCED, notes/assumptions/34). -/
def cellarRead (m : Master) (shown a : Nat) (s : State) : Nat × State :=
  if !s.reach m 0x1000000 then (0, s)
  else if !cellarReads m.owner a then (0, violation m shown 1 false s)
  else if s.fc.cond.contains 13 || (ledgerOrTrace a && !s.flag F.TLY_STS_PINIT) then (0, s)
  else (s.cellar.read32 a, s)

/-- A write of the Cellar word at `a` for `m`. -/
def cellarWrite (m : Master) (shown a w : Nat) (s : State) : State :=
  if !s.reach m 0x1000000 then s
  else if !cellarWrites m.owner a then violation m shown 1 true s
  else if s.fc.cond.contains 13 then s
  else
    let s := { s with cellar := s.cellar.write32 a w }
    if a < stageBase + stageSize then stageTouched s else s

/-- `addr` lies in the Cellar window. -/
def inWindow (addr : Nat) : Bool := 0x1000000 ≤ addr && addr < 0x2000000

/-- A whole-word read at the arbiter but for the freeze of its master: the word, and what the read changes. -/
def readLive (m : Master) (addr : Nat) (s : State) : Nat × State :=
  if inWindow addr then cellarRead m addr (s.windowAt m addr) s else regRead m addr s

/-- A whole-word read at the arbiter (R8); a frozen master reads nothing (R533). -/
def busRead (m : Master) (addr : Nat) (s : State) : Nat × State := if s.frozen m.owner then (0, s) else readLive m addr s

end Sys2Proof.Machine
end

