-- ==== Sys2Proof/Machine/Bus.lean ====
section
/-! DEFINITION. Every whole-word access at the arbiter (R8), and the ways to it: a register write, the stage area, PCIe memory
requests (R521), the DMA engine (R527 to R529), the Ostler port (R535 to R540). -/

namespace Sys2Proof.Machine

/-! ### The registers of TB, WB, RCP, SBU, FC and HST -/

/-- A write to `TB.CTL`: HSYNC, then the commands in the order SLEWSTOP, STEP, SET, SLEW, then CNTCLR (R357, R358). -/
def tbControl (m : Master) (r : RegSpec) (ix : List Nat) (w : Nat) (s : State) : State :=
  let s := settleReg 0x300000 s (writeFields m false r ix 0x300000 w s)
  let s := onBit w 3 (hostAdjust slewEnd) s
  let s := onBit w 0 hostStep s
  let s := onBit w 1 hostSet s
  let s := onBit w 2 (hostAdjust fun s => slewTime s.adj s) s
  onBit w 5 tbCntclr s

/-- A write to `WB.CMD`, its bits in ascending order. -/
def wbControl (m : Master) (w : Nat) (s : State) : State :=
  onBit w 3 donePop (onBit w 2 (cancelBy 0 0) (onBit w 1 wbCancelled (onBit w 0 (push m) s)))

/-- OST_ALERT_N is held low: an enabled bit of the Ostler's bank is set (R526). -/
def State.alerting (s : State) : Bool := (s.rd (F.HST_EVSTS_EV.inBank 2) &&& s.rd (F.HST_EVEN_EN.inBank 2)) != 0

/-- A write to the events or the window page of the accessing bank (R524, R526). -/
def bankedWrite (m : Master) (r : RegSpec) (ix : List Nat) (addr w : Nat) (s : State) : State :=
  if bankAt m addr = 2 && 0x3D0100 ≤ addr && addr < 0x3D0180 then s
  else
    let t := r.fields.foldl (fun t f => writeField r.base ix f ((f.at addr ix).inBank (bankAt m addr)) (field w f.lo f.w) t) s
    if t.alerting = s.alerting then t else t.emit (.pin 6 (!t.alerting))

/-! ### The DMA channels (R527, R529) -/

/-- A write to channel `ch` while it is BUSY: only the owner's ABORT acts (R527), and it ends the channel. -/
def dmaBusyWrite (m : Master) (ch ofs w : Nat) (s : State) : State :=
  if ofs = 0x14 && w.testBit 1 && m.owner = s.rd (F.HST_DMA_STS_OWNER ch) then dmaEnd ch 3 s
  else s.werr F.HST_WERR_DMABUSY m

/-- The byte address of the device side of channel `ch`, and of the source of a LOCAL transfer. -/
def State.dmaDev (s : State) (ch : Nat) : Nat := s.rd (F.HST_DMA_DADDR_LO_ADDR ch) + 2 ^ 32 * s.rd (F.HST_DMA_DADDR_HI_A32 ch)

/-- `HADDR`: a host address, or a device address in the form of DADDR. -/
def State.dmaHost (s : State) (ch : Nat) : Nat := s.rd (F.HST_DMA_HADDR_LO_ADDR ch) + 2 ^ 32 * s.rd (F.HST_DMA_HADDR_HI_ADDR ch)

/-- A device address with its length lies in its space, on a word (R527). -/
def dmaFits (cellar fix : Bool) (a len : Nat) : Bool :=
  a % 4 = 0 && (if cellar then a + len ≤ 2 ^ 33 else if fix then a < 0x1000000 else a + len ≤ 0x1000000)

/-- START of channel `ch` by `m` is a configuration that R527 allows. -/
def State.dmaValid (s : State) (m : Master) (ch : Nat) : Bool :=
  let dir := s.rd (F.HST_DMA_CTL_DIR ch)
  let len := s.rd (F.HST_DMA_LEN_LEN ch)
  let fix := s.flag (F.HST_DMA_CTL_FIX ch)
  let dirOk := if m.owner = 2 then dir == 2 else dir == 0 || dir == 1
  let hostOk := if dir = 2 then dmaFits (s.flag (F.HST_DMA_CTL_HSPACE ch)) fix (s.dmaHost ch % 2 ^ 33) len
    else s.dmaHost ch % 4 == 0
  dirOk && 0 < len && len ≤ 0x1000000 && len % 4 == 0 && dmaFits (s.flag (F.HST_DMA_CTL_DSPACE ch)) fix (s.dmaDev ch) len && hostOk

/-- START is written: the writer becomes the owner; the channel runs, or ends at once with BADCFG (R527). -/
def dmaStart (m : Master) (ch : Nat) (s : State) : State :=
  let s := s.wrs [(F.HST_DMA_STS_OWNER ch, m.owner), (F.HST_DMA_STS_DONE ch, 0), (F.HST_DMA_STS_ERR ch, 0)]
  if s.dmaValid m ch then s.wrs [(F.HST_DMA_STS_BUSY ch, 1), (F.HST_DMA_CTL_START ch, 1)] else dmaEnd ch 5 s

/-- A write to a register of channel `ch`. -/
def dmaWrite (m : Master) (ch ofs : Nat) (r : RegSpec) (ix : List Nat) (addr w : Nat) (s : State) : State :=
  if s.flag (F.HST_DMA_STS_BUSY ch) then dmaBusyWrite m ch ofs w s
  else
    let s := writeFields m false r ix addr w s
    if ofs = 0x14 && w.testBit 0 then dmaStart m ch s else s

/-! ### The write -/

/-- The effect of a write to a register of HST. -/
def hstEffect (m : Master) (addr w : Nat) (r : RegSpec) (ix : List Nat) (s : State) : State :=
  if bankedReg addr then bankedWrite m r ix addr w s
  else if 0x3D0200 ≤ addr && addr < 0x3D0300 then dmaWrite m ((addr - 0x3D0200) / 0x20) (addr % 0x20) r ix addr w s
  else match addr with
    | 0x3D000C => release m (field w 0 3) (field w 16 16) s
    | 0x3D0320 => hstNtx (field w 0 5) (field w 8 3) s
    | 0x3D0324 => if s.flag F.HST_MDIO_BUSY then s else if w.testBit 27 then mdioStart w s else writeFields m false r ix addr w s
    | _ => settleReg addr s (writeFields m false r ix addr w s)

/-- The effect of a write to a register of FC. -/
def fcEffect (m : Master) (addr w : Nat) (r : RegSpec) (ix : List Nat) (s : State) : State :=
  if 0x3B0100 ≤ addr && addr < 0x3B0140 then clearSticky w ((addr - 0x3B0100) / 4) s
  else if 0x3B0200 ≤ addr && addr < 0x3B0300 then sevWrite m ((addr - 0x3B0200) / 4) w s
  else match addr with
    | 0x3B0004 => fcCommand (field w 0 8) (field w 16 16) s
    | 0x3B0028 => if mayWrite m .p then testWrite w s else s
    | 0x3B002C => unlock m w s
    | 0x3B0030 => inject (field w 9 2) (field w 0 9) s
    | _ => settleReg addr s (writeFields m false r ix addr w s)

/-- The effect of a whole-word write to any register of the map. -/
def fullEffect (m : Master) (addr w : Nat) (r : RegSpec) (ix : List Nat) (s : State) : State :=
  if 0x3D0000 ≤ addr && addr < 0x3E0000 then hstEffect m addr w r ix s
  else if 0x3B0000 ≤ addr && addr < 0x3C0000 then fcEffect m addr w r ix s
  else if 0x301000 ≤ addr && addr < 0x301028 && addr != 0x301020 then writeFields m true r ix addr w s
  else if 0x100A0 ≤ addr && addr < 0x100E0 then s.wr (F.RCP_KEYBUF_DATA ((addr - 0x100A0) / 4)) w
  else match addr with
    | 0x10000 => rcpCommand w s
    | 0x1003C => s.wr F.RCP_SAFEACK_CODE w
    | 0x300000 => tbControl m r ix w s
    | 0x300020 => tbRateWrite w s
    | 0x30002C | 0x300030 => hostAdjust (writeFields m false r ix addr w) s
    | 0x301020 => wbControl m w s
    | 0x3A0008 => sbuCommand (field w 0 8) (field w 16 16) s
    | _ => coreEffect m addr w r ix s

/-- A whole-word write at the arbiter, but for the freeze of its master. -/
def writeAny (m : Master) (addr w : Nat) (s : State) : State :=
  if inWindow addr then cellarWrite m addr (s.windowAt m addr) w s else writeLive m addr w (fullEffect m addr w) s

/-- A whole-word write at the arbiter (R8). -/
def busWrite (m : Master) (addr w : Nat) (s : State) : State := if s.frozen m.owner then s else writeAny m addr w s

/-- REGISTER_WRITE of a word address; the address is four times `word`. The DMA engine, which reaches the Cellar through DSPACE 1
alone (R524, R527), presents no address from 0x0100_0000 up. -/
def execRegisterWrite (m : Master) (word : BitVec 30) (value : Word) (s : State) : Res :=
  .next (if m.bank = 3 && 0x400000 ≤ word.toNat then s else busWrite m (4 * word.toNat) value.toNat s)

/-- STAGE_AREA_WRITE of word `index` of the stage area (R66): through the window, whose address it shows at a violation, or by the
DMA engine at its Cellar address. -/
def stageWrite (m : Master) (index w : Nat) (s : State) : State :=
  if s.frozen m.owner then s
  else cellarWrite m (if m.bank = 3 then stageBase + 4 * index else 0x1000000 + 4 * index) (stageBase + 4 * index) w s

/-- STAGE_AREA_WRITE. -/
def execStageAreaWrite (m : Master) (index : BitVec 22) (value : Word) (s : State) : Res :=
  .next (stageWrite m index.toNat value.toNat s)

/-! ### PCIe memory requests (R521) -/

/-- The master that a function is. -/
def functionMaster (fn : Nat) : Master := if fn = 0 then .pf0 else .pf1

/-- The byte enables of DW `i` of `n` in a request. -/
def byteEnables (n first last i : Nat) : Nat := if i = 0 then first else if i + 1 = n then last else 15

/-- The words of a read request, ascending. -/
def readWords (m : Master) : Nat → Nat → State → List Nat × State
  | 0, _, s => ([], s)
  | n + 1, addr, s =>
    let (w, s) := busRead m addr s
    let (ws, s) := readWords m n (addr + 4) s
    (w :: ws, s)

/-- The words of a write request, ascending, each with its byte enables: a partial one is discarded (R3). -/
def writeWords (m : Master) (addr : Nat) (l : List (Nat × Nat)) (s : State) : State :=
  (l.zipIdx).foldl (fun (s : State) (x : (Nat × Nat) × Nat) =>
    if s.frozen m.owner then s
    else if x.1.1 != 15 then (if s.reach m 0x1000000 then s.werr F.HST_WERR_PARTIAL m else s)
    else busWrite m (addr + 4 * x.2) x.1.2 s) s

/-- The host can present requests: VIN is on and step 0x01 has completed (R28). -/
def State.hostReached (s : State) : Bool := s.glb.vinOn && !(s.st = stBOOT && s.rd F.GLB_STATE_STEP = 1)

/-- A read of `n` DW from `addr`. -/
def pcieRead (fn addr n : Nat) (s : State) : State :=
  let m := functionMaster fn
  if s.frozen fn then complete fn 1 [] s
  else if n = 0 || 32 < n || addr / 4096 != (addr + 4 * n - 1) / 4096 then
    if s.st = stBOOT then complete fn 0 (List.replicate n 0) s else complete fn 2 [] (s.werr F.HST_WERR_LONG m)
  else
    let (ws, s) := readWords m n addr s
    if s.frozen fn then complete fn 1 [] s else complete fn 0 ws s

/-- A write of the words `ws` at `addr`, with the byte enables of its first and last DW. -/
def pcieWrite (fn addr first last : Nat) (poisoned : Bool) (ws : List Nat) (s : State) : State :=
  let m := functionMaster fn
  if poisoned then raise 404 (s.inc F.HST_PCIERR_UNCORR)
  else if s.frozen fn then s
  else if ws.length = 0 || 32 < ws.length || addr / 4096 != (addr + 4 * ws.length - 1) / 4096 then
    if s.st = stBOOT then s else s.werr F.HST_WERR_LONG m
  else writeWords m addr ((ws.zipIdx).map fun x => (byteEnables ws.length first last x.2, x.1)) s

/-- PCIE_MEMORY_REQUEST to BAR0 of a function: `kind` 0 a read of `count` DW, 1 a write of `data`, 2 an I/O, AtomicOp or locked
request. The address is four times `dw`. -/
def pcieRequest (fn kind dw count first last : Nat) (poisoned : Bool) (data : List Nat) (s : State) : State :=
  if !s.hostReached then s
  else match kind with
    | 0 => pcieRead fn (4 * dw) count s
    | 1 => pcieWrite fn (4 * dw) first last poisoned data s
    | _ => complete fn 1 [] s

/-- PCIE_MEMORY_REQUEST. -/
def execPcieMemoryRequest (fn : Fin 2) (kind : Fin 3) (dw : BitVec 23) (count : BitVec 10) (first last : BitVec 4) (poisoned : Bool)
    (data : List Word) (s : State) : Res :=
  .next (pcieRequest fn kind dw.toNat count.toNat first.toNat last.toNat poisoned (data.map (·.toNat)) s)

/-! ### The DMA engine (R527 to R529) -/

/-- DMA_START: CTL of channel `ch` is written with START; `cfg` is bits [6:2] of the word. -/
def execDmaStart (m : Master) (ch : Fin 8) (cfg : BitVec 5) (s : State) : Res :=
  .next (busWrite m (0x3D0214 + 0x20 * ch) (4 * cfg.toNat + 1) s)

/-- The DMA engine as it acts for an owner. -/
def dmaMaster (owner : Nat) : Master := if owner = 0 then .dmaPf0 else if owner = 1 then .dmaPf1 else .dmaOst

/-- The device accesses of one word of a channel, with the owner's rights; a freeze for another cause does not stop the
words of the present block (R529). -/
def dmaRead (m : Master) (cellar : Bool) (a : Nat) (s : State) : Nat × State :=
  if cellar then cellarRead m a a s else regRead m a s

/-- A device write of the DMA engine. -/
def dmaStore (m : Master) (cellar : Bool) (a w : Nat) (s : State) : State :=
  if cellar then cellarWrite m a a w s else writeLive m a w (fullEffect m a w) s

/-- The access of the DMA engine to `a` would be a violation (R532). -/
def State.dmaBars (s : State) (m : Master) (cellar write : Bool) (a w : Nat) : Bool :=
  if cellar then s.reach m 0x1000000 && !(if write then cellarWrites m.owner a else cellarReads m.owner a)
  else match (if write then s.writeVerdict m a w else s.readVerdict m a) with
    | .barred _ => true
    | _ => false

/-- The address of word `i` of a side of channel `ch`. -/
def State.dmaAddr (s : State) (ch : Nat) (cellar : Bool) (base i : Nat) : Nat :=
  if !cellar && s.flag (F.HST_DMA_CTL_FIX ch) then base else base + 4 * i

/-- Word `i` of channel `ch` moves; the answer tells whether a device access was a violation (R529). -/
def dmaWord (ch i v : Nat) (s : State) : Bool × State :=
  let m := dmaMaster (s.rd (F.HST_DMA_STS_OWNER ch))
  let dsp := s.flag (F.HST_DMA_CTL_DSPACE ch)
  let hsp := s.flag (F.HST_DMA_CTL_HSPACE ch)
  let a := s.dmaAddr ch dsp (s.dmaDev ch) i
  let moved := fun (s : State) => s.wr (F.HST_DMA_STS_DONE ch) (i + 1)
  match s.rd (F.HST_DMA_CTL_DIR ch) with
  | 0 => (s.dmaBars m dsp true a v, if s.dmaBars m dsp true a v then dmaStore m dsp a v s else moved (dmaStore m dsp a v s))
  | 1 =>
    let (w, t) := dmaRead m dsp a s
    if s.dmaBars m dsp false a 0 then (true, t)
    else (false, moved (t.emit (.hostWrite m.owner (s.dmaHost ch + 4 * i) (leBytes 4 w))))
  | _ =>
    let src := s.dmaAddr ch hsp (s.dmaHost ch % 2 ^ 33) i
    let (w, t) := dmaRead m hsp src s
    if s.dmaBars m hsp false src 0 then (true, t)
    else (t.dmaBars m dsp true a w, if t.dmaBars m dsp true a w then dmaStore m dsp a w t else moved (dmaStore m dsp a w t))

/-- Words `i` to `i + n − 1` of channel `ch` move, until a violation ends it with RIGHTS or, by a CTL write of its own words, it is
no longer BUSY. -/
def dmaWords (ch : Nat) (data : List Nat) : Nat → Nat → State → State
  | 0, _, s => s
  | n + 1, i, s =>
    if !s.flag (F.HST_DMA_STS_BUSY ch) then s
    else
      let held := s.frozen (s.rd (F.HST_DMA_STS_OWNER ch))
      let (bad, s) := dmaWord ch i (data.getD i 0) s
      if bad then
        let s := if held then s else s.wr (F.HST_VIOL_INFO_CH (s.rd (F.HST_DMA_STS_OWNER ch))) ch
        dmaEnd ch 1 s
      else dmaWords ch data n (i + 1) s

/-- DMA_ABORT by `m` after `words` words, whose data the host has supplied for a H2D transfer (R529). -/
def dmaAbort (m : Master) (ch words : Nat) (data : List Nat) (s : State) : State :=
  if s.frozen m.owner || !s.reach m (0x3D0214 + 0x20 * ch) || s.writeBars m .u then busWrite m (0x3D0214 + 0x20 * ch) 2 s
  else if s.flag (F.HST_DMA_STS_BUSY ch) && m.owner = s.rd (F.HST_DMA_STS_OWNER ch) then
    busWrite m (0x3D0214 + 0x20 * ch) 2 (dmaWords ch data (min words (s.rd (F.HST_DMA_LEN_LEN ch) / 4)) 0 s)
  else busWrite m (0x3D0214 + 0x20 * ch) 2 s

/-- DMA_ABORT. -/
def execDmaAbort (m : Master) (ch : Fin 8) (words : BitVec 23) (data : List Word) (s : State) : Res :=
  .next (dmaAbort m ch words.toNat (data.map (·.toNat)) s)

/-- DMA_COMPLETE: channel `ch` ends. Its words have moved by then: all of LEN, or `words` of them where the host side fails
or the owner has been frozen (R528, R529). -/
def dmaComplete (ch : Nat) (hostErr : Bool) (words : Nat) (data : List Nat) (s : State) : State :=
  if !s.flag (F.HST_DMA_STS_BUSY ch) then s
  else
    let all := s.rd (F.HST_DMA_LEN_LEN ch) / 4
    let halted := s.frozen (s.rd (F.HST_DMA_STS_OWNER ch))
    let s := dmaWords ch data (if hostErr || halted then min words all else all) 0 s
    if !s.flag (F.HST_DMA_STS_BUSY ch) then s
    else if hostErr then dmaEnd ch 2 (raise 406 s)
    else dmaEnd ch (if halted then 4 else 0) s

/-- DMA_COMPLETE. -/
def execDmaComplete (ch : Fin 8) (hostErr : Bool) (words : BitVec 23) (data : List Word) (s : State) : Res :=
  .next (dmaComplete ch hostErr words.toNat (data.map (·.toNat)) s)

/-! ### The Ostler port (R535 to R540) -/

/-- The words of a READ from `addr`, until the port is frozen: the data of the words executed. -/
def portReads : Nat → Nat → State → List Nat × State
  | 0, _, s => ([], s)
  | n + 1, addr, s =>
    let (w, s) := busRead .ost (addr % 2 ^ 32) s
    if s.frozen 2 then ([], s)
    else
      let (ws, s) := portReads n (addr + 4) s
      (w :: ws, s)

/-- The words of a WRITE, until the port is frozen: how many were executed. -/
def portWrites : List Nat → Nat → State → Nat × State
  | [], _, s => (0, s)
  | w :: ws, addr, s =>
    let s := busWrite .ost (addr % 2 ^ 32) w s
    if s.frozen 2 then (0, s)
    else
      let (n, s) := portWrites ws (addr + 4) s
      (n + 1, s)

/-- A result message with its CRC8 (R536). -/
def resultMsg (stat code n seq : Nat) (data : List Nat) : List Byte :=
  let bs := leBytes 1 stat ++ leBytes 1 code ++ leBytes 1 n ++ leBytes 1 seq ++ data.flatMap (leBytes 4)
  bs ++ leBytes 1 (crc8 bs)

/-- The result of the request in flight is `bs`; it becomes ready later (R538). -/
def portResult (smbus : Bool) (bs : List Byte) (s : State) : State :=
  { s with hst := { s.hst with sbResult := some bs, sbReady := false, sbSmbus := smbus } }

/-- A request that is refused: nothing is executed (R536). -/
def portErr (smbus : Bool) (code : Nat) (s : State) : State := portResult smbus (resultMsg 2 code 0 s.hst.sbSeq []) s

/-- A request with a wrong CRC8: counted; more than 16 in one second raise FS408 (R536, R547). -/
def portCrc (smbus : Bool) (s : State) : State :=
  let times := s.rawNs :: s.hst.sbCrcTimes.filter fun t => s.sinceNs t < 1000000000
  let s := { s with hst := { s.hst with sbCrcTimes := times } }.inc F.HST_SBCNT_CRC
  portErr smbus 1 (if 16 < times.length then raise 408 s else s)

/-- A sound request is executed and counted by SEQ; a violation ends it with NACK (R536). -/
def portRun (smbus write : Bool) (addr n : Nat) (ws : List Nat) (s : State) : State :=
  let s := { s with hst := { s.hst with sbSeq := (s.hst.sbSeq + 1) % 256 } }
  if write then
    let (k, s) := portWrites ws addr s
    portResult smbus (resultMsg (if s.frozen 2 then 3 else 0) 0 k s.hst.sbSeq []) s
  else
    let (d, s) := portReads n addr s
    portResult smbus (resultMsg (if s.frozen 2 then 3 else 0) 0 d.length s.hst.sbSeq d) s

/-- A side-band request has ended (R536 to R540): `bytes` with its CRC8 last. -/
def portRequest (smbus : Bool) (bytes : List Byte) (s : State) : State :=
  if s.hst.sbResult.isSome && !s.hst.sbReady then s.inc F.HST_SBCNT_OVR
  else if !s.flag F.HST_STS_OSTRDY then if smbus then s else s.emit (.sideband (resultMsg 2 3 0 s.hst.sbSeq []))
  else if s.frozen 2 then if smbus then s else portResult smbus (resultMsg 3 0 0 s.hst.sbSeq []) s
  else
    let body := bytes.take (bytes.length - 1)
    let op := leAt bytes 0 1
    let n := leAt bytes 1 1
    let addr := leAt bytes 2 4
    if bytes = [] || crc8 body != leAt bytes (bytes.length - 1) 1 then portCrc smbus s
    else if (op != 1 && op != 2) || n = 0 || (if smbus then 8 else 64) < n || bytes.length != (if op = 1 then 7 else 7 + 4 * n) then
      portErr smbus 2 s
    else if addr % 4 != 0 then portErr smbus 4 s
    else portRun smbus (op == 2) addr n ((List.range n).map fun i => leAt bytes (6 + 4 * i) 4) s

/-- OSTLER_REQUEST over SMBus or SPI. -/
def execOstlerRequest (smbus : Bool) (bytes : List Byte) (s : State) : Res := .next (portRequest smbus bytes s)

end Sys2Proof.Machine
end

