-- ==== Sys2Proof/Machine/Resets.lean ====
section
/-! DEFINITION. The resets of the VAUX and VIN domains and their releases (R551 to R555), the boot steps 0x01 to 0x05 with the factory
and house layers (R27, R87 to R89), and the restart of the Ostler (R543). -/

namespace Sys2Proof.Machine

/-! ### What a reset of the VIN domain keeps (R553) -/

/-- The keys of the fields that the register tables mark VAUX. -/
def vauxFields : List Fld :=
  [F.FC_STS_SELFSEEN, F.FC_STS_FIRSTV, F.FC_FIRST_SRC, F.FC_FIRST_SEV, F.FC_FIRST_INJ, F.FC_FIRST_VALID, F.FC_FIRST_COINC,
   F.FC_FIRSTT_LO_VAL, F.FC_FIRSTT_HI_VAL, F.FC_FIRSTCYC_VAL, F.TWN_LASTDRV_LO_T, F.TWN_LASTDRV_HI_T, F.HST_FRZ_FROZEN,
   F.HST_FRZ_COUNT, F.HST_OSTLER_CNT_RESTARTS, F.CLK_RSTCAUSE_CAUSE, F.CLK_RSTCAUSE_RAIL, F.CLK_RSTCAUSE_COUNT]

/-- Fields of the units of the VAUX domain that carry no mark: the Ostler with its port and its clock, the supplies of that domain
(DEDUCED from R549 and R553, notes/assumptions/35). -/
def ostlerFields : List Fld :=
  [F.HST_STS_OSTADDR, F.HST_STS_OSTRDY, F.HST_OSTLER_LOAD_LOAD, F.HST_OSTLER_LOAD_PEAK, F.HST_OSTLER_LOAD_OVER, F.HST_OSTLER_STS_IMG,
   F.HST_OSTLER_STS_STOPPED, F.HST_OSTLER_CNT_POSTPONE, F.HST_SBCNT_CRC, F.HST_SBCNT_OVR, F.CLK_CKSTS_OFBRDY, F.CLK_CKSTS_OSTFB,
   F.CLK_FBTRIM_OFB, F.CLK_SUPSTS_VAUX, F.CLK_SUPSTS_VDDIOA, F.CLK_VMON_VAUX,
   F.HST_EVSTS_EV.inBank 2, F.HST_EVEN_EN.inBank 2]

/-- Fields that show non-volatile contents ("from NV"). -/
def nvFields : List Fld := [F.TLY_ARCH_COUNT, F.TLY_ARCH_WRAP, F.TLY_XSTS_DONE, F.TLY_XSTS_TRUNC]

/-- A key of the register file that a reset of the VIN domain keeps: the SBU's registers (R436), STICKY, REAL and INJ (R464), the
violation records, and the fields above. -/
def vinKeeps (key : Nat) : Bool :=
  let a := key / 32
  (0x3A0000 ≤ a && a < 0x3B0000) || (0x3B0100 ≤ a && a < 0x3B0140) || (0x3B0180 ≤ a && a < 0x3B0200) ||
  (0x3D0020 ≤ a && a < 0x3D0050) || (vauxFields ++ ostlerFields ++ nvFields).any fun f => f.key == key

/-- Event `e` reaches the Ostler's bank alone: those of the functions are reset with it. -/
def ostlerEvent (e : Nat) (s : State) : State :=
  let t := s.putBit (F.HST_EVSTS_EV.inBank 2) e true
  if t.alerting && !s.alerting then t.emit (.pin 6 false) else t

/-- What a reset of the VIN domain leaves of the state (R553): every register but those kept goes, every latch, the units' state and
the Cellar; what the VAUX domain and the non-volatile stores hold stays. -/
def vinClear (s : State) : State :=
  let t := s.tly
  let h := s.hst
  { s with
    regs := s.regs.keep vinKeeps
    shadow := {}
    samp := {}
    capt := {}
    latch := {}
    cellar := {}
    tb := {}
    glb := { tstmode := s.glb.tstmode, vinOn := false, vauxOn := s.glb.vauxOn }
    fc := {}
    hst := { loadOver := h.loadOver, loadRun := h.loadRun, sbResult := h.sbResult, sbReady := h.sbReady, sbSmbus := h.sbSmbus, sbSeq := h.sbSeq }
    cl := {}
    sch := {}
    be := {}
    ref := {}
    tly := { ck0 := t.ck0, ck1 := t.ck1, ckLast := t.ckLast, arch := t.arch, archNext := t.archNext, extract := t.extract }
    cg := {}
    net := {}
    wb := {}
    lmu := {}
    twn := {}
    rcp := { slots := s.rcp.slots, keys := s.rcp.keys, minver := s.rcp.minver, houses := s.rcp.houses }
    clk := { ostHold := s.clk.ostHold, ostLate := s.clk.ostLate, lossRec := s.clk.lossRec } }

/-- The VIN domain enters reset (R553): a checkpoint that runs is lost, the outputs LANTERN, PPS_OUT and TOUT fall, the Ostler sees
the link and the state change; then all but what is kept is cleared. -/
def vinDown (s : State) : State :=
  let s := if s.tly.ckAt.isSome then ckptLose s else s
  let s := forAll [0, 1, 2, 3, 4, 5] (fun p s => s.emit (.pin p false)) s
  let s := if s.flag F.HST_STS_LINKUP then ostlerEvent 17 s else s
  vinClear (ostlerEvent 1 s)

/-- VIN_DOMAIN_RESET by `cause` as `CLK.RSTCAUSE` codes it: 1 VIN power-on or undervoltage, 2 a rail beyond ±10 %, 3 RESET_N,
4 software, which falls due only after an accepted write (R554, R555). -/
def vinReset (cause rail : Nat) (s : State) : State :=
  if !s.glb.vinOn || (cause = 4 && !s.clk.swReset) then s
  else
    ((vinDown s).wrs [(F.CLK_RSTCAUSE_CAUSE, cause), (F.CLK_RSTCAUSE_RAIL, if cause = 2 then rail else 0),
      (F.CLK_SUPSTS_RAILS, s.rd F.CLK_SUPSTS_RAILS &&& 0x780)]).inc F.CLK_RSTCAUSE_COUNT

/-- VIN_DOMAIN_RESET: `cause` 0 to 3 for the causes 1 to 4. -/
def execVinDomainReset (cause : Fin 4) (rail : Fin 11) (s : State) : Res := .next (vinReset (cause + 1) rail s)

/-- VIN_DOMAIN_RELEASE with the PREF strap (R551, R566, R589): step 0x01 begins in BOOT; conditions that have lasted are raised. -/
def vinRelease (pref : Bool) (s : State) : State :=
  if s.glb.vinOn || !s.glb.vauxOn then s
  else
    let s := sbuShowCrc ({ s with glb := { s.glb with vinOn := true } }.wr F.GLB_ROLE_PREF (b2n pref))
    let s := forAll [0, 1, 2] (fun m s => if s.frozen m then raise (400 + m) s else s) s
    if s.glb.tstmode then raise 454 s else s

/-- VIN_DOMAIN_RELEASE. -/
def execVinDomainRelease (pref : Bool) (s : State) : Res := .next (vinRelease pref s)

/-- VAUX_DOMAIN_RESET (R553): the whole module; the non-volatile contents stay. -/
def vauxReset (s : State) : State :=
  if !s.glb.vauxOn then s
  else
    let s := vinDown s
    { s with
      regs := s.regs.keep fun k => nvFields.any fun f => f.key == k
      glb := { s.glb with vauxOn := false }
      hst := {}
      sbu := {}
      clk := { lossRec := s.clk.lossRec } }

/-- VAUX_DOMAIN_RESET. -/
def execVauxDomainReset (s : State) : Res := .next (vauxReset s)

/-- VAUX_DOMAIN_RELEASE with the OSTADDR straps: the Ostler, the OFB and the SBU start (R551, R589). -/
def vauxRelease (ostaddr : Nat) (s : State) : State :=
  if s.glb.vauxOn then s
  else
    { s with glb := { s.glb with vauxOn := true } }.wrs [(F.HST_STS_OSTADDR, ostaddr), (F.CLK_SUPSTS_VAUX, 1), (F.CLK_SUPSTS_VDDIOA, 1),
      (F.CLK_SUPSTS_RAILS, 0x780)]

/-- VAUX_DOMAIN_RELEASE. -/
def execVauxDomainRelease (ostaddr : BitVec 2) (s : State) : Res := .next (vauxRelease ostaddr.toNat s)

/-! ### The boot steps (R27) -/

/-- Step 0x01 has ended: supplies, rails and REFCLK_25 are good, the PLLs have locked, the main side is on (DEDUCED from R27,
R540, R550 and R560, notes/assumptions/36). -/
def bootSupplies (s : State) : State :=
  s.wrs [(F.HST_STS_VINON, 1), (F.CLK_SUPSTS_VIN, 1), (F.CLK_SUPSTS_VAUX, 1), (F.CLK_SUPSTS_VDDIOA, 1), (F.CLK_SUPSTS_VDDIOB, 1),
    (F.CLK_SUPSTS_RAILS, 0x7FF), (F.CLK_CKSTS_REFOK, 1), (F.CLK_CKSTS_TBPLL, 1), (F.CLK_CKSTS_RLYPLL, 1), (F.CLK_CKSTS_NETPLL, 1),
    (F.CLK_CKSTS_CPLL0, 1), (F.CLK_CKSTS_CPLL1, 1), (F.CLK_CKSTS_PCIEREF, 1), (F.CLK_LPLL_LOCK, 0xFFFFFFFF)]

/-- Step 0x03 has ended: the Tally, event-log and staging partitions hold 0 (R66, R325). -/
def bootCellar (s : State) : State :=
  { s with cellar := s.cellar.clear 0x180000000 0x40000000, fc := { s.fc with logNext := 0 } }

/-- The house copy that step 0x05 applies: the one with the higher sequence number, copy 0 on a tie, the one that checks, none (R89). -/
def State.houseChoice (s : State) : Option Nat :=
  match (s.house 0).ok, (s.house 1).ok with
  | true, true => some (if (s.house 0).seq < (s.house 1).seq then 1 else 0)
  | true, false => some 0
  | false, true => some 1
  | false, false => none

/-- Step 0x05 (R87 to R89). -/
def bootHouse (s : State) : State :=
  let ok0 := (s.house 0).ok
  let ok1 := (s.house 1).ok
  let s := s.wrs [(F.RCP_HOUSE_COPY0_OK, b2n ok0), (F.RCP_HOUSE_COPY1_OK, b2n ok1)]
  match s.houseChoice with
  | some i =>
    let s := applyEntries (s.house i).entries (s.wrs [(F.RCP_HOUSE_USED, i), (F.RCP_HOUSE_NONE, 0), (F.RCP_HOUSE_SEQ, (s.house i).seq)])
    if ok0 && ok1 then s else raise 34 s
  | none => raise 35 (s.wr F.RCP_HOUSE_NONE 1)

/-- The power-loss record that the NOR store holds goes into the event log as a class 2 entry with the time and the cycle of the
loss (R552; the place of its role and reason: DEDUCED, notes/assumptions/33). -/
def lossEntry (s : State) : State :=
  match s.clk.lossRec with
  | none => s
  | some (now, cyc, st, role) =>
    let body := leBytes 8 now ++ leBytes 4 cyc ++ leBytes 2 2 ++ leBytes 2 st ++ leBytes 1 st ++ leBytes 1 role ++ leBytes 10 0
    { s with
      cellar := s.cellar.writeBytes (logBase + 32 * s.fc.logNext) (body ++ leBytes 4 (crc32c body))
      fc := { s.fc with logNext := (s.fc.logNext + 1) % logSize }
      clk := { s.clk with lossRec := none } }

/-- Step 0x05 has ended: DEFAULTS is entered, and with AUTO_LOAD step 0x11 follows (R27, R29, R555). -/
def bootEnd (s : State) : State :=
  let s := lossEntry (bootHouse s)
  let s := if 2 ≤ s.rd F.CLK_RSTCAUSE_CAUSE then raise 23 s else s
  let s := lanternJudge (enterState stDEFAULTS 0x10 s)
  if s.flag F.GLB_AUTO_AUTO_LOAD then autoLoad s else s

/-- The source that a failing boot step raises (R27): the boot image and the factory layer have their own, the supplies and the
Cellar the one that the check names. -/
def bootSource (step src : Nat) : Option Nat :=
  if step = 1 then (if src < 32 then some src else none)
  else if step = 2 then some 32
  else if step = 3 then (if 432 ≤ src && src < 448 then some src else none)
  else if step = 4 then some 33
  else none

/-- BOOT_STEP_DONE: the step in progress has passed its check or failed it with source `src`; a failed step keeps BOOT (R22, R27). A
house copy that fails its check does not hold the boot: step 0x05 judges the copies themselves. -/
def bootStep (ok : Bool) (src : Nat) (s : State) : State :=
  let step := s.rd F.GLB_STATE_STEP
  if !s.glb.vinOn || s.st != stBOOT || s.glb.bootFailed then s
  else if !ok && step != 5 then
    let s := { s with glb := { s.glb with bootFailed := true } }
    match bootSource step src with
    | some fs => raise fs s
    | none => s
  else match step with
    | 1 => setStep 2 (bootSupplies s)
    | 2 => setStep 3 s
    | 3 => setStep 4 (bootCellar s)
    | 4 => setStep 5 s
    | 5 => bootEnd s
    | _ => s

/-- BOOT_STEP_DONE. -/
def execBootStepDone (ok : Bool) (src : BitVec 9) (s : State) : Res := .next (bootStep ok src.toNat s)

/-! ### The Ostler's watchdog (R543) -/

/-- The RCP command that runs ends with 0x16. -/
def rcpAbandon (s : State) : State :=
  match s.rcp.job with
  | none => s
  | some (2, _) => rcpAbort s
  | some (c, _) => rcpFinish c 0x16 0 0 s

/-- A checkpoint and an extract in progress are abandoned; each is taken up again at its next due time, the extract with the next
window of load (DEDUCED, notes/assumptions/37). -/
def ostlerAbandon (s : State) : State :=
  let s := if s.tly.ckAt.isSome then ((ckptLose s).wrs [(F.TLY_STS_CKBUSY, 0), (F.TLY_CTL_CKPT, 0)]).event 12 else s
  let s := if s.flag F.TLY_STS_XBUSY then
      ({ s with tly := { s.tly with xMoved := true } }.wrs [(F.TLY_STS_XBUSY, 0), (F.TLY_CTL_EXTRACT, 0)]).event 12 else s
  { s with tly := { s.tly with lifeReady := [] } }

/-- OSTLER_WATCHDOG: expiry, or an uncorrectable ECC error in the Ostler's memory: the Ostler restarts. -/
def ostlerRestart (ecc : Bool) (s : State) : State :=
  if !s.glb.vauxOn || !s.flag F.HST_STS_OSTRDY then s
  else
    let s := (s.wr F.HST_STS_OSTRDY 0).inc F.HST_OSTLER_CNT_RESTARTS
    let s := { s with hst := { s.hst with sbResult := none, sbReady := false } }
    raise (if ecc then 52 else 48) (ostlerAbandon (rcpAbandon s))

/-- OSTLER_WATCHDOG. -/
def execOstlerWatchdog (ecc : Bool) (s : State) : Res := .next (ostlerRestart ecc s)

end Sys2Proof.Machine
end

