-- ==== Sys2Proof/Machine/Dispatch.lean ====
section
/-! DEFINITION. The meaning of every command: one arm for each constructor of `Instr`, each one direct call. -/

namespace Sys2Proof.Machine

/-- The effect of a command on everything but the queue. -/
def exec (i : Instr) (s : State) : Host.Outcome State Fault Refusal :=
  match i with
  | .registerWrite m word value => Sys2Proof.Machine.execRegisterWrite m word value s
  | .unmapSeenClear m => Sys2Proof.Machine.execUnmapSeenClear m s
  | .vauxDomainRelease ostaddr => Sys2Proof.Machine.execVauxDomainRelease ostaddr s
  | .vinDomainReset cause rail => Sys2Proof.Machine.execVinDomainReset cause rail s
  | .vinDomainRelease pref => Sys2Proof.Machine.execVinDomainRelease pref s
  | .bootStepDone ok src => Sys2Proof.Machine.execBootStepDone ok src s
  | .link m => Sys2Proof.Machine.execLink m s
  | .arm m key => Sys2Proof.Machine.execArm m key s
  | .deblock m key => Sys2Proof.Machine.execDeblock m key s
  | .block m arg => Sys2Proof.Machine.execBlock m arg s
  | .disarm m => Sys2Proof.Machine.execDisarm m s
  | .recover m key => Sys2Proof.Machine.execRecover m key s
  | .shutdown m arg key => Sys2Proof.Machine.execShutdown m arg key s
  | .opblkWrite m => Sys2Proof.Machine.execOpblkWrite m s
  | .rcpVerify m => Sys2Proof.Machine.execRcpVerify m s
  | .rcpLoad m arg => Sys2Proof.Machine.execRcpLoad m arg s
  | .loadComplete ok => Sys2Proof.Machine.execLoadComplete ok s
  | .rcpCommit m key => Sys2Proof.Machine.execRcpCommit m key s
  | .rcpStore m arg key => Sys2Proof.Machine.execRcpStore m arg key s
  | .storeComplete ok => Sys2Proof.Machine.execStoreComplete ok s
  | .rcpAbort m => Sys2Proof.Machine.execRcpAbort m s
  | .safeAck m => Sys2Proof.Machine.execSafeAck m s
  | .slotErase m arg key => Sys2Proof.Machine.execSlotErase m arg key s
  | .slotEraseComplete ok => Sys2Proof.Machine.execSlotEraseComplete ok s
  | .houseRead m => Sys2Proof.Machine.execHouseRead m s
  | .houseStore m key => Sys2Proof.Machine.execHouseStore m key s
  | .houseStoreComplete ok => Sys2Proof.Machine.execHouseStoreComplete ok s
  | .keyWrite m arg key => Sys2Proof.Machine.execKeyWrite m arg key s
  | .keyRevoke m arg key => Sys2Proof.Machine.execKeyRevoke m arg key s
  | .minverSet m key => Sys2Proof.Machine.execMinverSet m key s
  | .stageAreaWrite m index value => Sys2Proof.Machine.execStageAreaWrite m index value s
  | .commitProposalReceived imageId crcs k => Sys2Proof.Machine.execCommitProposalReceived imageId crcs k s
  | .cycleStartToken now idx => Sys2Proof.Machine.execCycleStartToken now idx s
  | .missrunLimit n => Sys2Proof.Machine.execMissrunLimit n s
  | .uplinkFrameReceived l start bytes cv disp => Sys2Proof.Machine.execUplinkFrameReceived l start bytes cv disp s
  | .uplinkCutoff n => Sys2Proof.Machine.execUplinkCutoff n s
  | .rankingComplete n => Sys2Proof.Machine.execRankingComplete n s
  | .levelGenComplete n => Sys2Proof.Machine.execLevelGenComplete n s
  | .refHeldLimit n => Sys2Proof.Machine.execRefHeldLimit n s
  | .selectionComplete n => Sys2Proof.Machine.execSelectionComplete n s
  | .timingComplete n crt => Sys2Proof.Machine.execTimingComplete n crt s
  | .engineFault e cause => Sys2Proof.Machine.execEngineFault e cause s
  | .slkclr m => Sys2Proof.Machine.execSlkclr m s
  | .schCntclr m => Sys2Proof.Machine.execSchCntclr m s
  | .reverify m => Sys2Proof.Machine.execReverify m s
  | .slackVerifyDone worst => Sys2Proof.Machine.execSlackVerifyDone worst s
  | .acceptRegisterWrite m which value => Sys2Proof.Machine.execAcceptRegisterWrite m which value s
  | .coreScheduleDone c t => Sys2Proof.Machine.execCoreScheduleDone c t s
  | .graphRunComplete t => Sys2Proof.Machine.execGraphRunComplete t s
  | .graphStall c => Sys2Proof.Machine.execGraphStall c s
  | .coreEccError c corrected kind index => Sys2Proof.Machine.execCoreEccError c corrected kind index s
  | .pcommit m => Sys2Proof.Machine.execPcommit m s
  | .greset m => Sys2Proof.Machine.execGreset m s
  | .maxclr m => Sys2Proof.Machine.execMaxclr m s
  | .hinWrite m k value => Sys2Proof.Machine.execHinWrite m k value s
  | .ocommit m => Sys2Proof.Machine.execOcommit m s
  | .wcommit m => Sys2Proof.Machine.execWcommit m s
  | .preset m mask => Sys2Proof.Machine.execPreset m mask s
  | .exclude m cell key => Sys2Proof.Machine.execExclude m cell key s
  | .include m cell key => Sys2Proof.Machine.execInclude m cell key s
  | .failbyp m cell key => Sys2Proof.Machine.execFailbyp m cell key s
  | .spareIn m cell key => Sys2Proof.Machine.execSpareIn m cell key s
  | .spareOut m cell key => Sys2Proof.Machine.execSpareOut m cell key s
  | .rerank m => Sys2Proof.Machine.execRerank m s
  | .beCntclr m => Sys2Proof.Machine.execBeCntclr m s
  | .armSelectionLimitWrite m n which value => Sys2Proof.Machine.execArmSelectionLimitWrite m n which value s
  | .fpCommit m n => Sys2Proof.Machine.execFpCommit m n s
  | .fpUpdatePoint n => Sys2Proof.Machine.execFpUpdatePoint n s
  | .fpCompareFire n j => Sys2Proof.Machine.execFpCompareFire n j s
  | .insCntclr m => Sys2Proof.Machine.execInsCntclr m s
  | .insLimitWrite m n which value => Sys2Proof.Machine.execInsLimitWrite m n which value s
  | .clAuxselWrite m l value => Sys2Proof.Machine.execClAuxselWrite m l value s
  | .laneIdleExpired l => Sys2Proof.Machine.execLaneIdleExpired l s
  | .laneBurstSent l => Sys2Proof.Machine.execLaneBurstSent l s
  | .laneRxLock l => Sys2Proof.Machine.execLaneRxLock l s
  | .laneTs2Received l gen hops laneid chk => Sys2Proof.Machine.execLaneTs2Received l gen hops laneid chk s
  | .laneTrainTimeout l => Sys2Proof.Machine.execLaneTrainTimeout l s
  | .laneMeasureDone l => Sys2Proof.Machine.execLaneMeasureDone l s
  | .laneRetryExpired l => Sys2Proof.Machine.execLaneRetryExpired l s
  | .laneLockLoss l => Sys2Proof.Machine.execLaneLockLoss l s
  | .laneSignalLoss l => Sys2Proof.Machine.execLaneSignalLoss l s
  | .laneRxwaitExpired l => Sys2Proof.Machine.execLaneRxwaitExpired l s
  | .laneRetrain m l => Sys2Proof.Machine.execLaneRetrain m l s
  | .giclr m l => Sys2Proof.Machine.execGiclr m l s
  | .clCntclr m l => Sys2Proof.Machine.execClCntclr m l s
  | .gapIdleEnter l => Sys2Proof.Machine.execGapIdleEnter l s
  | .gapIdleExit l => Sys2Proof.Machine.execGapIdleExit l s
  | .gapExitLockCheck l locked => Sys2Proof.Machine.execGapExitLockCheck l locked s
  | .dmInserviceSend l => Sys2Proof.Machine.execDmInserviceSend l s
  | .dmrspReceived l hop tlbLo tlbHi ra chk rt => Sys2Proof.Machine.execDmrspReceived l hop tlbLo tlbHi ra chk rt s
  | .dmrspTimeout l => Sys2Proof.Machine.execDmrspTimeout l s
  | .ringSplit l => Sys2Proof.Machine.execRingSplit l s
  | .parcelRetryExhausted l => Sys2Proof.Machine.execParcelRetryExhausted l s
  | .parcelBusyTimeout l => Sys2Proof.Machine.execParcelBusyTimeout l s
  | .chainEnumerated l => Sys2Proof.Machine.execChainEnumerated l s
  | .pqSubmit m => Sys2Proof.Machine.execPqSubmit m s
  | .pqPop m => Sys2Proof.Machine.execPqPop m s
  | .pqFlush m => Sys2Proof.Machine.execPqFlush m s
  | .cellarEccUncorrectable addr => Sys2Proof.Machine.execCellarEccUncorrectable addr s
  | .scrubPassDone corrected => Sys2Proof.Machine.execScrubPassDone corrected s
  | .capestUpdate g => Sys2Proof.Machine.execCapestUpdate g s
  | .ckpt m => Sys2Proof.Machine.execCkpt m s
  | .tallyCkptDone ok => Sys2Proof.Machine.execTallyCkptDone ok s
  | .ledgerTrigger b => Sys2Proof.Machine.execLedgerTrigger b s
  | .ltrig m => Sys2Proof.Machine.execLtrig m s
  | .lrelease m => Sys2Proof.Machine.execLrelease m s
  | .ledgerDisable m value => Sys2Proof.Machine.execLedgerDisable m value s
  | .extract m => Sys2Proof.Machine.execExtract m s
  | .extractDone ok => Sys2Proof.Machine.execExtractDone ok s
  | .tbRateWrite m value => Sys2Proof.Machine.execTbRateWrite m value s
  | .stepTime m => Sys2Proof.Machine.execStep m s
  | .setTime m => Sys2Proof.Machine.execSet m s
  | .slew m => Sys2Proof.Machine.execSlew m s
  | .slewstop m => Sys2Proof.Machine.execSlewstop m s
  | .tbCntclr m => Sys2Proof.Machine.execTbCntclr m s
  | .push m => Sys2Proof.Machine.execPush m s
  | .wbCancel m => Sys2Proof.Machine.execWbCancel m s
  | .wbFlush m => Sys2Proof.Machine.execWbFlush m s
  | .donepop m => Sys2Proof.Machine.execDonepop m s
  | .wbOutReturn p => Sys2Proof.Machine.execWbOutReturn p s
  | .wbWindowClose j => Sys2Proof.Machine.execWbWindowClose j s
  | .ethLinkChange p up speed => Sys2Proof.Machine.execEthLinkChange p up speed s
  | .ethFrameReceived p fcs age res bytes => Sys2Proof.Machine.execEthFrameReceived p fcs age res bytes s
  | .svFrameReceived p age bytes => Sys2Proof.Machine.execSvFrameReceived p age bytes s
  | .svSubscriptionLost n => Sys2Proof.Machine.execSvSubscriptionLost n s
  | .ptpSyncReceived p age domain src log two seq t1 corr => Sys2Proof.Machine.execPtpSyncReceived p age domain src log two seq t1 corr s
  | .ptpFollowUpReceived p domain src log seq t1 corr => Sys2Proof.Machine.execPtpFollowUpReceived p domain src log seq t1 corr s
  | .ptpAnnounceReceived p domain src log pri1 cls acc var pri2 gm steps utc => Sys2Proof.Machine.execPtpAnnounceReceived p domain src log pri1 cls acc var pri2 gm steps utc s
  | .ptpAnnounceTimeout p src => Sys2Proof.Machine.execPtpAnnounceTimeout p src s
  | .pdelayReqSend p => Sys2Proof.Machine.execPdelayReqSend p s
  | .pdelayReqReceived p seq turn => Sys2Proof.Machine.execPdelayReqReceived p seq turn s
  | .pdelayRespReceived p age seq turn corr => Sys2Proof.Machine.execPdelayRespReceived p age seq turn corr s
  | .ptprst m => Sys2Proof.Machine.execPtprst m s
  | .netCntclr m => Sys2Proof.Machine.execNetCntclr m s
  | .prpPortLost p => Sys2Proof.Machine.execPrpPortLost p s
  | .fbTrigger b => Sys2Proof.Machine.execFbTrigger b s
  | .fbTake b => Sys2Proof.Machine.execFbTake b s
  | .fbLaunch b => Sys2Proof.Machine.execFbLaunch b s
  | .hstNtx m b p => Sys2Proof.Machine.execHstNtx m b p s
  | .lmuConversionDone e code age => Sys2Proof.Machine.execLmuConversionDone e code age s
  | .lmuPassEnd c => Sys2Proof.Machine.execLmuPassEnd c s
  | .lmuTrigger c => Sys2Proof.Machine.execLmuTrigger c s
  | .swtrg m c => Sys2Proof.Machine.execSwtrg m c s
  | .lmuTimerTrigger c => Sys2Proof.Machine.execLmuTimerTrigger c s
  | .scommit m => Sys2Proof.Machine.execScommit m s
  | .cal m => Sys2Proof.Machine.execCal m s
  | .lmuCalDone l => Sys2Proof.Machine.execLmuCalDone l s
  | .lmuRefenWrite m on => Sys2Proof.Machine.execLmuRefenWrite m on s
  | .lmuRefFault on => Sys2Proof.Machine.execLmuRefFault on s
  | .lmuDchStale d => Sys2Proof.Machine.execLmuDchStale d s
  | .lmuWindowClose u => Sys2Proof.Machine.execLmuWindowClose u s
  | .lmuCntclr m => Sys2Proof.Machine.execLmuCntclr m s
  | .sbuTick si ea eb vsafe rb => Sys2Proof.Machine.execSbuTick si ea eb vsafe rb s
  | .sbuFilterChange p ch => Sys2Proof.Machine.execSbuFilterChange p ch s
  | .sbuDiscrepancyLatch p => Sys2Proof.Machine.execSbuDiscrepancyLatch p s
  | .sbuReadbackFault k open_ => Sys2Proof.Machine.execSbuReadbackFault k open_ s
  | .sbuTestPulse k low => Sys2Proof.Machine.execSbuTestPulse k low s
  | .sbuTestEnd k rb => Sys2Proof.Machine.execSbuTestEnd k rb s
  | .sbuClear m key => Sys2Proof.Machine.execSbuClear m key s
  | .faultRaise srcs => Sys2Proof.Machine.execFaultRaise srcs s
  | .faultLiveClear fs => Sys2Proof.Machine.execFaultLiveClear fs s
  | .collectorSelfFault ecc => Sys2Proof.Machine.execCollectorSelfFault ecc s
  | .clrReact m key => Sys2Proof.Machine.execClrReact m key s
  | .clrFirst m key => Sys2Proof.Machine.execClrFirst m key s
  | .clrSticky m => Sys2Proof.Machine.execClrSticky m s
  | .fcSevWrite m w value => Sys2Proof.Machine.execFcSevWrite m w value s
  | .fcUnlock m code => Sys2Proof.Machine.execFcUnlock m code s
  | .fcTestWrite m value => Sys2Proof.Machine.execFcTestWrite m value s
  | .injPulse m fs => Sys2Proof.Machine.execInjPulse m fs s
  | .injHold m fs => Sys2Proof.Machine.execInjHold m fs s
  | .injRelease m fs => Sys2Proof.Machine.execInjRelease m fs s
  | .relayTrained lrly => Sys2Proof.Machine.execRelayTrained lrly s
  | .relayLaneLoss j => Sys2Proof.Machine.execRelayLaneLoss j s
  | .relayLaneRejoin j => Sys2Proof.Machine.execRelayLaneRejoin j s
  | .relayRetrain m => Sys2Proof.Machine.execRelayRetrain m s
  | .twnCntclr m => Sys2Proof.Machine.execTwnCntclr m s
  | .relayIdReceived mid pref epoch role state image crcs cyc base tw => Sys2Proof.Machine.execRelayIdReceived mid pref epoch role state image crcs cyc base tw s
  | .relayCycleMark cv => Sys2Proof.Machine.execRelayCycleMark cv s
  | .relayHbReceived ok cyc base state role epoch flags nr => Sys2Proof.Machine.execRelayHbReceived ok cyc base state role epoch flags nr s
  | .tknoteReceived epoch => Sys2Proof.Machine.execTknoteReceived epoch s
  | .ublkReceived mask => Sys2Proof.Machine.execUblkReceived mask s
  | .degReceived on => Sys2Proof.Machine.execDegReceived on s
  | .rehReceived abort r len => Sys2Proof.Machine.execRehReceived abort r len s
  | .imgReceived cyc values => Sys2Proof.Machine.execImgReceived cyc values s
  | .snapReceived ok first bytes => Sys2Proof.Machine.execSnapReceived ok first bytes s
  | .carriedItemReceived ok bytes => Sys2Proof.Machine.execCarriedItemReceived ok bytes s
  | .forwardedBlockReceived op orderly => Sys2Proof.Machine.execForwardedBlockReceived op orderly s
  | .partnerLedgerTrigger kt => Sys2Proof.Machine.execPartnerLedgerTrigger kt s
  | .resync m arm => Sys2Proof.Machine.execResync m arm s
  | .takeover m key => Sys2Proof.Machine.execTakeover m key s
  | .rehearse m key => Sys2Proof.Machine.execRehearse m key s
  | .pcieLinkChange up speed width => Sys2Proof.Machine.execPcieLinkChange up speed width s
  | .flr fn => Sys2Proof.Machine.execFlr fn s
  | .pcieMemoryRequest fn kind dw count first last poisoned data => Sys2Proof.Machine.execPcieMemoryRequest fn kind dw count first last poisoned data s
  | .dmaStart m ch cfg => Sys2Proof.Machine.execDmaStart m ch cfg s
  | .dmaAbort m ch words data => Sys2Proof.Machine.execDmaAbort m ch words data s
  | .dmaComplete ch hostErr words data => Sys2Proof.Machine.execDmaComplete ch hostErr words data s
  | .hstRelease m mask key => Sys2Proof.Machine.execHstRelease m mask key s
  | .ostlerRequest smbus bytes => Sys2Proof.Machine.execOstlerRequest smbus bytes s
  | .ostlerWatchdog ecc => Sys2Proof.Machine.execOstlerWatchdog ecc s
  | .ostlerRestartDone a b => Sys2Proof.Machine.execOstlerRestartDone a b s
  | .ostlerLoadWindow load heavy => Sys2Proof.Machine.execOstlerLoadWindow load heavy s
  | .mdioStart m value => Sys2Proof.Machine.execMdioStart m value s
  | .mdioDone data => Sys2Proof.Machine.execMdioDone data s
  | .vinPowerWarning mv => Sys2Proof.Machine.execVinPowerWarning mv s
  | .railOutOfWindow rail => Sys2Proof.Machine.execRailOutOfWindow rail s
  | .softwareReset m code key => Sys2Proof.Machine.execSoftwareReset m code key s
  | .clockFailure c q => Sys2Proof.Machine.execClockFailure c q s
  | .fallbackOscReady ofb => Sys2Proof.Machine.execFallbackOscReady ofb s
  | .fallbackNotReadyTimeout ofb => Sys2Proof.Machine.execFallbackNotReadyTimeout ofb s
  | .fallbackTrim fbo ofb eFbo eOfb => Sys2Proof.Machine.execFallbackTrim fbo ofb eFbo eOfb s
  | .muxForcedSwitch ost => Sys2Proof.Machine.execMuxForcedSwitch ost s
  | .clkGateWrite m which value => Sys2Proof.Machine.execClkGateWrite m which value s
  | .gateQuiesced u => Sys2Proof.Machine.execGateQuiesced u s
  | .gateQuiesceTimeout u => Sys2Proof.Machine.execGateQuiesceTimeout u s
  | .ungateRelease u => Sys2Proof.Machine.execUngateRelease u s
  | .plreq m pl key => Sys2Proof.Machine.execPlreq m pl key s
  | .plVcoreSettled mv => Sys2Proof.Machine.execPlVcoreSettled mv s
  | .junctionTempWarn tj sensor => Sys2Proof.Machine.execJunctionTempWarn tj sensor s
  | .pcieConfigRequest fn write dw be value => Sys2Proof.Machine.execPcieConfigRequest fn write dw be value s
  | .msixTableAccess fn write dw value => Sys2Proof.Machine.execMsixTableAccess fn write dw value s
  | .pllLockRegained c q => Sys2Proof.Machine.execPllLockRegained c q s
  | .vauxDomainReset => Sys2Proof.Machine.execVauxDomainReset s
  | .autoArm => Sys2Proof.Machine.execAutoArm s
  | .orderlyBlockTimeout => Sys2Proof.Machine.execOrderlyBlockTimeout s
  | .linkTimeout => Sys2Proof.Machine.execLinkTimeout s
  | .roleWaitExpiry => Sys2Proof.Machine.execRoleWaitExpiry s
  | .verifyComplete => Sys2Proof.Machine.execVerifyComplete s
  | .commitPrepareEnd => Sys2Proof.Machine.execCommitPrepareEnd s
  | .commitSwitch => Sys2Proof.Machine.execCommitSwitch s
  | .safeAckExpiry => Sys2Proof.Machine.execSafeAckExpiry s
  | .commitConfirmReceived => Sys2Proof.Machine.execCommitConfirmReceived s
  | .commitConfirmDeadline => Sys2Proof.Machine.execCommitConfirmDeadline s
  | .replicaOverLimit => Sys2Proof.Machine.execReplicaOverLimit s
  | .cycleStart => Sys2Proof.Machine.execCycleStart s
  | .cyclePhaseErrorLimit => Sys2Proof.Machine.execCyclePhaseErrorLimit s
  | .armFreeze => Sys2Proof.Machine.execArmFreeze s
  | .graphImageReady => Sys2Proof.Machine.execGraphImageReady s
  | .paramApply => Sys2Proof.Machine.execParamApply s
  | .graphInit => Sys2Proof.Machine.execGraphInit s
  | .orderApply => Sys2Proof.Machine.execOrderApply s
  | .waveformApply => Sys2Proof.Machine.execWaveformApply s
  | .cellarPinitDone => Sys2Proof.Machine.execCellarPinitDone s
  | .tallyFold => Sys2Proof.Machine.execTallyFold s
  | .lifeApply => Sys2Proof.Machine.execLifeApply s
  | .tallyLoadDone => Sys2Proof.Machine.execTallyLoadDone s
  | .tallyCkptDue => Sys2Proof.Machine.execTallyCkptDue s
  | .tallyCkptRetry => Sys2Proof.Machine.execTallyCkptRetry s
  | .tallyCkptOverdue => Sys2Proof.Machine.execTallyCkptOverdue s
  | .ledgerStart => Sys2Proof.Machine.execLedgerStart s
  | .ledgerArmed => Sys2Proof.Machine.execLedgerArmed s
  | .ledgerFreeze => Sys2Proof.Machine.execLedgerFreeze s
  | .tbRawWrap => Sys2Proof.Machine.execTbRawWrap s
  | .slewComplete => Sys2Proof.Machine.execSlewComplete s
  | .ppsInEdge => Sys2Proof.Machine.execPpsInEdge s
  | .ppsLoss => Sys2Proof.Machine.execPpsLoss s
  | .ppsOutEdge => Sys2Proof.Machine.execPpsOutEdge s
  | .ppsOutFall => Sys2Proof.Machine.execPpsOutFall s
  | .timeSourceLoss => Sys2Proof.Machine.execTimeSourceLoss s
  | .wbEntryStart => Sys2Proof.Machine.execWbEntryStart s
  | .wbRelaySkip => Sys2Proof.Machine.execWbRelaySkip s
  | .ptpSyncTimeout => Sys2Proof.Machine.execPtpSyncTimeout s
  | .prpSupervisionSend => Sys2Proof.Machine.execPrpSupervisionSend s
  | .fastPathFault => Sys2Proof.Machine.execFastPathFault s
  | .lmuCalAutoStart => Sys2Proof.Machine.execLmuCalAutoStart s
  | .lmuRefReady => Sys2Proof.Machine.execLmuRefReady s
  | .sbuOscFault => Sys2Proof.Machine.execSbuOscFault s
  | .sbuXchkFault => Sys2Proof.Machine.execSbuXchkFault s
  | .sbuVsafeOut => Sys2Proof.Machine.execSbuVsafeOut s
  | .sbuStatusReceived => Sys2Proof.Machine.execSbuStatusReceived s
  | .sbuStatusLost => Sys2Proof.Machine.execSbuStatusLost s
  | .aliveTokenTimeout => Sys2Proof.Machine.execAliveTokenTimeout s
  | .lanternReadbackFault => Sys2Proof.Machine.execLanternReadbackFault s
  | .ostlerHeartbeat => Sys2Proof.Machine.execOstlerHeartbeat s
  | .ostlerHeartbeatLost => Sys2Proof.Machine.execOstlerHeartbeatLost s
  | .lanternEdge => Sys2Proof.Machine.execLanternEdge s
  | .lanternInEdge => Sys2Proof.Machine.execLanternInEdge s
  | .lanternInStopped => Sys2Proof.Machine.execLanternInStopped s
  | .relayAttemptTimeout => Sys2Proof.Machine.execRelayAttemptTimeout s
  | .relayPartnerDetected => Sys2Proof.Machine.execRelayPartnerDetected s
  | .relayLinkLost => Sys2Proof.Machine.execRelayLinkLost s
  | .relayHbMissed => Sys2Proof.Machine.execRelayHbMissed s
  | .twinAlignChange => Sys2Proof.Machine.execTwinAlignChange s
  | .tkreqReceived => Sys2Proof.Machine.execTkreqReceived s
  | .carriedItemApply => Sys2Proof.Machine.execCarriedItemApply s
  | .partnerShutdownReceived => Sys2Proof.Machine.execPartnerShutdownReceived s
  | .refreshStart => Sys2Proof.Machine.execRefreshStart s
  | .refreshApply => Sys2Proof.Machine.execRefreshApply s
  | .resyncHold => Sys2Proof.Machine.execResyncHold s
  | .takeoverPoint => Sys2Proof.Machine.execTakeoverPoint s
  | .orphanAdoption => Sys2Proof.Machine.execOrphanAdoption s
  | .prefReturn => Sys2Proof.Machine.execPrefReturn s
  | .rehearsalDriveStart => Sys2Proof.Machine.execRehearsalDriveStart s
  | .rehearsalDriveEnd => Sys2Proof.Machine.execRehearsalDriveEnd s
  | .rehearsalCheck => Sys2Proof.Machine.execRehearsalCheck s
  | .rehearsalAuto => Sys2Proof.Machine.execRehearsalAuto s
  | .driveExerciseOverdue => Sys2Proof.Machine.execDriveExerciseOverdue s
  | .perst => Sys2Proof.Machine.execPerst s
  | .ostlerResultReady => Sys2Proof.Machine.execOstlerResultReady s
  | .smbusTimeout => Sys2Proof.Machine.execSmbusTimeout s
  | .regulatorFault => Sys2Proof.Machine.execRegulatorFault s
  | .ostlerClockReturn => Sys2Proof.Machine.execOstlerClockReturn s
  | .plCellarSwitched => Sys2Proof.Machine.execPlCellarSwitched s
  | .plVcoreTimeout => Sys2Proof.Machine.execPlVcoreTimeout s

end Sys2Proof.Machine
end

