-- ==== Sys2Proof/Machine/Step.lean ====
section
/-! DEFINITION. One step of the block: the command at the front of the queue, or, with no command waiting, one tick of the
timebase clock (R353; notes/assumptions/1); and the placing of the command that a word spells at the front of the queue. -/

namespace Sys2Proof.Machine

/-- The timebase clock runs: the VIN domain is out of reset and the TB domain is not held (R551, R561). -/
def State.clocked (s : State) : Bool := s.glb.vinOn && !s.flag F.CLK_CKSTS_HOLDRST

/-- One step: the command at the front acts on the state with the rest of the queue; on an empty queue TB.RAW ticks while its clock
runs, and else the block idles. -/
def step (s : State) : Host.Outcome State Fault Refusal :=
  match s.pending with
  | c :: rest => exec c { s with pending := rest }
  | [] => .next (if s.clocked then tick s else s)

/-- The command that a word of the table's bits spells, placed at the front of the queue; no row of the table gives bits, so no
word spells one and `s` stays (notes/assumptions/2). -/
def State.withFetchWord (s : State) (nbits w : Nat) : State :=
  match decodeTableWord nbits w with
  | some c => { s with pending := c :: s.pending }
  | none => s

end Sys2Proof.Machine
end

