-- ==== Sys2Proof/Safety.lean ====
section
/-! DEFINITION. What a claim may ask of a run: that a step answers a next state, that the stores keep their canonical form, and
what a command may change: `Within m s t` says that from `s` to `t` only the parts of the state named by the bits of `m` differ. -/

namespace Sys2Proof

open Machine

/-- The step from `s` answers a next state. -/
def Completes (s : State) : Prop := ∃ t, step s = .next t

/-- `k` steps from `s` all answer a next state. -/
def RunsFor : Nat → State → Prop
  | 0, _ => True
  | k + 1, s => ∃ t, step s = .next t ∧ RunsFor k t

/-- The write of master `m` with view `v` at `addr` passes the arbiter: the master is not frozen (R533), the write reaches its
register (R28, R540), its unit is not gated (R565), and no view bars it (R10, R532). -/
def Machine.State.grants (s : State) (m : Master) (v : View) (addr : Nat) : Bool :=
  !s.frozen m.owner && s.reach m addr && s.gatedAt addr == none && !s.writeBars m v

/-- The sparse stores inside the typed parts of the state have their canonical form. -/
structure InnerCanonical (tly : TlySt) (hst : HstSt) (net : NetSt) : Prop where
  arch : tly.arch.wf = true
  ck0 : tly.ck0.recs.wf = true
  ck1 : tly.ck1.recs.wf = true
  vecMask : hst.vecMask.wf = true
  pba : hst.pba.wf = true
  vecTab : hst.vecTab.wf = true
  cfg : hst.cfg.wf = true
  sent : net.sent.wf = true

/-- Every store of the state has its canonical form: keys strictly rising, no entry equal to what an unlisted key reads as. -/
structure StoresCanonical (s : State) : Prop where
  regs : s.regs.wf = true
  shadow : s.shadow.wf = true
  samp : s.samp.wf = true
  capt : s.capt.wf = true
  latch : s.latch.wf = true
  cellar : s.cellar.wf = true
  inner : InnerCanonical s.tly s.hst s.net

/-- Part `i` of the state: `s` and `t` agree on it. The register file and its copies, the Cellar, the typed parts, the record of
what has left the block, the counter of free values, TB.RAW, the power of the two domains. -/
def SamePart : Nat → State → State → Prop
  | 0, s, t => t.regs = s.regs
  | 1, s, t => t.shadow = s.shadow
  | 2, s, t => t.samp = s.samp
  | 3, s, t => t.capt = s.capt
  | 4, s, t => t.latch = s.latch
  | 5, s, t => t.cellar = s.cellar
  | 6, s, t => t.tb = s.tb
  | 7, s, t => t.glb = s.glb
  | 8, s, t => t.fc = s.fc
  | 9, s, t => t.hst = s.hst
  | 10, s, t => t.cl = s.cl
  | 11, s, t => t.sch = s.sch
  | 12, s, t => t.be = s.be
  | 13, s, t => t.ref = s.ref
  | 14, s, t => t.tly = s.tly
  | 15, s, t => t.cg = s.cg
  | 16, s, t => t.net = s.net
  | 17, s, t => t.wb = s.wb
  | 18, s, t => t.lmu = s.lmu
  | 19, s, t => t.sbu = s.sbu
  | 20, s, t => t.twn = s.twn
  | 21, s, t => t.rcp = s.rcp
  | 22, s, t => t.clk = s.clk
  | 23, s, t => t.out = s.out
  | 24, s, t => t.freeN = s.freeN
  | 25, s, t => t.tb.raw = s.tb.raw
  | 26, s, t => t.glb.vinOn = s.glb.vinOn ∧ t.glb.vauxOn = s.glb.vauxOn
  | _, _, _ => True

/-- From `s` to `t`: the queue of commands stays; canonical stores stay canonical; what has left the block stays on record; free
values are never taken back; and every part whose bit of `m` is 0 stays as it is. -/
structure Within (m : Nat) (s t : State) : Prop where
  queue : t.pending = s.pending
  canon : StoresCanonical s → StoresCanonical t
  out : s.out <+: t.out
  free : s.freeN ≤ t.freeN
  parts : ∀ i, m.testBit i = false → SamePart i s t

/-- The bits of the parts in a list. -/
def parts (l : List Nat) : Nat := l.foldl (fun m i => m ||| 2 ^ i) 0

/-- What raising a source may change: the registers, the Cellar with its event log, the states and their collector, the host port, the
lanes, the Ledger, the twin, and what leaves the block. A write that the arbiter takes for a violation raises one. -/
def raised : Nat := parts [0, 5, 7, 8, 9, 10, 14, 20, 23]

/-- What a command may change, as the bits of `Within`: its effect, and for a register write the violation that it may be. -/
def footprint : Instr → Nat
  | .relayCycleMark .. | .mdioDone .. | .fallbackTrim .. | .waveformApply .. | .timeSourceLoss .. | .lmuRefReady ..
      => parts [0]
  | .smbusTimeout .. => parts [9]
  | .capestUpdate .. | .resyncHold .. => parts [12]
  | .sbuFilterChange .. | .sbuTestPulse .. => parts [19]
  | .fallbackNotReadyTimeout .. => parts [22]
  | .refreshStart .. => parts [23]
  | .cellarPinitDone .. => parts [0, 5]
  | .slewComplete .. => parts [0, 6]
  | .orderlyBlockTimeout .. => parts [0, 7]
  | .uplinkCutoff .. | .selectionComplete .. | .timingComplete .. | .fpUpdatePoint .. => parts [0, 12]
  | .orderApply .. => parts [0, 13]
  | .coreScheduleDone .. | .graphImageReady .. | .paramApply .. => parts [0, 15]
  | .fbTrigger .. => parts [0, 16]
  | .wbRelaySkip .. => parts [0, 17]
  | .lmuCalAutoStart .. => parts [0, 18]
  | .rehReceived .. => parts [0, 20]
  | .commitConfirmReceived .. => parts [0, 21]
  | .gateQuiesced .. | .ungateRelease .. | .plVcoreSettled .. => parts [0, 22]
  | .gapIdleEnter .. | .pdelayReqReceived .. | .lanternEdge .. => parts [0, 23]
  | .ppsOutEdge .. | .ppsOutFall .. => parts [6, 23]
  | .msixTableAccess .. | .ostlerResultReady .. => parts [9, 23]
  | .wbOutReturn .. => parts [17, 23]
  | .tbRawWrap .. => parts [6, 25]
  | .wbWindowClose .. => parts [0, 17, 18]
  | .rehearsalDriveStart .. | .rehearsalDriveEnd .. => parts [0, 10, 20]
  | .dmInserviceSend .. => parts [0, 10, 23]
  | .prpSupervisionSend .. => parts [0, 16, 23]
  | .rehearsalAuto .. => parts [0, 20, 23]
  | .lmuWindowClose .. => parts [0, 18, 24]
  | .vauxDomainRelease .. => parts [0, 7, 26]
  | .flr .. | .pcieConfigRequest .. | .perst .. => parts [0, 4, 9, 23]
  | .ptpSyncTimeout .. => parts [0, 9, 16, 23]
  | .relayPartnerDetected .. => parts [0, 9, 20, 23]
  | .houseStoreComplete .. => parts [0, 9, 21, 23]
  | .ledgerArmed .. => parts [0, 5, 8, 9, 23]
  | .carriedItemApply .. => parts [0, 2, 13, 20, 23]
  | .commitProposalReceived .. => parts [0, 9, 21, 22, 23]
  | .fpCompareFire .. | .ledgerTrigger .. | .partnerLedgerTrigger .. | .ledgerStart .. => parts [0, 5, 8, 9, 14, 23]
  | .laneIdleExpired .. | .laneBurstSent .. | .laneRxLock .. | .laneMeasureDone .. | .laneRetryExpired ..
  | .ringSplit .. | .faultLiveClear .. | .forwardedBlockReceived .. | .autoArm .. | .ostlerHeartbeat ..
  | .lanternInEdge .. | .ostlerClockReturn .. => parts [0, 5, 7, 8, 9, 10, 14, 23]
  | .imgReceived .. => parts [0, 5, 8, 9, 13, 14, 15, 23]
  | .arm .. | .deblock .. | .block .. | .disarm .. | .opblkWrite .. | .missrunLimit .. | .levelGenComplete ..
  | .refHeldLimit .. | .slkclr .. | .schCntclr .. | .reverify .. | .maxclr .. | .hinWrite .. | .beCntclr ..
  | .insCntclr .. | .clAuxselWrite .. | .laneTs2Received .. | .laneTrainTimeout .. | .laneLockLoss ..
  | .laneSignalLoss .. | .laneRxwaitExpired .. | .laneRetrain .. | .giclr .. | .clCntclr .. | .gapIdleExit ..
  | .gapExitLockCheck .. | .dmrspReceived .. | .dmrspTimeout .. | .pqFlush .. | .scrubPassDone .. | .ltrig ..
  | .lrelease .. | .extract .. | .extractDone .. | .tbCntclr .. | .netCntclr .. | .lmuRefenWrite .. | .lmuRefFault ..
  | .lmuCntclr .. | .faultRaise .. | .collectorSelfFault .. | .fcUnlock .. | .fcTestWrite .. | .injPulse ..
  | .injHold .. | .injRelease .. | .relayTrained .. | .relayLaneLoss .. | .relayLaneRejoin .. | .relayRetrain ..
  | .twnCntclr .. | .relayIdReceived .. | .relayHbReceived .. | .ublkReceived .. | .degReceived .. | .resync ..
  | .takeover .. | .rehearse .. | .pcieLinkChange .. | .hstRelease .. | .ostlerRestartDone .. | .mdioStart ..
  | .railOutOfWindow .. | .muxForcedSwitch .. | .junctionTempWarn .. | .pllLockRegained .. | .roleWaitExpiry ..
  | .cyclePhaseErrorLimit .. | .tallyCkptOverdue .. | .ledgerFreeze .. | .fastPathFault .. | .sbuStatusLost ..
  | .aliveTokenTimeout .. | .lanternReadbackFault .. | .ostlerHeartbeatLost .. | .lanternInStopped ..
  | .relayAttemptTimeout .. | .relayLinkLost .. | .relayHbMissed .. | .twinAlignChange .. | .tkreqReceived ..
  | .orphanAdoption .. | .prefReturn .. | .driveExerciseOverdue .. | .regulatorFault .. => raised
  | .graphInit .. => parts [0, 5, 7, 8, 9, 10, 13, 14, 15, 23]
  | .acceptRegisterWrite .. | .armSelectionLimitWrite .. | .ledgerDisable .. | .fcSevWrite .. => raised ||| parts [1]
  | .pcommit .. | .ocommit .. | .wcommit .. => raised ||| parts [3]
  | .tbRateWrite .. | .slew .. | .slewstop .. | .ppsLoss .. => raised ||| parts [6]
  | .rankingComplete .. | .engineFault .. | .exclude .. | .include .. | .failbyp .. | .spareIn .. | .spareOut ..
  | .rerank .. | .chainEnumerated .. | .cellarEccUncorrectable .. | .ckpt .. | .ostlerLoadWindow .. | .linkTimeout ..
  | .tallyFold .. | .lifeApply .. | .tallyLoadDone .. | .tallyCkptDue .. | .tallyCkptRetry .. => raised ||| parts [12]
  | .preset .. => raised ||| parts [13]
  | .graphStall .. | .coreEccError .. | .greset .. => raised ||| parts [15]
  | .ethLinkChange .. | .svFrameReceived .. | .svSubscriptionLost .. | .ptpAnnounceReceived ..
  | .ptpAnnounceTimeout .. | .pdelayReqSend .. | .pdelayRespReceived .. | .ptprst .. | .prpPortLost .. | .fbLaunch ..
  | .hstNtx .. => raised ||| parts [16]
  | .donepop .. => raised ||| parts [17]
  | .pqSubmit .. | .pqPop .. | .lmuConversionDone .. | .lmuPassEnd .. | .lmuTrigger .. | .swtrg ..
  | .lmuTimerTrigger .. | .cal .. | .lmuCalDone .. | .lmuDchStale .. | .clrReact .. | .clrFirst .. | .clrSticky ..
  | .tknoteReceived .. | .takeoverPoint .. | .rehearsalCheck .. => raised ||| parts [18]
  | .sbuTick .. | .sbuDiscrepancyLatch .. | .sbuReadbackFault .. | .sbuTestEnd .. | .sbuClear .. | .safeAckExpiry ..
  | .sbuOscFault .. | .sbuXchkFault .. | .sbuVsafeOut .. | .sbuStatusReceived .. => raised ||| parts [19]
  | .rcpVerify .. | .rcpLoad .. | .rcpStore .. | .storeComplete .. | .slotErase .. | .slotEraseComplete ..
  | .houseRead .. | .houseStore .. | .keyWrite .. | .keyRevoke .. | .minverSet .. | .commitConfirmDeadline ..
      => raised ||| parts [21]
  | .vinPowerWarning .. | .softwareReset .. | .fallbackOscReady .. | .clkGateWrite .. | .gateQuiesceTimeout ..
  | .plreq .. | .replicaOverLimit .. | .plCellarSwitched .. | .plVcoreTimeout .. => raised ||| parts [22]
  | .vinDomainRelease .. => raised ||| parts [26]
  | .fpCommit .. => raised ||| parts [3, 12]
  | .snapReceived .. => raised ||| parts [12, 13]
  | .graphRunComplete .. => raised ||| parts [13, 15]
  | .fbTake .. => raised ||| parts [16, 17]
  | .scommit .. => raised ||| parts [3, 18]
  | .uplinkFrameReceived .. | .parcelRetryExhausted .. | .parcelBusyTimeout .. => raised ||| parts [12, 18]
  | .wbCancel .. | .wbFlush .. => raised ||| parts [17, 18]
  | .safeAck .. => raised ||| parts [19, 21]
  | .loadComplete .. | .rcpCommit .. | .rcpAbort .. | .stageAreaWrite .. | .verifyComplete .. => raised ||| parts [21, 22]
  | .ethFrameReceived .. => raised ||| parts [16, 24]
  | .armFreeze .. => raised ||| parts [11, 12, 18]
  | .cycleStartToken .. => raised ||| parts [2, 13, 22]
  | .link .. | .recover .. => raised ||| parts [12, 18, 22]
  | .ostlerWatchdog .. => raised ||| parts [21, 22, 24]
  | .insLimitWrite .. => raised ||| parts [1, 6, 15, 16]
  | .slackVerifyDone .. => raised ||| parts [11, 12, 13, 18, 22]
  | .shutdown .. | .partnerShutdownReceived .. => raised ||| parts [12, 15, 17, 18, 22]
  | .clockFailure .. => raised ||| parts [12, 15, 16, 17, 18, 22]
  | .tallyCkptDone .. => raised ||| parts [12, 15, 17, 18, 22, 24]
  | .carriedItemReceived .. | .refreshApply .. => raised ||| parts [1, 3, 6, 12, 15, 16, 17, 18, 21]
  | .bootStepDone .. => raised ||| parts [1, 3, 6, 12, 13, 15, 16, 21, 22]
  | .unmapSeenClear .. | .stepTime .. | .setTime .. | .push .. | .ptpSyncReceived .. | .ptpFollowUpReceived ..
  | .ppsInEdge .. | .wbEntryStart .. => raised ||| parts [1, 3, 6, 12, 13, 15, 16, 17, 18, 22]
  | .cycleStart .. => raised ||| parts [1, 3, 6, 11, 12, 13, 15, 16, 17, 18, 22]
  | .registerWrite .. | .dmaStart .. => raised ||| parts [1, 3, 6, 12, 13, 15, 16, 17, 18, 19, 21, 22]
  | .commitPrepareEnd .. | .commitSwitch .. => raised ||| parts [1, 2, 3, 6, 12, 13, 15, 16, 17, 18, 19, 21, 22]
  | .pcieMemoryRequest .. | .dmaAbort .. | .dmaComplete .. | .ostlerRequest ..
      => raised ||| parts [1, 3, 4, 6, 12, 13, 15, 16, 17, 18, 19, 21, 22]
  | .vinDomainReset .. => raised ||| parts [1, 2, 3, 4, 6, 11, 12, 13, 15, 16, 17, 18, 21, 22, 24, 25, 26]
  | .vauxDomainReset .. => raised ||| parts [1, 2, 3, 4, 6, 11, 12, 13, 15, 16, 17, 18, 19, 21, 22, 24, 25, 26]

/-- A command that writes a register that its operands name, or under which a Waybill entry with such a write may fall due. -/
def carriesWrites : Instr → Bool
  | .deblock .. | .registerWrite .. | .pcieMemoryRequest .. | .ostlerRequest .. | .dmaStart .. | .dmaAbort .. | .dmaComplete ..
  | .unmapSeenClear .. | .push .. | .wbEntryStart | .cycleStart | .stepTime .. | .setTime .. | .ppsInEdge | .ptpSyncReceived ..
  | .ptpFollowUpReceived .. => true
  | _ => false

end Sys2Proof
end

