-- ==== Sys2Proof/Certificates/Slice0/Obligations.lean ====
section
/-! DEFINITION. The statements of this model, written from the numbered rules of spec/: one definition per claim. -/

open Sys2Proof Sys2Proof.Machine

/-- For every command c and state s, a step with c at the front of the queue is exec of c on s with the queue's rest; commands take
  effect one by one in the order of the queue. That an empty queue ticks the timebase, or idles while its clock does not run, is the
  model's choice (notes/assumptions/1). (R8, R26, R353) -/
def Obligations.StepRunsTheFrontCommand : Prop :=
  (∀ (c : Instr) (s : State), step { s with pending := c :: s.pending } = exec c s) ∧
  (∀ (c : Instr) (l : List Instr) (s : State), s.pending = c :: l → step s = exec c { s with pending := l }) ∧
  (∀ (s : State), s.pending = [] → s.clocked = true → step s = .next (tick s)) ∧
  (∀ (s : State), s.pending = [] → s.clocked = false → step s = .next s)

/-- Right after reset every field of the map reads its reset column (for one without a value, the model's choice: notes/assumptions),
  the state is BOOT with STEP 0x01 and role WAIT, TB.RAW is 0, no command waits, nothing has left the block, and every store is in
  canonical form. (R6, R11, R19, R574) -/
def Obligations.ResetState : Prop :=
  (∀ (f : Fld), State.reset.rd f = f.reset % 2 ^ f.w) ∧
  (StoresCanonical State.reset) ∧
  (State.reset.st = stBOOT ∧ State.reset.rd F.GLB_STATE_STEP = 0x01 ∧ State.reset.role = roWAIT ∧ State.reset.tb.raw = 0 ∧
    State.reset.pending = [] ∧ State.reset.out = [] ∧ State.reset.cellar = {})

/-- No command of the table ends in a fault or a refusal: from every state a step completes, and k steps in a row complete for every k.
  (R6, R533, R579) -/
def Obligations.StepNeverFails : Prop :=
  ∀ (k : Nat) (s : State), Completes s ∧ RunsFor k s

/-- From any state whose register file, shadows, sampled and captured values, read latches, Cellar, Tally stores, host tables and
  network store are in canonical form (keys strictly rising, no entry equal to what an unlisted key reads), a step that answers a
  next state leaves them so. (R325, R574) -/
def Obligations.StepKeepsCanonical : Prop :=
  ∀ (s t : State), StoresCanonical s → step s = .next t → StoresCanonical t

/-- For every command c and state s: from s to the next state the queue stays, stores keep their canonical form, what has left the block
  stays on record, no free value is taken back, and every part of the state outside footprint c (Sys2Proof/Safety.lean) stays as it
  was. So no command but a VIN reset and the wrap of TB.RAW moves TB.RAW, only the resets and releases of the two domains change
  their power, and only commands that reach the SBU change its state. (R20, R353, R436, R553) -/
def Obligations.CommandsKeepToTheirFootprint : Prop :=
  (∀ (c : Instr) (s t : State), exec c s = .next t → Within (footprint c) s t) ∧
  (∀ (c : Instr) (s t : State), exec c s = .next t → (∀ x r, c ≠ .vinDomainReset x r) → c ≠ .vauxDomainReset → c ≠ .tbRawWrap →
    t.tb.raw = s.tb.raw) ∧
  (∀ (c : Instr) (s t : State), exec c s = .next t → (∀ x r, c ≠ .vinDomainReset x r) → (∀ p, c ≠ .vinDomainRelease p) → (∀ a,
    c ≠ .vauxDomainRelease a) → c ≠ .vauxDomainReset → t.glb.vinOn = s.glb.vinOn ∧ t.glb.vauxOn = s.glb.vauxOn)

/-- Whatever command runs, a path of the SBU that is energised after it was energised before it, unless the command is SBU_TICK: nothing
  on the main side closes a path. (R20, R443) -/
def Obligations.PathsCloseOnlyAtASafetyTick : Prop :=
  ∀ (c : Instr) (k : Nat) (s t : State), exec c s = .next t → (∀ si ea eb v rb, c ≠ .sbuTick si ea eb v rb) → (t.path k).on = true →
    (s.path k).on = true

/-- No step lowers MINVER, a reset of either domain included. MINVER_SET with its key makes it the VERSION of the active Recipe;
  with that VERSION below the present value it is refused with code 0x0A; an image that validates has a VERSION of MINVER or more.
  (R65) -/
def Obligations.RollbackFloorNeverLowered : Prop :=
  (∀ (s t : State), step s = .next t → s.rcp.minver ≤ t.rcp.minver) ∧
  (∀ (m : Master) (s : State), s.grants m .p 0x10000 = true → s.rcp.job = none → s.rcp.minver ≤ s.rd F.RCP_ACT_VER_VALUE →
    ∃ t : State, exec (.minverSet m 0xA5C3) s = .next t ∧ t.rcp.minver = s.rd F.RCP_ACT_VER_VALUE) ∧
  (∀ (m : Master) (s : State), s.grants m .p 0x10000 = true → s.rcp.job = none → s.rd F.RCP_ACT_VER_VALUE < s.rcp.minver →
    exec (.minverSet m 0xA5C3) s = .next (rcpRefuse 0xC 0x0A s)) ∧
  (∀ (b : List Byte) (n : Nat) (s : State), (readRecipe (b.take (imageLen b))).version < s.rcp.minver → verifyImage s b n ≠ none)

/-- ARM while no process of R25 runs: the hold code is that of the first condition of R37 that fails, in its order, and 0 when all hold;
  AUTO_ARM arms in LINKED when all but the key's hold and else has no effect. (R37) -/
def Obligations.ArmConditions : Prop :=
  (∀ (m : Master) (k : BitVec 16) (s : State), s.grants m .p 0xC = true → s.busy = false → exec (.arm m k) s
    = .next (command 3 (if s.eff ≠ stLINKED then 0x01 else if k.toNat ≠ 0xA5C3 then 0x02 else if s.role ≠ roSOLO ∧ s.role ≠ roACTIVE
    ∧ s.role ≠ roSTANDBY then 0x06 else if s.glb.tstmode = true then 0x10 else if s.rd F.RCP_SBUCRC_CRC ≠ s.rd (secCrcFld 6)
    ∨ s.flag F.SBU_STS_CFG = false then 0x0A else if s.flag F.LMU_STS_CALDONE = false ∨ s.flag F.LMU_STS_CAL_NRDY = true then 0x0B
    else if s.flag F.SCH_SLKVER_PASS = false ∨ s.rd F.SCH_SLKVER_PL ≠ s.inforce then 0x09 else if s.flag F.SBU_STS_PROOF = false
    then 0x04 else if s.flag F.SBU_STS_ALLCLOSED = false then 0x05 else if s.flag F.FC_STS_BLK = true ∨ s.flag F.FC_STS_TRIP = true
    then 0x03 else 0) (changeState stARMED 0x40) s)) ∧
  (∀ (s : State), s.flag F.GLB_AUTO_AUTO_ARM = true → s.st = stLINKED → s.armHold true = 0 → exec .autoArm s
    = .next (changeState stARMED 0x40 s)) ∧
  (∀ (s : State), (s.flag F.GLB_AUTO_AUTO_ARM = false ∨ s.st ≠ stLINKED ∨ s.armHold true ≠ 0) → exec .autoArm s = .next s)

/-- DEBLOCK while no process of R25 and no rehearsal runs: the hold code is that of the first condition of R39 that fails, in its order,
  and 0 when all hold; accepted, it becomes pending. No command makes a DEBLOCK pending but DEBLOCK itself and those that may carry
  a write of GLB.CMD (carriesWrites: register writes, requests, and what may make a Waybill record fall due). (R39) -/
def Obligations.DeblockConditions : Prop :=
  (∀ (m : Master) (k : BitVec 16) (s : State), s.grants m .p 0xC = true → s.busy = false → s.flag F.TWN_STS_REH = false →
    exec (.deblock m k) s = .next (command 4 (if s.eff ≠ stARMED ∧ s.eff ≠ stBLOCKED then 0x01 else if k.toNat ≠ 0xA5C3 then 0x02
    else if s.role ≠ roSOLO ∧ s.role ≠ roACTIVE then 0x06 else if s.flag F.FC_STS_BLK = true ∨ s.flag F.FC_STS_TRIP = true then 0x03
    else if s.flag F.SBU_STS_SO0 = false ∨ s.flag F.SBU_STS_SO1 = false then 0x0C else if ∃ n ∈ s.arms,
    s.navail n < s.rd (F.ARM_POPMIN_N n) then 0x07 else if s.flag F.GLB_DBCHK_VCHK_EN = true ∧ ¬ (∀ n ∈ s.arms,
    s.rd F.GLB_DBCHK_VMIN * max 1 ((s.armCells n).filter (·.inO)).length ≤ (((s.armCells n).filter (·.inO)).map (·.vcap)).sum)
    then 0x08 else if s.flag F.GLB_DBCHK_SYNCREQ = true ∧ s.flag F.REF_SYN_STS_INSYNC = false then 0x0D
    else 0) (fun t => { t with glb := { t.glb with deblockPend := true } }) s)) ∧
  (∀ (c : Instr) (s t : State), exec c s = .next t → s.glb.deblockPend = false → carriesWrites c = false →
    t.glb.deblockPend = false)

/-- A reset of the VIN domain leaves STICKY, REAL, INJ, the first-fault record and SELFSEEN as they are and makes LIVE and the latched
  flags 0; after a VAUX reset all of them are 0. (R464) -/
def Obligations.CollectorRecordSurvivesAVinReset : Prop :=
  (∀ (c : Fin 4) (r : Fin 11) (s t : State), exec (.vinDomainReset c r) s = .next t → (∀ w < 16,
    t.rd (F.FC_STICKY_S w) = s.rd (F.FC_STICKY_S w) ∧ t.rd (F.FC_REAL_B w) = s.rd (F.FC_REAL_B w) ∧
    t.rd (F.FC_INJB_B w) = s.rd (F.FC_INJB_B w)) ∧ (∀ f ∈ [F.FC_STS_SELFSEEN, F.FC_STS_FIRSTV, F.FC_FIRST_SRC, F.FC_FIRST_SEV,
    F.FC_FIRST_INJ, F.FC_FIRST_VALID, F.FC_FIRST_COINC, F.FC_FIRSTT_LO_VAL, F.FC_FIRSTT_HI_VAL, F.FC_FIRSTCYC_VAL],
    t.rd f = s.rd f)) ∧
  (∀ (c : Fin 4) (r : Fin 11) (s t : State), s.glb.vinOn = true → c.val ≠ 3 → exec (.vinDomainReset c r) s = .next t → (∀ w < 16,
    t.rd (F.FC_LIVE_B w) = 0) ∧ t.fc = {} ∧ (∀ f ∈ [F.FC_STS_DEG, F.FC_STS_HOV, F.FC_STS_BLK, F.FC_STS_TRIP, F.FC_STS_SELF],
    t.rd f = 0)) ∧
  (∀ (a : BitVec 2) (s t u : State), s.glb.vauxOn = true → exec .vauxDomainReset s = .next t → exec (.vauxDomainRelease a) t
    = .next u → (∀ w < 16, u.rd (F.FC_STICKY_S w) = 0 ∧ u.rd (F.FC_REAL_B w) = 0 ∧ u.rd (F.FC_INJB_B w) = 0 ∧
    u.rd (F.FC_LIVE_B w) = 0) ∧ (∀ f ∈ [F.FC_STS_SELFSEEN, F.FC_STS_FIRSTV, F.FC_FIRST_SRC, F.FC_FIRST_SEV, F.FC_FIRST_INJ,
    F.FC_FIRST_VALID, F.FC_FIRST_COINC, F.FC_FIRSTT_LO_VAL, F.FC_FIRSTT_HI_VAL, F.FC_FIRSTCYC_VAL], u.rd f = 0))

/-- The CRC of the model takes each byte by an exclusive-or into the low bits and eight shift steps with the bit-reversed polynomial
  0x82F6_3B78, from 0xFFFF_FFFF, with a final exclusive-or with 0xFFFF_FFFF; over "123456789" it is 0xE306_9283. (R55) -/
def Obligations.CastagnoliCheck : Prop :=
  (∀ (b : Byte) (l : List Byte) (c : Nat), crc32c [] = 0 ∧
    (let go := fun (a : Nat) (x : Byte) => Nat.repeat (fun y => if y % 2 = 1 then (y / 2) ^^^ 0x82F63B78 else y / 2) 8 (a ^^^ x.toNat); crc32c (l ++ [b]) ^^^ 0xFFFFFFFF = go (crc32c l ^^^ 0xFFFFFFFF) b)) ∧
  ((∀ i < 32, (0x82F63B78 : Nat).testBit i = (0x1EDC6F41 : Nat).testBit (31 - i)) ∧ crc32c [0x31, 0x32, 0x33, 0x34, 0x35, 0x36,
    0x37, 0x38, 0x39] = 0xE3069283)

/-- Every command that is a register write goes through one gate: a frozen master's write has no effect (R533), a write that does not
  reach its register has none (R28, R540), a write to a gated unit is recorded in CLK.ERR alone (R565), a write that the view or RO
  bars is a violation (R10, R532), and every other write has the command's own effect. A violation by a master that is not frozen:
  VIOL.ADDR takes the address, INFO its kind, WRITE and DMA, the time is TB.NOW, the master's FROZEN bit is set and COUNT goes up;
  then FS(400 + m) is raised and event FREEZE is signalled. A frozen master's record stays. (R10, R532, R533, R534, R540, R565) -/
def Obligations.RegisterWritesAtTheArbiter : Prop :=
  (∀ (m : Master) (v : View) (a : Nat) (k : State → State) (s : State), s.frozen m.owner = true → gate m v a k s = s) ∧
  (∀ (m : Master) (v : View) (a : Nat) (k : State → State) (s : State), s.reach m a = false → gate m v a k s = s) ∧
  (∀ (m : Master) (v : View) (a u : Nat) (k : State → State) (s : State), s.frozen m.owner = false → s.reach m a = true →
    s.gatedAt a = some u → gate m v a k s = (s.wr F.CLK_ERR_GACC 1).wr F.CLK_ERR_UNIT u) ∧
  (∀ (m : Master) (v : View) (a : Nat) (k : State → State) (s : State), s.frozen m.owner = false → s.reach m a = true →
    s.gatedAt a = none → m.owner = 1 → v ≠ .u → gate m v a k s = violation m a 0 true s) ∧
  (∀ (m : Master) (a : Nat) (k : State → State) (s : State), s.frozen m.owner = false → s.reach m a = true → s.gatedAt a = none →
    m.owner = 1 → s.flag F.HST_PF1CFG_RO = true → gate m .u a k s = violation m a 2 true s) ∧
  (∀ (m : Master) (v : View) (a : Nat) (k : State → State) (s : State), s.grants m v a = true → gate m v a k s = k s) ∧
  (∀ (m : Master) (a kind : Nat) (w : Bool) (s : State), s.frozen m.owner = false →
    violation m a kind w s = (raise (400 + m.owner) (((((((((s.wr (F.HST_VIOL_ADDR_ADDR m.owner) a).wr (F.HST_VIOL_INFO_KIND m.owner) kind).wr (F.HST_VIOL_INFO_WRITE m.owner) (b2n w)).wr (F.HST_VIOL_INFO_DMA m.owner) (b2n (m.bank == 3))).wr (F.HST_VIOL_T_LO_T m.owner) s.now).wr (F.HST_VIOL_T_HI_T m.owner) (s.now / 2 ^ 32)).putBit F.HST_FRZ_FROZEN m.owner true).inc F.HST_FRZ_COUNT))).event 16) ∧
  (∀ (m : Master) (a kind : Nat) (w : Bool) (s : State), s.frozen m.owner = true →
    violation m a kind w s = (raise (400 + m.owner) s).event 16)

/-- State.event e sets bit e of the EVSTS word of the three banks (PF0, PF1, Ostler); no other bit of them changes, and no register but
  EVSTS does. (R525, R526) -/
def Obligations.EventReachesEveryBank : Prop :=
  (∀ (b e : Nat) (s : State), b < 3 → e < 32 → (s.event e).rdBit (F.HST_EVSTS_EV.inBank b) e = true) ∧
  (∀ (b e i : Nat) (s : State), b < 3 → i ≠ e → (s.event e).rdBit (F.HST_EVSTS_EV.inBank b) i = s.rdBit (F.HST_EVSTS_EV.inBank b) i) ∧
  (∀ (e : Nat) (f : Fld) (s : State), (∀ b, b < 3 → f.key ≠ (F.HST_EVSTS_EV.inBank b).key) → (s.event e).rd f = s.rd f)

/-- A command judged with hold code 0 writes its CODE, counts SEQ, makes a class 5 entry, has its effect, and reads RESULT 1; with a
  hold code it writes RESULT 2 and HOLD and has no other effect. Both signal event CMD. While arm cycles run changeState only notes
  the new state and step; with arm cycles stopped applyState writes PREV, STATE, STEP, the time and cycle of the change, makes a
  class 2 entry and signals event STATE. When the write reaches GLB.CMD and no hold code applies, each command of R22 is accepted
  with its own effect: ARM asks for ARMED, DEBLOCK becomes pending, an urgent BLOCK of a unit that drives blocks every arm, DISARM
  asks for LINKED and supersedes a pending DEBLOCK; LINK, RECOVER and SHUTDOWN start their processes. A write of 1 to GLB.OPBLK
  reads 1 until the next cycle start while arm cycles run and is an urgent block. A command of GLB.CMD that its conditions refuse is
  reported with the first failing hold code and has no other effect. (R21, R22, R23, R24, R25, R40, R46, R47, R48, R51, R328, R525) -/
def Obligations.StateCommands : Prop :=
  (∀ (c : Nat) (k : State → State) (s : State),
    command c 0 k s = ((k (((s.wr F.GLB_CMDSTS_CODE c).count F.GLB_CMDSTS_SEQ).logCommand c 0)).wr F.GLB_CMDSTS_RESULT 1).event 2) ∧
  (∀ (c h : Nat) (k : State → State) (s : State), h ≠ 0 →
    command c h k s = (((((s.wr F.GLB_CMDSTS_CODE c).count F.GLB_CMDSTS_SEQ).wr F.GLB_CMDSTS_RESULT 2).wr F.GLB_CMDSTS_HOLD h).logCommand c h).event 2) ∧
  (∀ (n p : Nat) (s : State), s.running = true → changeState n p s = { s with glb := { s.glb with pend := some (n, p) } }) ∧
  (∀ (n p : Nat) (s : State), s.running = false → changeState n p s = applyState n p { s with glb := { s.glb with pend := none } }) ∧
  (∀ (n p : Nat) (s : State), n ≠ stSAFE →
    applyState n p s = lanternJudge (((((((((s.wr F.GLB_STATE_PREV s.st).wr F.GLB_STATE_STATE n).wr F.GLB_STATE_STEP p).wr F.GLB_STCYC_CYC s.cycRec).wr F.GLB_STT_LO_T s.now).wr F.GLB_STT_HI_T (s.now / 2 ^ 32)).logState n s.st).event 1))) ∧
  (∀ (m : Master) (s : State), s.grants m .p 0xC = true → s.linkHold = 0 → exec (.link m) s = .next (command 2 0 linkAct s)) ∧
  (∀ (s : State), s.running = true → s.rd F.GLB_STATE_STEP ≠ 0xF0 → linkAct s = linkStart s) ∧
  (∀ (m : Master) (key : BitVec 16) (s : State), s.grants m .p 0xC = true → s.armHold (decide (key.toNat = cmdKey)) = 0 →
    exec (.arm m key) s = .next (command 3 0 (changeState stARMED 0x40) s)) ∧
  (∀ (m : Master) (key : BitVec 16) (s : State), s.grants m .p 0xC = true → s.deblockHold key.toNat = 0 → exec (.deblock m key) s
    = .next (command 4 0 (fun t => { t with glb := { t.glb with deblockPend := true } }) s)) ∧
  (∀ (m : Master) (arg : Byte) (s : State), s.grants m .p 0xC = true → s.blockHold = 0 → exec (.block m arg) s
    = .next (command 5 0 (blockAct (arg.toNat.testBit 0)) s)) ∧
  (∀ (m : Master) (arg : Byte) (s : State), s.role ≠ roSTANDBY → arg.toNat.testBit 0 = false →
    blockAct (arg.toNat.testBit 0) s = blockAll s) ∧
  (∀ (m : Master) (s : State), s.grants m .p 0xC = true → (s.eff = stARMED ∨ s.eff = stBLOCKED) → exec (.disarm m) s
    = .next (command 6 0 (fun t => changeState stLINKED 0x31 (supersede t)) s)) ∧
  (∀ (m : Master) (key : BitVec 16) (s : State), s.grants m .p 0xC = true → s.recoverHold key.toNat = 0 → exec (.recover m key) s
    = .next (command 7 0 recoverAct s)) ∧
  (∀ (m : Master) (arg : Byte) (key : BitVec 16) (s : State), s.grants m .p 0xC = true → s.shutHold key.toNat = 0 →
    exec (.shutdown m arg key) s
    = .next (command 8 0 (fun t => if t.glb.shutStep != 0 then t else shutBegin (b2n (arg.toNat.testBit 1)) t) s)) ∧
  (∀ (m : Master) (s : State), s.grants m .u 0x14 = true → s.blockable = true → s.role ≠ roWAIT → s.role ≠ roSTANDBY →
    exec (.opblkWrite m) s = .next (blockHere false (s.put F.GLB_OPBLK_BLK s.running))) ∧
  (∀ (m : Master) (s : State), s.grants m .p 0xC = true → s.busy = true → exec (.link m) s = .next (command 2 0xF id s)) ∧
  (∀ (m : Master) (key : BitVec 16) (s : State), s.grants m .p 0xC = true → s.busy = false → s.eff ≠ stLINKED → exec (.arm m key) s
    = .next (command 3 1 id s)) ∧
  (∀ (m : Master) (key : BitVec 16) (s : State), s.grants m .p 0xC = true → s.busy = false → s.flag F.TWN_STS_REH = false →
    (s.eff = stARMED ∨ s.eff = stBLOCKED) → key.toNat ≠ cmdKey → exec (.deblock m key) s = .next (command 4 2 id s)) ∧
  (∀ (m : Master) (arg : Byte) (s : State), s.grants m .p 0xC = true → s.blockable = false → exec (.block m arg) s
    = .next (command 5 1 id s)) ∧
  (∀ (m : Master) (s : State), s.grants m .p 0xC = true → s.eff ≠ stARMED → s.eff ≠ stBLOCKED → exec (.disarm m) s
    = .next (command 6 1 id s)) ∧
  (∀ (m : Master) (key : BitVec 16) (s : State), s.grants m .p 0xC = true → s.busy = false → s.flag F.TWN_STS_REH = false →
    s.eff = stSAFE → s.flag F.FC_STS_SELF = true → exec (.recover m key) s = .next (command 7 0xE id s))

/-- VIN_DOMAIN_RESET while VIN is on (a software reset only after its accepted write): VIN is off, the Cellar lists nothing, every
  shadow, captured value and latch is gone, the units of the domain are at their reset values; the SBU, the stored Recipes, keys and
  house copies stay; RSTCAUSE shows the cause and, for a rail, which; its count goes up. VAUX_DOMAIN_RESET clears what a VIN reset
  clears and the SBU and the Ostler port too; the stored Recipes, keys, house copies and the Tally checkpoint sequence stay.
  VAUX_DOMAIN_RELEASE starts the Ostler, the OFB and the SBU with the OSTADDR straps; VIN_DOMAIN_RELEASE takes the PREF strap and
  shows the SBU's CRC, and raises again the conditions that have lasted. (R551, R553, R554, R566, R589) -/
def Obligations.DomainResets : Prop :=
  (∀ (c : Fin 4) (r : Fin 11) (s : State), s.glb.vinOn = true → c.val ≠ 3 → ∃ t, exec (.vinDomainReset c r) s = .next t ∧
    t.glb.vinOn = false ∧ t.glb.vauxOn = s.glb.vauxOn ∧ t.cellar = {} ∧ t.shadow = {} ∧ t.capt = {} ∧ t.latch = {} ∧ t.tb = {} ∧
    t.fc = {} ∧ t.cl = {} ∧ t.be = {} ∧ t.lmu = {} ∧ t.wb = {} ∧ t.twn = {} ∧ t.sbu = s.sbu ∧ t.rcp.slots = s.rcp.slots ∧
    t.rcp.keys = s.rcp.keys ∧ t.rcp.houses = s.rcp.houses ∧ t.pending = s.pending ∧ t.rd F.CLK_RSTCAUSE_CAUSE = c.val + 1 ∧
    t.rd F.CLK_RSTCAUSE_RAIL = (if c.val = 1 then r.val else 0)) ∧
  (∀ (r : Fin 11) (s : State), s.glb.vinOn = true → s.clk.swReset = true → ∃ t, exec (.vinDomainReset 3 r) s = .next t ∧
    t.glb.vinOn = false ∧ t.cellar = {} ∧ t.rd F.CLK_RSTCAUSE_CAUSE = 4) ∧
  (∀ (c : Fin 4) (r : Fin 11) (s : State), s.glb.vinOn = false → exec (.vinDomainReset c r) s = .next s) ∧
  (∀ (s : State), s.glb.vauxOn = true → ∃ t, exec .vauxDomainReset s = .next t ∧ t.glb.vauxOn = false ∧ t.glb.vinOn = false ∧
    t.cellar = {} ∧ t.sbu = {} ∧ t.hst = {} ∧ t.fc = {} ∧ t.rcp.slots = s.rcp.slots ∧ t.rcp.keys = s.rcp.keys ∧
    t.rcp.minver = s.rcp.minver ∧ t.rcp.houses = s.rcp.houses ∧ t.pending = s.pending) ∧
  (∀ (a : BitVec 2) (s : State), s.glb.vauxOn = false → exec (.vauxDomainRelease a) s
    = .next (((({ s with glb := { s.glb with vauxOn := true } }.wr F.HST_STS_OSTADDR a.toNat).wr F.CLK_SUPSTS_VAUX 1).wr F.CLK_SUPSTS_VDDIOA 1).wr F.CLK_SUPSTS_RAILS 0x780)) ∧
  (∀ (p : Bool) (s : State), s.glb.vinOn = false → s.glb.vauxOn = true → exec (.vinDomainRelease p) s
    = .next (let t := forAll [0, 1, 2] (fun m u => if u.frozen m then raise (400 + m) u else u) (sbuShowCrc ({ s with glb := { s.glb with vinOn := true } }.wr F.GLB_ROLE_PREF (b2n p)));
    if t.glb.tstmode then raise 454 t else t))

/-- BOOT_STEP_DONE with a passed check moves STEP on: 0x01 leaves the supplies, rails and clocks shown good, 0x03 leaves the Tally,
  event-log and staging partitions 0, 0x05 applies the house copy and enters DEFAULTS. A failed step of 0x01 to 0x04 stays in BOOT
  with the source that it names raised. OSTLER_WATCHDOG while the Ostler runs: OSTRDY reads 0, RESTARTS goes up, a result in flight
  is dropped, the RCP command, checkpoint and extract that run are abandoned; expiry raises FS48, an uncorrectable ECC error FS52.
  (R27, R66, R87, R325, R543, R547) -/
def Obligations.BootAndOstlerRestart : Prop :=
  (∀ (f : BitVec 9) (s : State), s.glb.vinOn = true → s.st = stBOOT → s.glb.bootFailed = false → s.rd F.GLB_STATE_STEP = 1 →
    exec (.bootStepDone true f) s = .next ((bootSupplies s).wr F.GLB_STATE_STEP 2)) ∧
  (∀ (f : BitVec 9) (s : State), s.glb.vinOn = true → s.st = stBOOT → s.glb.bootFailed = false → s.rd F.GLB_STATE_STEP = 2 →
    exec (.bootStepDone true f) s = .next (s.wr F.GLB_STATE_STEP 3)) ∧
  (∀ (f : BitVec 9) (s : State), s.glb.vinOn = true → s.st = stBOOT → s.glb.bootFailed = false → s.rd F.GLB_STATE_STEP = 3 →
    exec (.bootStepDone true f) s
    = .next ({ s with cellar := s.cellar.clear 0x180000000 0x40000000, fc := { s.fc with logNext := 0 } }.wr F.GLB_STATE_STEP 4)) ∧
  (∀ (f : BitVec 9) (s : State), s.glb.vinOn = true → s.st = stBOOT → s.glb.bootFailed = false → s.rd F.GLB_STATE_STEP = 4 →
    exec (.bootStepDone true f) s = .next (s.wr F.GLB_STATE_STEP 5)) ∧
  (∀ (k : Bool) (f : BitVec 9) (s : State), s.glb.vinOn = true → s.st = stBOOT → s.glb.bootFailed = false →
    s.rd F.GLB_STATE_STEP = 5 → exec (.bootStepDone k f) s = .next (bootEnd s)) ∧
  (∀ (f : BitVec 9) (s : State), s.glb.vinOn = true → s.st = stBOOT → s.glb.bootFailed = false → s.rd F.GLB_STATE_STEP = 2 →
    exec (.bootStepDone false f) s = .next (raise 32 { s with glb := { s.glb with bootFailed := true } })) ∧
  (∀ (e : Bool) (s : State), s.glb.vauxOn = true → s.flag F.HST_STS_OSTRDY = true → exec (.ostlerWatchdog e) s = .next (raise (if e
    then 52 else 48) (ostlerAbandon (rcpAbandon (let t := (s.wr F.HST_STS_OSTRDY 0).inc F.HST_OSTLER_CNT_RESTARTS;
    { t with hst := { t.hst with sbResult := none, sbReady := false } })))))

/-- The end of a slack verification records its result, and at step 0x20 starts arm cycles or reports hold code 0x09; the last hop of an
  enumeration ends it; the link timeout ends the link process; a trained Relay link comes UP and role resolution goes on; the third
  failed attempt listens with FS368; 2 s without a partner resolve the role. In LINKED with AUTO_ARM and every condition met the
  unit arms itself; an orderly block that times out sets OBLK_TMO and is due at the next cycle start; the ACTIVE unit carries out a
  block that its STANDBY forwards; a shutdown of scope 1 of the partner runs here; the end of a checkpoint lets a shutdown go on;
  the automatic calibration that fails reports hold code 0x0B. (R27, R30, R33, R34, R41, R45, R47, R106, R316, R340, R410, R481) -/
def Obligations.StartUpAndStateEvents : Prop :=
  (∀ (w : BitVec 16) (s : State), s.flag F.SCH_SLKVER_BUSY = true → exec (.slackVerifyDone w) s
    = .next (let t := slackResult w.toNat s; if t.clk.restart.isSome && t.clk.plStep = 0 && !t.running
    then startUp { t with clk := { t.clk with restart := none } } else if !t.clk.start20 || t.clk.plStep != 0 || t.running then t
    else if t.flag F.SCH_SLKVER_PASS && t.inforce = t.rd F.SCH_CFG_PL then armCyclesStart t else t.wr F.GLB_CMDSTS_HOLD 9)) ∧
  (∀ (w : BitVec 16) (s : State), s.flag F.SCH_SLKVER_BUSY = false → exec (.slackVerifyDone w) s = .next s) ∧
  (∀ (l : Fin 128) (h : Nat) (s : State), (s.ln l).ehop = some h → s.flag (F.CL_ENUM_BUSY l) = true → s.liveHops l ≤ h →
    exec (.chainEnumerated l) s
    = .next (linkJudge ((s.wr (F.CL_ENUM_BUSY l) 0).setLn l fun x => { x with ehop := none, enumd := true }))) ∧
  (∀ (s : State), s.linking = true → exec .linkTimeout s = .next (linkEnd s)) ∧
  (∀ (s : State), s.linking = false → s.glb.relink = true → s.eff = stLOADED → s.running = true → exec .linkTimeout s
    = .next (linkStart s)) ∧
  (∀ (l : BitVec 16) (s : State), s.rd F.TWN_STS_LSTATE = 1 → exec (.relayTrained l) s
    = .next (standbyEpoch (roleGoOn (linkUp l.toNat s)))) ∧
  (∀ (s : State), s.rd F.TWN_STS_LSTATE = 1 → s.twn.limit = true → s.twn.attempts < 3 → exec .relayAttemptTimeout s
    = .next ({ s with twn := { s.twn with attempts := s.twn.attempts + 1 } }.emit (.relay 0 s.idBytes))) ∧
  (∀ (s : State), s.rd F.TWN_STS_LSTATE = 1 → s.twn.limit = true → 3 ≤ s.twn.attempts → exec .relayAttemptTimeout s
    = .next (roleGoOn (standbyJudge (raise 368 (linkState 2 { s with twn := { s.twn with failed3 := true } }))))) ∧
  (∀ (s : State), s.glb.roleTimer = true → s.role = roWAIT → exec .roleWaitExpiry s
    = .next (let t := { s with glb := { s.glb with roleTimer := false } }.wr F.GLB_STATE_STEP 0x31; if t.flag F.GLB_ROLE_OBEY_OTHER
    then resolveStandby t else resolveDriver roACTIVE t)) ∧
  (∀ (s : State), s.flag F.GLB_AUTO_AUTO_ARM = true → s.st = stLINKED → s.armHold true = 0 → exec .autoArm s
    = .next (changeState stARMED 0x40 s)) ∧
  (∀ (s : State), s.glb.orderly = true → exec .orderlyBlockTimeout s
    = .next ({ s with glb := { s.glb with orderlyTmo := true } }.wr F.GLB_CMDSTS_OBLK_TMO 1)) ∧
  (∀ (o : Bool) (s : State), s.role = roACTIVE → s.relayUp = true → exec (.forwardedBlockReceived false o) s
    = .next (command 5 s.blockHold (blockHere o) s)) ∧
  (∀ (o : Bool) (s : State), s.role = roACTIVE → s.relayUp = true → s.blockable = true → exec (.forwardedBlockReceived true o) s
    = .next (blockHere false (s.put F.GLB_OPBLK_BLK s.running))) ∧
  (∀ (s : State), s.relayUp = true → s.glb.shutStep = 0 → (s.blockable || decide (s.eff = stSAFE)) = true →
    exec .partnerShutdownReceived s = .next (let t := shutTwo { s with glb := { s.glb with shutScope := 1 } }; if t.running then t
    else shutTail t)) ∧
  (∀ (ok : Bool) (s : State), (ckptDone ok s).running = true → exec (.tallyCkptDone ok) s = .next (ckptDone ok s)) ∧
  (∀ (cyc now : Nat) (s : State), s.tly.ckAt = some (cyc, now) →
    ckptDone false s = raiseEach 440 (let t := ckptLose (((s.wr F.TLY_STS_CKBUSY 0).wr F.TLY_CTL_CKPT 0).event 12);
    { t with tly := { t.tly with ckRetry := true } }.inc F.TLY_CKCNT_FAIL)) ∧
  (∀ (l : List (BitVec 16)) (s : State), s.flag F.LMU_STS_CALBUSY = true → exec (.lmuCalDone l) s
    = .next (if s.lmu.calAuto && !(calDone l s).calibrated then (calDone l s).wr F.GLB_CMDSTS_HOLD 0xB else calDone l s))

/-- The report of a source that is a condition makes it live and raises it once; while it lasts a further report does nothing. A source
  that clears at once is raised by every report. A reserved source, or any source while VIN is off, is never raised. When the
  condition ends the live bit follows; STICKY is not touched. A raise of severity 4 or 5 sets the latched flag BLK, one of severity
  5 TRIP too; severity 4 blocks every arm, severity 5 goes to SAFE; in BOOT no reaction acts, and in SAFE a raise of severity 5 sets
  TRIP alone. FS448 and FS449 act by the wired path. (R455, R456, R458, R461, R462, R463, R470) -/
def Obligations.RaisesAndReactions : Prop :=
  (∀ (fs : Nat) (s : State), reservedSource fs = true → raise fs s = s) ∧
  (∀ (fs : Nat) (s : State), s.glb.vinOn = false → raise fs s = s) ∧
  (∀ (fs : Nat) (s : State), atOnce fs = false → s.fc.cond.contains fs = true → raise fs s = s) ∧
  (∀ (fs : Nat) (s : State), reservedSource fs = false → s.glb.vinOn = true → atOnce fs = true →
    raise fs s = readyJudge (raiseSlot [(fs, true, false)] s)) ∧
  (∀ (fs : Nat) (s : State), reservedSource fs = false → s.glb.vinOn = true → atOnce fs = false → s.fc.cond.contains fs = false →
    raise fs s = readyJudge (raiseSlot [(fs, true, false)] (liveUpdate fs { s with fc := { s.fc with cond := fs :: s.fc.cond } }))) ∧
  (∀ (fs : Nat) (s : State), s.fc.cond.contains fs = true →
    unraise fs s = liveUpdate fs { s with fc := { s.fc with cond := s.fc.cond.filter (· != fs) } }) ∧
  (∀ (lo sev : Nat) (s : State), s.eff = stBOOT → 1 ≤ lo → react lo sev s = s) ∧
  (∀ (lo : Nat) (s : State), s.eff = stSAFE → 1 ≤ lo → react lo 5 s = s.wr F.FC_STS_TRIP 1) ∧
  (∀ (s : State), s.role = roSOLO → react 3 4 s = (if s.eff = stBOOT then s else lanternJudge (blockAll (s.wr F.FC_STS_BLK 1)))) ∧
  (∀ (s : State), selfFault s = lanternJudge (let t := permitWithdraw (blockAll ((s.wr F.FC_STS_SELF 1).wr F.FC_STS_SELFSEEN 1));
    if t.eff = stTEST || t.eff = stSAFE then t else changeState stSAFE 0x80 t))

/-- The reports of one slot are raised together, each defined source once; the end of a condition clears its live bit; FS448 and FS449
  act whatever is live; a silent alive token raises FS450; the other level at LANTERN raises FS451; a lost heartbeat of the Ostler
  raises FS452 and stops LANTERN, a returned one clears it. LANTERN_EDGE while LANTERN runs at a multiple of 500,000 ns: the pin
  takes the other level and the readback follows. LANTERN_IN_EDGE notes the time and the level; LANTERN_IN_STOPPED after 1,500 µs
  raises FS373, and with TKLAN asks for a takeover. lanternJudge sets the four stop causes and runs LANTERN exactly when none holds.
  (R455, R456, R463, R470, R471, R476, R477, R505) -/
def Obligations.CollectorReports : Prop :=
  (∀ (l : List (BitVec 9)) (s : State), s.slotOf (l.map (·.toNat)) = [] → exec (.faultRaise l) s = .next (readyJudge s)) ∧
  (∀ (f : BitVec 9) (s : State), s.slotOf [f.toNat] = [f.toNat] → f.toNat ≠ 454 → f.toNat ≠ 438 → f.toNat ≠ 1 →
    atOnce f.toNat = false → exec (.faultRaise [f]) s = .next (readyJudge (raiseSlot [(f.toNat, true,
    false)] (liveUpdate f.toNat { s with fc := { s.fc with cond := f.toNat :: s.fc.cond } })))) ∧
  (∀ (f : BitVec 9) (s : State), (f.toNat = 448 ∨ f.toNat = 449) → exec (.faultLiveClear f) s = .next s) ∧
  (∀ (f : BitVec 9) (s : State), 6 ≤ f.toNat → f.toNat ≠ 448 → f.toNat ≠ 449 → f.toNat ≠ 451 → f.toNat ≠ 454 →
    exec (.faultLiveClear f) s = .next (unraise f.toNat s)) ∧
  (∀ (e : Bool) (s : State), s.fc.cond.contains (if e then 449 else 448) = true → exec (.collectorSelfFault e) s
    = .next (readyJudge (selfFault s))) ∧
  (∀ (e : Bool) (s : State), s.fc.cond.contains (if e then 449 else 448) = false → exec (.collectorSelfFault e) s
    = .next (raise (if e then 449 else 448) s)) ∧
  (∀ (s : State), exec .aliveTokenTimeout s = .next (raise 450 s)) ∧
  (∀ (s : State), exec .lanternReadbackFault s = .next (raise 451 (s.put F.FC_LANTERN_RB (!s.flag F.FC_LANTERN_OUT)))) ∧
  (∀ (s : State), exec .ostlerHeartbeat s = .next (unraise 452 (lanternJudge (s.wr F.FC_OHB_LOST 0)))) ∧
  (∀ (s : State), exec .ostlerHeartbeatLost s = .next (raise 452 (lanternJudge (s.wr F.FC_OHB_LOST 1)))) ∧
  (∀ (s : State), s.flag F.FC_LANTERN_RUN = true → s.rawNs % 500000 = 0 → s.fc.cond.contains 451 = false → exec .lanternEdge s
    = .next (((s.put F.FC_LANTERN_OUT (!s.flag F.FC_LANTERN_OUT)).put F.FC_LANTERN_RB (!s.flag F.FC_LANTERN_OUT)).emit (.pin 5 (!s.flag F.FC_LANTERN_OUT)))) ∧
  (∀ (t : Nat) (s : State), s.fc.linPrev = some t → s.sinceNs t < 450000 → exec .lanternInEdge s
    = .next ({ s with fc := { s.fc with linPrev := some s.rawNs, linGood := 0 } }.put F.FC_LIN_LEVEL (!s.flag F.FC_LIN_LEVEL))) ∧
  (∀ (t : Nat) (s : State), s.flag F.FC_LIN_STOPPED = false → s.fc.linPrev = some t → 1500000 ≤ s.sinceNs t → s.role ≠ roSTANDBY →
    exec .lanternInStopped s
    = .next (let u := raise 373 ((({ s with fc := { s.fc with linGood := 0 } }.wr F.FC_LIN_RUNNING 0).wr F.FC_LIN_STOPPED 1).inc F.FC_LIN_STOPCNT);
    if u.flag F.TWN_CFG_TKLAN then takeoverTrigger 1 u else u)) ∧
  (∀ (s : State),
    (lanternJudge s).flag F.FC_LANTERN_RUN = (!(s.flag F.FC_STS_HOV || s.flag F.FC_STS_BLK || s.flag F.FC_STS_TRIP) && (s.st == stLOADED || s.st == stLINKED || s.st == stARMED || s.st == stRUN || s.st == stBLOCKED) && !s.flag F.FC_OHB_LOST && !s.flag F.FC_STS_SELF))

/-- CLR_FIRST with its key empties the first-fault record; CLR_STICKY clears STICKY, REAL and INJ of every source that is not live;
  CLR_REACT with its key clears each latched flag whose severity no live source has; without the key a command reads RESULT 3 and
  has no effect. A write to a severity word sets its fields but those of FS448, FS449 and reserved sources, and a live source of
  raised severity reacts; the unlock code on the Ostler port with TSTMODE high enters TEST, a wrong one counts and locks out at the
  third; FC.TEST and FC.INJ act in TEST alone, elsewhere they set REFUSED. (R457, R462, R463, R466, R467, R468, R472, R473, R474,
  R475) -/
def Obligations.CollectorCommands : Prop :=
  (∀ (m : Master) (k : BitVec 16) (s : State), s.grants m .p 0x3B0004 = true → s.glb.vinOn = true → s.st ≠ stBOOT → k.toNat = cmdKey
    → exec (.clrReact m k) s = .next (clrReact s)) ∧
  (∀ (m : Master) (k : BitVec 16) (s : State), s.grants m .p 0x3B0004 = true → s.glb.vinOn = true → s.st ≠ stBOOT → k.toNat ≠ cmdKey
    → exec (.clrReact m k) s = .next (((s.wr F.FC_CMDSTS_RESULT 3).count F.FC_CMDSTS_SEQ).event 2)) ∧
  (∀ (s : State), s.flag F.FC_STS_DEG = false → s.flag F.FC_STS_HOV = false → s.flag F.FC_STS_BLK = true →
    s.flag F.FC_STS_TRIP = false → s.liveAt 4 = false →
    clrReact s = readyJudge (lanternJudge (((((s.wr F.FC_STS_BLK 0).wr F.FC_CMDSTS_KEPT 0).wr F.FC_CMDSTS_RESULT 1).count F.FC_CMDSTS_SEQ).event 2))) ∧
  (∀ (m : Master) (k : BitVec 16) (s : State), s.grants m .p 0x3B0004 = true → k.toNat = cmdKey → exec (.clrFirst m k) s
    = .next ((((((((((((s.wr F.FC_FIRST_SRC 0).wr F.FC_FIRST_SEV 0).wr F.FC_FIRST_INJ 0).wr F.FC_FIRST_VALID 0).wr F.FC_FIRST_COINC 0).wr F.FC_STS_FIRSTV 0).wr F.FC_FIRSTCYC_VAL 0).wr F.FC_FIRSTT_LO_VAL 0).wr F.FC_FIRSTT_HI_VAL 0).wr F.FC_CMDSTS_RESULT 1).count F.FC_CMDSTS_SEQ).event 2)) ∧
  (∀ (m : Master) (s : State), s.grants m .p 0x3B0004 = true → exec (.clrSticky m) s
    = .next ((((forAll (List.range 16) (clearSticky 0xFFFFFFFF) s).wr F.FC_CMDSTS_RESULT 1).count F.FC_CMDSTS_SEQ).event 2)) ∧
  (∀ (m : Master) (w : Fin 64) (v : Word) (s : State), s.grants m .p (0x3B0200 + 4 * w.val) = true → exec (.fcSevWrite m w v) s
    = .next (sevSettle s (regWrite m (0x3B0200 + 4 * w.val) (s.sevWord w v.toNat) s))) ∧
  (∀ (m : Master) (c : Word) (s : State), s.grants m .p 0x3B002C = true → m ≠ .ost → exec (.fcUnlock m c) s
    = .next (s.wr F.FC_TEST_REFUSED 1)) ∧
  (∀ (c : Word) (s : State), s.grants .ost .p 0x3B002C = true → s.flag F.FC_TEST_LOCKOUT = false → c.toNat = 0x54455354 →
    s.glb.tstmode = true → s.eff = stLINKED → exec (.fcUnlock .ost c) s = .next (changeState stTEST 0xF8 (permitWithdraw s))) ∧
  (∀ (c : Word) (s : State), s.grants .ost .p 0x3B002C = true → s.flag F.FC_TEST_LOCKOUT = false → c.toNat ≠ 0x54455354 →
    exec (.fcUnlock .ost c) s
    = .next (raise 455 ((s.wr F.FC_TEST_BADKEY (min 3 (s.rd F.FC_TEST_BADKEY + 1))).put F.FC_TEST_LOCKOUT (3 ≤ s.rd F.FC_TEST_BADKEY + 1)))) ∧
  (∀ (m : Master) (v : Word) (s : State), s.grants m .p 0x3B0028 = true → s.st = stTEST → v.toNat.testBit 1 = false →
    exec (.fcTestWrite m v) s = .next (s.put F.FC_TEST_INJ_REACT (v.toNat.testBit 0))) ∧
  (∀ (m : Master) (v : Word) (s : State), s.grants m .p 0x3B0028 = true → s.st ≠ stTEST →
    v.toNat.testBit 0 ≠ s.flag F.FC_TEST_INJ_REACT → exec (.fcTestWrite m v) s = .next (s.wr F.FC_TEST_REFUSED 1)) ∧
  (∀ (m : Master) (f : BitVec 9) (s : State), s.grants m .p 0x3B0030 = true → s.st = stTEST → reservedSource f.toNat = false →
    exec (.injPulse m f) s = .next (readyJudge (raiseSlot [(f.toNat, false, true)] s))) ∧
  (∀ (m : Master) (f : BitVec 9) (s : State), s.grants m .p 0x3B0030 = true → s.st = stTEST → reservedSource f.toNat = false →
    exec (.injHold m f) s = .next (readyJudge (raiseSlot [(f.toNat, false,
    true)] (liveUpdate f.toNat { s with fc := { s.fc with held := f.toNat :: s.fc.held.filter (· != f.toNat) } })))) ∧
  (∀ (m : Master) (f : BitVec 9) (s : State), s.grants m .p 0x3B0030 = true → s.st = stTEST → reservedSource f.toNat = false →
    exec (.injRelease m f) s = .next (liveUpdate f.toNat { s with fc := { s.fc with held := s.fc.held.filter (· != f.toNat) } })) ∧
  (∀ (m : Master) (f : BitVec 9) (s : State), s.grants m .p 0x3B0030 = true → s.st ≠ stTEST → exec (.injPulse m f) s
    = .next (s.wr F.FC_TEST_REFUSED 1))

/-- Each tick of the timebase clock: TB.RAW, in units of 2^-16 ns and modulo 2^64, goes up by 131072 (rawPerTick; rawMod is 2^64), and
  no register changes. (R13, R353, R356) -/
def Obligations.TickAdvancesRaw : Prop :=
  (∀ (k : Nat) (s : State), s.tb.raw < rawMod → (Nat.repeat tick k s).tb.raw = (s.tb.raw + k * rawPerTick) % rawMod) ∧
  (∀ (k : Nat) (s : State), s.tb.raw < rawMod → (Nat.repeat tick k s).regs = s.regs ∧ (Nat.repeat tick k s).cellar = s.cellar ∧
    (Nat.repeat tick k s).out = s.out)

/-- setRate rebases OFSX: TB.NOW before and after differ by at most one ns, TB.RAW does not change, and TB.RATE reads the new value.
  (R355, R356) -/
def Obligations.RateKeepsTimeContinuous : Prop :=
  ∀ (r : Int) (s : State), -(2 ^ 31) ≤ r → r < 2 ^ 31 → s.nowInt ≤ (setRate r s).nowInt ∧ (setRate r s).nowInt ≤ s.nowInt + 1 ∧
    (setRate r s).tb.raw = s.tb.raw ∧ (setRate r s).rate = r

/-- STEP adds ADJ to TB.NOW, SET makes TB.NOW read ADJ; both end a slew, set STEPPED, count STEPCNT and raise FS274, and waiting Waybill
  entries that are passed over become late. SLEW starts a slew by ADJ, or sets ADJERR when it is 2^31 ns or more; SLEWSTOP ends one.
  While PTP or PPS owns the time a host's adjustment sets SRCWR alone. Each event of the timebase at its instant: the tick that
  wraps TB.RAW, the end of a slew, a valid PPS edge, 2 s without one, the edge of PPS_OUT once for each second, its fall, a source
  that stops, the 16th cycle with a phase error above ERRTH. (R356, R357, R358, R359, R360, R361, R365, R376) -/
def Obligations.TimebaseCommandsAndEvents : Prop :=
  (∀ (m : Master) (v : Word) (s : State), s.grants m .p 0x300020 = true → s.servoOwned = false → exec (.tbRateWrite m v) s
    = .next (setRate (signed 32 v.toNat) s)) ∧
  (∀ (m : Master) (s : State), s.grants m .p 0x300000 = true → s.servoOwned = false → exec (.stepTime m) s
    = .next (jumped s (jumpTime (s.tb.ofsx + s.adj * 65536) s))) ∧
  (∀ (m : Master) (s : State), s.grants m .p 0x300000 = true → s.servoOwned = false → exec (.setTime m) s
    = .next (jumped s (jumpTime (s.adj * 65536 - ((s.tb.raw : Int) * (rateUnit + s.rate)).fdiv rateUnit) s))) ∧
  (∀ (x : Int) (s : State), s.flag F.TB_PPSOUT_EN = false →
    jumpTime x s = raise 274 (({ slewEnd s with tb := { (slewEnd s).tb with ofsx := x } }.wr F.TB_STS_STEPPED 1).inc F.TB_STEPCNT_N)) ∧
  (∀ (m : Master) (s : State), s.grants m .p 0x300000 = true → s.servoOwned = false → s.adj.natAbs < 2 ^ 31 → exec (.slew m) s
    = .next ((let t := slewEnd s;
    { t with tb := { t.tb with slewing := true, slewRem := s.adj * 65536, slewFrac := 0 } }.wr F.TB_STS_SLEWING 1).wr F.TB_CTL_SLEW 1)) ∧
  (∀ (m : Master) (s : State), s.grants m .p 0x300000 = true → s.servoOwned = false → 2 ^ 31 ≤ s.adj.natAbs → exec (.slew m) s
    = .next (s.wr F.TB_STS_ADJERR 1)) ∧
  (∀ (m : Master) (s : State), s.grants m .p 0x300000 = true → s.servoOwned = false → exec (.slewstop m) s
    = .next (({ s with tb := { s.tb with slewing := false, slewRem := 0 } }.wr F.TB_STS_SLEWING 0).wr F.TB_CTL_SLEW 0)) ∧
  (∀ (m : Master) (s : State), s.grants m .p 0x300000 = true → s.servoOwned = true → exec (.stepTime m) s
    = .next (s.wr F.TB_STS_SRCWR 1) ∧ exec (.setTime m) s = .next (s.wr F.TB_STS_SRCWR 1) ∧ exec (.slew m) s
    = .next (s.wr F.TB_STS_SRCWR 1) ∧ exec (.slewstop m) s = .next (s.wr F.TB_STS_SRCWR 1)) ∧
  (∀ (m : Master) (s : State), s.grants m .u 0x300000 = true → exec (.tbCntclr m) s = .next (s.wrs [(F.TB_PPSCNT_GOOD, 0),
    (F.TB_PPSCNT_BAD, 0), (F.WB_MAXLAT_N, 0), (F.WB_HWM_N, 0), (F.WB_CNT0_LATE, 0), (F.WB_CNT0_LATEDROP, 0), (F.WB_CNT1_FULL, 0),
    (F.WB_CNT1_FLUSH, 0), (F.WB_CNT2_SHSKIP, 0), (F.WB_CNT2_FRZDROP, 0)])) ∧
  (∀ (s : State), s.rawWraps = true → exec .tbRawWrap s = .next (tick s)) ∧
  (∀ (s : State), s.tb.slewing = true → s.tb.slewRem = 0 → exec .slewComplete s = .next (slewEnd s)) ∧
  (∀ (p : Int) (s : State), s.tb.ppsPrev = some p → 100000 < (s.nowInt - p - 1000000000).natAbs → exec .ppsInEdge s
    = .next (s.inc F.TB_PPSCNT_BAD)) ∧
  (∀ (s : State), s.tb.ppsPrev = none → exec .ppsInEdge s = .next (ppsInEdge jump s)) ∧
  (∀ (s : State), s.rd F.TB_SRC_SRC ≠ 2 → exec .ppsLoss s
    = .next (syncJudge { ((s.wr F.TB_STS_PPSLOCK 0).wr F.TB_STS_PPSLOST 1) with tb := { s.tb with ppsPrev := none, ppsGood := 0 } })) ∧
  (∀ (s : State), s.flag F.TB_PPSOUT_EN = true → s.flag F.TB_PPSOUT_FREE = true → s.tb.ppsLastN = none → exec .ppsOutEdge s
    = .next ({ s with tb := { s.tb with ppsOut := true, ppsLastN := some s.ppsN } }.emit (.pin 4 true))) ∧
  (∀ (s : State), s.tb.ppsOut = true → exec .ppsOutFall s
    = .next ({ s with tb := { s.tb with ppsOut := false } }.emit (.pin 4 false))) ∧
  (∀ (s : State), s.rd F.TB_SRC_SRC = 1 → exec .timeSourceLoss s = .next (syncJudge (s.wr F.NET_PTPSTS_LOCK 0))) ∧
  (∀ (s : State), 16 ≤ s.tb.errRun → exec .cyclePhaseErrorLimit s = .next (raise 275 s))

/-- PUSH judges the staged entry, reports the result in the master's WB.PSTS with SEQ counted, and queues it when the result is 0: an
  on-time entry joins the end of the queue; a full queue sets OVF, counts and raises FS277. CANCEL removes the entries whose tag
  matches under the mask and counts them, FLUSH all of them, DONEPOP the oldest completion record. WB_ENTRY_START removes the due
  entry with the earliest instant and runs it; WB_RELAY_SKIP discards the due RELAY entry that this unit may not run and counts it;
  WB_OUT_RETURN returns the pin of a pulse whose width has passed; WB_WINDOW_CLOSE closes the entries of window j that have reached
  their end. (R367, R368, R369, R371, R373, R375, R376, R377, R378) -/
def Obligations.WaybillCommandsAndEvents : Prop :=
  (∀ (m : Master) (s : State), s.grants m .p 0x301020 = true → s.pushResult ⟨s.wbStaged m, m, false⟩ = 0 →
    s.flag F.GLB_ROLE_TWIN = false → exec (.push m) s = .next (wbAdd ⟨s.wbStaged m, m,
    false⟩ ((s.wr (F.WB_PSTS_RESULT.inBank m.bank) 0).wr (F.WB_PSTS_SEQ.inBank m.bank) (s.rd (F.WB_PSTS_SEQ.inBank m.bank) + 1)))) ∧
  (∀ (m : Master) (s : State), s.grants m .p 0x301020 = true → s.pushResult ⟨s.wbStaged m, m, false⟩ = 4 → exec (.push m) s
    = .next ((s.wr (F.WB_PSTS_RESULT.inBank m.bank) 4).wr (F.WB_PSTS_SEQ.inBank m.bank) (s.rd (F.WB_PSTS_SEQ.inBank m.bank) + 1))) ∧
  (∀ (e : WbEntry) (s : State), s.wb.ents.length < 4095 → (wbAdd e s).wb.ents = s.wb.ents ++ [e] ∧
    (wbAdd e s).rd F.WB_STS_COUNT = s.wb.ents.length + 1) ∧
  (∀ (m : Master) (s : State), s.grants m .p 0x301020 = true → s.flag F.GLB_ROLE_TWIN = false → exec (.wbCancel m) s
    = .next (wbCancel (s.rd F.WB_CANSEL_TAG) (s.rd F.WB_CANSEL_MASK) s)) ∧
  (∀ (m : Master) (s : State), s.grants m .p 0x301020 = true → s.flag F.GLB_ROLE_TWIN = false → exec (.wbFlush m) s
    = .next (wbCancel 0 0 s)) ∧
  (∀ (s : State), (wbCancel 0 0 s).wb.ents = [] ∧ (wbCancel 0 0 s).wb.wins = []) ∧
  (∀ (m : Master) (s : State), s.grants m .p 0x301020 = true → exec (.donepop m) s
    = .next (wbSync { s with wb := { s.wb with done := s.wb.done.drop 1 } })) ∧
  (∀ (i : Nat) (s : State), earliest s.wbAge (fun e => s.wbDue e && s.relayRuns e) s.wb.ents = some i → exec .wbEntryStart s
    = .next (wbRun (s.wb.ents.getD i {}) false (wbRemove i s))) ∧
  (∀ (e : WbEntry) (s : State), e.cls = 7 → wbAction e false s = s.event 5 ∧ wbAction e true s = s.event 5) ∧
  (∀ (i : Nat) (s : State), earliest s.wbAge (fun e => s.wbDue e && !s.relayRuns e) s.wb.ents = some i → exec .wbRelaySkip s
    = .next ((wbRemove i s).inc F.WB_CNT2_SHSKIP)) ∧
  (∀ (p : Fin 4) (l : Bool) (t : Nat) (s : State), s.wb.returns = [(p.val, l, t)] → t ≤ s.rawNs → exec (.wbOutReturn p) s
    = .next ({ s with wb := { s.wb with tout := if l then setBit s.wb.tout p else clearBit s.wb.tout p, returns := [] } }.emit (.pin p l))) ∧
  (∀ (j : Fin 8) (s : State), (∀ w ∈ s.wb.wins, w.j ≠ j.val) → exec (.wbWindowClose j) s = .next (wbWindows s)) ∧
  (∀ (j : Fin 8) (w : WbWin) (s : State), s.wb.wins = [w] → w.j = j.val → w.net = false → w.end_ ≤ s.rawNs →
    exec (.wbWindowClose j) s = .next (wbWindows { s with wb := { s.wb with wins := [] } }))

/-- An rw field takes the legal value of its part of the word; an rwl field does so outside RUN alone; of an rwc field the shadow takes
  it; a w1c field clears the bits written 1; ro, wo and w1s fields keep their value. After a field takes a value it reads that value
  cut to its width; every field with another place reads as before; the Cellar, the typed parts, the queue and the record of outputs
  stay. (R3, R5, R6) -/
def Obligations.FieldWrites : Prop :=
  (∀ (b : Nat) (ix : List Nat) (f : FldSpec) (x : Fld) (v : Nat) (s : State), f.acc = .rw →
    writeField b ix f x v s = s.wr x (legal b f.lo ix v s)) ∧
  (∀ (b : Nat) (ix : List Nat) (f : FldSpec) (x : Fld) (v : Nat) (s : State), f.acc = .rwl → s.st ≠ stRUN →
    writeField b ix f x v s = s.wr x (legal b f.lo ix v s)) ∧
  (∀ (b : Nat) (ix : List Nat) (f : FldSpec) (x : Fld) (v : Nat) (s : State), f.acc = .rwl → s.st = stRUN →
    writeField b ix f x v s = s) ∧
  (∀ (b : Nat) (ix : List Nat) (f : FldSpec) (x : Fld) (v : Nat) (s : State), f.acc = .rwc →
    writeField b ix f x v s = s.wrShadow x (legal b f.lo ix v s)) ∧
  (∀ (b : Nat) (ix : List Nat) (f : FldSpec) (x : Fld) (v : Nat) (s : State), f.acc = .w1c →
    writeField b ix f x v s = s.wr x (s.rd x - (s.rd x &&& v))) ∧
  (∀ (b : Nat) (ix : List Nat) (f : FldSpec) (x : Fld) (v : Nat) (s : State), (f.acc = .ro ∨ f.acc = .wo ∨ f.acc = .w1s) →
    writeField b ix f x v s = s) ∧
  (∀ (f g : Fld) (v : Nat) (s : State), g.key ≠ f.key → (s.wr f v).rd f = v % 2 ^ f.w ∧ (s.wr f v).rd g = s.rd g) ∧
  (∀ (f : Fld) (v : Nat) (s : State), { s.wr f v with regs := s.regs } = s)

/-- A whole-word write of a master that is not frozen to a register outside the Cellar window that it may write has the register's
  effect; an address without a register is recorded in GLB.UNMAP. A write of 1 to GLB.UNMAPINFO.SEEN clears SEEN and COUNT. A
  stage-area write by PF0, the Ostler or their DMA engine stores the word, little-endian, at its place in the Cellar, and resets a
  judged stage. (R3, R8, R66, R531, R579, R581) -/
def Obligations.RegisterWriteAtTheArbiter : Prop :=
  (∀ (m : Master) (w : BitVec 30) (v : Word) (r : RegSpec) (ix : List Nat) (s : State), (m.bank ≠ 3 ∨ w.toNat < 0x400000) →
    s.frozen m.owner = false → inWindow (4 * w.toNat) = false → s.reach m (4 * w.toNat) = true →
    findReg (4 * w.toNat) allRegs = some (r, ix) → s.gatedAt (4 * w.toNat) = none → viewBars m r v.toNat = false →
    s.writeBars m .u = false → exec (.registerWrite m w v) s = .next (fullEffect m (4 * w.toNat) v.toNat r ix s)) ∧
  (∀ (m : Master) (w : BitVec 30) (v : Word) (s : State), (m.bank ≠ 3 ∨ w.toNat < 0x400000) → s.frozen m.owner = false →
    inWindow (4 * w.toNat) = false → s.reach m (4 * w.toNat) = true → findReg (4 * w.toNat) allRegs = none →
    s.writeBars m .u = false → exec (.registerWrite m w v) s = .next ((s.wrs [(F.GLB_UNMAP_ADDR, 4 * w.toNat),
    (F.GLB_UNMAPINFO_MASTER, m.bank), (F.GLB_UNMAPINFO_WRITE, 1), (F.GLB_UNMAPINFO_SEEN, 1)]).inc F.GLB_UNMAPINFO_COUNT)) ∧
  (∀ (m : Master) (w : BitVec 30) (v : Word) (s : State), s.frozen m.owner = true → exec (.registerWrite m w v) s = .next s) ∧
  (∀ (m : Master) (s : State), s.frozen m.owner = false → s.reach m 0x44 = true → m.owner ≠ 1 → s.gatedAt 0x44 = none → ∃ t,
    exec (.unmapSeenClear m) s = .next t ∧ t.rd F.GLB_UNMAPINFO_SEEN = 0 ∧ t.rd F.GLB_UNMAPINFO_COUNT = 0 ∧
    t.rd F.GLB_UNMAP_ADDR = s.rd F.GLB_UNMAP_ADDR) ∧
  (∀ (m : Master) (i : BitVec 22) (v : Word) (s : State), s.frozen m.owner = false → s.reach m 0x1000000 = true → m.owner ≠ 1 →
    s.fc.cond.contains 13 = false → exec (.stageAreaWrite m i v) s
    = .next (let t := { s with cellar := s.cellar.write32 (stageBase + 4 * i.toNat) v.toNat };
    if stageBase + 4 * i.toNat < stageBase + stageSize then stageTouched t else t)) ∧
  (∀ (m : Master) (i : BitVec 22) (v : Word) (s : State), s.frozen m.owner = false → s.reach m 0x1000000 = true → m = .pf1 →
    exec (.stageAreaWrite m i v) s = .next (violation .pf1 (0x1000000 + 4 * i.toNat) 1 true s))

/-- write32 stores the four bytes of a word, the lowest first: the bytes at a to a + 3 read the word's bytes, every other byte of the
  memory reads as before. (R3, R325, R531) -/
def Obligations.MemoryReadsWhatWasStored : Prop :=
  (∀ (m : Memory) (a v : Nat), v < 2 ^ 32 → (m.write32 a v).read32 a = v) ∧
  (∀ (m : Memory) (a v j : Nat), (j < a ∨ a + 4 ≤ j) → (m.write32 a v).read8 j = m.read8 j)

/-- A request of a kind that R521 does not take, and any read of a frozen function, completes with status UR; a write of a frozen
  function is dropped; a read of one word within BAR0 completes with the word that the register reads; a poisoned write is counted
  and raises FS404. (R521, R533, R545) -/
def Obligations.PcieRequests : Prop :=
  (∀ (fn : Fin 2) (d : BitVec 23) (n : BitVec 10) (a b : BitVec 4) (p : Bool) (l : List Word) (s : State), s.hostReached = true →
    exec (.pcieMemoryRequest fn 2 d n a b p l) s = .next (s.emit (.completion fn.val 1 []))) ∧
  (∀ (fn : Fin 2) (d : BitVec 23) (n : BitVec 10) (a b : BitVec 4) (p : Bool) (l : List Word) (s : State), s.hostReached = true →
    s.frozen fn.val = true → exec (.pcieMemoryRequest fn 0 d n a b p l) s = .next (s.emit (.completion fn.val 1 []))) ∧
  (∀ (fn : Fin 2) (d : BitVec 23) (n : BitVec 10) (a b : BitVec 4) (l : List Word) (s : State), s.hostReached = true →
    s.frozen fn.val = true → exec (.pcieMemoryRequest fn 1 d n a b false l) s = .next s) ∧
  (∀ (fn : Fin 2) (d : BitVec 23) (n : BitVec 10) (a b : BitVec 4) (l : List Word) (s : State), s.hostReached = true →
    exec (.pcieMemoryRequest fn 1 d n a b true l) s = .next (raise 404 (s.inc F.HST_PCIERR_UNCORR))) ∧
  (∀ (fn : Fin 2) (d : BitVec 23) (a b : BitVec 4) (p : Bool) (l : List Word) (s : State), s.hostReached = true →
    s.frozen fn.val = false → exec (.pcieMemoryRequest fn 0 d 1 a b p l) s
    = .next (let x := busRead (functionMaster fn.val) (4 * d.toNat) s; if x.2.frozen fn.val then x.2.emit (.completion fn.val 1 [])
    else x.2.emit (.completion fn.val 0 [x.1]))) ∧
  (∀ (fn : Fin 2) (d : BitVec 23) (n : BitVec 10) (b : BitVec 4) (v : Word) (s : State), s.hostReached = true →
    s.frozen fn.val = false → exec (.pcieMemoryRequest fn 1 d n 15 b false [v]) s
    = .next (busWrite (functionMaster fn.val) (4 * d.toNat) v.toNat s))

/-- START of an idle channel with a configuration that R527 allows makes the writer the owner and the channel BUSY; one that R527 does
  not allow ends at once with BADCFG. The owner's ABORT ends the channel, another's sets DMABUSY; DMA_COMPLETE of a channel that is
  not BUSY has no effect, and one whose owner is frozen before a word moved ends HALTED. (R527, R528, R529) -/
def Obligations.DmaCommands : Prop :=
  (∀ (m : Master) (ch : Nat) (s : State), (s.wrs [(F.HST_DMA_STS_OWNER ch, m.owner), (F.HST_DMA_STS_DONE ch, 0),
    (F.HST_DMA_STS_ERR ch, 0)]).dmaValid m ch = true →
    dmaStart m ch s = ((((s.wr (F.HST_DMA_STS_OWNER ch) m.owner).wr (F.HST_DMA_STS_DONE ch) 0).wr (F.HST_DMA_STS_ERR ch) 0).wr (F.HST_DMA_STS_BUSY ch) 1).wr (F.HST_DMA_CTL_START ch) 1) ∧
  (∀ (m : Master) (ch : Nat) (s : State), (s.wrs [(F.HST_DMA_STS_OWNER ch, m.owner), (F.HST_DMA_STS_DONE ch, 0),
    (F.HST_DMA_STS_ERR ch, 0)]).dmaValid m ch = false →
    dmaStart m ch s = dmaEnd ch 5 (((s.wr (F.HST_DMA_STS_OWNER ch) m.owner).wr (F.HST_DMA_STS_DONE ch) 0).wr (F.HST_DMA_STS_ERR ch) 0)) ∧
  (∀ (m : Master) (ch : Fin 8) (c : BitVec 5) (s : State), exec (.dmaStart m ch c) s
    = .next (busWrite m (0x3D0214 + 0x20 * ch) (4 * c.toNat + 1) s)) ∧
  (∀ (m : Master) (ch : Nat) (o w : Nat) (s : State), o = 0x14 → w.testBit 1 = true → m.owner = s.rd (F.HST_DMA_STS_OWNER ch) →
    dmaBusyWrite m ch o w s = dmaEnd ch 3 s) ∧
  (∀ (ch : Fin 8) (e : Bool) (n : BitVec 23) (l : List Word) (s : State), s.flag (F.HST_DMA_STS_BUSY ch) = false →
    exec (.dmaComplete ch e n l) s = .next s) ∧
  (∀ (ch : Fin 8) (l : List Word) (s : State), s.flag (F.HST_DMA_STS_BUSY ch) = true →
    s.frozen (s.rd (F.HST_DMA_STS_OWNER ch)) = true → exec (.dmaComplete ch false 0 l) s = .next (dmaEnd ch 4 s)) ∧
  (∀ (ch : Fin 8) (n : BitVec 23) (l : List Word) (s : State), s.flag (F.HST_DMA_STS_BUSY ch) = true →
    s.frozen (s.rd (F.HST_DMA_STS_OWNER ch)) = false → exec (.dmaComplete ch false n l) s
    = .next (let t := dmaWords ch (l.map (·.toNat)) (s.rd (F.HST_DMA_LEN_LEN ch) / 4) 0 s; if t.flag (F.HST_DMA_STS_BUSY ch)
    then dmaEnd ch 0 t else t)) ∧
  (∀ (m : Master) (ch : Fin 8) (n : BitVec 23) (l : List Word) (s : State), s.frozen m.owner = false →
    s.reach m (0x3D0214 + 0x20 * ch) = true → s.writeBars m .u = false → s.flag (F.HST_DMA_STS_BUSY ch) = true →
    m.owner = s.rd (F.HST_DMA_STS_OWNER ch) → exec (.dmaAbort m ch n l) s
    = .next (busWrite m (0x3D0214 + 0x20 * ch) 2 (dmaWords ch (l.map (·.toNat)) (min n.toNat (s.rd (F.HST_DMA_LEN_LEN ch) / 4)) 0 s))) ∧
  (∀ (ch e : Nat) (s : State),
    dmaEnd ch e s = (((s.wr (F.HST_DMA_STS_BUSY ch) 0).wr (F.HST_DMA_CTL_START ch) 0).wr (F.HST_DMA_STS_ERR ch) e).event (24 + ch))

/-- A request while a result is in flight and not ready counts OVR alone. While the Ostler restarts SPI is answered with code 0x03. A
  wrong CRC8 is counted and answered with code 0x01. A sound READ of one word counts SEQ and answers the word that the Ostler port
  reads. (R536, R537, R538, R543) -/
def Obligations.OstlerRequests : Prop :=
  (∀ (b : Bool) (l : List Byte) (s : State), s.hst.sbResult.isSome = true → s.hst.sbReady = false → exec (.ostlerRequest b l) s
    = .next (s.inc F.HST_SBCNT_OVR)) ∧
  (∀ (l : List Byte) (s : State), s.hst.sbResult = none → s.flag F.HST_STS_OSTRDY = false → exec (.ostlerRequest false l) s
    = .next (s.emit (.sideband (resultMsg 2 3 0 s.hst.sbSeq [])))) ∧
  (∀ (b : Bool) (s : State), s.hst.sbResult = none → s.flag F.HST_STS_OSTRDY = true → s.frozen 2 = false →
    exec (.ostlerRequest b []) s = .next (portCrc b s)) ∧
  (∀ (b : Bool) (l : List Byte) (s : State), s.hst.sbResult = none → s.flag F.HST_STS_OSTRDY = true → s.frozen 2 = false →
    l.length = 7 → crc8 (l.take 6) = leAt l 6 1 → leAt l 0 1 = 1 → 1 ≤ leAt l 1 1 → leAt l 1 1 ≤ 8 → leAt l 2 4 % 4 = 0 →
    exec (.ostlerRequest b l) s
    = .next (portRun b false (leAt l 2 4) (leAt l 1 1) ((List.range (leAt l 1 1)).map fun i => leAt l (6 + 4 * i) 4) s)) ∧
  (∀ (b : Bool) (a : Nat) (s : State),
    portRun b false a 1 [] s = (let t := { s with hst := { s.hst with sbSeq := (s.hst.sbSeq + 1) % 256 } };
    let x := busRead .ost (a % 2 ^ 32) t; if x.2.frozen 2 then portResult b (resultMsg 3 0 0 x.2.hst.sbSeq []) x.2
    else portResult b (resultMsg 0 0 1 x.2.hst.sbSeq [x.1]) x.2))

/-- PERST_N resets both functions, FLR one: its running DMA channels end with ABORT, its bank, MSI-X state and configuration writes are
  gone. A change of the PCIe link updates HST.STS with event 17, a loss raises FS403. A configuration read or write of a function
  that is not frozen completes with success; a frozen function answers UR. RELEASE with its key by a master that may release clears
  the FROZEN bit with event FREEZE; MDIO START makes the port busy and MDIO_DONE returns the read data; a window of load updates
  HST.OSTLER and takes up moved duties; the end of a restart sets OSTRDY with the image that runs; a result ready leaves the
  side-band port; an SMBus timeout drops the request that came over SMBus. (R520, R523, R525, R526, R533, R534, R538, R542, R543,
  R546, R602) -/
def Obligations.HostPort : Prop :=
  (∀ (s : State), exec .perst s = .next (functionReset 1 (functionReset 0 s))) ∧
  (∀ (f : Fin 2) (s : State), exec (.flr f) s = .next (functionReset f.val s)) ∧
  (∀ (f : Fin 2) (s : State), s.dmaOf f.val = [] → ∃ t, exec (.flr f) s = .next t ∧ t.hst.msixEn = clearBit s.hst.msixEn f.val ∧
    t.hst.fnMask = clearBit s.hst.fnMask f.val ∧ t.rd (F.HST_EVSTS_EV.inBank f.val) = 0 ∧
    t.rd F.GLB_STATE_STATE = s.rd F.GLB_STATE_STATE) ∧
  (∀ (a b : BitVec 3) (v : BitVec 2) (s : State), s.flag F.HST_STS_LINKUP = true → exec (.pcieLinkChange false v b) s
    = .next (raise 403 ((((s.wr F.HST_STS_LINKUP 0).wr F.HST_STS_SPEED 0).wr F.HST_STS_WIDTH 0).event 17))) ∧
  (∀ (w : BitVec 3) (v : BitVec 2) (s : State), s.flag F.HST_STS_LINKUP = false → exec (.pcieLinkChange true v w) s
    = .next (unraise 403 ((((s.wr F.HST_STS_LINKUP 1).wr F.HST_STS_SPEED v.toNat).wr F.HST_STS_WIDTH w.toNat).event 17))) ∧
  (∀ (f : Fin 2) (d : BitVec 10) (b : BitVec 4) (v : Word) (s : State), s.frozen f.val = false →
    exec (.pcieConfigRequest f false d b v) s = .next (s.emit (.completion f.val 0 [s.cfgRead f.val (4 * d.toNat)]))) ∧
  (∀ (f : Fin 2) (d : BitVec 10) (b : BitVec 4) (v : Word) (s : State), s.frozen f.val = false →
    exec (.pcieConfigRequest f true d b v) s
    = .next ((cfgWrite f.val (4 * d.toNat) b.toNat v.toNat s).emit (.completion f.val 0 []))) ∧
  (∀ (f : Fin 2) (w : Bool) (d : BitVec 10) (b : BitVec 4) (v : Word) (s : State), s.frozen f.val = true →
    exec (.pcieConfigRequest f w d b v) s = .next (s.emit (.completion f.val 1 []))) ∧
  (∀ (f : Fin 2) (d : BitVec 12) (v : Word) (s : State), s.frozen f.val = false → exec (.msixTableAccess f false d v) s
    = .next (s.emit (.completion f.val 0 [s.msixRead f.val (4 * d.toNat)]))) ∧
  (∀ (f : Fin 2) (d : BitVec 12) (v : Word) (s : State), s.frozen f.val = false → 4 * d.toNat < 0x400 → d.toNat % 4 = 1 →
    exec (.msixTableAccess f true d v) s
    = .next { s with hst := { s.hst with vecTab := s.hst.vecTab.set (4 * (64 * f.val + 4 * d.toNat / 16) + 1) v.toNat } }) ∧
  (∀ (m : Master) (k : BitVec 3) (y : BitVec 16) (s : State), s.grants m .p 0x3D000C = true → y.toNat = 0xA5C3 →
    exec (.hstRelease m k y) s = .next (forAll (bitsOf 3 k.toNat) (releaseOne m) s)) ∧
  (∀ (m : Master) (k : BitVec 3) (y : BitVec 16) (s : State), s.grants m .p 0x3D000C = true → y.toNat ≠ 0xA5C3 →
    exec (.hstRelease m k y) s = .next s) ∧
  (∀ (m : Master) (s : State), mayRelease m.owner 2 = true → s.frozen 2 = true →
    releaseOne m 2 s = unraise 402 ((s.putBit F.HST_FRZ_FROZEN 2 false).event 16)) ∧
  (∀ (m : Master) (v : BitVec 27) (s : State), s.grants m .p 0x3D0324 = true → s.flag F.HST_MDIO_BUSY = true →
    exec (.mdioStart m v) s = .next s) ∧
  (∀ (m : Master) (v : BitVec 27) (s : State), s.grants m .p 0x3D0324 = true → s.flag F.HST_MDIO_BUSY = false → ∃ t,
    exec (.mdioStart m v) s = .next t ∧ t.flag F.HST_MDIO_BUSY = true ∧ t.rd F.HST_MDIO_DATA = v.toNat % 65536 ∧
    t.rd F.HST_MDIO_REGAD = v.toNat / 65536 % 32 ∧ t.rd F.HST_MDIO_PHYAD = v.toNat / 2 ^ 21 % 32 ∧
    t.rd F.HST_MDIO_OP = v.toNat / 2 ^ 26 % 2) ∧
  (∀ (d : BitVec 16) (s : State), s.flag F.HST_MDIO_BUSY = true → s.flag F.HST_MDIO_OP = false → exec (.mdioDone d) s
    = .next ((s.wr F.HST_MDIO_BUSY 0).wr F.HST_MDIO_DATA d.toNat)) ∧
  (∀ (l : BitVec 10) (h : Bool) (s : State), l.toNat ≤ 900 → exec (.ostlerLoadWindow l h) s
    = .next (let t := ((s.wr F.HST_OSTLER_LOAD_LOAD l.toNat).wr F.HST_OSTLER_LOAD_PEAK (max l.toNat (s.rd F.HST_OSTLER_LOAD_PEAK))).wr F.HST_OSTLER_LOAD_OVER (b2n h);
    let t := unraise 53 { t with hst := { t.hst with loadOver := h, loadRun := 0 } };
    let t := if t.tly.ckMoved then ckptDue t else t; if t.tly.xMoved then extractStart t else t)) ∧
  (∀ (b : Bool) (s : State), s.flag F.HST_STS_OSTRDY = false → exec (.ostlerRestartDone true b) s
    = .next (unraise 52 (unraise 48 (((s.wr F.HST_STS_OSTRDY 1).wr F.HST_OSTLER_STS_STOPPED 0).wr F.HST_OSTLER_STS_IMG 0)))) ∧
  (∀ (s : State), s.flag F.HST_STS_OSTRDY = false → exec (.ostlerRestartDone false false) s
    = .next (raise 50 (s.wr F.HST_OSTLER_STS_STOPPED 1))) ∧
  (∀ (r : List Byte) (s : State), s.hst.sbResult = some r → s.hst.sbReady = false → exec .ostlerResultReady s
    = .next ({ s with hst := { s.hst with sbReady := true } }.emit (.sideband r))) ∧
  (∀ (s : State), s.hst.sbSmbus = true → exec .smbusTimeout s
    = .next { s with hst := { s.hst with sbResult := none, sbReady := false, sbSmbus := false } })

/-- VIN below CLK.PWRCFG.WARN records the time, cycle, state and role of the loss, raises FS0 and abandons a level change; a rail out of
  its window raises FS3 or FS4, a regulator FS5; the junction temperature raises FS18 at THERM.WARN and FS19 at 118 degrees; a
  software reset is accepted outside ARMED, RUN and BLOCKED, and refused with RSTREF there. (R550, R552, R554, R573) -/
def Obligations.SupplyEvents : Prop :=
  (∀ (v : BitVec 16) (s : State), v.toNat < s.rd F.CLK_PWRCFG_WARN → exec (.vinPowerWarning v) s
    = .next (plAbandon (raise 0 (let t := (s.wr F.CLK_VMON_VIN v.toNat).wr F.CLK_SUPSTS_VINWARN 1;
    { t with clk := { t.clk with lossRec := some (s.now, s.cycRec, s.st, s.role) } })))) ∧
  (∀ (v : BitVec 16) (s : State), s.rd F.CLK_PWRCFG_WARN ≤ v.toNat → exec (.vinPowerWarning v) s = .next s) ∧
  (∀ (r : Fin 11) (s : State), exec (.railOutOfWindow r) s = .next (raise (if r.val = 0 then 3
    else 4) (s.putBit F.CLK_SUPSTS_RAILS r.val false))) ∧
  (∀ (s : State), exec .regulatorFault s = .next (raise 5 (s.wr F.CLK_SUPSTS_REGFLT 1))) ∧
  (∀ (t : BitVec 16) (k : Byte) (s : State), signed 16 t.toNat < 1100 → signed 16 t.toNat < 10 * s.rd F.CLK_THERM_WARN - 50 →
    exec (.junctionTempWarn t k) s
    = .next (unraise 19 (unraise 18 ((s.wr F.CLK_TEMP_TJ (unsigned 16 (signed 16 t.toNat))).wr F.CLK_TEMP_SENSOR k.toNat)))) ∧
  (∀ (t : BitVec 16) (k : Byte) (s : State), 1180 ≤ signed 16 t.toNat → 10 * s.rd F.CLK_THERM_WARN ≤ signed 16 t.toNat →
    exec (.junctionTempWarn t k) s
    = .next (raise 19 (raise 18 ((s.wr F.CLK_TEMP_TJ (unsigned 16 (signed 16 t.toNat))).wr F.CLK_TEMP_SENSOR k.toNat)))) ∧
  (∀ (m : Master) (c : Byte) (k : BitVec 16) (s : State), s.grants m .p 0x3E0010 = true → c.toNat = 1 → k.toNat = 0xA5C3 →
    s.st ≠ stARMED → s.st ≠ stRUN → s.st ≠ stBLOCKED → exec (.softwareReset m c k) s
    = .next { s with clk := { s.clk with swReset := true } }) ∧
  (∀ (m : Master) (c : Byte) (k : BitVec 16) (s : State), s.grants m .p 0x3E0010 = true → c.toNat = 1 → k.toNat = 0xA5C3 →
    s.st = stRUN → exec (.softwareReset m c k) s = .next (s.wr F.CLK_ERR_RSTREF 1))

/-- A failing clock clears its status, switches its mux to the fallback or holds its domain, stops what needs it and raises its source;
  a fallback oscillator that becomes ready ends its source and starts a held domain on it, late with FS8; a forced switch is counted
  and raises FS15. A write of 1 to a unit's bit of CLK.GATE0 or GATE1 makes an unused unit quiesce, that of a unit in use sets INUSE
  alone; GATE_QUIESCED closes its gate, the timeout gives the request up with FS17; a write of 0 ungates, and UNGATE_RELEASE opens
  the gate. (R557, R558, R560, R561, R562, R563, R564, R565, R572) -/
def Obligations.ClocksAndGates : Prop :=
  (∀ (q : Fin 32) (s : State), exec (.clockFailure 1 q) s = .next (raise 7 (clockStop (tbFallback (s.wr F.CLK_CKSTS_TBPLL 0))))) ∧
  (∀ (q : Fin 32) (s : State), exec (.clockFailure 5 q) s = .next (raise 12 (linkLost (s.wr F.CLK_CKSTS_RLYPLL 0)))) ∧
  (∀ (q : Fin 32) (s : State), exec (.clockFailure 8 q) s = .next (raise 14 (pcieLink false 0 0 (s.wr F.CLK_CKSTS_PCIEREF 0)))) ∧
  (∀ (q : Fin 32) (s : State), exec (.clockFailure 4 q) s
    = .next (raise 11 (forAll (List.range 4) (fun i => lockLoss (4 * q.val + i)) (s.putBit F.CLK_LPLL_LOCK q.val false)))) ∧
  (∀ (s : State), s.flag F.CLK_CKSTS_TBFB = false → s.flag F.CLK_CKSTS_FBORDY = true →
    tbFallback s = (s.wr F.CLK_CKSTS_TBFB 1).inc F.CLK_MUXCNT_SWITCHES) ∧
  (∀ (s : State), s.flag F.CLK_CKSTS_TBFB = false → s.flag F.CLK_CKSTS_FBORDY = false → tbFallback s = s.wr F.CLK_CKSTS_HOLDRST 1) ∧
  (∀ (s : State), (unraise 9 (s.wr F.CLK_CKSTS_FBORDY 1)).flag F.CLK_CKSTS_HOLDRST = false → exec (.fallbackOscReady false) s
    = .next (unraise 9 (s.wr F.CLK_CKSTS_FBORDY 1))) ∧
  (∀ (s : State), (unraise 9 (s.wr F.CLK_CKSTS_FBORDY 1)).flag F.CLK_CKSTS_HOLDRST = true → exec (.fallbackOscReady false) s
    = .next (let u := unraise 9 (s.wr F.CLK_CKSTS_FBORDY 1);
    let t := tbFallback ({ u with clk := { u.clk with late8 := false } }.wr F.CLK_CKSTS_HOLDRST 0); if u.clk.late8 then raise 8 t
    else t)) ∧
  (∀ (s : State), exec (.fallbackNotReadyTimeout false) s
    = .next { s with clk := { s.clk with late8 := s.flag F.CLK_CKSTS_HOLDRST } }) ∧
  (∀ (a b : BitVec 10) (c d : BitVec 16) (s : State), s.flag F.CLK_CKSTS_REFOK = true → exec (.fallbackTrim a b c d) s
    = .next ((((s.wr F.CLK_FBTRIM_FBO a.toNat).wr F.CLK_FBTRIM_OFB b.toNat).wr F.CLK_CKERR_REFFBO c.toNat).wr F.CLK_CKERR_REFOFB d.toNat)) ∧
  (∀ (s : State), s.flag F.CLK_CKSTS_OSTFB = true → exec (.muxForcedSwitch true) s = .next (raise 15 (s.inc F.CLK_MUXCNT_FORCED))) ∧
  (∀ (q : Fin 32) (s : State), exec (.pllLockRegained 0 q) s
    = .next (let t := forAll (List.range 4) (fun i => laneReturn (4 * q.val + i)) (s.putBit F.CLK_LPLL_LOCK q.val true);
    if t.lanePllsOk then unraise 11 t else t)) ∧
  (∀ (s : State), s.flag F.CLK_CKSTS_OSTFB = true → exec .ostlerClockReturn s
    = .next (unraise 16 (((s.wr F.CLK_CKSTS_REFOK 1).wr F.CLK_CKSTS_OSTFB 0).inc F.CLK_MUXCNT_SWITCHES))) ∧
  (∀ (m : Master) (w : Fin 2) (v : Word) (s : State), s.grants m .p (0x3E0030 + 4 * w.val) = true → exec (.clkGateWrite m w v) s
    = .next (gateWrite w.val v.toNat s)) ∧
  (∀ (u : Nat) (s : State), s.gateOn u = false → s.unitUsed u = true →
    gateRequest u s = (s.wr F.CLK_ERR_INUSE 1).wr F.CLK_ERR_UNIT u) ∧
  (∀ (u : Nat) (s : State), s.gateOn u = true → gateRequest u s = s) ∧
  (∀ (u : Nat) (s : State), s.gateOn u = false → ungateRequest u s = s) ∧
  (∀ (u : Fin 39) (s : State), s.clk.quiesce.contains u.val = true → 32 ≤ u.val → exec (.gateQuiesced u) s
    = .next ((setQuiesce (s.clk.quiesce.filter (· != u.val)) s).putBit F.CLK_GSTS1_UNITS (u.val - 32) true)) ∧
  (∀ (u : Fin 39) (s : State), s.clk.quiesce.contains u.val = true → exec (.gateQuiesceTimeout u) s
    = .next (raise 17 ((((setQuiesce (s.clk.quiesce.filter (· != u.val)) s).putBit (gateBit u.val).1 (gateBit u.val).2 false).wr F.CLK_ERR_GATE_BUSY 1).wr F.CLK_ERR_UNIT u.val))) ∧
  (∀ (u : Fin 39) (s : State), s.clk.ungate.contains u.val = true → u.val < 32 → exec (.ungateRelease u) s
    = .next ({ s.putBit F.CLK_GSTS0_LG u.val false with clk := { s.clk with ungate := s.clk.ungate.filter (· != u.val) } }.putBit F.CLK_LPLL_LOCK u.val true))

/-- PLREQ with another key than 0xA5C3 gives RESULT 4, during a change 3, with arm cycles stopped 5, at the present level 6, at a level
  whose PLOK bit is 0 the result 2, else 1, and the change starts: raising settles VCORE first, lowering switches the Cellar first.
  REVERIFY starts a slack verification unless one runs. A write of SCH.ALLOW, SCH.GUARD or CG.GUARD outside RUN applies the rule
  again. A change that VCORE does not follow within 1 ms raises FS22 and is reversed. SLKCLR makes the smallest slack of every arm
  0x7FFFFFFF; SCH_CNTCLR zeroes LATE and STALE of every arm; a write to EDGE, DEADT or MINPULSE outside a standby is a carried
  write, on a standby of a declared twin it sets STBY_WR alone. (R106, R111, R117, R219, R254, R567, R568, R570) -/
def Obligations.LevelsAndSchedule : Prop :=
  (∀ (m : Master) (q : BitVec 2) (k : BitVec 16) (s : State), s.grants m .p 0x3E0050 = true → k.toNat ≠ 0xA5C3 →
    exec (.plreq m q k) s = .next (s.wr F.CLK_PLSTS_RESULT 4)) ∧
  (∀ (m : Master) (q : BitVec 2) (s : State), s.grants m .p 0x3E0050 = true → s.clk.plStep ≠ 0 → exec (.plreq m q 0xA5C3) s
    = .next (s.wr F.CLK_PLSTS_RESULT 3)) ∧
  (∀ (m : Master) (q : BitVec 2) (s : State), s.grants m .p 0x3E0050 = true → s.clk.plStep = 0 → s.running = false →
    exec (.plreq m q 0xA5C3) s = .next (s.wr F.CLK_PLSTS_RESULT 5)) ∧
  (∀ (m : Master) (q : BitVec 2) (s : State), s.grants m .p 0x3E0050 = true → s.clk.plStep = 0 → s.running = true →
    q.toNat = s.rd F.CLK_PLSTS_PL → exec (.plreq m q 0xA5C3) s = .next (s.wr F.CLK_PLSTS_RESULT 6)) ∧
  (∀ (m : Master) (q : BitVec 2) (s : State), s.grants m .p 0x3E0050 = true → s.clk.plStep = 0 → s.running = true →
    q.toNat ≠ s.rd F.CLK_PLSTS_PL → s.rdBit F.SCH_ACCEPT_PLOK q.toNat = false → exec (.plreq m q 0xA5C3) s
    = .next (s.wr F.CLK_PLSTS_RESULT 2)) ∧
  (∀ (m : Master) (q : BitVec 2) (s : State), s.grants m .p 0x3E0050 = true → s.clk.plStep = 0 → s.running = true →
    q.toNat ≠ s.rd F.CLK_PLSTS_PL → s.rdBit F.SCH_ACCEPT_PLOK q.toNat = true → exec (.plreq m q 0xA5C3) s
    = .next (let p := s.rd F.CLK_PLSTS_PL; let t := s.wr F.CLK_PLSTS_RESULT 1;
    plStep 1 ({ t with clk := { t.clk with plFrom := p, returning := false } }.wr F.CLK_PLSTS_TARGET q.toNat))) ∧
  (∀ (s : State), s.clk.plFrom < s.rd F.CLK_PLSTS_TARGET → plGo s = plStep 2 s) ∧
  (∀ (s : State), s.rd F.CLK_PLSTS_TARGET ≤ s.clk.plFrom →
    plGo s = plStep 3 (levelFigures (s.wr F.CLK_PLSTS_INFORCE (s.rd F.CLK_PLSTS_TARGET)))) ∧
  (∀ (v : BitVec 16) (s : State), s.clk.plStep = 2 → s.clk.plFrom < s.rd F.CLK_PLSTS_TARGET → exec (.plVcoreSettled v) s
    = .next (plStep 3 (s.wr F.CLK_VCORE_MV v.toNat))) ∧
  (∀ (v : BitVec 16) (s : State), s.clk.plStep ≠ 2 → exec (.plVcoreSettled v) s = .next (s.wr F.CLK_VCORE_MV v.toNat)) ∧
  (∀ (s : State), s.clk.plStep = 3 → s.clk.plFrom < s.rd F.CLK_PLSTS_TARGET → exec .plCellarSwitched s
    = .next (let t := (s.put F.CLK_CKSTS_CSEL (!s.flag F.CLK_CKSTS_CSEL)).inc F.CLK_MUXCNT_SWITCHES;
    slackStart (plStep 4 (levelFigures (t.wr F.CLK_PLSTS_INFORCE (s.rd F.CLK_PLSTS_TARGET)))))) ∧
  (∀ (s : State), s.clk.plStep = 2 → exec .plVcoreTimeout s = .next (plFail (raise 22 s))) ∧
  (∀ (s : State), s.clk.returning = false →
    plFail s = plStart (s.rd F.CLK_PLSTS_TARGET) s.clk.plFrom true ((s.wr F.CLK_PLSTS_RETURNED 1).inc F.CLK_PLCNT_FAILS)) ∧
  (∀ (m : Master) (s : State), s.grants m .p 0x20020 = true → s.flag F.SCH_SLKVER_BUSY = false → exec (.reverify m) s
    = .next (((s.wr F.SCH_SLKVER_BUSY 1).wr F.SCH_SLKVER_PL s.inforce).wr F.SCH_CTL_REVERIFY 1)) ∧
  (∀ (m : Master) (s : State), s.grants m .p 0x20020 = true → s.flag F.SCH_SLKVER_BUSY = true → exec (.reverify m) s = .next s) ∧
  (∀ (m : Master) (w : Fin 3) (v : Word) (s : State), s.grants m .p (acceptAddr w.val) = true → s.st ≠ stRUN →
    exec (.acceptRegisterWrite m w v) s = .next (acceptJudge (regWrite m (acceptAddr w.val) v.toNat s))) ∧
  (∀ (m : Master) (w : Fin 3) (v : Word) (s : State), s.grants m .p (acceptAddr w.val) = true → s.st = stRUN →
    exec (.acceptRegisterWrite m w v) s = .next (regWrite m (acceptAddr w.val) v.toNat s)) ∧
  (∀ (s : State), 16 ≤ s.clk.replRun → s.fc.cond.contains 20 = false → (raise 20 s).flag F.CLK_PLCFG_AUTOUP = false →
    exec .replicaOverLimit s = .next (raise 20 s)) ∧
  (∀ (s : State), s.clk.replRun < 16 → exec .replicaOverLimit s = .next s) ∧
  (∀ (m : Master) (s : State), s.grants m .u 0x20020 = true → exec (.slkclr m) s
    = .next (forAll (List.range 12) (fun n s => s.wr (F.ARM_SLACKMIN_NS n) 0x7FFFFFFF) s)) ∧
  (∀ (m : Master) (s : State), s.grants m .u 0x20020 = true → exec (.schCntclr m) s
    = .next (forAll (List.range 12) (fun n s => (s.wr (F.ARM_LATECNT_LATE n) 0).wr (F.ARM_LATECNT_STALE n) 0) s)) ∧
  (∀ (m : Master) (n : Fin 12) (w : Fin 3) (v : Word) (s : State), s.grants m .p (insLimitAddr n.val w.val) = true →
    s.standbyWrite = true → exec (.insLimitWrite m n w v) s
    = .next (settleReg (insLimitAddr n.val w.val) s (s.wr (F.ARM_INSSTS_STBY_WR n) 1))) ∧
  (∀ (m : Master) (n : Fin 12) (w : Fin 3) (v : Word) (s : State), s.grants m .p (insLimitAddr n.val w.val) = true →
    exec (.insLimitWrite m n w v) s
    = .next (settleReg (insLimitAddr n.val w.val) s (carriedWrite m (F.ARM_INSSTS_STBY_WR n) (insLimitAddr n.val w.val) v.toNat s)))

/-- With arm cycles stopped none of them has an effect. The token samples the registers for the coming cycle, moves the ramps on and
  takes the replicas. The cycle start numbers the cycle, anchors its time, launches the frames, lets state and role changes happen
  and starts the work of the cycle; the freeze judges every arm and locks the buffers of the next frames. The first cycle keeps the
  number that it was given, every other one takes the next, modulo 2^32. (R92, R93, R94, R98, R102, R113, R115) -/
def Obligations.CycleEvents : Prop :=
  (∀ (a : BitVec 16) (i : BitVec 6) (s : State), s.running = false → exec (.cycleStartToken a i) s = .next s) ∧
  (∀ (a : BitVec 16) (i : BitVec 6) (s : State), s.running = true → exec (.cycleStartToken a i) s
    = .next (replicas a.toNat i.toNat (rampsUpdate s.nextCyc (sampleAll s.nextCyc s)))) ∧
  (∀ (f : Fld) (c : Nat) (s : State), s.twn.items = [] → (sampleAll c s).smp f = s.rd f) ∧
  (∀ (s : State), s.running = false → exec .cycleStart s = .next s) ∧
  (∀ (s : State), s.running = true → exec .cycleStart s = .next (let a := numberCycle (clearInCycle cycleSources (rehWatch s));
    let b := { a with tb := { a.tb with cycRaw := a.tb.raw }, sch := { a.sch with frozen := false } };
    let c := (cycleAlign (b.wr64 F.TB_CYCST_LO_T F.TB_CYCST_HI_T b.now)).mapCells (fun _ => true) cycleCell;
    let d := twinStart (roleStart (stateStart (obeyStart (launchFrames { c with be := { c.be with arms := c.be.arms.map cycleArm } }))));
    if !d.running then d else let r := forAll d.arms (fun n s => e0Start n s.cyc (sigmaStart n s)) d;
    let e := controlStart (phaseStart (rampsStart r.now r)); let f := ledgerCycle (lmuCycle (e.isControl e.cyc) e);
    hbSend (if f.clk.plStep = 1 then plGo f else f))) ∧
  (∀ (s : State), s.sch.first = none → s.twn.adopt = false → s.tb.renum = none → (numberCycle s).cyc = (s.cyc + 1) % 2 ^ 32) ∧
  (∀ (c : Nat) (s : State), s.sch.first = some c → c < 2 ^ 32 → (numberCycle s).cyc = c ∧ (numberCycle s).rd F.SCH_CPBASE_CYC = c) ∧
  (∀ (s : State), (s.running = false ∨ s.sch.frozen = true ∨ s.sch.first.isSome = true) → exec .armFreeze s = .next s) ∧
  (∀ (s : State), s.running = true → s.sch.frozen = false → s.sch.first = none → exec .armFreeze s
    = .next (let a := { s with be := { s.be with before := s.be.cells } };
    let b := snapFreeze (snapSend (ledgerWrite (forAll (rehFreeze a).arms freezeArm (rehFreeze a))));
    { b with cl := { b.cl with lock := some (b.cl.lock.getD (b.sendEpoch, b.sendDrv)) }, sch := { b.sch with frozen := true } })) ∧
  (∀ (n : Fin 12) (s : State), s.rd (F.ARM_STS_MISSRUN n) = 3 → exec (.missrunLimit n) s = .next (raise (224 + 2 * n.val) s)) ∧
  (∀ (n : Fin 12) (s : State), s.rd (F.ARM_STS_MISSRUN n) ≠ 3 → exec (.missrunLimit n) s = .next s) ∧
  (∀ (n : Nat) (s : State), (s.arm n).rsHold = false → s.armLate n = false →
    (deadline n s) = unraise (224 + 2 * n) (((s.wr (F.ARM_STS_LASTLATE n) 0).wr (F.ARM_STS_MISSRUN n) 0).putBit F.SCH_LATEARMS_ARMS n false))

/-- A run starts when its image is complete and no run is under way; each core reports once; the run completes when every core that has
  instances has reported, and is judged by its time. A core that has not completed 4 control periods after the start of the run has
  stalled: the graph stops and FS(216 + c) is raised. A corrected core error is counted, an uncorrectable one raises FS(216 + c). A
  parameter commit takes effect at its apply point, an accepted GRESET at the first control-period start after it. On a standby of a
  declared twin each carried one sets STBY_WR alone. A PCOMMIT while one is pending is refused; else it takes the shadows and is
  pending until its apply point. GRESET has no effect in RUN but HST.WERR.LOCKED; elsewhere it is remembered. MAXCLR zeroes RUNTMAX.
  A write to HIN sets the word. (R119, R120, R124, R125, R126, R144, R145, R146, R148, R158) -/
def Obligations.ControlGraph : Prop :=
  (∀ (s : State), (s.cg.run.isSome = true ∨ s.cg.imgs = []) → exec .graphImageReady s = .next s) ∧
  (∀ (i : Img) (l : List Img) (s : State), s.cg.run = none → s.cg.imgs = i :: l → i.vals.any Option.isNone = false →
    s.flag F.CG_STS_STOPPED = false → exec .graphImageReady s
    = .next (let t := { s with cg := { s.cg with run := some { img := i, par := s.params, ts := s.tsNow, tsp := s.cg.tsp }, imgs := l } }.wr F.CG_STS_RUNNING 1;
    forAll s.cg.g.cores (fun c s => s.wr (F.CC_STS_BUSY c) 1) t)) ∧
  (∀ (r : Run) (c : Fin 8) (t : Word) (s : State), s.cg.run = some r → s.cg.g.cores.contains c.val = true →
    r.done.contains c.val = false → exec (.coreScheduleDone c t) s
    = .next (({ s with cg := { s.cg with run := some { r with done := c.val :: r.done, last := c.val } } }.wr (F.CC_FIN_NS c) t.toNat).wr (F.CC_STS_BUSY c) 0)) ∧
  (∀ (t : Word) (s : State), s.cg.run = none → exec (.graphRunComplete t) s = .next s) ∧
  (∀ (r : Run) (t : Word) (s : State), s.cg.run = some r → s.cg.g.cores.all r.done.contains = true → ∃ u,
    exec (.graphRunComplete t) s = .next u ∧ u.cg.run = none ∧ u.cg.sig = (evalRun s.cg.g s.cg.sig s.cg.mem r).1) ∧
  (∀ (r : Run) (c : Fin 8) (s : State), s.cg.run = some r → s.cg.g.cores.contains c.val = true → r.done.contains c.val = false →
    4 * s.mper ≤ cycDiff s.cyc r.img.cyc → exec (.graphStall c) s
    = .next (raise (216 + c.val) (((({ s with cg := { s.cg with run := none, imgs := [] } }.wr (F.CC_CAUSE_STALL c) 1).wr (F.CC_STS_STALLED c) 1).wr F.CG_STS_STOPPED 1).wr F.CG_STS_RUNNING 0))) ∧
  (∀ (c : Fin 8) (s : State), s.cg.run = none → exec (.graphStall c) s = .next s) ∧
  (∀ (c : Fin 8) (k : Fin 3) (i : BitVec 20) (s : State), exec (.coreEccError c true k i) s
    = .next ((s.inc (F.CC_CNT_ECCC c)).wr (F.CC_CAUSE_ECCC c) 1)) ∧
  (∀ (c : Fin 8) (k : Fin 3) (i : BitVec 20) (s : State), s.cg.run = none → exec (.coreEccError c false k i) s
    = .next (raise (216 + c.val) (s.wr (F.CC_CAUSE_ECCU c) 1))) ∧
  (∀ (k : Nat) (s : State), s.cg.gresetAt = some k → s.cycleDue k = true → exec .graphInit s = .next (graphInit s)) ∧
  (∀ (s : State), s.cg.gresetAt = none → exec .graphInit s = .next s) ∧
  (∀ (s : State), (graphInit s).cg.sig = s.cg.g.init ∧ (graphInit s).cg.run = none ∧ (graphInit s).cg.gresetAt = none) ∧
  (∀ (s : State), s.flag F.CG_PSTS_PENDING = true → s.cycleDue (s.rd F.CG_PAPPLY_CYC) = true → exec .paramApply s
    = .next (productsUpdate (((s.applyCapt s.parFields).wr F.CG_PSTS_PENDING 0).wr F.CG_CTL_PCOMMIT 0))) ∧
  (∀ (s : State), s.flag F.CG_PSTS_PENDING = false → exec .paramApply s = .next s) ∧
  (∀ (c : Word) (l : List Word) (s : State), (s.role ≠ roSTANDBY ∨ s.relayUp = false) → exec (.imgReceived c l) s = .next s) ∧
  (∀ (c : Word) (l : List Word) (s : State), s.role = roSTANDBY → s.relayUp = true → s.cg.imgs = [] → c.toNat = s.cyc →
    s.cg.g.order = [] → exec (.imgReceived c l) s = .next (monitor ((l.map (·.toNat)).drop (l.length - 3)) s)) ∧
  (∀ (m : Master) (s : State), s.grants m .p 0x40000 = true → s.standbyWrite = true → exec (.pcommit m) s
    = .next (s.wr F.CG_PSTS_STBY_WR 1) ∧ exec (.greset m) s = .next (s.wr F.CG_PSTS_STBY_WR 1)) ∧
  (∀ (m : Master) (s : State), s.grants m .p 0x40000 = true → s.standbyWrite = false → s.flag F.CG_PSTS_PENDING = true →
    exec (.pcommit m) s = .next (s.wr F.CG_PSTS_REFUSED 1)) ∧
  (∀ (m : Master) (s : State), s.grants m .p 0x40000 = true → s.standbyWrite = false → s.flag F.CG_PSTS_PENDING = false →
    s.flag F.GLB_ROLE_TWIN = false → exec (.pcommit m) s = .next (let t := captureAll s.parFields s;
    ((t.wr F.CG_PSTS_PENDING 1).wr F.CG_CTL_PCOMMIT 1).wr F.CG_PAPPLY_CYC t.applyPoint)) ∧
  (∀ (m : Master) (s : State), s.grants m .p 0x40000 = true → s.standbyWrite = false → s.st = stRUN → exec (.greset m) s
    = .next (s.werr F.HST_WERR_LOCKED m)) ∧
  (∀ (m : Master) (s : State), s.grants m .p 0x40000 = true → s.standbyWrite = false → s.st ≠ stRUN → s.flag F.GLB_ROLE_TWIN = false
    → exec (.greset m) s = .next ({ s with cg := { s.cg with gresetAt := some (s.controlAt (s.cyc + 1)) } }.wr F.CG_CTL_GRESET 1)) ∧
  (∀ (m : Master) (s : State), s.grants m .p 0x40040 = true → exec (.maxclr m) s = .next (s.wr F.CG_RUNTMAX_NS 0)) ∧
  (∀ (m : Master) (k : BitVec 6) (v : Word) (s : State), s.grants m .u (0x42000 + 4 * k.toNat) = true → s.standbyWrite = true →
    exec (.hinWrite m k v) s = .next (s.wr F.CG_PSTS_STBY_WR 1)) ∧
  (∀ (m : Master) (k : BitVec 6) (v : Word) (s : State), s.grants m .u (0x42000 + 4 * k.toNat) = true → s.standbyWrite = false →
    s.flag F.GLB_ROLE_TWIN = false → exec (.hinWrite m k v) s = .next (s.wr (F.CG_HIN_VAL k.toNat) v.toNat))

/-- A frame on a lane that is not LOCKED, or a second one of a cycle, is ignored; one whose header does not belong to the downlink frame
  of this cycle is counted in HDRERR alone, beside its code groups. The cut-off of an arm counts every cell whose slot has not
  passed as missing, records the end of its uplink, and sets STALE where one is missing. (R99, R107, R112, R290, R294) -/
def Obligations.FrameEvents : Prop :=
  (∀ (l : Fin 128) (a : BitVec 20) (b : List Byte) (c d : Byte) (s : State), (s.lane l ≠ lsLOCKED ∨ s.cl.launched = false
    ∨ (s.ln l).te.isSome = true) → exec (.uplinkFrameReceived l a b c d) s = .next s) ∧
  (∀ (l : Fin 128) (a : BitVec 20) (b : List Byte) (c d : Byte) (s : State), s.lane l = lsLOCKED → s.cl.launched = true →
    (s.ln l).te = none → (codeGroups l c.toNat d.toNat s).headerOk b = false → exec (.uplinkFrameReceived l a b c d) s
    = .next ((codeGroups l c.toNat d.toNat s).inc (F.CL_ERR4_HDRERR l))) ∧
  (∀ (l : Fin 128) (a : BitVec 20) (b : List Byte) (c d : Byte) (s : State), s.lane l = lsLOCKED → s.cl.launched = true →
    (s.ln l).te = none → (codeGroups l c.toNat d.toNat s).headerOk b = true → ∃ t : State, exec (.uplinkFrameReceived l a b c d) s
    = .next (ringBreak l t) ∧ (t.ln l).te.isSome = true) ∧
  (∀ (n : Fin 12) (s : State), (s.running = false ∨ s.arms.contains n.val = false ∨ (s.arm n).cut = true) → exec (.uplinkCutoff n) s
    = .next s) ∧
  (∀ (n : Fin 12) (s : State), s.running = true → s.arms.contains n.val = true → (s.arm n).cut = false → exec (.uplinkCutoff n) s
    = .next (let x := s.be.cells.any fun c => c.arm == n.val && !c.present; let t := chainRecord n x ((s.mapCells (fun c => c.arm == n.val && !c.present) fun c => { c with miss := min 255 (c.miss + 1) }).setArm n fun a => { a with cut := true, missing := x }); if x then (t.wr (F.ARM_STS_STALE n) 1).inc (F.ARM_LATECNT_STALE n) else t))

/-- Each cell command that passes the arbiter is judged and recorded in BE.CMDSTS, its code, result and reason, SEQ going up; a refused
  one does no more, an accepted one waits for its apply cycle, which BE.CMDAPPLY shows. A cell that does not exist is refused
  with reason 1, any cell on a standby with 4, FAILBYP with a wrong key with 3. The effects at the apply cycle: EXCLUDE sets XCL,
  INCLUDE clears XCL, MISM and FLTREP, FAILBYP excludes and bypasses, SPARE_IN promotes, SPARE_OUT ends the promotion. (R197, R198,
  R199) -/
def Obligations.CellCommands : Prop :=
  (∀ (m : Master) (c : BitVec 13) (k : BitVec 16) (s : State), s.grants m .p 0x100008 = true → exec (.exclude m c k) s
    = .next (cellCommand 1 c.toNat k.toNat s) ∧ exec (.include m c k) s = .next (cellCommand 2 c.toNat k.toNat s) ∧
    exec (.failbyp m c k) s = .next (cellCommand 3 c.toNat k.toNat s) ∧ exec (.spareIn m c k) s
    = .next (cellCommand 4 c.toNat k.toNat s) ∧ exec (.spareOut m c k) s = .next (cellCommand 5 c.toNat k.toNat s)) ∧
  (∀ (i c k : Nat) (s : State), 1 ≤ i → i ≤ 5 → s.cellRefusal i k c ≠ 0 →
    cellCommand i c k s = ((((s.wr F.BE_CMDSTS_CODE i).wr F.BE_CMDSTS_RESULT 2).wr F.BE_CMDSTS_REASON (s.cellRefusal i k c)).count F.BE_CMDSTS_SEQ).logCommand (0x40 + i) (s.cellRefusal i k c)) ∧
  (∀ (i c k : Nat) (s : State), 1 ≤ i → i ≤ 5 → s.cellRefusal i k c = 0 →
    (cellCommand i c k s).be.cmds.map (fun q => (q.cell, q.code)) = s.be.cmds.map (fun q => (q.cell, q.code)) ++ [(c, i)]) ∧
  (∀ (i k c : Nat) (s : State), s.cell? c = none → s.cellRefusal i k c = 1) ∧
  (∀ (i k c : Nat) (x : CellSt) (s : State), s.cell? c = some x → s.role = roSTANDBY → s.cellRefusal i k c = 4) ∧
  (∀ (k c : Nat) (x : CellSt) (s : State), s.cell? c = some x → s.role ≠ roSTANDBY → k ≠ 0xA5C3 → s.cellRefusal 3 k c = 3) ∧
  (∀ (c : CellSt), (cellEffect true 1 c).xcl = true ∧ (cellEffect true 2 c).xcl = false ∧ (cellEffect true 2 c).mism = false ∧
    (cellEffect true 3 c).xcl = true ∧ (cellEffect true 3 c).failbyp = true ∧ (cellEffect true 4 c).promo = true ∧
    (cellEffect true 5 c).promo = false)

/-- Ranking has an effect once a cycle, when the slots of the arm have been taken: the observation, σ, the rank order, the aggregates,
  the population and the promotion. Selection has one once a cycle after it: outside RUN its list is empty. A fault of an engine in
  use sets its cause: a corrected error is counted, every other makes the arm hold the cycle and raises FS(192 + e); an unused
  engine raises nothing. RERANK makes every engine rank in full in the next cycle; BE_CNTCLR zeroes the counters of the engines and
  of selection. A write to a limit of selection on a standby of a declared twin sets STBY_WR alone; with no declared twin it is an
  ordinary write. (R187, R192, R205, R206, R208, R219, R220, R224, R225) -/
def Obligations.Engines : Prop :=
  (∀ (n : Fin 12) (s : State), (s.running = false ∨ s.arms.contains n.val = false ∨ (s.arm n).ranked = true
    ∨ s.slotsTaken n = false) → exec (.rankingComplete n) s = .next s) ∧
  (∀ (n : Fin 12) (s : State), s.running = true → s.arms.contains n.val = true → (s.arm n).ranked = false → s.slotsTaken n = true →
    exec (.rankingComplete n) s = .next (let a := sigmaTwin n (observeArm n (s.mapCells (·.arm == n.val) clearMiss));
    let w := (a.smp (F.ARM_WEIGHT_WV n) + 256 * a.smp (F.ARM_WEIGHT_WH n) + 65536 * a.smp (F.ARM_WEIGHT_WT n) + 2 ^ 24 * a.smp (F.ARM_WEIGHT_WL n), a.smp (F.ARM_SELCFG_MODE n));
    let b := rerankStats n ((a.arm n).fullNext || (a.arm n).flip || (a.arm n).seenCfg != w) a;
    promote n (cellCount n (popJudge n (aggWrite n (sigmaDecide n (rankArm n (b.setArm n fun x => { x with fullNext := false, seenCfg := w, ranked := true })))))))) ∧
  (∀ (n : Fin 12) (s : State), s.role ≠ roSTANDBY → (s.running = false ∨ (s.arm n).ranked = false ∨ (s.arm n).sel.isSome = true) →
    exec (.selectionComplete n) s = .next s) ∧
  (∀ (n : Fin 12) (s : State), s.role ≠ roSTANDBY → s.running = true → (s.arm n).ranked = true → (s.arm n).sel = none → s.st = stRUN
    → ∃ t : State, exec (.selectionComplete n) s = .next t ∧ (t.arm n).sel = some (let a := applyCellCmds n s;
    (if a.cyc % max 1 (a.smp (F.ARM_TRLIM_WIN n)) = 0 then a.mapCells (·.arm == n.val) (fun c => { c with wcnt := 0 })
    else a).select n)) ∧
  (∀ (n : Fin 12) (s : State), s.role ≠ roSTANDBY → s.running = true → (s.arm n).ranked = true → (s.arm n).sel = none → s.st ≠ stRUN
    → ∃ t : State, exec (.selectionComplete n) s = .next t ∧ (t.arm n).sel = some {}) ∧
  (∀ (e : Fin 24) (c : BitVec 2) (s : State), s.rdBit F.BE_USED_USED e.val = false → exec (.engineFault e c) s = .next s) ∧
  (∀ (e : Fin 24) (s : State), s.rdBit F.BE_USED_USED e.val = true → exec (.engineFault e 3) s
    = .next ((s.wr (F.BE_CAUSE_ECCC e) 1).inc (F.BE_CNT_ECCC e))) ∧
  (∀ (e : Fin 24) (s : State), s.rdBit F.BE_USED_USED e.val = true → exec (.engineFault e 0) s
    = .next (let n := s.rd (F.BE_CFG_ARM e);
    raiseInCycle (192 + e.val) (((s.wr (F.BE_CAUSE_ECCU e) 1).wr (F.ARM_SELSTS_ENGERR n) 1).setArm n fun a => { a with engErr := true }))) ∧
  (∀ (m : Master) (s : State), s.grants m .p 0x100000 = true → exec (.rerank m) s
    = .next { s with be := { s.be with arms := s.be.arms.map fun a => { a with fullNext := true } } }) ∧
  (∀ (m : Master) (s : State), s.grants m .u 0x100000 = true → exec (.beCntclr m) s
    = .next (forAll (List.range 12) (fun n s => (s.wr (F.ARM_SELCNT_NSHORT n) 0).wr (F.ARM_SELCNT_CHGLIM n) 0) (forAll (List.range 24) (fun e s => (s.wr (F.BE_CNT_FULLCNT e) 0).wr (F.BE_CNT_ECCC e) 0) s))) ∧
  (∀ (m : Master) (n : Fin 12) (w : Fin 7) (v : Word) (s : State), s.grants m .p (limitAddr n.val w.val) = true →
    s.standbyWrite = true → exec (.armSelectionLimitWrite m n w v) s = .next (s.wr (F.ARM_SELSTS_STBY_WR n) 1)) ∧
  (∀ (m : Master) (n : Fin 12) (w : Fin 7) (v : Word) (s : State), s.grants m .p (limitAddr n.val w.val) = true →
    s.standbyWrite = false → (regWrite m (limitAddr n.val w.val) v.toNat s).twinned = false →
    exec (.armSelectionLimitWrite m n w v) s = .next (regWrite m (limitAddr n.val w.val) v.toNat s))

/-- On a standby of a declared twin each sets STBY_WR alone; a commit while one is pending sets REFUSED alone; else the shadows are
  captured and the commit is pending until its apply point, at which the captured values become active. PRESET has no effect in RUN
  but HST.WERR.LOCKED; elsewhere, with no twin, the ramps of the mask are preset. Of a configured arm in a running cycle the level
  generator shows VREF; a VREF that is not finite sets NONFIN, raises FS(225 + 2n), and keeps N and F unless the arm is still; a
  finite one gives N and F. A reference held for HOLDLIM control periods raises FS(225 + 2n). (R162, R170, R171, R172, R178, R179,
  R180) -/
def Obligations.ReferencesAndLevelGenerator : Prop :=
  (∀ (m : Master) (k : BitVec 4) (s : State), s.grants m .p 0x80000 = true → s.standbyWrite = true → exec (.ocommit m) s
    = .next (s.wr F.REF_STS_STBY_WR 1) ∧ exec (.wcommit m) s = .next (s.wr F.REF_STS_STBY_WR 1) ∧ exec (.preset m k) s
    = .next (s.wr F.REF_STS_STBY_WR 1)) ∧
  (∀ (m : Master) (s : State), s.grants m .p 0x80000 = true → s.standbyWrite = false → s.flag F.REF_STS_OPENDING = true →
    exec (.ocommit m) s = .next (s.wr F.REF_STS_REFUSED 1)) ∧
  (∀ (m : Master) (s : State), s.grants m .p 0x80000 = true → s.standbyWrite = false → s.flag F.REF_STS_WPENDING = true →
    exec (.wcommit m) s = .next (s.wr F.REF_STS_REFUSED 1)) ∧
  (∀ (m : Master) (s : State), s.grants m .p 0x80000 = true → s.standbyWrite = false → s.flag F.REF_STS_OPENDING = false →
    s.flag F.GLB_ROLE_TWIN = false → exec (.ocommit m) s = .next (let t := captureAll ((List.range 4).flatMap ordFields) s;
    (t.wr F.REF_STS_OPENDING 1).wr F.REF_OAPPLY_CYC t.applyPoint)) ∧
  (∀ (m : Master) (s : State), s.grants m .p 0x80000 = true → s.standbyWrite = false → s.flag F.REF_STS_WPENDING = false →
    s.flag F.GLB_ROLE_TWIN = false → exec (.wcommit m) s = .next (let t := captureAll waveFields s;
    (t.wr F.REF_STS_WPENDING 1).wr F.REF_WAPPLY_CYC t.applyPoint)) ∧
  (∀ (m : Master) (k : BitVec 4) (s : State), s.grants m .p 0x80000 = true → s.standbyWrite = false → s.st = stRUN →
    exec (.preset m k) s = .next (s.werr F.HST_WERR_LOCKED m)) ∧
  (∀ (m : Master) (k : BitVec 4) (s : State), s.grants m .p 0x80000 = true → s.standbyWrite = false → s.st ≠ stRUN →
    s.flag F.GLB_ROLE_TWIN = false → exec (.preset m k) s
    = .next { s with ref := { s.ref with preset := s.ref.preset ||| k.toNat } }) ∧
  (∀ (s : State), s.flag F.REF_STS_OPENDING = true → s.cycleDue (s.rd F.REF_OAPPLY_CYC) = true → exec .orderApply s
    = .next ((forAll [0, 1, 2, 3] ordApply s).wr F.REF_STS_OPENDING 0)) ∧
  (∀ (s : State), s.flag F.REF_STS_WPENDING = true → s.cycleDue (s.rd F.REF_WAPPLY_CYC) = true → exec .waveformApply s
    = .next ((s.applyCapt waveFields).wr F.REF_STS_WPENDING 0)) ∧
  (∀ (s : State), s.flag F.REF_STS_OPENDING = false → s.flag F.REF_STS_WPENDING = false → exec .orderApply s = .next s ∧
    exec .waveformApply s = .next s) ∧
  (∀ (n : Fin 12) (s : State), (s.running = false ∨ s.arms.contains n.val = false) → exec (.levelGenComplete n) s = .next s) ∧
  (∀ (n : Fin 12) (s : State), s.running = true → s.arms.contains n.val = true → f32isFin (s.vref n) = false → s.armStill n = false
    → exec (.levelGenComplete n) s
    = .next (raise (225 + 2 * n.val) ((((s.wr (F.ARM_VREF_VAL n) (s.vref n)).put (F.ARM_LGSTS_INSTILL n) false).wr (F.ARM_LGSTS_NONFIN n) 1).wr (F.ARM_REFCAUSE_NONFIN n) 1))) ∧
  (∀ (n : Fin 12) (s : State), s.running = true → s.arms.contains n.val = true → f32isFin (s.vref n) = true →
    exec (.levelGenComplete n) s = .next (let v := s.vref n; let i := s.armStill n;
    let a := (s.wr (F.ARM_VREF_VAL n) v).put (F.ARM_LGSTS_INSTILL n) i;
    let g := levelOf v (a.rd (F.ARM_AGG_VAL n 0)) (a.rd (F.ARM_AGG_VAL n 8)) (a.smp F.REF_LGCFG_VFLOOR) (a.smpFlag (F.ARM_LGCTL_NLC n));
    let b := if g.sat then a.wr (F.ARM_LGSTS_SAT n) 1 else a; let c := if g.lowv then b.wr (F.ARM_LGSTS_LOWV n) 1 else b;
    let z := i && !c.smpFlag (F.ARM_LGCTL_STILLMODE n);
    let d := (c.wr (F.ARM_LGOUT_N n) (if z then 0 else g.n)).wr (F.ARM_LGOUT_F n) (if z then 0 else g.f);
    if d.rd (F.ARM_LGSTS_HELDRUN n) < max 1 (d.rd F.REF_LGCFG_HOLDLIM) then unraise (225 + 2 * n.val) d else d)) ∧
  (∀ (n : Fin 12) (s : State), s.flag (F.ARM_LGSTS_HELD n) = true → s.rd F.REF_LGCFG_HOLDLIM ≤ s.rd (F.ARM_LGSTS_HELDRUN n) →
    exec (.refHeldLimit n) s = .next (raise (225 + 2 * n.val) (s.wr (F.ARM_REFCAUSE_HELD n) 1))) ∧
  (∀ (n : Fin 12) (s : State), s.flag (F.ARM_LGSTS_HELD n) = false → exec (.refHeldLimit n) s = .next s)

/-- The timing stage of an arm whose selection is complete records its CRT, once; one left open by a late cycle closes. A commit of a
  fractional-PWM unit on a standby of a declared twin sets STBY_WR alone, one in AUTO mode without a twin has no effect, one while
  another is pending sets CREFUSED alone, and else the values are captured and pending. The update point has no effect with arm
  cycles stopped. A compare fires when its mode and period allow. INS_CNTCLR zeroes SHORT and GUARD of every arm. (R107, R246, R248,
  R249, R250, R251, R254) -/
def Obligations.TimingCommands : Prop :=
  (∀ (n : Fin 12) (c : BitVec 20) (s : State), (s.arm n).lateOpen = true → exec (.timingComplete n c) s
    = .next (recordDone n c.toNat (s.setArm n fun a => { a with lateOpen := false }))) ∧
  (∀ (n : Fin 12) (c : BitVec 20) (s : State), (s.arm n).lateOpen = false → ((s.arm n).sel = none ∨ (s.arm n).done.isSome = true) →
    exec (.timingComplete n c) s = .next s) ∧
  (∀ (q : Sel) (n : Fin 12) (c : BitVec 20) (s : State), (s.arm n).lateOpen = false → (s.arm n).sel = some q → (s.arm n).done = none
    → s.st ≠ stRUN → s.smpFlag (F.INS_FP_CFG_SRC n) = false → exec (.timingComplete n c) s
    = .next (recordDone n c.toNat (s.setArm n fun a => { a with done := some c.toNat }))) ∧
  (∀ (q : Sel) (n : Fin 12) (c : BitVec 20) (s : State), (s.arm n).lateOpen = false → (s.arm n).sel = some q → (s.arm n).done = none
    → s.st = stRUN → (writeSlots n q s).smpFlag (F.INS_FP_CFG_SRC n) = false → exec (.timingComplete n c) s
    = .next (recordDone n c.toNat ((writeSlots n q s).setArm n fun a => { a with done := some c.toNat }))) ∧
  (∀ (m : Master) (n : Fin 12) (s : State), s.grants m .p (0x140104 + 0x40 * n.val) = true → s.standbyWrite = true →
    exec (.fpCommit m n) s = .next (s.wr (F.INS_FP_STS_STBY_WR n) 1)) ∧
  (∀ (m : Master) (n : Fin 12) (s : State), s.grants m .p (0x140104 + 0x40 * n.val) = true → s.standbyWrite = false →
    s.flag (F.INS_FP_CFG_MODE n) = true → s.twinned = false → exec (.fpCommit m n) s = .next s) ∧
  (∀ (m : Master) (n : Fin 12) (s : State), s.grants m .p (0x140104 + 0x40 * n.val) = true → s.standbyWrite = false →
    s.flag (F.INS_FP_CFG_MODE n) = false → s.flag (F.INS_FP_STS_PENDING n) = true → exec (.fpCommit m n) s
    = .next (s.wr (F.INS_FP_STS_CREFUSED n) 1)) ∧
  (∀ (m : Master) (n : Fin 12) (s : State), s.grants m .p (0x140104 + 0x40 * n.val) = true → s.standbyWrite = false →
    s.flag (F.INS_FP_CFG_MODE n) = false → s.flag (F.INS_FP_STS_PENDING n) = false → s.twinned = false → exec (.fpCommit m n) s
    = .next (((captureAll (fpShared n ++ fpCompares n) s).wr (F.INS_FP_STS_PENDING n) 1).setArm n fun a => { a with fpAt := none })) ∧
  (∀ (n : Fin 12) (s : State), s.running = false → exec (.fpUpdatePoint n) s = .next s) ∧
  (∀ (n : Fin 12) (s : State), s.running = true → s.twinned = false → s.flag (F.INS_FP_CFG_MODE n) = false →
    s.flag (F.INS_FP_STS_PENDING n) = true → (s.arm n).fpAt = none → ∃ t : State, exec (.fpUpdatePoint n) s = .next t ∧
    t.flag (F.INS_FP_STS_PENDING n) = false) ∧
  (∀ (n : Fin 12) (j : Fin 4) (s : State), s.compareFires n j = false → exec (.fpCompareFire n j) s = .next s) ∧
  (∀ (n : Fin 12) (j : Fin 4) (s : State), s.compareFires n j = true → exec (.fpCompareFire n j) s
    = .next (let t := s.emit (.trigger 0 n j); if t.rd F.TLY_LTRIG_FPSEL_N = n.val ∧ t.rd F.TLY_LTRIG_FPSEL_J = j.val
    then ledgerFire 7 t else t)) ∧
  (∀ (m : Master) (s : State), s.grants m .u 0x140004 = true → exec (.insCntclr m) s
    = .next (forAll (List.range 12) (fun n s => (s.wr (F.ARM_INSCNT_SHORT n) 0).wr (F.ARM_INSCNT_GUARD n) 0) s))

/-- SUBMIT while 16 requests wait sets OVF alone; else the request joins the queue. POP removes the oldest result; FLUSH leaves no
  waiting request and no result. A write of AUXSEL in RUN sets HST.WERR.LOCKED alone, elsewhere a new value goes to the cells of the
  lane. Retries used up end an open transaction with result 2, BUSYMAX cycles after the first BUSY with 3. (R312, R315, R7) -/
def Obligations.ParcelCommands : Prop :=
  (∀ (m : Master) (s : State), s.grants m .p 0x189008 = true → 16 ≤ s.cl.reqs.length + s.hostOpen → exec (.pqSubmit m) s
    = .next (s.wr F.CL_PQSTS_OVF 1)) ∧
  (∀ (m : Master) (s : State), s.grants m .p 0x189008 = true → s.cl.reqs.length + s.hostOpen < 16 → exec (.pqSubmit m) s
    = .next (let r : Req := { hop := s.rd F.CL_PQREQ0_HOP, op := s.rd F.CL_PQREQ0_OP, reg := s.rd F.CL_PQREQ0_REG, src := if m.owner = 2 then 1 else 0, data := s.rd F.CL_PQREQ1_DATA };
    pqSync (pqRefuse 16 { s with cl := { s.cl with reqs := s.cl.reqs ++ [(s.rd F.CL_PQREQ0_LANE, r)] } }))) ∧
  (∀ (m : Master) (s : State), s.grants m .p 0x189008 = true → exec (.pqPop m) s
    = .next (pqSync (pqRefuse 16 { s with cl := { s.cl with results := s.cl.results.tail } }))) ∧
  (∀ (m : Master) (s : State), s.grants m .p 0x189008 = true → ∃ t : State, exec (.pqFlush m) s = .next t ∧ t.cl.reqs = [] ∧
    t.cl.results = [] ∧ t.cellar = s.cellar ∧ t.out = s.out) ∧
  (∀ (m : Master) (l : Fin 128) (v : Byte) (s : State), s.grants m .p (0x180048 + 0x100 * l.val) = true → s.st = stRUN →
    exec (.clAuxselWrite m l v) s = .next (s.werr F.HST_WERR_LOCKED m)) ∧
  (∀ (m : Master) (l : Fin 128) (v : Byte) (s : State), s.grants m .p (0x180048 + 0x100 * l.val) = true → s.st ≠ stRUN →
    s.rd (F.CL_FCFG_AUXSEL l) = v.toNat → exec (.clAuxselWrite m l v) s = .next s) ∧
  (∀ (m : Master) (l : Fin 128) (v : Byte) (s : State), s.grants m .p (0x180048 + 0x100 * l.val) = true → s.st ≠ stRUN →
    s.rd (F.CL_FCFG_AUXSEL l) ≠ v.toNat → s.flag (F.CL_CFG_USED l) = true → exec (.clAuxselWrite m l v) s
    = .next ((s.wr (F.CL_FCFG_AUXSEL l) v.toNat).setLn l fun x => { x with own := x.own ++ [{ op := 4, reg := 0x023, data := v.toNat }] })) ∧
  (∀ (t : Tx) (l : Fin 128) (s : State), (s.ln l).tx = some t → t.await.isSome = true → s.rd F.CL_PQCFG_RETRY ≤ t.repeats →
    exec (.parcelRetryExhausted l) s = .next (txEnd l 2 0 0 s)) ∧
  (∀ (t : Tx) (b : Nat) (l : Fin 128) (s : State), (s.ln l).tx = some t → t.busy = some b →
    s.rd F.CL_PQCFG_BUSYMAX ≤ cycDiff s.cyc b → exec (.parcelBusyTimeout l) s = .next (txEnd l 3 0 0 s)) ∧
  (∀ (l : Fin 128) (s : State), (s.ln l).tx = none → exec (.parcelRetryExhausted l) s = .next s ∧ exec (.parcelBusyTimeout l) s
    = .next s)

/-- EIDLE ends with the fast-exit burst and EXIT while the link process runs or a retrain is permitted; the burst's end sends TS1 and
  gives ALIGN; lock in ALIGN gives TRAIN, in RXLOST LOCKED; a sound TS2 gives MEASURE and the first DMREQ; every hop measured gives
  READY; TMOMS without it gives FAILED with cause TRAIN; FAILED returns to EIDLE while the link process runs. Each has no effect in
  another state. RETRAIN acts from EIDLE and RXLOST. Of an exchange in training a response that is not sound counts in DMERR and is
  retried, a sound one is a sample of its hop; in an urgent block it is asked again. In service a response that answers no request
  has no effect; a timeout counts in DMERR. An in-service request is sent when it is due and fits before the freeze; one that does
  not fit counts in SKIP. (R264, R274, R277, R280, R281, R282, R283) -/
def Obligations.LaneTrainingAndHopDelays : Prop :=
  (∀ (l : Fin 128) (s : State), s.lane l = lsEIDLE → s.linking = true → s.ringWaits l = false → exec (.laneIdleExpired l) s
    = .next (let t := (s.inc (F.CL_STS_ATTEMPTS l)).inc (F.CL_ERR3_TRAINS l);
    setLane l lsEXIT (t.emit (.laneCode l 2 (t.burst l))))) ∧
  (∀ (l : Fin 128) (s : State), s.lane l ≠ lsEIDLE → exec (.laneIdleExpired l) s = .next s) ∧
  (∀ (l : Fin 128) (s : State), s.lane l = lsEXIT → exec (.laneBurstSent l) s
    = .next (setLane l lsALIGN (s.emit (.laneCode l 3 0)))) ∧
  (∀ (l : Fin 128) (s : State), s.lane l ≠ lsEXIT → exec (.laneBurstSent l) s = .next s) ∧
  (∀ (l : Fin 128) (s : State), s.lane l = lsALIGN → exec (.laneRxLock l) s
    = .next (setLane l lsTRAIN ((s.wr (F.CL_STS_RXLOCK l) 1).wr (F.CL_STS_SIGDET l) 1))) ∧
  (∀ (l : Fin 128) (s : State), s.lane l = lsRXLOST → exec (.laneRxLock l) s
    = .next (setLane l lsLOCKED ((dropSamples l ((s.wr (F.CL_STS_RXLOCK l) 1).wr (F.CL_STS_SIGDET l) 1)).wr (F.CL_DMSTS_NEXT l) 0))) ∧
  (∀ (l : Fin 128) (g h i c : Byte) (s : State), (s.lane l ≠ lsTRAIN ∨ c ≠ orderedChk [g, h, i]) →
    exec (.laneTs2Received l g h i c) s = .next s) ∧
  (∀ (l : Fin 128) (g h i c : Byte) (s : State), s.lane l = lsTRAIN → c = orderedChk [g, h, i] → i.toNat = l.val →
    s.rd (F.CL_CFG_RING l) = 0xFF → s.linking = false → exec (.laneTs2Received l g h i c) s
    = .next (let t := s.wr (F.CL_STS_HOPSEEN l) h.toNat;
    let u := if h.toNat = t.expHops l then t else laneCause l F.CL_CAUSE_HOPS t;
    (setLane l lsMEASURE (u.setLn l fun x => { x with hops := [], mhop := 0 })).emit (.laneCode l 4 0))) ∧
  (∀ (l : Fin 128) (s : State), (s.lane l = lsALIGN ∨ s.lane l = lsTRAIN) → exec (.laneTrainTimeout l) s
    = .next (idleLane l lsFAILED (laneCause l F.CL_CAUSE_TRAIN s))) ∧
  (∀ (l : Fin 128) (s : State), s.lane l ≠ lsALIGN → s.lane l ≠ lsTRAIN → exec (.laneTrainTimeout l) s = .next s) ∧
  (∀ (l : Fin 128) (s : State), s.lane l = lsMEASURE → s.measured l = true → exec (.laneMeasureDone l) s
    = .next (let t := setLane l lsREADY ((computeComps l s).setLn l fun x => { x with retrain := false }); if t.ringFar l then t
    else enumStart l t)) ∧
  (∀ (l : Fin 128) (s : State), s.lane l ≠ lsMEASURE → exec (.laneMeasureDone l) s = .next s) ∧
  (∀ (l : Fin 128) (s : State), s.lane l = lsFAILED → s.linking = true → exec (.laneRetryExpired l) s = .next (setLane l lsEIDLE s)) ∧
  (∀ (l : Fin 128) (s : State), s.linking = false → exec (.laneRetryExpired l) s = .next s) ∧
  (∀ (m : Master) (l : Fin 128) (s : State), s.grants m .p (0x180004 + 0x100 * l.val) = true → s.lane l = lsEIDLE →
    exec (.laneRetrain m l) s = .next (s.setLn l fun x => { x with retrain := true })) ∧
  (∀ (m : Master) (l : Fin 128) (s : State), s.grants m .p (0x180004 + 0x100 * l.val) = true → s.lane l = lsRXLOST →
    exec (.laneRetrain m l) s = .next (idleLane l lsEIDLE (s.setLn l fun x => { x with retrain := true }))) ∧
  (∀ (m : Master) (l : Fin 128) (s : State), s.grants m .p (0x180004 + 0x100 * l.val) = true → s.lane l ≠ lsEIDLE →
    s.lane l ≠ lsRXLOST → exec (.laneRetrain m l) s = .next s) ∧
  (∀ (l : Fin 128) (a b c d e : Byte) (r : Word) (s : State), s.lane l = lsMEASURE → s.cutNow l = true →
    exec (.dmrspReceived l a b c d e r) s = .next (sendDmreq l (s.ln l).mhop s)) ∧
  (∀ (l : Fin 128) (a b c d e : Byte) (r : Word) (s : State), s.lane l = lsMEASURE → s.cutNow l = false → e ≠ orderedChk [a, b, c,
    d] → exec (.dmrspReceived l a b c d e r) s = .next (trainFail l (s.inc (F.CL_ERR2_DMERR l)))) ∧
  (∀ (l : Fin 128) (a b c d e : Byte) (r : Word) (s : State), s.lane l = lsMEASURE → s.cutNow l = false → e = orderedChk [a, b, c,
    d] → 200 ≤ b.toNat + 256 * c.toNat → b.toNat + 256 * c.toNat ≤ 5000 → a.toNat = (s.ln l).mhop →
    exec (.dmrspReceived l a b c d e r) s
    = .next (trainSample l (r.toNat % 2 ^ 20) (setHop l a.toNat (fun x => { x with tlb := b.toNat + 256 * c.toNat, ra := d.toNat }) s))) ∧
  (∀ (l : Fin 128) (a b c d e : Byte) (r : Word) (s : State), s.lane l ≠ lsMEASURE → (s.ln l).dmOut = none →
    exec (.dmrspReceived l a b c d e r) s = .next s) ∧
  (∀ (l : Fin 128) (s : State), s.lane l = lsMEASURE → exec (.dmrspTimeout l) s = .next (trainFail l (s.inc (F.CL_ERR2_DMERR l)))) ∧
  (∀ (h : Nat) (l : Fin 128) (s : State), s.lane l ≠ lsMEASURE → (s.ln l).dmOut = some h → exec (.dmrspTimeout l) s
    = .next ((s.setLn l fun x => { x with dmOut := none }).inc (F.CL_ERR2_DMERR l))) ∧
  (∀ (l : Fin 128) (s : State), s.lane l ≠ lsMEASURE → (s.ln l).dmOut = none → exec (.dmrspTimeout l) s = .next s) ∧
  (∀ (l : Fin 128) (s : State), s.dmDue l = false → exec (.dmInserviceSend l) s = .next s) ∧
  (∀ (l : Fin 128) (s : State), s.dmDue l = true → s.lane l = lsLOCKED → (s.ln l).te = none → exec (.dmInserviceSend l) s
    = .next (s.inc (F.CL_DMSTS_SKIP l))) ∧
  (∀ (e : Nat) (l : Fin 128) (s : State), s.dmDue l = true → s.lane l = lsLOCKED → (s.ln l).te = some e →
    e + 20 + ((s.hop l (s.rd (F.CL_DMSTS_NEXT l) % s.liveHops l)).rt.getD 0) / 10 + 100 + 400 < s.armcyc → s.cutNow l = false →
    exec (.dmInserviceSend l) s = .next (let h := s.rd (F.CL_DMSTS_NEXT l) % s.liveHops l;
    let t := s.setLn l fun x => { x with dmOut := some h, dmAge := 0 }; (t.wr (F.CL_DMSTS_NEXT l) ((h + 1) % t.liveHops l)).emit (.laneCode l 4 h)))

/-- A LOCKED lane that loses lock goes to RXLOST with cause LOCK, one from ALIGN to READY to FAILED, any other state keeps; a ring
  splits. A lock that is lost clears RXLOCK and is counted in LOCKLOSS. Signal lost outside gap idle sets cause LOS too. RXWAIT cycles without relock return RXLOST to EIDLE where AUTORT or the
  link process permits it. Gap idle ends with the fast-exit burst; a receiver not locked after it sets FEXIT and GIOFF and loses
  lock. (R265, R270, R272, R274, R284, R321) -/
def Obligations.LaneLoss : Prop :=
  (∀ (l : Fin 128) (s : State), s.lane l = lsLOCKED → exec (.laneLockLoss l) s
    = .next (ringSplit l (-1) (dropSamples l (setLane l lsRXLOST (laneCause l F.CL_CAUSE_LOCK (((s.wr (F.CL_STS_RXLOCK l) 0).inc (F.CL_ERR3_LOCKLOSS l)).wr (F.CL_STS_GAP l) 0)))))) ∧
  (∀ (l : Fin 128) (s : State), lsALIGN ≤ s.lane l → s.lane l ≤ lsREADY → exec (.laneLockLoss l) s
    = .next (ringSplit l (-1) (idleLane l lsFAILED ((s.wr (F.CL_STS_RXLOCK l) 0).inc (F.CL_ERR3_LOCKLOSS l))))) ∧
  (∀ (l : Fin 128) (s : State), (s.lane l < lsALIGN ∨ s.lane l = lsFAILED ∨ s.lane l = lsRXLOST) → exec (.laneLockLoss l) s
    = .next (if s.flag (F.CL_STS_RXLOCK l) then (s.wr (F.CL_STS_RXLOCK l) 0).inc (F.CL_ERR3_LOCKLOSS l) else s)) ∧
  (∀ (l : Fin 128) (s : State), s.flag (F.CL_CFG_USED l) = true → s.flag (F.CL_STS_GAP l) = false → exec (.laneSignalLoss l) s
    = .next (lockLoss l (raise (64 + l.val) ((s.wr (F.CL_STS_SIGDET l) 0).wr (F.CL_CAUSE_LOS l) 1)))) ∧
  (∀ (l : Fin 128) (s : State), s.flag (F.CL_STS_GAP l) = true → exec (.laneSignalLoss l) s = .next s) ∧
  (∀ (l : Fin 128) (s : State), s.lane l = lsRXLOST → s.flag (F.CL_TRCFG_AUTORT l) = true → exec (.laneRxwaitExpired l) s
    = .next (idleLane l lsEIDLE (s.setLn l fun x => { x with retrain := true }))) ∧
  (∀ (l : Fin 128) (s : State), s.lane l ≠ lsRXLOST → exec (.laneRxwaitExpired l) s = .next s) ∧
  (∀ (l : Fin 128) (s : State), (s.ln l).te = none → exec (.gapIdleEnter l) s = .next s) ∧
  (∀ (e : Nat) (l : Fin 128) (s : State), (s.ln l).te = some e → s.flag (F.CL_CTL_GAPIDLE l) = true → s.lane l = lsLOCKED →
    s.rd (F.CL_CFG_RING l) = 0xFF → s.flag (F.CL_STS_GIOFF l) = false → s.flag (F.CL_STS_GAP l) = false →
    e < s.rd (F.ARM_ULCUT_CRT (s.rd (F.CL_CFG_ARM l))) → s.dmDue l = false → (s.ln l).dmOut = none →
    e + 20 + 1000 + 400 + s.burstNs l ≤ s.armcyc → exec (.gapIdleEnter l) s
    = .next ((s.emit (.laneCode l 0 0)).wr (F.CL_STS_GAP l) 1)) ∧
  (∀ (l : Fin 128) (s : State), s.flag (F.CL_STS_GAP l) = true → exec (.gapIdleExit l) s
    = .next (((s.wr (F.CL_STS_GAP l) 0).setLn l fun x => { x with gapCheck := true }).emit (.laneCode l 2 (s.burst l)))) ∧
  (∀ (l : Fin 128) (s : State), s.flag (F.CL_STS_GAP l) = false → exec (.gapIdleExit l) s = .next s) ∧
  (∀ (l : Fin 128) (s : State), (s.ln l).gapCheck = true → exec (.gapExitLockCheck l true) s
    = .next (s.setLn l fun x => { x with gapCheck := false }) ∧ exec (.gapExitLockCheck l false) s
    = .next (lockLoss l (laneCause l F.CL_CAUSE_FEXIT ((s.setLn l fun x => { x with gapCheck := false }).wr (F.CL_STS_GIOFF l) 1)))) ∧
  (∀ (l : Fin 128) (s : State), (s.lane l = lsRXLOST ∨ s.lane l = lsFAILED) → exec (.ringSplit l) s = .next (ringSplit l (-1) s)) ∧
  (∀ (l : Fin 128) (s : State), s.lane l ≠ lsRXLOST → s.lane l ≠ lsFAILED → exec (.ringSplit l) s = .next (if 2 ≤ (s.ln l).breaks
    then ringSplit l (s.rd (F.CL_FSTS_LAST l)) s else s)) ∧
  (∀ (m : Master) (l : Fin 128) (s : State), s.grants m .p (0x180004 + 0x100 * l.val) = true → exec (.giclr m l) s
    = .next (s.wr (F.CL_STS_GIOFF l) 0)) ∧
  (∀ (m : Master) (l : Fin 128) (s : State), s.grants m .u (0x180004 + 0x100 * l.val) = true → ∃ t : State, exec (.clCntclr m l) s
    = .next t ∧ ∀ f ∈ [F.CL_ERR0_CV l, F.CL_ERR0_DISP l, F.CL_ERR1_SLOTCRC l, F.CL_ERR1_FRMCRC l, F.CL_ERR2_XTRA l,
    F.CL_ERR2_DMERR l, F.CL_ERR3_LOCKLOSS l, F.CL_ERR3_TRAINS l, F.CL_ERR4_HDRERR l, F.CL_ERR4_VINV l, F.CL_ERR5_ECHOERR l,
    F.CL_ERR5_PTMO l, F.CL_DMSTS_SKIP l], t.rd f = 0)

/-- Before the records are loaded a fold has no effect; loading in BOOT or twice has none, else it ends with TLOAD, and with FS442 where
  no copy stands. Background initialisation ends with PINIT. LIFE is applied only at a cycle whose number is a multiple of 2^22. An
  uncorrectable word raises the source of its partition; a scrub pass counts its corrections. A checkpoint that is due, or asked
  for, while the Ostler is overloaded is postponed with FS51; else it starts: every record goes to the build area, CKBUSY is set.
  One that runs already, or records not loaded, keep the state. A retry has an effect after a failure alone. An overdue checkpoint
  raises FS441. (R326, R327, R331, R335, R340, R341, R342, R343, R542, R548) -/
def Obligations.TallyEvents : Prop :=
  (∀ (s : State), s.flag F.TLY_STS_TLOAD = false → exec .tallyFold s = .next s) ∧
  (∀ (s : State), s.flag F.TLY_STS_TLOAD = true → exec .tallyFold s = .next (tallyFold s)) ∧
  (∀ (g : BitVec 13) (s : State), s.cell? g.toNat = none → exec (.capestUpdate g) s = .next s) ∧
  (∀ (x : CellSt) (g : BitVec 13) (s : State), s.cell? g.toNat = some x → 2 ^ s.rd F.TLY_CAPCFG_WINLOG2 ≤ x.live.capn →
    exec (.capestUpdate g) s
    = .next (s.setCell g.toNat fun c => { c with capEst := capEstOf c.live.sqq c.live.sqv (s.tally g.toNat 24 4), wins := min 65535 (c.wins + 1), live := { c.live with sqq := 0, sqv := 0, capn := 0 } })) ∧
  (∀ (s : State), (s.running = false ∨ s.cyc % 2 ^ 22 ≠ 0) → exec .lifeApply s = .next s) ∧
  (∀ (s : State), s.running = true → s.cyc % 2 ^ 22 = 0 → s.flag F.GLB_ROLE_TWIN = false → exec .lifeApply s
    = .next (let t := (s.wr F.TLY_LIFEAPPLY_CYC s.cyc).mapCells (fun c => s.tly.lifeReady.contains c.gidx) fun c => { c with life := c.lifeNext }; { t with tly := { t.tly with lifeReady := [], lifeTable := [], lifeWhole := false } })) ∧
  (∀ (s : State), (s.st = stBOOT ∨ s.flag F.TLY_STS_TLOAD = true) → exec .tallyLoadDone s = .next s) ∧
  (∀ (s : State), s.st ≠ stBOOT → s.flag F.TLY_STS_TLOAD = false → s.tly.ck0.seq = 0 → s.tly.ck1.seq = 0 → ∃ t : State,
    exec .tallyLoadDone s = .next (raise 442 (t.wr F.TLY_STS_NOCKPT 1)) ∧ t.flag F.TLY_STS_TLOAD = true ∧ t.out = s.out) ∧
  (∀ (s : State), (s.st = stBOOT ∨ s.flag F.TLY_STS_PINIT = true) → exec .cellarPinitDone s = .next s) ∧
  (∀ (s : State), s.st ≠ stBOOT → s.flag F.TLY_STS_PINIT = false → exec .cellarPinitDone s
    = .next ({ s with cellar := (s.cellar.clear 0 0x180000000).clear 0x1C0000000 0x40000000 }.wr F.TLY_STS_PINIT 1)) ∧
  (∀ (a : BitVec 33) (s : State), 0x1E0000000 ≤ a.toNat → exec (.cellarEccUncorrectable a) s = .next (let w := a.toNat / 8 * 8;
    raiseInCycle 436 (({ s with cellar := s.cellar.writeBytes w ((s.cellar.readBytes w 8).map (~~~ ·)) }.inc F.TLY_ECCUE_VAL).wr64 F.TLY_UEADR_LO_VAL F.TLY_UEADR_HI_VAL w))) ∧
  (∀ (a : BitVec 33) (s : State), a.toNat < 0x180000000 → exec (.cellarEccUncorrectable a) s = .next (let w := a.toNat / 8 * 8;
    raiseInCycle 433 (({ s with cellar := s.cellar.writeBytes w ((s.cellar.readBytes w 8).map (~~~ ·)) }.inc F.TLY_ECCUE_VAL).wr64 F.TLY_UEADR_LO_VAL F.TLY_UEADR_HI_VAL w))) ∧
  (∀ (n : BitVec 16) (s : State), exec (.scrubPassDone n) s
    = .next (let t := unraise 446 (((s.inc F.TLY_SCRUBSTS_PASSES).wr F.TLY_SCRUBSTS_PROG 0).inc F.TLY_ECCCE_VAL n.toNat);
    if t.rd F.TLY_ECCCFG_CETHR < n.toNat then raise 437 t else unraise 437 t)) ∧
  (∀ (s : State), s.hst.loadOver = true → exec .tallyCkptDue s
    = .next (raise 51 (({ s with tly := { s.tly with ckMoved := true } }.inc F.HST_OSTLER_CNT_POSTPONE).inc F.TLY_CKCNT_POSTPONE))) ∧
  (∀ (s : State), s.hst.loadOver = false → (s.flag F.TLY_STS_CKBUSY = true ∨ s.flag F.TLY_STS_TLOAD = false) → exec .tallyCkptDue s
    = .next s) ∧
  (∀ (s : State), s.hst.loadOver = false → s.flag F.TLY_STS_CKBUSY = false → s.flag F.TLY_STS_TLOAD = true → exec .tallyCkptDue s
    = .next (let t := ((tallyFold s).wr F.TLY_STS_CKBUSY 1).wr F.TLY_CTL_CKPT 1;
    { t with cellar := t.cellar.copyFrom t.cellar tallyBase buildBase tallySize, tly := { t.tly with ckAt := some (t.cycRec, t.now), ckRetry := false, ckMoved := false } })) ∧
  (∀ (m : Master) (s : State), s.grants m .p 0x280000 = true → exec (.ckpt m) s = .next (ckptDue s)) ∧
  (∀ (s : State), s.tly.ckRetry = false → exec .tallyCkptRetry s = .next s) ∧
  (∀ (s : State), s.tly.ckRetry = true → s.flag F.TLY_STS_CKBUSY = false → s.flag F.TLY_STS_TLOAD = true → s.hst.loadOver = false →
    exec .tallyCkptRetry s = .next (ckptDue s)) ∧
  (∀ (s : State), exec .tallyCkptOverdue s = .next (raise 441 s))

/-- OFF becomes FILL with EN, arm cycles and PINIT; FILL becomes ARMED after PRE_N records; a trigger of an enabled source in FILL or
  ARMED makes POST with its cycle and source, one that is not enabled has no effect; POST_N records later the window is FROZEN
  with FS439. LRELEASE returns a frozen Ledger to FILL, and is refused while an extract runs. An extract starts while FROZEN alone.
  (R345, R348, R349, R350, R351) -/
def Obligations.LedgerCommands : Prop :=
  (∀ (s : State), s.ledger = ldOFF → s.flag F.TLY_LCFG_EN = true → s.running = true → s.flag F.TLY_STS_PINIT = true →
    exec .ledgerStart s = .next (ledgerState ldFILL { s with tly := { s.tly with since := 0 } })) ∧
  (∀ (s : State), s.ledger ≠ ldOFF → exec .ledgerStart s = .next s) ∧
  (∀ (n : Nat) (s : State), ledgerState n s = ((s.wr F.TLY_LSTS_STATE n).log 4 n []).event 11) ∧
  (∀ (s : State), s.ledger = ldFILL → s.preN ≤ s.tly.since → exec .ledgerArmed s = .next (ledgerState ldARMED s)) ∧
  (∀ (s : State), (s.ledger ≠ ldFILL ∨ s.tly.since < s.preN) → exec .ledgerArmed s = .next s) ∧
  (∀ (b : Fin 11) (s : State), s.rdBit F.TLY_LCFG_TRIGEN b = false → exec (.ledgerTrigger b) s = .next s) ∧
  (∀ (b : Fin 11) (s : State), s.rdBit F.TLY_LCFG_TRIGEN b = true → (s.ledger = ldFILL ∨ s.ledger = ldARMED) →
    s.flag F.GLB_ROLE_TWIN = false → exec (.ledgerTrigger b) s
    = .next (let t := { s with tly := if s.sch.frozen then { s.tly with firedNext := setBit s.tly.firedNext b } else { s.tly with fired := setBit s.tly.fired b } };
    ledgerTake t.trigCycle (2 ^ b.val) t)) ∧
  (∀ (b : Fin 11) (s : State), s.rdBit F.TLY_LCFG_TRIGEN b = true → s.ledger = ldOFF → ∃ t : State, exec (.ledgerTrigger b) s
    = .next t ∧ t.regs = s.regs ∧ t.cellar = s.cellar ∧ t.out = s.out) ∧
  (∀ (m : Master) (s : State), s.grants m .u 0x280000 = true → exec (.ltrig m) s = .next (ledgerFire 0 s)) ∧
  (∀ (k : Word) (s : State), s.rdBit F.TLY_LCFG_TRIGEN 5 = false → exec (.partnerLedgerTrigger k) s = .next s) ∧
  (∀ (k : Word) (s : State), s.rdBit F.TLY_LCFG_TRIGEN 5 = true → s.ledger = ldFROZEN → exec (.partnerLedgerTrigger k) s
    = .next (s.inc F.TLY_LSTS_EXTRA)) ∧
  (∀ (s : State), s.ledger ≠ ldPOST → exec .ledgerFreeze s = .next s) ∧
  (∀ (s : State), s.ledger = ldPOST → s.postN < cycDiff s.cyc (s.rd F.TLY_LTCYC_VAL) → exec .ledgerFreeze s
    = .next (let p := max 1 (s.rd F.TLY_LCAP_VAL); let k := min p s.tly.since;
    let t := raise 439 (ledgerState ldFROZEN (((s.wr F.TLY_LNUM_VAL k).wr F.TLY_LOLDEST_VAL ((s.rd F.TLY_LHEAD_VAL + p - k) % p)).wr F.CG_TRSTS_FROZEN 1));
    if t.flag F.TLY_XCFG1_AUTO then extractStart t else t)) ∧
  (∀ (m : Master) (s : State), s.grants m .p 0x280000 = true → s.ledger ≠ ldFROZEN → exec (.lrelease m) s = .next s ∧
    exec (.extract m) s = .next s) ∧
  (∀ (m : Master) (s : State), s.grants m .p 0x280000 = true → s.ledger = ldFROZEN → s.flag F.TLY_STS_XBUSY = true →
    exec (.lrelease m) s = .next (s.wr F.TLY_LSTS_RELREF 1)) ∧
  (∀ (m : Master) (s : State), s.grants m .p 0x280000 = true → s.ledger = ldFROZEN → s.flag F.TLY_STS_XBUSY = false →
    exec (.lrelease m) s = .next (ledgerThaw ldFILL s)) ∧
  (∀ (m : Master) (s : State), s.grants m .p 0x280000 = true → s.ledger = ldFROZEN → s.flag F.TLY_STS_XBUSY = false →
    s.hst.loadOver = false → exec (.extract m) s
    = .next ((((({ s with tly := { s.tly with xMoved := false, extract := [] } }.wr F.TLY_STS_XBUSY 1).wr F.TLY_CTL_EXTRACT 1).wr F.TLY_XSTS_DONE 0).wr F.TLY_XSTS_TRUNC 0).wr F.TLY_XSTS_FAIL 0)) ∧
  (∀ (m : Master) (v : Word) (s : State), s.grants m .p 0x280040 = true → exec (.ledgerDisable m v) s
    = .next (ledgerOff (regWrite m 0x280040 v.toNat s))) ∧
  (∀ (s : State), s.flag F.TLY_LCFG_EN = false → s.ledger = ldARMED → ledgerOff s = ledgerState ldOFF s) ∧
  (∀ (b : Bool) (s : State), s.flag F.TLY_STS_XBUSY = false → exec (.extractDone b) s = .next s) ∧
  (∀ (s : State), s.flag F.TLY_STS_XBUSY = true → exec (.extractDone false) s
    = .next (raiseEach 445 ((((s.wr F.TLY_STS_XBUSY 0).wr F.TLY_CTL_EXTRACT 0).event 12).wr F.TLY_XSTS_FAIL 1))) ∧
  (∀ (s : State), s.flag F.TLY_STS_XBUSY = true → ∃ t : State, exec (.extractDone true) s = .next (unraise 445 t) ∧
    t.flag F.TLY_XSTS_DONE = true ∧ t.cellar = s.cellar)

/-- A port whose MODE is OFF takes no link change and no frame. A link change shows LINK and SPEED and raises or ends FS(284 + p). A
  frame of a wrong size counts in FILT, one with a wrong FCS in RXCRC, a sound one in RXOK, and goes to the bridge and, past the
  port filter, on to the PRP pair and the host. A silent PRP port is lost. NET_CNTCLR zeroes the network counters. A frame on a port
  that is OFF or of another EtherType is not taken; one that no enabled subscription takes is counted in FILT; each ASDU that
  decodes is a sample of its subscription, one that does not counts in its ERR. A subscription that is lost sets LOST and raises
  FS294; one that is not enabled is not judged. (R381, R382, R384, R385, R393, R394, R398, R403) -/
def Obligations.NetworkFrames : Prop :=
  (∀ (p : Fin 4) (u v : Bool) (s : State), s.portOn p = false → exec (.ethLinkChange p u v) s = .next s) ∧
  (∀ (p : Fin 4) (v : Bool) (s : State), s.portOn p = true → exec (.ethLinkChange p true v) s
    = .next (prpJudge (chooseMaster (unraise (284 + p.val) ((s.put (F.NET_P_STS_LINK p) true).put (F.NET_P_STS_SPEED p) v))))) ∧
  (∀ (p : Fin 4) (v : Bool) (s : State), s.portOn p = true → exec (.ethLinkChange p false v) s
    = .next (prpJudge (chooseMaster ((raise (284 + p.val) ((s.put (F.NET_P_STS_LINK p) false).put (F.NET_P_STS_SPEED p) v)).setPort p fun x => { x with masters := [], sync := none })))) ∧
  (∀ (p : Fin 4) (f : Bool) (a : Word) (r : BitVec 48) (b : List Byte) (s : State), s.portOn p = true → (b.length < 60
    ∨ 1518 < b.length) → exec (.ethFrameReceived p f a r b) s = .next (s.inc (F.NET_P_CNT1_FILT p))) ∧
  (∀ (p : Fin 4) (a : Word) (r : BitVec 48) (b : List Byte) (s : State), s.portOn p = true → 60 ≤ b.length → b.length ≤ 1518 →
    exec (.ethFrameReceived p false a r b) s = .next (s.inc (F.NET_P_CNT0_RXCRC p))) ∧
  (∀ (p : Fin 4) (a : Word) (r : BitVec 48) (b : List Byte) (s : State), s.portOn p = true → 60 ≤ b.length → b.length ≤ 1518 →
    exec (.ethFrameReceived p true a r b) s = .next (let t := bridge p r.toNat b (s.inc (F.NET_P_CNT0_RXOK p));
    if t.passes p (beAt b 0 6) then prpReceive p (t.rxStamp p a.toNat) b t else t.inc (F.NET_P_CNT1_FILT p))) ∧
  (∀ (p : Fin 2) (s : State), s.flag F.NET_PRP_EN = true → exec (.prpPortLost p) s
    = .next (prpJudge (s.setPort p fun x => { x with silent := true }))) ∧
  (∀ (p : Fin 2) (s : State), s.flag F.NET_PRP_EN = false → exec (.prpPortLost p) s = .next s ∧ exec .prpSupervisionSend s
    = .next s) ∧
  (∀ (s : State), s.flag F.NET_PRP_EN = true → exec .prpSupervisionSend s = .next (let r := prpNext 0 s; forAll [0,
    1] (fun p s => (s.inc (F.NET_P_CNT2_TXOK p)).emit (.ptp p 2 r.1 0)) r.2)) ∧
  (∀ (m : Master) (s : State), s.grants m .u 0x340000 = true → ∃ t : State, exec (.netCntclr m) s = .next t ∧
    t.rd F.NET_BRG_ORPHAN = 0 ∧ t.rd F.NET_PTPSTS_IGN = 0 ∧ ∀ p < 4, t.rd (F.NET_P_CNT0_RXOK p) = 0 ∧
    t.rd (F.NET_P_CNT0_RXCRC p) = 0 ∧ t.rd (F.NET_P_CNT1_FILT p) = 0 ∧ t.rd (F.NET_P_CNT2_TXOK p) = 0) ∧
  (∀ (p : Fin 4) (a : Word) (b : List Byte) (s : State), (s.portOn p = false ∨ etherType b ≠ 0x88BA) →
    exec (.svFrameReceived p a b) s = .next s) ∧
  (∀ (p : Fin 4) (a : Word) (b : List Byte) (s : State), s.portOn p = true → etherType b = 0x88BA →
    ((asdus (b.drop (etherAt b + 10))).any fun x => (s.svMatch p b (x.map (·.id))).isSome) = false → exec (.svFrameReceived p a b) s
    = .next (s.inc (F.NET_P_CNT1_FILT p))) ∧
  (∀ (p : Fin 4) (a : Word) (b : List Byte) (s : State), s.portOn p = true → etherType b = 0x88BA →
    ((asdus (b.drop (etherAt b + 10))).any fun x => (s.svMatch p b (x.map (·.id))).isSome) = true → exec (.svFrameReceived p a b) s
    = .next (let h := (s.rxStamp p a.toNat).fdiv tickUnit; let z := bit (beAt b (etherAt b + 6) 2) 15;
    forAll (asdus (b.drop (etherAt b + 10))) (fun x u => match u.svMatch p b (x.map (·.id)), x with | some i, some y => svSample i z h y u | some i, none => u.inc (F.NET_SV_CNT_ERR i) | none, _ => u) s)) ∧
  (∀ (n : Fin 32) (s : State), s.flag (F.NET_SV_CFG_EN n) = false → exec (.svSubscriptionLost n) s = .next s) ∧
  (∀ (n : Fin 32) (s : State), s.flag (F.NET_SV_CFG_EN n) = true → exec (.svSubscriptionLost n) s
    = .next (let t := { s with net := { s.net with sv := modifyPad {} (fun x => { x with any := false }) n.val s.net.sv } };
    raise 294 ((t.wr (F.NET_SV_STS_LOST n) 1).putBit F.NET_SVLOST_LOST n true)))

/-- A port without PTP ignores them; a message of another domain or with an interval out of range is counted in IGN. An Announce renews
  its master, which a second one within 4 intervals qualifies, and the best master is chosen again; a timeout drops the master. A
  one-step Sync of the slave port gives the offset, a two-step one waits for its Follow_Up. A Pdelay request is answered; a response
  in sequence gives an exchange. Without Sync, LOCK falls. PTPRST starts again. (R386, R387, R388, R389, R390) -/
def Obligations.PtpEvents : Prop :=
  (∀ (p : Fin 4) (d : Byte) (r : BitVec 80) (g a b c : Byte) (v : BitVec 16) (e : Byte) (i : BitVec 64) (k u : BitVec 16) (s : State),
    s.ptpPort p = true → d.toNat ≠ s.rd F.NET_PTPCFG_DOMAIN → exec (.ptpAnnounceReceived p d r g a b c v e i k u) s
    = .next (s.inc F.NET_PTPSTS_IGN)) ∧
  (∀ (p : Fin 4) (d : Byte) (r : BitVec 80) (g a b c : Byte) (v : BitVec 16) (e : Byte) (i : BitVec 64) (k u : BitVec 16) (s : State),
    s.ptpPort p = true → d.toNat = s.rd F.NET_PTPCFG_DOMAIN → -3 ≤ signed 8 g.toNat → signed 8 g.toNat ≤ 3 → (s.port p).masters = []
    → exec (.ptpAnnounceReceived p d r g a b c v e i k u) s
    = .next (chooseMaster (s.setPort p fun x => { x with masters := x.masters.filter (·.src != r.toNat) ++ [⟨r.toNat, s.rawNs, false, [a.toNat, b.toNat, c.toNat, v.toNat, e.toNat, i.toNat], i.toNat, b.toNat, c.toNat, k.toNat, u.toNat⟩] }))) ∧
  (∀ (p : Fin 4) (r : BitVec 80) (s : State), exec (.ptpAnnounceTimeout p r) s
    = .next (chooseMaster (s.setPort p fun x => { x with masters := x.masters.filter (·.src != r.toNat) }))) ∧
  (∀ (p : Fin 4) (a : Word) (d : Byte) (r : BitVec 80) (g : Byte) (w : Bool) (q : BitVec 16) (t : BitVec 80) (c : BitVec 64) (s : State),
    s.ptpPort p = true → d.toNat ≠ s.rd F.NET_PTPCFG_DOMAIN → exec (.ptpSyncReceived p a d r g w q t c) s
    = .next (s.inc F.NET_PTPSTS_IGN)) ∧
  (∀ (p : Fin 4) (a : Word) (d : Byte) (r : BitVec 80) (g : Byte) (w : Bool) (q : BitVec 16) (t : BitVec 80) (c : BitVec 64) (s : State),
    s.ptpPort p = true → d.toNat = s.rd F.NET_PTPCFG_DOMAIN → -4 ≤ g.toInt → g.toInt ≤ 1 → s.rd F.NET_PTPSTS_SLAVE = p.val →
    exec (.ptpSyncReceived p a d r g w q t c) s
    = .next (let o := s.rxStamp p a.toNat - 5 * c.toInt - (signed 32 (s.rd (F.NET_P_MDL_T p)) + signed 32 (s.rd (F.NET_P_ASYM_T p))) * 32768;
    if w
    then s.setPort p fun x => { x with sync := some (q.toNat, r.toNat, o) } else ptpOffset jump (o - ptpTime t * tickUnit) g.toInt (s.setPort p fun x => { x with sync := none }))) ∧
  (∀ (p : Fin 4) (d : Byte) (r : BitVec 80) (g : Byte) (q : BitVec 16) (t : BitVec 80) (c : BitVec 64) (s : State),
    s.ptpPort p = true → d.toNat = s.rd F.NET_PTPCFG_DOMAIN → (s.port p).sync = none → exec (.ptpFollowUpReceived p d r g q t c) s
    = .next (if -4 ≤ g.toInt ∧ g.toInt ≤ 1 then s else s.inc F.NET_PTPSTS_IGN)) ∧
  (∀ (p : Fin 4) (d : Byte) (r : BitVec 80) (g : Byte) (q : BitVec 16) (t : BitVec 80) (c : BitVec 64) (o : Int) (s : State),
    s.ptpPort p = true → d.toNat = s.rd F.NET_PTPCFG_DOMAIN → -4 ≤ g.toInt → g.toInt ≤ 1 → s.rd F.NET_PTPSTS_SLAVE = p.val →
    (s.port p).sync = some (q.toNat, r.toNat, o) → exec (.ptpFollowUpReceived p d r g q t c) s
    = .next (ptpOffset jump (o - 5 * c.toInt - ptpTime t * tickUnit) g.toInt (s.setPort p fun x => { x with sync := none }))) ∧
  (∀ (p : Fin 4) (s : State), s.ptpPort p = false → exec (.pdelayReqSend p) s = .next s) ∧
  (∀ (p : Fin 4) (s : State), s.ptpPort p = true → (s.port p).reqT1 = none → exec (.pdelayReqSend p) s
    = .next (let i := ((s.port p).reqSeq + 1) % 65536;
    ((s.setPort p fun x => { x with misses := 0, reqSeq := i, reqT1 := some (s.txStamp p) }).inc (F.NET_P_CNT2_TXOK p)).emit (.ptp p 0 i 0))) ∧
  (∀ (p : Fin 4) (q : BitVec 16) (t : BitVec 48) (s : State), s.ptpPort p = true → exec (.pdelayReqReceived p q t) s
    = .next ((s.inc (F.NET_P_CNT2_TXOK p)).emit (.ptp p 1 q.toNat t.toNat))) ∧
  (∀ (p : Fin 4) (a : Word) (q : BitVec 16) (t c : BitVec 64) (s : State), (s.port p).reqT1 = none →
    exec (.pdelayRespReceived p a q t c) s = .next s) ∧
  (∀ (x : Int) (p : Fin 4) (a : Word) (q : BitVec 16) (t c : BitVec 64) (s : State), (s.port p).reqT1 = some x → s.ptpPort p = true
    → q.toNat = (s.port p).reqSeq → (s.port p).kept = [] → exec (.pdelayRespReceived p a q t c) s
    = .next (let d := (s.rxStamp p a.toNat - x - 5 * t.toInt - 5 * c.toInt).fdiv 2;
    let u := (unraise 293 (s.wr (F.NET_P_STS_PDFAIL p) 0)).setPort p fun y => { y with reqT1 := none, misses := 0, outliers := 0 }; chooseMaster ((u.setPort p fun y => { y with kept := [d], outliers := 0 }).wr (F.NET_P_MDL_T p) (unsigned 32 (meanDelay [d]))))) ∧
  (∀ (s : State), exec .ptpSyncTimeout s = .next (setLock false s)) ∧
  (∀ (m : Master) (s : State), s.grants m .p 0x340000 = true → exec (.ptprst m) s = .next (ptpReset s))

/-- A trigger names an instant by the buffer's MODE: DLY behind this moment, or at CRT DLY of a cycle of its period, or behind this
  cycle's start; a launch that R399 refuses sets BADCFG alone. FB_TAKE takes the buffer's next launch, marked late when it is too
  late; FB_LAUNCH sends the earliest taken launch that is due, a gated one sets GATED alone. HST_NTX sends the buffer at once.
  (R399, R400, R401, R402, R545) -/
def Obligations.FrameLaunch : Prop :=
  (∀ (b : Fin 32) (s : State), s.rd (F.NET_FB_TRIG_MODE b) = 0 → exec (.fbTrigger b) s = .next s) ∧
  (∀ (b : Fin 32) (s : State), s.rd (F.NET_FB_TRIG_MODE b) = 1 → s.badLaunch b (s.rd (F.NET_FB_CFG_PORT b)) = true →
    exec (.fbTrigger b) s = .next (s.wr (F.NET_FB_CFG_BADCFG b) 1)) ∧
  (∀ (b : Fin 32) (s : State), s.rd (F.NET_FB_TRIG_MODE b) = 1 → s.badLaunch b (s.rd (F.NET_FB_CFG_PORT b)) = false →
    exec (.fbTrigger b) s
    = .next { s with net := { s.net with launches := s.net.launches ++ [⟨b.val, s.rd (F.NET_FB_CFG_PORT b), s.nowInt + s.rd (F.NET_FB_DLY_NS b), false, false⟩] } }) ∧
  (∀ (b : Fin 32) (s : State), s.rd (F.NET_FB_TRIG_MODE b) = 3 → s.running = true →
    s.badLaunch b (s.rd (F.NET_FB_CFG_PORT b)) = false → exec (.fbTrigger b) s
    = .next { s with net := { s.net with launches := s.net.launches ++ [⟨b.val, s.rd (F.NET_FB_CFG_PORT b), signed 64 (s.rd64 F.TB_CYCST_LO_T F.TB_CYCST_HI_T) + s.rd (F.NET_FB_DLY_NS b), false, false⟩] } }) ∧
  (∀ (b : Fin 32) (s : State), s.net.launches = [] → s.wb.ents = [] → exec (.fbTake b) s = .next s) ∧
  (∀ (b : Fin 32) (l : Launch) (s : State), s.net.launches = [l] → l.buf = b.val → l.taken = false → exec (.fbTake b) s
    = .next { s with net := { s.net with launches := [{ l with taken := true, late := s.takenLate l.port l.at_ }] } }) ∧
  (∀ (b : Fin 32) (s : State), s.net.launches = [] → exec (.fbLaunch b) s = .next s) ∧
  (∀ (b : Fin 32) (l : Launch) (s : State), s.net.launches = [l] → l.buf = b.val → l.taken = true → l.late = false →
    l.at_ ≤ s.nowInt → s.flag (F.NET_FB_CFG_GATEEN b) = false → ∃ t : State, (exec (.fbLaunch b) s = .next t ∨ exec (.fbLaunch b) s
    = .next (raise 298 t)) ∧ t.net.launches = [] ∧ t.rd (F.NET_FB_TXT_LO_T b) = s.now % 2 ^ 32) ∧
  (∀ (m : Master) (b : Fin 32) (p : Fin 8) (s : State), s.grants m .p 0x3D0320 = true → s.badLaunch b p = true →
    exec (.hstNtx m b p) s = .next (s.wr (F.NET_FB_CFG_BADCFG b) 1)) ∧
  (∀ (m : Master) (b : Fin 32) (p : Fin 8) (s : State), s.grants m .p 0x3D0320 = true → s.badLaunch b p = false →
    exec (.hstNtx m b p) s = .next (let r := fbFrame b s.nowInt s; sendFrame p r.1 r.2))

/-- Each source has an effect when TRGSRC names it. A trigger of a converter whose MODE is not TRIG has none; one during calibration is
  dropped, counted in CALDROP, with FS309; an idle converter starts a pass at FIRST; a busy one drops it under BUSYPOL 1, restarts
  under 2, and else holds one trigger. The end of a pass clears BUSY and ends FS(306 + c). A channel without a result for STALE µs
  raises FS310 while its converter runs. In ARMED, RUN and BLOCKED a write to CAL, or of 0 to REFEN, is refused with CALREF; else
  CAL starts a calibration: CALBUSY, both converters idle. REFEN 0 clears REFRDY and CALDONE. The automatic calibration starts once
  after LOADED. The reference's readiness and fault show in the status, the fault with FS304. (R31, R409, R410, R411, R413, R417,
  R418, R422) -/
def Obligations.LmuTriggersAndCalibration : Prop :=
  (∀ (c : Fin 2) (s : State), s.triggerNow c = true → exec (.lmuTrigger c) s = .next (lmuTrigger c s)) ∧
  (∀ (c : Fin 2) (s : State), s.triggerNow c = false → exec (.lmuTrigger c) s = .next s) ∧
  (∀ (m : Master) (c : Fin 2) (s : State), s.grants m .p 0x380000 = true → s.rd (F.LMU_ADC_CFG_TRGSRC c) = 0 → exec (.swtrg m c) s
    = .next (lmuTrigger c s)) ∧
  (∀ (m : Master) (c : Fin 2) (s : State), s.grants m .p 0x380000 = true → s.rd (F.LMU_ADC_CFG_TRGSRC c) ≠ 0 → exec (.swtrg m c) s
    = .next s) ∧
  (∀ (c : Fin 2) (s : State), s.rd (F.LMU_ADC_CFG_TRGSRC c) = 2 → exec (.lmuTimerTrigger c) s = .next (lmuTrigger c s)) ∧
  (∀ (c : Nat) (s : State), s.convMode c ≠ 2 → lmuTrigger c s = s) ∧
  (∀ (c : Nat) (s : State), s.convMode c = 2 → s.flag F.LMU_STS_CALBUSY = true →
    lmuTrigger c s = raise 309 (s.inc (F.LMU_ADC_CNT2_CALDROP c))) ∧
  (∀ (c : Nat) (s : State), s.convMode c = 2 → s.flag F.LMU_STS_CALBUSY = false → s.flag (F.LMU_ADC_CFG_GATEEN c) = false →
    s.flag (F.LMU_ADC_STS_BUSY c) = false → lmuTrigger c s = passStart c s) ∧
  (∀ (c : Nat) (s : State), s.convMode c = 2 → s.flag F.LMU_STS_CALBUSY = false → s.flag (F.LMU_ADC_CFG_GATEEN c) = false →
    s.flag (F.LMU_ADC_STS_BUSY c) = true → s.rd (F.LMU_ADC_CFG_BUSYPOL c) = 1 →
    lmuTrigger c s = raise 309 (s.inc (F.LMU_ADC_CNT_TRIG_OVR c))) ∧
  (∀ (c : Fin 2) (s : State), s.flag (F.LMU_ADC_STS_BUSY c) = false → exec (.lmuPassEnd c) s = .next s) ∧
  (∀ (c : Fin 2) (s : State), s.flag (F.LMU_ADC_STS_BUSY c) = true → exec (.lmuPassEnd c) s
    = .next (let a := unraise (306 + c.val) (s.wr (F.LMU_ADC_STS_BUSY c) 0);
    let b := if a.flag (F.LMU_ADC_STS_PEND c) then passStart c (a.wr (F.LMU_ADC_STS_PEND c) 0) else if a.convMode c = 1 then passStart c a else convIdle c a;
    if b.rd (F.LMU_ADC_CFG_TRGSRC (1 - c.val)) = 5 then lmuTrigger (1 - c.val) b else b)) ∧
  (∀ (d : Fin 8) (e : Fin 64) (c : Nat) (s : State), s.flag (F.LMU_SEQ_CFG_DCHEN e) = true → s.rd (F.LMU_SEQ_CFG_DCH e) = d.val →
    s.converterOf e = some c → s.convMode c ≠ 0 → exec (.lmuDchStale d) s
    = .next (raise 310 ({ s with lmu := { s.lmu with stale := setBit s.lmu.stale d } }.wr (F.LMU_DCH_RES_STALE d) 1))) ∧
  (∀ (m : Master) (s : State), s.grants m .p 0x380000 = true → s.calLocked = true → exec (.cal m) s
    = .next (s.wr F.LMU_STS_CALREF 1) ∧ exec (.lmuRefenWrite m false) s = .next (s.wr F.LMU_STS_CALREF 1)) ∧
  (∀ (m : Master) (s : State), s.grants m .p 0x380000 = true → s.calLocked = false → s.flag F.LMU_STS_CALBUSY = false → ∃ t : State,
    exec (.cal m) s = .next t ∧ t.flag F.LMU_STS_CALBUSY = true ∧ t.flag (F.LMU_ADC_STS_BUSY 0) = false ∧
    t.flag (F.LMU_ADC_STS_BUSY 1) = false ∧ t.lmu.calAuto = false) ∧
  (∀ (m : Master) (s : State), s.grants m .p 0x380000 = true → exec (.lmuRefenWrite m true) s = .next (s.wr F.LMU_CTL_REFEN 1)) ∧
  (∀ (m : Master) (s : State), s.grants m .p 0x380000 = true → s.calLocked = false → exec (.lmuRefenWrite m false) s
    = .next (((s.wr F.LMU_CTL_REFEN 0).wr F.LMU_STS_REFRDY 0).wr F.LMU_STS_CALDONE 0)) ∧
  (∀ (s : State), s.lmu.calDue = false → exec .lmuCalAutoStart s = .next s) ∧
  (∀ (s : State), s.lmu.calDue = true → s.flag F.LMU_STS_CALBUSY = false → ∃ t : State, exec .lmuCalAutoStart s = .next t ∧
    t.flag F.LMU_STS_CALBUSY = true ∧ t.lmu.calDue = false ∧ t.lmu.calAuto = true) ∧
  (∀ (s : State), s.flag F.LMU_CTL_REFEN = true → exec .lmuRefReady s = .next (s.wr F.LMU_STS_REFRDY 1)) ∧
  (∀ (s : State), exec (.lmuRefFault true) s = .next (raise 304 (s.put F.LMU_STS_REFFLT true)) ∧ exec (.lmuRefFault false) s
    = .next (unraise 304 (s.put F.LMU_STS_REFFLT false)))

/-- A conversion of an entry without SINC3 is its result; a window that has ended is published or marked incomplete. SCOMMIT while one
  is pending sets SREF alone; one that breaks a rule of R414 sets BADSEQ with FS311 alone. A fault of the fast path raises FS324,
  trips every enabled channel and blocks every arm. LMU_CNTCLR zeroes the counters. The fast path of a direct channel sets its
  LATCH, counts FIRES, blocks the arms of ARMS with the urgent block, in RUN every arm, and raises FS(316 + d). (R414, R415, R423,
  R428, R429, R430, R433) -/
def Obligations.LmuResultsAndFastPath : Prop :=
  (∀ (e : Fin 64) (c : BitVec 16) (a : Byte) (s : State), s.flag (F.LMU_SEQ_CFG_FILT e) = false → s.rd (F.LMU_SEQ_CFG_REP e) = 0 →
    s.converterOf e = none → exec (.lmuConversionDone e c a) s
    = .next (result e (signed 16 c.toNat) (unsigned 64 ((s.nowFixAt s.tb.raw - a.toNat * 65536).fdiv 65536)) ((s.tb.raw + 2 ^ 64 - a.toNat * 65536) % 2 ^ 64) (s.setDecimator e ([],
    0, (s.decimator e).2.2)))) ∧
  (∀ (u : Fin 48) (s : State), (s.meter u).ended = [] → exec (.lmuWindowClose u) s = .next s) ∧
  (∀ (u : Fin 48) (w : Win) (l : List Win) (s : State), (s.meter u).ended = w :: l → w.incomp = false → u.val < 32 →
    exec (.lmuWindowClose u) s = .next (publishAcc u w (s.setMeter u fun m => { m with ended := l }))) ∧
  (∀ (u : Fin 48) (w : Win) (l : List Win) (s : State), (s.meter u).ended = w :: l → w.incomp = true → u.val < 32 →
    exec (.lmuWindowClose u) s = .next ((s.setMeter u fun m => { m with ended := l }).wr (F.LMU_ACC_STS_INCOMP u) 1)) ∧
  (∀ (m : Master) (s : State), s.grants m .p 0x380000 = true → (s.flag F.LMU_STS_SPEND0 = true ∨ s.flag F.LMU_STS_SPEND1 = true) →
    exec (.scommit m) s = .next (s.wr F.LMU_STS_SREF 1)) ∧
  (∀ (m : Master) (s : State), s.grants m .p 0x380000 = true → s.flag F.LMU_STS_SPEND0 = false → s.flag F.LMU_STS_SPEND1 = false →
    exec (.scommit m) s = .next (let t := captureAll ((List.range 64).flatMap seqFields ++ adcFields 0 ++ adcFields 1) s;
    if t.badSequence then raise 311 (s.wr F.LMU_STS_BADSEQ 1)
    else let u := ((t.wr F.LMU_STS_SPEND0 1).wr F.LMU_STS_SPEND1 1).wr F.LMU_CTL_SCOMMIT 1;
    convIdle 1 (convIdle 0 (forAll ((List.range 64).filter fun e => !(u.captRange 0).contains e && !(u.captRange 1).contains e) seqApply u)))) ∧
  (∀ (s : State), exec .fastPathFault s = .next (let t := raise 324 s;
    blockAll (forAll ((List.range 8).filter fun d => t.flag (F.LMU_PROT_EN d)) (fun d s => fastPath 0xFFF d s) t))) ∧
  (∀ (m : Master) (s : State), s.grants m .u 0x380000 = true → ∃ t : State, exec (.lmuCntclr m) s = .next t ∧
    t.rd F.LMU_PROTCNT_FIRES = 0 ∧ ∀ d < 8, t.rd (F.LMU_DCH_TRCNT_N d) = 0) ∧
  (∀ (a d : Nat) (s : State), (urgentBlock a ((s.wr (F.LMU_PROT_LATCH d) 1).inc F.LMU_PROTCNT_FIRES)).eff = stRUN →
    fastPath a d s = raise (316 + d) (blockAll (urgentBlock a ((s.wr (F.LMU_PROT_LATCH d) 1).inc F.LMU_PROTCNT_FIRES)))) ∧
  (∀ (d : Fin 8) (t : Nat) (s : State), s.flag (F.LMU_PROT_EN d) = false → s.rdBit F.TLY_LTRIG_LWC d = false →
    trip d t s = ((((s.wr (F.LMU_DCH_RES_TRIP d) 1).wr (F.LMU_DCH_RES_TRIPPED d) 1).inc (F.LMU_DCH_TRCNT_N d)).wr64 (F.LMU_DCH_TRT_LO_T d) (F.LMU_DCH_TRT_HI_T d) t))

/-- A cause sets its bit, with its path for RB, OPEN and TEST, opens both paths and raises FS336; OPEN raises FS355 too. VSAFE out opens
  the paths without latching. A discrepancy count of T + 1 latches, once, with FS(338 + p). CLEAR with a wrong key has result 3,
  with PREQ on a line result 2, else it clears what has ended. A test pulse starts where the path's record gives it; its end counts
  a pass or latches TEST. A lost status blanks the registers with FS356. A tick without VAUX has no effect. With it the tick counts,
  an acknowledged configuration takes over, PREQ and the readback are taken, every used pair is sampled, filtered and judged, VSAFE
  is judged, and then the paths follow their conditions. An output path is energised only while PREQ is requested in this tick and
  the one before and every condition of its record holds. (R437, R438, R439, R441, R442, R443, R446, R447, R448, R450) -/
def Obligations.SafetyBlock : Prop :=
  (∀ (b : Nat) (x : Option Nat) (s : State),
    sbuCause b x s = sbuRaise 336 (openPaths { s with sbu := { s.sbu with cause := setBit s.sbu.cause b, path := match x with | some k => k == 1 | none => s.sbu.path } })) ∧
  (∀ (k : Fin 2) (s : State), exec (.sbuReadbackFault k false) s = .next (sbuCause 0 (some k.val) s) ∧
    exec (.sbuReadbackFault k true) s = .next (sbuRaise 355 (sbuCause 1 (some k.val) s))) ∧
  (∀ (s : State), exec .sbuOscFault s = .next (sbuCause 2 none s) ∧ exec .sbuXchkFault s = .next (sbuCause 3 none s)) ∧
  (∀ (s : State), s.sbuCfg = true → exec .sbuVsafeOut s
    = .next (sbuRaise 354 (openPaths { s with sbu := { s.sbu with vsafeOk := false } }))) ∧
  (∀ (p : Fin 8) (s : State), s.pairMode p ≠ 0 → s.safe (66 + 16 * p.val) 2 + 1 ≤ (s.pair p).dcount → (s.pair p).disc = false →
    exec (.sbuDiscrepancyLatch p) s
    = .next (sbuRaise (338 + p.val) (openPaths (s.setPair p fun x => { x with disc := true, dopen := false, discs := min 65535 (x.discs + 1) })))) ∧
  (∀ (p : Fin 8) (s : State), (s.pair p).disc = true → exec (.sbuDiscrepancyLatch p) s = .next s) ∧
  (∀ (m : Master) (k : BitVec 16) (s : State), s.grants m .p 0x3A0008 = true → k.toNat ≠ 0xA5C3 → exec (.sbuClear m k) s
    = .next (((s.wr F.SBU_CMDSTS_SEQ (s.rd F.SBU_CMDSTS_SEQ + 1)).event 2).wr F.SBU_CMDSTS_RESULT 3)) ∧
  (∀ (m : Master) (s : State), s.grants m .p 0x3A0008 = true →
    ((s.wr F.SBU_CMDSTS_SEQ (s.rd F.SBU_CMDSTS_SEQ + 1)).event 2).sbu.preqA = true → exec (.sbuClear m 0xA5C3) s
    = .next (((s.wr F.SBU_CMDSTS_SEQ (s.rd F.SBU_CMDSTS_SEQ + 1)).event 2).wr F.SBU_CMDSTS_RESULT 2)) ∧
  (∀ (m : Master) (s : State), s.grants m .p 0x3A0008 = true →
    ((s.wr F.SBU_CMDSTS_SEQ (s.rd F.SBU_CMDSTS_SEQ + 1)).event 2).sbu.preqA = false →
    ((s.wr F.SBU_CMDSTS_SEQ (s.rd F.SBU_CMDSTS_SEQ + 1)).event 2).sbu.preqB = false → exec (.sbuClear m 0xA5C3) s
    = .next ((sbuClear ((s.wr F.SBU_CMDSTS_SEQ (s.rd F.SBU_CMDSTS_SEQ + 1)).event 2)).wr F.SBU_CMDSTS_RESULT 1)) ∧
  (∀ (k : Fin 2) (l : Bool) (s : State), s.sbuCfg = true → s.safe (193 + 16 * k.val) 1 = 1 → (s.path k).test = 0 →
    exec (.sbuTestPulse k l) s = .next (s.setPath k fun p => { p with test := if l then 2 else 1 })) ∧
  (∀ (k : Fin 2) (r : BitVec 2) (s : State), (s.path k).test = 0 → exec (.sbuTestEnd k r) s = .next s) ∧
  (∀ (k : Fin 2) (r : BitVec 2) (s : State), (s.path k).test ≠ 0 → testPass (s.path k) r.toNat = true → exec (.sbuTestEnd k r) s
    = .next ((s.setPath k fun p => { p with test := 0 }).setPath k fun p => { p with tests := min 65535 (p.tests + 1) })) ∧
  (∀ (k : Fin 2) (r : BitVec 2) (s : State), (s.path k).test ≠ 0 → testPass (s.path k) r.toNat = false → exec (.sbuTestEnd k r) s
    = .next (sbuCause 5 (some k.val) (s.setPath k fun p => { p with test := 0 }))) ∧
  (∀ (s : State), s.glb.vinOn = true → exec .sbuStatusLost s = .next (raise 356 ((sbuBlank s).event 13))) ∧
  (∀ (s : State), s.glb.vinOn = false → exec .sbuStatusLost s = .next s ∧ exec .sbuStatusReceived s = .next (sbuShow s)) ∧
  (∀ (s : State), s.glb.vinOn = true → ∃ t : State, exec .sbuStatusReceived s
    = .next (forAll (bitsOf 8 s.sbu.openNew) (fun p => raise (346 + p)) t) ∧ (s.sbu.deenNew = true → ∃ u, t = raise 337 u)) ∧
  (∀ (i : BitVec 16) (a b : Byte) (v : BitVec 16) (r : BitVec 4) (s : State), s.glb.vauxOn = false → exec (.sbuTick i a b v r) s
    = .next s) ∧
  (∀ (i : BitVec 16) (a b : Byte) (v : BitVec 16) (r : BitVec 4) (s : State), s.glb.vauxOn = true → exec (.sbuTick i a b v r) s
    = .next (let c := sbuActivate { s with sbu := { s.sbu with ticks := (s.sbu.ticks + 1) % 2 ^ 32 } };
    let d := preqTick a.toNat b.toNat (if c.sbuCfg then cfgCheck c.sbu.sec c.sbu.crc c else c);
    let e := forAll [0, 1] (fun k s => s.setPath k fun x => { x with rbh := r.toNat.testBit (2 * k), rbl := r.toNat.testBit (2 * k + 1) }) d;
    let f := forAll sbuPairs (pairTick i.toNat) e; driveAll (vsafeJudge (f.vsafeIn v.toNat) f))) ∧
  (∀ (k : Nat) (s : State), k < 2 → (s.path k).on = false → ((driveOne k s).path k).on = true → s.preq = true ∧ s.sbu.preqWas = true
    ∧ s.sbuCfg = true ∧ s.proof = true ∧ s.sbu.vsafeOk = true ∧ s.sbu.cause = 0 ∧ (s.path k).rwait = false) ∧
  (∀ (p : Fin 8) (c : Fin 2) (s : State), s.pairMode p = 0 → exec (.sbuFilterChange p c) s = .next (openPaths s)) ∧
  (∀ (p : Fin 8) (s : State), s.pairMode p ≠ 0 → s.pairClosed p = false → exec (.sbuFilterChange p 0) s
    = .next (openPaths (s.setPair p fun x => { x with a := x.a.settle (s.safe (65 + 16 * p.val) 1) })))

/-- While a command runs, every command but ABORT is refused with 0x14. A wrong key gives 0x1A, a slot above 1 gives 0x1D, a STORE
  without STAGE_OK 0x1B. VERIFY and LOAD begin with STAGE_OK 0; STORE and SLOT_ERASE begin by clearing the slot's VALID; HOUSE_READ
  copies the applied house layer; HOUSE_STORE begins with the copy not applied; an accepted COMMIT begins prepare with PHASE 2 and
  BUSY. A VERIFY that passes every check sets STAGE_OK; the first failure gives its code, section and offset. A failed read of a
  slot ends LOAD with 0x15 and FS42; a failed programming ends STORE and SLOT_ERASE with 0x15 and FS41. HOUSE_STORE writes the copy
  with a sequence number one higher. ABORT ends VERIFY, LOAD or COMMIT with 0x16; it has no effect on the others, nor with none
  running. (R67, R69, R71, R72, R74, R80, R90) -/
def Obligations.RecipeCommands : Prop :=
  (∀ (m : Master) (x : Nat × Nat) (s : State), s.grants m .p 0x10000 = true → s.rcp.job = some x → exec (.rcpVerify m) s
    = .next (rcpRefuse 1 0x14 s) ∧ exec (.rcpCommit m 0xA5C3) s = .next (rcpRefuse 2 0x14 s) ∧ exec (.houseRead m) s
    = .next (rcpRefuse 8 0x14 s) ∧ (∀ a, exec (.rcpLoad m a) s = .next (rcpRefuse 4 0x14 s)) ∧ (∀ a k, exec (.rcpStore m a k) s
    = .next (rcpRefuse 3 0x14 s))) ∧
  (∀ (m : Master) (s : State), s.grants m .p 0x10000 = true → s.rcp.job = none → exec (.rcpVerify m) s
    = .next (stageOk false (rcpBegin 1 0 1 s))) ∧
  (∀ (m : Master) (i : BitVec 4) (s : State), s.grants m .p 0x10000 = true → s.rcp.job = none → 1 < i.toNat → exec (.rcpLoad m i) s
    = .next (rcpRefuse 4 0x1D s) ∧ exec (.rcpStore m i 0xA5C3) s = .next (rcpRefuse 3 0x1D s) ∧ exec (.slotErase m i 0xA5C3) s
    = .next (rcpRefuse 7 0x1D s)) ∧
  (∀ (m : Master) (i : BitVec 4) (s : State), s.grants m .p 0x10000 = true → s.rcp.job = none → i.toNat ≤ 1 →
    (s.slot i.toNat).valid = true → exec (.rcpLoad m i) s = .next (stageOk false (rcpBegin 4 i.toNat 4 s))) ∧
  (∀ (m : Master) (i : BitVec 4) (s : State), s.grants m .p 0x10000 = true → s.rcp.job = none → i.toNat ≤ 1 →
    (s.slot i.toNat).valid = false → exec (.rcpLoad m i) s = .next (rcpEnd 4 0x1D 0 0 (s.event 2))) ∧
  (∀ (m : Master) (i : BitVec 4) (k : BitVec 16) (s : State), s.grants m .p 0x10000 = true → s.rcp.job = none → k.toNat ≠ 0xA5C3 →
    exec (.rcpStore m i k) s = .next (rcpRefuse 3 0x1A s) ∧ exec (.slotErase m i k) s = .next (rcpRefuse 7 0x1A s) ∧
    exec (.houseStore m k) s = .next (rcpRefuse 9 0x1A s)) ∧
  (∀ (m : Master) (i : BitVec 4) (s : State), s.grants m .p 0x10000 = true → s.rcp.job = none → i.toNat ≤ 1 →
    s.flag F.RCP_STS_STAGE_OK = false → exec (.rcpStore m i 0xA5C3) s = .next (rcpRefuse 3 0x1B s)) ∧
  (∀ (m : Master) (i : BitVec 4) (s : State), s.grants m .p 0x10000 = true → s.rcp.job = none → i.toNat ≤ 1 →
    s.flag F.RCP_STS_STAGE_OK = true → exec (.rcpStore m i 0xA5C3) s
    = .next (rcpBegin 3 i.toNat 4 (s.setSlot i.toNat fun _ => { image := s.staged.take (imageLen s.staged) }))) ∧
  (∀ (m : Master) (i : BitVec 4) (s : State), s.grants m .p 0x10000 = true → s.rcp.job = none → i.toNat ≤ 1 →
    exec (.slotErase m i 0xA5C3) s = .next (rcpBegin 7 i.toNat 4 (s.setSlot i.toNat fun x => { x with valid := false }))) ∧
  (∀ (m : Master) (s : State), s.grants m .p 0x10000 = true → s.rcp.job = none → ∃ t : State, exec (.houseRead m) s
    = .next (rcpEnd 8 0 0 0 (t.event 2)) ∧
    (let es := if s.flag F.RCP_HOUSE_NONE then [] else (s.house (s.rd F.RCP_HOUSE_USED)).entries;
    t.rd F.RCP_HOUSE_LEN_N = es.length % 2 ^ F.RCP_HOUSE_LEN_N.w ∧
    t.cellar = s.cellar.writeBytes 0x1A1000000 (es.flatMap fun e => leBytes 4 e.1 ++ leBytes 4 e.2.1 ++ leBytes 4 e.2.2))) ∧
  (∀ (m : Master) (s : State), s.grants m .p 0x10000 = true → s.rcp.job = none → s.rd F.RCP_HOUSE_LEN_N = 0 →
    exec (.houseStore m 0xA5C3) s
    = .next (rcpBegin 9 (1 - s.rd F.RCP_HOUSE_USED) 4 { s with rcp := { s.rcp with houses := modifyAt (fun c => { c with sound := false }) (1 - s.rd F.RCP_HOUSE_USED) s.rcp.houses, houseNew := [] } })) ∧
  (∀ (m : Master) (c t o : Nat) (s : State), s.grants m .p 0x10000 = true → s.rcp.job = none → s.commitVerdict true = some (c, t, o)
    → exec (.rcpCommit m 0xA5C3) s = .next ((rcpResult 2 c t o s).event 2)) ∧
  (∀ (m : Master) (s : State), s.grants m .p 0x10000 = true → s.rcp.job = none → s.commitVerdict true = none →
    exec (.rcpCommit m 0xA5C3) s = .next (commitStart false s)) ∧
  (∀ (r : Recipe) (k : Option Nat) (a : Bool) (s : State), (commitBegin r k a s).rcp.job = some (2, 0) ∧
    (commitBegin r k a s).flag F.RCP_STS_BUSY = true ∧ (commitBegin r k a s).rd F.RCP_STS_PHASE = 2) ∧
  (∀ (s : State), s.rcp.job = some (1, 0) → exec .verifyComplete s = .next (verifyEnd 1 (s.rd F.RCP_STAGE_LEN_LEN) s)) ∧
  (∀ (c n : Nat) (s : State),
    verifyEnd c n s = match verifyImage s s.staged n with | none => proposalTry (rcpFinish c 0 0 0 (s.wr F.RCP_STS_STAGE_OK 1)) | some (k, t, o) => rcpFinish c k t o (s.wr F.RCP_STS_STAGE_OK 0)) ∧
  (∀ (i : Nat) (s : State), s.rcp.job = some (4, i) → s.rcp.auto = none → exec (.loadComplete false) s
    = .next (rcpEnd 4 0x15 0 0 (raise 42 s))) ∧
  (∀ (i : Nat) (s : State), s.rcp.job = some (4, i) → exec (.loadComplete true) s
    = .next (verifyEnd 4 (s.slot i).image.length { s with cellar := s.cellar.writeBytes 0x1A0000000 (s.slot i).image, rcp := { s.rcp with origin := i + 1 } })) ∧
  (∀ (i : Nat) (s : State), s.rcp.job = some (3, i) → exec (.storeComplete false) s = .next (rcpEnd 3 0x15 0 0 (raise 41 s))) ∧
  (∀ (i : Nat) (s : State), s.rcp.job = some (3, i) → s.stage (s.slot i).image.length = (s.slot i).image → ∃ f : NvSlot → NvSlot,
    exec (.storeComplete true) s = .next (rcpEnd 3 0 0 0 (s.setSlot i f)) ∧ (f (s.slot i)).valid = true ∧
    (f (s.slot i)).image = (s.slot i).image ∧ (f (s.slot i)).version = (readRecipe (s.slot i).image).version) ∧
  (∀ (i : Nat) (s : State), s.rcp.job = some (7, i) → exec (.slotEraseComplete true) s
    = .next (rcpEnd 7 0 0 0 (s.setSlot i fun _ => {})) ∧ exec (.slotEraseComplete false) s = .next (rcpEnd 7 0x15 0 0 (raise 41 s))) ∧
  (∀ (t : Nat) (s : State), s.rcp.job = some (9, t) → s.flag F.RCP_HOUSE_NONE = false → exec (.houseStoreComplete true) s
    = .next (rcpEnd 9 0 0 0 { s with rcp := { s.rcp with houses := setAt t ⟨true, ((s.house (1 - t)).seq + 1) % 2 ^ 32, s.rcp.houseNew⟩ s.rcp.houses } })) ∧
  (∀ (t : Nat) (s : State), s.rcp.job = some (9, t) → exec (.houseStoreComplete false) s = .next (rcpEnd 9 0x15 0 0 s)) ∧
  (∀ (m : Master) (s : State), s.grants m .p 0x10000 = true → s.rcp.job = some (1, 0) → s.rcp.auto = none → exec (.rcpAbort m) s
    = .next (rcpEnd 1 0x16 0 0 (s.wr F.RCP_STS_STAGE_OK 0))) ∧
  (∀ (m : Master) (i : Nat) (s : State), s.grants m .p 0x10000 = true → s.rcp.job = some (4, i) → s.rcp.auto = none →
    exec (.rcpAbort m) s = .next (rcpEnd 4 0x16 0 0 (s.wr F.RCP_STS_STAGE_OK 0))) ∧
  (∀ (m : Master) (s : State), s.grants m .p 0x10000 = true → s.rcp.job = some (2, 0) → s.rcp.prep = none → s.rcp.auto = none →
    exec (.rcpAbort m) s = .next (rcpEnd 2 0x16 0 0 s)) ∧
  (∀ (m : Master) (c i : Nat) (s : State), s.grants m .p 0x10000 = true → s.rcp.job = some (c, i) → c ≠ 1 → c ≠ 2 → c ≠ 4 →
    exec (.rcpAbort m) s = .next s) ∧
  (∀ (m : Master) (s : State), s.grants m .p 0x10000 = true → s.rcp.job = none → exec (.rcpAbort m) s = .next s) ∧
  (∀ (cmd code sec ofs : Nat) (s : State), code < 256 → (rcpEnd cmd code sec ofs s).rcp.job = none ∧
    (rcpEnd cmd code sec ofs s).flag F.RCP_STS_BUSY = false ∧ (rcpEnd cmd code sec ofs s).rd F.RCP_RESULT_CODE = code)

/-- KEY_WRITE puts a point on P-256 into an EMPTY slot and makes it VALID, KEY_REVOKE makes a VALID slot REVOKED where another stays
  VALID, each else 0x19; both are refused with 0x0D in ARMED, RUN and BLOCKED. MINVER_SET raises the floor to the VERSION of the
  active Recipe, 0x0A below it. SAFE_ACK with nothing pending has 0x1E; a wrong code 0x18 and ACK_FAIL; the third, or the limit,
  discards the pending configuration with FS40. (R63, R65, R84, R85) -/
def Obligations.RecipeKeys : Prop :=
  (∀ (m : Master) (i : BitVec 4) (k : BitVec 16) (s : State), s.grants m .p 0x10000 = true → s.rcp.job = none → k.toNat ≠ 0xA5C3 →
    exec (.keyWrite m i k) s = .next (rcpRefuse 0xA 0x1A s) ∧ exec (.keyRevoke m i k) s = .next (rcpRefuse 0xB 0x1A s) ∧
    exec (.minverSet m k) s = .next (rcpRefuse 0xC 0x1A s)) ∧
  (∀ (m : Master) (i : BitVec 4) (s : State), s.grants m .p 0x10000 = true → s.rcp.job = none → (s.eff = stARMED ∨ s.eff = stRUN
    ∨ s.eff = stBLOCKED) → exec (.keyWrite m i 0xA5C3) s = .next (rcpRefuse 0xA 0x0D s) ∧ exec (.keyRevoke m i 0xA5C3) s
    = .next (rcpRefuse 0xB 0x0D s)) ∧
  (∀ (m : Master) (i : BitVec 4) (k : KeySlot) (s : State), s.grants m .p 0x10000 = true → s.rcp.job = none → s.keysLocked = false →
    s.rcp.keys[i.toNat]? = some k → k.state = 0 → onCurve (keyPoint s.keyBuf) = true → exec (.keyWrite m i 0xA5C3) s
    = .next (rcpDone 0xA (s.setKey i.toNat ⟨1, some s.keyBuf⟩))) ∧
  (∀ (m : Master) (i : BitVec 4) (k : KeySlot) (s : State), s.grants m .p 0x10000 = true → s.rcp.job = none → s.keysLocked = false →
    s.rcp.keys[i.toNat]? = some k → (k.state ≠ 0 ∨ onCurve (keyPoint s.keyBuf) = false) → exec (.keyWrite m i 0xA5C3) s
    = .next (rcpRefuse 0xA 0x19 s)) ∧
  (∀ (m : Master) (i : BitVec 4) (k : KeySlot) (s : State), s.grants m .p 0x10000 = true → s.rcp.job = none → s.keysLocked = false →
    s.rcp.keys[i.toNat]? = some k → k.state = 1 → 2 ≤ (s.rcp.keys.filter (·.state == 1)).length → exec (.keyRevoke m i 0xA5C3) s
    = .next (rcpDone 0xB (s.setKey i.toNat { k with state := 2 }))) ∧
  (∀ (m : Master) (i : BitVec 4) (s : State), s.grants m .p 0x10000 = true → s.rcp.job = none → s.keysLocked = false →
    (s.rcp.keys.filter (·.state == 1)).length < 2 → exec (.keyRevoke m i 0xA5C3) s = .next (rcpRefuse 0xB 0x19 s)) ∧
  (∀ (m : Master) (s : State), s.grants m .p 0x10000 = true → s.rcp.job = none → s.rcp.minver ≤ s.rd F.RCP_ACT_VER_VALUE →
    exec (.minverSet m 0xA5C3) s = .next (rcpDone 0xC { s with rcp := { s.rcp with minver := s.rd F.RCP_ACT_VER_VALUE } })) ∧
  (∀ (m : Master) (s : State), s.grants m .p 0x10000 = true → s.rcp.job = none → s.rd F.RCP_ACT_VER_VALUE < s.rcp.minver →
    exec (.minverSet m 0xA5C3) s = .next (rcpRefuse 0xC 0x0A s)) ∧
  (∀ (m : Master) (s : State), s.grants m .p 0x10000 = true → s.rcp.job = none → s.safePending = false → exec (.safeAck m) s
    = .next (rcpRefuse 6 0x1E s)) ∧
  (∀ (m : Master) (s : State), s.grants m .p 0x10000 = true → s.rcp.job = none → s.safePending = true →
    s.rd F.RCP_SAFEACK_CODE ≠ 0xFFFFFFFF - s.rd (secCrcFld 6) → s.rd F.RCP_STS_ACK_FAIL < 2 → exec (.safeAck m) s
    = .next (rcpRefuse 6 0x18 (s.wr F.RCP_STS_ACK_FAIL (s.rd F.RCP_STS_ACK_FAIL + 1)))) ∧
  (∀ (m : Master) (s : State), s.grants m .p 0x10000 = true → s.rcp.job = none → s.safePending = true →
    s.rd F.RCP_SAFEACK_CODE ≠ 0xFFFFFFFF - s.rd (secCrcFld 6) → s.rd F.RCP_STS_ACK_FAIL = 2 → exec (.safeAck m) s
    = .next (safeExpire (rcpRefuse 6 0x18 (s.wr F.RCP_STS_ACK_FAIL 3)))) ∧
  (∀ (m : Master) (s : State), s.grants m .p 0x10000 = true → s.rcp.job = none → s.safePending = true →
    s.rd F.RCP_SAFEACK_CODE = 0xFFFFFFFF - s.rd (secCrcFld 6) → ∃ t : State, exec (.safeAck m) s = .next (rcpDone 6 t) ∧
    t.sbu = { s.sbu with ack := true } ∧ t.regs = s.regs) ∧
  (∀ (s : State), s.safePending = true → exec .safeAckExpiry s
    = .next (raise 40 ({ s with sbu := { s.sbu with pend := none, ack := false } }.wr F.RCP_STS_SAFE_STATE 2))) ∧
  (∀ (s : State), s.safePending = false → exec .safeAckExpiry s = .next s)

/-- The end of prepare with arm cycles stopped is the switch; else the commit waits with PHASE 3, or 5 for a confirmation. At the switch
  a section change no longer allowed ends the commit with 0x16 and FS39; else the switch takes effect with code 0. A standby keeps
  the proposal. Without confirmation at the start of cycle k − 1, REQ_BOTH = 1 ends the commit with 0x17 and FS45; with REQ_BOTH = 0
  the active unit switches alone. (R76, R77, R81, R82) -/
def Obligations.RecipeSwitch : Prop :=
  (∀ (p : Prep) (s : State), s.rcp.prep = some p → p.ready = false → s.running = true → p.k = none → exec .commitPrepareEnd s
    = .next ((setPrep (fun p => { p with ready := true }) s).wr F.RCP_STS_PHASE 3)) ∧
  (∀ (p : Prep) (k : Nat) (s : State), s.rcp.prep = some p → p.ready = false → s.running = true → p.k = some k → p.role = roACTIVE →
    p.confirmed = false → p.alone = false → exec .commitPrepareEnd s
    = .next ((setPrep (fun p => { p with ready := true }) s).wr F.RCP_STS_PHASE 5)) ∧
  (∀ (p : Prep) (s : State), s.rcp.prep = some p → p.ready = false → s.running = false → exec .commitPrepareEnd s
    = .next (commitSwitch (setPrep (fun p => { p with ready := true }) s))) ∧
  (∀ (p : Prep) (s : State), s.rcp.prep = some p → p.ready = true → s.switchDue p = true →
    stateVerdict { p.img with flags := clearBit p.img.flags 0 } p.changed s.st = 0 → exec .commitSwitch s
    = .next (rcpFinish 2 0 0 0 (switchNow (s.commitCyc p) p s))) ∧
  (∀ (p : Prep) (s : State), s.rcp.prep = some p → p.ready = true → s.switchDue p = true →
    stateVerdict { p.img with flags := clearBit p.img.flags 0 } p.changed s.st ≠ 0 → s.rcp.auto = none → exec .commitSwitch s
    = .next (rcpEnd 2 0x16 0 0 (raise 39 s))) ∧
  (∀ (p : Prep) (s : State), s.rcp.prep = some p → (p.ready = false ∨ s.switchDue p = false) → exec .commitSwitch s = .next s) ∧
  (∀ (k : Nat) (p : Prep) (s : State), k < 2 ^ 32 → (switchTables k p s).rd F.RCP_COMMIT_CYC_VALUE = k ∧
    (switchTables k p s).rcp.prep = none ∧ (switchTables k p s).rcp.secs = [1, 2, 3, 4, 5,
    6].map fun t => (t, if p.changed.contains t then s.newSec p.img t else s.activeSec t)) ∧
  (∀ (id : BitVec 64) (crcs : List Word) (k : Word) (s : State), s.standbyWrite = true → s.flag F.RCP_STS_STAGE_OK = false →
    exec (.commitProposalReceived id crcs k) s
    = .next { s with rcp := { s.rcp with proposal := some (id.toNat, crcs.map (·.toNat), k.toNat) } }) ∧
  (∀ (p : Prep) (k : Nat) (s : State), s.rcp.prep = some p → p.k = some k → p.ready = true → exec .commitConfirmReceived s
    = .next ((setPrep (fun p => { p with confirmed := true }) s).wr F.RCP_STS_PHASE 3)) ∧
  (∀ (p : Prep) (k : Nat) (s : State), s.rcp.prep = some p → p.k = some k → p.confirmed = false → s.deadlineDue k = true →
    s.flag F.RCP_TWINCFG_REQ_BOTH = true → exec .commitConfirmDeadline s
    = .next (rcpEnd 2 0x17 0 0 (raise 45 { (s.carry 16 (leBytes 4 k)) with rcp := { (s.carry 16 (leBytes 4 k)).rcp with proposal := none } }))) ∧
  (∀ (p : Prep) (k : Nat) (s : State), s.rcp.prep = some p → p.k = some k → p.confirmed = false → s.deadlineDue k = true →
    s.flag F.RCP_TWINCFG_REQ_BOTH = false → s.role ≠ roSTANDBY → p.ready = true → exec .commitConfirmDeadline s
    = .next ((setPrep (fun p => { p with alone := true }) s).wr F.RCP_STS_PHASE 3))

/-- A lane that loses lock leaves LANES with FS369; the last one, or the loss of the link, takes it to LISTEN with FS370. In LISTEN the
  partner's training sequence starts training. RETRAIN starts it again while arm cycles run. A cycle mark stamps e_tw in [−ARMCYC/2,
  ARMCYC/2). A heartbeat shows the partner's role, state and EPOCH and ends the count of misses; one with a wrong CRC is counted and
  changes nothing of these. An ID packet with the same MID or PREF raises FS372. (R480, R481, R482, R483, R484, R485, R489) -/
def Obligations.RelayLink : Prop :=
  (∀ (j : Fin 4) (s : State), s.relayUp = true → s.rdBit F.TWN_STS_LANES j = true → clearBit (s.rd F.TWN_STS_LANES) j ≠ 0 →
    exec (.relayLaneLoss j) s = .next (raiseEach 369 (setLanes (clearBit (s.rd F.TWN_STS_LANES) j) s))) ∧
  (∀ (j : Fin 4) (s : State), s.relayUp = true → s.rdBit F.TWN_STS_LANES j = true → clearBit (s.rd F.TWN_STS_LANES) j = 0 →
    exec (.relayLaneLoss j) s = .next (linkLost (raiseEach 369 s))) ∧
  (∀ (j : Fin 4) (s : State), s.relayUp = true → exec (.relayLaneRejoin j) s
    = .next (standbyJudge (setLanes (setBit (s.rd F.TWN_STS_LANES) j) s))) ∧
  (∀ (j : Fin 4) (s : State), s.relayUp = false → exec (.relayLaneLoss j) s = .next s ∧ exec (.relayLaneRejoin j) s = .next s ∧
    exec .relayLinkLost s = .next s) ∧
  (∀ (s : State), s.relayUp = true → ∃ t : State, exec .relayLinkLost s = .next (standbyJudge (raise 370 t)) ∧
    t.rd F.TWN_STS_LSTATE = 2 ∧ t.rd F.TWN_STS_LANES = 0 ∧ t.flag F.TWN_STS_CKLOCK = false) ∧
  (∀ (s : State), s.rd F.TWN_STS_LSTATE = 2 → ∃ t : State, exec .relayPartnerDetected s = .next t ∧ t.rd F.TWN_STS_LSTATE = 1 ∧
    t.twn.limit = false) ∧
  (∀ (s : State), s.rd F.TWN_STS_LSTATE ≠ 2 → exec .relayPartnerDetected s = .next s) ∧
  (∀ (m : Master) (s : State), s.grants m .p 0x3C0000 = true → s.running = true → exec (.relayRetrain m) s
    = .next (relayStart (relayOff s))) ∧
  (∀ (s : State), s.flag F.GLB_ROLE_TWIN = true → ∃ t : State, relayStart s = standbyJudge t ∧ t.rd F.TWN_STS_LSTATE = 1 ∧
    t.twn.attempts = 1) ∧
  (∀ (m : Master) (s : State), s.grants m .u 0x3C0000 = true → ∃ t : State, exec (.twnCntclr m) s = .next t ∧ t.rd F.TWN_ERR_CV = 0
    ∧ t.rd F.TWN_ERR_CRC = 0 ∧ t.rd F.TWN_ERR_HBMISS = 0 ∧ t.rd F.TWN_ERR_SNAPINC = 0 ∧ t.rd F.TWN_CMPCNT_N = 0 ∧
    t.rd F.TWN_MISCNT_N = 0 ∧ t.rd F.TWN_RSYNCCNT_N = 0) ∧
  (∀ (v : Byte) (s : State), s.relayUp = true → s.armcyc ≠ 0 → exec (.relayCycleMark v) s
    = .next (let x := signed 64 (s.rd64 F.TB_CYCST_LO_T F.TB_CYCST_HI_T) - (s.nowInt - s.rd F.TWN_LRLY_NS);
    (s.inc F.TWN_ERR_CV v.toNat).wr F.TWN_ALIGN_NS (unsigned 32 ((x + (s.armcyc : Int) / 2) % s.armcyc - (s.armcyc : Int) / 2)))) ∧
  (∀ (c b : Word) (st : BitVec 4) (r : Fin 4) (e : BitVec 16) (f : BitVec 5) (n : Bool) (s : State), s.relayUp = true →
    exec (.relayHbReceived false c b st r e f n) s = .next (crcError s)) ∧
  (∀ (c b : Word) (st : BitVec 4) (r : Fin 4) (e : BitVec 16) (f : BitVec 5) (n : Bool) (s : State), s.relayUp = true → ∃ t : State,
    exec (.relayHbReceived true c b st r e f n) s
    = .next (standbyJudge (alignCycle (standbyEpoch (partnerDegraded (f.toNat.testBit 0) t)))) ∧ t.rd F.TWN_STS_PROLE = r.val ∧
    t.rd F.TWN_STS_PSTATE = st.toNat ∧ t.rd F.TWN_PEPOCH_EPOCH = e.toNat ∧ t.flag F.TWN_STS_PNR = n ∧ t.twn.hbMiss = 0 ∧
    t.twn.pcyc = c.toNat ∧ t.twn.pcpbase = b.toNat) ∧
  (∀ (d : BitVec 16) (p : Bool) (e : BitVec 16) (r : Fin 4) (st : BitVec 4) (i : BitVec 64) (k : List Word) (c b : Word) (w : Bool) (s : State),
    s.flag F.GLB_ROLE_TWIN = true → ∃ t : State, exec (.relayIdReceived d p e r st i k c b w) s
    = .next (standbyJudge (condition 372 (decide (d.toNat = s.rd F.TWN_MID_ID) || p == s.flag F.GLB_ROLE_PREF) t)) ∧
    t.rd F.TWN_MID_PID = d.toNat ∧ t.flag F.TWN_STS_PPREF = p ∧ t.rd F.TWN_PEPOCH_EPOCH = e.toNat ∧ t.twn.pimage = i.toNat ∧
    t.twn.pcyc = c.toNat ∧ t.twn.pcpbase = b.toNat) ∧
  (∀ (o : Bool) (s : State), s.relayUp = true → exec (.degReceived o) s = .next (condition 380 o (s.put F.TWN_STS_PDEG o))) ∧
  (∀ (s : State), s.rdBit F.TWN_NRCAUSE_CAUSE 3 = false → 16 ≤ s.twn.alignBad → exec .twinAlignChange s
    = .next (readyJudge (raise 382 (s.putBit F.TWN_NRCAUSE_CAUSE 3 true)))) ∧
  (∀ (s : State), s.rdBit F.TWN_NRCAUSE_CAUSE 3 = true → 16 ≤ s.twn.alignGood → exec .twinAlignChange s
    = .next (readyJudge (unraise 382 (s.putBit F.TWN_NRCAUSE_CAUSE 3 false))))

/-- A packet whose CRC fails is counted and lost. An item that comes after its apply point is missed: MISSED with FS387; else it waits
  for its cycle. The items whose cycle has come are applied. The active unit sends a refresh to a partner that is NOT_READY. At its
  cycle the standby takes the refresh, drops the items that waited, and clears MISSED and FS387. (R480, R490, R491, R498) -/
def Obligations.CarriedItems : Prop :=
  (∀ (b : List Byte) (s : State), exec (.carriedItemReceived false b) s = .next (crcError s)) ∧
  (∀ (b : List Byte) (s : State), s.twn.refresh = none → exec (.carriedItemReceived true b) s = .next (itemTake none b s)) ∧
  (∀ (k : Nat) (f : Nat → State → State) (s : State), cycDiff k s.cyc ≤ 0 →
    atCycle none k f s = missedJudge (raise 387 { s with twn := { s.twn with missed := true } })) ∧
  (∀ (k : Nat) (f : Nat → State → State) (s : State), 0 < cycDiff k s.cyc → atCycle none k f s = f k s) ∧
  (∀ (s : State), exec .carriedItemApply s
    = .next (forAll (s.twn.items.filter fun i => s.cycleDue i.at_) itemApply { s with twn := { s.twn with items := s.twn.items.filter fun i => !s.cycleDue i.at_ } })) ∧
  (∀ (s : State), s.twinned = true → s.role = roACTIVE → s.relayUp = true → s.flag F.TWN_STS_PNR = true → exec .refreshStart s
    = .next (s.emit (.relay 0x20 (25 :: s.refreshBytes)))) ∧
  (∀ (s : State), s.flag F.TWN_STS_PNR = false → exec .refreshStart s = .next s) ∧
  (∀ (x a : Nat) (s : State), s.twn.refresh = some (x, a) → s.role = roSTANDBY → s.cycleDue a = true → exec .refreshApply s
    = .next (let t := refreshTake s.twn.refData s;
    forAll s.twn.refItems (itemTake (some a)) (missedJudge (unraise 387 { t with twn := { t.twn with refresh := none, refData := [], refItems := [], items := [], missed := false }, tly := { t.tly with lifeMiss := false } })))) ∧
  (∀ (s : State), s.twn.refresh = none → exec .refreshApply s = .next s)

/-- Each missed heartbeat counts; the third takes the link down. A trigger on a standby with a cause, or with a takeover under way, is
  refused: REFUSED and FS378; else detection is recorded. At the takeover point the unit becomes ACTIVE at the next cycle start,
  with the new EPOCH and FS377. TKNOTE makes the active STANDBY at the next cycle start. TAKEOVER with a wrong key has result 3,
  written to an active with a ready partner it is sent as TKREQ. UBLK makes a standby in RUN BLOCKED from the next cycle start.
  Orphan adoption has trigger 6 and FS379. (R483, R490, R505, R506, R507, R510, R511, R512) -/
def Obligations.Takeover : Prop :=
  (∀ (s : State), s.relayUp = true → s.twn.hbMiss < 2 → exec .relayHbMissed s
    = .next ({ s with twn := { s.twn with hbMiss := s.twn.hbMiss + 1 } }.inc F.TWN_ERR_HBMISS)) ∧
  (∀ (s : State), s.relayUp = true → s.twn.hbMiss = 2 → s.flag F.TWN_CFG_TKHB = false → exec .relayHbMissed s
    = .next (linkLost ({ s with twn := { s.twn with hbMiss := 3 } }.inc F.TWN_ERR_HBMISS))) ∧
  (∀ (x : Nat) (s : State), s.role = roSTANDBY → x ≠ 2 → (s.rd F.TWN_NRCAUSE_CAUSE ≠ 0 ∨ s.twn.tk ≠ none) →
    takeoverTrigger x s = rehAbort (raise 378 (s.wr F.TWN_TKSTS_REFUSED 1))) ∧
  (∀ (x : Nat) (s : State), s.role = roSTANDBY → s.rd F.TWN_NRCAUSE_CAUSE = 0 → s.twn.tk = none → s.twn.nextRole = none →
    s.nextEpoch ≤ 0xFFFF → takeoverTrigger x s = { s with twn := { s.twn with tk := some (x, s.rawNs) } }.wr F.TWN_TKSTS_LOSTFRM 0) ∧
  (∀ (s : State), s.relayUp = true → s.role = roSTANDBY → (raise 381 s).flag F.TWN_CFG_TKREQ = true → exec .tkreqReceived s
    = .next (takeoverTrigger 3 (raise 381 s))) ∧
  (∀ (m : Master) (k : BitVec 16) (s : State), s.grants m .p 0x3C0004 = true → k.toNat ≠ 0xA5C3 → exec (.takeover m k) s
    = .next (twnJudged 3 s) ∧ exec (.rehearse m k) s = .next (twnJudged 3 s)) ∧
  (∀ (m : Master) (s : State), s.grants m .p 0x3C0004 = true → s.role = roSTANDBY → s.twn.tk = none → exec (.takeover m 0xA5C3) s
    = .next (twnJudged (if (takeoverTrigger 4 s).twn.tk.isSome then 1 else 2) (takeoverTrigger 4 s))) ∧
  (∀ (m : Master) (s : State), s.grants m .p 0x3C0004 = true → s.role = roACTIVE → s.relayUp = true → s.flag F.TWN_STS_PNR = false →
    exec (.takeover m 0xA5C3) s = .next (twnJudged 1 (s.relay 0x10 []))) ∧
  (∀ (x t : Nat) (s : State), s.twn.tk = some (x, t) → s.running = true → s.role = roSTANDBY → s.takeoverDue t = true → ∃ u : State,
    exec .takeoverPoint s = .next (ledgerFire 4 (raise 377 u)) ∧ u.twn.nextRole = some roACTIVE ∧ u.twn.tk = none ∧
    u.cl.lock = some (s.twn.drive.getD s.nextEpoch, true) ∧ u.rd F.GLB_ROLE_EPOCH = s.twn.drive.getD s.nextEpoch % 65536 ∧
    u.rd F.TWN_TKCYC_VAL = s.cyc) ∧
  (∀ (e : BitVec 16) (s : State), s.relayUp = true → s.role = roACTIVE → s.twn.reh = none → exec (.tknoteReceived e) s
    = .next (({ s with twn := { s.twn with nextRole := some roSTANDBY } }.wr F.TWN_PEPOCH_EPOCH e.toNat).wr F.TWN_STS_PROLE roACTIVE)) ∧
  (∀ (a : BitVec 12) (s : State), s.role = roSTANDBY → s.twn.tkAt = none → exec (.ublkReceived a) s
    = .next { s with twn := { s.twn with ublk := some s.cyc, taken := if s.st = stRUN then some stBLOCKED else none } }) ∧
  (∀ (s : State), s.running = true → s.role = roSTANDBY → s.flag F.GLB_ROLE_NOT_READY = true → s.relayUp = false →
    s.rd F.TWN_CFG_ORPHAN ≤ s.twn.orphan → s.twn.nextRole = none → s.nextEpoch ≤ 0xFFFF → ∃ t : State, exec .orphanAdoption s
    = .next (if (raise 379 t).eff = stARMED ∨ (raise 379 t).eff = stRUN then changeState stBLOCKED 0x70 (raise 379 t)
    else raise 379 t) ∧ t.rd F.GLB_ROLE_EPOCH = s.nextEpoch ∧ t.rd F.TWN_TKSTS_TRIG = 6 ∧ t.twn.nextRole = some roACTIVE) ∧
  (∀ (t : Nat) (s : State), s.twn.revFrom = some t → s.revertReady = true → t + s.rd F.TWN_REVERT_HOLD_S * 1000000000 ≤ s.rawNs →
    s.twn.tk = none → s.twn.nextRole = none → exec .prefReturn s = .next (takeoverTrigger 5 s)) ∧
  (∀ (s : State), s.twn.revFrom = none → exec .prefReturn s = .next s)

/-- A rehearsal accepted in cycle k starts at r = k + PLEAD with REHCFG.CYC cycles. At its drive start the standby drives with the
  active's EPOCH + 1; at its end the active raises EPOCH by 2. The check's result is PASS, or FAIL with FS383, its number and the
  lowest index. DRIVE_EXERCISE_OVERDUE raises FS385 once. RESYNC on a standby with the link UP asks for the arm; in cycle r the
  selection is held. A snapshot packet with a wrong CRC drops the snapshot. (R480, R492, R503, R504, R513, R514, R515, R517) -/
def Obligations.RehearsalAndResync : Prop :=
  (∀ (m : Master) (s : State), s.grants m .p 0x3C0004 = true → s.rehReady = true → exec (.rehearse m 0xA5C3) s
    = .next (twnJudged 1 (rehStart s)) ∧
    (rehStart s).twn.reh = some { r := (s.cyc + s.plead) % 2 ^ 32, len := s.rd F.TWN_REHCFG_CYC, flags := s.twn.pflags }) ∧
  (∀ (m : Master) (s : State), s.grants m .p 0x3C0004 = true → s.rehReady = false → exec (.rehearse m 0xA5C3) s
    = .next (twnJudged 2 s)) ∧
  (∀ (s : State), s.flag F.TWN_REHCFG_AUTO = true → s.rehReady = true → s.twn.rehDone = false → exec .rehearsalAuto s
    = .next (rehStart s)) ∧
  (∀ (r : Word) (n : Byte) (s : State), s.relayUp = true → s.role = roSTANDBY → s.eff = stBLOCKED → exec (.rehReceived false r n) s
    = .next ({ s with twn := { s.twn with reh := some { r := r.toNat, len := n.toNat, flags := s.twn.pflags } } }.wr F.TWN_STS_REH 1)) ∧
  (∀ (r : Word) (n : Byte) (s : State), exec (.rehReceived true r n) s
    = .next { s with twn := { s.twn with reh := s.twn.reh.map fun r => { r with abort := true } } }) ∧
  (∀ (q : Rehearsal) (s : State), s.twn.reh = some q → q.phase = 0 → q.abort = false → -1 ≤ cycDiff s.cyc q.r → s.role = roSTANDBY →
    s.sch.frozen = false → s.rd F.TWN_PEPOCH_EPOCH < 65535 → ∃ t : State, exec .rehearsalDriveStart s = .next t ∧
    t.twn.reh = some { q with phase := 1 } ∧ t.twn.drive = some (s.rd F.TWN_PEPOCH_EPOCH + 1) ∧
    t.rd F.GLB_ROLE_EPOCH = s.rd F.TWN_PEPOCH_EPOCH + 1) ∧
  (∀ (q : Rehearsal) (s : State), s.twn.reh = some q → q.phase = 1 → (q.len : Int) - 1 ≤ cycDiff s.cyc q.r → s.role = roACTIVE →
    s.sch.frozen = false → ∃ t : State, exec .rehearsalDriveEnd s = .next t ∧ t.twn.reh = some { q with phase := 2 } ∧
    t.twn.drive = none ∧ t.rd F.GLB_ROLE_EPOCH = min 0xFFFF (s.rd F.GLB_ROLE_EPOCH + 2)) ∧
  (∀ (q : Rehearsal) (s : State), s.twn.reh = some q → q.phase = 2 → q.abort = false → s.role = roACTIVE →
    (q.len : Int) + 2 ≤ cycDiff s.cyc q.r → exec .rehearsalCheck s = .next (let l := s.notEchoing (s.rd F.GLB_ROLE_EPOCH);
    rehEnd (if l.isEmpty then 1 else 2) l s)) ∧
  (∀ (l : List Nat) (s : State), l.length < 8192 → ∃ t : State, rehEnd 2 l s = raise 383 t ∧ t.twn.reh = none ∧ t.twn.drive = none ∧
    t.flag F.TWN_STS_REH = false ∧ t.rd F.TWN_REHSTS_RESULT = 2 ∧ t.rd F.TWN_REHSTS_NFAIL = l.length) ∧
  (∀ (s : State), s.rd F.TWN_EXERCISE_DAYS ≠ 0 → s.twn.overdue = false →
    s.rd64 F.TWN_LASTDRV_LO_T F.TWN_LASTDRV_HI_T + s.rd F.TWN_EXERCISE_DAYS * 86400000000000 < s.now → exec .driveExerciseOverdue s
    = .next (raise 385 { s with twn := { s.twn with overdue := true } })) ∧
  (∀ (m : Master) (n : Byte) (s : State), s.grants m .p 0x3C0004 = true → s.role = roSTANDBY → s.relayUp = true →
    s.arms.contains n.toNat = true → exec (.resync m n) s
    = .next (twnJudged 1 (resyncAsk n.toNat (unraise 376 { s with twn := { s.twn with rsGiven := clearBit s.twn.rsGiven n.toNat, rsLast := s.twn.rsLast.filter fun x => x.1 != n.toNat } })))) ∧
  (∀ (m : Master) (n : Byte) (s : State), s.grants m .p 0x3C0004 = true → (s.role ≠ roSTANDBY ∨ s.relayUp = false) →
    exec (.resync m n) s = .next (twnJudged 2 s)) ∧
  (∀ (n : Nat) (s : State), s.twn.resync = some (n, s.cyc) → s.sch.frozen = false → exec .resyncHold s
    = .next (s.setArm n fun a => { a with rsHold := true })) ∧
  (∀ (b : List Byte) (f : Bool) (s : State), s.relayUp = true → s.role = roSTANDBY → exec (.snapReceived false f b) s
    = .next (crcError { s with twn := { s.twn with snapBuf := none } })) ∧
  (∀ (b : List Byte) (s : State), s.relayUp = true → s.role = roSTANDBY → b.length < 64 → exec (.snapReceived true true b) s
    = .next { s with twn := { s.twn with snapBuf := some b } })
end

