-- ==== Sys2Proof/Laws/Store.lean ====
section
/-! SUPPORT. What the two sparse stores do: a read after a write, at the same place and at another, and that a write
keeps the canonical form. -/

namespace Sys2Proof.Machine

theorem Sparse.look_erase (l : List (Nat × Nat)) (k j : Nat) :
    Sparse.look (Sparse.erase l k) j = if j = k then 0 else Sparse.look l j := by
  induction l with
  | nil => simp [Sparse.erase, Sparse.look]
  | cons c r ih =>
    obtain ⟨k', v⟩ := c
    simp only [Sparse.erase, List.filter_cons] at ih ⊢
    by_cases h : k' = k
    · subst h
      simp only [bne_self_eq_false, Bool.false_eq_true, if_false, ih, Sparse.look]
      by_cases hj : j = k' <;> simp [hj]
    · simp only [bne_iff_ne, ne_eq, h, not_false_eq_true, if_true, Sparse.look, ih]
      by_cases hj : j = k'
      · subst hj; simp [h]
      · simp [hj]

theorem Sparse.look_insert (l : List (Nat × Nat)) (k v j : Nat) :
    Sparse.look (Sparse.insert (Sparse.erase l k) k v) j = if j = k then v else Sparse.look l j := by
  rw [show (if j = k then v else Sparse.look l j)
      = if j = k then v else Sparse.look (Sparse.erase l k) j by rw [Sparse.look_erase]; split <;> rfl]
  have hk : Sparse.look (Sparse.erase l k) k = 0 := by rw [Sparse.look_erase]; simp
  have hmem : ∀ c ∈ Sparse.erase l k, c.1 ≠ k := by
    intro c hc; simpa [Sparse.erase] using (List.mem_filter.mp hc).2
  clear hk
  generalize Sparse.erase l k = m at hmem ⊢
  induction m with
  | nil => simp [Sparse.insert, Sparse.look]
  | cons c r ih =>
    obtain ⟨k', v'⟩ := c
    have hne : k' ≠ k := hmem (k', v') (by simp)
    have ih' := ih (fun c hc => hmem c (by simp [hc]))
    simp only [Sparse.insert]
    split
    · simp only [Sparse.look]
    · simp only [Sparse.look, ih']
      by_cases hj : j = k'
      · subst hj; simp [hne]
      · simp [hj]

@[simp] theorem Sparse.get_set_same (m : Sparse) (k v : Nat) : (m.set k v).get k = v := by
  simp only [Sparse.set, Sparse.get, Sparse.place]
  split
  · rw [Sparse.look_erase]; simp_all
  · rw [Sparse.look_insert]; simp

theorem Sparse.get_set (m : Sparse) (k v j : Nat) : (m.set k v).get j = if j = k then v else m.get j := by
  simp only [Sparse.set, Sparse.get, Sparse.place]
  split
  · rename_i h; rw [Sparse.look_erase]; split <;> simp_all
  · rw [Sparse.look_insert]

theorem Sparse.get_set_ne (m : Sparse) {k j : Nat} (v : Nat) (h : j ≠ k) : (m.set k v).get j = m.get j := by
  rw [Sparse.get_set]; simp [h]

theorem Sparse.okFrom_weaken {l : List (Nat × Nat)} {a b : Nat} (hab : a ≤ b)
    (h : Sparse.okFrom (some b) l = true) : Sparse.okFrom (some a) l = true := by
  cases l with
  | nil => rfl
  | cons c r =>
    obtain ⟨k, v⟩ := c
    simp only [Sparse.okFrom, Bool.and_eq_true, decide_eq_true_eq] at h ⊢
    exact ⟨⟨by omega, h.1.2⟩, h.2⟩

theorem Sparse.okFrom_none_of_some {l : List (Nat × Nat)} {a : Nat}
    (h : Sparse.okFrom (some a) l = true) : Sparse.okFrom none l = true := by
  cases l with
  | nil => rfl
  | cons c r =>
    obtain ⟨k, v⟩ := c
    simp only [Sparse.okFrom, Bool.and_eq_true, decide_eq_true_eq] at h ⊢
    exact ⟨⟨trivial, h.1.2⟩, h.2⟩

theorem Sparse.okFrom_filter (p : Nat × Nat → Bool) :
    ∀ (l : List (Nat × Nat)) (lo : Option Nat), Sparse.okFrom lo l = true → Sparse.okFrom lo (l.filter p) = true := by
  intro l
  induction l with
  | nil => intro lo _; rfl
  | cons c r ih =>
    obtain ⟨k, v⟩ := c
    intro lo h
    simp only [Sparse.okFrom, Bool.and_eq_true] at h
    simp only [List.filter_cons]
    split
    · simp only [Sparse.okFrom, Bool.and_eq_true]
      exact ⟨h.1, ih _ h.2⟩
    · have := ih (some k) h.2
      cases lo with
      | none => exact Sparse.okFrom_none_of_some this
      | some a =>
        have hak : a < k := by simpa using h.1.1
        exact Sparse.okFrom_weaken (Nat.le_of_lt hak) this

theorem Sparse.okFrom_insert (k v : Nat) (hv : v ≠ 0) :
    ∀ (l : List (Nat × Nat)) (lo : Option Nat), (∀ c ∈ l, c.1 ≠ k) → (∀ a, lo = some a → a < k) →
      Sparse.okFrom lo l = true → Sparse.okFrom lo (Sparse.insert l k v) = true := by
  intro l
  induction l with
  | nil =>
    intro lo _ hlo _
    cases lo with
    | none => simp [Sparse.insert, Sparse.okFrom, hv]
    | some a => simp [Sparse.insert, Sparse.okFrom, hv, hlo a rfl]
  | cons c r ih =>
    obtain ⟨k', v'⟩ := c
    intro lo hm hlo h
    have hne : k' ≠ k := hm (k', v') (by simp)
    simp only [Sparse.okFrom, Bool.and_eq_true] at h
    simp only [Sparse.insert]
    split
    · rename_i hlt
      simp only [Sparse.okFrom, Bool.and_eq_true, decide_eq_true_eq]
      refine ⟨⟨?_, by simp [hv]⟩, ⟨hlt, h.1.2⟩, h.2⟩
      cases lo with
      | none => rfl
      | some a => simp [hlo a rfl]
    · rename_i hlt
      simp only [Sparse.okFrom, Bool.and_eq_true, decide_eq_true_eq]
      refine ⟨h.1, ih (some k') (fun c hc => hm c (by simp [hc])) ?_ h.2⟩
      intro a ha; cases ha; omega

/-- A write keeps the canonical form. -/
theorem Sparse.set_wf (m : Sparse) (k v : Nat) (h : m.wf = true) : (m.set k v).wf = true := by
  have he : Sparse.okFrom none (Sparse.erase m.cells k) = true := Sparse.okFrom_filter _ _ _ h
  simp only [Sparse.wf, Sparse.set, Sparse.place]
  split
  · exact he
  · rename_i hv
    exact Sparse.okFrom_insert k v hv _ _
      (fun c hc => by simpa [Sparse.erase] using (List.mem_filter.mp hc).2) (by simp) he

/-- Leaving entries out keeps the canonical form. -/
theorem Sparse.keep_wf (m : Sparse) (p : Nat → Bool) (h : m.wf = true) : (m.keep p).wf = true :=
  Sparse.okFrom_filter _ _ _ h

theorem Memory.look_erase (l : List Host.Cell) (k j : Nat) :
    Memory.look (Memory.erase l k) j = if j = k then 0 else Memory.look l j := by
  induction l with
  | nil => simp [Memory.erase, Memory.look]
  | cons c r ih =>
    obtain ⟨k', v⟩ := c
    simp only [Memory.erase, List.filter_cons] at ih ⊢
    by_cases h : k' = k
    · subst h
      simp only [bne_self_eq_false, Bool.false_eq_true, if_false, ih, Memory.look]
      by_cases hj : j = k' <;> simp [hj]
    · simp only [bne_iff_ne, ne_eq, h, not_false_eq_true, if_true, Memory.look, ih]
      by_cases hj : j = k'
      · subst hj; simp [h]
      · simp [hj]

theorem Memory.look_insert (l : List Host.Cell) (k : Nat) (v : Byte) (j : Nat) :
    Memory.look (Memory.insert (Memory.erase l k) k v) j = if j = k then v else Memory.look l j := by
  rw [show (if j = k then v else Memory.look l j)
      = if j = k then v else Memory.look (Memory.erase l k) j by rw [Memory.look_erase]; split <;> rfl]
  have hmem : ∀ c ∈ Memory.erase l k, c.1 ≠ k := by
    intro c hc; simpa [Memory.erase] using (List.mem_filter.mp hc).2
  generalize Memory.erase l k = m at hmem ⊢
  induction m with
  | nil => simp [Memory.insert, Memory.look]
  | cons c r ih =>
    obtain ⟨k', v'⟩ := c
    have hne : k' ≠ k := hmem (k', v') (by simp)
    have ih' := ih (fun c hc => hmem c (by simp [hc]))
    simp only [Memory.insert]
    split
    · simp only [Memory.look]
    · simp only [Memory.look, ih']
      by_cases hj : j = k'
      · subst hj; simp [hne]
      · simp [hj]

/-- A byte read after a byte written. -/
theorem Memory.read_write (m : Memory) (k : Nat) (v : Byte) (j : Nat) :
    (m.write8 k v).read8 j = if j = k then v else m.read8 j := by
  simp only [Memory.write8, Memory.read8, Memory.place]
  split
  · rename_i h; rw [Memory.look_erase]; split <;> simp_all
  · rw [Memory.look_insert]

theorem Memory.okFrom_weaken {l : List Host.Cell} {a b : Nat} (hab : a ≤ b)
    (h : Memory.okFrom (some b) l = true) : Memory.okFrom (some a) l = true := by
  cases l with
  | nil => rfl
  | cons c r =>
    obtain ⟨k, v⟩ := c
    simp only [Memory.okFrom, Bool.and_eq_true, decide_eq_true_eq] at h ⊢
    exact ⟨⟨by omega, h.1.2⟩, h.2⟩

theorem Memory.okFrom_none_of_some {l : List Host.Cell} {a : Nat}
    (h : Memory.okFrom (some a) l = true) : Memory.okFrom none l = true := by
  cases l with
  | nil => rfl
  | cons c r =>
    obtain ⟨k, v⟩ := c
    simp only [Memory.okFrom, Bool.and_eq_true, decide_eq_true_eq] at h ⊢
    exact ⟨⟨trivial, h.1.2⟩, h.2⟩

theorem Memory.okFrom_filter (p : Host.Cell → Bool) :
    ∀ (l : List Host.Cell) (lo : Option Nat), Memory.okFrom lo l = true → Memory.okFrom lo (l.filter p) = true := by
  intro l
  induction l with
  | nil => intro lo _; rfl
  | cons c r ih =>
    obtain ⟨k, v⟩ := c
    intro lo h
    simp only [Memory.okFrom, Bool.and_eq_true] at h
    simp only [List.filter_cons]
    split
    · simp only [Memory.okFrom, Bool.and_eq_true]
      exact ⟨h.1, ih _ h.2⟩
    · have := ih (some k) h.2
      cases lo with
      | none => exact Memory.okFrom_none_of_some this
      | some a =>
        have hak : a < k := by simpa using h.1.1
        exact Memory.okFrom_weaken (Nat.le_of_lt hak) this

theorem Memory.okFrom_insert (k : Nat) (v : Byte) (hv : v ≠ 0) :
    ∀ (l : List Host.Cell) (lo : Option Nat), (∀ c ∈ l, c.1 ≠ k) → (∀ a, lo = some a → a < k) →
      Memory.okFrom lo l = true → Memory.okFrom lo (Memory.insert l k v) = true := by
  intro l
  induction l with
  | nil =>
    intro lo _ hlo _
    cases lo with
    | none => simpa [Memory.insert, Memory.okFrom] using hv
    | some a => simpa [Memory.insert, Memory.okFrom, hlo a rfl] using hv
  | cons c r ih =>
    obtain ⟨k', v'⟩ := c
    intro lo hm hlo h
    have hne : k' ≠ k := hm (k', v') (by simp)
    simp only [Memory.okFrom, Bool.and_eq_true, decide_eq_true_eq] at h
    simp only [Memory.insert]
    split
    · rename_i hlt
      simp only [Memory.okFrom, Bool.and_eq_true, decide_eq_true_eq]
      refine ⟨⟨?_, by simpa using hv⟩, ⟨hlt, h.1.2⟩, h.2⟩
      cases lo with
      | none => rfl
      | some a => simp [hlo a rfl]
    · rename_i hlt
      simp only [Memory.okFrom, Bool.and_eq_true, decide_eq_true_eq]
      refine ⟨h.1, ih (some k') (fun c hc => hm c (by simp [hc])) ?_ h.2⟩
      intro a ha; cases ha; omega

/-- A byte written keeps the canonical form. -/
theorem Memory.write8_wf (m : Memory) (k : Nat) (v : Byte) (h : m.wf = true) : (m.write8 k v).wf = true := by
  have he : Memory.okFrom none (Memory.erase m.cells k) = true := Memory.okFrom_filter _ _ _ h
  simp only [Memory.wf, Memory.write8, Memory.place]
  split
  · exact he
  · rename_i hv
    exact Memory.okFrom_insert k v hv _ _
      (fun c hc => by simpa [Memory.erase] using (List.mem_filter.mp hc).2) (by simp) he

/-- The canonical form in one line: no byte 0, every address above the bound, addresses strictly rising. -/
theorem Memory.okFrom_iff (l : List Host.Cell) (lo : Option Nat) :
    Memory.okFrom lo l = true ↔
      (∀ c ∈ l, c.2 ≠ 0) ∧ (∀ a, lo = some a → ∀ c ∈ l, a < c.1) ∧ l.Pairwise (fun c d => c.1 < d.1) := by
  induction l generalizing lo with
  | nil => simp [Memory.okFrom]
  | cons c r ih =>
    obtain ⟨k, v⟩ := c
    simp only [Memory.okFrom, Bool.and_eq_true, ih, List.pairwise_cons, List.mem_cons, forall_eq_or_imp, bne_iff_ne, ne_eq]
    constructor
    · rintro ⟨⟨h1, h2⟩, h3, h4, h5⟩
      refine ⟨⟨h2, h3⟩, ?_, h4 k rfl, h5⟩
      rintro a rfl
      have : a < k := by simpa using h1
      exact ⟨this, fun c hc => Nat.lt_trans this (h4 k rfl c hc)⟩
    · rintro ⟨⟨h2, h3⟩, h4, h5, h6⟩
      refine ⟨⟨?_, h2⟩, h3, fun a ha => by cases ha; exact h5, h6⟩
      cases lo with
      | none => rfl
      | some a => simpa using (h4 a rfl).1

/-- The cells listed from `a` on lie in `[a, a + bs.length)` and hold no byte 0. -/
theorem Memory.mem_listed {bs : List Byte} {a : Nat} {c : Host.Cell} (h : c ∈ Memory.listed a bs) :
    a ≤ c.1 ∧ c.1 < a + bs.length ∧ c.2 ≠ 0 := by
  induction bs generalizing a with
  | nil => simp [Memory.listed] at h
  | cons b bs ih =>
    simp only [Memory.listed] at h
    split at h
    · have := ih h; simp only [List.length_cons]; exact ⟨by omega, by omega, this.2.2⟩
    · rename_i hb
      rcases List.mem_cons.mp h with rfl | h
      · simp only [List.length_cons]; exact ⟨Nat.le_refl _, by omega, hb⟩
      · have := ih h; simp only [List.length_cons]; refine ⟨by omega, by omega, this.2.2⟩

/-- The cells listed are in rising order. -/
theorem Memory.listed_pairwise (bs : List Byte) (a : Nat) : (Memory.listed a bs).Pairwise (fun c d => c.1 < d.1) := by
  induction bs generalizing a with
  | nil => simp [Memory.listed]
  | cons b bs ih =>
    simp only [Memory.listed]
    split
    · exact ih _
    · exact List.pairwise_cons.mpr ⟨fun c hc => by have := (Memory.mem_listed hc).1; omega, ih _⟩

/-- Three runs of cells, below, within and from the end of a range, make a canonical memory. -/
theorem Memory.okFrom_runs {l x r : List Host.Cell} {a b : Nat} (hab : a ≤ b) (hl : Memory.okFrom none l = true)
    (hr : Memory.okFrom none r = true) (hx0 : ∀ c ∈ x, c.2 ≠ 0) (hxp : x.Pairwise (fun c d => c.1 < d.1))
    (hla : ∀ c ∈ l, c.1 < a) (hxa : ∀ c ∈ x, a ≤ c.1 ∧ c.1 < b) (hrb : ∀ c ∈ r, b ≤ c.1) :
    Memory.okFrom none (l ++ (x ++ r)) = true := by
  rw [Memory.okFrom_iff] at hl hr ⊢
  refine ⟨?_, by simp, ?_⟩
  · intro c hc
    rcases List.mem_append.mp hc with h | h
    · exact hl.1 c h
    · rcases List.mem_append.mp h with h | h
      · exact hx0 c h
      · exact hr.1 c h
  · rw [List.pairwise_append, List.pairwise_append]
    refine ⟨hl.2.2, ⟨hxp, hr.2.2, fun c hc d hd => ?_⟩, fun c hc d hd => ?_⟩
    · have := hxa c hc; have := hrb d hd; omega
    · have h1 := hla c hc
      rcases List.mem_append.mp hd with h | h
      · have := hxa d h; omega
      · have := hrb d h; omega

/-- Bytes written keep the canonical form. -/
theorem Memory.writeBytes_wf (m : Memory) (a : Nat) (bs : List Byte) (h : m.wf = true) : (m.writeBytes a bs).wf = true :=
  Memory.okFrom_runs (a := a) (b := a + bs.length) (by omega) (Memory.okFrom_filter _ _ _ h) (Memory.okFrom_filter _ _ _ h)
    (fun _ hc => (Memory.mem_listed hc).2.2) (Memory.listed_pairwise _ _)
    (fun _ hc => by simpa using (List.mem_filter.mp hc).2) (fun _ hc => ⟨(Memory.mem_listed hc).1, (Memory.mem_listed hc).2.1⟩)
    (fun _ hc => by simpa using (List.mem_filter.mp hc).2)

/-- A word written keeps the canonical form. -/
theorem Memory.write32_wf (m : Memory) (a v : Nat) (h : m.wf = true) : (m.write32 a v).wf = true :=
  Memory.writeBytes_wf _ _ _ h

/-- Clearing a range keeps the canonical form. -/
theorem Memory.clear_wf (m : Memory) (a n : Nat) (h : m.wf = true) : (m.clear a n).wf = true :=
  Memory.okFrom_filter _ _ _ h

/-- Copying a range keeps the canonical form. -/
theorem Memory.copyFrom_wf (m q : Memory) (src dst n : Nat) (h : m.wf = true) (hq : q.wf = true) :
    (m.copyFrom q src dst n).wf = true := by
  have hq' := (Memory.okFrom_iff _ _).mp (Memory.okFrom_filter (fun c => decide (src ≤ c.1 ∧ c.1 < src + n)) _ _ hq)
  have hin : ∀ c ∈ q.cells.filter (fun c => decide (src ≤ c.1 ∧ c.1 < src + n)), src ≤ c.1 ∧ c.1 < src + n :=
    fun c hc => by simpa using (List.mem_filter.mp hc).2
  refine Memory.okFrom_runs (a := dst) (b := dst + n) (by omega) (Memory.okFrom_filter _ _ _ h) (Memory.okFrom_filter _ _ _ h)
    ?_ ?_ (fun _ hc => by simpa using (List.mem_filter.mp hc).2) ?_ (fun _ hc => by simpa using (List.mem_filter.mp hc).2)
  · intro c hc
    obtain ⟨d, hd, rfl⟩ := List.mem_map.mp hc
    exact hq'.1 d hd
  · rw [List.pairwise_map]
    refine List.Pairwise.imp_of_mem ?_ hq'.2.2
    intro c d hc hd hlt
    have := hin c hc; have := hin d hd
    show c.1 - src + dst < d.1 - src + dst
    omega
  · intro c hc
    obtain ⟨d, hd, rfl⟩ := List.mem_map.mp hc
    have := hin d hd
    exact ⟨by show dst ≤ d.1 - src + dst; omega, by show d.1 - src + dst < dst + n; omega⟩

/-! ### Reading after writing -/

/-- Cells in front whose addresses are others do not answer a read. -/
theorem Memory.look_append_ne {l r : List Host.Cell} {j : Nat} (h : ∀ c ∈ l, c.1 ≠ j) :
    Memory.look (l ++ r) j = Memory.look r j := by
  induction l with
  | nil => rfl
  | cons c l ih =>
    obtain ⟨k, v⟩ := c
    have hk : k ≠ j := h (k, v) (by simp)
    simp only [List.cons_append, Memory.look]
    rw [if_neg (fun e => hk e.symm)]
    exact ih fun c hc => h c (by simp [hc])

/-- Cells behind whose addresses are others do not answer a read. -/
theorem Memory.look_append_eq {l r : List Host.Cell} {j : Nat} (h : ∀ c ∈ r, c.1 ≠ j) :
    Memory.look (l ++ r) j = Memory.look l j := by
  induction l with
  | nil =>
    have := Memory.look_append_ne (r := []) h
    simpa [Memory.look] using this
  | cons c l ih =>
    obtain ⟨k, v⟩ := c
    simp only [List.cons_append, Memory.look, ih]

/-- A filter on addresses leaves the cells it keeps readable. -/
theorem Memory.look_filter (p : Nat → Bool) (l : List Host.Cell) (j : Nat) (h : p j = true) :
    Memory.look (l.filter fun c => p c.1) j = Memory.look l j := by
  induction l with
  | nil => rfl
  | cons c l ih =>
    obtain ⟨k, v⟩ := c
    by_cases hk : p k = true
    · simp [hk, Memory.look, ih]
    · have hne : j ≠ k := fun e => hk (e ▸ h)
      simp [hk, Memory.look, ih, hne]

/-- The byte at an address of the listed cells. -/
theorem Memory.look_listed (bs : List Byte) (a j : Nat) :
    Memory.look (Memory.listed a bs) j = if a ≤ j then bs.getD (j - a) 0 else 0 := by
  induction bs generalizing a with
  | nil => simp [Memory.listed, Memory.look]
  | cons b bs ih =>
    simp only [Memory.listed]
    by_cases hj : j = a
    · subst hj
      split
      · rename_i hb; rw [ih]; simp [hb]
      · simp [Memory.look]
    · by_cases hle : a ≤ j
      · have e : j - a = (j - (a + 1)) + 1 := by omega
        have hle' : a + 1 ≤ j := by omega
        have g : bs.getD (j - (a + 1)) 0 = (b :: bs).getD (j - a) 0 := by rw [e]; simp
        split
        · rw [ih, if_pos hle', g]
        · simp only [Memory.look, if_neg hj]; rw [ih, if_pos hle', g]
      · have hle' : ¬ a + 1 ≤ j := by omega
        split
        · rw [ih, if_neg hle']
        · simp only [Memory.look, if_neg hj]; rw [ih, if_neg hle']

/-- A byte after a write: within the range the byte written, elsewhere the byte before. -/
theorem Memory.read_writeBytes (m : Memory) (a : Nat) (bs : List Byte) (j : Nat) :
    (m.writeBytes a bs).read8 j = if a ≤ j ∧ j < a + bs.length then bs.getD (j - a) 0 else m.read8 j := by
  simp only [Memory.writeBytes, Memory.read8]
  by_cases h1 : j < a
  · rw [Memory.look_append_eq, Memory.look_filter (fun k => decide (k < a)) _ _ (by simpa using h1), if_neg (by omega)]
    intro c hc
    rcases List.mem_append.mp hc with h | h
    · have := (Memory.mem_listed h).1; omega
    · have : a + bs.length ≤ c.1 := by simpa using (List.mem_filter.mp h).2
      omega
  · rw [Memory.look_append_ne (fun c hc => by
      have : c.1 < a := by simpa using (List.mem_filter.mp hc).2
      omega)]
    by_cases h2 : j < a + bs.length
    · rw [Memory.look_append_eq (fun c hc => by
        have : a + bs.length ≤ c.1 := by simpa using (List.mem_filter.mp hc).2
        omega), Memory.look_listed, if_pos (by omega), if_pos ⟨by omega, h2⟩]
    · rw [Memory.look_append_ne (fun c hc => by have := (Memory.mem_listed hc).2.1; omega),
        Memory.look_filter (fun k => decide (a + bs.length ≤ k)) _ _ (by simp; omega), if_neg (by omega)]

/-- The bytes of a range are the bytes at its addresses. -/
theorem Memory.readBytes_eq (m : Memory) (a n : Nat) : m.readBytes a n = (List.range n).map fun i => m.read8 (a + i) := by
  simp only [Memory.readBytes, Memory.read8]
  apply List.map_congr_left
  intro i hi
  have := List.mem_range.mp hi
  exact Memory.look_filter (fun k => decide (a ≤ k ∧ k < a + n)) _ _ (by simp; omega)

end Sys2Proof.Machine
end

