-- ==== Sys2Proof/Laws/State.lean ====
section
/-! SUPPORT. What the updates of the state do, field by field: a register field read after a write, at the same field and at
another, and every other part of the state, which stays. -/

namespace Sys2Proof.Machine

/-! ### One register field -/

/-- A field reads what was written to it, cut to its width. -/
@[simp] theorem State.rd_wr_same (s : State) (f : Fld) (v : Nat) : (s.wr f v).rd f = v % 2 ^ f.w := by
  simp only [State.rd, State.wr, Sparse.get_set_same]
  rw [Nat.xor_assoc, Nat.xor_self, Nat.xor_zero, Nat.mod_mod]

/-- A field reads as before after a write to another. -/
theorem State.rd_wr_ne (s : State) {f g : Fld} (v : Nat) (h : g.key ≠ f.key) : (s.wr f v).rd g = s.rd g := by
  simp only [State.rd, State.wr]
  rw [Sparse.get_set_ne _ _ h]

/-- The shadow of an rwc field reads what was written to it. -/
@[simp] theorem State.rdShadow_wrShadow_same (s : State) (f : Fld) (v : Nat) : (s.wrShadow f v).rdShadow f = v % 2 ^ f.w := by
  simp only [State.rdShadow, State.wrShadow, Sparse.get_set_same]
  rw [Nat.xor_assoc, Nat.xor_self, Nat.xor_zero, Nat.mod_mod]

/-- The shadow of an rwc field reads as before after a write to another. -/
theorem State.rdShadow_wrShadow_ne (s : State) {f g : Fld} (v : Nat) (h : g.key ≠ f.key) :
    (s.wrShadow f v).rdShadow g = s.rdShadow g := by
  simp only [State.rdShadow, State.wrShadow]
  rw [Sparse.get_set_ne _ _ h]

/-- A field reads the same in two states with one register file. -/
theorem State.rd_congr {s t : State} (h : t.regs = s.regs) (f : Fld) : t.rd f = s.rd f := by
  simp only [State.rd, h]

/-- The present value of a field is below 2 to its width. -/
theorem State.rd_lt (s : State) (f : Fld) : s.rd f < 2 ^ f.w := Nat.mod_lt _ (Nat.two_pow_pos _)

@[simp] theorem State.wrs_nil (s : State) : s.wrs [] = s := rfl
@[simp] theorem State.wrs_cons (s : State) (f : Fld) (v : Nat) (l : List (Fld × Nat)) : s.wrs ((f, v) :: l) = (s.wr f v).wrs l := rfl

/-! ### A loop -/

@[simp] theorem forAll_nil {α : Type} (f : α → State → State) (s : State) : forAll [] f s = s := rfl
@[simp] theorem forAll_cons {α : Type} (a : α) (l : List α) (f : α → State → State) (s : State) :
    forAll (a :: l) f s = forAll l f (f a s) := rfl

/-! ### Every other part -/

/-! `State.wr` changes `regs` alone. -/

@[simp] theorem State.wr_shadow (s : State) (f : Fld) (v : Nat) : (s.wr f v).shadow = s.shadow := rfl
@[simp] theorem State.wr_samp (s : State) (f : Fld) (v : Nat) : (s.wr f v).samp = s.samp := rfl
@[simp] theorem State.wr_capt (s : State) (f : Fld) (v : Nat) : (s.wr f v).capt = s.capt := rfl
@[simp] theorem State.wr_latch (s : State) (f : Fld) (v : Nat) : (s.wr f v).latch = s.latch := rfl
@[simp] theorem State.wr_cellar (s : State) (f : Fld) (v : Nat) : (s.wr f v).cellar = s.cellar := rfl
@[simp] theorem State.wr_tb (s : State) (f : Fld) (v : Nat) : (s.wr f v).tb = s.tb := rfl
@[simp] theorem State.wr_glb (s : State) (f : Fld) (v : Nat) : (s.wr f v).glb = s.glb := rfl
@[simp] theorem State.wr_fc (s : State) (f : Fld) (v : Nat) : (s.wr f v).fc = s.fc := rfl
@[simp] theorem State.wr_hst (s : State) (f : Fld) (v : Nat) : (s.wr f v).hst = s.hst := rfl
@[simp] theorem State.wr_cl (s : State) (f : Fld) (v : Nat) : (s.wr f v).cl = s.cl := rfl
@[simp] theorem State.wr_sch (s : State) (f : Fld) (v : Nat) : (s.wr f v).sch = s.sch := rfl
@[simp] theorem State.wr_be (s : State) (f : Fld) (v : Nat) : (s.wr f v).be = s.be := rfl
@[simp] theorem State.wr_ref (s : State) (f : Fld) (v : Nat) : (s.wr f v).ref = s.ref := rfl
@[simp] theorem State.wr_tly (s : State) (f : Fld) (v : Nat) : (s.wr f v).tly = s.tly := rfl
@[simp] theorem State.wr_cg (s : State) (f : Fld) (v : Nat) : (s.wr f v).cg = s.cg := rfl
@[simp] theorem State.wr_net (s : State) (f : Fld) (v : Nat) : (s.wr f v).net = s.net := rfl
@[simp] theorem State.wr_wb (s : State) (f : Fld) (v : Nat) : (s.wr f v).wb = s.wb := rfl
@[simp] theorem State.wr_lmu (s : State) (f : Fld) (v : Nat) : (s.wr f v).lmu = s.lmu := rfl
@[simp] theorem State.wr_sbu (s : State) (f : Fld) (v : Nat) : (s.wr f v).sbu = s.sbu := rfl
@[simp] theorem State.wr_twn (s : State) (f : Fld) (v : Nat) : (s.wr f v).twn = s.twn := rfl
@[simp] theorem State.wr_rcp (s : State) (f : Fld) (v : Nat) : (s.wr f v).rcp = s.rcp := rfl
@[simp] theorem State.wr_clk (s : State) (f : Fld) (v : Nat) : (s.wr f v).clk = s.clk := rfl
@[simp] theorem State.wr_freeN (s : State) (f : Fld) (v : Nat) : (s.wr f v).freeN = s.freeN := rfl
@[simp] theorem State.wr_out (s : State) (f : Fld) (v : Nat) : (s.wr f v).out = s.out := rfl
@[simp] theorem State.wr_pending (s : State) (f : Fld) (v : Nat) : (s.wr f v).pending = s.pending := rfl

/-! `State.put` changes `regs` alone. -/

@[simp] theorem State.put_shadow (s : State) (f : Fld) (b : Bool) : (s.put f b).shadow = s.shadow := rfl
@[simp] theorem State.put_samp (s : State) (f : Fld) (b : Bool) : (s.put f b).samp = s.samp := rfl
@[simp] theorem State.put_capt (s : State) (f : Fld) (b : Bool) : (s.put f b).capt = s.capt := rfl
@[simp] theorem State.put_latch (s : State) (f : Fld) (b : Bool) : (s.put f b).latch = s.latch := rfl
@[simp] theorem State.put_cellar (s : State) (f : Fld) (b : Bool) : (s.put f b).cellar = s.cellar := rfl
@[simp] theorem State.put_tb (s : State) (f : Fld) (b : Bool) : (s.put f b).tb = s.tb := rfl
@[simp] theorem State.put_glb (s : State) (f : Fld) (b : Bool) : (s.put f b).glb = s.glb := rfl
@[simp] theorem State.put_fc (s : State) (f : Fld) (b : Bool) : (s.put f b).fc = s.fc := rfl
@[simp] theorem State.put_hst (s : State) (f : Fld) (b : Bool) : (s.put f b).hst = s.hst := rfl
@[simp] theorem State.put_cl (s : State) (f : Fld) (b : Bool) : (s.put f b).cl = s.cl := rfl
@[simp] theorem State.put_sch (s : State) (f : Fld) (b : Bool) : (s.put f b).sch = s.sch := rfl
@[simp] theorem State.put_be (s : State) (f : Fld) (b : Bool) : (s.put f b).be = s.be := rfl
@[simp] theorem State.put_ref (s : State) (f : Fld) (b : Bool) : (s.put f b).ref = s.ref := rfl
@[simp] theorem State.put_tly (s : State) (f : Fld) (b : Bool) : (s.put f b).tly = s.tly := rfl
@[simp] theorem State.put_cg (s : State) (f : Fld) (b : Bool) : (s.put f b).cg = s.cg := rfl
@[simp] theorem State.put_net (s : State) (f : Fld) (b : Bool) : (s.put f b).net = s.net := rfl
@[simp] theorem State.put_wb (s : State) (f : Fld) (b : Bool) : (s.put f b).wb = s.wb := rfl
@[simp] theorem State.put_lmu (s : State) (f : Fld) (b : Bool) : (s.put f b).lmu = s.lmu := rfl
@[simp] theorem State.put_sbu (s : State) (f : Fld) (b : Bool) : (s.put f b).sbu = s.sbu := rfl
@[simp] theorem State.put_twn (s : State) (f : Fld) (b : Bool) : (s.put f b).twn = s.twn := rfl
@[simp] theorem State.put_rcp (s : State) (f : Fld) (b : Bool) : (s.put f b).rcp = s.rcp := rfl
@[simp] theorem State.put_clk (s : State) (f : Fld) (b : Bool) : (s.put f b).clk = s.clk := rfl
@[simp] theorem State.put_freeN (s : State) (f : Fld) (b : Bool) : (s.put f b).freeN = s.freeN := rfl
@[simp] theorem State.put_out (s : State) (f : Fld) (b : Bool) : (s.put f b).out = s.out := rfl
@[simp] theorem State.put_pending (s : State) (f : Fld) (b : Bool) : (s.put f b).pending = s.pending := rfl

/-! `State.inc` changes `regs` alone. -/

@[simp] theorem State.inc_shadow (s : State) (f : Fld) (n : Nat) : (s.inc f n).shadow = s.shadow := rfl
@[simp] theorem State.inc_samp (s : State) (f : Fld) (n : Nat) : (s.inc f n).samp = s.samp := rfl
@[simp] theorem State.inc_capt (s : State) (f : Fld) (n : Nat) : (s.inc f n).capt = s.capt := rfl
@[simp] theorem State.inc_latch (s : State) (f : Fld) (n : Nat) : (s.inc f n).latch = s.latch := rfl
@[simp] theorem State.inc_cellar (s : State) (f : Fld) (n : Nat) : (s.inc f n).cellar = s.cellar := rfl
@[simp] theorem State.inc_tb (s : State) (f : Fld) (n : Nat) : (s.inc f n).tb = s.tb := rfl
@[simp] theorem State.inc_glb (s : State) (f : Fld) (n : Nat) : (s.inc f n).glb = s.glb := rfl
@[simp] theorem State.inc_fc (s : State) (f : Fld) (n : Nat) : (s.inc f n).fc = s.fc := rfl
@[simp] theorem State.inc_hst (s : State) (f : Fld) (n : Nat) : (s.inc f n).hst = s.hst := rfl
@[simp] theorem State.inc_cl (s : State) (f : Fld) (n : Nat) : (s.inc f n).cl = s.cl := rfl
@[simp] theorem State.inc_sch (s : State) (f : Fld) (n : Nat) : (s.inc f n).sch = s.sch := rfl
@[simp] theorem State.inc_be (s : State) (f : Fld) (n : Nat) : (s.inc f n).be = s.be := rfl
@[simp] theorem State.inc_ref (s : State) (f : Fld) (n : Nat) : (s.inc f n).ref = s.ref := rfl
@[simp] theorem State.inc_tly (s : State) (f : Fld) (n : Nat) : (s.inc f n).tly = s.tly := rfl
@[simp] theorem State.inc_cg (s : State) (f : Fld) (n : Nat) : (s.inc f n).cg = s.cg := rfl
@[simp] theorem State.inc_net (s : State) (f : Fld) (n : Nat) : (s.inc f n).net = s.net := rfl
@[simp] theorem State.inc_wb (s : State) (f : Fld) (n : Nat) : (s.inc f n).wb = s.wb := rfl
@[simp] theorem State.inc_lmu (s : State) (f : Fld) (n : Nat) : (s.inc f n).lmu = s.lmu := rfl
@[simp] theorem State.inc_sbu (s : State) (f : Fld) (n : Nat) : (s.inc f n).sbu = s.sbu := rfl
@[simp] theorem State.inc_twn (s : State) (f : Fld) (n : Nat) : (s.inc f n).twn = s.twn := rfl
@[simp] theorem State.inc_rcp (s : State) (f : Fld) (n : Nat) : (s.inc f n).rcp = s.rcp := rfl
@[simp] theorem State.inc_clk (s : State) (f : Fld) (n : Nat) : (s.inc f n).clk = s.clk := rfl
@[simp] theorem State.inc_freeN (s : State) (f : Fld) (n : Nat) : (s.inc f n).freeN = s.freeN := rfl
@[simp] theorem State.inc_out (s : State) (f : Fld) (n : Nat) : (s.inc f n).out = s.out := rfl
@[simp] theorem State.inc_pending (s : State) (f : Fld) (n : Nat) : (s.inc f n).pending = s.pending := rfl

/-! `State.count` changes `regs` alone. -/

@[simp] theorem State.count_shadow (s : State) (f : Fld) : (s.count f).shadow = s.shadow := rfl
@[simp] theorem State.count_samp (s : State) (f : Fld) : (s.count f).samp = s.samp := rfl
@[simp] theorem State.count_capt (s : State) (f : Fld) : (s.count f).capt = s.capt := rfl
@[simp] theorem State.count_latch (s : State) (f : Fld) : (s.count f).latch = s.latch := rfl
@[simp] theorem State.count_cellar (s : State) (f : Fld) : (s.count f).cellar = s.cellar := rfl
@[simp] theorem State.count_tb (s : State) (f : Fld) : (s.count f).tb = s.tb := rfl
@[simp] theorem State.count_glb (s : State) (f : Fld) : (s.count f).glb = s.glb := rfl
@[simp] theorem State.count_fc (s : State) (f : Fld) : (s.count f).fc = s.fc := rfl
@[simp] theorem State.count_hst (s : State) (f : Fld) : (s.count f).hst = s.hst := rfl
@[simp] theorem State.count_cl (s : State) (f : Fld) : (s.count f).cl = s.cl := rfl
@[simp] theorem State.count_sch (s : State) (f : Fld) : (s.count f).sch = s.sch := rfl
@[simp] theorem State.count_be (s : State) (f : Fld) : (s.count f).be = s.be := rfl
@[simp] theorem State.count_ref (s : State) (f : Fld) : (s.count f).ref = s.ref := rfl
@[simp] theorem State.count_tly (s : State) (f : Fld) : (s.count f).tly = s.tly := rfl
@[simp] theorem State.count_cg (s : State) (f : Fld) : (s.count f).cg = s.cg := rfl
@[simp] theorem State.count_net (s : State) (f : Fld) : (s.count f).net = s.net := rfl
@[simp] theorem State.count_wb (s : State) (f : Fld) : (s.count f).wb = s.wb := rfl
@[simp] theorem State.count_lmu (s : State) (f : Fld) : (s.count f).lmu = s.lmu := rfl
@[simp] theorem State.count_sbu (s : State) (f : Fld) : (s.count f).sbu = s.sbu := rfl
@[simp] theorem State.count_twn (s : State) (f : Fld) : (s.count f).twn = s.twn := rfl
@[simp] theorem State.count_rcp (s : State) (f : Fld) : (s.count f).rcp = s.rcp := rfl
@[simp] theorem State.count_clk (s : State) (f : Fld) : (s.count f).clk = s.clk := rfl
@[simp] theorem State.count_freeN (s : State) (f : Fld) : (s.count f).freeN = s.freeN := rfl
@[simp] theorem State.count_out (s : State) (f : Fld) : (s.count f).out = s.out := rfl
@[simp] theorem State.count_pending (s : State) (f : Fld) : (s.count f).pending = s.pending := rfl

/-! `State.putBit` changes `regs` alone. -/

@[simp] theorem State.putBit_shadow (s : State) (f : Fld) (i : Nat) (b : Bool) : (s.putBit f i b).shadow = s.shadow := rfl
@[simp] theorem State.putBit_samp (s : State) (f : Fld) (i : Nat) (b : Bool) : (s.putBit f i b).samp = s.samp := rfl
@[simp] theorem State.putBit_capt (s : State) (f : Fld) (i : Nat) (b : Bool) : (s.putBit f i b).capt = s.capt := rfl
@[simp] theorem State.putBit_latch (s : State) (f : Fld) (i : Nat) (b : Bool) : (s.putBit f i b).latch = s.latch := rfl
@[simp] theorem State.putBit_cellar (s : State) (f : Fld) (i : Nat) (b : Bool) : (s.putBit f i b).cellar = s.cellar := rfl
@[simp] theorem State.putBit_tb (s : State) (f : Fld) (i : Nat) (b : Bool) : (s.putBit f i b).tb = s.tb := rfl
@[simp] theorem State.putBit_glb (s : State) (f : Fld) (i : Nat) (b : Bool) : (s.putBit f i b).glb = s.glb := rfl
@[simp] theorem State.putBit_fc (s : State) (f : Fld) (i : Nat) (b : Bool) : (s.putBit f i b).fc = s.fc := rfl
@[simp] theorem State.putBit_hst (s : State) (f : Fld) (i : Nat) (b : Bool) : (s.putBit f i b).hst = s.hst := rfl
@[simp] theorem State.putBit_cl (s : State) (f : Fld) (i : Nat) (b : Bool) : (s.putBit f i b).cl = s.cl := rfl
@[simp] theorem State.putBit_sch (s : State) (f : Fld) (i : Nat) (b : Bool) : (s.putBit f i b).sch = s.sch := rfl
@[simp] theorem State.putBit_be (s : State) (f : Fld) (i : Nat) (b : Bool) : (s.putBit f i b).be = s.be := rfl
@[simp] theorem State.putBit_ref (s : State) (f : Fld) (i : Nat) (b : Bool) : (s.putBit f i b).ref = s.ref := rfl
@[simp] theorem State.putBit_tly (s : State) (f : Fld) (i : Nat) (b : Bool) : (s.putBit f i b).tly = s.tly := rfl
@[simp] theorem State.putBit_cg (s : State) (f : Fld) (i : Nat) (b : Bool) : (s.putBit f i b).cg = s.cg := rfl
@[simp] theorem State.putBit_net (s : State) (f : Fld) (i : Nat) (b : Bool) : (s.putBit f i b).net = s.net := rfl
@[simp] theorem State.putBit_wb (s : State) (f : Fld) (i : Nat) (b : Bool) : (s.putBit f i b).wb = s.wb := rfl
@[simp] theorem State.putBit_lmu (s : State) (f : Fld) (i : Nat) (b : Bool) : (s.putBit f i b).lmu = s.lmu := rfl
@[simp] theorem State.putBit_sbu (s : State) (f : Fld) (i : Nat) (b : Bool) : (s.putBit f i b).sbu = s.sbu := rfl
@[simp] theorem State.putBit_twn (s : State) (f : Fld) (i : Nat) (b : Bool) : (s.putBit f i b).twn = s.twn := rfl
@[simp] theorem State.putBit_rcp (s : State) (f : Fld) (i : Nat) (b : Bool) : (s.putBit f i b).rcp = s.rcp := rfl
@[simp] theorem State.putBit_clk (s : State) (f : Fld) (i : Nat) (b : Bool) : (s.putBit f i b).clk = s.clk := rfl
@[simp] theorem State.putBit_freeN (s : State) (f : Fld) (i : Nat) (b : Bool) : (s.putBit f i b).freeN = s.freeN := rfl
@[simp] theorem State.putBit_out (s : State) (f : Fld) (i : Nat) (b : Bool) : (s.putBit f i b).out = s.out := rfl
@[simp] theorem State.putBit_pending (s : State) (f : Fld) (i : Nat) (b : Bool) : (s.putBit f i b).pending = s.pending := rfl

/-! `State.wrShadow` changes `shadow` alone. -/

@[simp] theorem State.wrShadow_regs (s : State) (f : Fld) (v : Nat) : (s.wrShadow f v).regs = s.regs := rfl
@[simp] theorem State.wrShadow_samp (s : State) (f : Fld) (v : Nat) : (s.wrShadow f v).samp = s.samp := rfl
@[simp] theorem State.wrShadow_capt (s : State) (f : Fld) (v : Nat) : (s.wrShadow f v).capt = s.capt := rfl
@[simp] theorem State.wrShadow_latch (s : State) (f : Fld) (v : Nat) : (s.wrShadow f v).latch = s.latch := rfl
@[simp] theorem State.wrShadow_cellar (s : State) (f : Fld) (v : Nat) : (s.wrShadow f v).cellar = s.cellar := rfl
@[simp] theorem State.wrShadow_tb (s : State) (f : Fld) (v : Nat) : (s.wrShadow f v).tb = s.tb := rfl
@[simp] theorem State.wrShadow_glb (s : State) (f : Fld) (v : Nat) : (s.wrShadow f v).glb = s.glb := rfl
@[simp] theorem State.wrShadow_fc (s : State) (f : Fld) (v : Nat) : (s.wrShadow f v).fc = s.fc := rfl
@[simp] theorem State.wrShadow_hst (s : State) (f : Fld) (v : Nat) : (s.wrShadow f v).hst = s.hst := rfl
@[simp] theorem State.wrShadow_cl (s : State) (f : Fld) (v : Nat) : (s.wrShadow f v).cl = s.cl := rfl
@[simp] theorem State.wrShadow_sch (s : State) (f : Fld) (v : Nat) : (s.wrShadow f v).sch = s.sch := rfl
@[simp] theorem State.wrShadow_be (s : State) (f : Fld) (v : Nat) : (s.wrShadow f v).be = s.be := rfl
@[simp] theorem State.wrShadow_ref (s : State) (f : Fld) (v : Nat) : (s.wrShadow f v).ref = s.ref := rfl
@[simp] theorem State.wrShadow_tly (s : State) (f : Fld) (v : Nat) : (s.wrShadow f v).tly = s.tly := rfl
@[simp] theorem State.wrShadow_cg (s : State) (f : Fld) (v : Nat) : (s.wrShadow f v).cg = s.cg := rfl
@[simp] theorem State.wrShadow_net (s : State) (f : Fld) (v : Nat) : (s.wrShadow f v).net = s.net := rfl
@[simp] theorem State.wrShadow_wb (s : State) (f : Fld) (v : Nat) : (s.wrShadow f v).wb = s.wb := rfl
@[simp] theorem State.wrShadow_lmu (s : State) (f : Fld) (v : Nat) : (s.wrShadow f v).lmu = s.lmu := rfl
@[simp] theorem State.wrShadow_sbu (s : State) (f : Fld) (v : Nat) : (s.wrShadow f v).sbu = s.sbu := rfl
@[simp] theorem State.wrShadow_twn (s : State) (f : Fld) (v : Nat) : (s.wrShadow f v).twn = s.twn := rfl
@[simp] theorem State.wrShadow_rcp (s : State) (f : Fld) (v : Nat) : (s.wrShadow f v).rcp = s.rcp := rfl
@[simp] theorem State.wrShadow_clk (s : State) (f : Fld) (v : Nat) : (s.wrShadow f v).clk = s.clk := rfl
@[simp] theorem State.wrShadow_freeN (s : State) (f : Fld) (v : Nat) : (s.wrShadow f v).freeN = s.freeN := rfl
@[simp] theorem State.wrShadow_out (s : State) (f : Fld) (v : Nat) : (s.wrShadow f v).out = s.out := rfl
@[simp] theorem State.wrShadow_pending (s : State) (f : Fld) (v : Nat) : (s.wrShadow f v).pending = s.pending := rfl

/-! `State.capture` changes `capt` alone. -/

@[simp] theorem State.capture_regs (s : State) (f : Fld) : (s.capture f).regs = s.regs := rfl
@[simp] theorem State.capture_shadow (s : State) (f : Fld) : (s.capture f).shadow = s.shadow := rfl
@[simp] theorem State.capture_samp (s : State) (f : Fld) : (s.capture f).samp = s.samp := rfl
@[simp] theorem State.capture_latch (s : State) (f : Fld) : (s.capture f).latch = s.latch := rfl
@[simp] theorem State.capture_cellar (s : State) (f : Fld) : (s.capture f).cellar = s.cellar := rfl
@[simp] theorem State.capture_tb (s : State) (f : Fld) : (s.capture f).tb = s.tb := rfl
@[simp] theorem State.capture_glb (s : State) (f : Fld) : (s.capture f).glb = s.glb := rfl
@[simp] theorem State.capture_fc (s : State) (f : Fld) : (s.capture f).fc = s.fc := rfl
@[simp] theorem State.capture_hst (s : State) (f : Fld) : (s.capture f).hst = s.hst := rfl
@[simp] theorem State.capture_cl (s : State) (f : Fld) : (s.capture f).cl = s.cl := rfl
@[simp] theorem State.capture_sch (s : State) (f : Fld) : (s.capture f).sch = s.sch := rfl
@[simp] theorem State.capture_be (s : State) (f : Fld) : (s.capture f).be = s.be := rfl
@[simp] theorem State.capture_ref (s : State) (f : Fld) : (s.capture f).ref = s.ref := rfl
@[simp] theorem State.capture_tly (s : State) (f : Fld) : (s.capture f).tly = s.tly := rfl
@[simp] theorem State.capture_cg (s : State) (f : Fld) : (s.capture f).cg = s.cg := rfl
@[simp] theorem State.capture_net (s : State) (f : Fld) : (s.capture f).net = s.net := rfl
@[simp] theorem State.capture_wb (s : State) (f : Fld) : (s.capture f).wb = s.wb := rfl
@[simp] theorem State.capture_lmu (s : State) (f : Fld) : (s.capture f).lmu = s.lmu := rfl
@[simp] theorem State.capture_sbu (s : State) (f : Fld) : (s.capture f).sbu = s.sbu := rfl
@[simp] theorem State.capture_twn (s : State) (f : Fld) : (s.capture f).twn = s.twn := rfl
@[simp] theorem State.capture_rcp (s : State) (f : Fld) : (s.capture f).rcp = s.rcp := rfl
@[simp] theorem State.capture_clk (s : State) (f : Fld) : (s.capture f).clk = s.clk := rfl
@[simp] theorem State.capture_freeN (s : State) (f : Fld) : (s.capture f).freeN = s.freeN := rfl
@[simp] theorem State.capture_out (s : State) (f : Fld) : (s.capture f).out = s.out := rfl
@[simp] theorem State.capture_pending (s : State) (f : Fld) : (s.capture f).pending = s.pending := rfl

/-! `State.setLn` changes `cl` alone. -/

@[simp] theorem State.setLn_regs (s : State) (l : Nat) (f : LaneSt → LaneSt) : (s.setLn l f).regs = s.regs := rfl
@[simp] theorem State.setLn_shadow (s : State) (l : Nat) (f : LaneSt → LaneSt) : (s.setLn l f).shadow = s.shadow := rfl
@[simp] theorem State.setLn_samp (s : State) (l : Nat) (f : LaneSt → LaneSt) : (s.setLn l f).samp = s.samp := rfl
@[simp] theorem State.setLn_capt (s : State) (l : Nat) (f : LaneSt → LaneSt) : (s.setLn l f).capt = s.capt := rfl
@[simp] theorem State.setLn_latch (s : State) (l : Nat) (f : LaneSt → LaneSt) : (s.setLn l f).latch = s.latch := rfl
@[simp] theorem State.setLn_cellar (s : State) (l : Nat) (f : LaneSt → LaneSt) : (s.setLn l f).cellar = s.cellar := rfl
@[simp] theorem State.setLn_tb (s : State) (l : Nat) (f : LaneSt → LaneSt) : (s.setLn l f).tb = s.tb := rfl
@[simp] theorem State.setLn_glb (s : State) (l : Nat) (f : LaneSt → LaneSt) : (s.setLn l f).glb = s.glb := rfl
@[simp] theorem State.setLn_fc (s : State) (l : Nat) (f : LaneSt → LaneSt) : (s.setLn l f).fc = s.fc := rfl
@[simp] theorem State.setLn_hst (s : State) (l : Nat) (f : LaneSt → LaneSt) : (s.setLn l f).hst = s.hst := rfl
@[simp] theorem State.setLn_sch (s : State) (l : Nat) (f : LaneSt → LaneSt) : (s.setLn l f).sch = s.sch := rfl
@[simp] theorem State.setLn_be (s : State) (l : Nat) (f : LaneSt → LaneSt) : (s.setLn l f).be = s.be := rfl
@[simp] theorem State.setLn_ref (s : State) (l : Nat) (f : LaneSt → LaneSt) : (s.setLn l f).ref = s.ref := rfl
@[simp] theorem State.setLn_tly (s : State) (l : Nat) (f : LaneSt → LaneSt) : (s.setLn l f).tly = s.tly := rfl
@[simp] theorem State.setLn_cg (s : State) (l : Nat) (f : LaneSt → LaneSt) : (s.setLn l f).cg = s.cg := rfl
@[simp] theorem State.setLn_net (s : State) (l : Nat) (f : LaneSt → LaneSt) : (s.setLn l f).net = s.net := rfl
@[simp] theorem State.setLn_wb (s : State) (l : Nat) (f : LaneSt → LaneSt) : (s.setLn l f).wb = s.wb := rfl
@[simp] theorem State.setLn_lmu (s : State) (l : Nat) (f : LaneSt → LaneSt) : (s.setLn l f).lmu = s.lmu := rfl
@[simp] theorem State.setLn_sbu (s : State) (l : Nat) (f : LaneSt → LaneSt) : (s.setLn l f).sbu = s.sbu := rfl
@[simp] theorem State.setLn_twn (s : State) (l : Nat) (f : LaneSt → LaneSt) : (s.setLn l f).twn = s.twn := rfl
@[simp] theorem State.setLn_rcp (s : State) (l : Nat) (f : LaneSt → LaneSt) : (s.setLn l f).rcp = s.rcp := rfl
@[simp] theorem State.setLn_clk (s : State) (l : Nat) (f : LaneSt → LaneSt) : (s.setLn l f).clk = s.clk := rfl
@[simp] theorem State.setLn_freeN (s : State) (l : Nat) (f : LaneSt → LaneSt) : (s.setLn l f).freeN = s.freeN := rfl
@[simp] theorem State.setLn_out (s : State) (l : Nat) (f : LaneSt → LaneSt) : (s.setLn l f).out = s.out := rfl
@[simp] theorem State.setLn_pending (s : State) (l : Nat) (f : LaneSt → LaneSt) : (s.setLn l f).pending = s.pending := rfl

/-! `State.setArm` changes `be` alone. -/

@[simp] theorem State.setArm_regs (s : State) (n : Nat) (f : ArmSt → ArmSt) : (s.setArm n f).regs = s.regs := rfl
@[simp] theorem State.setArm_shadow (s : State) (n : Nat) (f : ArmSt → ArmSt) : (s.setArm n f).shadow = s.shadow := rfl
@[simp] theorem State.setArm_samp (s : State) (n : Nat) (f : ArmSt → ArmSt) : (s.setArm n f).samp = s.samp := rfl
@[simp] theorem State.setArm_capt (s : State) (n : Nat) (f : ArmSt → ArmSt) : (s.setArm n f).capt = s.capt := rfl
@[simp] theorem State.setArm_latch (s : State) (n : Nat) (f : ArmSt → ArmSt) : (s.setArm n f).latch = s.latch := rfl
@[simp] theorem State.setArm_cellar (s : State) (n : Nat) (f : ArmSt → ArmSt) : (s.setArm n f).cellar = s.cellar := rfl
@[simp] theorem State.setArm_tb (s : State) (n : Nat) (f : ArmSt → ArmSt) : (s.setArm n f).tb = s.tb := rfl
@[simp] theorem State.setArm_glb (s : State) (n : Nat) (f : ArmSt → ArmSt) : (s.setArm n f).glb = s.glb := rfl
@[simp] theorem State.setArm_fc (s : State) (n : Nat) (f : ArmSt → ArmSt) : (s.setArm n f).fc = s.fc := rfl
@[simp] theorem State.setArm_hst (s : State) (n : Nat) (f : ArmSt → ArmSt) : (s.setArm n f).hst = s.hst := rfl
@[simp] theorem State.setArm_cl (s : State) (n : Nat) (f : ArmSt → ArmSt) : (s.setArm n f).cl = s.cl := rfl
@[simp] theorem State.setArm_sch (s : State) (n : Nat) (f : ArmSt → ArmSt) : (s.setArm n f).sch = s.sch := rfl
@[simp] theorem State.setArm_ref (s : State) (n : Nat) (f : ArmSt → ArmSt) : (s.setArm n f).ref = s.ref := rfl
@[simp] theorem State.setArm_tly (s : State) (n : Nat) (f : ArmSt → ArmSt) : (s.setArm n f).tly = s.tly := rfl
@[simp] theorem State.setArm_cg (s : State) (n : Nat) (f : ArmSt → ArmSt) : (s.setArm n f).cg = s.cg := rfl
@[simp] theorem State.setArm_net (s : State) (n : Nat) (f : ArmSt → ArmSt) : (s.setArm n f).net = s.net := rfl
@[simp] theorem State.setArm_wb (s : State) (n : Nat) (f : ArmSt → ArmSt) : (s.setArm n f).wb = s.wb := rfl
@[simp] theorem State.setArm_lmu (s : State) (n : Nat) (f : ArmSt → ArmSt) : (s.setArm n f).lmu = s.lmu := rfl
@[simp] theorem State.setArm_sbu (s : State) (n : Nat) (f : ArmSt → ArmSt) : (s.setArm n f).sbu = s.sbu := rfl
@[simp] theorem State.setArm_twn (s : State) (n : Nat) (f : ArmSt → ArmSt) : (s.setArm n f).twn = s.twn := rfl
@[simp] theorem State.setArm_rcp (s : State) (n : Nat) (f : ArmSt → ArmSt) : (s.setArm n f).rcp = s.rcp := rfl
@[simp] theorem State.setArm_clk (s : State) (n : Nat) (f : ArmSt → ArmSt) : (s.setArm n f).clk = s.clk := rfl
@[simp] theorem State.setArm_freeN (s : State) (n : Nat) (f : ArmSt → ArmSt) : (s.setArm n f).freeN = s.freeN := rfl
@[simp] theorem State.setArm_out (s : State) (n : Nat) (f : ArmSt → ArmSt) : (s.setArm n f).out = s.out := rfl
@[simp] theorem State.setArm_pending (s : State) (n : Nat) (f : ArmSt → ArmSt) : (s.setArm n f).pending = s.pending := rfl

/-! `State.mapCells` changes `be` alone. -/

@[simp] theorem State.mapCells_regs (s : State) (p : CellSt → Bool) (f : CellSt → CellSt) : (s.mapCells p f).regs = s.regs := rfl
@[simp] theorem State.mapCells_shadow (s : State) (p : CellSt → Bool) (f : CellSt → CellSt) : (s.mapCells p f).shadow = s.shadow := rfl
@[simp] theorem State.mapCells_samp (s : State) (p : CellSt → Bool) (f : CellSt → CellSt) : (s.mapCells p f).samp = s.samp := rfl
@[simp] theorem State.mapCells_capt (s : State) (p : CellSt → Bool) (f : CellSt → CellSt) : (s.mapCells p f).capt = s.capt := rfl
@[simp] theorem State.mapCells_latch (s : State) (p : CellSt → Bool) (f : CellSt → CellSt) : (s.mapCells p f).latch = s.latch := rfl
@[simp] theorem State.mapCells_cellar (s : State) (p : CellSt → Bool) (f : CellSt → CellSt) : (s.mapCells p f).cellar = s.cellar := rfl
@[simp] theorem State.mapCells_tb (s : State) (p : CellSt → Bool) (f : CellSt → CellSt) : (s.mapCells p f).tb = s.tb := rfl
@[simp] theorem State.mapCells_glb (s : State) (p : CellSt → Bool) (f : CellSt → CellSt) : (s.mapCells p f).glb = s.glb := rfl
@[simp] theorem State.mapCells_fc (s : State) (p : CellSt → Bool) (f : CellSt → CellSt) : (s.mapCells p f).fc = s.fc := rfl
@[simp] theorem State.mapCells_hst (s : State) (p : CellSt → Bool) (f : CellSt → CellSt) : (s.mapCells p f).hst = s.hst := rfl
@[simp] theorem State.mapCells_cl (s : State) (p : CellSt → Bool) (f : CellSt → CellSt) : (s.mapCells p f).cl = s.cl := rfl
@[simp] theorem State.mapCells_sch (s : State) (p : CellSt → Bool) (f : CellSt → CellSt) : (s.mapCells p f).sch = s.sch := rfl
@[simp] theorem State.mapCells_ref (s : State) (p : CellSt → Bool) (f : CellSt → CellSt) : (s.mapCells p f).ref = s.ref := rfl
@[simp] theorem State.mapCells_tly (s : State) (p : CellSt → Bool) (f : CellSt → CellSt) : (s.mapCells p f).tly = s.tly := rfl
@[simp] theorem State.mapCells_cg (s : State) (p : CellSt → Bool) (f : CellSt → CellSt) : (s.mapCells p f).cg = s.cg := rfl
@[simp] theorem State.mapCells_net (s : State) (p : CellSt → Bool) (f : CellSt → CellSt) : (s.mapCells p f).net = s.net := rfl
@[simp] theorem State.mapCells_wb (s : State) (p : CellSt → Bool) (f : CellSt → CellSt) : (s.mapCells p f).wb = s.wb := rfl
@[simp] theorem State.mapCells_lmu (s : State) (p : CellSt → Bool) (f : CellSt → CellSt) : (s.mapCells p f).lmu = s.lmu := rfl
@[simp] theorem State.mapCells_sbu (s : State) (p : CellSt → Bool) (f : CellSt → CellSt) : (s.mapCells p f).sbu = s.sbu := rfl
@[simp] theorem State.mapCells_twn (s : State) (p : CellSt → Bool) (f : CellSt → CellSt) : (s.mapCells p f).twn = s.twn := rfl
@[simp] theorem State.mapCells_rcp (s : State) (p : CellSt → Bool) (f : CellSt → CellSt) : (s.mapCells p f).rcp = s.rcp := rfl
@[simp] theorem State.mapCells_clk (s : State) (p : CellSt → Bool) (f : CellSt → CellSt) : (s.mapCells p f).clk = s.clk := rfl
@[simp] theorem State.mapCells_freeN (s : State) (p : CellSt → Bool) (f : CellSt → CellSt) : (s.mapCells p f).freeN = s.freeN := rfl
@[simp] theorem State.mapCells_out (s : State) (p : CellSt → Bool) (f : CellSt → CellSt) : (s.mapCells p f).out = s.out := rfl
@[simp] theorem State.mapCells_pending (s : State) (p : CellSt → Bool) (f : CellSt → CellSt) : (s.mapCells p f).pending = s.pending := rfl

/-! `State.emit` changes `out` alone. -/

@[simp] theorem State.emit_regs (s : State) (o : Output) : (s.emit o).regs = s.regs := rfl
@[simp] theorem State.emit_shadow (s : State) (o : Output) : (s.emit o).shadow = s.shadow := rfl
@[simp] theorem State.emit_samp (s : State) (o : Output) : (s.emit o).samp = s.samp := rfl
@[simp] theorem State.emit_capt (s : State) (o : Output) : (s.emit o).capt = s.capt := rfl
@[simp] theorem State.emit_latch (s : State) (o : Output) : (s.emit o).latch = s.latch := rfl
@[simp] theorem State.emit_cellar (s : State) (o : Output) : (s.emit o).cellar = s.cellar := rfl
@[simp] theorem State.emit_tb (s : State) (o : Output) : (s.emit o).tb = s.tb := rfl
@[simp] theorem State.emit_glb (s : State) (o : Output) : (s.emit o).glb = s.glb := rfl
@[simp] theorem State.emit_fc (s : State) (o : Output) : (s.emit o).fc = s.fc := rfl
@[simp] theorem State.emit_hst (s : State) (o : Output) : (s.emit o).hst = s.hst := rfl
@[simp] theorem State.emit_cl (s : State) (o : Output) : (s.emit o).cl = s.cl := rfl
@[simp] theorem State.emit_sch (s : State) (o : Output) : (s.emit o).sch = s.sch := rfl
@[simp] theorem State.emit_be (s : State) (o : Output) : (s.emit o).be = s.be := rfl
@[simp] theorem State.emit_ref (s : State) (o : Output) : (s.emit o).ref = s.ref := rfl
@[simp] theorem State.emit_tly (s : State) (o : Output) : (s.emit o).tly = s.tly := rfl
@[simp] theorem State.emit_cg (s : State) (o : Output) : (s.emit o).cg = s.cg := rfl
@[simp] theorem State.emit_net (s : State) (o : Output) : (s.emit o).net = s.net := rfl
@[simp] theorem State.emit_wb (s : State) (o : Output) : (s.emit o).wb = s.wb := rfl
@[simp] theorem State.emit_lmu (s : State) (o : Output) : (s.emit o).lmu = s.lmu := rfl
@[simp] theorem State.emit_sbu (s : State) (o : Output) : (s.emit o).sbu = s.sbu := rfl
@[simp] theorem State.emit_twn (s : State) (o : Output) : (s.emit o).twn = s.twn := rfl
@[simp] theorem State.emit_rcp (s : State) (o : Output) : (s.emit o).rcp = s.rcp := rfl
@[simp] theorem State.emit_clk (s : State) (o : Output) : (s.emit o).clk = s.clk := rfl
@[simp] theorem State.emit_freeN (s : State) (o : Output) : (s.emit o).freeN = s.freeN := rfl
@[simp] theorem State.emit_pending (s : State) (o : Output) : (s.emit o).pending = s.pending := rfl

end Sys2Proof.Machine
end

