-- ==== Sys2Proof/Laws/Shared.lean ====
section
/-! SUPPORT. What the operations that many commands share do: the gate of a register write, a host event. -/

namespace Sys2Proof.Machine

/-- A write that the arbiter lets pass has its effect. -/
theorem gate_grants {s : State} {m : Master} {v : View} {a : Nat} (k : State → State) (h : s.grants m v a = true) :
    gate m v a k s = k s := by
  simp only [State.grants, Bool.and_eq_true, Bool.not_eq_true', beq_iff_eq] at h
  obtain ⟨⟨⟨h1, h2⟩, h3⟩, h4⟩ := h
  simp [gate, h1, h2, h3, h4]

/-! ### What does not hang on a register that has just been written -/

theorem flag_wr_ne (s : State) {f g : Fld} (v : Nat) (h : g.key ≠ f.key) : (s.wr f v).flag g = s.flag g := by
  simp only [State.flag, State.rd_wr_ne s v h]

theorem rdBit_wr_ne (s : State) {f g : Fld} (v i : Nat) (h : g.key ≠ f.key) : (s.wr f v).rdBit g i = s.rdBit g i := by
  simp only [State.rdBit, State.rd_wr_ne s v h]

theorem nowInt_wr (s : State) {f : Fld} (v : Nat) (h : F.TB_RATE_RATE.key ≠ f.key) : (s.wr f v).nowInt = s.nowInt := by
  simp only [State.nowInt, State.rate, State.rd_wr_ne s v h, State.wr_tb]

theorem now_wr (s : State) {f : Fld} (v : Nat) (h : F.TB_RATE_RATE.key ≠ f.key) : (s.wr f v).now = s.now := by
  simp only [State.now, nowInt_wr s v h]

theorem st_wr (s : State) {f : Fld} (v : Nat) (h : F.GLB_STATE_STATE.key ≠ f.key) : (s.wr f v).st = s.st := by
  simp only [State.st, State.rd_wr_ne s v h]

theorem eff_wr (s : State) {f : Fld} (v : Nat) (h : F.GLB_STATE_STATE.key ≠ f.key) : (s.wr f v).eff = s.eff := by
  simp only [State.eff, st_wr s v h, State.wr_glb]

theorem role_wr (s : State) {f : Fld} (v : Nat) (h : F.GLB_ROLE_ROLE.key ≠ f.key) : (s.wr f v).role = s.role := by
  simp only [State.role, State.rd_wr_ne s v h]

theorem running_wr (s : State) {f : Fld} (v : Nat) (h : F.SCH_CFG_RUNNING.key ≠ f.key) : (s.wr f v).running = s.running := by
  simp only [State.running, flag_wr_ne s v h]

theorem cyc_wr (s : State) {f : Fld} (v : Nat) (h : F.SCH_CYC_CYC.key ≠ f.key) : (s.wr f v).cyc = s.cyc := by
  simp only [State.cyc, State.rd_wr_ne s v h]

theorem cycRec_wr (s : State) {f : Fld} (v : Nat) (h : F.SCH_CFG_RUNNING.key ≠ f.key) (h' : F.SCH_CYC_CYC.key ≠ f.key) :
    (s.wr f v).cycRec = s.cycRec := by
  simp only [State.cycRec, running_wr s v h, cyc_wr s v h']

/-! ### The tick -/

/-- A step of a slew moves OFSX and what is left of the slew, and nothing else. -/
theorem slewTick_spec (s : State) : ∃ (o r : Int) (f : Nat), slewTick s = { s with tb := { s.tb with ofsx := o, slewRem := r, slewFrac := f } } := by
  unfold slewTick
  split
  · exact ⟨_, _, _, rfl⟩
  · exact ⟨s.tb.ofsx, s.tb.slewRem, s.tb.slewFrac, rfl⟩

/-- TB.RAW advances by one unit modulo 2^64, OFSX may be rebased. -/
theorem rawTick_spec (s : State) (h : s.tb.raw < rawMod) :
    ∃ (n : Nat) (o : Int), n = (s.tb.raw + rawPerTick) % rawMod ∧ rawTick s = { s with tb := { s.tb with raw := n, ofsx := o } } := by
  have hp : rawPerTick < rawMod := by decide
  by_cases hr : s.tb.raw + rawPerTick < rawMod
  · refine ⟨_, s.tb.ofsx, (Nat.mod_eq_of_lt hr).symm, ?_⟩
    unfold rawTick; rw [if_pos hr]
  · refine ⟨s.tb.raw + rawPerTick - rawMod, _, ?_, by unfold rawTick; rw [if_neg hr]⟩
    rw [Nat.mod_eq_sub_mod (Nat.le_of_not_lt hr), Nat.mod_eq_of_lt (by omega)]

/-- A tick advances TB.RAW by one unit modulo 2^64 and may move OFSX and what is left of a slew; it does nothing else. -/
theorem tick_spec (s : State) (h : s.tb.raw < rawMod) : ∃ (n : Nat) (o r : Int) (f : Nat), n = (s.tb.raw + rawPerTick) % rawMod ∧
    tick s = { s with tb := { s.tb with raw := n, ofsx := o, slewRem := r, slewFrac := f } } := by
  obtain ⟨n, o, hn, e⟩ := rawTick_spec s h
  obtain ⟨o', r, f, e'⟩ := slewTick_spec (rawTick s)
  refine ⟨n, o', r, f, hn, ?_⟩
  unfold tick
  rw [e', e]

end Sys2Proof.Machine
end

