-- ==== Sys2Proof/Laws/Within.lean ====
section
/-! SUPPORT. How `Within` composes: the lemmas by which the footprint of an operation follows from those of the operations it
is built from. -/

namespace Sys2Proof

open Machine

theorem SamePart.refl (i : Nat) (s : State) : SamePart i s s := by
  unfold SamePart; split <;> first | rfl | exact ⟨rfl, rfl⟩ | trivial

theorem SamePart.trans {i : Nat} {s x y : State} (h : SamePart i s x) (k : SamePart i x y) : SamePart i s y := by
  unfold SamePart at *
  split at h <;> first | exact k.trans h | exact ⟨k.1.trans h.1, k.2.trans h.2⟩ | trivial

theorem Within.refl (m : Nat) (s : State) : Within m s s :=
  ⟨rfl, id, List.prefix_refl _, Nat.le_refl _, fun i _ => SamePart.refl i s⟩

/-- One operation after others, with the bits of its footprint among those allowed. -/
theorem Within.step {m k : Nat} {s x y : State} (h : Within m s x) (f : Within k x y) (hk : k ||| m = m) : Within m s y := by
  refine ⟨f.queue.trans h.queue, fun c => f.canon (h.canon c), h.out.trans f.out, h.free.trans f.free, fun i hi => ?_⟩
  refine (h.parts i hi).trans (f.parts i ?_)
  have e : (k ||| m).testBit i = m.testBit i := by rw [hk]
  rw [Nat.testBit_or, hi] at e
  simpa using e

theorem Within.mono {m k : Nat} {s t : State} (h : Within k s t) (hk : k ||| m = m) : Within m s t :=
  (Within.refl m s).step h hk

/-- A footprint within one that is allowed. -/
theorem Within.sub {k K m : Nat} (h : k ||| K = K) (hm : K ||| m = m) : k ||| m = m := by
  rw [← hm, ← Nat.or_assoc, h]

/-- A bit within a footprint that is allowed. -/
theorem Within.bit {i K m : Nat} (h : K.testBit i = true) (hm : K ||| m = m) : m.testBit i = true := by
  rw [← hm, Nat.testBit_or, h, Bool.true_or]

/-- The state that an operation answers beside a value. -/
theorem Within.ofPair {α : Type} {m : Nat} {s t : State} {p : α × State} {a : α} (e : p = (a, t)) (h : Within m s p.2) :
    Within m s t := by
  subst e; exact h

/-- The state that an operation answers before a value. -/
theorem Within.ofPair1 {α : Type} {m : Nat} {s t : State} {p : State × α} {a : α} (e : p = (t, a)) (h : Within m s p.1) :
    Within m s t := by
  subst e; exact h

/-- A choice between two ways on. -/
theorem Within.ite {m : Nat} {s x y : State} {c : Prop} [Decidable c] (h : Within m s x) (k : Within m s y) :
    Within m s (if c then x else y) := by
  split
  · exact h
  · exact k

/-- A loop of operations. -/
theorem Within.forAll {α : Type} {m : Nat} {s x : State} {l : List α} {f : α → State → State} (h : Within m s x)
    (hf : ∀ a y, Within m s y → Within m s (f a y)) : Within m s (Machine.forAll l f x) := by
  unfold Machine.forAll
  induction l generalizing x with
  | nil => exact h
  | cons a l ih => exact ih (hf a x h)

/-- A loop of operations written as a fold. -/
theorem Within.foldl {α : Type} {m : Nat} {s x : State} {l : List α} {f : State → α → State} (h : Within m s x)
    (hf : ∀ a y, Within m s y → Within m s (f y a)) : Within m s (l.foldl f x) := by
  induction l generalizing x with
  | nil => exact h
  | cons a l ih => exact ih (hf a x h)

/-- The typed parts take new values; the stores inside them stay canonical. -/
theorem Within.typed' {m : Nat} {s x : State} (h : Within m s x) (tb : TbSt) (glb : GlbSt) (fc : FcSt) (hst : HstSt) (cl : ClSt)
    (sch : SchSt) (be : BeSt) (ref : RefSt) (tly : TlySt) (cg : CgSt) (net : NetSt) (wb : WbSt) (lmu : LmuSt) (sbu : SbuSt)
    (twn : TwnSt) (rcp : RcpSt) (clk : ClkSt)
    (h6 : m.testBit 6 = true ∨ tb = x.tb) (h7 : m.testBit 7 = true ∨ glb = x.glb) (h8 : m.testBit 8 = true ∨ fc = x.fc)
    (h9 : m.testBit 9 = true ∨ hst = x.hst) (h10 : m.testBit 10 = true ∨ cl = x.cl) (h11 : m.testBit 11 = true ∨ sch = x.sch)
    (h12 : m.testBit 12 = true ∨ be = x.be) (h13 : m.testBit 13 = true ∨ ref = x.ref) (h14 : m.testBit 14 = true ∨ tly = x.tly)
    (h15 : m.testBit 15 = true ∨ cg = x.cg) (h16 : m.testBit 16 = true ∨ net = x.net) (h17 : m.testBit 17 = true ∨ wb = x.wb)
    (h18 : m.testBit 18 = true ∨ lmu = x.lmu) (h19 : m.testBit 19 = true ∨ sbu = x.sbu) (h20 : m.testBit 20 = true ∨ twn = x.twn)
    (h21 : m.testBit 21 = true ∨ rcp = x.rcp) (h22 : m.testBit 22 = true ∨ clk = x.clk)
    (h25 : m.testBit 25 = true ∨ tb.raw = x.tb.raw)
    (h26 : m.testBit 26 = true ∨ (glb.vinOn = x.glb.vinOn ∧ glb.vauxOn = x.glb.vauxOn))
    (hc : StoresCanonical x → InnerCanonical tly hst net) :
    Within m s { x with tb := tb, glb := glb, fc := fc, hst := hst, cl := cl, sch := sch, be := be, ref := ref, tly := tly
                        cg := cg, net := net, wb := wb, lmu := lmu, sbu := sbu, twn := twn, rcp := rcp, clk := clk } := by
  refine ⟨h.queue, fun c => ?_, h.out, h.free, fun i hi => ?_⟩
  · have d := h.canon c
    exact ⟨d.regs, d.shadow, d.samp, d.capt, d.latch, d.cellar, hc d⟩
  · have p := h.parts i hi
    unfold SamePart at p ⊢
    split at p <;> simp_all

/-- The typed parts take new values and the stores inside them stay. -/
theorem Within.typed {m : Nat} {s x : State} (h : Within m s x) (tb : TbSt) (glb : GlbSt) (fc : FcSt) (hst : HstSt) (cl : ClSt)
    (sch : SchSt) (be : BeSt) (ref : RefSt) (tly : TlySt) (cg : CgSt) (net : NetSt) (wb : WbSt) (lmu : LmuSt) (sbu : SbuSt)
    (twn : TwnSt) (rcp : RcpSt) (clk : ClkSt)
    (h6 : m.testBit 6 = true ∨ tb = x.tb) (h7 : m.testBit 7 = true ∨ glb = x.glb) (h8 : m.testBit 8 = true ∨ fc = x.fc)
    (h9 : m.testBit 9 = true ∨ hst = x.hst) (h10 : m.testBit 10 = true ∨ cl = x.cl) (h11 : m.testBit 11 = true ∨ sch = x.sch)
    (h12 : m.testBit 12 = true ∨ be = x.be) (h13 : m.testBit 13 = true ∨ ref = x.ref) (h14 : m.testBit 14 = true ∨ tly = x.tly)
    (h15 : m.testBit 15 = true ∨ cg = x.cg) (h16 : m.testBit 16 = true ∨ net = x.net) (h17 : m.testBit 17 = true ∨ wb = x.wb)
    (h18 : m.testBit 18 = true ∨ lmu = x.lmu) (h19 : m.testBit 19 = true ∨ sbu = x.sbu) (h20 : m.testBit 20 = true ∨ twn = x.twn)
    (h21 : m.testBit 21 = true ∨ rcp = x.rcp) (h22 : m.testBit 22 = true ∨ clk = x.clk)
    (h25 : m.testBit 25 = true ∨ tb.raw = x.tb.raw)
    (h26 : m.testBit 26 = true ∨ (glb.vinOn = x.glb.vinOn ∧ glb.vauxOn = x.glb.vauxOn))
    (a1 : tly.arch = x.tly.arch) (a2 : tly.ck0.recs = x.tly.ck0.recs) (a3 : tly.ck1.recs = x.tly.ck1.recs)
    (a4 : hst.vecMask = x.hst.vecMask) (a5 : hst.pba = x.hst.pba) (a6 : hst.vecTab = x.hst.vecTab) (a7 : hst.cfg = x.hst.cfg)
    (a8 : net.sent = x.net.sent) :
    Within m s { x with tb := tb, glb := glb, fc := fc, hst := hst, cl := cl, sch := sch, be := be, ref := ref, tly := tly
                        cg := cg, net := net, wb := wb, lmu := lmu, sbu := sbu, twn := twn, rcp := rcp, clk := clk } :=
  h.typed' tb glb fc hst cl sch be ref tly cg net wb lmu sbu twn rcp clk h6 h7 h8 h9 h10 h11 h12 h13 h14 h15 h16 h17 h18 h19 h20
    h21 h22 h25 h26 fun c => ⟨by rw [a1]; exact c.inner.arch, by rw [a2]; exact c.inner.ck0, by rw [a3]; exact c.inner.ck1,
      by rw [a4]; exact c.inner.vecMask, by rw [a5]; exact c.inner.pba, by rw [a6]; exact c.inner.vecTab, by rw [a7]; exact c.inner.cfg,
      by rw [a8]; exact c.inner.sent⟩

/-! One typed part takes a new value. -/

theorem Within.tb {m : Nat} {s x : State} (h : Within m s x) (v : TbSt) (hm : m.testBit 6 = true) (hr : m.testBit 25 = true ∨ v.raw = x.tb.raw) :
    Within m s { x with tb := v } :=
  h.typed _ _ _ _ _ _ _ _ _ _ _ _ _ _ _ _ _
    (.inl hm) (.inr rfl) (.inr rfl) (.inr rfl) (.inr rfl) (.inr rfl) (.inr rfl) (.inr rfl) (.inr rfl) (.inr rfl) (.inr rfl) (.inr rfl) (.inr rfl) (.inr rfl) (.inr rfl) (.inr rfl) (.inr rfl)
    hr (.inr ⟨rfl, rfl⟩) rfl rfl rfl rfl rfl rfl rfl rfl

theorem Within.glb {m : Nat} {s x : State} (h : Within m s x) (v : GlbSt) (hm : m.testBit 7 = true) (hp : m.testBit 26 = true ∨ (v.vinOn = x.glb.vinOn ∧ v.vauxOn = x.glb.vauxOn)) :
    Within m s { x with glb := v } :=
  h.typed _ _ _ _ _ _ _ _ _ _ _ _ _ _ _ _ _
    (.inr rfl) (.inl hm) (.inr rfl) (.inr rfl) (.inr rfl) (.inr rfl) (.inr rfl) (.inr rfl) (.inr rfl) (.inr rfl) (.inr rfl) (.inr rfl) (.inr rfl) (.inr rfl) (.inr rfl) (.inr rfl) (.inr rfl)
    (.inr rfl) hp rfl rfl rfl rfl rfl rfl rfl rfl

theorem Within.fc {m : Nat} {s x : State} (h : Within m s x) (v : FcSt) (hm : m.testBit 8 = true) :
    Within m s { x with fc := v } :=
  h.typed _ _ _ _ _ _ _ _ _ _ _ _ _ _ _ _ _
    (.inr rfl) (.inr rfl) (.inl hm) (.inr rfl) (.inr rfl) (.inr rfl) (.inr rfl) (.inr rfl) (.inr rfl) (.inr rfl) (.inr rfl) (.inr rfl) (.inr rfl) (.inr rfl) (.inr rfl) (.inr rfl) (.inr rfl)
    (.inr rfl) (.inr ⟨rfl, rfl⟩) rfl rfl rfl rfl rfl rfl rfl rfl

theorem Within.hst {m : Nat} {s x : State} (h : Within m s x) (v : HstSt) (hm : m.testBit 9 = true) (a4 : v.vecMask = x.hst.vecMask) (a5 : v.pba = x.hst.pba) (a6 : v.vecTab = x.hst.vecTab) (a7 : v.cfg = x.hst.cfg) :
    Within m s { x with hst := v } :=
  h.typed _ _ _ _ _ _ _ _ _ _ _ _ _ _ _ _ _
    (.inr rfl) (.inr rfl) (.inr rfl) (.inl hm) (.inr rfl) (.inr rfl) (.inr rfl) (.inr rfl) (.inr rfl) (.inr rfl) (.inr rfl) (.inr rfl) (.inr rfl) (.inr rfl) (.inr rfl) (.inr rfl) (.inr rfl)
    (.inr rfl) (.inr ⟨rfl, rfl⟩) rfl rfl rfl a4 a5 a6 a7 rfl

theorem Within.cl {m : Nat} {s x : State} (h : Within m s x) (v : ClSt) (hm : m.testBit 10 = true) :
    Within m s { x with cl := v } :=
  h.typed _ _ _ _ _ _ _ _ _ _ _ _ _ _ _ _ _
    (.inr rfl) (.inr rfl) (.inr rfl) (.inr rfl) (.inl hm) (.inr rfl) (.inr rfl) (.inr rfl) (.inr rfl) (.inr rfl) (.inr rfl) (.inr rfl) (.inr rfl) (.inr rfl) (.inr rfl) (.inr rfl) (.inr rfl)
    (.inr rfl) (.inr ⟨rfl, rfl⟩) rfl rfl rfl rfl rfl rfl rfl rfl

theorem Within.sch {m : Nat} {s x : State} (h : Within m s x) (v : SchSt) (hm : m.testBit 11 = true) :
    Within m s { x with sch := v } :=
  h.typed _ _ _ _ _ _ _ _ _ _ _ _ _ _ _ _ _
    (.inr rfl) (.inr rfl) (.inr rfl) (.inr rfl) (.inr rfl) (.inl hm) (.inr rfl) (.inr rfl) (.inr rfl) (.inr rfl) (.inr rfl) (.inr rfl) (.inr rfl) (.inr rfl) (.inr rfl) (.inr rfl) (.inr rfl)
    (.inr rfl) (.inr ⟨rfl, rfl⟩) rfl rfl rfl rfl rfl rfl rfl rfl

theorem Within.be {m : Nat} {s x : State} (h : Within m s x) (v : BeSt) (hm : m.testBit 12 = true) :
    Within m s { x with be := v } :=
  h.typed _ _ _ _ _ _ _ _ _ _ _ _ _ _ _ _ _
    (.inr rfl) (.inr rfl) (.inr rfl) (.inr rfl) (.inr rfl) (.inr rfl) (.inl hm) (.inr rfl) (.inr rfl) (.inr rfl) (.inr rfl) (.inr rfl) (.inr rfl) (.inr rfl) (.inr rfl) (.inr rfl) (.inr rfl)
    (.inr rfl) (.inr ⟨rfl, rfl⟩) rfl rfl rfl rfl rfl rfl rfl rfl

theorem Within.ref {m : Nat} {s x : State} (h : Within m s x) (v : RefSt) (hm : m.testBit 13 = true) :
    Within m s { x with ref := v } :=
  h.typed _ _ _ _ _ _ _ _ _ _ _ _ _ _ _ _ _
    (.inr rfl) (.inr rfl) (.inr rfl) (.inr rfl) (.inr rfl) (.inr rfl) (.inr rfl) (.inl hm) (.inr rfl) (.inr rfl) (.inr rfl) (.inr rfl) (.inr rfl) (.inr rfl) (.inr rfl) (.inr rfl) (.inr rfl)
    (.inr rfl) (.inr ⟨rfl, rfl⟩) rfl rfl rfl rfl rfl rfl rfl rfl

theorem Within.tly {m : Nat} {s x : State} (h : Within m s x) (v : TlySt) (hm : m.testBit 14 = true) (a1 : v.arch = x.tly.arch) (a2 : v.ck0.recs = x.tly.ck0.recs) (a3 : v.ck1.recs = x.tly.ck1.recs) :
    Within m s { x with tly := v } :=
  h.typed _ _ _ _ _ _ _ _ _ _ _ _ _ _ _ _ _
    (.inr rfl) (.inr rfl) (.inr rfl) (.inr rfl) (.inr rfl) (.inr rfl) (.inr rfl) (.inr rfl) (.inl hm) (.inr rfl) (.inr rfl) (.inr rfl) (.inr rfl) (.inr rfl) (.inr rfl) (.inr rfl) (.inr rfl)
    (.inr rfl) (.inr ⟨rfl, rfl⟩) a1 a2 a3 rfl rfl rfl rfl rfl

theorem Within.cg {m : Nat} {s x : State} (h : Within m s x) (v : CgSt) (hm : m.testBit 15 = true) :
    Within m s { x with cg := v } :=
  h.typed _ _ _ _ _ _ _ _ _ _ _ _ _ _ _ _ _
    (.inr rfl) (.inr rfl) (.inr rfl) (.inr rfl) (.inr rfl) (.inr rfl) (.inr rfl) (.inr rfl) (.inr rfl) (.inl hm) (.inr rfl) (.inr rfl) (.inr rfl) (.inr rfl) (.inr rfl) (.inr rfl) (.inr rfl)
    (.inr rfl) (.inr ⟨rfl, rfl⟩) rfl rfl rfl rfl rfl rfl rfl rfl

theorem Within.net {m : Nat} {s x : State} (h : Within m s x) (v : NetSt) (hm : m.testBit 16 = true) (a8 : v.sent = x.net.sent) :
    Within m s { x with net := v } :=
  h.typed _ _ _ _ _ _ _ _ _ _ _ _ _ _ _ _ _
    (.inr rfl) (.inr rfl) (.inr rfl) (.inr rfl) (.inr rfl) (.inr rfl) (.inr rfl) (.inr rfl) (.inr rfl) (.inr rfl) (.inl hm) (.inr rfl) (.inr rfl) (.inr rfl) (.inr rfl) (.inr rfl) (.inr rfl)
    (.inr rfl) (.inr ⟨rfl, rfl⟩) rfl rfl rfl rfl rfl rfl rfl a8

theorem Within.wb {m : Nat} {s x : State} (h : Within m s x) (v : WbSt) (hm : m.testBit 17 = true) :
    Within m s { x with wb := v } :=
  h.typed _ _ _ _ _ _ _ _ _ _ _ _ _ _ _ _ _
    (.inr rfl) (.inr rfl) (.inr rfl) (.inr rfl) (.inr rfl) (.inr rfl) (.inr rfl) (.inr rfl) (.inr rfl) (.inr rfl) (.inr rfl) (.inl hm) (.inr rfl) (.inr rfl) (.inr rfl) (.inr rfl) (.inr rfl)
    (.inr rfl) (.inr ⟨rfl, rfl⟩) rfl rfl rfl rfl rfl rfl rfl rfl

theorem Within.lmu {m : Nat} {s x : State} (h : Within m s x) (v : LmuSt) (hm : m.testBit 18 = true) :
    Within m s { x with lmu := v } :=
  h.typed _ _ _ _ _ _ _ _ _ _ _ _ _ _ _ _ _
    (.inr rfl) (.inr rfl) (.inr rfl) (.inr rfl) (.inr rfl) (.inr rfl) (.inr rfl) (.inr rfl) (.inr rfl) (.inr rfl) (.inr rfl) (.inr rfl) (.inl hm) (.inr rfl) (.inr rfl) (.inr rfl) (.inr rfl)
    (.inr rfl) (.inr ⟨rfl, rfl⟩) rfl rfl rfl rfl rfl rfl rfl rfl

theorem Within.sbu {m : Nat} {s x : State} (h : Within m s x) (v : SbuSt) (hm : m.testBit 19 = true) :
    Within m s { x with sbu := v } :=
  h.typed _ _ _ _ _ _ _ _ _ _ _ _ _ _ _ _ _
    (.inr rfl) (.inr rfl) (.inr rfl) (.inr rfl) (.inr rfl) (.inr rfl) (.inr rfl) (.inr rfl) (.inr rfl) (.inr rfl) (.inr rfl) (.inr rfl) (.inr rfl) (.inl hm) (.inr rfl) (.inr rfl) (.inr rfl)
    (.inr rfl) (.inr ⟨rfl, rfl⟩) rfl rfl rfl rfl rfl rfl rfl rfl

theorem Within.twn {m : Nat} {s x : State} (h : Within m s x) (v : TwnSt) (hm : m.testBit 20 = true) :
    Within m s { x with twn := v } :=
  h.typed _ _ _ _ _ _ _ _ _ _ _ _ _ _ _ _ _
    (.inr rfl) (.inr rfl) (.inr rfl) (.inr rfl) (.inr rfl) (.inr rfl) (.inr rfl) (.inr rfl) (.inr rfl) (.inr rfl) (.inr rfl) (.inr rfl) (.inr rfl) (.inr rfl) (.inl hm) (.inr rfl) (.inr rfl)
    (.inr rfl) (.inr ⟨rfl, rfl⟩) rfl rfl rfl rfl rfl rfl rfl rfl

theorem Within.rcp {m : Nat} {s x : State} (h : Within m s x) (v : RcpSt) (hm : m.testBit 21 = true) :
    Within m s { x with rcp := v } :=
  h.typed _ _ _ _ _ _ _ _ _ _ _ _ _ _ _ _ _
    (.inr rfl) (.inr rfl) (.inr rfl) (.inr rfl) (.inr rfl) (.inr rfl) (.inr rfl) (.inr rfl) (.inr rfl) (.inr rfl) (.inr rfl) (.inr rfl) (.inr rfl) (.inr rfl) (.inr rfl) (.inl hm) (.inr rfl)
    (.inr rfl) (.inr ⟨rfl, rfl⟩) rfl rfl rfl rfl rfl rfl rfl rfl

theorem Within.clk {m : Nat} {s x : State} (h : Within m s x) (v : ClkSt) (hm : m.testBit 22 = true) :
    Within m s { x with clk := v } :=
  h.typed _ _ _ _ _ _ _ _ _ _ _ _ _ _ _ _ _
    (.inr rfl) (.inr rfl) (.inr rfl) (.inr rfl) (.inr rfl) (.inr rfl) (.inr rfl) (.inr rfl) (.inr rfl) (.inr rfl) (.inr rfl) (.inr rfl) (.inr rfl) (.inr rfl) (.inr rfl) (.inr rfl) (.inl hm)
    (.inr rfl) (.inr ⟨rfl, rfl⟩) rfl rfl rfl rfl rfl rfl rfl rfl

/-- The part takes a new value whose stores are canonical. -/
theorem Within.hst' {m : Nat} {s x : State} (h : Within m s x) (v : HstSt) (hm : m.testBit 9 = true)
    (hc : StoresCanonical x → InnerCanonical x.tly v x.net) : Within m s { x with hst := v } :=
  h.typed' _ _ _ _ _ _ _ _ _ _ _ _ _ _ _ _ _
    (.inr rfl) (.inr rfl) (.inr rfl) (.inl hm) (.inr rfl) (.inr rfl) (.inr rfl) (.inr rfl) (.inr rfl) (.inr rfl) (.inr rfl) (.inr rfl) (.inr rfl) (.inr rfl) (.inr rfl) (.inr rfl) (.inr rfl)
    (.inr rfl) (.inr ⟨rfl, rfl⟩) hc

/-- The part takes a new value whose stores are canonical. -/
theorem Within.tly' {m : Nat} {s x : State} (h : Within m s x) (v : TlySt) (hm : m.testBit 14 = true)
    (hc : StoresCanonical x → InnerCanonical v x.hst x.net) : Within m s { x with tly := v } :=
  h.typed' _ _ _ _ _ _ _ _ _ _ _ _ _ _ _ _ _
    (.inr rfl) (.inr rfl) (.inr rfl) (.inr rfl) (.inr rfl) (.inr rfl) (.inr rfl) (.inr rfl) (.inl hm) (.inr rfl) (.inr rfl) (.inr rfl) (.inr rfl) (.inr rfl) (.inr rfl) (.inr rfl) (.inr rfl)
    (.inr rfl) (.inr ⟨rfl, rfl⟩) hc

/-- The part takes a new value whose stores are canonical. -/
theorem Within.net' {m : Nat} {s x : State} (h : Within m s x) (v : NetSt) (hm : m.testBit 16 = true)
    (hc : StoresCanonical x → InnerCanonical x.tly x.hst v) : Within m s { x with net := v } :=
  h.typed' _ _ _ _ _ _ _ _ _ _ _ _ _ _ _ _ _
    (.inr rfl) (.inr rfl) (.inr rfl) (.inr rfl) (.inr rfl) (.inr rfl) (.inr rfl) (.inr rfl) (.inr rfl) (.inr rfl) (.inl hm) (.inr rfl) (.inr rfl) (.inr rfl) (.inr rfl) (.inr rfl) (.inr rfl)
    (.inr rfl) (.inr ⟨rfl, rfl⟩) hc

/-- The untyped parts take new values that are canonical. -/
theorem Within.stores {m : Nat} {s x : State} (h : Within m s x) (regs shadow samp capt latch : Sparse) (cellar : Memory)
    (h0 : m.testBit 0 = true ∨ regs = x.regs) (h1 : m.testBit 1 = true ∨ shadow = x.shadow)
    (h2 : m.testBit 2 = true ∨ samp = x.samp) (h3 : m.testBit 3 = true ∨ capt = x.capt)
    (h4 : m.testBit 4 = true ∨ latch = x.latch) (h5 : m.testBit 5 = true ∨ cellar = x.cellar)
    (hc : StoresCanonical x → regs.wf = true ∧ shadow.wf = true ∧ samp.wf = true ∧ capt.wf = true ∧ latch.wf = true ∧
      cellar.wf = true) :
    Within m s { x with regs := regs, shadow := shadow, samp := samp, capt := capt, latch := latch, cellar := cellar } := by
  refine ⟨h.queue, fun c => ?_, h.out, h.free, fun i hi => ?_⟩
  · have d := h.canon c
    obtain ⟨a, b, c, e, f, g⟩ := hc d
    exact ⟨a, b, c, e, f, g, d.inner⟩
  · have p := h.parts i hi
    unfold SamePart at p ⊢
    split at p <;> simp_all

/-- The Cellar takes new contents that are canonical. -/
theorem Within.cellar {m : Nat} {s x : State} (h : Within m s x) (v : Memory) (hm : m.testBit 5 = true)
    (hc : StoresCanonical x → v.wf = true) : Within m s { x with cellar := v } :=
  h.stores x.regs x.shadow x.samp x.capt x.latch v (.inr rfl) (.inr rfl) (.inr rfl) (.inr rfl) (.inr rfl) (.inl hm)
    fun c => ⟨c.regs, c.shadow, c.samp, c.capt, c.latch, hc c⟩

/-- The register file takes new contents that are canonical. -/
theorem Within.regs {m : Nat} {s x : State} (h : Within m s x) (v : Sparse) (hm : m.testBit 0 = true)
    (hc : StoresCanonical x → v.wf = true) : Within m s { x with regs := v } :=
  h.stores v x.shadow x.samp x.capt x.latch x.cellar (.inl hm) (.inr rfl) (.inr rfl) (.inr rfl) (.inr rfl) (.inr rfl)
    fun c => ⟨hc c, c.shadow, c.samp, c.capt, c.latch, c.cellar⟩

/-- The sampled register file takes new contents that are canonical. -/
theorem Within.samp {m : Nat} {s x : State} (h : Within m s x) (v : Sparse) (hm : m.testBit 2 = true)
    (hc : StoresCanonical x → v.wf = true) : Within m s { x with samp := v } :=
  h.stores x.regs x.shadow v x.capt x.latch x.cellar (.inr rfl) (.inr rfl) (.inl hm) (.inr rfl) (.inr rfl) (.inr rfl)
    fun c => ⟨c.regs, c.shadow, hc c, c.capt, c.latch, c.cellar⟩

/-- The captures take new contents that are canonical. -/
theorem Within.capt {m : Nat} {s x : State} (h : Within m s x) (v : Sparse) (hm : m.testBit 3 = true)
    (hc : StoresCanonical x → v.wf = true) : Within m s { x with capt := v } :=
  h.stores x.regs x.shadow x.samp v x.latch x.cellar (.inr rfl) (.inr rfl) (.inr rfl) (.inl hm) (.inr rfl) (.inr rfl)
    fun c => ⟨c.regs, c.shadow, c.samp, hc c, c.latch, c.cellar⟩

/-- The _HI latches take new contents that are canonical. -/
theorem Within.latch {m : Nat} {s x : State} (h : Within m s x) (v : Sparse) (hm : m.testBit 4 = true)
    (hc : StoresCanonical x → v.wf = true) : Within m s { x with latch := v } :=
  h.stores x.regs x.shadow x.samp x.capt v x.cellar (.inr rfl) (.inr rfl) (.inr rfl) (.inr rfl) (.inl hm) (.inr rfl)
    fun c => ⟨c.regs, c.shadow, c.samp, c.capt, hc c, c.cellar⟩

/-- A loop of writes keeps a sparse store canonical. -/
theorem wf_foldl {α : Type} {l : List α} {f : Sparse → α → Sparse} {m : Sparse} (h : m.wf = true)
    (hf : ∀ m a, m.wf = true → (f m a).wf = true) : (l.foldl f m).wf = true := by
  induction l generalizing m with
  | nil => exact h
  | cons a l ih => exact ih (hf m a h)

/-- A loop over a state beside a value. -/
theorem Within.foldlFst {α β : Type} {m : Nat} {s : State} {x : State × β} {l : List α} {f : State × β → α → State × β}
    (h : Within m s x.1) (hf : ∀ a y, Within m s y.1 → Within m s (f y a).1) : Within m s (l.foldl f x).1 := by
  induction l generalizing x with
  | nil => exact h
  | cons a l ih => exact ih (hf a x h)

/-- A loop over a value beside a state. -/
theorem Within.foldlSnd {α β : Type} {m : Nat} {s : State} {x : β × State} {l : List α} {f : β × State → α → β × State}
    (h : Within m s x.2) (hf : ∀ a y, Within m s y.2 → Within m s (f y a).2) : Within m s (l.foldl f x).2 := by
  induction l generalizing x with
  | nil => exact h
  | cons a l ih => exact ih (hf a x h)

end Sys2Proof
end

