-- ==== Sys2Proof/Laws/WithinOps.lean ====
section
/-! SUPPORT. The footprints of the operations of `Sys2Proof/Machine/Ops.lean`. -/

namespace Sys2Proof.Machine

theorem State.wr_within (s : State) (f : Fld) (v : Nat) : Within 1 s (s.wr f v) :=
  (Within.refl 1 s).stores _ s.shadow s.samp s.capt s.latch s.cellar (.inl rfl) (.inr rfl) (.inr rfl) (.inr rfl) (.inr rfl) (.inr rfl)
    fun c => ⟨Sparse.set_wf _ _ _ c.regs, c.shadow, c.samp, c.capt, c.latch, c.cellar⟩

theorem State.put_within (s : State) (f : Fld) (b : Bool) : Within 1 s (State.put s f b) := by
  delta State.put
  exact Within.mono (State.wr_within ..) rfl

theorem State.wrs_within (s : State) (l : List (Fld × Nat)) : Within 1 s (State.wrs s l) := by
  delta State.wrs
  refine Within.foldl ?_ fun a0 y1 h2 => ?_
  · exact Within.refl _ _
  · refine Within.step ?_ (State.wr_within ..) rfl
    assumption

theorem State.inc_within (s : State) (f : Fld) (n : Nat) : Within 1 s (State.inc s f n) := by
  delta State.inc
  exact Within.mono (State.wr_within ..) rfl

theorem State.count_within (s : State) (f : Fld) : Within 1 s (State.count s f) := by
  delta State.count
  exact Within.mono (State.wr_within ..) rfl

theorem State.putBit_within (s : State) (f : Fld) (i : Nat) (b : Bool) : Within 1 s (State.putBit s f i b) := by
  delta State.putBit
  exact Within.mono (State.wr_within ..) rfl

theorem State.wr64_within (s : State) (lo hi : Fld) (v : Nat) : Within 1 s (State.wr64 s lo hi v) := by
  delta State.wr64
  refine Within.step ?_ (State.wr_within ..) rfl
  exact Within.mono (State.wr_within ..) rfl

theorem State.wrShadow_within (s : State) (f : Fld) (v : Nat) : Within 2 s (s.wrShadow f v) :=
  (Within.refl 2 s).stores s.regs _ s.samp s.capt s.latch s.cellar (.inr rfl) (.inl rfl) (.inr rfl) (.inr rfl) (.inr rfl) (.inr rfl)
    fun c => ⟨c.regs, Sparse.set_wf _ _ _ c.shadow, c.samp, c.capt, c.latch, c.cellar⟩

theorem State.capture_within (s : State) (f : Fld) : Within 8 s (s.capture f) :=
  (Within.refl 8 s).stores s.regs s.shadow s.samp _ s.latch s.cellar (.inr rfl) (.inr rfl) (.inr rfl) (.inl rfl) (.inr rfl) (.inr rfl)
    fun c => ⟨c.regs, c.shadow, c.samp, Sparse.set_wf _ _ _ c.capt, c.latch, c.cellar⟩

theorem State.applyCapt_within (s : State) (fs : List Fld) : Within 1 s (State.applyCapt s fs) := by
  delta State.applyCapt
  refine Within.foldl ?_ fun a0 y1 h2 => ?_
  · exact Within.refl _ _
  · refine Within.step ?_ (State.wr_within ..) rfl
    assumption

theorem State.setLn_within (s : State) (l : Nat) (f : LaneSt → LaneSt) : Within 1024 s (State.setLn s l f) := by
  delta State.setLn
  lift_lets
  intro n0
  refine Within.cl ?_ _ rfl
  exact Within.refl _ _

theorem State.mapCells_within (s : State) (p : CellSt → Bool) (f : CellSt → CellSt) : Within 4096 s (State.mapCells s p f) := by
  delta State.mapCells
  lift_lets
  intro n0
  refine Within.be ?_ _ rfl
  exact Within.refl _ _

theorem State.setArm_within (s : State) (n : Nat) (f : ArmSt → ArmSt) : Within 4096 s (State.setArm s n f) := by
  delta State.setArm
  lift_lets
  intro n0
  refine Within.be ?_ _ rfl
  exact Within.refl _ _

theorem State.emit_within (s : State) (o : Output) : Within 8388608 s (s.emit o) := by
  refine ⟨rfl, fun c => ⟨c.regs, c.shadow, c.samp, c.capt, c.latch, c.cellar, c.inner⟩, ⟨[o], rfl⟩, Nat.le_refl _, fun i hi => ?_⟩
  unfold SamePart; split <;> first | rfl | exact ⟨rfl, rfl⟩ | trivial

theorem State.free_within (s : State) (w : Nat) : Within 16777216 s (s.free w).2 := by
  refine ⟨rfl, fun c => ⟨c.regs, c.shadow, c.samp, c.capt, c.latch, c.cellar, c.inner⟩, List.prefix_refl _, Nat.le_succ _, fun i hi => ?_⟩
  unfold SamePart; split <;> first | rfl | exact ⟨rfl, rfl⟩ | trivial


theorem State.addItem_within (s : State) (at_ kind : Nat) (vals : List Nat) : Within 1048576 s (State.addItem s at_ kind vals) := by
  delta State.addItem
  lift_lets
  intro n0
  refine Within.twn ?_ _ rfl
  exact Within.refl _ _

theorem State.log_within (s : State) (cls code : Nat) (data : List Byte) : Within 288 s (s.log cls code data) :=
  ((Within.refl 288 s).stores s.regs s.shadow s.samp s.capt s.latch _ (.inr rfl) (.inr rfl) (.inr rfl) (.inr rfl) (.inr rfl)
    (.inl rfl) fun c => ⟨c.regs, c.shadow, c.samp, c.capt, c.latch, Memory.writeBytes_wf _ _ _ c.cellar⟩).fc _ rfl

theorem State.logState_within (s : State) (new prev : Nat) : Within 288 s (State.logState s new prev) := by
  delta State.logState
  exact Within.mono (State.log_within ..) rfl

theorem State.logCommand_within (s : State) (code hold : Nat) : Within 288 s (State.logCommand s code hold) := by
  delta State.logCommand
  exact Within.mono (State.log_within ..) rfl

theorem State.signalPf_within (s : State) (fn v : Nat) : Within 8389120 s (s.signalPf fn v) := by
  unfold State.signalPf
  split
  · exact Within.refl _ _
  · split
    · exact Within.mono (State.emit_within ..) rfl
    · exact (Within.refl 8389120 s).hst' _ rfl fun c => ⟨c.inner.arch, c.inner.ck0, c.inner.ck1, c.inner.vecMask, Sparse.set_wf _ _ _ c.inner.pba, c.inner.vecTab,
        c.inner.cfg, c.inner.sent⟩

theorem State.event_within (s : State) (e : Nat) : Within 8389121 s (s.event e) := by
  unfold State.event
  refine Within.foldl (Within.refl _ _) fun b y h => ?_
  dsimp only
  split
  · split
    · exact Within.step (Within.step h (State.putBit_within ..) rfl) (State.emit_within ..) rfl
    · exact Within.step (Within.step h (State.putBit_within ..) rfl) (State.signalPf_within ..) rfl
  · exact Within.step h (State.putBit_within ..) rfl

theorem State.relay_within (s : State) (type : Nat) (payload : List Byte) : Within 8388608 s (State.relay s type payload) := by
  delta State.relay
  refine Within.ite ?_ ?_
  · exact Within.mono (State.emit_within ..) rfl
  · exact Within.refl _ _

theorem State.carry_within (s : State) (kind : Nat) (payload : List Byte) : Within 8388608 s (State.carry s kind payload) := by
  delta State.carry
  refine Within.ite ?_ ?_
  · exact Within.mono (State.relay_within ..) rfl
  · exact Within.refl _ _

theorem State.werr_within (s : State) (f : Fld) (m : Master) : Within 1 s (State.werr s f m) := by
  delta State.werr
  refine Within.step ?_ (State.wr_within ..) rfl
  exact Within.mono (State.wr_within ..) rfl

end Sys2Proof.Machine
end

