-- ==== Sys2Proof/Laws/WithinReactions.lean ====
section
/-! SUPPORT. The footprints of the operations of `Sys2Proof/Machine/Reactions.lean`. -/

namespace Sys2Proof.Machine

theorem ledgerState_within (n : Nat) (s : State) : Within 8389409 s (ledgerState n s) := by
  delta ledgerState
  refine Within.step ?_ (State.event_within ..) rfl
  refine Within.step ?_ (State.log_within ..) rfl
  exact Within.mono (State.wr_within ..) rfl

theorem ledgerTake_within (kt src : Nat) (s : State) : Within 8389409 s (ledgerTake kt src s) := by
  delta ledgerTake
  lift_lets
  intro n0 n1 n2 y3
  have h4 : Within 8389409 s y3 := by
    subst y3
    exact Within.mono (State.wrs_within ..) rfl
  clear_value y3
  intro y5
  have h6 : Within 8389409 s y5 := by
    subst y5
    refine Within.ite ?_ ?_
    · refine Within.step ?_ (State.wr64_within ..) rfl
      assumption
    · assumption
  clear_value y5
  refine Within.step ?_ (ledgerState_within ..) rfl
  assumption

theorem ledgerFire_within (b : Nat) (s : State) : Within 8405793 s (ledgerFire b s) := by
  delta ledgerFire
  refine Within.ite ?_ ?_
  · exact Within.refl _ _
  · lift_lets
    intro n0 y1
    have h2 : Within 8405793 s y1 := by
      subst y1
      refine Within.tly ?_ _ rfl (by split <;> rfl) (by split <;> rfl) (by split <;> rfl)
      exact Within.refl _ _
    clear_value y1
    intro n3 n4 y5
    have h6 : Within 8405793 s y5 := by
      subst y5
      refine Within.step ?_ (ledgerTake_within ..) rfl
      assumption
    clear_value y5
    refine Within.ite ?_ ?_
    · refine Within.ite ?_ ?_
      · refine Within.step ?_ (State.relay_within ..) rfl
        assumption
      · assumption
    · refine Within.ite ?_ ?_
      · refine Within.step ?_ (State.putBit_within ..) rfl
        assumption
      · refine Within.ite ?_ ?_
        · refine Within.step ?_ (State.inc_within ..) rfl
          assumption
        · assumption

theorem lanternJudge_within (s : State) : Within 8406945 s (lanternJudge s) := by
  delta lanternJudge
  lift_lets
  intro n0 n1 n2 n3 n4
  refine Within.step ?_ (State.put_within ..) rfl
  refine Within.step ?_ (State.put_within ..) rfl
  refine Within.step ?_ (State.put_within ..) rfl
  refine Within.step ?_ (State.put_within ..) rfl
  exact Within.mono (State.put_within ..) rfl

theorem applyState_within (new step : Nat) (s : State) : Within 8406945 s (applyState new step s) := by
  delta applyState
  lift_lets
  intro n0 y1
  have h2 : Within 8406945 s y1 := by
    subst y1
    exact Within.mono (State.wrs_within ..) rfl
  clear_value y1
  intro y3
  have h4 : Within 8406945 s y3 := by
    subst y3
    refine Within.step ?_ (State.wr64_within ..) rfl
    assumption
  clear_value y3
  intro y5
  have h6 : Within 8406945 s y5 := by
    subst y5
    refine Within.step ?_ (State.event_within ..) rfl
    refine Within.step ?_ (State.logState_within ..) rfl
    assumption
  clear_value y5
  intro y7
  have h8 : Within 8406945 s y7 := by
    subst y7
    refine Within.ite ?_ ?_
    · refine Within.step ?_ (ledgerFire_within ..) rfl
      assumption
    · assumption
  clear_value y7
  refine Within.step ?_ (lanternJudge_within ..) rfl
  assumption

theorem changeState_within (new step : Nat) (s : State) : Within 8406945 s (changeState new step s) := by
  delta changeState
  refine Within.ite ?_ ?_
  · lift_lets
    intro n0
    refine Within.glb ?_ _ rfl (.inr ⟨rfl, rfl⟩)
    exact Within.refl _ _
  · lift_lets
    intro n1
    refine Within.step ?_ (applyState_within ..) rfl
    refine Within.glb ?_ _ rfl (.inr ⟨rfl, rfl⟩)
    exact Within.refl _ _

theorem setStep_within (step : Nat) (s : State) : Within 1 s (setStep step s) := by
  delta setStep
  exact Within.mono (State.wr_within ..) rfl

theorem sendK283_within (l : Nat) (s : State) : Within 8389633 s (sendK283 l s) := by
  delta sendK283
  lift_lets
  intro y0
  have h1 : Within 8389633 s y0 := by
    subst y0
    refine Within.ite ?_ ?_
    · refine Within.step ?_ (State.emit_within ..) rfl
      exact Within.mono (State.wr_within ..) rfl
    · exact Within.refl _ _
  clear_value y0
  intro n2
  refine Within.step ?_ (State.emit_within ..) rfl
  refine Within.cl ?_ _ rfl
  assumption

theorem urgentBlock_within (mask : Nat) (s : State) : Within 8406945 s (urgentBlock mask s) := by
  delta urgentBlock
  lift_lets
  intro n0 y1
  have h2 : Within 8406945 s y1 := by
    subst y1
    refine Within.forAll ?_ fun a3 y4 h5 => ?_
    · exact Within.refl _ _
    · refine Within.step ?_ (sendK283_within ..) rfl
      assumption
  clear_value y1
  intro n6 y7
  have h8 : Within 8406945 s y7 := by
    subst y7
    refine Within.glb ?_ _ rfl (.inr ⟨rfl, rfl⟩)
    assumption
  clear_value y7
  intro y9
  have h10 : Within 8406945 s y9 := by
    subst y9
    refine Within.ite ?_ ?_
    · refine Within.step ?_ (State.relay_within ..) rfl
      assumption
    · assumption
  clear_value y9
  refine Within.step ?_ (ledgerFire_within ..) rfl
  assumption

theorem supersede_within (s : State) : Within 129 s (supersede s) := by
  delta supersede
  refine Within.ite ?_ ?_
  · lift_lets
    intro n0 y1
    have h2 : Within 129 s y1 := by
      subst y1
      refine Within.glb ?_ _ rfl (.inr ⟨rfl, rfl⟩)
      exact Within.refl _ _
    refine Within.ite ?_ ?_
    · refine Within.step ?_ (State.wr_within ..) rfl
      assumption
    · assumption
  · exact Within.refl _ _

theorem endOrderly_within (s : State) : Within 128 s (endOrderly s) := by
  delta endOrderly
  refine Within.ite ?_ ?_
  · lift_lets
    intro n0
    refine Within.glb ?_ _ rfl (.inr ⟨rfl, rfl⟩)
    exact Within.refl _ _
  · exact Within.refl _ _

theorem blockAll_within (s : State) : Within 8406945 s (blockAll s) := by
  delta blockAll
  lift_lets
  intro y0
  have h1 : Within 8406945 s y0 := by
    subst y0
    refine Within.step ?_ (endOrderly_within ..) rfl
    exact Within.mono (supersede_within ..) rfl
  clear_value y0
  intro y2
  have h3 : Within 8406945 s y2 := by
    subst y2
    refine Within.step ?_ (urgentBlock_within ..) rfl
    assumption
  clear_value y2
  refine Within.ite ?_ ?_
  · refine Within.step ?_ (changeState_within ..) rfl
    assumption
  · assumption

theorem permitWithdraw_within (s : State) : Within 128 s (permitWithdraw s) := by
  delta permitWithdraw
  lift_lets
  intro n0
  refine Within.glb ?_ _ rfl (.inr ⟨rfl, rfl⟩)
  exact Within.refl _ _

theorem logFault_within (fs sev : Nat) (real inj clear react first : Bool) (coinc : Nat) (s : State) : Within 8406945 s (logFault fs sev real inj clear react first coinc s) := by
  delta logFault
  lift_lets
  intro n0 n1 n2 n3
  refine Within.ite ?_ ?_
  · refine Within.step ?_ (State.inc_within ..) rfl
    refine Within.fc ?_ _ rfl
    exact Within.refl _ _
  · refine Within.step ?_ (State.log_within ..) rfl
    refine Within.fc ?_ _ rfl
    exact Within.refl _ _

theorem liveUpdate_within (fs : Nat) (s : State) : Within 8406945 s (liveUpdate fs s) := by
  delta liveUpdate
  lift_lets
  intro n0 y1
  have h2 : Within 8406945 s y1 := by
    subst y1
    exact Within.mono (State.putBit_within ..) rfl
  clear_value y1
  intro y3
  have h4 : Within 8406945 s y3 := by
    subst y3
    refine Within.step ?_ (State.put_within ..) rfl
    assumption
  clear_value y3
  refine Within.ite ?_ ?_
  · exact Within.refl _ _
  · refine Within.ite ?_ ?_
    · refine Within.step ?_ (logFault_within ..) rfl
      assumption
    · assumption

theorem selfFault_within (s : State) : Within 8406945 s (selfFault s) := by
  delta selfFault
  lift_lets
  intro y0
  have h1 : Within 8406945 s y0 := by
    subst y0
    refine Within.step ?_ (State.wr_within ..) rfl
    exact Within.mono (State.wr_within ..) rfl
  clear_value y0
  intro y2
  have h3 : Within 8406945 s y2 := by
    subst y2
    refine Within.step ?_ (permitWithdraw_within ..) rfl
    refine Within.step ?_ (blockAll_within ..) rfl
    assumption
  clear_value y2
  intro y4
  have h5 : Within 8406945 s y4 := by
    subst y4
    refine Within.ite ?_ ?_
    · assumption
    · refine Within.step ?_ (changeState_within ..) rfl
      assumption
  clear_value y4
  refine Within.step ?_ (lanternJudge_within ..) rfl
  assumption

theorem latchFlags_within (lo sev : Nat) (s : State) : Within 1 s (latchFlags lo sev s) := by
  delta latchFlags
  lift_lets
  intro y0
  have h1 : Within 1 s y0 := by
    subst y0
    refine Within.ite ?_ ?_
    · exact Within.mono (State.wr_within ..) rfl
    · exact Within.refl _ _
  clear_value y0
  intro y2
  have h3 : Within 1 s y2 := by
    subst y2
    refine Within.ite ?_ ?_
    · refine Within.step ?_ (State.wr_within ..) rfl
      assumption
    · assumption
  clear_value y2
  intro y4
  have h5 : Within 1 s y4 := by
    subst y4
    refine Within.ite ?_ ?_
    · refine Within.step ?_ (State.wr_within ..) rfl
      assumption
    · assumption
  clear_value y4
  refine Within.ite ?_ ?_
  · refine Within.step ?_ (State.wr_within ..) rfl
    assumption
  · assumption

theorem react_within (lo sev : Nat) (s : State) : Within 8406945 s (react lo sev s) := by
  delta react
  lift_lets
  intro y0
  have h1 : Within 8406945 s y0 := by
    subst y0
    refine Within.ite ?_ ?_
    · exact Within.mono (State.event_within ..) rfl
    · exact Within.refl _ _
  clear_value y0
  intro y2
  have h3 : Within 8406945 s y2 := by
    subst y2
    refine Within.step ?_ (latchFlags_within ..) rfl
    assumption
  clear_value y2
  intro y4
  have h5 : Within 8406945 s y4 := by
    subst y4
    refine Within.ite ?_ ?_
    · refine Within.step ?_ (State.relay_within ..) rfl
      assumption
    · assumption
  clear_value y4
  intro y6
  have h7 : Within 8406945 s y6 := by
    subst y6
    refine Within.ite ?_ ?_
    · refine Within.step ?_ (State.relay_within ..) rfl
      assumption
    · assumption
  clear_value y6
  intro y8
  have h9 : Within 8406945 s y8 := by
    subst y8
    refine Within.ite ?_ ?_
    · refine Within.step ?_ (blockAll_within ..) rfl
      assumption
    · assumption
  clear_value y8
  intro y10
  have h11 : Within 8406945 s y10 := by
    subst y10
    refine Within.ite ?_ ?_
    · refine Within.ite ?_ ?_
      · refine Within.step ?_ (permitWithdraw_within ..) rfl
        assumption
      · refine Within.step ?_ (changeState_within ..) rfl
        refine Within.step ?_ (permitWithdraw_within ..) rfl
        assumption
    · assumption
  clear_value y10
  refine Within.ite ?_ ?_
  · assumption
  · refine Within.ite ?_ ?_
    · refine Within.step ?_ (State.wr_within ..) rfl
      assumption
    · refine Within.step ?_ (lanternJudge_within ..) rfl
      assumption

theorem captureFirst_within (fs sev : Nat) (inj : Bool) (coinc : Nat) (s : State) : Within 1 s (captureFirst fs sev inj coinc s) := by
  delta captureFirst
  lift_lets
  intro y0
  have h1 : Within 1 s y0 := by
    subst y0
    exact Within.mono (State.wrs_within ..) rfl
  clear_value y0
  refine Within.step ?_ (State.wr64_within ..) rfl
  assumption

theorem raiseOne_within (fs sev : Nat) (real inj first : Bool) (coinc : Nat) (s : State) : Within 9455521 s (raiseOne fs sev real inj first coinc s) := by
  delta raiseOne
  lift_lets
  intro n0 n1 y2
  have h3 : Within 9455521 s y2 := by
    subst y2
    exact Within.mono (State.putBit_within ..) rfl
  clear_value y2
  intro y4
  have h5 : Within 9455521 s y4 := by
    subst y4
    refine Within.ite ?_ ?_
    · refine Within.step ?_ (State.putBit_within ..) rfl
      assumption
    · assumption
  clear_value y4
  intro y6
  have h7 : Within 9455521 s y6 := by
    subst y6
    refine Within.ite ?_ ?_
    · refine Within.step ?_ (State.putBit_within ..) rfl
      assumption
    · assumption
  clear_value y6
  intro y8
  have h9 : Within 9455521 s y8 := by
    subst y8
    refine Within.step ?_ (State.inc_within ..) rfl
    assumption
  clear_value y8
  intro n10 y11
  have h12 : Within 9455521 s y11 := by
    subst y11
    refine Within.ite ?_ ?_
    · refine Within.twn ?_ _ rfl
      assumption
    · assumption
  clear_value y11
  intro n13 y14
  have h15 : Within 9455521 s y14 := by
    subst y14
    refine Within.ite ?_ ?_
    · assumption
    · refine Within.ite ?_ ?_
      · refine Within.step ?_ (selfFault_within ..) rfl
        assumption
      · refine Within.step ?_ (react_within ..) rfl
        assumption
  clear_value y14
  intro y16
  have h17 : Within 9455521 s y16 := by
    subst y16
    refine Within.ite ?_ ?_
    · refine Within.step ?_ (ledgerFire_within ..) rfl
      assumption
    · assumption
  clear_value y16
  intro y18
  have h19 : Within 9455521 s y18 := by
    subst y18
    refine Within.ite ?_ ?_
    · refine Within.step ?_ (ledgerFire_within ..) rfl
      assumption
    · assumption
  clear_value y18
  refine Within.step ?_ (logFault_within ..) rfl
  assumption

theorem raiseSlot_within (l : List (Nat × Bool × Bool)) (s : State) : Within 9455521 s (raiseSlot l s) := by
  delta raiseSlot
  lift_lets
  intro n0 n1 n2 y3
  have h4 : Within 9455521 s y3 := by
    subst y3
    subst n2
    split
    · exact Within.mono (captureFirst_within ..) rfl
    · exact Within.mono (State.wr_within ..) rfl
  clear_value y3
  refine Within.foldl ?_ fun a5 y6 h7 => ?_
  · assumption
  · refine Within.step ?_ (raiseOne_within ..) rfl
    assumption

theorem readyJudge_within (s : State) : Within 9455521 s (readyJudge s) := by
  delta readyJudge
  lift_lets
  intro n0 y1
  have h2 : Within 9455521 s y1 := by
    subst y1
    exact Within.mono (State.putBit_within ..) rfl
  clear_value y1
  intro y3
  have h4 : Within 9455521 s y3 := by
    subst y3
    refine Within.step ?_ (State.wr_within ..) rfl
    assumption
  clear_value y3
  intro n5 n6 n7 y8
  have h9 : Within 9455521 s y8 := by
    subst y8
    refine Within.step ?_ (State.put_within ..) rfl
    assumption
  clear_value y8
  intro y10
  have h11 : Within 9455521 s y10 := by
    subst y10
    refine Within.step ?_ (State.event_within ..) rfl
    refine Within.step ?_ (State.event_within ..) rfl
    assumption
  clear_value y10
  intro n12 y13
  have h14 : Within 9455521 s y13 := by
    subst y13
    refine Within.step ?_ (liveUpdate_within ..) rfl
    refine Within.fc ?_ _ rfl
    assumption
  clear_value y13
  intro n15
  refine Within.ite ?_ ?_
  · refine Within.ite ?_ ?_
    · refine Within.step ?_ (liveUpdate_within ..) rfl
      refine Within.fc ?_ _ rfl
      assumption
    · assumption
  · refine Within.ite ?_ ?_
    · refine Within.step ?_ (raiseSlot_within ..) rfl
      assumption
    · refine Within.ite ?_ ?_
      · refine Within.step ?_ (liveUpdate_within ..) rfl
        refine Within.fc ?_ _ rfl
        assumption
      · assumption

theorem raise_within (fs : Nat) (s : State) : Within 9455521 s (raise fs s) := by
  delta raise
  refine Within.ite ?_ ?_
  · exact Within.refl _ _
  · refine Within.ite ?_ ?_
    · refine Within.step ?_ (readyJudge_within ..) rfl
      exact Within.mono (raiseSlot_within ..) rfl
    · refine Within.ite ?_ ?_
      · exact Within.refl _ _
      · lift_lets
        intro n0 y1
        have h2 : Within 9455521 s y1 := by
          subst y1
          refine Within.fc ?_ _ rfl
          exact Within.refl _ _
        clear_value y1
        refine Within.step ?_ (readyJudge_within ..) rfl
        refine Within.step ?_ (raiseSlot_within ..) rfl
        refine Within.step ?_ (liveUpdate_within ..) rfl
        assumption

theorem unraise_within (fs : Nat) (s : State) : Within 8406945 s (unraise fs s) := by
  delta unraise
  refine Within.ite ?_ ?_
  · lift_lets
    intro n0
    refine Within.step ?_ (liveUpdate_within ..) rfl
    refine Within.fc ?_ _ rfl
    exact Within.refl _ _
  · exact Within.refl _ _

theorem raiseEach_within (fs : Nat) (s : State) : Within 9455521 s (raiseEach fs s) := by
  delta raiseEach
  refine Within.ite ?_ ?_
  · refine Within.step ?_ (readyJudge_within ..) rfl
    exact Within.mono (raiseSlot_within ..) rfl
  · exact Within.mono (raise_within ..) rfl

theorem raiseInCycle_within (fs : Nat) (s : State) : Within 9455521 s (raiseInCycle fs s) := by
  delta raiseInCycle
  lift_lets
  intro n0
  refine Within.step ?_ (raise_within ..) rfl
  refine Within.fc ?_ _ rfl
  exact Within.refl _ _

theorem clearInCycle_within (l : List Nat) (s : State) : Within 8406945 s (clearInCycle l s) := by
  delta clearInCycle
  lift_lets
  intro n0 y1
  have h2 : Within 8406945 s y1 := by
    subst y1
    refine Within.forAll ?_ fun a3 y4 h5 => ?_
    · exact Within.refl _ _
    · refine Within.step ?_ (unraise_within ..) rfl
      assumption
  clear_value y1
  intro n6
  refine Within.fc ?_ _ rfl
  assumption

theorem condition_within (fs : Nat) (on : Bool) (s : State) : Within 9455521 s (condition fs on s) := by
  delta condition
  refine Within.ite ?_ ?_
  · exact Within.mono (raise_within ..) rfl
  · exact Within.mono (unraise_within ..) rfl

theorem violation_within (m : Master) (addr kind : Nat) (write : Bool) (s : State) : Within 9455521 s (violation m addr kind write s) := by
  delta violation
  lift_lets
  intro n0 n1 y2
  have h3 : Within 9455521 s y2 := by
    subst y2
    exact Within.mono (State.wrs_within ..) rfl
  clear_value y2
  intro y4
  have h5 : Within 9455521 s y4 := by
    subst y4
    refine Within.step ?_ (State.wr64_within ..) rfl
    assumption
  clear_value y4
  intro y6
  have h7 : Within 9455521 s y6 := by
    subst y6
    refine Within.ite ?_ ?_
    · exact Within.refl _ _
    · refine Within.step ?_ (State.inc_within ..) rfl
      refine Within.step ?_ (State.putBit_within ..) rfl
      assumption
  clear_value y6
  refine Within.step ?_ (State.event_within ..) rfl
  refine Within.step ?_ (raise_within ..) rfl
  assumption

theorem gateAccess_within (u : Nat) (s : State) : Within 1 s (gateAccess u s) := by
  delta gateAccess
  exact Within.mono (State.wrs_within ..) rfl

theorem gate_step  {m : Master} {v : View} {addr : Nat} {k : State → State} {s : State} {fm : Nat} {z : State} (hh : Within fm z s) (hk : ∀ (y : State), Within fm z y → Within fm z (k y)) (hm : 9455521 ||| fm = fm) :
    Within fm z (gate m v addr k s) := by
  delta gate
  refine Within.ite ?_ ?_
  · assumption
  · refine Within.ite ?_ ?_
    · assumption
    · split
      · refine Within.step ?_ (gateAccess_within ..) (Within.sub rfl hm)
        assumption
      · refine Within.ite ?_ ?_
        · refine Within.step ?_ (violation_within ..) (Within.sub rfl hm)
          assumption
        · refine hk _ ?_
          assumption

end Sys2Proof.Machine
end

