-- ==== Sys2Proof/Laws/WithinAccess.lean ====
section
/-! SUPPORT. The footprints of the operations of `Sys2Proof/Machine/Access.lean`. -/

namespace Sys2Proof.Machine

theorem writeField_within (base : Nat) (ix : List Nat) (f : FldSpec) (fld : Fld) (v : Nat) (s : State) : Within 3 s (writeField base ix f fld v s) := by
  delta writeField
  split
  · exact Within.mono (State.wr_within ..) rfl
  · refine Within.ite ?_ ?_
    · exact Within.refl _ _
    · exact Within.mono (State.wr_within ..) rfl
  · exact Within.mono (State.wrShadow_within ..) rfl
  · exact Within.mono (State.wr_within ..) rfl
  · exact Within.refl _ _
  · exact Within.refl _ _
  · exact Within.refl _ _

theorem writeFields_within (m : Master) (banked : Bool) (r : RegSpec) (ix : List Nat) (addr w : Nat) (s : State) : Within 3 s (writeFields m banked r ix addr w s) := by
  delta writeFields
  lift_lets
  intro n0 n1 y2
  have h3 : Within 3 s y2 := by
    subst y2
    refine Within.ite ?_ ?_
    · exact Within.mono (State.werr_within ..) rfl
    · exact Within.refl _ _
  clear_value y2
  refine Within.foldl ?_ fun a4 y5 h6 => ?_
  · assumption
  · refine Within.step ?_ (writeField_within ..) rfl
    assumption

theorem regWrite_within (m : Master) (addr w : Nat) (s : State) : Within 3 s (regWrite m addr w s) := by
  delta regWrite
  split
  · rename_i u0 u1 u2 u3
    exact Within.mono (writeFields_within ..) rfl
  · exact Within.refl _ _

end Sys2Proof.Machine
end

