-- ==== Sys2Proof/Laws/WithinReference.lean ====
section
/-! SUPPORT. The footprints of the operations of `Sys2Proof/Machine/Reference.lean`. -/

namespace Sys2Proof.Machine

theorem captureAll_within (fs : List Fld) (s : State) : Within 8 s (captureAll fs s) := by
  delta captureAll
  refine Within.foldl ?_ fun a0 y1 h2 => ?_
  · exact Within.refl _ _
  · refine Within.step ?_ (State.capture_within ..) rfl
    assumption

theorem ocommit_within (s : State) : Within 8388617 s (ocommit s) := by
  delta ocommit
  refine Within.ite ?_ ?_
  · exact Within.mono (State.wr_within ..) rfl
  · refine Within.ite ?_ ?_
    · exact Within.mono (State.wr_within ..) rfl
    · lift_lets
      intro y0
      have h1 : Within 8388617 s y0 := by
        subst y0
        exact Within.mono (captureAll_within ..) rfl
      clear_value y0
      intro n2 y3
      have h4 : Within 8388617 s y3 := by
        subst y3
        refine Within.step ?_ (State.wrs_within ..) rfl
        assumption
      clear_value y3
      refine Within.ite ?_ ?_
      · refine Within.step ?_ (State.carry_within ..) rfl
        assumption
      · assumption

theorem wcommit_within (s : State) : Within 8388617 s (wcommit s) := by
  delta wcommit
  refine Within.ite ?_ ?_
  · exact Within.mono (State.wr_within ..) rfl
  · refine Within.ite ?_ ?_
    · exact Within.mono (State.wr_within ..) rfl
    · lift_lets
      intro y0
      have h1 : Within 8388617 s y0 := by
        subst y0
        exact Within.mono (captureAll_within ..) rfl
      clear_value y0
      intro n2 y3
      have h4 : Within 8388617 s y3 := by
        subst y3
        refine Within.step ?_ (State.wrs_within ..) rfl
        assumption
      clear_value y3
      refine Within.ite ?_ ?_
      · refine Within.step ?_ (State.carry_within ..) rfl
        assumption
      · assumption

theorem ordApply_within (o : Nat) (s : State) : Within 8193 s (ordApply o s) := by
  delta ordApply
  lift_lets
  intro n0
  subst n0
  intro n1 n2 n3 n4 n5 n6 n7 n8 n9 n10 n11 n12 y13
  have h14 : Within 8193 s y13 := by
    subst y13
    exact Within.mono (State.applyCapt_within ..) rfl
  clear_value y13
  intro y15
  have h16 : Within 8193 s y15 := by
    subst y15
    refine Within.ite ?_ ?_
    · assumption
    · refine Within.step ?_ (State.wr_within ..) rfl
      refine Within.step ?_ (State.wr_within ..) rfl
      assumption
  clear_value y15
  intro n17 n18
  subst n18
  intro n19 n20 n21
  subst n21
  intro n22
  refine Within.ite ?_ ?_
  · assumption
  · refine Within.ite ?_ ?_
    · refine Within.step ?_ (State.wrs_within ..) rfl
      assumption
    · beta_reduce
      lift_lets
      intro n23
      refine Within.ref ?_ _ rfl
      assumption

theorem orderApply_within (s : State) : Within 8193 s (orderApply s) := by
  delta orderApply
  refine Within.ite ?_ ?_
  · refine Within.step ?_ (State.wr_within ..) rfl
    refine Within.forAll ?_ fun a0 y1 h2 => ?_
    · exact Within.refl _ _
    · refine Within.step ?_ (ordApply_within ..) rfl
      assumption
  · exact Within.refl _ _

theorem waveformApply_within (s : State) : Within 1 s (waveformApply s) := by
  delta waveformApply
  refine Within.ite ?_ ?_
  · refine Within.step ?_ (State.wr_within ..) rfl
    exact Within.mono (State.applyCapt_within ..) rfl
  · exact Within.refl _ _

theorem preset_within (m : Master) (mask : Nat) (s : State) : Within 9445377 s (preset m mask s) := by
  delta preset
  refine Within.ite ?_ ?_
  · exact Within.mono (State.wr_within ..) rfl
  · refine Within.ite ?_ ?_
    · exact Within.mono (State.werr_within ..) rfl
    · lift_lets
      intro y0
      have h1 : Within 9445377 s y0 := by
        subst y0
        refine Within.ite ?_ ?_
        · exact Within.mono (State.carry_within ..) rfl
        · exact Within.refl _ _
      clear_value y0
      intro n2
      refine Within.ite ?_ ?_
      · refine Within.step ?_ (State.addItem_within ..) rfl
        assumption
      · refine Within.ref ?_ _ rfl
        assumption

theorem rampUpdate_within (c o : Nat) (s : State) : Within 8397313 s (rampUpdate c o s) := by
  delta rampUpdate
  lift_lets
  intro n0
  subst n0
  intro n1 n2 n3 y4
  have h5 : Within 8397313 s y4 := by
    subst y4
    refine Within.ite ?_ ?_
    · exact Within.refl _ _
    · exact Within.mono (State.wr_within ..) rfl
  clear_value y4
  intro y6
  have h7 : Within 8397313 s y6 := by
    subst y6
    refine Within.step ?_ (State.wrs_within ..) rfl
    assumption
  clear_value y6
  intro y8
  have h9 : Within 8397313 s y8 := by
    subst y8
    refine Within.step ?_ (State.put_within ..) rfl
    assumption
  clear_value y8
  intro y10
  have h11 : Within 8397313 s y10 := by
    subst y10
    refine Within.ite ?_ ?_
    · refine Within.step ?_ (State.wr_within ..) rfl
      assumption
    · assumption
  clear_value y10
  intro y12
  have h13 : Within 8397313 s y12 := by
    subst y12
    refine Within.ite ?_ ?_
    · refine Within.step ?_ (State.wr_within ..) rfl
      assumption
    · assumption
  clear_value y12
  intro y14
  have h15 : Within 8397313 s y14 := by
    subst y14
    refine Within.ite ?_ ?_
    · beta_reduce
      lift_lets
      intro n16
      refine Within.ref ?_ _ rfl
      refine Within.step ?_ (State.wr_within ..) rfl
      assumption
    · assumption
  clear_value y14
  intro y17
  have h18 : Within 8397313 s y17 := by
    subst y17
    refine Within.step ?_ (State.wrs_within ..) rfl
    assumption
  clear_value y17
  intro n19
  refine Within.ite ?_ ?_
  · exact Within.refl _ _
  · refine Within.ite ?_ ?_
    · beta_reduce
      lift_lets
      intro n20
      refine Within.ref ?_ _ rfl
      exact Within.mono (State.wrs_within ..) rfl
    · refine Within.ite ?_ ?_
      · refine Within.step ?_ (State.event_within ..) rfl
        refine Within.ref ?_ _ rfl
        assumption
      · assumption

theorem rampsUpdate_within (c : Nat) (s : State) : Within 9445889 s (rampsUpdate c s) := by
  delta rampsUpdate
  lift_lets
  intro y0
  have h1 : Within 9445889 s y0 := by
    subst y0
    refine Within.forAll ?_ fun a2 y3 h4 => ?_
    · exact Within.refl _ _
    · refine Within.step ?_ (rampUpdate_within ..) rfl
      assumption
  clear_value y0
  intro n5
  refine Within.ref ?_ _ rfl
  assumption

theorem rampsStart_within (t : Nat) (s : State) : Within 8193 s (rampsStart t s) := by
  delta rampsStart
  lift_lets
  intro y0
  have h1 : Within 8193 s y0 := by
    subst y0
    refine Within.forAll ?_ fun a2 y3 h4 => ?_
    · exact Within.refl _ _
    · refine Within.step ?_ (State.wr64_within ..) rfl
      assumption
  clear_value y0
  intro n5 y6
  have h7 : Within 8193 s y6 := by
    subst y6
    refine Within.ref ?_ _ rfl
    assumption
  clear_value y6
  refine Within.ite ?_ ?_
  · assumption
  · refine Within.step ?_ (State.wrs_within ..) rfl
    assumption

theorem phaseStart_within (s : State) : Within 8193 s (phaseStart s) := by
  delta phaseStart
  lift_lets
  intro n0 n1 y2
  have h3 : Within 8193 s y2 := by
    subst y2
    refine Within.step ?_ (State.put_within ..) rfl
    exact Within.mono (State.wr_within ..) rfl
  clear_value y2
  intro n4
  refine Within.ref ?_ _ rfl
  assumption

theorem phaseLock_within (dph : Nat) (s : State) : Within 1 s (phaseLock dph s) := by
  delta phaseLock
  refine Within.ite ?_ ?_
  · lift_lets
    intro n0
    exact Within.mono (State.wr_within ..) rfl
  · exact Within.refl _ _

theorem levelGen_within (n : Nat) (s : State) : Within 9455521 s (levelGen n s) := by
  delta levelGen
  refine Within.ite ?_ ?_
  · exact Within.refl _ _
  · lift_lets
    intro n0 n1 y2
    have h3 : Within 9455521 s y2 := by
      subst y2
      refine Within.step ?_ (State.put_within ..) rfl
      exact Within.mono (State.wr_within ..) rfl
    clear_value y2
    intro y4
    have h5 : Within 9455521 s y4 := by
      subst y4
      refine Within.step ?_ (State.wr_within ..) rfl
      refine Within.step ?_ (State.wr_within ..) rfl
      assumption
    clear_value y4
    intro y6
    have h7 : Within 9455521 s y6 := by
      subst y6
      refine Within.step ?_ (raise_within ..) rfl
      assumption
    clear_value y6
    intro n8 y9
    have h10 : Within 9455521 s y9 := by
      subst y9
      refine Within.ite ?_ ?_
      · refine Within.step ?_ (State.wr_within ..) rfl
        assumption
      · assumption
    clear_value y9
    intro y11
    have h12 : Within 9455521 s y11 := by
      subst y11
      refine Within.ite ?_ ?_
      · refine Within.step ?_ (State.wr_within ..) rfl
        assumption
      · assumption
    clear_value y11
    intro n13 y14
    have h15 : Within 9455521 s y14 := by
      subst y14
      refine Within.step ?_ (State.wrs_within ..) rfl
      assumption
    clear_value y14
    refine Within.ite ?_ ?_
    · refine Within.ite ?_ ?_
      · refine Within.step ?_ (State.wrs_within ..) rfl
        assumption
      · assumption
    · refine Within.ite ?_ ?_
      · refine Within.step ?_ (unraise_within ..) rfl
        assumption
      · assumption

theorem refHeldLimit_within (n : Nat) (s : State) : Within 9455521 s (refHeldLimit n s) := by
  delta refHeldLimit
  refine Within.ite ?_ ?_
  · refine Within.step ?_ (raise_within ..) rfl
    exact Within.mono (State.wr_within ..) rfl
  · exact Within.refl _ _

theorem refbSwap_within (s : State) : Within 9463713 s (refbSwap s) := by
  delta refbSwap
  refine Within.ite ?_ ?_
  · lift_lets
    intro n0 y1
    have h2 : Within 9463713 s y1 := by
      subst y1
      refine Within.ref ?_ _ rfl
      exact Within.refl _ _
    clear_value y1
    refine Within.forAll ?_ fun a3 y4 h5 => ?_
    · assumption
    · lift_lets
      intro n6 y7
      have h8 : Within 9463713 s y7 := by
        subst y7
        refine Within.step ?_ (State.wrs_within ..) rfl
        assumption
      clear_value y7
      refine Within.ite ?_ ?_
      · refine Within.step ?_ (unraise_within ..) rfl
        assumption
      · assumption
  · refine Within.ite (Within.refl _ _) ?_
    refine Within.forAll ?_ fun a9 y10 h11 => ?_
    · exact Within.refl _ _
    · refine Within.step ?_ (refHeldLimit_within ..) rfl
      refine Within.step ?_ (State.inc_within ..) rfl
      refine Within.step ?_ (State.wr_within ..) rfl
      assumption

end Sys2Proof.Machine
end

