-- ==== Sys2Proof/Laws/WithinLanes.lean ====
section
/-! SUPPORT. The footprints of the operations of `Sys2Proof/Machine/Lanes.lean`. -/

namespace Sys2Proof.Machine

theorem setHop_within (l h : Nat) (f : HopSt → HopSt) (s : State) : Within 1024 s (setHop l h f s) := by
  delta setHop
  exact Within.mono (State.setLn_within ..) rfl

theorem laneJudge_within (l : Nat) (s : State) : Within 8406945 s (laneJudge l s) := by
  delta laneJudge
  refine Within.ite ?_ ?_
  · exact Within.mono (unraise_within ..) rfl
  · exact Within.refl _ _

theorem laneCause_within (l : Nat) (f : Nat → Fld) (s : State) : Within 9455521 s (laneCause l f s) := by
  delta laneCause
  refine Within.step ?_ (raise_within ..) rfl
  exact Within.mono (State.wr_within ..) rfl

theorem setLane_within (l v : Nat) (s : State) : Within 8406945 s (setLane l v s) := by
  delta setLane
  refine Within.step ?_ (laneJudge_within ..) rfl
  refine Within.step ?_ (State.putBit_within ..) rfl
  exact Within.mono (State.wr_within ..) rfl

theorem sendIdle_within (l : Nat) (s : State) : Within 8388608 s (sendIdle l s) := by
  delta sendIdle
  exact Within.mono (State.emit_within ..) rfl

theorem dropSamples_within (l : Nat) (s : State) : Within 1024 s (dropSamples l s) := by
  delta dropSamples
  exact Within.mono (State.setLn_within ..) rfl

theorem idleLane_within (l v : Nat) (s : State) : Within 9455521 s (idleLane l v s) := by
  delta idleLane
  lift_lets
  intro y0
  have h1 : Within 9455521 s y0 := by
    subst y0
    refine Within.step ?_ (dropSamples_within ..) rfl
    refine Within.step ?_ (State.wr_within ..) rfl
    exact Within.mono (sendIdle_within ..) rfl
  clear_value y0
  refine Within.step ?_ (setLane_within ..) rfl
  refine Within.step ?_ (State.setLn_within ..) rfl
  assumption

theorem sendDmreq_within (l h : Nat) (s : State) : Within 8388608 s (sendDmreq l h s) := by
  delta sendDmreq
  exact Within.mono (State.emit_within ..) rfl

theorem dlvUpdate_within (s : State) : Within 1 s (dlvUpdate s) := by
  delta dlvUpdate
  refine Within.forAll ?_ fun a0 y1 h2 => ?_
  · exact Within.refl _ _
  · lift_lets
    intro n3 n4
    refine Within.step ?_ (State.wr_within ..) rfl
    assumption

theorem ringSplit_within (l : Nat) (b : Int) (s : State) : Within 8406945 s (ringSplit l b s) := by
  delta ringSplit
  refine Within.ite ?_ ?_
  · exact Within.refl _ _
  · lift_lets
    intro n0 y1
    have h2 : Within 8406945 s y1 := by
      subst y1
      refine Within.forAll ?_ fun a3 y4 h5 => ?_
      · exact Within.refl _ _
      · refine Within.step ?_ (State.inc_within ..) rfl
        refine Within.step ?_ (State.wrs_within ..) rfl
        assumption
    clear_value y1
    intro n6 y7
    have h8 : Within 8406945 s y7 := by
      subst y7
      refine Within.step ?_ (State.setLn_within ..) rfl
      assumption
    clear_value y7
    refine Within.ite ?_ ?_
    · refine Within.step ?_ (setLane_within ..) rfl
      refine Within.step ?_ (State.emit_within ..) rfl
      assumption
    · assumption

theorem ringBreak_within (l : Nat) (s : State) : Within 8406945 s (ringBreak l s) := by
  delta ringBreak
  refine Within.ite ?_ ?_
  · exact Within.mono (ringSplit_within ..) rfl
  · exact Within.refl _ _

theorem lockLoss_within (l : Nat) (s : State) : Within 9455521 s (lockLoss l s) := by
  delta lockLoss
  lift_lets
  intro n0 y1
  have h2 : Within 9455521 s y1 := by
    subst y1
    refine Within.step ?_ (State.wr_within ..) rfl
    refine Within.step ?_ (State.inc_within ..) rfl
    exact Within.mono (State.wr_within ..) rfl
  clear_value y1
  intro y3
  have h4 : Within 9455521 s y3 := by
    subst y3
    refine Within.step ?_ (dropSamples_within ..) rfl
    refine Within.step ?_ (setLane_within ..) rfl
    refine Within.step ?_ (laneCause_within ..) rfl
    assumption
  clear_value y3
  intro y5
  have h6 : Within 9455521 s y5 := by
    subst y5
    refine Within.step ?_ (State.inc_within ..) rfl
    exact Within.mono (State.wr_within ..) rfl
  clear_value y5
  refine Within.ite ?_ ?_
  · refine Within.step ?_ (ringSplit_within ..) rfl
    assumption
  · refine Within.ite ?_ ?_
    · refine Within.step ?_ (ringSplit_within ..) rfl
      refine Within.step ?_ (idleLane_within ..) rfl
      assumption
    · refine Within.ite ?_ (Within.refl _ _)
      refine Within.step ?_ (State.inc_within ..) rfl
      exact Within.mono (State.wr_within ..) rfl

theorem idleExpired_within (l : Nat) (s : State) : Within 8406945 s (idleExpired l s) := by
  delta idleExpired
  refine Within.ite ?_ ?_
  · lift_lets
    intro y0
    have h1 : Within 8406945 s y0 := by
      subst y0
      refine Within.step ?_ (State.inc_within ..) rfl
      exact Within.mono (State.inc_within ..) rfl
    clear_value y0
    refine Within.step ?_ (setLane_within ..) rfl
    refine Within.step ?_ (State.emit_within ..) rfl
    assumption
  · exact Within.refl _ _

theorem burstSent_within (l : Nat) (s : State) : Within 8406945 s (burstSent l s) := by
  delta burstSent
  refine Within.ite ?_ ?_
  · refine Within.step ?_ (setLane_within ..) rfl
    exact Within.mono (State.emit_within ..) rfl
  · exact Within.refl _ _

theorem rxLock_within (l : Nat) (s : State) : Within 8406945 s (rxLock l s) := by
  delta rxLock
  lift_lets
  intro n0 y1
  have h2 : Within 8406945 s y1 := by
    subst y1
    exact Within.mono (State.wrs_within ..) rfl
  clear_value y1
  refine Within.ite ?_ ?_
  · refine Within.ite ?_ ?_
    · refine Within.step ?_ (setLane_within ..) rfl
      assumption
    · refine Within.ite ?_ ?_
      · refine Within.step ?_ (setLane_within ..) rfl
        refine Within.step ?_ (State.wr_within ..) rfl
        refine Within.step ?_ (dropSamples_within ..) rfl
        assumption
      · assumption
  · exact Within.refl _ _

theorem ringRejoin_within (l hops : Nat) (s : State) : Within 1025 s (ringRejoin l hops s) := by
  delta ringRejoin
  refine Within.ite ?_ ?_
  · lift_lets
    intro n0 y1
    have h2 : Within 1025 s y1 := by
      subst y1
      refine Within.step ?_ (State.wr_within ..) rfl
      exact Within.mono (State.wr_within ..) rfl
    clear_value y1
    refine Within.step ?_ (State.setLn_within ..) rfl
    refine Within.step ?_ (State.setLn_within ..) rfl
    assumption
  · exact Within.refl _ _

theorem ts2Received_within (l : Nat) (gen hops laneid chk : Byte) (s : State) : Within 9455521 s (ts2Received l gen hops laneid chk s) := by
  delta ts2Received
  lift_lets
  intro n0 y1
  have h2 : Within 9455521 s y1 := by
    subst y1
    refine Within.step ?_ (ringRejoin_within ..) rfl
    exact Within.mono (State.wr_within ..) rfl
  clear_value y1
  intro y3
  have h4 : Within 9455521 s y3 := by
    subst y3
    refine Within.ite ?_ ?_
    · assumption
    · refine Within.step ?_ (laneCause_within ..) rfl
      assumption
  clear_value y3
  intro y5
  have h6 : Within 9455521 s y5 := by
    subst y5
    refine Within.step ?_ (State.setLn_within ..) rfl
    assumption
  clear_value y5
  refine Within.ite ?_ ?_
  · refine Within.step ?_ (sendDmreq_within ..) rfl
    refine Within.step ?_ (setLane_within ..) rfl
    assumption
  · exact Within.refl _ _

theorem trainTimeout_within (l : Nat) (s : State) : Within 9455521 s (trainTimeout l s) := by
  delta trainTimeout
  refine Within.ite ?_ ?_
  · refine Within.step ?_ (idleLane_within ..) rfl
    exact Within.mono (laneCause_within ..) rfl
  · exact Within.refl _ _

theorem computeComps_within (l : Nat) (s : State) : Within 1024 s (computeComps l s) := by
  delta computeComps
  refine Within.forAll ?_ fun a0 y1 h2 => ?_
  · exact Within.refl _ _
  · split
    · refine Within.step ?_ (setHop_within ..) rfl
      assumption
    · assumption

theorem retryExpired_within (l : Nat) (s : State) : Within 8406945 s (retryExpired l s) := by
  delta retryExpired
  refine Within.ite ?_ ?_
  · exact Within.mono (setLane_within ..) rfl
  · exact Within.refl _ _

theorem rxwaitExpired_within (l : Nat) (s : State) : Within 9455521 s (rxwaitExpired l s) := by
  delta rxwaitExpired
  refine Within.ite ?_ ?_
  · refine Within.step ?_ (idleLane_within ..) rfl
    exact Within.mono (State.setLn_within ..) rfl
  · exact Within.refl _ _

theorem laneRetrain_within (l : Nat) (s : State) : Within 9455521 s (laneRetrain l s) := by
  delta laneRetrain
  refine Within.ite ?_ ?_
  · exact Within.mono (State.setLn_within ..) rfl
  · refine Within.ite ?_ ?_
    · refine Within.step ?_ (idleLane_within ..) rfl
      exact Within.mono (State.setLn_within ..) rfl
    · exact Within.refl _ _

theorem giclr_within (l : Nat) (s : State) : Within 1 s (giclr l s) := by
  delta giclr
  exact Within.mono (State.wr_within ..) rfl

theorem clCntclr_within (l : Nat) (s : State) : Within 1 s (clCntclr l s) := by
  delta clCntclr
  exact Within.mono (State.wrs_within ..) rfl

theorem hopFails_within (l h : Nat) (s : State) : Within 9455521 s (hopFails l h s) := by
  delta hopFails
  refine Within.step ?_ (laneCause_within ..) rfl
  exact Within.mono (setHop_within ..) rfl

theorem nextHop_within (l : Nat) (s : State) : Within 8389632 s (nextHop l s) := by
  delta nextHop
  lift_lets
  intro n0 y1
  have h2 : Within 8389632 s y1 := by
    subst y1
    exact Within.mono (State.setLn_within ..) rfl
  clear_value y1
  refine Within.ite ?_ ?_
  · refine Within.step ?_ (sendDmreq_within ..) rfl
    assumption
  · assumption

theorem trainFail_within (l : Nat) (s : State) : Within 9455521 s (trainFail l s) := by
  delta trainFail
  lift_lets
  intro n0 n1
  refine Within.ite ?_ ?_
  · refine Within.step ?_ (nextHop_within ..) rfl
    exact Within.mono (hopFails_within ..) rfl
  · refine Within.step ?_ (sendDmreq_within ..) rfl
    exact Within.mono (setHop_within ..) rfl

theorem trainSample_within (l rt : Nat) (s : State) : Within 9455521 s (trainSample l rt s) := by
  delta trainSample
  lift_lets
  intro n0 n1 n2 n3
  refine Within.ite ?_ ?_
  · refine Within.step ?_ (sendDmreq_within ..) rfl
    exact Within.mono (setHop_within ..) rfl
  · refine Within.ite ?_ ?_
    · refine Within.step ?_ (nextHop_within ..) rfl
      exact Within.mono (hopFails_within ..) rfl
    · refine Within.step ?_ (nextHop_within ..) rfl
      exact Within.mono (setHop_within ..) rfl

theorem deliverComp_within (l h c : Nat) (s : State) : Within 1025 s (deliverComp l h c s) := by
  delta deliverComp
  lift_lets
  intro y0
  have h1 : Within 1025 s y0 := by
    subst y0
    exact Within.mono (setHop_within ..) rfl
  clear_value y0
  intro n2
  refine Within.step ?_ (dlvUpdate_within ..) rfl
  refine Within.step ?_ (State.setLn_within ..) rfl
  assumption

theorem serviceSample_within (l h rt : Nat) (s : State) : Within 9455521 s (serviceSample l h rt s) := by
  delta serviceSample
  lift_lets
  intro n0 n1 y2
  have h3 : Within 9455521 s y2 := by
    subst y2
    exact Within.mono (setHop_within ..) rfl
  clear_value y2
  intro n4 n5 y6
  have h7 : Within 9455521 s y6 := by
    subst y6
    refine Within.ite ?_ ?_
    · refine Within.step ?_ (laneCause_within ..) rfl
      assumption
    · assumption
  clear_value y6
  refine Within.ite ?_ ?_
  · exact Within.mono (setHop_within ..) rfl
  · refine Within.ite ?_ ?_
    · refine Within.step ?_ (laneJudge_within ..) rfl
      refine Within.step ?_ (deliverComp_within ..) rfl
      assumption
    · assumption

theorem dmrspReceived_within (l : Nat) (hop tlbLo tlbHi ra chk : Byte) (rt : Nat) (s : State) : Within 9455521 s (dmrspReceived l hop tlbLo tlbHi ra chk rt s) := by
  delta dmrspReceived
  lift_lets
  intro n0 n1 n2 n3
  subst n3
  intro y4
  have h5 : Within 9455521 s y4 := by
    subst y4
    exact Within.mono (State.setLn_within ..) rfl
  clear_value y4
  refine Within.ite ?_ ?_
  · refine Within.ite ?_ ?_
    · exact Within.mono (sendDmreq_within ..) rfl
    · refine Within.ite ?_ ?_
      · refine Within.step ?_ (trainSample_within ..) rfl
        exact Within.mono (setHop_within ..) rfl
      · refine Within.step ?_ (trainFail_within ..) rfl
        exact Within.mono (State.inc_within ..) rfl
  · split
    · exact Within.refl _ _
    · refine Within.ite ?_ ?_
      · assumption
      · refine Within.ite ?_ ?_
        · refine Within.step ?_ (serviceSample_within ..) rfl
          refine Within.step ?_ (setHop_within ..) rfl
          assumption
        · refine Within.step ?_ (State.inc_within ..) rfl
          assumption

theorem dmrspTimeout_within (l : Nat) (s : State) : Within 9455521 s (dmrspTimeout l s) := by
  delta dmrspTimeout
  refine Within.ite ?_ ?_
  · refine Within.step ?_ (trainFail_within ..) rfl
    exact Within.mono (State.inc_within ..) rfl
  · split
    · exact Within.refl _ _
    · refine Within.step ?_ (State.inc_within ..) rfl
      exact Within.mono (State.setLn_within ..) rfl

theorem dmSend_within (l : Nat) (s : State) : Within 8389633 s (dmSend l s) := by
  delta dmSend
  refine Within.ite ?_ ?_
  · exact Within.refl _ _
  · lift_lets
    intro n0 n1 n2 y3
    have h4 : Within 8389633 s y3 := by
      subst y3
      exact Within.mono (State.setLn_within ..) rfl
    clear_value y3
    refine Within.ite ?_ ?_
    · refine Within.step ?_ (sendDmreq_within ..) rfl
      refine Within.step ?_ (State.wr_within ..) rfl
      assumption
    · exact Within.mono (State.inc_within ..) rfl

theorem gapEnter_within (l : Nat) (s : State) : Within 8388609 s (gapEnter l s) := by
  delta gapEnter
  split
  · exact Within.refl _ _
  · lift_lets
    intro n0
    refine Within.ite ?_ ?_
    · refine Within.step ?_ (State.wr_within ..) rfl
      exact Within.mono (sendIdle_within ..) rfl
    · exact Within.refl _ _

theorem gapExit_within (l : Nat) (s : State) : Within 9455521 s (gapExit l s) := by
  delta gapExit
  refine Within.ite ?_ ?_
  · refine Within.step ?_ (State.emit_within ..) rfl
    refine Within.step ?_ (State.setLn_within ..) rfl
    exact Within.mono (State.wr_within ..) rfl
  · exact Within.refl _ _

theorem gapCheck_within (l : Nat) (locked : Bool) (s : State) : Within 9455521 s (gapCheck l locked s) := by
  delta gapCheck
  refine Within.ite ?_ ?_
  · exact Within.refl _ _
  · lift_lets
    intro y0
    have h1 : Within 9455521 s y0 := by
      subst y0
      exact Within.mono (State.setLn_within ..) rfl
    clear_value y0
    refine Within.ite ?_ ?_
    · assumption
    · refine Within.step ?_ (lockLoss_within ..) rfl
      refine Within.step ?_ (laneCause_within ..) rfl
      refine Within.step ?_ (State.wr_within ..) rfl
      assumption

theorem laneOff_within (l : Nat) (s : State) : Within 9455521 s (laneOff l s) := by
  delta laneOff
  refine Within.ite ?_ ?_
  · exact Within.refl _ _
  · lift_lets
    intro y0
    have h1 : Within 9455521 s y0 := by
      subst y0
      exact Within.mono (idleLane_within ..) rfl
    clear_value y0
    refine Within.step ?_ (State.setLn_within ..) rfl
    refine Within.step ?_ (State.wrs_within ..) rfl
    assumption

theorem laneNamed_within (l : Nat) (s : State) : Within 8406945 s (laneNamed l s) := by
  delta laneNamed
  refine Within.step ?_ (setLane_within ..) rfl
  exact Within.mono (State.setLn_within ..) rfl

theorem lanesStop_within (s : State) : Within 9455521 s (lanesStop s) := by
  delta lanesStop
  refine Within.forAll ?_ fun a0 y1 h2 => ?_
  · exact Within.refl _ _
  · refine Within.ite ?_ ?_
    · assumption
    · refine Within.step ?_ (idleLane_within ..) rfl
      assumption

end Sys2Proof.Machine
end

