-- ==== Sys2Proof/Laws/WithinParcels.lean ====
section
/-! SUPPORT. The footprints of the operations of `Sys2Proof/Machine/Parcels.lean`. -/

namespace Sys2Proof.Machine

theorem pqSync_within (s : State) : Within 1 s (pqSync s) := by
  delta pqSync
  lift_lets
  intro n0 n1
  exact Within.mono (State.wrs_within ..) rfl

theorem pqResult_within (r : PqRes) (s : State) : Within 8390145 s (pqResult r s) := by
  delta pqResult
  lift_lets
  intro n0
  refine Within.step ?_ (State.event_within ..) rfl
  refine Within.step ?_ (pqSync_within ..) rfl
  refine Within.cl ?_ _ rfl
  exact Within.refl _ _

theorem pqRefuse_within (n : Nat) (s : State) : Within 9717665 s (pqRefuse n s) := by
  induction n generalizing s with
  | zero => exact Within.refl _ _
  | succ n ih =>
    unfold pqRefuse
    split
    · split
      · refine Within.step ?_ (ih _) rfl
        refine Within.step ?_ (pqResult_within ..) rfl
        refine Within.cl ?_ _ rfl
        exact Within.refl _ _
      · exact Within.refl _ _
    · exact Within.refl _ _

theorem pqSubmit_within (src : Nat) (s : State) : Within 9717665 s (pqSubmit src s) := by
  delta pqSubmit
  refine Within.ite ?_ ?_
  · exact Within.mono (State.wr_within ..) rfl
  · lift_lets
    intro n0 n1
    refine Within.step ?_ (pqSync_within ..) rfl
    refine Within.step ?_ (pqRefuse_within ..) rfl
    refine Within.cl ?_ _ rfl
    exact Within.refl _ _

theorem pqPop_within (s : State) : Within 9717665 s (pqPop s) := by
  delta pqPop
  lift_lets
  intro n0
  refine Within.step ?_ (pqSync_within ..) rfl
  refine Within.step ?_ (pqRefuse_within ..) rfl
  refine Within.cl ?_ _ rfl
  exact Within.refl _ _

theorem pqFlush_within (s : State) : Within 1025 s (pqFlush s) := by
  delta pqFlush
  lift_lets
  intro n0 n1
  refine Within.step ?_ (pqSync_within ..) rfl
  refine Within.cl ?_ _ rfl
  exact Within.refl _ _

theorem enumHop_within (l n h : Nat) (s : State) : Within 1025 s (enumHop l n h s) := by
  induction n generalizing h s with
  | zero => exact Within.refl _ _
  | succ n ih =>
    unfold enumHop
    split
    · exact Within.mono (State.setLn_within ..) rfl
    · split
      · exact Within.mono (State.setLn_within ..) rfl
      · exact Within.step (Within.mono (State.inc_within ..) rfl) (ih ..) rfl

theorem enumStart_within (l : Nat) (s : State) : Within 1025 s (enumStart l s) := by
  delta enumStart
  lift_lets
  intro y0
  have h1 : Within 1025 s y0 := by
    subst y0
    exact Within.mono (State.wrs_within ..) rfl
  clear_value y0
  intro y2
  have h3 : Within 1025 s y2 := by
    subst y2
    refine Within.step ?_ (State.setLn_within ..) rfl
    assumption
  clear_value y2
  refine Within.step ?_ (enumHop_within ..) rfl
  assumption

theorem enumFail_within (l : Nat) (s : State) : Within 1025 s (enumFail l s) := by
  delta enumFail
  split
  · refine Within.step ?_ (enumHop_within ..) rfl
    exact Within.mono (State.inc_within ..) rfl
  · exact Within.refl _ _

theorem enumDone_within (l h : Nat) (s : State) : Within 5121 s (enumDone l h s) := by
  delta enumDone
  lift_lets
  intro n0 n1 n2 n3 y4
  have h5 : Within 5121 s y4 := by
    subst y4
    exact Within.mono (State.inc_within ..) rfl
  clear_value y4
  intro y6
  have h7 : Within 5121 s y6 := by
    subst y6
    refine Within.ite ?_ ?_
    · refine Within.step ?_ (State.inc_within ..) rfl
      assumption
    · assumption
  clear_value y6
  intro n8 y9
  have h10 : Within 5121 s y9 := by
    subst y9
    refine Within.step ?_ (State.mapCells_within ..) rfl
    assumption
  clear_value y9
  refine Within.step ?_ (enumHop_within ..) rfl
  assumption

theorem enumResult_within (l result reg data : Nat) (s : State) : Within 9721761 s (enumResult l result reg data s) := by
  delta enumResult
  split
  · exact Within.refl _ _
  · refine Within.ite ?_ ?_
    · exact Within.mono (enumFail_within ..) rfl
    · lift_lets
      intro y0
      have h1 : Within 9721761 s y0 := by
        subst y0
        exact Within.mono (State.setLn_within ..) rfl
      clear_value y0
      intro n2 n3 n4 n5 n6 n7
      subst n7
      refine Within.ite ?_ ?_
      · assumption
      · refine Within.ite ?_ ?_
        · refine Within.ite ?_ ?_
          · refine Within.step ?_ (enumFail_within ..) rfl
            assumption
          · refine Within.ite ?_ ?_
            · beta_reduce
              refine Within.step ?_ (State.setLn_within ..) rfl
              assumption
            · beta_reduce
              refine Within.step ?_ (State.setLn_within ..) rfl
              assumption
        · refine Within.ite ?_ ?_
          · beta_reduce
            refine Within.step ?_ (State.setLn_within ..) rfl
            assumption
          · refine Within.step ?_ (enumDone_within ..) rfl
            assumption

theorem txEnd_within (l result data err : Nat) (s : State) : Within 9721761 s (txEnd l result data err s) := by
  delta txEnd
  split
  · exact Within.refl _ _
  · lift_lets
    intro y0
    have h1 : Within 9721761 s y0 := by
      subst y0
      refine Within.step ?_ (State.wr_within ..) rfl
      exact Within.mono (State.setLn_within ..) rfl
    clear_value y0
    intro y2
    have h3 : Within 9721761 s y2 := by
      subst y2
      refine Within.ite ?_ ?_
      · refine Within.step ?_ (State.inc_within ..) rfl
        assumption
      · assumption
    clear_value y2
    intro n4 n5 n6
    split
    · assumption
    · refine Within.step ?_ (enumResult_within ..) rfl
      assumption
    · refine Within.ite ?_ ?_
      · refine Within.step ?_ (State.inc_within ..) rfl
        assumption
      · assumption
    · refine Within.ite ?_ ?_
      · refine Within.step ?_ (pqSync_within ..) rfl
        refine Within.cl ?_ _ rfl
        assumption
      · refine Within.step ?_ (pqResult_within ..) rfl
        assumption

theorem nextRequest_within {l : Nat} {s t : State} {r : Req} (h : nextRequest l s = some (r, t)) : Within 1024 s t := by
  unfold nextRequest at h
  dsimp only at h
  split at h
  · cases h; exact Within.mono (State.setLn_within ..) rfl
  · split at h
    · cases h; exact Within.refl _ _
    · split at h
      · split at h <;> split at h <;>
          first | (cases h; exact (Within.refl 1024 s).cl _ rfl) | cases h
      · cases h

theorem txOpen_within (l : Nat) (s : State) : Within 1025 s (txOpen l s) := by
  delta txOpen
  refine Within.ite ?_ ?_
  · exact Within.refl _ _
  · split
    · exact Within.refl _ _
    · rename_i u0 u1 u2 u3
      lift_lets
      intro n4 n5
      refine Within.step ?_ (pqSync_within ..) rfl
      refine Within.step ?_ (State.setLn_within ..) rfl
      refine Within.step ?_ (State.wrs_within ..) rfl
      exact Within.mono (nextRequest_within u3) rfl

theorem parcelSend_within (l : Nat) (s : State) : Within 1025 s (parcelSend l s).2 := by
  delta parcelSend
  lift_lets
  intro y0
  have h1 : Within 1025 s y0 := by
    subst y0
    exact Within.mono (txOpen_within ..) rfl
  clear_value y0
  intro n2
  split
  · dsimp only
    assumption
  · lift_lets
    intro n3 n4 n5 n6 y7
    have h8 : Within 1025 s y7 := by
      subst y7
      refine Within.step ?_ (State.setLn_within ..) rfl
      assumption
    clear_value y7
    intro n9 n10 n11 n12
    split
    · split
      · dsimp only
        refine Within.step ?_ (State.setLn_within ..) rfl
        assumption
      · dsimp only
        refine Within.step ?_ (State.wr_within ..) rfl
        assumption
    · split
      · dsimp only
        assumption
      · dsimp only
        refine Within.step ?_ (State.setLn_within ..) rfl
        assumption

theorem parcelReply_within (l : Nat) (field : List Byte) (s : State) : Within 9721761 s (parcelReply l field s) := by
  delta parcelReply
  split
  · exact Within.refl _ _
  · lift_lets
    intro n0 n1 n2
    refine Within.ite ?_ ?_
    · exact Within.refl _ _
    · refine Within.ite ?_ ?_
      · exact Within.mono (txEnd_within ..) rfl
      · refine Within.ite ?_ ?_
        · exact Within.mono (txEnd_within ..) rfl
        · refine Within.ite ?_ ?_
          · exact Within.mono (State.setLn_within ..) rfl
          · exact Within.refl _ _

theorem retryExhausted_within (l : Nat) (s : State) : Within 9721761 s (retryExhausted l s) := by
  delta retryExhausted
  split
  · refine Within.ite ?_ ?_
    · exact Within.mono (txEnd_within ..) rfl
    · exact Within.refl _ _
  · exact Within.refl _ _

theorem busyTimeout_within (l : Nat) (s : State) : Within 9721761 s (busyTimeout l s) := by
  delta busyTimeout
  split
  · split
    · refine Within.ite ?_ ?_
      · exact Within.mono (txEnd_within ..) rfl
      · exact Within.refl _ _
    · exact Within.refl _ _
  · exact Within.refl _ _

theorem writeAll_within (l reg data : Nat) (s : State) : Within 1024 s (writeAll l reg data s) := by
  delta writeAll
  exact Within.mono (State.setLn_within ..) rfl

theorem auxselWrite_within (m : Master) (l : Nat) (v : Nat) (s : State) : Within 1025 s (auxselWrite m l v s) := by
  delta auxselWrite
  refine Within.ite ?_ ?_
  · exact Within.mono (State.werr_within ..) rfl
  · refine Within.ite ?_ ?_
    · exact Within.refl _ _
    · lift_lets
      intro y0
      have h1 : Within 1025 s y0 := by
        subst y0
        exact Within.mono (State.wr_within ..) rfl
      clear_value y0
      refine Within.ite ?_ ?_
      · refine Within.step ?_ (writeAll_within ..) rfl
        assumption
      · assumption

theorem measureDone_within (l : Nat) (s : State) : Within 8406945 s (measureDone l s) := by
  delta measureDone
  refine Within.ite ?_ ?_
  · lift_lets
    intro y0
    have h1 : Within 8406945 s y0 := by
      subst y0
      refine Within.step ?_ (State.setLn_within ..) rfl
      exact Within.mono (computeComps_within ..) rfl
    clear_value y0
    intro y2
    have h3 : Within 8406945 s y2 := by
      subst y2
      refine Within.step ?_ (setLane_within ..) rfl
      assumption
    clear_value y2
    refine Within.ite ?_ ?_
    · assumption
    · refine Within.step ?_ (enumStart_within ..) rfl
      assumption
  · exact Within.refl _ _

end Sys2Proof.Machine
end

