-- ==== Sys2Proof/Laws/WithinEngines.lean ====
section
/-! SUPPORT. The footprints of the operations of `Sys2Proof/Machine/Engines.lean`. -/

namespace Sys2Proof.Machine

theorem State.setCell_within (s : State) (g : Nat) (f : CellSt → CellSt) : Within 4096 s (State.setCell s g f) := by
  delta State.setCell
  exact Within.mono (State.mapCells_within ..) rfl

theorem dropRaise_within (n : Nat) (s : State) : Within 9455521 s (dropRaise n s) := by
  delta dropRaise
  refine Within.step ?_ (raise_within ..) rfl
  exact Within.mono (State.wr_within ..) rfl

theorem observeArm_within (n : Nat) (s : State) : Within 9459617 s (observeArm n s) := by
  delta observeArm
  lift_lets
  intro n0 n1 y2
  have h3 : Within 9459617 s y2 := by
    subst y2
    exact Within.mono (State.mapCells_within ..) rfl
  clear_value y2
  intro n4 n5 y6
  have h7 : Within 9459617 s y6 := by
    subst y6
    refine Within.ite ?_ ?_
    · refine Within.step ?_ (State.wr_within ..) rfl
      assumption
    · assumption
  clear_value y6
  intro y8
  have h9 : Within 9459617 s y8 := by
    subst y8
    refine Within.ite ?_ ?_
    · refine Within.step ?_ (State.wr_within ..) rfl
      assumption
    · assumption
  clear_value y8
  refine Within.ite ?_ ?_
  · refine Within.step ?_ (dropRaise_within ..) rfl
    assumption
  · refine Within.step ?_ (unraise_within ..) rfl
    assumption

theorem sigmaDecide_within (n : Nat) (s : State) : Within 4097 s (sigmaDecide n s) := by
  delta sigmaDecide
  lift_lets
  intro n0 y1
  have h2 : Within 4097 s y1 := by
    subst y1
    exact Within.mono (State.wr_within ..) rfl
  clear_value y1
  intro n3 n4 n5 n6 n7 n8
  refine Within.step ?_ (State.setArm_within ..) rfl
  assumption

theorem sigmaStart_within (n : Nat) (s : State) : Within 4097 s (sigmaStart n s) := by
  delta sigmaStart
  lift_lets
  intro n0 n1 y2
  have h3 : Within 4097 s y2 := by
    subst y2
    refine Within.step ?_ (State.setArm_within ..) rfl
    refine Within.ite ?_ ?_
    · exact Within.mono (State.wr_within ..) rfl
    · exact Within.refl _ _
  clear_value y2
  refine Within.step ?_ (State.put_within ..) rfl
  assumption

theorem sigmaTwin_within (n : Nat) (s : State) : Within 4097 s (sigmaTwin n s) := by
  delta sigmaTwin
  refine Within.ite ?_ ?_
  · split
    · refine Within.step ?_ (State.setArm_within ..) rfl
      exact Within.mono (State.put_within ..) rfl
    · refine Within.step ?_ (State.setArm_within ..) rfl
      exact Within.mono (State.wr_within ..) rfl
  · exact Within.mono (State.setArm_within ..) rfl

theorem rerankStats_within (n : Nat) (forced : Bool) (s : State) : Within 4097 s (rerankStats n forced s) := by
  delta rerankStats
  lift_lets
  intro n0 y1
  have h2 : Within 4097 s y1 := by
    subst y1
    refine Within.forAll ?_ fun a3 y4 h5 => ?_
    · exact Within.refl _ _
    · lift_lets
      intro n6 n7 y8
      have h9 : Within 4097 s y8 := by
        subst y8
        refine Within.step ?_ (State.wrs_within ..) rfl
        assumption
      clear_value y8
      refine Within.ite ?_ ?_
      · refine Within.step ?_ (State.inc_within ..) rfl
        assumption
      · assumption
  clear_value y1
  refine Within.step ?_ (State.mapCells_within ..) rfl
  assumption

theorem rankArm_within (n : Nat) (s : State) : Within 4096 s (rankArm n s) := by
  delta rankArm
  lift_lets
  intro n0 n1 n2 n3 n4 n5
  subst n5
  intro n6 y7
  have h8 : Within 4096 s y7 := by
    subst y7
    exact Within.mono (State.mapCells_within ..) rfl
  clear_value y7
  intro n9 n10
  refine Within.step ?_ (State.mapCells_within ..) rfl
  assumption

theorem aggWrite_within (n : Nat) (s : State) : Within 4097 s (aggWrite n s) := by
  delta aggWrite
  lift_lets
  intro n0 n1 y2
  have h3 : Within 4097 s y2 := by
    subst y2
    exact Within.mono (State.setArm_within ..) rfl
  clear_value y2
  refine Within.foldl ?_ fun a4 y5 h6 => ?_
  · assumption
  · refine Within.step ?_ (State.wr_within ..) rfl
    assumption

theorem popJudge_within (n : Nat) (s : State) : Within 9455521 s (popJudge n s) := by
  delta popJudge
  lift_lets
  intro n0 y1
  have h2 : Within 9455521 s y1 := by
    subst y1
    refine Within.ite ?_ ?_
    · exact Within.mono (State.wr_within ..) rfl
    · exact Within.refl _ _
  clear_value y1
  refine Within.step ?_ (condition_within ..) rfl
  assumption

theorem cellCount_within (n : Nat) (s : State) : Within 1 s (cellCount n s) := by
  delta cellCount
  lift_lets
  intro n0
  exact Within.mono (State.wrs_within ..) rfl

theorem promote_within (n : Nat) (s : State) : Within 9459617 s (promote n s) := by
  delta promote
  lift_lets
  intro n0 n1 n2
  refine Within.ite ?_ ?_
  · exact Within.refl _ _
  · refine Within.ite ?_ ?_
    · exact Within.mono (State.setArm_within ..) rfl
    · split
      · refine Within.step ?_ (State.setArm_within ..) rfl
        refine Within.step ?_ (State.wr_within ..) rfl
        exact Within.mono (State.setCell_within ..) rfl
      · refine Within.ite ?_ ?_
        · exact Within.refl _ _
        · refine Within.step ?_ (dropRaise_within ..) rfl
          refine Within.step ?_ (State.setArm_within ..) rfl
          exact Within.mono (State.wr_within ..) rfl

theorem ranking_within (n : Nat) (s : State) : Within 9459617 s (ranking n s) := by
  delta ranking
  refine Within.ite ?_ ?_
  · exact Within.refl _ _
  · lift_lets
    intro y0
    have h1 : Within 9459617 s y0 := by
      subst y0
      exact Within.mono (State.mapCells_within ..) rfl
    clear_value y0
    intro y2
    have h3 : Within 9459617 s y2 := by
      subst y2
      refine Within.step ?_ (observeArm_within ..) rfl
      assumption
    clear_value y2
    intro y4
    have h5 : Within 9459617 s y4 := by
      subst y4
      refine Within.step ?_ (sigmaTwin_within ..) rfl
      assumption
    clear_value y4
    intro n6 n7 n8 y9
    have h10 : Within 9459617 s y9 := by
      subst y9
      refine Within.step ?_ (rerankStats_within ..) rfl
      assumption
    clear_value y9
    intro y11
    have h12 : Within 9459617 s y11 := by
      subst y11
      refine Within.step ?_ (State.setArm_within ..) rfl
      assumption
    clear_value y11
    intro y13
    have h14 : Within 9459617 s y13 := by
      subst y13
      refine Within.step ?_ (rankArm_within ..) rfl
      assumption
    clear_value y13
    intro y15
    have h16 : Within 9459617 s y15 := by
      subst y15
      refine Within.step ?_ (sigmaDecide_within ..) rfl
      assumption
    clear_value y15
    intro y17
    have h18 : Within 9459617 s y17 := by
      subst y17
      refine Within.step ?_ (cellCount_within ..) rfl
      refine Within.step ?_ (popJudge_within ..) rfl
      refine Within.step ?_ (aggWrite_within ..) rfl
      assumption
    clear_value y17
    refine Within.step ?_ (promote_within ..) rfl
    assumption

theorem cellCommand_within (code : Nat) (cell key : Nat) (s : State) : Within 8392993 s (cellCommand code cell key s) := by
  delta cellCommand
  lift_lets
  intro n0 y1
  have h2 : Within 8392993 s y1 := by
    subst y1
    refine Within.step ?_ (State.count_within ..) rfl
    exact Within.mono (State.wrs_within ..) rfl
  clear_value y1
  intro y3
  have h4 : Within 8392993 s y3 := by
    subst y3
    refine Within.step ?_ (State.logCommand_within ..) rfl
    assumption
  clear_value y3
  intro n5 n6 y7
  have h8 : Within 8392993 s y7 := by
    subst y7
    refine Within.be ?_ _ rfl
    assumption
  clear_value y7
  intro y9
  have h10 : Within 8392993 s y9 := by
    subst y9
    refine Within.step ?_ (State.wrs_within ..) rfl
    assumption
  clear_value y9
  refine Within.ite ?_ ?_
  · assumption
  · refine Within.ite ?_ ?_
    · refine Within.step ?_ (State.carry_within ..) rfl
      assumption
    · assumption

theorem applyCellCmds_within (n : Nat) (s : State) : Within 4097 s (applyCellCmds n s) := by
  delta applyCellCmds
  lift_lets
  intro n0
  subst n0
  intro n1 y2
  have h3 : Within 4097 s y2 := by
    subst y2
    refine Within.forAll ?_ fun a4 y5 h6 => ?_
    · exact Within.refl _ _
    · refine Within.step ?_ (State.setCell_within ..) rfl
      assumption
  clear_value y2
  intro n7 n8
  refine Within.step ?_ (State.wr_within ..) rfl
  refine Within.be ?_ _ rfl
  assumption

theorem selection_within (n : Nat) (s : State) : Within 4097 s (selection n s) := by
  delta selection
  refine Within.ite ?_ ?_
  · exact Within.refl _ _
  · lift_lets
    intro y0
    have h1 : Within 4097 s y0 := by
      subst y0
      exact Within.mono (applyCellCmds_within ..) rfl
    clear_value y0
    intro y2
    have h3 : Within 4097 s y2 := by
      subst y2
      refine Within.ite ?_ ?_
      · refine Within.step ?_ (State.mapCells_within ..) rfl
        assumption
      · assumption
    clear_value y2
    intro n4 n5 y6
    have h7 : Within 4097 s y6 := by
      subst y6
      refine Within.step ?_ (State.mapCells_within ..) rfl
      assumption
    clear_value y6
    intro y8
    have h9 : Within 4097 s y8 := by
      subst y8
      refine Within.step ?_ (State.setArm_within ..) rfl
      assumption
    clear_value y8
    intro y10
    have h11 : Within 4097 s y10 := by
      subst y10
      refine Within.step ?_ (State.put_within ..) rfl
      assumption
    clear_value y10
    intro y12
    have h13 : Within 4097 s y12 := by
      subst y12
      refine Within.ite ?_ ?_
      · refine Within.step ?_ (State.wr_within ..) rfl
        assumption
      · assumption
    clear_value y12
    intro y14
    have h15 : Within 4097 s y14 := by
      subst y14
      refine Within.ite ?_ ?_
      · refine Within.step ?_ (State.inc_within ..) rfl
        refine Within.step ?_ (State.wr_within ..) rfl
        assumption
      · assumption
    clear_value y14
    refine Within.ite ?_ ?_
    · refine Within.step ?_ (State.setArm_within ..) rfl
      refine Within.step ?_ (State.mapCells_within ..) rfl
      assumption
    · refine Within.ite ?_ ?_
      · refine Within.step ?_ (State.inc_within ..) rfl
        refine Within.step ?_ (State.wr_within ..) rfl
        assumption
      · assumption

theorem engineFault_within (e cause : Nat) (s : State) : Within 9459617 s (engineFault e cause s) := by
  delta engineFault
  refine Within.ite ?_ ?_
  · exact Within.refl _ _
  · split
    · refine Within.step ?_ (State.inc_within ..) rfl
      exact Within.mono (State.wr_within ..) rfl
    · lift_lets
      intro n0 y1
      have h2 : Within 9459617 s y1 := by
        subst y1
        exact Within.mono (State.wr_within ..) rfl
      clear_value y1
      intro y3
      have h4 : Within 9459617 s y3 := by
        subst y3
        refine Within.step ?_ (State.setArm_within ..) rfl
        refine Within.step ?_ (State.wr_within ..) rfl
        assumption
      clear_value y3
      refine Within.step ?_ (raiseInCycle_within ..) rfl
      assumption

theorem rerank_within (s : State) : Within 4096 s (rerank s) := by
  delta rerank
  lift_lets
  intro n0
  refine Within.be ?_ _ rfl
  exact Within.refl _ _

theorem beCntclr_within (s : State) : Within 1 s (beCntclr s) := by
  delta beCntclr
  lift_lets
  intro y0
  have h1 : Within 1 s y0 := by
    subst y0
    refine Within.forAll ?_ fun a2 y3 h4 => ?_
    · exact Within.refl _ _
    · refine Within.step ?_ (State.wrs_within ..) rfl
      assumption
  clear_value y0
  refine Within.forAll ?_ fun a5 y6 h7 => ?_
  · assumption
  · refine Within.step ?_ (State.wrs_within ..) rfl
    assumption

theorem carriedWrite_within (m : Master) (stby : Fld) (addr w : Nat) (s : State) : Within 9437187 s (carriedWrite m stby addr w s) := by
  delta carriedWrite
  refine Within.ite ?_ ?_
  · exact Within.mono (State.wr_within ..) rfl
  · lift_lets
    intro y0
    have h1 : Within 9437187 s y0 := by
      subst y0
      exact Within.mono (regWrite_within ..) rfl
    clear_value y0
    intro n2 y3
    have h4 : Within 9437187 s y3 := by
      subst y3
      refine Within.step ?_ (State.addItem_within ..) rfl
      assumption
    clear_value y3
    refine Within.ite ?_ ?_
    · refine Within.step ?_ (State.carry_within ..) rfl
      assumption
    · assumption

end Sys2Proof.Machine
end

