-- ==== Sys2Proof/Laws/WithinTally.lean ====
section
/-! SUPPORT. The footprints of the operations of `Sys2Proof/Machine/Tally.lean`. -/

namespace Sys2Proof.Machine

theorem recPut_within (i : Nat) (r : List Byte) (s : State) : Within 32 s (recPut i r s) := by
  delta recPut
  refine Within.cellar ?_ _ rfl fun c => (Memory.writeBytes_wf _ _ _ c.cellar)
  exact Within.refl _ _

theorem countArm_within (n : Nat) (s : State) : Within 4096 s (countArm n s) := by
  delta countArm
  lift_lets
  intro y0
  have h1 : Within 4096 s y0 := by
    subst y0
    exact Within.mono (State.mapCells_within ..) rfl
  clear_value y0
  intro n2
  refine Within.ite ?_ ?_
  · refine Within.step ?_ (State.mapCells_within ..) rfl
    assumption
  · assumption

theorem tallyEvent_within (code id i j : Nat) (s : State) : Within 288 s (tallyEvent code id i j s) := by
  delta tallyEvent
  exact Within.mono (State.log_within ..) rfl

theorem lifeWarn_within (g life id : Nat) (s : State) : Within 9459617 s (lifeWarn g life id s) := by
  delta lifeWarn
  lift_lets
  intro n0 n1 y2
  have h3 : Within 9459617 s y2 := by
    subst y2
    exact Within.mono (State.setCell_within ..) rfl
  clear_value y2
  refine Within.ite ?_ ?_
  · refine Within.step ?_ (raiseEach_within ..) rfl
    refine Within.step ?_ (tallyEvent_within ..) rfl
    assumption
  · refine Within.ite ?_ ?_
    · assumption
    · refine Within.step ?_ (unraise_within ..) rfl
      assumption

theorem foldCell_within (c : CellSt) (s : State) : Within 9459617 s (foldCell c s) := by
  delta foldCell
  lift_lets
  intro n0 n1 n2 n3 y4
  have h5 : Within 9459617 s y4 := by
    subst y4
    exact Within.mono (recPut_within ..) rfl
  clear_value y4
  intro y6
  have h7 : Within 9459617 s y6 := by
    subst y6
    refine Within.step ?_ (State.setCell_within ..) rfl
    assumption
  clear_value y6
  intro n8 y9
  have h10 : Within 9459617 s y9 := by
    subst y9
    refine Within.tly ?_ _ rfl rfl rfl rfl
    assumption
  clear_value y9
  refine Within.step ?_ (lifeWarn_within ..) rfl
  assumption

theorem tallyFold_within (s : State) : Within 9459617 s (tallyFold s) := by
  delta tallyFold
  lift_lets
  intro y0
  have h1 : Within 9459617 s y0 := by
    subst y0
    refine Within.forAll ?_ fun a2 y3 h4 => ?_
    · exact Within.refl _ _
    · refine Within.step ?_ (foldCell_within ..) rfl
      assumption
  clear_value y0
  refine Within.ite ?_ ?_
  · refine Within.step ?_ (State.carry_within ..) rfl
    assumption
  · assumption

theorem capestUpdate_within (g : Nat) (s : State) : Within 4096 s (capestUpdate g s) := by
  delta capestUpdate
  split
  · exact Within.refl _ _
  · refine Within.ite ?_ ?_
    · exact Within.refl _ _
    · exact Within.mono (State.setCell_within ..) rfl

theorem missedJudge_within (s : State) : Within 9455521 s (missedJudge s) := by
  delta missedJudge
  refine Within.step ?_ (readyJudge_within ..) rfl
  exact Within.mono (State.putBit_within ..) rfl

theorem lifeApply_within (s : State) : Within 9459617 s (lifeApply s) := by
  delta lifeApply
  refine Within.ite ?_ ?_
  · exact Within.refl _ _
  · lift_lets
    intro n0 y1
    have h2 : Within 9459617 s y1 := by
      subst y1
      exact Within.mono (State.wr_within ..) rfl
    clear_value y1
    intro y3
    have h4 : Within 9459617 s y3 := by
      subst y3
      refine Within.ite ?_ ?_
      · refine Within.step ?_ (State.mapCells_within ..) rfl
        assumption
      · assumption
    clear_value y3
    intro n5 y6
    have h7 : Within 9459617 s y6 := by
      subst y6
      refine Within.ite ?_ ?_
      · refine Within.step ?_ (missedJudge_within ..) rfl
        refine Within.tly ?_ _ rfl rfl rfl rfl
        assumption
      · refine Within.step ?_ (State.mapCells_within ..) rfl
        assumption
    clear_value y6
    intro n8
    refine Within.tly ?_ _ rfl rfl rfl rfl
    assumption

theorem archive_within (former : Nat) (r : List Byte) (s : State) : Within 9455521 s (archive former r s) := by
  delta archive
  lift_lets
  intro j e wraps t y
  have h : Within 9455521 s y :=
    ((Within.refl 9455521 s).cellar _ rfl fun c => Memory.writeBytes_wf _ (archMirror + 512 * j) e c.cellar).tly' _ rfl fun c =>
      ⟨Memory.writeBytes_wf _ _ _ c.inner.arch, c.inner.ck0, c.inner.ck1, c.inner.vecMask, c.inner.pba, c.inner.vecTab, c.inner.cfg,
        c.inner.sent⟩
  clear_value y
  split
  · exact Within.step h (State.wr_within ..) rfl
  · split
    · exact h
    · exact Within.step (Within.step h (State.wr_within ..) rfl) (raise_within ..) rfl

theorem identityOne_within (c : CellSt) (x : State × List (Nat × List Byte)) : Within 4385 x.1 (identityOne c x).1 := by
  unfold identityOne
  dsimp only
  split
  · refine Within.step (Within.step (Within.step ?_ (recPut_within ..) rfl) (tallyEvent_within ..) rfl) (State.setCell_within ..) rfl
    exact Within.mono (State.inc_within ..) rfl
  · split
    · refine Within.step (Within.step (Within.step ?_ (recPut_within ..) rfl) (tallyEvent_within ..) rfl) (State.setCell_within ..) rfl
      exact Within.mono (State.inc_within ..) rfl
    · refine Within.step (Within.step (Within.step ?_ (recPut_within ..) rfl) (tallyEvent_within ..) rfl) (State.setCell_within ..) rfl
      exact Within.mono (State.inc_within ..) rfl

theorem identityCheck_within (s : State) : Within 9459617 s (identityCheck s) := by
  delta identityCheck
  lift_lets
  intro y1
  have h1 : Within 9459617 s y1 := by
    subst y1
    refine Within.forAll (Within.refl _ _) fun a y h => ?_
    exact Within.step h (foldCell_within ..) rfl
  clear_value y1
  intro y2
  have h2 : Within 9459617 s y2 := Within.step h1 (State.wrs_within ..) rfl
  clear_value y2
  intro changed pool x
  have h3 : Within 9459617 s x.1 :=
    Within.foldlFst h2 fun a y h => Within.step h (identityOne_within ..) rfl
  clear_value x
  refine Within.step (Within.forAll h3 fun p y h => ?_) (State.mapCells_within ..) rfl
  exact Within.step (Within.step (Within.step h (State.inc_within ..) rfl) (archive_within ..) rfl) (tallyEvent_within ..) rfl

theorem loadLive_within (s : State) : Within 4096 s (loadLive s) := by
  delta loadLive
  exact Within.mono (State.mapCells_within ..) rfl

theorem ckptStart_within (s : State) : Within 9459617 s (ckptStart s) := by
  delta ckptStart
  refine Within.ite ?_ ?_
  · exact Within.refl _ _
  · lift_lets
    intro y0
    have h1 : Within 9459617 s y0 := by
      subst y0
      exact Within.mono (tallyFold_within ..) rfl
    clear_value y0
    intro y2
    have h3 : Within 9459617 s y2 := by
      subst y2
      refine Within.step ?_ (State.wr_within ..) rfl
      refine Within.step ?_ (State.wr_within ..) rfl
      assumption
    clear_value y2
    intro n4
    refine (Within.cellar (?_ : Within _ _ y2) _ rfl fun c => (Memory.copyFrom_wf _ _ _ _ _ c.cellar c.cellar)).tly _ rfl rfl rfl rfl
    assumption

theorem postpone_within (f : Fld) (s : State) : Within 9455521 s (postpone f s) := by
  delta postpone
  refine Within.step ?_ (raise_within ..) rfl
  refine Within.step ?_ (State.inc_within ..) rfl
  exact Within.mono (State.inc_within ..) rfl

theorem ckptDue_within (s : State) : Within 9459617 s (ckptDue s) := by
  delta ckptDue
  refine Within.ite ?_ ?_
  · lift_lets
    intro n0
    refine Within.step ?_ (postpone_within ..) rfl
    refine Within.tly ?_ _ rfl rfl rfl rfl
    exact Within.refl _ _
  · exact Within.mono (ckptStart_within ..) rfl

theorem ckptLose_within (s : State) : Within 16793600 s (ckptLose s) := by
  have h := Within.mono (m := 16793600) (State.free_within s 1) rfl
  unfold ckptLose
  generalize s.free 1 = p at h ⊢
  obtain ⟨b, t⟩ := p
  refine h.tly _ rfl rfl ?_ ?_
  · dsimp only; split <;> first | rfl | (split <;> rfl)
  · dsimp only; split <;> first | rfl | (split <;> rfl)

theorem ckptDone_within (ok : Bool) (s : State) : Within 26232737 s (ckptDone ok s) := by
  delta ckptDone
  split
  · exact Within.refl _ _
  · lift_lets
    intro t y
    have h : Within 26232737 s y :=
      Within.step (Within.step (Within.mono (State.wr_within ..) rfl) (State.wr_within ..) rfl) (State.event_within ..) rfl
    have ht : y.tly = t := (State.event_within ..).parts 14 rfl
    clear_value y
    intro one k t2 z w src
    split
    · refine Within.step (Within.step ?_ (unraise_within ..) rfl) (unraise_within ..) rfl
      refine Within.step (Within.step ?_ (State.wr_within ..) rfl) (State.wr64_within ..) rfl
      refine h.tly' _ rfl fun c => ?_
      have w : k.recs.wf = true := Memory.copyFrom_wf _ _ _ _ _ rfl c.cellar
      have i := c.inner
      rw [ht] at i
      clear_value k
      refine ⟨i.arch, ?_, ?_, i.vecMask, i.pba, i.vecTab, i.cfg, i.sent⟩
      · show (if one = true then t.ck0 else k).recs.wf = true
        split
        · exact i.ck0
        · exact w
      · show (if one = true then k else t.ck1).recs.wf = true
        split
        · exact w
        · exact i.ck1
    · refine Within.step ?_ (raiseEach_within ..) rfl
      refine Within.step ?_ (State.inc_within ..) rfl
      refine Within.tly ?_ _ rfl rfl rfl rfl
      exact Within.step h (ckptLose_within ..) rfl

theorem tallyLoad_within (s : State) : Within 9459617 s (tallyLoad s) := by
  delta tallyLoad
  refine Within.ite ?_ ?_
  · exact Within.refl _ _
  · split
    · rename_i u0 u1 u2 u3
      lift_lets
      intro n4 n5 y6
      have h7 : Within 9459617 s y6 := by
        subst y6
        refine Within.cellar ?_ _ rfl fun c => (Memory.copyFrom_wf _ _ _ _ _ (Memory.writeBytes_wf _ _ _ c.cellar) c.inner.arch)
        exact Within.refl _ _
      clear_value y6
      intro y8
      have h9 : Within 9459617 s y8 := by
        subst y8
        refine Within.step ?_ (State.mapCells_within ..) rfl
        assumption
      clear_value y8
      intro y10
      have h11 : Within 9459617 s y10 := by
        subst y10
        refine Within.step ?_ (loadLive_within ..) rfl
        refine Within.step ?_ (State.wr_within ..) rfl
        assumption
      clear_value y10
      intro y12
      have h13 : Within 9459617 s y12 := by
        subst y12
        refine Within.step ?_ (State.wr_within ..) rfl
        assumption
      clear_value y12
      refine Within.ite ?_ ?_
      · refine Within.step ?_ (raise_within ..) rfl
        refine Within.step ?_ (State.wr_within ..) rfl
        assumption
      · refine Within.step ?_ (State.wr64_within ..) rfl
        assumption

theorem pinitDone_within (s : State) : Within 33 s (pinitDone s) := by
  delta pinitDone
  refine Within.ite ?_ ?_
  · exact Within.refl _ _
  · refine Within.step ?_ (State.wr_within ..) rfl
    refine Within.cellar ?_ _ rfl fun c => (Memory.clear_wf _ _ _ (Memory.clear_wf _ _ _ c.cellar))
    exact Within.refl _ _

theorem tallyReload_within (i : Nat) (s : State) : Within 4384 s (tallyReload i s) := by
  delta tallyReload
  split
  · rename_i u0 u1 u2 u3
    lift_lets
    intro n4 y5
    have h6 : Within 4384 s y5 := by
      subst y5
      exact Within.mono (recPut_within ..) rfl
    clear_value y5
    intro y7
    have h8 : Within 4384 s y7 := by
      subst y7
      refine Within.step ?_ (State.setCell_within ..) rfl
      assumption
    clear_value y7
    refine Within.step ?_ (tallyEvent_within ..) rfl
    assumption

theorem cellarEcc_within (addr : Nat) (s : State) : Within 9459617 s (cellarEcc addr s) := by
  delta cellarEcc
  lift_lets
  intro y0
  have h1 : Within 9459617 s y0 := by
    subst y0
    refine Within.cellar ?_ _ rfl fun c => (Memory.writeBytes_wf _ _ _ c.cellar)
    exact Within.refl _ _
  clear_value y0
  intro y2
  have h3 : Within 9459617 s y2 := by
    subst y2
    refine Within.step ?_ (State.wr64_within ..) rfl
    refine Within.step ?_ (State.inc_within ..) rfl
    assumption
  clear_value y2
  intro y4
  have h5 : Within 9459617 s y4 := by
    subst y4
    refine Within.ite ?_ ?_
    · refine Within.step ?_ (tallyReload_within ..) rfl
      assumption
    · assumption
  clear_value y4
  refine Within.ite ?_ ?_
  · refine Within.step ?_ (raiseInCycle_within ..) rfl
    assumption
  · refine Within.ite ?_ ?_
    · refine Within.step ?_ (raiseInCycle_within ..) rfl
      assumption
    · refine Within.ite ?_ ?_
      · refine Within.step ?_ (raiseInCycle_within ..) rfl
        assumption
      · refine Within.step ?_ (raiseInCycle_within ..) rfl
        assumption

theorem scrubDone_within (corrected : Nat) (s : State) : Within 9455521 s (scrubDone corrected s) := by
  delta scrubDone
  lift_lets
  intro y0
  have h1 : Within 9455521 s y0 := by
    subst y0
    refine Within.step ?_ (State.wr_within ..) rfl
    exact Within.mono (State.inc_within ..) rfl
  clear_value y0
  intro y2
  have h3 : Within 9455521 s y2 := by
    subst y2
    refine Within.step ?_ (unraise_within ..) rfl
    refine Within.step ?_ (State.inc_within ..) rfl
    assumption
  clear_value y2
  refine Within.step ?_ (condition_within ..) rfl
  assumption

end Sys2Proof.Machine
end

