-- ==== Sys2Proof/Laws/WithinLedger.lean ====
section
/-! SUPPORT. The footprints of the operations of `Sys2Proof/Machine/Ledger.lean`. -/

namespace Sys2Proof.Machine

theorem ledgerSize_within (s : State) : Within 16385 s (ledgerSize s) := by
  delta ledgerSize
  lift_lets
  intro n0 n1
  refine Within.step ?_ (State.wrs_within ..) rfl
  refine Within.tly ?_ _ rfl rfl rfl rfl
  exact Within.refl _ _

theorem ledgerTopo_within (s : State) : Within 8405793 s (ledgerTopo s) := by
  delta ledgerTopo
  refine Within.ite ?_ ?_
  · lift_lets
    intro n0
    refine Within.tly ?_ _ rfl rfl rfl rfl
    exact Within.refl _ _
  · lift_lets
    intro y1
    have h2 : Within 8405793 s y1 := by
      subst y1
      exact Within.mono (ledgerSize_within ..) rfl
    clear_value y1
    refine Within.ite ?_ ?_
    · assumption
    · refine Within.step ?_ (ledgerState_within ..) rfl
      assumption

theorem ledgerStart_within (s : State) : Within 8405793 s (ledgerStart s) := by
  delta ledgerStart
  refine Within.ite ?_ ?_
  · lift_lets
    intro n0
    refine Within.step ?_ (ledgerState_within ..) rfl
    refine Within.tly ?_ _ rfl rfl rfl rfl
    exact Within.refl _ _
  · exact Within.refl _ _

theorem ledgerArmed_within (s : State) : Within 8389409 s (ledgerArmed s) := by
  delta ledgerArmed
  refine Within.ite ?_ ?_
  · exact Within.mono (ledgerState_within ..) rfl
  · exact Within.refl _ _

theorem ledgerWrite_within (s : State) : Within 8405793 s (ledgerWrite s) := by
  delta ledgerWrite
  lift_lets
  intro n0 n1 n2 n3 n4 y5
  have h6 : Within 8405793 s y5 := by
    subst y5
    refine (Within.cellar (?_ : Within _ _ s) _ rfl fun c => (Memory.writeBytes_wf _ _ _ c.cellar)).tly _ rfl rfl rfl rfl
    exact Within.refl _ _
  clear_value y5
  refine Within.ite ?_ ?_
  · exact Within.refl _ _
  · refine Within.step ?_ (ledgerArmed_within ..) rfl
    refine Within.step ?_ (State.wr_within ..) rfl
    assumption

theorem ledgerPatch_within (i flag src : Nat) (s : State) : Within 32 s (ledgerPatch i flag src s) := by
  delta ledgerPatch
  lift_lets
  intro n0 n1 n2
  refine Within.cellar ?_ _ rfl fun c => (Memory.writeBytes_wf _ _ _ c.cellar)
  exact Within.refl _ _

theorem ledgerDrop_within (s : State) : Within 33 s (ledgerDrop s) := by
  delta ledgerDrop
  lift_lets
  intro n0 y1
  have h2 : Within 33 s y1 := by
    subst y1
    exact Within.mono (ledgerPatch_within ..) rfl
  clear_value y1
  refine Within.step ?_ (State.wr_within ..) rfl
  refine Within.step ?_ (State.inc_within ..) rfl
  assumption

theorem partnerTrigger_within (kt : Nat) (s : State) : Within 8405793 s (partnerTrigger kt s) := by
  delta partnerTrigger
  refine Within.ite ?_ ?_
  · exact Within.refl _ _
  · lift_lets
    intro n0 n1 n2 n3
    subst n3
    intro y4
    have h5 : Within 8405793 s y4 := by
      subst y4
      beta_reduce
      lift_lets
      intro n6
      refine Within.ite ?_ ?_
      · refine Within.tly ?_ _ rfl (by split <;> rfl) (by split <;> rfl) (by split <;> rfl)
        exact Within.mono (ledgerTake_within ..) rfl
      · exact Within.mono (ledgerTake_within ..) rfl
    clear_value y4
    intro n7 y8
    have h9 : Within 8405793 s y8 := by
      subst y8
      refine Within.step ?_ (State.wr64_within ..) rfl
      assumption
    clear_value y8
    intro y10
    have h11 : Within 8405793 s y10 := by
      subst y10
      beta_reduce
      lift_lets
      intro n12
      refine Within.ite ?_ ?_
      · refine Within.tly ?_ _ rfl (by split <;> rfl) (by split <;> rfl) (by split <;> rfl)
        exact Within.mono (State.putBit_within ..) rfl
      · exact Within.mono (State.putBit_within ..) rfl
    clear_value y10
    refine Within.ite ?_ ?_
    · refine Within.ite ?_ ?_
      · refine Within.step ?_ (ledgerPatch_within ..) rfl
        assumption
      · assumption
    · refine Within.ite ?_ ?_
      · refine Within.ite ?_ ?_
        · refine Within.step ?_ (ledgerPatch_within ..) rfl
          assumption
        · assumption
      · refine Within.ite ?_ ?_
        · exact Within.mono (State.inc_within ..) rfl
        · exact Within.refl _ _

theorem ledgerCycle_within (s : State) : Within 16385 s (ledgerCycle s) := by
  delta ledgerCycle
  lift_lets
  intro n0 y1
  have h2 : Within 16385 s y1 := by
    subst y1
    refine Within.tly ?_ _ rfl rfl rfl rfl
    exact Within.refl _ _
  clear_value y1
  refine Within.ite ?_ ?_
  · refine Within.step ?_ (State.wr64_within ..) rfl
    assumption
  · assumption

theorem extractStart_within (s : State) : Within 9455521 s (extractStart s) := by
  delta extractStart
  refine Within.ite ?_ ?_
  · exact Within.refl _ _
  · refine Within.ite ?_ ?_
    · lift_lets
      intro n0
      refine Within.step ?_ (postpone_within ..) rfl
      refine Within.tly ?_ _ rfl rfl rfl rfl
      exact Within.refl _ _
    · lift_lets
      intro n1
      refine Within.step ?_ (State.wrs_within ..) rfl
      refine Within.tly ?_ _ rfl rfl rfl rfl
      exact Within.refl _ _

theorem ledgerFreeze_within (s : State) : Within 9455521 s (ledgerFreeze s) := by
  delta ledgerFreeze
  refine Within.ite ?_ ?_
  · lift_lets
    intro n0 n1 y2
    have h3 : Within 9455521 s y2 := by
      subst y2
      exact Within.mono (State.wrs_within ..) rfl
    clear_value y2
    intro y4
    have h5 : Within 9455521 s y4 := by
      subst y4
      refine Within.step ?_ (raise_within ..) rfl
      refine Within.step ?_ (ledgerState_within ..) rfl
      assumption
    clear_value y4
    refine Within.ite ?_ ?_
    · refine Within.step ?_ (extractStart_within ..) rfl
      assumption
    · assumption
  · exact Within.refl _ _

theorem ledgerThaw_within (next : Nat) (s : State) : Within 8406945 s (ledgerThaw next s) := by
  delta ledgerThaw
  lift_lets
  intro y0
  have h1 : Within 8406945 s y0 := by
    subst y0
    refine Within.step ?_ (unraise_within ..) rfl
    exact Within.mono (State.wr_within ..) rfl
  clear_value y0
  intro y2
  have h3 : Within 8406945 s y2 := by
    subst y2
    refine Within.ite ?_ ?_
    · refine Within.step ?_ (ledgerSize_within ..) rfl
      assumption
    · assumption
  clear_value y2
  intro n4
  refine Within.step ?_ (ledgerState_within ..) rfl
  refine Within.tly ?_ _ rfl rfl rfl rfl
  assumption

theorem ledgerRelease_within (s : State) : Within 8406945 s (ledgerRelease s) := by
  delta ledgerRelease
  refine Within.ite ?_ ?_
  · exact Within.refl _ _
  · refine Within.ite ?_ ?_
    · exact Within.mono (State.wr_within ..) rfl
    · exact Within.mono (ledgerThaw_within ..) rfl

theorem ledgerOff_within (s : State) : Within 8406945 s (ledgerOff s) := by
  delta ledgerOff
  refine Within.ite ?_ ?_
  · exact Within.refl _ _
  · refine Within.ite ?_ ?_
    · exact Within.mono (ledgerThaw_within ..) rfl
    · exact Within.mono (ledgerState_within ..) rfl

theorem ledgerConfig_within (m : Master) (w : Nat) (s : State) : Within 8406947 s (ledgerConfig m w s) := by
  delta ledgerConfig
  refine Within.step ?_ (ledgerOff_within ..) rfl
  exact Within.mono (regWrite_within ..) rfl

theorem extractDone_within (ok : Bool) (s : State) : Within 9455521 s (extractDone ok s) := by
  delta extractDone
  refine Within.ite ?_ ?_
  · exact Within.refl _ _
  · lift_lets
    intro y0
    have h1 : Within 9455521 s y0 := by
      subst y0
      refine Within.step ?_ (State.event_within ..) rfl
      exact Within.mono (State.wrs_within ..) rfl
    clear_value y0
    intro n2 n3
    refine Within.ite ?_ ?_
    · refine Within.step ?_ (unraise_within ..) rfl
      refine Within.step ?_ (State.wrs_within ..) rfl
      refine Within.tly ?_ _ rfl rfl rfl rfl
      assumption
    · refine Within.step ?_ (raiseEach_within ..) rfl
      refine Within.step ?_ (State.wr_within ..) rfl
      assumption

end Sys2Proof.Machine
end

