-- ==== Sys2Proof/Laws/WithinGraph.lean ====
section
/-! SUPPORT. The footprints of the operations of `Sys2Proof/Machine/Graph.lean`. -/

namespace Sys2Proof.Machine

theorem productsUpdate_within (s : State) : Within 32768 s (productsUpdate s) := by
  delta productsUpdate
  lift_lets
  intro n0
  refine Within.cg ?_ _ rfl
  exact Within.refl _ _

theorem coreJudge_within (c : Nat) (ecc : Bool) (s : State) : Within 8406945 s (coreJudge c ecc s) := by
  delta coreJudge
  refine Within.ite ?_ ?_
  · exact Within.refl _ _
  · exact Within.mono (unraise_within ..) rfl

theorem graphInit_within (s : State) : Within 8447905 s (graphInit s) := by
  delta graphInit
  lift_lets
  intro n0 n1 n2 n3 n4 y5
  have h6 : Within 8447905 s y5 := by
    subst y5
    refine Within.typed ?_ _ _ _ _ _ _ _ _ _ _ _ _ _ _ _ _ _ (.inr rfl) (.inr rfl) (.inr rfl) (.inr rfl) (.inr rfl) (.inr rfl) (.inr rfl) (.inl rfl) (.inr rfl) (.inl rfl) (.inr rfl) (.inr rfl) (.inr rfl) (.inr rfl) (.inr rfl) (.inr rfl) (.inr rfl) (.inr rfl) (.inr ⟨rfl, rfl⟩) rfl rfl rfl rfl rfl rfl rfl rfl
    exact Within.refl _ _
  clear_value y5
  intro y7
  have h8 : Within 8447905 s y7 := by
    subst y7
    refine Within.step ?_ (State.wrs_within ..) rfl
    assumption
  clear_value y7
  refine Within.step ?_ (productsUpdate_within ..) rfl
  refine Within.forAll ?_ fun a9 y10 h11 => ?_
  · assumption
  · refine Within.step ?_ (coreJudge_within ..) rfl
    refine Within.step ?_ (State.wrs_within ..) rfl
    assumption

theorem graphInitDue_within (s : State) : Within 8447905 s (graphInitDue s) := by
  delta graphInitDue
  split
  · refine Within.ite ?_ ?_
    · exact Within.mono (graphInit_within ..) rfl
    · exact Within.refl _ _
  · exact Within.refl _ _

theorem graphFigures_within (s : State) : Within 1 s (graphFigures s) := by
  delta graphFigures
  lift_lets
  intro n0 y1
  have h2 : Within 1 s y1 := by
    subst y1
    exact Within.mono (State.wrs_within ..) rfl
  clear_value y1
  intro n3
  refine Within.forAll ?_ fun a4 y5 h6 => ?_
  · assumption
  · refine Within.step ?_ (State.wrs_within ..) rfl
    assumption

theorem graphLoad_within (bs : List Byte) (s : State) : Within 32771 s (graphLoad bs s) := by
  delta graphLoad
  lift_lets
  intro n0 n1 y2
  have h3 : Within 32771 s y2 := by
    subst y2
    refine Within.cg ?_ _ rfl
    exact Within.refl _ _
  clear_value y2
  intro n4 y5
  have h6 : Within 32771 s y5 := by
    subst y5
    refine Within.forAll ?_ fun a7 y8 h9 => ?_
    · assumption
    · refine Within.step ?_ (State.wrShadow_within ..) rfl
      refine Within.step ?_ (State.wr_within ..) rfl
      assumption
  clear_value y5
  refine Within.step ?_ (graphFigures_within ..) rfl
  refine Within.step ?_ (State.wr_within ..) rfl
  refine Within.step ?_ (State.wr_within ..) rfl
  assumption

theorem syncReport_within (ok : Bool) (s : State) : Within 8405793 s (syncReport ok s) := by
  delta syncReport
  lift_lets
  intro n0 n1 n2 y3
  have h4 : Within 8405793 s y3 := by
    subst y3
    refine Within.step ?_ (State.put_within ..) rfl
    exact Within.mono (State.wr_within ..) rfl
  clear_value y3
  refine Within.ite ?_ ?_
  · refine Within.step ?_ (ledgerFire_within ..) rfl
    refine Within.step ?_ (State.wr_within ..) rfl
    assumption
  · assumption

theorem monitor_within (ins : List Nat) (s : State) : Within 8413985 s (monitor ins s) := by
  delta monitor
  refine Within.ite ?_ ?_
  · exact Within.mono (State.wrs_within ..) rfl
  · refine Within.ite ?_ ?_
    · refine Within.step ?_ (syncReport_within ..) rfl
      exact Within.mono (State.wr_within ..) rfl
    · lift_lets
      intro n0 n1 n2 n3 n4 n5 n6 n7 n8 y9
      have h10 : Within 8413985 s y9 := by
        subst y9
        exact Within.mono (State.wrs_within ..) rfl
      clear_value y9
      intro n11 y12
      have h13 : Within 8413985 s y12 := by
        subst y12
        refine Within.step ?_ (syncReport_within ..) rfl
        refine Within.ref ?_ _ rfl
        assumption
      clear_value y12
      refine Within.ite ?_ ?_
      · refine Within.step ?_ (phaseLock_within ..) rfl
        assumption
      · assumption

theorem traceSample_within (s : State) : Within 32769 s (traceSample s) := by
  delta traceSample
  lift_lets
  intro n0 y1
  have h2 : Within 32769 s y1 := by
    subst y1
    refine Within.ite ?_ ?_
    · exact Within.mono (State.wr_within ..) rfl
    · exact Within.refl _ _
  clear_value y1
  intro n3
  refine Within.cg ?_ _ rfl
  assumption

theorem graphClose_within (s : State) : Within 8446753 s (graphClose s) := by
  delta graphClose
  lift_lets
  intro y0
  have h1 : Within 8446753 s y0 := by
    subst y0
    exact Within.mono (traceSample_within ..) rfl
  clear_value y0
  intro n2 y3
  have h4 : Within 8446753 s y3 := by
    subst y3
    refine Within.ite ?_ ?_
    · refine Within.step ?_ (State.wr_within ..) rfl
      assumption
    · assumption
  clear_value y3
  intro n5 n6 n7 n8 n9 y10
  have h11 : Within 8446753 s y10 := by
    subst y10
    refine Within.ite ?_ ?_
    · refine Within.step ?_ (State.relay_within ..) rfl
      assumption
    · assumption
  clear_value y10
  intro y12
  have h13 : Within 8446753 s y12 := by
    subst y12
    refine Within.ite ?_ ?_
    · assumption
    · refine Within.step ?_ (monitor_within ..) rfl
      assumption
  clear_value y12
  intro n14 n15 n16
  refine Within.cg ?_ _ rfl
  assumption

theorem imgReceived_within (cyc : Nat) (ws : List Nat) (s : State) : Within 8446753 s (imgReceived cyc ws s) := by
  delta imgReceived
  refine Within.ite ?_ ?_
  · exact Within.refl _ _
  · split
    · refine Within.ite ?_ ?_
      · exact Within.mono (monitor_within ..) rfl
      · exact Within.refl _ _
    · lift_lets
      intro n0 n1 n2 y3
      have h4 : Within 8446753 s y3 := by
        subst y3
        refine Within.cg ?_ _ rfl
        exact Within.refl _ _
      clear_value y3
      refine Within.step ?_ (monitor_within ..) rfl
      assumption

theorem imageReady_within (s : State) : Within 32769 s (imageReady s) := by
  delta imageReady
  split
  · refine Within.ite ?_ ?_
    · exact Within.refl _ _
    · lift_lets
      intro n0 n1 y2
      have h3 : Within 32769 s y2 := by
        subst y2
        refine Within.step ?_ (State.wr_within ..) rfl
        refine Within.cg ?_ _ rfl
        exact Within.refl _ _
      clear_value y2
      refine Within.forAll ?_ fun a4 y5 h6 => ?_
      · assumption
      · refine Within.step ?_ (State.wr_within ..) rfl
        assumption
  · exact Within.refl _ _

theorem coreDone_within (c t : Nat) (s : State) : Within 32769 s (coreDone c t s) := by
  delta coreDone
  split
  · refine Within.ite ?_ ?_
    · lift_lets
      intro n0
      refine Within.step ?_ (State.wrs_within ..) rfl
      refine Within.cg ?_ _ rfl
      exact Within.refl _ _
    · exact Within.refl _ _
  · exact Within.refl _ _

theorem outputOne_within (g : Grph) (sig : List Nat) (e : Nat × Nat × Nat) (s : State) : Within 8193 s (outputOne g sig e s) := by
  delta outputOne
  lift_lets
  intro n0 y1
  have h2 : Within 8193 s y1 := by
    subst y1
    exact Within.mono (State.wr_within ..) rfl
  clear_value y1
  intro n3
  refine Within.ite ?_ ?_
  · split
    · refine Within.step ?_ (State.wr_within ..) rfl
      assumption
    · assumption
  · split
    · refine Within.ref ?_ _ rfl
      exact Within.refl _ _
    · refine Within.ref ?_ _ rfl
      exact Within.refl _ _
    · exact Within.mono (State.wr_within ..) rfl

theorem traceRecord_within (img : Img) (sig : List Nat) (prevLate : Bool) (s : State) : Within 32801 s (traceRecord img sig prevLate s) := by
  delta traceRecord
  refine Within.ite ?_ ?_
  · exact Within.refl _ _
  · lift_lets
    intro n0 n1 n2 n3 n4 n5 n6 y7
    have h8 : Within 32801 s y7 := by
      subst y7
      refine Within.ite ?_ ?_
      · exact Within.refl _ _
      · exact Within.mono (State.wr_within ..) rfl
    clear_value y7
    intro n9 y10
    have h11 : Within 32801 s y10 := by
      subst y10
      refine (Within.cellar (?_ : Within _ _ y7) _ rfl fun c => (Memory.writeBytes_wf _ _ _ c.cellar)).cg _ rfl
      assumption
    clear_value y10
    refine Within.ite ?_ ?_
    · refine Within.step ?_ (State.wr_within ..) rfl
      refine Within.step ?_ (State.wr_within ..) rfl
      assumption
    · refine Within.step ?_ (State.wr_within ..) rfl
      assumption

theorem outputs_within (sig : List Nat) (s : State) : Within 8193 s (outputs sig s) := by
  delta outputs
  lift_lets
  intro n0 n1 n2 y3
  have h4 : Within 8193 s y3 := by
    subst y3
    refine Within.ref ?_ _ rfl
    exact Within.refl _ _
  clear_value y3
  intro y5
  have h6 : Within 8193 s y5 := by
    subst y5
    refine Within.forAll ?_ fun a7 y8 h9 => ?_
    · assumption
    · refine Within.step ?_ (outputOne_within ..) rfl
      assumption
  clear_value y5
  intro n10
  refine Within.ref ?_ _ rfl
  assumption

theorem lateRun_within (last : Nat) (s : State) : Within 9488289 s (lateRun last s) := by
  delta lateRun
  lift_lets
  intro n0 y1
  have h2 : Within 9488289 s y1 := by
    subst y1
    exact Within.mono (State.wrs_within ..) rfl
  clear_value y1
  intro n3
  refine Within.ite ?_ ?_
  · refine Within.step ?_ (raise_within ..) rfl
    refine Within.step ?_ (State.wr_within ..) rfl
    refine Within.cg ?_ _ rfl
    assumption
  · assumption

theorem runComplete_within (t : Nat) (s : State) : Within 9496481 s (runComplete t s) := by
  delta runComplete
  split
  · exact Within.refl _ _
  · refine Within.ite ?_ ?_
    · exact Within.refl _ _
    · lift_lets
      intro n0 n1 y2
      have h3 : Within 9496481 s y2 := by
        subst y2
        refine Within.cg ?_ _ rfl
        exact Within.refl _ _
      clear_value y2
      intro y4
      have h5 : Within 9496481 s y4 := by
        subst y4
        refine Within.forAll ?_ fun a6 y7 h8 => ?_
        · assumption
        · refine Within.step ?_ (State.inc_within ..) rfl
          assumption
      clear_value y4
      intro y9
      have h10 : Within 9496481 s y9 := by
        subst y9
        refine Within.step ?_ (State.wrs_within ..) rfl
        assumption
      clear_value y9
      intro n11 n12 y13
      have h14 : Within 9496481 s y13 := by
        subst y13
        refine Within.step ?_ (State.wrs_within ..) rfl
        assumption
      clear_value y13
      intro n15 y16
      have h17 : Within 9496481 s y16 := by
        subst y16
        refine Within.cg ?_ _ rfl
        assumption
      clear_value y16
      intro y18
      have h19 : Within 9496481 s y18 := by
        subst y18
        refine Within.ite ?_ ?_
        · refine Within.step ?_ (lateRun_within ..) rfl
          assumption
        · refine Within.ite ?_ ?_
          · assumption
          · refine Within.step ?_ (traceRecord_within ..) rfl
            refine Within.step ?_ (State.wr_within ..) rfl
            refine Within.step ?_ (outputs_within ..) rfl
            assumption
      clear_value y18
      refine Within.step ?_ (State.event_within ..) rfl
      refine Within.forAll ?_ fun a20 y21 h22 => ?_
      · assumption
      · refine Within.step ?_ (coreJudge_within ..) rfl
        assumption

theorem graphStall_within (c : Nat) (s : State) : Within 9488289 s (graphStall c s) := by
  delta graphStall
  split
  · exact Within.refl _ _
  · refine Within.ite ?_ ?_
    · lift_lets
      intro n0 y1
      have h2 : Within 9488289 s y1 := by
        subst y1
        refine Within.cg ?_ _ rfl
        exact Within.refl _ _
      clear_value y1
      intro y3
      have h4 : Within 9488289 s y3 := by
        subst y3
        refine Within.step ?_ (State.wrs_within ..) rfl
        assumption
      clear_value y3
      refine Within.step ?_ (raise_within ..) rfl
      assumption
    · exact Within.refl _ _

theorem coreEcc_within (c : Nat) (corrected : Bool) (kind index : Nat) (s : State) : Within 9488289 s (coreEcc c corrected kind index s) := by
  delta coreEcc
  refine Within.ite ?_ ?_
  · refine Within.step ?_ (State.wr_within ..) rfl
    exact Within.mono (State.inc_within ..) rfl
  · lift_lets
    intro y0
    have h1 : Within 9488289 s y0 := by
      subst y0
      exact Within.mono (State.wr_within ..) rfl
    clear_value y0
    intro n2 y3
    have h4 : Within 9488289 s y3 := by
      subst y3
      split
      · refine Within.cg ?_ _ rfl
        assumption
      · assumption
    clear_value y3
    refine Within.step ?_ (raise_within ..) rfl
    assumption

theorem pcommit_within (s : State) : Within 8388617 s (pcommit s) := by
  delta pcommit
  refine Within.ite ?_ ?_
  · exact Within.mono (State.wr_within ..) rfl
  · refine Within.ite ?_ ?_
    · exact Within.mono (State.wr_within ..) rfl
    · lift_lets
      intro y0
      have h1 : Within 8388617 s y0 := by
        subst y0
        exact Within.mono (captureAll_within ..) rfl
      clear_value y0
      intro n2 y3
      have h4 : Within 8388617 s y3 := by
        subst y3
        refine Within.step ?_ (State.wrs_within ..) rfl
        assumption
      clear_value y3
      refine Within.ite ?_ ?_
      · refine Within.step ?_ (State.carry_within ..) rfl
        assumption
      · assumption

theorem paramApply_within (s : State) : Within 32769 s (paramApply s) := by
  delta paramApply
  refine Within.ite ?_ ?_
  · refine Within.step ?_ (productsUpdate_within ..) rfl
    refine Within.step ?_ (State.wrs_within ..) rfl
    exact Within.mono (State.applyCapt_within ..) rfl
  · exact Within.refl _ _

theorem greset_within (m : Master) (s : State) : Within 8421377 s (greset m s) := by
  delta greset
  refine Within.ite ?_ ?_
  · exact Within.mono (State.wr_within ..) rfl
  · refine Within.ite ?_ ?_
    · exact Within.mono (State.werr_within ..) rfl
    · lift_lets
      intro n0 n1 y2
      have h3 : Within 8421377 s y2 := by
        subst y2
        refine Within.step ?_ (State.wr_within ..) rfl
        refine Within.cg ?_ _ rfl
        exact Within.refl _ _
      clear_value y2
      refine Within.ite ?_ ?_
      · refine Within.step ?_ (State.carry_within ..) rfl
        assumption
      · assumption

theorem hinWrite_within (k v : Nat) (s : State) : Within 8388609 s (hinWrite k v s) := by
  delta hinWrite
  refine Within.ite ?_ ?_
  · exact Within.mono (State.wr_within ..) rfl
  · lift_lets
    intro y0
    have h1 : Within 8388609 s y0 := by
      subst y0
      exact Within.mono (State.wr_within ..) rfl
    clear_value y0
    refine Within.ite ?_ ?_
    · refine Within.step ?_ (State.carry_within ..) rfl
      assumption
    · assumption

end Sys2Proof.Machine
end

