-- ==== Sys2Proof/Laws/WithinTiming.lean ====
section
/-! SUPPORT. The footprints of the operations of `Sys2Proof/Machine/Timing.lean`. -/

namespace Sys2Proof.Machine

theorem dlvtStart_within (n c : Nat) (s : State) : Within 8392705 s (dlvtStart n c s) := by
  delta dlvtStart
  lift_lets
  intro n0 n1 n2 y3
  have h4 : Within 8392705 s y3 := by
    subst y3
    refine Within.ite ?_ ?_
    · exact Within.refl _ _
    · refine Within.step ?_ (State.relay_within ..) rfl
      exact Within.mono (State.setArm_within ..) rfl
  clear_value y3
  refine Within.ite ?_ ?_
  · exact Within.mono (State.wr_within ..) rfl
  · refine Within.ite ?_ ?_
    · refine Within.ite ?_ ?_
      · exact Within.mono (State.wr_within ..) rfl
      · exact Within.refl _ _
    · split
      · rename_i u5 u6 u7 u8
        refine Within.ite ?_ ?_
        · refine Within.step ?_ (State.wr_within ..) rfl
          refine Within.step ?_ (State.setArm_within ..) rfl
          assumption
        · assumption
      · assumption

theorem e0Start_within (n c : Nat) (s : State) : Within 8392705 s (e0Start n c s) := by
  delta e0Start
  lift_lets
  intro y0
  have h1 : Within 8392705 s y0 := by
    subst y0
    exact Within.mono (dlvtStart_within ..) rfl
  clear_value y0
  intro n2 n3 n4 n5 y6
  have h7 : Within 8392705 s y6 := by
    subst y6
    refine Within.step ?_ (State.put_within ..) rfl
    refine Within.step ?_ (State.wr_within ..) rfl
    assumption
  clear_value y6
  intro n8 n9 n10
  refine Within.step ?_ (State.put_within ..) rfl
  refine Within.step ?_ (State.put_within ..) rfl
  refine Within.step ?_ (State.wr_within ..) rfl
  assumption

theorem writeSlots_within (n : Nat) (q : Sel) (s : State) : Within 4097 s (writeSlots n q s) := by
  delta writeSlots
  generalize s.pulseOf n q = d
  rcases d with _ | ⟨p, short, stretched⟩ <;> lift_lets <;> intro e pulse l y1 moved y2 y3
  all_goals
    have h1 : Within 4097 s y1 := Within.mono (State.mapCells_within ..) rfl
    clear_value y1
    have h2 : Within 4097 s y2 := by
      subst y2
      split
      · exact h1
      · exact Within.step (Within.step h1 (State.wr_within ..) rfl) (State.inc_within ..) rfl
    clear_value y2
    have h3 : Within 4097 s y3 := Within.step h2 (State.setArm_within ..) rfl
    clear_value y3
  · exact Within.step h3 (State.wr_within ..) rfl
  · subst e
    have h4 : ∀ f v l, Within 4097 s (if p.w = 0 then y3.wr f v else y3.wrs l) := fun f v l =>
      Within.ite (Within.step h3 (State.wr_within ..) rfl) (Within.step h3 (State.wrs_within ..) rfl)
    dsimp only
    split
    · refine Within.step (Within.step ?_ (State.wr_within ..) rfl) (State.inc_within ..) rfl
      exact Within.step (Within.step (h4 _ _ _) (State.wr_within ..) rfl) (State.wr_within ..) rfl
    · exact h4 _ _ _

theorem recordDone_within (n crt : Nat) (s : State) : Within 1 s (recordDone n crt s) := by
  delta recordDone
  lift_lets
  intro n0 y1
  have h2 : Within 1 s y1 := by
    subst y1
    exact Within.mono (State.wrs_within ..) rfl
  clear_value y1
  refine Within.ite ?_ ?_
  · refine Within.step ?_ (State.wr_within ..) rfl
    assumption
  · assumption

theorem timing_within (n crt : Nat) (s : State) : Within 4097 s (timing n crt s) := by
  delta timing
  lift_lets
  intro n0
  refine Within.ite ?_ ?_
  · refine Within.step ?_ (recordDone_within ..) rfl
    exact Within.mono (State.setArm_within ..) rfl
  · split
    · exact Within.refl _ _
    · lift_lets
      intro y1
      have h2 : Within 4097 s y1 := by
        subst y1
        refine Within.ite ?_ ?_
        · exact Within.mono (writeSlots_within ..) rfl
        · exact Within.refl _ _
      clear_value y1
      intro y3
      have h4 : Within 4097 s y3 := by
        subst y3
        refine Within.ite ?_ ?_
        · refine Within.step ?_ (State.wr_within ..) rfl
          assumption
        · assumption
      clear_value y3
      refine Within.ite ?_ ?_
      · exact Within.refl _ _
      · refine Within.step ?_ (recordDone_within ..) rfl
        refine Within.step ?_ (State.setArm_within ..) rfl
        assumption

theorem fpCommit_within (n : Nat) (s : State) : Within 8392713 s (fpCommit n s) := by
  delta fpCommit
  refine Within.ite ?_ ?_
  · exact Within.mono (State.wr_within ..) rfl
  · refine Within.ite ?_ ?_
    · exact Within.refl _ _
    · refine Within.ite ?_ ?_
      · exact Within.mono (State.wr_within ..) rfl
      · lift_lets
        intro y0
        have h1 : Within 8392713 s y0 := by
          subst y0
          refine Within.step ?_ (State.wr_within ..) rfl
          exact Within.mono (captureAll_within ..) rfl
        clear_value y0
        intro n2
        refine Within.ite ?_ ?_
        · refine Within.step ?_ (State.carry_within ..) rfl
          refine Within.step ?_ (State.setArm_within ..) rfl
          assumption
        · refine Within.step ?_ (State.setArm_within ..) rfl
          assumption

theorem fpTransfer_within (n : Nat) (src : State → Fld → Nat) (f : Fld) (s : State) : Within 1 s (fpTransfer n src f s) := by
  delta fpTransfer
  lift_lets
  intro n0
  refine Within.ite ?_ ?_
  · exact Within.mono (State.wr_within ..) rfl
  · exact Within.mono (State.wr_within ..) rfl

theorem fpUpdate_within (n : Nat) (s : State) : Within 4097 s (fpUpdate n s) := by
  delta fpUpdate
  refine Within.ite ?_ ?_
  · exact Within.refl _ _
  · lift_lets
    intro n0 n1 n2 n3
    subst n3
    intro n4 n5 y6
    have h7 : Within 4097 s y6 := by
      subst y6
      refine Within.ite ?_ ?_
      · refine Within.forAll ?_ fun a8 y9 h10 => ?_
        · exact Within.refl _ _
        · refine Within.step ?_ (fpTransfer_within ..) rfl
          assumption
      · refine Within.forAll ?_ fun a11 y12 h13 => ?_
        · exact Within.refl _ _
        · refine Within.step ?_ (fpTransfer_within ..) rfl
          assumption
    clear_value y6
    intro y14
    have h15 : Within 4097 s y14 := by
      subst y14
      refine Within.ite ?_ ?_
      · refine Within.forAll ?_ fun a16 y17 h18 => ?_
        · assumption
        · refine Within.step ?_ (State.wr_within ..) rfl
          refine Within.step ?_ (State.wr_within ..) rfl
          assumption
      · assumption
    clear_value y14
    intro n19 n20 n21 n22 y23
    have h24 : Within 4097 s y23 := by
      subst y23
      refine Within.ite ?_ ?_
      · refine Within.step ?_ (State.wr_within ..) rfl
        assumption
      · assumption
    clear_value y23
    intro y25
    have h26 : Within 4097 s y25 := by
      subst y25
      refine Within.ite ?_ ?_
      · refine Within.step ?_ (State.wr_within ..) rfl
        assumption
      · assumption
    clear_value y25
    refine Within.step ?_ (State.setArm_within ..) rfl
    assumption

theorem compareFire_within (n j : Nat) (s : State) : Within 8405793 s (compareFire n j s) := by
  delta compareFire
  refine Within.ite ?_ ?_
  · lift_lets
    intro y0
    have h1 : Within 8405793 s y0 := by
      subst y0
      exact Within.mono (State.emit_within ..) rfl
    clear_value y0
    refine Within.ite ?_ ?_
    · refine Within.step ?_ (ledgerFire_within ..) rfl
      assumption
    · assumption
  · exact Within.refl _ _

theorem insCntclr_within (s : State) : Within 1 s (insCntclr s) := by
  delta insCntclr
  refine Within.forAll ?_ fun a0 y1 h2 => ?_
  · exact Within.refl _ _
  · refine Within.step ?_ (State.wrs_within ..) rfl
    assumption

end Sys2Proof.Machine
end

