-- ==== Sys2Proof/Laws/WithinFrames.lean ====
section
/-! SUPPORT. The footprints of the operations of `Sys2Proof/Machine/Frames.lean`. -/

namespace Sys2Proof.Machine

theorem launchLane_within (l : Nat) (s : State) : Within 8406945 s (launchLane l s) := by
  delta launchLane
  lift_lets
  intro y0
  have h1 : Within 8406945 s y0 := by
    subst y0
    refine Within.ite ?_ ?_
    · exact Within.mono (setLane_within ..) rfl
    · exact Within.refl _ _
  clear_value y0
  intro n2 n3 y4
  have h5 : Within 8406945 s y4 := by
    subst y4
    refine Within.step ?_ (parcelSend_within ..) rfl
    assumption
  clear_value y4
  intro n6 n7
  refine Within.step ?_ (State.emit_within ..) rfl
  refine Within.step ?_ (State.wr_within ..) rfl
  assumption

theorem laneCycle_within (l : Nat) (s : State) : Within 1025 s (laneCycle l s) := by
  delta laneCycle
  lift_lets
  intro n0 y1
  have h2 : Within 1025 s y1 := by
    subst y1
    refine Within.ite ?_ ?_
    · exact Within.refl _ _
    · exact Within.mono (State.wr_within ..) rfl
  clear_value y1
  refine Within.step ?_ (State.setLn_within ..) rfl
  assumption

theorem launchFrames_within (s : State) : Within 8411041 s (launchFrames s) := by
  delta launchFrames
  lift_lets
  intro y0
  have h1 : Within 8411041 s y0 := by
    subst y0
    refine Within.forAll ?_ fun a2 y3 h4 => ?_
    · exact Within.refl _ _
    · refine Within.step ?_ (laneCycle_within ..) rfl
      assumption
  clear_value y0
  intro n5 y6
  have h7 : Within 8411041 s y6 := by
    subst y6
    refine Within.step ?_ (State.mapCells_within ..) rfl
    assumption
  clear_value y6
  intro n8 n9 y10
  have h11 : Within 8411041 s y10 := by
    subst y10
    refine Within.cl ?_ _ rfl
    assumption
  clear_value y10
  intro n12 n13 y14
  have h15 : Within 8411041 s y14 := by
    subst y14
    refine Within.be ?_ _ rfl
    assumption
  clear_value y14
  intro n16
  refine Within.forAll ?_ fun a17 y18 h19 => ?_
  · refine Within.glb ?_ _ rfl (.inr ⟨rfl, rfl⟩)
    assumption
  · refine Within.step ?_ (launchLane_within ..) rfl
    assumption

theorem obeyJudge_within (s : State) : Within 9455521 s (obeyJudge s) := by
  delta obeyJudge
  refine Within.ite ?_ ?_
  · exact Within.mono (raise_within ..) rfl
  · exact Within.mono (unraise_within ..) rfl

theorem obeysOther_within (s : State) : Within 9455521 s (obeysOther s) := by
  delta obeysOther
  lift_lets
  intro n0
  refine Within.step ?_ (obeyJudge_within ..) rfl
  refine Within.step ?_ (State.wr_within ..) rfl
  refine Within.twn ?_ _ rfl
  exact Within.refl _ _

theorem slotTaken_within (l : Nat) (c : CellSt) (w entry : Nat) (s : State) : Within 9459617 s (slotTaken l c w entry s) := by
  delta slotTaken
  lift_lets
  intro n0 y1
  have h2 : Within 9459617 s y1 := by
    subst y1
    exact Within.mono (State.setCell_within ..) rfl
  clear_value y1
  intro y3
  have h4 : Within 9459617 s y3 := by
    subst y3
    refine Within.step ?_ (State.setArm_within ..) rfl
    assumption
  clear_value y3
  intro y5
  have h6 : Within 9459617 s y5 := by
    subst y5
    refine Within.ite ?_ ?_
    · assumption
    · refine Within.step ?_ (State.inc_within ..) rfl
      assumption
  clear_value y5
  refine Within.ite ?_ ?_
  · refine Within.step ?_ (obeysOther_within ..) rfl
    assumption
  · assumption

theorem slotJudge_within (l start : Nat) (bytes : List Byte) (h : Nat) (s : State) : Within 9459617 s (slotJudge l start bytes h s) := by
  delta slotJudge
  lift_lets
  intro n0 n1
  split
  · exact Within.mono (State.inc_within ..) rfl
  · refine Within.ite ?_ ?_
    · exact Within.refl _ _
    · refine Within.ite ?_ ?_
      · refine Within.step ?_ (State.inc_within ..) rfl
        exact Within.mono (State.setCell_within ..) rfl
      · refine Within.ite ?_ ?_
        · exact Within.mono (State.inc_within ..) rfl
        · exact Within.mono (slotTaken_within ..) rfl

theorem codeGroups_within (l cv disp : Nat) (s : State) : Within 1 s (codeGroups l cv disp s) := by
  delta codeGroups
  lift_lets
  intro y0
  have h1 : Within 1 s y0 := by
    subst y0
    refine Within.step ?_ (State.inc_within ..) rfl
    exact Within.mono (State.inc_within ..) rfl
  clear_value y0
  refine Within.ite ?_ ?_
  · refine Within.step ?_ (State.wr_within ..) rfl
    assumption
  · assumption

theorem uplink_within (l start : Nat) (bytes : List Byte) (cv disp : Nat) (s : State) : Within 9721761 s (uplink l start bytes cv disp s) := by
  delta uplink
  refine Within.ite ?_ ?_
  · exact Within.refl _ _
  · lift_lets
    intro y0
    have h1 : Within 9721761 s y0 := by
      subst y0
      exact Within.mono (codeGroups_within ..) rfl
    clear_value y0
    intro n2 n3 y4
    have h5 : Within 9721761 s y4 := by
      subst y4
      refine Within.step ?_ (State.wrs_within ..) rfl
      assumption
    clear_value y4
    intro y6
    have h7 : Within 9721761 s y6 := by
      subst y6
      refine Within.forAll ?_ fun a8 y9 h10 => ?_
      · assumption
      · refine Within.step ?_ (slotJudge_within ..) rfl
        assumption
    clear_value y6
    intro n11 y12
    have h13 : Within 9721761 s y12 := by
      subst y12
      refine Within.ite ?_ ?_
      · refine Within.step ?_ (parcelReply_within ..) rfl
        assumption
      · refine Within.step ?_ (State.inc_within ..) rfl
        assumption
    clear_value y12
    intro n14
    refine Within.ite ?_ ?_
    · refine Within.step ?_ (State.inc_within ..) rfl
      assumption
    · refine Within.step ?_ (ringBreak_within ..) rfl
      refine Within.step ?_ (State.setLn_within ..) rfl
      assumption

theorem chainRecord_within (n : Nat) (missing : Bool) (s : State) : Within 1 s (chainRecord n missing s) := by
  delta chainRecord
  lift_lets
  intro n0 y1
  have h2 : Within 1 s y1 := by
    subst y1
    exact Within.mono (State.wr_within ..) rfl
  clear_value y1
  refine Within.step ?_ (State.put_within ..) rfl
  assumption

theorem uplinkCutoff_within (n : Nat) (s : State) : Within 4097 s (uplinkCutoff n s) := by
  delta uplinkCutoff
  refine Within.ite ?_ ?_
  · exact Within.refl _ _
  · lift_lets
    intro n0 y1
    have h2 : Within 4097 s y1 := by
      subst y1
      exact Within.mono (State.mapCells_within ..) rfl
    clear_value y1
    intro y3
    have h4 : Within 4097 s y3 := by
      subst y3
      refine Within.step ?_ (State.setArm_within ..) rfl
      assumption
    clear_value y3
    intro y5
    have h6 : Within 4097 s y5 := by
      subst y5
      refine Within.step ?_ (chainRecord_within ..) rfl
      assumption
    clear_value y5
    refine Within.ite ?_ ?_
    · refine Within.step ?_ (State.inc_within ..) rfl
      refine Within.step ?_ (State.wr_within ..) rfl
      assumption
    · assumption

end Sys2Proof.Machine
end

