-- ==== Sys2Proof/Laws/WithinLevels.lean ====
section
/-! SUPPORT. The footprints of the operations of `Sys2Proof/Machine/Levels.lean`. -/

namespace Sys2Proof.Machine

theorem twinFigures_within (s : State) : Within 9455521 s (twinFigures s) := by
  delta twinFigures
  lift_lets
  intro n0 n1 n2 n3 y4
  have h5 : Within 9455521 s y4 := by
    subst y4
    exact Within.mono (State.wrs_within ..) rfl
  clear_value y4
  intro n6 y7
  have h8 : Within 9455521 s y7 := by
    subst y7
    refine Within.step ?_ (State.putBit_within ..) rfl
    assumption
  clear_value y7
  intro y9
  have h10 : Within 9455521 s y9 := by
    subst y9
    refine Within.step ?_ (State.putBit_within ..) rfl
    assumption
  clear_value y9
  refine Within.step ?_ (readyJudge_within ..) rfl
  refine Within.step ?_ (condition_within ..) rfl
  assumption

theorem levelFigures_within (s : State) : Within 9455521 s (levelFigures s) := by
  delta levelFigures
  lift_lets
  intro n0 y1
  have h2 : Within 9455521 s y1 := by
    subst y1
    refine Within.forAll ?_ fun a3 y4 h5 => ?_
    · exact Within.refl _ _
    · lift_lets
      intro n6 n7
      refine Within.step ?_ (State.wrs_within ..) rfl
      assumption
  clear_value y1
  intro n8
  refine Within.step ?_ (twinFigures_within ..) rfl
  refine Within.step ?_ (State.wrs_within ..) rfl
  assumption

theorem acceptJudge_within (s : State) : Within 9455521 s (acceptJudge s) := by
  delta acceptJudge
  lift_lets
  intro y0
  have h1 : Within 9455521 s y0 := by
    subst y0
    refine Within.step ?_ (levelFigures_within ..) rfl
    exact Within.mono (State.wr_within ..) rfl
  clear_value y0
  refine Within.ite ?_ ?_
  · assumption
  · refine Within.step ?_ (State.wr_within ..) rfl
    assumption

theorem acceptWrite_within (m : Master) (addr w : Nat) (s : State) : Within 9455523 s (acceptWrite m addr w s) := by
  delta acceptWrite
  lift_lets
  intro y0
  have h1 : Within 9455523 s y0 := by
    subst y0
    exact Within.mono (regWrite_within ..) rfl
  clear_value y0
  refine Within.ite ?_ ?_
  · assumption
  · refine Within.step ?_ (acceptJudge_within ..) rfl
    assumption

theorem slackStart_within (s : State) : Within 1 s (slackStart s) := by
  delta slackStart
  exact Within.mono (State.wrs_within ..) rfl

theorem reverify_within (s : State) : Within 1 s (reverify s) := by
  delta reverify
  refine Within.ite ?_ ?_
  · exact Within.refl _ _
  · exact Within.mono (slackStart_within ..) rfl

theorem plStep_within (n : Nat) (s : State) : Within 4194305 s (plStep n s) := by
  delta plStep
  lift_lets
  intro n0 n1
  refine Within.step ?_ (State.put_within ..) rfl
  refine Within.step ?_ (State.wr_within ..) rfl
  refine Within.clk ?_ _ rfl
  exact Within.refl _ _

theorem plVerify_within (s : State) : Within 4194305 s (plVerify s) := by
  delta plVerify
  refine Within.step ?_ (slackStart_within ..) rfl
  exact Within.mono (plStep_within ..) rfl

theorem plGo_within (s : State) : Within 13649825 s (plGo s) := by
  delta plGo
  lift_lets
  intro n0
  refine Within.ite ?_ ?_
  · exact Within.mono (plStep_within ..) rfl
  · refine Within.step ?_ (plStep_within ..) rfl
    refine Within.step ?_ (levelFigures_within ..) rfl
    exact Within.mono (State.wr_within ..) rfl

theorem plStart_within (p q : Nat) (returning : Bool) (s : State) : Within 13649825 s (plStart p q returning s) := by
  delta plStart
  lift_lets
  intro n0 y1
  have h2 : Within 13649825 s y1 := by
    subst y1
    refine Within.step ?_ (State.wr_within ..) rfl
    refine Within.clk ?_ _ rfl
    exact Within.refl _ _
  clear_value y1
  refine Within.ite ?_ ?_
  · refine Within.step ?_ (plStep_within ..) rfl
    assumption
  · refine Within.step ?_ (plGo_within ..) rfl
    assumption

theorem plRequest_within (q key : Nat) (s : State) : Within 13649825 s (plRequest q key s) := by
  delta plRequest
  lift_lets
  intro n0 y1
  have h2 : Within 13649825 s y1 := by
    subst y1
    exact Within.mono (State.wr_within ..) rfl
  clear_value y1
  refine Within.ite ?_ ?_
  · refine Within.step ?_ (plStart_within ..) rfl
    assumption
  · assumption

theorem plFail_within (s : State) : Within 13649825 s (plFail s) := by
  delta plFail
  refine Within.ite ?_ ?_
  · lift_lets
    intro y0
    have h1 : Within 13649825 s y0 := by
      subst y0
      refine Within.ite ?_ ?_
      · exact Within.mono (State.wr_within ..) rfl
      · exact Within.refl _ _
    clear_value y0
    intro y2
    have h3 : Within 13649825 s y2 := by
      subst y2
      refine Within.step ?_ (State.wr_within ..) rfl
      assumption
    clear_value y2
    intro n4
    refine Within.step ?_ (plStep_within ..) rfl
    refine Within.clk ?_ _ rfl
    assumption
  · lift_lets
    intro n5
    refine Within.step ?_ (plStart_within ..) rfl
    refine Within.step ?_ (State.inc_within ..) rfl
    exact Within.mono (State.wr_within ..) rfl

theorem plDone_within (s : State) : Within 12601249 s (plDone s) := by
  delta plDone
  lift_lets
  intro n0 y1
  have h2 : Within 12601249 s y1 := by
    subst y1
    exact Within.mono (State.wr_within ..) rfl
  clear_value y1
  intro n3 y4
  have h5 : Within 12601249 s y4 := by
    subst y4
    refine Within.clk ?_ _ rfl
    assumption
  clear_value y4
  refine Within.step ?_ (unraise_within ..) rfl
  refine Within.step ?_ (plStep_within ..) rfl
  refine Within.ite ?_ ?_
  · assumption
  · refine Within.step ?_ (State.inc_within ..) rfl
    assumption

theorem vcoreSettled_within (mv : Nat) (s : State) : Within 4194305 s (vcoreSettled mv s) := by
  delta vcoreSettled
  lift_lets
  intro y0
  have h1 : Within 4194305 s y0 := by
    subst y0
    exact Within.mono (State.wr_within ..) rfl
  clear_value y0
  refine Within.ite ?_ ?_
  · assumption
  · refine Within.ite ?_ ?_
    · refine Within.step ?_ (plStep_within ..) rfl
      assumption
    · refine Within.step ?_ (plVerify_within ..) rfl
      assumption

theorem cellarSwitched_within (s : State) : Within 13649825 s (cellarSwitched s) := by
  delta cellarSwitched
  refine Within.ite ?_ ?_
  · exact Within.refl _ _
  · lift_lets
    intro y0
    have h1 : Within 13649825 s y0 := by
      subst y0
      refine Within.step ?_ (State.inc_within ..) rfl
      exact Within.mono (State.put_within ..) rfl
    clear_value y0
    intro n2
    refine Within.ite ?_ ?_
    · refine Within.step ?_ (plVerify_within ..) rfl
      refine Within.step ?_ (levelFigures_within ..) rfl
      refine Within.step ?_ (State.wr_within ..) rfl
      assumption
    · refine Within.step ?_ (plStep_within ..) rfl
      assumption

theorem vcoreTimeout_within (s : State) : Within 13649825 s (vcoreTimeout s) := by
  delta vcoreTimeout
  refine Within.ite ?_ ?_
  · refine Within.step ?_ (plFail_within ..) rfl
    exact Within.mono (raise_within ..) rfl
  · exact Within.refl _ _

theorem slackResult_within (worst : Nat) (s : State) : Within 13649825 s (slackResult worst s) := by
  delta slackResult
  lift_lets
  intro n0 n1 y2
  have h3 : Within 13649825 s y2 := by
    subst y2
    exact Within.mono (State.wrs_within ..) rfl
  clear_value y2
  intro y4
  have h5 : Within 13649825 s y4 := by
    subst y4
    refine Within.ite ?_ ?_
    · refine Within.step ?_ (unraise_within ..) rfl
      assumption
    · refine Within.ite ?_ ?_
      · refine Within.step ?_ (raiseEach_within ..) rfl
        assumption
      · assumption
  clear_value y4
  refine Within.ite ?_ ?_
  · assumption
  · refine Within.ite ?_ ?_
    · refine Within.step ?_ (plDone_within ..) rfl
      assumption
    · refine Within.step ?_ (plFail_within ..) rfl
      assumption

theorem replicaLimit_within (s : State) : Within 13649825 s (replicaLimit s) := by
  delta replicaLimit
  refine Within.ite ?_ ?_
  · exact Within.refl _ _
  · lift_lets
    intro y0
    have h1 : Within 13649825 s y0 := by
      subst y0
      exact Within.mono (raise_within ..) rfl
    clear_value y0
    intro n2
    refine Within.ite ?_ ?_
    · refine Within.step ?_ (plRequest_within ..) rfl
      assumption
    · assumption

theorem replicas_within (now idx : Nat) (s : State) : Within 13649825 s (replicas now idx s) := by
  delta replicas
  lift_lets
  intro y0
  have h1 : Within 13649825 s y0 := by
    subst y0
    exact Within.mono (State.wrs_within ..) rfl
  clear_value y0
  intro y2
  have h3 : Within 13649825 s y2 := by
    subst y2
    refine Within.ite ?_ ?_
    · refine Within.step ?_ (State.wr_within ..) rfl
      assumption
    · assumption
  clear_value y2
  intro y4
  have h5 : Within 13649825 s y4 := by
    subst y4
    refine Within.ite ?_ ?_
    · refine Within.step ?_ (State.wr_within ..) rfl
      assumption
    · refine Within.step ?_ (unraise_within ..) rfl
      assumption
  clear_value y4
  intro n6 n7
  refine Within.step ?_ (replicaLimit_within ..) rfl
  refine Within.clk ?_ _ rfl
  assumption

end Sys2Proof.Machine
end

