-- ==== Sys2Proof/Laws/WithinLmu.lean ====
section
/-! SUPPORT. The footprints of the operations of `Sys2Proof/Machine/Lmu.lean`. -/

namespace Sys2Proof.Machine

theorem State.setMeter_within (s : State) (u : Nat) (f : Meter → Meter) : Within 262144 s (State.setMeter s u f) := by
  delta State.setMeter
  lift_lets
  intro n0
  refine Within.lmu ?_ _ rfl
  exact Within.refl _ _

theorem winEnd_within (u t : Nat) (s : State) : Within 262144 s (winEnd u t s) := by
  delta winEnd
  exact Within.mono (State.setMeter_within ..) rfl

theorem winStart_within (u t wm j : Nat) (s : State) : Within 262144 s (winStart u t wm j s) := by
  delta winStart
  lift_lets
  intro n0
  refine Within.ite ?_ ?_
  · exact Within.mono (State.setMeter_within ..) rfl
  · exact Within.refl _ _

theorem winsEnd_within (t wm j : Nat) (s : State) : Within 262144 s (winsEnd t wm j s) := by
  delta winsEnd
  refine Within.forAll ?_ fun a0 y1 h2 => ?_
  · exact Within.refl _ _
  · split
    · refine Within.ite ?_ ?_
      · refine Within.step ?_ (winEnd_within ..) rfl
        assumption
      · assumption
    · assumption

theorem lmuCycle_within (control : Bool) (s : State) : Within 262144 s (lmuCycle control s) := by
  delta lmuCycle
  lift_lets
  intro n0 y1
  have h2 : Within 262144 s y1 := by
    subst y1
    refine Within.forAll ?_ fun a3 y4 h5 => ?_
    · exact Within.mono (winsEnd_within ..) rfl
    · refine Within.step ?_ (winStart_within ..) rfl
      assumption
  clear_value y1
  refine Within.ite ?_ ?_
  · refine Within.forAll ?_ fun a6 y7 h8 => ?_
    · refine Within.step ?_ (winsEnd_within ..) rfl
      assumption
    · refine Within.step ?_ (winStart_within ..) rfl
      assumption
  · assumption

theorem lmuStop_within (s : State) : Within 262144 s (lmuStop s) := by
  delta lmuStop
  refine Within.forAll ?_ fun a0 y1 h2 => ?_
  · exact Within.refl _ _
  · refine Within.step ?_ (State.setMeter_within ..) rfl
    assumption

theorem lmuWinOpen_within (j : Nat) (s : State) : Within 262144 s (lmuWinOpen j s) := by
  delta lmuWinOpen
  lift_lets
  intro n0 y1
  have h2 : Within 262144 s y1 := by
    subst y1
    refine Within.lmu ?_ _ rfl
    exact Within.refl _ _
  clear_value y1
  refine Within.forAll ?_ fun a3 y4 h5 => ?_
  · assumption
  · refine Within.step ?_ (winStart_within ..) rfl
    assumption

theorem lmuWinShut_within (j : Nat) (s : State) : Within 262144 s (lmuWinShut j s) := by
  delta lmuWinShut
  lift_lets
  intro n0
  refine Within.step ?_ (winsEnd_within ..) rfl
  refine Within.lmu ?_ _ rfl
  exact Within.refl _ _

theorem meterTake_within (u e t : Nat) (valid : Bool) (code : Int) (s : State) : Within 262144 s (meterTake u e t valid code s) := by
  delta meterTake
  lift_lets
  intro y0
  have h1 : Within 262144 s y0 := by
    subst y0
    exact Within.mono (winStart_within ..) rfl
  clear_value y0
  split
  · lift_lets
    intro n2 y3
    have h4 : Within 262144 s y3 := by
      subst y3
      refine Within.step ?_ (State.setMeter_within ..) rfl
      assumption
    clear_value y3
    refine Within.ite ?_ ?_
    · refine Within.step ?_ (State.setMeter_within ..) rfl
      assumption
    · refine Within.ite ?_ ?_
      · refine Within.ite ?_ ?_
        · refine Within.step ?_ (winEnd_within ..) rfl
          assumption
        · assumption
      · refine Within.ite ?_ ?_
        · refine Within.step ?_ (State.setMeter_within ..) rfl
          assumption
        · refine Within.step ?_ (State.setMeter_within ..) rfl
          assumption
  · refine Within.step ?_ (State.setMeter_within ..) rfl
    assumption

theorem publishAcc_within (a : Nat) (w : Win) (s : State) : Within 1 s (publishAcc a w s) := by
  delta publishAcc
  lift_lets
  intro n0 n1
  exact Within.mono (State.wrs_within ..) rfl

theorem publishTrk_within (t : Nat) (w : Win) (s : State) : Within 16777217 s (publishTrk t w s) := by
  delta publishTrk
  lift_lets
  intro y0
  have h1 : Within 16777217 s y0 := by
    subst y0
    exact Within.mono (State.wrs_within ..) rfl
  clear_value y0
  refine Within.ite ?_ ?_
  · split
    · rename_i u2 u3 u4 u5
      split
      · rename_i u6 u7 u8 u9
        refine Within.step ?_ (State.wrs_within ..) rfl
        refine Within.ofPair u9 ?_
        refine Within.step ?_ (State.free_within ..) rfl
        refine Within.ofPair u5 ?_
        refine Within.step ?_ (State.free_within ..) rfl
        assumption
  · refine Within.step ?_ (State.wrs_within ..) rfl
    assumption

theorem windowClose_within (u : Nat) (s : State) : Within 17039361 s (windowClose u s) := by
  delta windowClose
  split
  · exact Within.refl _ _
  · lift_lets
    intro y0
    have h1 : Within 17039361 s y0 := by
      subst y0
      exact Within.mono (State.setMeter_within ..) rfl
    clear_value y0
    refine Within.ite ?_ ?_
    · refine Within.step ?_ (State.wr_within ..) rfl
      assumption
    · refine Within.ite ?_ ?_
      · refine Within.step ?_ (publishAcc_within ..) rfl
        assumption
      · refine Within.step ?_ (publishTrk_within ..) rfl
        assumption

theorem fastPath_within (arms d : Nat) (s : State) : Within 9455521 s (fastPath arms d s) := by
  delta fastPath
  lift_lets
  intro y0
  have h1 : Within 9455521 s y0 := by
    subst y0
    refine Within.step ?_ (State.inc_within ..) rfl
    exact Within.mono (State.wr_within ..) rfl
  clear_value y0
  intro y2
  have h3 : Within 9455521 s y2 := by
    subst y2
    refine Within.step ?_ (urgentBlock_within ..) rfl
    assumption
  clear_value y2
  intro y4
  have h5 : Within 9455521 s y4 := by
    subst y4
    refine Within.ite ?_ ?_
    · refine Within.step ?_ (blockAll_within ..) rfl
      assumption
    · refine Within.step ?_ (supersede_within ..) rfl
      assumption
  clear_value y4
  refine Within.step ?_ (raise_within ..) rfl
  assumption

theorem trip_within (d t : Nat) (s : State) : Within 9455521 s (trip d t s) := by
  delta trip
  lift_lets
  intro y0
  have h1 : Within 9455521 s y0 := by
    subst y0
    refine Within.step ?_ (State.inc_within ..) rfl
    exact Within.mono (State.wrs_within ..) rfl
  clear_value y0
  intro y2
  have h3 : Within 9455521 s y2 := by
    subst y2
    refine Within.step ?_ (State.wr64_within ..) rfl
    assumption
  clear_value y2
  intro y4
  have h5 : Within 9455521 s y4 := by
    subst y4
    refine Within.ite ?_ ?_
    · refine Within.step ?_ (ledgerFire_within ..) rfl
      assumption
    · assumption
  clear_value y4
  refine Within.ite ?_ ?_
  · refine Within.step ?_ (fastPath_within ..) rfl
    assumption
  · assumption

theorem compare_within (d : Nat) (code : Int) (t : Nat) (s : State) : Within 9717665 s (compare d code t s) := by
  delta compare
  lift_lets
  intro n0 n1 n2 n3 n4 n5 n6 n7 n8 y9
  have h10 : Within 9717665 s y9 := by
    subst y9
    refine Within.lmu ?_ _ rfl
    exact Within.refl _ _
  clear_value y9
  intro n11 y12
  have h13 : Within 9717665 s y12 := by
    subst y12
    refine Within.ite ?_ ?_
    · refine Within.step ?_ (unraise_within ..) rfl
      refine Within.step ?_ (State.wr_within ..) rfl
      assumption
    · assumption
  clear_value y12
  refine Within.ite ?_ ?_
  · refine Within.step ?_ (trip_within ..) rfl
    assumption
  · assumption

theorem fastFault_within (s : State) : Within 9455521 s (fastFault s) := by
  delta fastFault
  lift_lets
  intro y0
  have h1 : Within 9455521 s y0 := by
    subst y0
    exact Within.mono (raise_within ..) rfl
  clear_value y0
  intro y2
  have h3 : Within 9455521 s y2 := by
    subst y2
    refine Within.forAll ?_ fun a4 y5 h6 => ?_
    · assumption
    · refine Within.step ?_ (fastPath_within ..) rfl
      assumption
  clear_value y2
  refine Within.step ?_ (blockAll_within ..) rfl
  assumption

theorem State.setDecimator_within (s : State) (e : Nat) (v : List Int × Nat × Nat) : Within 262144 s (State.setDecimator s e v) := by
  delta State.setDecimator
  lift_lets
  intro n0
  refine Within.lmu ?_ _ rfl
  exact Within.refl _ _

theorem channelTake_within (d e : Nat) (code : Int) (sat : Bool) (t : Nat) (s : State) : Within 9717665 s (channelTake d e code sat t s) := by
  delta channelTake
  lift_lets
  intro y0
  have h1 : Within 9717665 s y0 := by
    subst y0
    exact Within.mono (State.wrs_within ..) rfl
  clear_value y0
  intro y2
  have h3 : Within 9717665 s y2 := by
    subst y2
    refine Within.step ?_ (State.wr64_within ..) rfl
    assumption
  clear_value y2
  intro n4 n5 y6
  have h7 : Within 9717665 s y6 := by
    subst y6
    refine Within.lmu ?_ _ rfl
    assumption
  clear_value y6
  refine Within.step ?_ (compare_within ..) rfl
  refine Within.ite ?_ ?_
  · refine Within.step ?_ (unraise_within ..) rfl
    assumption
  · assumption

theorem result_within (e : Nat) (code : Int) (t raw : Nat) (s : State) : Within 9717665 s (result e code t raw s) := by
  delta result
  lift_lets
  intro n0 n1 y2
  have h3 : Within 9717665 s y2 := by
    subst y2
    exact Within.mono (State.setDecimator_within ..) rfl
  clear_value y2
  intro n4 n5 y6
  have h7 : Within 9717665 s y6 := by
    subst y6
    refine Within.step ?_ (State.wrs_within ..) rfl
    assumption
  clear_value y6
  intro n8 y9
  have h10 : Within 9717665 s y9 := by
    subst y9
    refine Within.ite ?_ ?_
    · refine Within.step ?_ (channelTake_within ..) rfl
      assumption
    · assumption
  clear_value y9
  refine Within.forAll ?_ fun a11 y12 h13 => ?_
  · assumption
  · refine Within.step ?_ (meterTake_within ..) rfl
    assumption

theorem entryDone_within (e : Nat) (s : State) : Within 1 s (entryDone e s) := by
  delta entryDone
  split
  · refine Within.ite ?_ ?_
    · exact Within.mono (State.wr_within ..) rfl
    · exact Within.refl _ _
  · exact Within.refl _ _

theorem conversion_within (e : Nat) (code : Int) (age : Nat) (s : State) : Within 9717665 s (conversion e code age s) := by
  delta conversion
  lift_lets
  intro n0 n1 n2 n3 n4 n5 y6
  have h7 : Within 9717665 s y6 := by
    subst y6
    refine Within.ite ?_ ?_
    · exact Within.mono (entryDone_within ..) rfl
    · exact Within.refl _ _
  clear_value y6
  intro n8 y9
  have h10 : Within 9717665 s y9 := by
    subst y9
    refine Within.step ?_ (State.setDecimator_within ..) rfl
    assumption
  clear_value y9
  refine Within.ite ?_ ?_
  · refine Within.ite ?_ ?_
    · refine Within.step ?_ (result_within ..) rfl
      assumption
    · assumption
  · refine Within.step ?_ (result_within ..) rfl
    refine Within.step ?_ (State.setDecimator_within ..) rfl
    assumption

theorem seqApply_within (e : Nat) (s : State) : Within 262145 s (seqApply e s) := by
  delta seqApply
  lift_lets
  intro n0
  subst n0
  intro n1 n2 n3 n4 n5 y6
  have h7 : Within 262145 s y6 := by
    subst y6
    exact Within.mono (State.setDecimator_within ..) rfl
  clear_value y6
  intro n8
  subst n8
  intro n9 y10
  have h11 : Within 262145 s y10 := by
    subst y10
    refine Within.ite ?_ ?_
    · refine Within.lmu ?_ _ rfl
      assumption
    · assumption
  clear_value y10
  refine Within.step ?_ (State.applyCapt_within ..) rfl
  assumption

theorem commitApply_within (c : Nat) (s : State) : Within 262145 s (commitApply c s) := by
  delta commitApply
  refine Within.ite ?_ ?_
  · exact Within.refl _ _
  · lift_lets
    intro y0
    have h1 : Within 262145 s y0 := by
      subst y0
      refine Within.forAll ?_ fun a2 y3 h4 => ?_
      · exact Within.refl _ _
      · refine Within.step ?_ (seqApply_within ..) rfl
        assumption
    clear_value y0
    intro y5
    have h6 : Within 262145 s y5 := by
      subst y5
      refine Within.step ?_ (State.wr_within ..) rfl
      refine Within.step ?_ (State.applyCapt_within ..) rfl
      assumption
    clear_value y5
    refine Within.step ?_ (State.put_within ..) rfl
    assumption

theorem passStart_within (c : Nat) (s : State) : Within 262145 s (passStart c s) := by
  delta passStart
  lift_lets
  intro y0
  have h1 : Within 262145 s y0 := by
    subst y0
    exact Within.mono (commitApply_within ..) rfl
  clear_value y0
  refine Within.ite ?_ ?_
  · refine Within.step ?_ (State.wr_within ..) rfl
    assumption
  · refine Within.step ?_ (State.wrs_within ..) rfl
    assumption

theorem convIdle_within (c : Nat) (s : State) : Within 262145 s (convIdle c s) := by
  delta convIdle
  refine Within.ite ?_ ?_
  · exact Within.refl _ _
  · lift_lets
    intro y0
    have h1 : Within 262145 s y0 := by
      subst y0
      exact Within.mono (commitApply_within ..) rfl
    clear_value y0
    refine Within.ite ?_ ?_
    · refine Within.step ?_ (passStart_within ..) rfl
      assumption
    · assumption

theorem scommit_within (s : State) : Within 9717673 s (scommit s) := by
  delta scommit
  refine Within.ite ?_ ?_
  · exact Within.mono (State.wr_within ..) rfl
  · lift_lets
    intro n0 y1
    have h2 : Within 9717673 s y1 := by
      subst y1
      refine Within.foldl ?_ fun a3 y4 h5 => ?_
      · exact Within.refl _ _
      · refine Within.step ?_ (State.capture_within ..) rfl
        assumption
    clear_value y1
    intro y6
    have h7 : Within 9717673 s y6 := by
      subst y6
      refine Within.step ?_ (State.wrs_within ..) rfl
      assumption
    clear_value y6
    intro y8
    have h9 : Within 9717673 s y8 := by
      subst y8
      refine Within.forAll ?_ fun a10 y11 h12 => ?_
      · assumption
      · refine Within.step ?_ (seqApply_within ..) rfl
        assumption
    clear_value y8
    refine Within.ite ?_ ?_
    · refine Within.step ?_ (raise_within ..) rfl
      exact Within.mono (State.wr_within ..) rfl
    · refine Within.step ?_ (convIdle_within ..) rfl
      refine Within.step ?_ (convIdle_within ..) rfl
      assumption

theorem triggerDrop_within (f : Fld) (s : State) : Within 9455521 s (triggerDrop f s) := by
  delta triggerDrop
  refine Within.step ?_ (raise_within ..) rfl
  exact Within.mono (State.inc_within ..) rfl

theorem passRestart_within (c : Nat) (s : State) : Within 262145 s (passRestart c s) := by
  delta passRestart
  lift_lets
  intro n0 y1
  have h2 : Within 262145 s y1 := by
    subst y1
    exact Within.mono (State.inc_within ..) rfl
  clear_value y1
  intro y3
  have h4 : Within 262145 s y3 := by
    subst y3
    refine Within.ite ?_ ?_
    · refine Within.step ?_ (State.setDecimator_within ..) rfl
      assumption
    · refine Within.step ?_ (State.setDecimator_within ..) rfl
      assumption
  clear_value y3
  refine Within.step ?_ (passStart_within ..) rfl
  assumption

theorem lmuTrigger_within (c : Nat) (s : State) : Within 9717665 s (lmuTrigger c s) := by
  delta lmuTrigger
  refine Within.ite ?_ ?_
  · exact Within.refl _ _
  · refine Within.ite ?_ ?_
    · exact Within.mono (triggerDrop_within ..) rfl
    · refine Within.ite ?_ ?_
      · exact Within.mono (State.inc_within ..) rfl
      · refine Within.ite ?_ ?_
        · exact Within.mono (passStart_within ..) rfl
        · split
          · exact Within.mono (triggerDrop_within ..) rfl
          · exact Within.mono (passRestart_within ..) rfl
          · refine Within.ite ?_ ?_
            · exact Within.mono (triggerDrop_within ..) rfl
            · exact Within.mono (State.wr_within ..) rfl

theorem swTrigger_within (c : Nat) (s : State) : Within 9717665 s (swTrigger c s) := by
  delta swTrigger
  refine Within.ite ?_ ?_
  · exact Within.mono (lmuTrigger_within ..) rfl
  · exact Within.refl _ _

theorem passEnd_within (c : Nat) (s : State) : Within 9717665 s (passEnd c s) := by
  delta passEnd
  refine Within.ite ?_ ?_
  · exact Within.refl _ _
  · lift_lets
    intro y0
    have h1 : Within 9717665 s y0 := by
      subst y0
      refine Within.step ?_ (unraise_within ..) rfl
      exact Within.mono (State.wr_within ..) rfl
    clear_value y0
    intro y2
    have h3 : Within 9717665 s y2 := by
      subst y2
      refine Within.ite ?_ ?_
      · refine Within.step ?_ (passStart_within ..) rfl
        refine Within.step ?_ (State.wr_within ..) rfl
        assumption
      · refine Within.ite ?_ ?_
        · refine Within.step ?_ (passStart_within ..) rfl
          assumption
        · refine Within.step ?_ (convIdle_within ..) rfl
          assumption
    clear_value y2
    intro n4
    refine Within.ite ?_ ?_
    · refine Within.step ?_ (lmuTrigger_within ..) rfl
      assumption
    · assumption

theorem channelStale_within (d : Nat) (s : State) : Within 9717665 s (channelStale d s) := by
  delta channelStale
  lift_lets
  intro n0 n1
  refine Within.ite ?_ ?_
  · refine Within.step ?_ (raise_within ..) rfl
    refine Within.step ?_ (State.wr_within ..) rfl
    refine Within.lmu ?_ _ rfl
    exact Within.refl _ _
  · exact Within.refl _ _

theorem calStart_within (auto : Bool) (s : State) : Within 262145 s (calStart auto s) := by
  delta calStart
  refine Within.ite ?_ ?_
  · exact Within.refl _ _
  · lift_lets
    intro y0
    have h1 : Within 262145 s y0 := by
      subst y0
      exact Within.mono (State.wrs_within ..) rfl
    clear_value y0
    intro n2
    refine Within.lmu ?_ _ rfl
    assumption

theorem lmuLoaded_within (s : State) : Within 262145 s (lmuLoaded s) := by
  delta lmuLoaded
  lift_lets
  intro n0
  refine Within.step ?_ (State.wr_within ..) rfl
  refine Within.lmu ?_ _ rfl
  exact Within.refl _ _

theorem calDone_within (l : List (BitVec 16)) (s : State) : Within 9717665 s (calDone l s) := by
  delta calDone
  refine Within.ite ?_ ?_
  · exact Within.refl _ _
  · lift_lets
    intro n0
    subst n0
    intro n1 y2
    have h3 : Within 9717665 s y2 := by
      subst y2
      exact Within.mono (State.wrs_within ..) rfl
    clear_value y2
    intro y4
    have h5 : Within 9717665 s y4 := by
      subst y4
      refine Within.forAll ?_ fun a6 y7 h8 => ?_
      · assumption
      · refine Within.step ?_ (State.wrs_within ..) rfl
        assumption
    clear_value y4
    intro y9
    have h10 : Within 9717665 s y9 := by
      subst y9
      refine Within.ite ?_ ?_
      · refine Within.step ?_ (unraise_within ..) rfl
        refine Within.step ?_ (State.put_within ..) rfl
        refine Within.step ?_ (State.wr_within ..) rfl
        assumption
      · refine Within.step ?_ (raise_within ..) rfl
        refine Within.step ?_ (State.wrs_within ..) rfl
        assumption
    clear_value y9
    intro y11
    have h12 : Within 9717665 s y11 := by
      subst y11
      refine Within.forAll ?_ fun a13 y14 h15 => ?_
      · assumption
      · refine Within.ite ?_ ?_
        · refine Within.step ?_ (State.setDecimator_within ..) rfl
          assumption
        · refine Within.step ?_ (State.setDecimator_within ..) rfl
          assumption
    clear_value y11
    refine Within.step ?_ (convIdle_within ..) rfl
    refine Within.step ?_ (convIdle_within ..) rfl
    assumption

theorem refenWrite_within (on : Bool) (s : State) : Within 1 s (refenWrite on s) := by
  delta refenWrite
  refine Within.ite ?_ ?_
  · exact Within.mono (State.wr_within ..) rfl
  · refine Within.ite ?_ ?_
    · exact Within.mono (State.wr_within ..) rfl
    · exact Within.mono (State.wrs_within ..) rfl

theorem refFault_within (on : Bool) (s : State) : Within 9455521 s (refFault on s) := by
  delta refFault
  refine Within.step ?_ (condition_within ..) rfl
  exact Within.mono (State.put_within ..) rfl

theorem lmuCntclr_within (s : State) : Within 1 s (lmuCntclr s) := by
  delta lmuCntclr
  lift_lets
  intro y0
  have h1 : Within 1 s y0 := by
    subst y0
    refine Within.forAll ?_ fun a2 y3 h4 => ?_
    · exact Within.refl _ _
    · refine Within.step ?_ (State.wrs_within ..) rfl
      assumption
  clear_value y0
  refine Within.step ?_ (State.wr_within ..) rfl
  refine Within.forAll ?_ fun a5 y6 h7 => ?_
  · assumption
  · refine Within.step ?_ (State.wr_within ..) rfl
    assumption

end Sys2Proof.Machine
end

