-- ==== Sys2Proof/Laws/WithinWbQueue.lean ====
section
/-! SUPPORT. The footprints of the operations of `Sys2Proof/Machine/WbQueue.lean`. -/

namespace Sys2Proof.Machine

theorem wbSync_within (s : State) : Within 1 s (wbSync s) := by
  delta wbSync
  lift_lets
  intro n0 y1
  have h2 : Within 1 s y1 := by
    subst y1
    refine Within.step ?_ (State.wr_within ..) rfl
    exact Within.mono (State.wr_within ..) rfl
  clear_value y1
  intro n3
  refine Within.step ?_ (State.wrs_within ..) rfl
  assumption

theorem wbAdd_within (e : WbEntry) (s : State) : Within 8520193 s (wbAdd e s) := by
  delta wbAdd
  lift_lets
  intro n0 y1
  have h2 : Within 8520193 s y1 := by
    subst y1
    refine Within.step ?_ (wbSync_within ..) rfl
    refine Within.wb ?_ _ rfl
    exact Within.refl _ _
  clear_value y1
  refine Within.ite ?_ ?_
  · refine Within.step ?_ (State.event_within ..) rfl
    refine Within.step ?_ (State.wr_within ..) rfl
    assumption
  · assumption

theorem wbRemove_within (i : Nat) (s : State) : Within 131073 s (wbRemove i s) := by
  delta wbRemove
  lift_lets
  intro n0
  refine Within.step ?_ (wbSync_within ..) rfl
  refine Within.wb ?_ _ rfl
  exact Within.refl _ _

theorem wbFull_within (s : State) : Within 9455521 s (wbFull s) := by
  delta wbFull
  refine Within.step ?_ (raise_within ..) rfl
  refine Within.step ?_ (State.inc_within ..) rfl
  exact Within.mono (State.wr_within ..) rfl

theorem wbComplete_within (e : WbEntry) (late dropped : Bool) (s : State) : Within 9586593 s (wbComplete e late dropped s) := by
  delta wbComplete
  refine Within.ite ?_ ?_
  · exact Within.refl _ _
  · refine Within.ite ?_ ?_
    · refine Within.step ?_ (raise_within ..) rfl
      exact Within.mono (State.wr_within ..) rfl
    · lift_lets
      intro n0 n1
      refine Within.step ?_ (State.event_within ..) rfl
      refine Within.step ?_ (wbSync_within ..) rfl
      refine Within.wb ?_ _ rfl
      exact Within.refl _ _

theorem wbWindows_within (s : State) : Within 262145 s (wbWindows s) := by
  delta wbWindows
  lift_lets
  intro n0 n1 y2
  have h3 : Within 262145 s y2 := by
    subst y2
    exact Within.mono (State.wr_within ..) rfl
  clear_value y2
  refine Within.forAll ?_ fun a4 y5 h6 => ?_
  · assumption
  · refine Within.ite ?_ ?_
    · refine Within.step ?_ (lmuWinOpen_within ..) rfl
      assumption
    · refine Within.ite ?_ ?_
      · refine Within.step ?_ (lmuWinShut_within ..) rfl
        assumption
      · assumption

theorem wbCancel_within (tag mask : Nat) (s : State) : Within 393217 s (wbCancel tag mask s) := by
  delta wbCancel
  lift_lets
  intro n0
  subst n0
  intro n1 n2 n3 n4
  refine Within.step ?_ (State.wr_within ..) rfl
  refine Within.step ?_ (wbWindows_within ..) rfl
  refine Within.step ?_ (wbSync_within ..) rfl
  refine Within.wb ?_ _ rfl
  exact Within.refl _ _

theorem wbStop_within (s : State) : Within 131073 s (wbStop s) := by
  delta wbStop
  lift_lets
  intro n0 n1
  refine Within.step ?_ (wbSync_within ..) rfl
  refine Within.step ?_ (State.inc_within ..) rfl
  refine Within.wb ?_ _ rfl
  exact Within.refl _ _

end Sys2Proof.Machine
end

