-- ==== Sys2Proof/Laws/WithinLink.lean ====
section
/-! SUPPORT. The footprints of the operations of `Sys2Proof/Machine/Link.lean`. -/

namespace Sys2Proof.Machine

theorem standbyJudge_within (s : State) : Within 9455521 s (standbyJudge s) := by
  delta standbyJudge
  lift_lets
  intro n0 y1
  have h2 : Within 9455521 s y1 := by
    subst y1
    exact Within.mono (State.putBit_within ..) rfl
  clear_value y1
  intro y3
  have h4 : Within 9455521 s y3 := by
    subst y3
    refine Within.step ?_ (State.putBit_within ..) rfl
    assumption
  clear_value y3
  intro y5
  have h6 : Within 9455521 s y5 := by
    subst y5
    refine Within.step ?_ (State.putBit_within ..) rfl
    assumption
  clear_value y5
  intro y7
  have h8 : Within 9455521 s y7 := by
    subst y7
    refine Within.step ?_ (State.putBit_within ..) rfl
    assumption
  clear_value y7
  refine Within.step ?_ (readyJudge_within ..) rfl
  assumption

theorem linkState_within (n : Nat) (s : State) : Within 8389121 s (linkState n s) := by
  delta linkState
  refine Within.ite ?_ ?_
  · exact Within.refl _ _
  · refine Within.step ?_ (State.event_within ..) rfl
    exact Within.mono (State.wr_within ..) rfl

theorem unsync_within (s : State) : Within 1048577 s (unsync s) := by
  delta unsync
  lift_lets
  intro n0
  refine Within.step ?_ (State.wrs_within ..) rfl
  refine Within.twn ?_ _ rfl
  exact Within.refl _ _

theorem setLanes_within (mask : Nat) (s : State) : Within 9455521 s (setLanes mask s) := by
  delta setLanes
  lift_lets
  intro y0
  have h1 : Within 9455521 s y0 := by
    subst y0
    refine Within.step ?_ (twinFigures_within ..) rfl
    exact Within.mono (State.wr_within ..) rfl
  clear_value y0
  refine Within.ite ?_ ?_
  · refine Within.step ?_ (unraise_within ..) rfl
    assumption
  · assumption

theorem relayStart_within (s : State) : Within 9455521 s (relayStart s) := by
  delta relayStart
  refine Within.ite ?_ ?_
  · exact Within.refl _ _
  · lift_lets
    intro n0 y1
    have h2 : Within 9455521 s y1 := by
      subst y1
      refine Within.twn ?_ _ rfl
      exact Within.refl _ _
    clear_value y1
    refine Within.step ?_ (standbyJudge_within ..) rfl
    refine Within.step ?_ (unsync_within ..) rfl
    refine Within.step ?_ (State.emit_within ..) rfl
    refine Within.step ?_ (linkState_within ..) rfl
    assumption

theorem relayOff_within (s : State) : Within 9455521 s (relayOff s) := by
  delta relayOff
  refine Within.ite ?_ ?_
  · exact Within.refl _ _
  · refine Within.step ?_ (standbyJudge_within ..) rfl
    refine Within.step ?_ (unsync_within ..) rfl
    refine Within.step ?_ (setLanes_within ..) rfl
    refine Within.step ?_ (State.wr_within ..) rfl
    exact Within.mono (linkState_within ..) rfl

theorem linkLost_within (s : State) : Within 9455521 s (linkLost s) := by
  delta linkLost
  refine Within.ite ?_ ?_
  · lift_lets
    intro n0 y1
    have h2 : Within 9455521 s y1 := by
      subst y1
      refine Within.twn ?_ _ rfl
      exact Within.refl _ _
    clear_value y1
    refine Within.step ?_ (standbyJudge_within ..) rfl
    refine Within.step ?_ (raise_within ..) rfl
    refine Within.step ?_ (State.wrs_within ..) rfl
    refine Within.step ?_ (linkState_within ..) rfl
    assumption
  · exact Within.refl _ _

theorem alignAtUp_within (s : State) : Within 9455521 s (alignAtUp s) := by
  delta alignAtUp
  lift_lets
  intro n0 n1 n2
  refine Within.ite ?_ ?_
  · exact Within.refl _ _
  · refine Within.ite ?_ ?_
    · refine Within.ite ?_ ?_
      · exact Within.refl _ _
      · refine Within.step ?_ (raiseEach_within ..) rfl
        exact Within.mono (State.putBit_within ..) rfl
    · refine Within.ite ?_ ?_
      · refine Within.twn ?_ _ rfl
        exact Within.refl _ _
      · exact Within.refl _ _

theorem linkUp_within (lrly : Nat) (s : State) : Within 9455521 s (linkUp lrly s) := by
  delta linkUp
  lift_lets
  intro n0 y1
  have h2 : Within 9455521 s y1 := by
    subst y1
    refine Within.twn ?_ _ rfl
    exact Within.refl _ _
  clear_value y1
  intro y3
  have h4 : Within 9455521 s y3 := by
    subst y3
    refine Within.step ?_ (State.wr_within ..) rfl
    refine Within.step ?_ (State.wr_within ..) rfl
    assumption
  clear_value y3
  intro y5
  have h6 : Within 9455521 s y5 := by
    subst y5
    refine Within.step ?_ (unraise_within ..) rfl
    refine Within.step ?_ (unraise_within ..) rfl
    refine Within.step ?_ (unsync_within ..) rfl
    refine Within.step ?_ (setLanes_within ..) rfl
    refine Within.step ?_ (linkState_within ..) rfl
    assumption
  clear_value y5
  refine Within.step ?_ (standbyJudge_within ..) rfl
  refine Within.step ?_ (alignAtUp_within ..) rfl
  assumption

theorem partnerDetected_within (s : State) : Within 9437697 s (partnerDetected s) := by
  delta partnerDetected
  refine Within.ite ?_ ?_
  · lift_lets
    intro n0
    refine Within.step ?_ (State.emit_within ..) rfl
    refine Within.step ?_ (linkState_within ..) rfl
    refine Within.twn ?_ _ rfl
    exact Within.refl _ _
  · exact Within.refl _ _

theorem laneLoss_within (j : Nat) (s : State) : Within 9455521 s (laneLoss j s) := by
  delta laneLoss
  refine Within.ite ?_ ?_
  · lift_lets
    intro n0
    refine Within.ite ?_ ?_
    · refine Within.step ?_ (linkLost_within ..) rfl
      exact Within.mono (raiseEach_within ..) rfl
    · refine Within.step ?_ (raiseEach_within ..) rfl
      exact Within.mono (setLanes_within ..) rfl
  · exact Within.refl _ _

theorem laneRejoin_within (j : Nat) (s : State) : Within 9455521 s (laneRejoin j s) := by
  delta laneRejoin
  refine Within.ite ?_ ?_
  · refine Within.step ?_ (standbyJudge_within ..) rfl
    exact Within.mono (setLanes_within ..) rfl
  · exact Within.refl _ _

theorem relayRetrain_within (s : State) : Within 9455521 s (relayRetrain s) := by
  delta relayRetrain
  refine Within.ite ?_ ?_
  · refine Within.step ?_ (relayStart_within ..) rfl
    exact Within.mono (relayOff_within ..) rfl
  · exact Within.refl _ _

theorem twnCntclr_within (s : State) : Within 1 s (twnCntclr s) := by
  delta twnCntclr
  exact Within.mono (State.wrs_within ..) rfl

theorem crcError_within (s : State) : Within 9455521 s (crcError s) := by
  delta crcError
  lift_lets
  intro n0 n1 n2 y3
  have h4 : Within 9455521 s y3 := by
    subst y3
    refine Within.step ?_ (State.inc_within ..) rfl
    refine Within.twn ?_ _ rfl
    exact Within.refl _ _
  clear_value y3
  refine Within.ite ?_ ?_
  · refine Within.step ?_ (raise_within ..) rfl
    assumption
  · assumption

theorem idReceived_within (mid : Nat) (pref : Bool) (epoch role state image : Nat) (crcs : List Nat) (cyc base : Nat) (tw : Bool) (s : State) : Within 9455521 s (idReceived mid pref epoch role state image crcs cyc base tw s) := by
  delta idReceived
  refine Within.ite ?_ ?_
  · exact Within.refl _ _
  · lift_lets
    intro y0
    have h1 : Within 9455521 s y0 := by
      subst y0
      exact Within.mono (State.wrs_within ..) rfl
    clear_value y0
    intro n2 n3 y4
    have h5 : Within 9455521 s y4 := by
      subst y4
      refine Within.twn ?_ _ rfl
      assumption
    clear_value y4
    refine Within.step ?_ (standbyJudge_within ..) rfl
    refine Within.step ?_ (condition_within ..) rfl
    assumption

theorem cycleMark_within (cv : Nat) (s : State) : Within 1 s (cycleMark cv s) := by
  delta cycleMark
  refine Within.ite ?_ ?_
  · exact Within.refl _ _
  · lift_lets
    intro n0 n1 n2
    refine Within.step ?_ (State.wr_within ..) rfl
    exact Within.mono (State.inc_within ..) rfl

theorem hbSend_within (s : State) : Within 8388608 s (hbSend s) := by
  delta hbSend
  exact Within.mono (State.relay_within ..) rfl

theorem alignChange_within (s : State) : Within 9455521 s (alignChange s) := by
  delta alignChange
  lift_lets
  intro n0
  refine Within.ite ?_ ?_
  · refine Within.step ?_ (readyJudge_within ..) rfl
    refine Within.step ?_ (raise_within ..) rfl
    exact Within.mono (State.putBit_within ..) rfl
  · refine Within.ite ?_ ?_
    · refine Within.step ?_ (readyJudge_within ..) rfl
      refine Within.step ?_ (unraise_within ..) rfl
      exact Within.mono (State.putBit_within ..) rfl
    · exact Within.refl _ _

theorem alignCycle_within (s : State) : Within 9455521 s (alignCycle s) := by
  delta alignCycle
  lift_lets
  intro n0 n1 n2
  refine Within.step ?_ (alignChange_within ..) rfl
  refine Within.twn ?_ _ rfl
  exact Within.refl _ _

theorem standbyEpoch_within (s : State) : Within 1 s (standbyEpoch s) := by
  delta standbyEpoch
  refine Within.ite ?_ ?_
  · exact Within.mono (State.wr_within ..) rfl
  · exact Within.refl _ _

theorem partnerDegraded_within (on : Bool) (s : State) : Within 9455521 s (partnerDegraded on s) := by
  delta partnerDegraded
  refine Within.step ?_ (condition_within ..) rfl
  exact Within.mono (State.put_within ..) rfl

theorem hbReceived_within (ok : Bool) (cyc base state role epoch flags : Nat) (nr : Bool) (s : State) : Within 9455521 s (hbReceived ok cyc base state role epoch flags nr s) := by
  delta hbReceived
  refine Within.ite ?_ ?_
  · exact Within.refl _ _
  · refine Within.ite ?_ ?_
    · exact Within.mono (crcError_within ..) rfl
    · lift_lets
      intro y0
      have h1 : Within 9455521 s y0 := by
        subst y0
        exact Within.mono (State.wrs_within ..) rfl
      clear_value y0
      intro y2
      have h3 : Within 9455521 s y2 := by
        subst y2
        refine Within.ite ?_ ?_
        · assumption
        · refine Within.step ?_ (State.event_within ..) rfl
          refine Within.step ?_ (State.put_within ..) rfl
          assumption
      clear_value y2
      intro n4 n5 y6
      have h7 : Within 9455521 s y6 := by
        subst y6
        refine Within.twn ?_ _ rfl
        assumption
      clear_value y6
      intro y8
      have h9 : Within 9455521 s y8 := by
        subst y8
        refine Within.step ?_ (partnerDegraded_within ..) rfl
        assumption
      clear_value y8
      refine Within.step ?_ (standbyJudge_within ..) rfl
      refine Within.step ?_ (alignCycle_within ..) rfl
      refine Within.step ?_ (standbyEpoch_within ..) rfl
      assumption

end Sys2Proof.Machine
end

