-- ==== Sys2Proof/Laws/WithinSbu.lean ====
section
/-! SUPPORT. The footprints of the operations of `Sys2Proof/Machine/Sbu.lean`. -/

namespace Sys2Proof.Machine

theorem State.setPair_within (s : State) (p : Nat) (f : SbuPair → SbuPair) : Within 524288 s (State.setPair s p f) := by
  delta State.setPair
  lift_lets
  intro n0
  refine Within.sbu ?_ _ rfl
  exact Within.refl _ _

theorem State.setPath_within (s : State) (k : Nat) (f : SbuPath → SbuPath) : Within 524288 s (State.setPath s k f) := by
  delta State.setPath
  lift_lets
  intro n0
  refine Within.sbu ?_ _ rfl
  exact Within.refl _ _

theorem sbuRaise_within (fs : Nat) (s : State) : Within 9455521 s (sbuRaise fs s) := by
  delta sbuRaise
  refine Within.ite ?_ ?_
  · exact Within.mono (raise_within ..) rfl
  · exact Within.refl _ _

theorem sbuUnraise_within (fs : Nat) (s : State) : Within 8406945 s (sbuUnraise fs s) := by
  delta sbuUnraise
  refine Within.ite ?_ ?_
  · exact Within.mono (unraise_within ..) rfl
  · exact Within.refl _ _

theorem deEnergise_within (k : Nat) (s : State) : Within 524288 s (deEnergise k s) := by
  delta deEnergise
  lift_lets
  intro y0
  have h1 : Within 524288 s y0 := by
    subst y0
    exact Within.mono (State.setPath_within ..) rfl
  clear_value y0
  intro y2
  have h3 : Within 524288 s y2 := by
    subst y2
    refine Within.step ?_ (State.setPath_within ..) rfl
    assumption
  clear_value y2
  intro n4
  refine Within.ite ?_ ?_
  · refine Within.sbu ?_ _ rfl
    assumption
  · assumption

theorem driveOne_within (k : Nat) (s : State) : Within 524288 s (driveOne k s) := by
  delta driveOne
  lift_lets
  intro n0
  refine Within.ite ?_ ?_
  · exact Within.mono (deEnergise_within ..) rfl
  · refine Within.ite ?_ ?_
    · exact Within.mono (State.setPath_within ..) rfl
    · exact Within.refl _ _

theorem driveAll_within (s : State) : Within 524288 s (driveAll s) := by
  delta driveAll
  refine Within.step ?_ (driveOne_within ..) rfl
  exact Within.mono (driveOne_within ..) rfl

theorem openPaths_within (s : State) : Within 524288 s (openPaths s) := by
  delta openPaths
  refine Within.forAll ?_ fun a0 y1 h2 => ?_
  · exact Within.refl _ _
  · refine Within.ite ?_ ?_
    · refine Within.step ?_ (deEnergise_within ..) rfl
      assumption
    · assumption

theorem sbuCause_within (b : Nat) (path : Option Nat) (s : State) : Within 9979809 s (sbuCause b path s) := by
  delta sbuCause
  lift_lets
  intro n0 y1
  have h2 : Within 9979809 s y1 := by
    subst y1
    refine Within.sbu ?_ _ rfl
    exact Within.refl _ _
  clear_value y1
  refine Within.step ?_ (sbuRaise_within ..) rfl
  refine Within.step ?_ (openPaths_within ..) rfl
  assumption

theorem readbackFault_within (k : Nat) (open_ : Bool) (s : State) : Within 9979809 s (readbackFault k open_ s) := by
  delta readbackFault
  refine Within.ite ?_ ?_
  · refine Within.step ?_ (sbuRaise_within ..) rfl
    exact Within.mono (sbuCause_within ..) rfl
  · exact Within.mono (sbuCause_within ..) rfl

theorem oscFault_within (s : State) : Within 9979809 s (oscFault s) := by
  delta oscFault
  exact Within.mono (sbuCause_within ..) rfl

theorem xchkFault_within (s : State) : Within 9979809 s (xchkFault s) := by
  delta xchkFault
  exact Within.mono (sbuCause_within ..) rfl

theorem vsafeJudge_within (ok : Bool) (s : State) : Within 9979809 s (vsafeJudge ok s) := by
  delta vsafeJudge
  lift_lets
  intro n0 y1
  have h2 : Within 9979809 s y1 := by
    subst y1
    refine Within.sbu ?_ _ rfl
    exact Within.refl _ _
  clear_value y1
  refine Within.ite ?_ ?_
  · refine Within.step ?_ (sbuUnraise_within ..) rfl
    assumption
  · refine Within.ite ?_ ?_
    · refine Within.step ?_ (sbuRaise_within ..) rfl
      refine Within.step ?_ (openPaths_within ..) rfl
      assumption
    · refine Within.step ?_ (openPaths_within ..) rfl
      assumption

theorem cfgCheck_within (sec : List Byte) (crc : Nat) (s : State) : Within 9979809 s (cfgCheck sec crc s) := by
  delta cfgCheck
  refine Within.ite ?_ ?_
  · exact Within.refl _ _
  · exact Within.mono (sbuCause_within ..) rfl

theorem sbuHandover_within (sec : List Byte) (crc : Nat) (s : State) : Within 9979809 s (sbuHandover sec crc s) := by
  delta sbuHandover
  lift_lets
  intro n0
  refine Within.step ?_ (cfgCheck_within ..) rfl
  refine Within.sbu ?_ _ rfl
  exact Within.refl _ _

theorem sbuShowCrc_within (s : State) : Within 1 s (sbuShowCrc s) := by
  delta sbuShowCrc
  exact Within.mono (State.wr_within ..) rfl

theorem sbuActivate_within (s : State) : Within 524289 s (sbuActivate s) := by
  delta sbuActivate
  split
  · rename_i u0 u1 u2 u3 u4 u5
    lift_lets
    intro y6
    have h7 : Within 524289 s y6 := by
      subst y6
      exact Within.refl _ _
    clear_value y6
    intro n8 y9
    have h10 : Within 524289 s y9 := by
      subst y9
      refine Within.sbu ?_ _ rfl
      exact Within.refl _ _
    clear_value y9
    intro y11
    have h12 : Within 524289 s y11 := by
      subst y11
      refine Within.forAll ?_ fun a13 y14 h15 => ?_
      · assumption
      · lift_lets
        intro n16 y17
        have h18 : Within 524289 s y17 := by
          subst y17
          refine Within.ite ?_ ?_
          · refine Within.step ?_ (State.setPair_within ..) rfl
            assumption
          · assumption
        clear_value y17
        refine Within.ite ?_ ?_
        · assumption
        · refine Within.step ?_ (State.setPair_within ..) rfl
          assumption
    clear_value y11
    refine Within.ite ?_ ?_
    · refine Within.step ?_ (State.wr_within ..) rfl
      refine Within.step ?_ (sbuShowCrc_within ..) rfl
      assumption
    · assumption
  · exact Within.refl _ _

theorem filterChange_within (p ch : Nat) (s : State) : Within 524288 s (filterChange p ch s) := by
  delta filterChange
  lift_lets
  intro n0 n1 y2
  have h3 : Within 524288 s y2 := by
    subst y2
    refine Within.ite ?_ ?_
    · exact Within.refl _ _
    · refine Within.ite ?_ ?_
      · exact Within.mono (State.setPair_within ..) rfl
      · exact Within.mono (State.setPair_within ..) rfl
  clear_value y2
  intro y4
  have h5 : Within 524288 s y4 := by
    subst y4
    refine Within.step ?_ (State.setPair_within ..) rfl
    assumption
  clear_value y4
  intro n6 y7
  have h8 : Within 524288 s y7 := by
    subst y7
    refine Within.ite ?_ ?_
    · refine Within.sbu ?_ _ rfl
      assumption
    · assumption
  clear_value y7
  refine Within.step ?_ (openPaths_within ..) rfl
  assumption

theorem discLatch_within (p : Nat) (s : State) : Within 9979809 s (discLatch p s) := by
  delta discLatch
  refine Within.ite ?_ ?_
  · lift_lets
    intro y0
    have h1 : Within 9979809 s y0 := by
      subst y0
      exact Within.mono (State.setPair_within ..) rfl
    clear_value y0
    refine Within.step ?_ (sbuRaise_within ..) rfl
    refine Within.step ?_ (openPaths_within ..) rfl
    assumption
  · exact Within.refl _ _

theorem pairProof_within (p : Nat) (s : State) : Within 8931233 s (pairProof p s) := by
  delta pairProof
  lift_lets
  intro n0 n1 n2 y3
  have h4 : Within 8931233 s y3 := by
    subst y3
    exact Within.mono (State.setPair_within ..) rfl
  clear_value y3
  refine Within.ite ?_ ?_
  · exact Within.refl _ _
  · refine Within.ite ?_ ?_
    · exact Within.mono (State.setPair_within ..) rfl
    · refine Within.ite ?_ ?_
      · refine Within.ite ?_ ?_
        · refine Within.step ?_ (sbuUnraise_within ..) rfl
          refine Within.step ?_ (State.setPair_within ..) rfl
          assumption
        · assumption
      · exact Within.refl _ _

theorem pairTick_within (si p : Nat) (s : State) : Within 9979809 s (pairTick si p s) := by
  delta pairTick
  lift_lets
  intro n0 y1
  have h2 : Within 9979809 s y1 := by
    subst y1
    exact Within.mono (State.setPair_within ..) rfl
  clear_value y1
  refine Within.ite h2 ?_
  · generalize hy : filterChange p 1 (filterChange p 0 y1) = y3
    have h4 : Within 9979809 s y3 := by
      subst hy
      refine Within.step ?_ (filterChange_within ..) rfl
      refine Within.step ?_ (filterChange_within ..) rfl
      assumption
    refine Within.step ?_ (pairProof_within ..) rfl
    refine Within.step ?_ (discLatch_within ..) rfl
    refine Within.step ?_ (State.setPair_within ..) rfl
    assumption

theorem preqTick_within (ea eb : Nat) (s : State) : Within 524288 s (preqTick ea eb s) := by
  delta preqTick
  lift_lets
  intro n0 n1 n2 n3 n4 y5
  have h6 : Within 524288 s y5 := by
    subst y5
    refine Within.sbu ?_ _ rfl
    exact Within.refl _ _
  clear_value y5
  refine Within.ite ?_ ?_
  · assumption
  · refine Within.forAll ?_ fun a7 y8 h9 => ?_
    · assumption
    · refine Within.step ?_ (State.setPath_within ..) rfl
      assumption

theorem sbuTick_within (si ea eb vsafe rb : Nat) (s : State) : Within 9979809 s (sbuTick si ea eb vsafe rb s) := by
  delta sbuTick
  refine Within.ite ?_ ?_
  · exact Within.refl _ _
  · lift_lets
    intro n0 y1
    have h2 : Within 9979809 s y1 := by
      subst y1
      refine Within.sbu ?_ _ rfl
      exact Within.refl _ _
    clear_value y1
    intro y3
    have h4 : Within 9979809 s y3 := by
      subst y3
      refine Within.step ?_ (sbuActivate_within ..) rfl
      assumption
    clear_value y3
    intro y5
    have h6 : Within 9979809 s y5 := by
      subst y5
      refine Within.ite ?_ ?_
      · refine Within.step ?_ (cfgCheck_within ..) rfl
        assumption
      · assumption
    clear_value y5
    intro y7
    have h8 : Within 9979809 s y7 := by
      subst y7
      refine Within.step ?_ (preqTick_within ..) rfl
      assumption
    clear_value y7
    intro y9
    have h10 : Within 9979809 s y9 := by
      subst y9
      refine Within.forAll ?_ fun a11 y12 h13 => ?_
      · assumption
      · refine Within.step ?_ (State.setPath_within ..) rfl
        assumption
    clear_value y9
    intro y14
    have h15 : Within 9979809 s y14 := by
      subst y14
      refine Within.forAll ?_ fun a16 y17 h18 => ?_
      · assumption
      · refine Within.step ?_ (pairTick_within ..) rfl
        assumption
    clear_value y14
    intro y19
    have h20 : Within 9979809 s y19 := by
      subst y19
      refine Within.step ?_ (vsafeJudge_within ..) rfl
      assumption
    clear_value y19
    refine Within.step ?_ (driveAll_within ..) rfl
    assumption

theorem testPulse_within (k : Nat) (low : Bool) (s : State) : Within 524288 s (testPulse k low s) := by
  delta testPulse
  refine Within.ite ?_ ?_
  · exact Within.mono (State.setPath_within ..) rfl
  · exact Within.refl _ _

theorem testEnd_within (k rb : Nat) (s : State) : Within 9979809 s (testEnd k rb s) := by
  delta testEnd
  lift_lets
  intro n0 y1
  have h2 : Within 9979809 s y1 := by
    subst y1
    exact Within.mono (State.setPath_within ..) rfl
  clear_value y1
  refine Within.ite ?_ ?_
  · exact Within.refl _ _
  · refine Within.ite ?_ ?_
    · refine Within.step ?_ (State.setPath_within ..) rfl
      assumption
    · refine Within.step ?_ (sbuCause_within ..) rfl
      assumption

theorem sbuClear_within (s : State) : Within 8931233 s (sbuClear s) := by
  delta sbuClear
  lift_lets
  intro n0 n1 y2
  have h3 : Within 8931233 s y2 := by
    subst y2
    refine Within.sbu ?_ _ rfl
    exact Within.refl _ _
  clear_value y2
  intro y4
  have h5 : Within 8931233 s y4 := by
    subst y4
    refine Within.step ?_ (sbuUnraise_within ..) rfl
    assumption
  clear_value y4
  refine Within.ite ?_ ?_
  · refine Within.step ?_ (sbuUnraise_within ..) rfl
    assumption
  · assumption

theorem sbuCommand_within (code key : Nat) (s : State) : Within 8931233 s (sbuCommand code key s) := by
  delta sbuCommand
  lift_lets
  intro y0
  have h1 : Within 8931233 s y0 := by
    subst y0
    refine Within.step ?_ (State.event_within ..) rfl
    exact Within.mono (State.wr_within ..) rfl
  clear_value y0
  refine Within.ite ?_ ?_
  · refine Within.step ?_ (State.wr_within ..) rfl
    assumption
  · refine Within.ite ?_ ?_
    · refine Within.step ?_ (State.wr_within ..) rfl
      assumption
    · refine Within.step ?_ (State.wr_within ..) rfl
      refine Within.step ?_ (sbuClear_within ..) rfl
      assumption

theorem sbuShow_within (s : State) : Within 1 s (sbuShow s) := by
  delta sbuShow
  lift_lets
  intro n0 y1
  have h2 : Within 1 s y1 := by
    subst y1
    exact Within.mono (State.wrs_within ..) rfl
  clear_value y1
  intro y3
  have h4 : Within 1 s y3 := by
    subst y3
    refine Within.forAll ?_ fun a5 y6 h7 => ?_
    · assumption
    · lift_lets
      intro n8
      refine Within.step ?_ (State.wrs_within ..) rfl
      assumption
  clear_value y3
  refine Within.forAll ?_ fun a9 y10 h11 => ?_
  · assumption
  · lift_lets
    intro n12
    refine Within.step ?_ (State.wrs_within ..) rfl
    assumption

theorem statusReceived_within (s : State) : Within 9979809 s (statusReceived s) := by
  delta statusReceived
  refine Within.ite ?_ ?_
  · exact Within.mono (sbuShow_within ..) rfl
  · lift_lets
    intro n0 y1
    have h2 : Within 9979809 s y1 := by
      subst y1
      refine Within.step ?_ (unraise_within ..) rfl
      exact Within.mono (sbuShow_within ..) rfl
    clear_value y1
    intro y3
    have h4 : Within 9979809 s y3 := by
      subst y3
      refine Within.ite ?_ ?_
      · assumption
      · refine Within.step ?_ (State.event_within ..) rfl
        assumption
    clear_value y3
    intro n5 y6
    have h7 : Within 9979809 s y6 := by
      subst y6
      refine Within.sbu ?_ _ rfl
      assumption
    clear_value y6
    intro y8
    have h9 : Within 9979809 s y8 := by
      subst y8
      refine Within.ite ?_ ?_
      · refine Within.step ?_ (raise_within ..) rfl
        assumption
      · refine Within.ite ?_ ?_
        · refine Within.step ?_ (unraise_within ..) rfl
          assumption
        · assumption
    clear_value y8
    refine Within.forAll ?_ fun a10 y11 h12 => ?_
    · assumption
    · refine Within.step ?_ (raise_within ..) rfl
      assumption

theorem sbuBlank_within (s : State) : Within 1 s (sbuBlank s) :=
  (Within.refl 1 s).regs _ rfl fun c => Sparse.keep_wf _ _ c.regs

theorem statusLost_within (s : State) : Within 9455521 s (statusLost s) := by
  delta statusLost
  refine Within.ite ?_ ?_
  · refine Within.step ?_ (raise_within ..) rfl
    refine Within.step ?_ (State.event_within ..) rfl
    exact Within.mono (sbuBlank_within ..) rfl
  · exact Within.refl _ _

end Sys2Proof.Machine
end

