-- ==== Sys2Proof/Laws/WithinTimebase.lean ====
section
/-! SUPPORT. The footprints of the operations of `Sys2Proof/Machine/Timebase.lean`. -/

namespace Sys2Proof.Machine

theorem syncJudge_within (s : State) : Within 1 s (syncJudge s) := by
  delta syncJudge
  lift_lets
  intro n0 n1
  refine Within.step ?_ (State.put_within ..) rfl
  exact Within.mono (State.put_within ..) rfl

theorem setRate_within (rate : Int) (s : State) : Within 65 s (setRate rate s) := by
  delta setRate
  lift_lets
  intro n0 n1
  refine Within.step ?_ (State.wr_within ..) rfl
  refine Within.tb ?_ _ rfl (.inr rfl)
  exact Within.refl _ _

theorem slewTick_within (s : State) : Within 64 s (slewTick s) := by
  delta slewTick
  refine Within.ite ?_ ?_
  · lift_lets
    intro n0
    refine Within.tb ?_ _ rfl (.inr rfl)
    exact Within.refl _ _
  · exact Within.refl _ _

theorem rawTick_within (s : State) : Within 33554496 s (rawTick s) := by
  delta rawTick
  refine Within.ite ?_ ?_
  · lift_lets
    intro n0
    refine Within.tb ?_ _ rfl (.inl rfl)
    exact Within.refl _ _
  · lift_lets
    intro n1
    refine Within.tb ?_ _ rfl (.inl rfl)
    exact Within.refl _ _

theorem tick_within (s : State) : Within 33554496 s (tick s) := by
  delta tick
  refine Within.step ?_ (slewTick_within ..) rfl
  exact Within.mono (rawTick_within ..) rfl

theorem slewEnd_within (s : State) : Within 65 s (slewEnd s) := by
  delta slewEnd
  lift_lets
  intro n0
  refine Within.step ?_ (State.wr_within ..) rfl
  refine Within.step ?_ (State.wr_within ..) rfl
  refine Within.tb ?_ _ rfl (.inr rfl)
  exact Within.refl _ _

theorem jumpTime_within (ofsx : Int) (s : State) : Within 9455585 s (jumpTime ofsx s) := by
  delta jumpTime
  lift_lets
  intro n0 y1
  have h2 : Within 9455585 s y1 := by
    subst y1
    exact Within.mono (slewEnd_within ..) rfl
  clear_value y1
  intro n3 y4
  have h5 : Within 9455585 s y4 := by
    subst y4
    refine Within.tb ?_ _ rfl (.inr rfl)
    assumption
  clear_value y4
  intro n6 y7
  have h8 : Within 9455585 s y7 := by
    subst y7
    refine Within.ite ?_ ?_
    · refine Within.step ?_ (State.wr_within ..) rfl
      refine Within.tb ?_ _ rfl (.inr rfl)
      assumption
    · assumption
  clear_value y7
  refine Within.step ?_ (raise_within ..) rfl
  refine Within.step ?_ (State.inc_within ..) rfl
  refine Within.step ?_ (State.wr_within ..) rfl
  assumption

theorem stepTime_within (adj : Int) (s : State) : Within 9455585 s (stepTime adj s) := by
  delta stepTime
  exact Within.mono (jumpTime_within ..) rfl

theorem setTime_within (t : Int) (s : State) : Within 9455585 s (setTime t s) := by
  delta setTime
  exact Within.mono (jumpTime_within ..) rfl

theorem slewTime_within (adj : Int) (s : State) : Within 65 s (slewTime adj s) := by
  delta slewTime
  refine Within.ite ?_ ?_
  · exact Within.mono (State.wr_within ..) rfl
  · lift_lets
    intro y0
    have h1 : Within 65 s y0 := by
      subst y0
      exact Within.mono (slewEnd_within ..) rfl
    clear_value y0
    intro n2
    refine Within.step ?_ (State.wr_within ..) rfl
    refine Within.step ?_ (State.wr_within ..) rfl
    refine Within.tb ?_ _ rfl (.inr rfl)
    assumption

theorem hostAdjust_step  {k : State → State} {s : State} {fm : Nat} {z : State} (hh : Within fm z s) (hk : ∀ (y : State), Within fm z y → Within fm z (k y)) (hm : 1 ||| fm = fm) :
    Within fm z (hostAdjust k s) := by
  delta hostAdjust
  refine Within.ite ?_ ?_
  · refine Within.step ?_ (State.wr_within ..) (Within.sub rfl hm)
    assumption
  · refine hk _ ?_
    assumption

theorem tbRateWrite_within (v : Nat) (s : State) : Within 65 s (tbRateWrite v s) := by
  delta tbRateWrite
  refine hostAdjust_step ?_ ?_ rfl
  · exact Within.refl _ _
  · intro y0 h1
    refine Within.step ?_ (setRate_within ..) rfl
    assumption

theorem slewComplete_within (s : State) : Within 65 s (slewComplete s) := by
  delta slewComplete
  refine Within.ite ?_ ?_
  · exact Within.mono (slewEnd_within ..) rfl
  · exact Within.refl _ _

theorem tbCntclr_within (s : State) : Within 1 s (tbCntclr s) := by
  delta tbCntclr
  exact Within.mono (State.wrs_within ..) rfl

theorem ppsServo_step  {jump : Int → State → State} {e : Int} {s : State} {fm : Nat} {z : State} (hh : Within fm z s) (hjump : ∀ (c0 : Int) (y : State), Within fm z y → Within fm z (jump c0 y)) (hm : 14153707 ||| fm = fm) :
    Within fm z (ppsServo jump e s) := by
  delta ppsServo
  lift_lets
  intro n0 y1
  have h2 : Within fm z y1 := by
    subst y1
    refine Within.tb ?_ _ (Within.bit rfl hm) (.inr rfl)
    assumption
  clear_value y1
  intro y3
  have h4 : Within fm z y3 := by
    subst y3
    refine Within.step ?_ (raise_within ..) (Within.sub rfl hm)
    refine hjump _ _ ?_
    assumption
  clear_value y3
  intro n5 y6
  have h7 : Within fm z y6 := by
    subst y6
    refine Within.step ?_ (unraise_within ..) (Within.sub rfl hm)
    assumption
  clear_value y6
  intro n8 n9 y10
  have h11 : Within fm z y10 := by
    subst y10
    refine Within.ite ?_ ?_
    · assumption
    · refine Within.step ?_ (State.wr_within ..) (Within.sub rfl hm)
      assumption
  clear_value y10
  refine Within.ite ?_ ?_
  · refine Within.step ?_ (State.wr_within ..) (Within.sub rfl hm)
    refine Within.tb ?_ _ (Within.bit rfl hm) (.inr rfl)
    assumption
  · refine Within.step ?_ (slewTime_within ..) (Within.sub rfl hm)
    refine Within.step ?_ (setRate_within ..) (Within.sub rfl hm)
    assumption

theorem ppsInEdge_step  {jump : Int → State → State} {s : State} {fm : Nat} {z : State} (hh : Within fm z s) (hjump : ∀ (c0 : Int) (y : State), Within fm z y → Within fm z (jump c0 y)) (hm : 14153707 ||| fm = fm) :
    Within fm z (ppsInEdge jump s) := by
  delta ppsInEdge
  lift_lets
  intro n0 n1 n2 n3 n4 y5
  have h6 : Within fm z y5 := by
    subst y5
    refine Within.step ?_ (State.inc_within ..) (Within.sub rfl hm)
    refine Within.step ?_ (State.wr64_within ..) (Within.sub rfl hm)
    assumption
  clear_value y5
  intro y7
  have h8 : Within fm z y7 := by
    subst y7
    refine Within.step ?_ (State.wr_within ..) (Within.sub rfl hm)
    assumption
  clear_value y7
  intro n9 y10
  have h11 : Within fm z y10 := by
    subst y10
    refine Within.tb ?_ _ (Within.bit rfl hm) (.inr rfl)
    assumption
  clear_value y10
  intro y12
  have h13 : Within fm z y12 := by
    subst y12
    refine Within.ite ?_ ?_
    · refine Within.step ?_ (State.wr_within ..) (Within.sub rfl hm)
      assumption
    · refine Within.ite ?_ ?_
      · refine Within.step ?_ (State.wr_within ..) (Within.sub rfl hm)
        assumption
      · assumption
  clear_value y12
  intro y14
  have h15 : Within fm z y14 := by
    subst y14
    refine Within.step ?_ (unraise_within ..) (Within.sub rfl hm)
    assumption
  clear_value y14
  intro y16
  have h17 : Within fm z y16 := by
    subst y16
    refine Within.ite ?_ ?_
    · refine ppsServo_step ?_ ?_ (Within.sub rfl hm)
      · assumption
      · intro a18 y19 h20
        refine hjump _ _ ?_
        assumption
    · assumption
  clear_value y16
  refine Within.ite ?_ ?_
  · refine Within.step ?_ (State.inc_within ..) (Within.sub rfl hm)
    assumption
  · refine Within.step ?_ (syncJudge_within ..) (Within.sub rfl hm)
    assumption

theorem ppsLoss_within (s : State) : Within 9455585 s (ppsLoss s) := by
  delta ppsLoss
  lift_lets
  intro y0
  have h1 : Within 9455585 s y0 := by
    subst y0
    refine Within.step ?_ (State.wr_within ..) rfl
    exact Within.mono (State.wr_within ..) rfl
  intro n2 y3
  have h4 : Within 9455585 s y3 := by
    subst y3
    refine Within.tb ?_ _ rfl (.inr rfl)
    assumption
  refine Within.step ?_ (syncJudge_within ..) rfl
  refine Within.ite ?_ ?_
  · refine Within.step ?_ (raise_within ..) rfl
    assumption
  · assumption

theorem ppsOutEdge_within (s : State) : Within 8388672 s (ppsOutEdge s) := by
  delta ppsOutEdge
  lift_lets
  intro n0 n1
  refine Within.ite ?_ ?_
  · refine Within.step ?_ (State.emit_within ..) rfl
    refine Within.tb ?_ _ rfl (.inr rfl)
    exact Within.refl _ _
  · exact Within.refl _ _

theorem ppsOutFall_within (s : State) : Within 8388672 s (ppsOutFall s) := by
  delta ppsOutFall
  refine Within.ite ?_ ?_
  · lift_lets
    intro n0
    refine Within.step ?_ (State.emit_within ..) rfl
    refine Within.tb ?_ _ rfl (.inr rfl)
    exact Within.refl _ _
  · exact Within.refl _ _

theorem timeSourceLoss_within (s : State) : Within 1 s (timeSourceLoss s) := by
  delta timeSourceLoss
  lift_lets
  intro n0 y1
  have h2 : Within 1 s y1 := by
    subst y1
    refine Within.ite ?_ ?_
    · exact Within.mono (State.wr_within ..) rfl
    · refine Within.ite ?_ ?_
      · exact Within.mono (State.wr_within ..) rfl
      · exact Within.refl _ _
  clear_value y1
  refine Within.step ?_ (syncJudge_within ..) rfl
  assumption

theorem phaseErrorLimit_within (s : State) : Within 9455521 s (phaseErrorLimit s) := by
  delta phaseErrorLimit
  refine Within.ite ?_ ?_
  · exact Within.mono (raise_within ..) rfl
  · exact Within.refl _ _

theorem netShow_within (s : State) : Within 1 s (netShow s) := by
  delta netShow
  refine Within.ite ?_ ?_
  · exact Within.step (Within.mono (State.wr_within ..) rfl) (State.put_within ..) rfl
  · exact Within.refl _ _

theorem cycleAlign_within (s : State) : Within 9455585 s (cycleAlign s) := by
  delta cycleAlign
  split
  · refine Within.step ?_ (netShow_within ..) rfl
    refine Within.tb ?_ _ rfl (.inr rfl)
    exact Within.refl _ _
  · rename_i u1 u2 u3 u4
    lift_lets
    intro n5 y6
    have h7 : Within 9455585 s y6 := by
      subst y6
      exact Within.mono (State.wr_within ..) rfl
    clear_value y6
    intro n8 n9 y10
    have h11 : Within 9455585 s y10 := by
      subst y10
      refine Within.step ?_ (State.put_within ..) rfl
      assumption
    clear_value y10
    intro n12 n13 y14
    have h15 : Within 9455585 s y14 := by
      subst y14
      refine Within.tb ?_ _ rfl (.inr rfl)
      assumption
    clear_value y14
    intro y16
    have h17 : Within 9455585 s y16 := by
      subst y16
      refine Within.ite ?_ ?_
      · refine Within.step ?_ (phaseErrorLimit_within ..) rfl
        assumption
      · refine Within.step ?_ (unraise_within ..) rfl
        assumption
    clear_value y16
    intro n18 y19
    have h20 : Within 9455585 s y19 := by
      subst y19
      refine Within.ite ?_ ?_
      · assumption
      · refine Within.step ?_ (State.wr_within ..) rfl
        assumption
    clear_value y19
    intro n21 n22 n23
    refine Within.ite ?_ ?_
    · refine Within.tb ?_ _ rfl (.inr rfl)
      assumption
    · refine Within.ite ?_ ?_
      · refine Within.tb ?_ _ rfl (.inr rfl)
        assumption
      · refine Within.tb ?_ _ rfl (.inr rfl)
        assumption

end Sys2Proof.Machine
end

