-- ==== Sys2Proof/Laws/WithinNetwork.lean ====
section
/-! SUPPORT. The footprints of the operations of `Sys2Proof/Machine/Network.lean`. -/

namespace Sys2Proof.Machine

theorem State.setPort_within (s : State) (p : Nat) (f : PortSt → PortSt) : Within 65536 s (State.setPort s p f) := by
  delta State.setPort
  lift_lets
  intro n0
  refine Within.net ?_ _ rfl rfl
  exact Within.refl _ _

theorem prpJudge_within (s : State) : Within 9455521 s (prpJudge s) := by
  delta prpJudge
  lift_lets
  intro n0
  subst n0
  refine Within.step ?_ (condition_within ..) rfl
  refine Within.step ?_ (State.put_within ..) rfl
  exact Within.mono (State.put_within ..) rfl

theorem prpLost_within (p : Nat) (s : State) : Within 9521057 s (prpLost p s) := by
  delta prpLost
  refine Within.ite ?_ ?_
  · refine Within.step ?_ (prpJudge_within ..) rfl
    exact Within.mono (State.setPort_within ..) rfl
  · exact Within.refl _ _

theorem setLock_within (on : Bool) (s : State) : Within 8454657 s (setLock on s) := by
  delta setLock
  lift_lets
  intro n0 y1
  have h2 : Within 8454657 s y1 := by
    subst y1
    refine Within.ite ?_ ?_
    · exact Within.refl _ _
    · refine Within.net ?_ _ rfl rfl
      exact Within.refl _ _
  clear_value y1
  intro y3
  have h4 : Within 8454657 s y3 := by
    subst y3
    refine Within.ite ?_ ?_
    · assumption
    · refine Within.step ?_ (State.event_within ..) rfl
      refine Within.step ?_ (State.put_within ..) rfl
      assumption
  clear_value y3
  refine Within.step ?_ (syncJudge_within ..) rfl
  assumption

theorem chooseMaster_within (s : State) : Within 9521057 s (chooseMaster s) := by
  delta chooseMaster
  lift_lets
  intro n0 y1
  have h2 : Within 9521057 s y1 := by
    subst y1
    exact Within.mono (State.wr_within ..) rfl
  clear_value y1
  intro y3
  have h4 : Within 9521057 s y3 := by
    subst y3
    refine Within.forAll ?_ fun a5 y6 h7 => ?_
    · assumption
    · lift_lets
      intro n8
      refine Within.step ?_ (State.wr_within ..) rfl
      assumption
  clear_value y3
  intro y9
  have h10 : Within 9521057 s y9 := by
    subst y9
    refine Within.step ?_ (unraise_within ..) rfl
    assumption
  clear_value y9
  subst n0
  split
  · refine Within.step ?_ (setLock_within ..) rfl
    refine Within.ite ?_ ?_
    · refine Within.step ?_ (raise_within ..) rfl
      assumption
    · assumption
  · lift_lets
    intro n11 y12
    have h13 : Within 9521057 s y12 := by
      subst y12
      refine Within.step ?_ (State.wrs_within ..) rfl
      refine Within.step ?_ (State.wr64_within ..) rfl
      assumption
    clear_value y12
    refine Within.ite ?_ ?_
    · assumption
    · refine Within.step ?_ (raise_within ..) rfl
      assumption

theorem ptpIgnore_within (s : State) : Within 1 s (ptpIgnore s) := by
  delta ptpIgnore
  exact Within.mono (State.inc_within ..) rfl

theorem announce_within (p domain src : Nat) (log : Int) (rank : List Nat) (steps utc : Nat) (s : State) : Within 9521057 s (announce p domain src log rank steps utc s) := by
  delta announce
  refine Within.ite ?_ ?_
  · exact Within.refl _ _
  · refine Within.ite ?_ ?_
    · exact Within.mono (ptpIgnore_within ..) rfl
    · lift_lets
      intro n0 n1 n2 n3
      refine Within.step ?_ (chooseMaster_within ..) rfl
      exact Within.mono (State.setPort_within ..) rfl

theorem announceTimeout_within (p src : Nat) (s : State) : Within 9521057 s (announceTimeout p src s) := by
  delta announceTimeout
  refine Within.step ?_ (chooseMaster_within ..) rfl
  exact Within.mono (State.setPort_within ..) rfl

theorem ptpReset_within (s : State) : Within 9521057 s (ptpReset s) := by
  delta ptpReset
  lift_lets
  intro y0
  have h1 : Within 9521057 s y0 := by
    subst y0
    refine Within.forAll ?_ fun a2 y3 h4 => ?_
    · exact Within.refl _ _
    · lift_lets
      intro y5
      have h6 : Within 9521057 s y5 := by
        subst y5
        refine Within.step ?_ (State.setPort_within ..) rfl
        assumption
      clear_value y5
      refine Within.step ?_ (State.wr_within ..) rfl
      assumption
  clear_value y0
  refine Within.step ?_ (chooseMaster_within ..) rfl
  assumption

theorem pdFail_within (p : Nat) (s : State) : Within 9521057 s (pdFail p s) := by
  delta pdFail
  lift_lets
  intro y0
  have h1 : Within 9521057 s y0 := by
    subst y0
    refine Within.step ?_ (State.wrs_within ..) rfl
    exact Within.mono (State.setPort_within ..) rfl
  clear_value y0
  refine Within.step ?_ (chooseMaster_within ..) rfl
  refine Within.step ?_ (raise_within ..) rfl
  assumption

theorem pdelaySend_within (p : Nat) (s : State) : Within 9521057 s (pdelaySend p s) := by
  delta pdelaySend
  refine Within.ite ?_ ?_
  · exact Within.refl _ _
  · lift_lets
    intro n0 n1 y2
    have h3 : Within 9521057 s y2 := by
      subst y2
      refine Within.ite ?_ ?_
      · exact Within.mono (pdFail_within ..) rfl
      · exact Within.refl _ _
    clear_value y2
    intro n4 n5 y6
    have h7 : Within 9521057 s y6 := by
      subst y6
      refine Within.step ?_ (State.setPort_within ..) rfl
      assumption
    clear_value y6
    refine Within.step ?_ (State.emit_within ..) rfl
    refine Within.step ?_ (State.inc_within ..) rfl
    assumption

theorem pdelayAnswer_within (p seq turn : Nat) (s : State) : Within 8388609 s (pdelayAnswer p seq turn s) := by
  delta pdelayAnswer
  refine Within.ite ?_ ?_
  · refine Within.step ?_ (State.emit_within ..) rfl
    exact Within.mono (State.inc_within ..) rfl
  · exact Within.refl _ _

theorem pdelayResponse_within (p age seq : Nat) (turn corr : Int) (s : State) : Within 9521057 s (pdelayResponse p age seq turn corr s) := by
  delta pdelayResponse
  lift_lets
  intro n0 n1 y2
  have h3 : Within 9521057 s y2 := by
    subst y2
    refine Within.step ?_ (unraise_within ..) rfl
    exact Within.mono (State.wr_within ..) rfl
  clear_value y2
  split
  · exact Within.refl _ _
  · lift_lets
    intro n4 n5 n6 y7
    have h8 : Within 9521057 s y7 := by
      subst y7
      refine Within.step ?_ (State.setPort_within ..) rfl
      assumption
    clear_value y7
    intro n9 y10
    have h11 : Within 9521057 s y10 := by
      subst y10
      refine Within.step ?_ (State.setPort_within ..) rfl
      assumption
    clear_value y10
    refine Within.ite ?_ ?_
    · exact Within.refl _ _
    · refine Within.ite ?_ ?_
      · assumption
      · refine Within.step ?_ (chooseMaster_within ..) rfl
        refine Within.step ?_ (State.wr_within ..) rfl
        assumption

theorem ptpCorrect_step  {jump : Int → State → State} {o l : Int} {s : State} {fm : Nat} {z : State} (hh : Within fm z s) (hjump : ∀ (c0 : Int) (y : State), Within fm z y → Within fm z (jump c0 y)) (hm : 14153707 ||| fm = fm) :
    Within fm z (ptpCorrect jump o l s) := by
  delta ptpCorrect
  lift_lets
  intro n0 y1
  have h2 : Within fm z y1 := by
    subst y1
    refine Within.tb ?_ _ (Within.bit rfl hm) (.inr rfl)
    assumption
  clear_value y1
  intro n3
  subst n3
  intro y4
  have h5 : Within fm z y4 := by
    subst y4
    beta_reduce
    refine Within.ite ?_ ?_
    · refine Within.step ?_ (raise_within ..) (Within.sub rfl hm)
      refine Within.step ?_ (State.wr_within ..) (Within.sub rfl hm)
      refine Within.step ?_ (slewTime_within ..) (Within.sub rfl hm)
      assumption
    · refine Within.step ?_ (slewTime_within ..) (Within.sub rfl hm)
      assumption
  clear_value y4
  intro n6 n7 y8
  have h9 : Within fm z y8 := by
    subst y8
    refine Within.ite ?_ ?_
    · assumption
    · refine Within.step ?_ (State.wr_within ..) (Within.sub rfl hm)
      assumption
  clear_value y8
  refine Within.ite ?_ ?_
  · refine Within.ite ?_ ?_
    · refine Within.ite ?_ ?_
      · assumption
      · refine Within.step ?_ (raise_within ..) (Within.sub rfl hm)
        assumption
    · refine Within.step ?_ (setLock_within ..) (Within.sub rfl hm)
      refine hjump _ _ ?_
      assumption
  · beta_reduce
    refine Within.ite ?_ ?_
    · refine Within.step ?_ (raise_within ..) (Within.sub rfl hm)
      refine Within.step ?_ (State.wr_within ..) (Within.sub rfl hm)
      refine Within.step ?_ (slewTime_within ..) (Within.sub rfl hm)
      refine Within.step ?_ (setRate_within ..) (Within.sub rfl hm)
      assumption
    · refine Within.step ?_ (slewTime_within ..) (Within.sub rfl hm)
      refine Within.step ?_ (setRate_within ..) (Within.sub rfl hm)
      assumption

theorem ptpOffset_step  {jump : Int → State → State} {o l : Int} {s : State} {fm : Nat} {z : State} (hh : Within fm z s) (hjump : ∀ (c0 : Int) (y : State), Within fm z y → Within fm z (jump c0 y)) (hm : 14153707 ||| fm = fm) :
    Within fm z (ptpOffset jump o l s) := by
  delta ptpOffset
  lift_lets
  intro n0 y1
  have h2 : Within fm z y1 := by
    subst y1
    refine Within.step ?_ (State.wr_within ..) (Within.sub rfl hm)
    assumption
  intro n3 n4 n5 n6 n7 y8
  have h9 : Within fm z y8 := by
    subst y8
    refine Within.net ?_ _ (Within.bit rfl hm) rfl
    assumption
  intro y10
  have h11 : Within fm z y10 := by
    subst y10
    refine Within.ite ?_ ?_
    · refine Within.step ?_ (raise_within ..) (Within.sub rfl hm)
      assumption
    · refine Within.ite ?_ ?_
      · refine Within.step ?_ (unraise_within ..) (Within.sub rfl hm)
        assumption
      · assumption
  clear_value y10
  intro y12
  have h13 : Within fm z y12 := by
    subst y12
    refine Within.ite ?_ ?_
    · refine Within.step ?_ (setLock_within ..) (Within.sub rfl hm)
      assumption
    · refine Within.ite ?_ ?_
      · refine Within.step ?_ (setLock_within ..) (Within.sub rfl hm)
        assumption
      · assumption
  clear_value y12
  refine Within.ite ?_ ?_
  · refine Within.step ?_ (syncJudge_within ..) (Within.sub rfl hm)
    refine ptpCorrect_step ?_ ?_ (Within.sub rfl hm)
    · assumption
    · intro a14 y15 h16
      refine hjump _ _ ?_
      assumption
  · assumption

theorem ptpSync_step  {jump : Int → State → State} {p age domain src : Nat} {log : Int} {two : Bool} {seq t1 : Nat} {corr : Int} {s : State} {fm : Nat} {z : State} (hh : Within fm z s) (hjump : ∀ (c0 : Int) (y : State), Within fm z y → Within fm z (jump c0 y)) (hm : 14153707 ||| fm = fm) :
    Within fm z (ptpSync jump p age domain src log two seq t1 corr s) := by
  delta ptpSync
  refine Within.ite ?_ ?_
  · assumption
  · refine Within.ite ?_ ?_
    · refine Within.step ?_ (ptpIgnore_within ..) (Within.sub rfl hm)
      assumption
    · refine Within.ite ?_ ?_
      · assumption
      · lift_lets
        intro n0 n1 n2
        refine Within.ite ?_ ?_
        · refine Within.step ?_ (State.setPort_within ..) (Within.sub rfl hm)
          assumption
        · refine ptpOffset_step ?_ ?_ (Within.sub rfl hm)
          · refine Within.step ?_ (State.setPort_within ..) (Within.sub rfl hm)
            assumption
          · intro a3 y4 h5
            refine hjump _ _ ?_
            assumption

theorem ptpFollowUp_step  {jump : Int → State → State} {p domain src : Nat} {log : Int} {seq t1 : Nat} {corr : Int} {s : State} {fm : Nat} {z : State} (hh : Within fm z s) (hjump : ∀ (c0 : Int) (y : State), Within fm z y → Within fm z (jump c0 y)) (hm : 14153707 ||| fm = fm) :
    Within fm z (ptpFollowUp jump p domain src log seq t1 corr s) := by
  delta ptpFollowUp
  refine Within.ite ?_ ?_
  · assumption
  · refine Within.ite ?_ ?_
    · refine Within.step ?_ (ptpIgnore_within ..) (Within.sub rfl hm)
      assumption
    · split
      · rename_i u0 u1 u2 u3 u4
        refine Within.ite ?_ ?_
        · refine ptpOffset_step ?_ ?_ (Within.sub rfl hm)
          · refine Within.step ?_ (State.setPort_within ..) (Within.sub rfl hm)
            assumption
          · intro a5 y6 h7
            refine hjump _ _ ?_
            assumption
        · assumption
      · assumption

theorem ethLink_within (p : Nat) (up speed : Bool) (s : State) : Within 9521057 s (ethLink p up speed s) := by
  delta ethLink
  refine Within.ite ?_ ?_
  · exact Within.refl _ _
  · lift_lets
    intro y0
    have h1 : Within 9521057 s y0 := by
      subst y0
      refine Within.step ?_ (State.put_within ..) rfl
      exact Within.mono (State.put_within ..) rfl
    clear_value y0
    intro y2
    have h3 : Within 9521057 s y2 := by
      subst y2
      refine Within.step ?_ (condition_within ..) rfl
      assumption
    clear_value y2
    intro y4
    have h5 : Within 9521057 s y4 := by
      subst y4
      refine Within.ite ?_ ?_
      · assumption
      · refine Within.step ?_ (State.setPort_within ..) rfl
        assumption
    clear_value y4
    refine Within.step ?_ (prpJudge_within ..) rfl
    refine Within.step ?_ (chooseMaster_within ..) rfl
    assumption

theorem prpDuplicate_within (src seq : Nat) (s : State) : Within 65536 s (prpDuplicate src seq s).2 := by
  delta prpDuplicate
  lift_lets
  intro n0 n1 n2 n3 n4 n5 n6 n7
  dsimp only
  refine Within.net ?_ _ rfl rfl
  exact Within.refl _ _

theorem nrxPut_within (p flags : Nat) (stamp : Int) (f : List Byte) (s : State) : Within 9455521 s (nrxPut p flags stamp f s) := by
  delta nrxPut
  lift_lets
  intro n0 n1 n2 y3
  have h4 : Within 9455521 s y3 := by
    subst y3
    exact Within.mono (State.emit_within ..) rfl
  clear_value y3
  refine Within.ite ?_ ?_
  · exact Within.mono (State.inc_within ..) rfl
  · refine Within.ite ?_ ?_
    · refine Within.step ?_ (raise_within ..) rfl
      exact Within.mono (State.inc_within ..) rfl
    · refine Within.step ?_ (State.event_within ..) rfl
      refine Within.step ?_ (State.inc_within ..) rfl
      refine Within.step ?_ (State.wr_within ..) rfl
      assumption

theorem police_within (p bytes : Nat) (s : State) : Within 9521057 s (police p bytes s).2 := by
  delta police
  lift_lets
  intro n0 n1 n2 n3 n4 n5 y6
  have h7 : Within 9521057 s y6 := by
    subst y6
    exact Within.mono (State.setPort_within ..) rfl
  clear_value y6
  intro y8
  have h9 : Within 9521057 s y8 := by
    subst y8
    refine Within.step ?_ (State.inc_within ..) rfl
    assumption
  clear_value y8
  split
  · dsimp only
    exact Within.mono (State.setPort_within ..) rfl
  · dsimp only
    refine Within.ite ?_ ?_
    · refine Within.step ?_ (raise_within ..) rfl
      assumption
    · assumption

theorem State.dlFix_within (s : State) (p : Nat) : Within 16777216 s (State.dlFix s p).2 := by
  delta State.dlFix
  lift_lets
  intro n0
  split
  · dsimp only
    exact Within.refl _ _
  · dsimp only
    exact Within.mono (State.free_within ..) rfl

theorem bridge_within (p r : Nat) (f : List Byte) (s : State) : Within 25231361 s (bridge p r f s) := by
  delta bridge
  lift_lets
  intro n0 n1 n2
  subst n2
  intro n3 n4 n5 n6 n7 n8
  subst n8
  intro n9 y10
  have h11 : Within 25231361 s y10 := by
    subst y10
    exact Within.mono (State.dlFix_within ..) rfl
  clear_value y10
  intro n12 n13 y14
  have h15 : Within 25231361 s y14 := by
    subst y14
    refine Within.net ?_ _ rfl rfl
    assumption
  clear_value y14
  intro n16 y17
  have h18 : Within 25231361 s y17 := by
    subst y17
    refine Within.net ?_ _ rfl rfl
    exact Within.refl _ _
  clear_value y17
  refine Within.ite ?_ ?_
  · exact Within.refl _ _
  · refine Within.ite ?_ ?_
    · beta_reduce
      refine Within.step ?_ (State.emit_within ..) rfl
      exact Within.mono (State.inc_within ..) rfl
    · refine Within.ite ?_ ?_
      · exact Within.refl _ _
      · refine Within.ite ?_ ?_
        · refine Within.ite ?_ ?_
          · beta_reduce
            refine Within.step ?_ (State.emit_within ..) rfl
            refine Within.step ?_ (State.inc_within ..) rfl
            assumption
          · beta_reduce
            refine Within.step ?_ (State.emit_within ..) rfl
            refine Within.step ?_ (State.inc_within ..) rfl
            assumption
        · refine Within.ite ?_ ?_
          · split
            · beta_reduce
              refine Within.step ?_ (State.emit_within ..) rfl
              refine Within.step ?_ (State.inc_within ..) rfl
              assumption
            · beta_reduce
              refine Within.step ?_ (State.emit_within ..) rfl
              refine Within.step ?_ (State.inc_within ..) rfl
              exact Within.mono (State.inc_within ..) rfl
          · beta_reduce
            refine Within.step ?_ (State.emit_within ..) rfl
            exact Within.mono (State.inc_within ..) rfl

theorem hostFrame_within (p flags : Nat) (stamp : Int) (f : List Byte) (s : State) : Within 9521057 s (hostFrame p flags stamp f s) := by
  delta hostFrame
  lift_lets
  intro n0 n1
  refine Within.ite ?_ ?_
  · exact Within.refl _ _
  · refine Within.ite ?_ ?_
    · refine Within.step ?_ (nrxPut_within ..) rfl
      exact Within.mono (police_within ..) rfl
    · exact Within.mono (police_within ..) rfl

theorem prpReceive_within (p : Nat) (stamp : Int) (f : List Byte) (s : State) : Within 9521057 s (prpReceive p stamp f s) := by
  delta prpReceive
  split
  · generalize (if etherType f = 0x88F7 then none else prpTrailer f) = d
    have h : Within 9521057 s (prpJudge (s.setPort p fun x => { x with silent := false })) :=
      Within.step (Within.mono (State.setPort_within ..) rfl) (prpJudge_within ..) rfl
    rcases d with _ | ⟨seq, lan⟩
    · exact Within.step h (hostFrame_within ..) rfl
    · have hr := Within.step h (prpDuplicate_within (beAt f 6 6) seq _) (m := 9521057) rfl
      dsimp only
      split
      · exact Within.step hr (State.inc_within ..) rfl
      · refine Within.step ?_ (hostFrame_within ..) rfl
        split
        · exact Within.step hr (State.inc_within ..) rfl
        · exact hr
  · exact Within.mono (hostFrame_within ..) rfl

theorem ethReceive_within (p : Nat) (fcs : Bool) (age res : Nat) (f : List Byte) (s : State) : Within 26298273 s (ethReceive p fcs age res f s) := by
  delta ethReceive
  refine Within.ite ?_ ?_
  · exact Within.refl _ _
  · refine Within.ite ?_ ?_
    · exact Within.mono (State.inc_within ..) rfl
    · refine Within.ite ?_ ?_
      · exact Within.mono (State.inc_within ..) rfl
      · lift_lets
        intro y0
        have h1 : Within 26298273 s y0 := by
          subst y0
          refine Within.step ?_ (bridge_within ..) rfl
          exact Within.mono (State.inc_within ..) rfl
        clear_value y0
        refine Within.ite ?_ ?_
        · refine Within.step ?_ (prpReceive_within ..) rfl
          assumption
        · refine Within.step ?_ (State.inc_within ..) rfl
          assumption

theorem netCntclr_within (s : State) : Within 1 s (netCntclr s) := by
  delta netCntclr
  lift_lets
  intro y0
  have h1 : Within 1 s y0 := by
    subst y0
    exact Within.mono (State.wrs_within ..) rfl
  clear_value y0
  intro y2
  have h3 : Within 1 s y2 := by
    subst y2
    refine Within.forAll ?_ fun a4 y5 h6 => ?_
    · assumption
    · refine Within.step ?_ (State.wrs_within ..) rfl
      assumption
  clear_value y2
  refine Within.forAll ?_ fun a7 y8 h9 => ?_
  · assumption
  · refine Within.step ?_ (State.wrs_within ..) rfl
    assumption

theorem prpNext_within (d : Nat) (s : State) : Within 65536 s (prpNext d s).2 := by
  delta prpNext
  lift_lets
  intro n0 n1
  dsimp only
  refine Within.net ?_ _ rfl rfl
  exact Within.refl _ _

theorem prpSupervise_within (s : State) : Within 8454145 s (prpSupervise s) := by
  delta prpSupervise
  refine Within.ite ?_ ?_
  · lift_lets
    intro n0
    refine Within.forAll ?_ fun a1 y2 h3 => ?_
    · exact Within.mono (prpNext_within ..) rfl
    · refine Within.step ?_ (State.emit_within ..) rfl
      refine Within.step ?_ (State.inc_within ..) rfl
      assumption
  · exact Within.refl _ _

theorem svDeliver_within (i : Nat) (a : Asdu) (sim : Bool) (ta : Int) (s : State) : Within 9521057 s (svDeliver i a sim ta s) := by
  delta svDeliver
  lift_lets
  intro n0 n1 n2
  subst n2
  intro n3
  subst n3
  intro n4 n5
  subst n5
  intro n6 n7 y8
  have h9 : Within 9521057 s y8 := by
    subst y8
    refine Within.net ?_ _ rfl rfl
    exact Within.refl _ _
  clear_value y8
  intro y10
  have h11 : Within 9521057 s y10 := by
    subst y10
    refine Within.step ?_ (State.wr_within ..) rfl
    assumption
  clear_value y10
  refine Within.ite ?_ ?_
  · refine Within.step ?_ (raise_within ..) rfl
    refine Within.step ?_ (State.wr_within ..) rfl
    assumption
  · assumption

theorem svFound_within (i : Nat) (s : State) : Within 8406945 s (svFound i s) := by
  delta svFound
  lift_lets
  intro y0
  have h1 : Within 8406945 s y0 := by
    subst y0
    refine Within.step ?_ (State.putBit_within ..) rfl
    exact Within.mono (State.wr_within ..) rfl
  clear_value y0
  refine Within.ite ?_ ?_
  · refine Within.step ?_ (unraise_within ..) rfl
    assumption
  · assumption

theorem svSample_within (i : Nat) (sim : Bool) (ta : Int) (a : Asdu) (s : State) : Within 9521057 s (svSample i sim ta a s) := by
  delta svSample
  lift_lets
  intro n0 n1 n2 n3 n4 y5
  have h6 : Within 9521057 s y5 := by
    subst y5
    refine Within.ite ?_ ?_
    · exact Within.mono (State.wr_within ..) rfl
    · exact Within.refl _ _
  clear_value y5
  intro y7
  have h8 : Within 9521057 s y7 := by
    subst y7
    refine Within.step ?_ (svFound_within ..) rfl
    exact Within.mono (svDeliver_within ..) rfl
  clear_value y7
  refine Within.ite ?_ ?_
  · exact Within.refl _ _
  · refine Within.ite ?_ ?_
    · refine Within.ite ?_ ?_
      · refine Within.step ?_ (State.wr_within ..) rfl
        assumption
      · assumption
    · refine Within.ite ?_ ?_
      · refine Within.step ?_ (raise_within ..) rfl
        refine Within.step ?_ (State.inc_within ..) rfl
        refine Within.step ?_ (State.wr_within ..) rfl
        assumption
      · assumption

theorem svFrame_within (p age : Nat) (f : List Byte) (s : State) : Within 9521057 s (svFrame p age f s) := by
  delta svFrame
  refine Within.ite ?_ ?_
  · exact Within.refl _ _
  · lift_lets
    intro n0 n1 n2 n3
    refine Within.ite ?_ ?_
    · exact Within.mono (State.inc_within ..) rfl
    · refine Within.forAll ?_ fun a4 y5 h6 => ?_
      · exact Within.refl _ _
      · split
        · refine Within.step ?_ (svSample_within ..) rfl
          assumption
        · refine Within.step ?_ (State.inc_within ..) rfl
          assumption
        · assumption

theorem svLost_within (i : Nat) (s : State) : Within 9521057 s (svLost i s) := by
  delta svLost
  refine Within.ite ?_ ?_
  · lift_lets
    intro n0 y1
    have h2 : Within 9521057 s y1 := by
      subst y1
      refine Within.net ?_ _ rfl rfl
      exact Within.refl _ _
    clear_value y1
    refine Within.step ?_ (raise_within ..) rfl
    refine Within.step ?_ (State.putBit_within ..) rfl
    refine Within.step ?_ (State.wr_within ..) rfl
    assumption
  · exact Within.refl _ _

theorem fbRequest_within (b p : Nat) (at_ : Int) (taken late : Bool) (s : State) : Within 65537 s (fbRequest b p at_ taken late s) := by
  delta fbRequest
  refine Within.ite ?_ ?_
  · exact Within.mono (State.wr_within ..) rfl
  · lift_lets
    intro n0
    refine Within.net ?_ _ rfl rfl
    exact Within.refl _ _

theorem fbTrigger_within (b : Nat) (s : State) : Within 65537 s (fbTrigger b s) := by
  delta fbTrigger
  lift_lets
  intro n0 n1 n2
  split
  · exact Within.mono (fbRequest_within ..) rfl
  · refine Within.ite ?_ ?_
    · exact Within.mono (fbRequest_within ..) rfl
    · exact Within.refl _ _
  · refine Within.ite ?_ ?_
    · exact Within.mono (fbRequest_within ..) rfl
    · exact Within.refl _ _
  · exact Within.refl _ _

theorem fbTake_within (b : Nat) (s : State) : Within 9652129 s (fbTake b s) := by
  delta fbTake
  refine Within.ite ?_ ?_
  · lift_lets
    intro n0 n1 n2
    subst n2
    intro n3 n4
    refine Within.net ?_ _ rfl rfl
    exact Within.refl _ _
  · lift_lets
    intro n5
    subst n5
    split
    · lift_lets
      intro n6
      refine Within.step ?_ (wbComplete_within ..) rfl
      refine Within.step ?_ (fbRequest_within ..) rfl
      exact Within.mono (wbRemove_within ..) rfl
    · exact Within.refl _ _

theorem fbFrame_within (b : Nat) (at_ : Int) (s : State) : Within 65537 s (fbFrame b at_ s).2 := by
  delta fbFrame
  dsimp only
  refine Within.foldlSnd ?_ fun i y h => ?_
  · exact (Within.refl 65537 s).net' _ rfl fun c => ⟨c.inner.arch, c.inner.ck0, c.inner.ck1, c.inner.vecMask, c.inner.pba,
      c.inner.vecTab, c.inner.cfg, Sparse.set_wf _ _ _ c.inner.sent⟩
  · split
    · exact h
    · split
      · exact Within.step h (State.wr_within ..) rfl
      · exact h

theorem sendFrame_within (p : Nat) (f : List Byte) (s : State) : Within 8454145 s (sendFrame p f s) := by
  delta sendFrame
  refine Within.ite ?_ ?_
  · lift_lets
    intro n0 n1
    refine Within.forAll ?_ fun a2 y3 h4 => ?_
    · exact Within.mono (prpNext_within ..) rfl
    · refine Within.step ?_ (State.emit_within ..) rfl
      refine Within.step ?_ (State.inc_within ..) rfl
      assumption
  · refine Within.step ?_ (State.emit_within ..) rfl
    exact Within.mono (State.inc_within ..) rfl

theorem fbLaunch_within (b : Nat) (s : State) : Within 9521057 s (fbLaunch b s) := by
  delta fbLaunch
  lift_lets
  intro n0 n1
  split
  · exact Within.refl _ _
  · lift_lets
    intro y2
    have h3 : Within 9521057 s y2 := by
      subst y2
      refine Within.net ?_ _ rfl rfl
      exact Within.refl _ _
    clear_value y2
    intro n4 y5
    have h6 : Within 9521057 s y5 := by
      subst y5
      refine Within.step ?_ (State.wr64_within ..) rfl
      refine Within.step ?_ (sendFrame_within ..) rfl
      refine Within.step ?_ (fbFrame_within ..) rfl
      assumption
    clear_value y5
    intro n7
    refine Within.ite ?_ ?_
    · refine Within.step ?_ (State.wr_within ..) rfl
      assumption
    · refine Within.ite ?_ ?_
      · assumption
      · refine Within.step ?_ (raise_within ..) rfl
        refine Within.forAll ?_ fun a8 y9 h10 => ?_
        · refine Within.step ?_ (State.wr_within ..) rfl
          assumption
        · refine Within.step ?_ (State.inc_within ..) rfl
          assumption

theorem hstNtx_within (b p : Nat) (s : State) : Within 8454145 s (hstNtx b p s) := by
  delta hstNtx
  refine Within.ite ?_ ?_
  · exact Within.mono (State.wr_within ..) rfl
  · lift_lets
    intro n0
    refine Within.step ?_ (sendFrame_within ..) rfl
    exact Within.mono (fbFrame_within ..) rfl

end Sys2Proof.Machine
end

