-- ==== Sys2Proof/Laws/WithinStates.lean ====
section
/-! SUPPORT. The footprints of the operations of `Sys2Proof/Machine/States.lean`. -/

namespace Sys2Proof.Machine

theorem setRole_within (r : Nat) (s : State) : Within 9455521 s (setRole r s) := by
  delta setRole
  refine Within.ite ?_ ?_
  · exact Within.refl _ _
  · lift_lets
    intro y0
    have h1 : Within 9455521 s y0 := by
      subst y0
      exact Within.mono (State.wr_within ..) rfl
    clear_value y0
    refine Within.step ?_ (standbyJudge_within ..) rfl
    refine Within.step ?_ (State.event_within ..) rfl
    refine Within.step ?_ (State.logState_within ..) rfl
    assumption

theorem resolveDriver_within (r : Nat) (s : State) : Within 9455521 s (resolveDriver r s) := by
  delta resolveDriver
  lift_lets
  intro n0
  refine Within.ite ?_ ?_
  · exact Within.mono (raise_within ..) rfl
  · refine Within.step ?_ (setRole_within ..) rfl
    exact Within.mono (State.wr_within ..) rfl

theorem resolveStandby_within (s : State) : Within 9455521 s (resolveStandby s) := by
  delta resolveStandby
  refine Within.step ?_ (standbyEpoch_within ..) rfl
  exact Within.mono (setRole_within ..) rfl

theorem roleResolve_within (s : State) : Within 9455521 s (roleResolve s) := by
  delta roleResolve
  lift_lets
  intro n0 n1
  subst n1
  intro n2
  refine Within.ite ?_ ?_
  · beta_reduce
    lift_lets
    intro n3
    refine Within.glb ?_ _ rfl (.inr ⟨rfl, rfl⟩)
    exact Within.mono (setStep_within ..) rfl
  · refine Within.ite ?_ ?_
    · refine Within.ite ?_ ?_
      · refine Within.step ?_ (State.wr_within ..) rfl
        refine Within.step ?_ (raise_within ..) rfl
        refine Within.step ?_ (setStep_within ..) rfl
        beta_reduce
        lift_lets
        refine Within.glb ?_ _ rfl (.inr ⟨rfl, rfl⟩)
        exact Within.refl _ _
      · refine Within.step ?_ (resolveDriver_within ..) rfl
        refine Within.step ?_ (setStep_within ..) rfl
        beta_reduce
        lift_lets
        refine Within.glb ?_ _ rfl (.inr ⟨rfl, rfl⟩)
        exact Within.refl _ _
    · refine Within.ite ?_ ?_
      · refine Within.ite ?_ ?_
        · refine Within.step ?_ (resolveStandby_within ..) rfl
          refine Within.step ?_ (setStep_within ..) rfl
          beta_reduce
          lift_lets
          refine Within.glb ?_ _ rfl (.inr ⟨rfl, rfl⟩)
          exact Within.refl _ _
        · refine Within.ite ?_ ?_
          · refine Within.step ?_ (raise_within ..) rfl
            refine Within.step ?_ (setStep_within ..) rfl
            beta_reduce
            lift_lets
            refine Within.glb ?_ _ rfl (.inr ⟨rfl, rfl⟩)
            exact Within.refl _ _
          · refine Within.ite ?_ ?_
            · refine Within.step ?_ (resolveDriver_within ..) rfl
              refine Within.step ?_ (setStep_within ..) rfl
              beta_reduce
              lift_lets
              refine Within.glb ?_ _ rfl (.inr ⟨rfl, rfl⟩)
              exact Within.refl _ _
            · refine Within.step ?_ (resolveStandby_within ..) rfl
              refine Within.step ?_ (setStep_within ..) rfl
              beta_reduce
              lift_lets
              refine Within.glb ?_ _ rfl (.inr ⟨rfl, rfl⟩)
              exact Within.refl _ _
      · refine Within.ite ?_ ?_
        · refine Within.ite ?_ ?_
          · refine Within.step ?_ (resolveStandby_within ..) rfl
            refine Within.step ?_ (setStep_within ..) rfl
            beta_reduce
            lift_lets
            refine Within.glb ?_ _ rfl (.inr ⟨rfl, rfl⟩)
            exact Within.refl _ _
          · refine Within.ite ?_ ?_
            · refine Within.step ?_ (resolveDriver_within ..) rfl
              refine Within.step ?_ (setStep_within ..) rfl
              beta_reduce
              lift_lets
              refine Within.glb ?_ _ rfl (.inr ⟨rfl, rfl⟩)
              exact Within.refl _ _
            · refine Within.glb ?_ _ rfl (.inr ⟨rfl, rfl⟩)
              exact Within.refl _ _
        · refine Within.glb ?_ _ rfl (.inr ⟨rfl, rfl⟩)
          exact Within.refl _ _

theorem roleWaitExpiry_within (s : State) : Within 9455521 s (roleWaitExpiry s) := by
  delta roleWaitExpiry
  refine Within.ite ?_ ?_
  · exact Within.refl _ _
  · lift_lets
    intro n0 y1
    have h2 : Within 9455521 s y1 := by
      subst y1
      refine Within.step ?_ (setStep_within ..) rfl
      refine Within.glb ?_ _ rfl (.inr ⟨rfl, rfl⟩)
      exact Within.refl _ _
    clear_value y1
    refine Within.ite ?_ ?_
    · refine Within.step ?_ (resolveStandby_within ..) rfl
      assumption
    · refine Within.step ?_ (resolveDriver_within ..) rfl
      assumption

theorem roleGoOn_within (s : State) : Within 9455521 s (roleGoOn s) := by
  delta roleGoOn
  refine Within.ite ?_ ?_
  · exact Within.mono (roleResolve_within ..) rfl
  · exact Within.refl _ _

theorem relayTrained_within (lrly : Nat) (s : State) : Within 9455521 s (relayTrained lrly s) := by
  delta relayTrained
  refine Within.ite ?_ ?_
  · refine Within.step ?_ (standbyEpoch_within ..) rfl
    refine Within.step ?_ (roleGoOn_within ..) rfl
    exact Within.mono (linkUp_within ..) rfl
  · exact Within.refl _ _

theorem attemptTimeout_within (s : State) : Within 9455521 s (attemptTimeout s) := by
  delta attemptTimeout
  refine Within.ite ?_ ?_
  · exact Within.refl _ _
  · refine Within.ite ?_ ?_
    · lift_lets
      intro n0
      refine Within.step ?_ (State.emit_within ..) rfl
      refine Within.twn ?_ _ rfl
      exact Within.refl _ _
    · lift_lets
      intro n1
      refine Within.step ?_ (roleGoOn_within ..) rfl
      refine Within.step ?_ (standbyJudge_within ..) rfl
      refine Within.step ?_ (raise_within ..) rfl
      refine Within.step ?_ (linkState_within ..) rfl
      refine Within.twn ?_ _ rfl
      exact Within.refl _ _

theorem linkLane_within (l : Nat) (s : State) : Within 9455521 s (linkLane l s) := by
  delta linkLane
  lift_lets
  intro y0
  have h1 : Within 9455521 s y0 := by
    subst y0
    refine Within.step ?_ (State.setLn_within ..) rfl
    exact Within.mono (State.wr_within ..) rfl
  clear_value y0
  intro n2
  refine Within.ite ?_ ?_
  · refine Within.step ?_ (idleLane_within ..) rfl
    assumption
  · refine Within.ite ?_ ?_
    · refine Within.step ?_ (enumStart_within ..) rfl
      assumption
    · assumption

theorem linkEnd_within (s : State) : Within 9459617 s (linkEnd s) := by
  delta linkEnd
  lift_lets
  intro y0
  have h1 : Within 9459617 s y0 := by
    subst y0
    exact Within.mono (State.mapCells_within ..) rfl
  clear_value y0
  intro y2
  have h3 : Within 9459617 s y2 := by
    subst y2
    refine Within.step ?_ (dlvUpdate_within ..) rfl
    refine Within.step ?_ (identityCheck_within ..) rfl
    assumption
  clear_value y2
  intro y4
  have h5 : Within 9459617 s y4 := by
    subst y4
    refine Within.forAll ?_ fun a6 y7 h8 => ?_
    · assumption
    · refine Within.step ?_ (cellCount_within ..) rfl
      assumption
  clear_value y4
  intro n9 y10
  have h11 : Within 9459617 s y10 := by
    subst y10
    refine Within.step ?_ (setStep_within ..) rfl
    refine Within.step ?_ (State.wr_within ..) rfl
    assumption
  clear_value y10
  intro y12
  have h13 : Within 9459617 s y12 := by
    subst y12
    refine Within.forAll ?_ fun a14 y15 h16 => ?_
    · assumption
    · refine Within.step ?_ (raise_within ..) rfl
      refine Within.step ?_ (State.wr_within ..) rfl
      assumption
  clear_value y12
  intro n17
  refine Within.ite ?_ ?_
  · refine Within.ite ?_ ?_
    · refine Within.step ?_ (changeState_within ..) rfl
      assumption
    · assumption
  · refine Within.step ?_ (State.wr_within ..) rfl
    refine Within.glb ?_ _ rfl (.inr ⟨rfl, rfl⟩)
    assumption

theorem linkJudge_within (s : State) : Within 9459617 s (linkJudge s) := by
  delta linkJudge
  refine Within.ite ?_ ?_
  · exact Within.mono (linkEnd_within ..) rfl
  · exact Within.refl _ _

theorem linkStart_within (s : State) : Within 9459617 s (linkStart s) := by
  delta linkStart
  lift_lets
  intro y0
  have h1 : Within 9459617 s y0 := by
    subst y0
    refine Within.step ?_ (setStep_within ..) rfl
    exact Within.mono (State.wr_within ..) rfl
  clear_value y0
  intro n2 y3
  have h4 : Within 9459617 s y3 := by
    subst y3
    refine Within.glb ?_ _ rfl (.inr ⟨rfl, rfl⟩)
    assumption
  clear_value y3
  intro y5
  have h6 : Within 9459617 s y5 := by
    subst y5
    refine Within.step ?_ (State.mapCells_within ..) rfl
    assumption
  clear_value y5
  refine Within.step ?_ (linkJudge_within ..) rfl
  refine Within.forAll ?_ fun a7 y8 h9 => ?_
  · assumption
  · refine Within.step ?_ (linkLane_within ..) rfl
    assumption

theorem linkAsk_within (s : State) : Within 9459617 s (linkAsk s) := by
  delta linkAsk
  refine Within.ite ?_ ?_
  · exact Within.mono (linkStart_within ..) rfl
  · lift_lets
    intro n0
    refine Within.glb ?_ _ rfl (.inr ⟨rfl, rfl⟩)
    exact Within.refl _ _

theorem linkStep_within (s : State) : Within 1 s (linkStep s) := by
  delta linkStep
  refine Within.ite ?_ ?_
  · exact Within.mono (setStep_within ..) rfl
  · exact Within.refl _ _

theorem chainEnumerated_within (l : Nat) (s : State) : Within 9459617 s (chainEnumerated l s) := by
  delta chainEnumerated
  split
  · refine Within.ite ?_ ?_
    · refine Within.step ?_ (linkJudge_within ..) rfl
      refine Within.step ?_ (State.setLn_within ..) rfl
      exact Within.mono (State.wr_within ..) rfl
    · exact Within.refl _ _
  · exact Within.refl _ _

theorem linkTimeout_within (s : State) : Within 9459617 s (linkTimeout s) := by
  delta linkTimeout
  refine Within.ite ?_ ?_
  · exact Within.mono (linkEnd_within ..) rfl
  · refine Within.ite ?_ ?_
    · exact Within.mono (linkStart_within ..) rfl
    · exact Within.refl _ _

theorem startUp_within (s : State) : Within 13911969 s (startUp s) := by
  delta startUp
  lift_lets
  intro y0
  have h1 : Within 13911969 s y0 := by
    subst y0
    refine Within.step ?_ (relayStart_within ..) rfl
    refine Within.step ?_ (lmuLoaded_within ..) rfl
    exact Within.mono (setStep_within ..) rfl
  intro n2 y3
  have h4 : Within 13911969 s y3 := by
    subst y3
    refine Within.clk ?_ _ rfl
    assumption
  intro n5 n6 n7
  refine Within.ite ?_ ?_
  · refine Within.clk ?_ _ rfl
    assumption
  · refine Within.ite ?_ ?_
    · refine Within.step ?_ (slackStart_within ..) rfl
      assumption
    · refine Within.step ?_ (plStart_within ..) rfl
      assumption

theorem armCyclesStart_within (s : State) : Within 13664161 s (armCyclesStart s) := by
  delta armCyclesStart
  lift_lets
  intro y0
  have h1 : Within 13664161 s y0 := by
    subst y0
    exact Within.mono (State.wr_within ..) rfl
  clear_value y0
  intro n2 y3
  have h4 : Within 13664161 s y3 := by
    subst y3
    refine Within.clk ?_ _ rfl
    assumption
  clear_value y3
  intro n5 y6
  have h7 : Within 13664161 s y6 := by
    subst y6
    refine Within.sch ?_ _ rfl
    assumption
  clear_value y6
  intro n8 y9
  have h10 : Within 13664161 s y9 := by
    subst y9
    refine Within.ref ?_ _ rfl
    assumption
  clear_value y9
  intro y11
  have h12 : Within 13664161 s y11 := by
    subst y11
    refine Within.forAll ?_ fun a13 y14 h15 => ?_
    · assumption
    · refine Within.step ?_ (State.setArm_within ..) rfl
      assumption
  clear_value y11
  refine Within.ite ?_ ?_
  · refine Within.step ?_ (linkStart_within ..) rfl
    assumption
  · refine Within.step ?_ (setStep_within ..) rfl
    assumption

theorem armCyclesStop_within (s : State) : Within 9881505 s (armCyclesStop s) := by
  delta armCyclesStop
  lift_lets
  intro y0
  have h1 : Within 9881505 s y0 := by
    subst y0
    exact Within.mono (State.wrs_within ..) rfl
  clear_value y0
  intro n2 y3
  have h4 : Within 9881505 s y3 := by
    subst y3
    refine Within.glb ?_ _ rfl (.inr ⟨rfl, rfl⟩)
    assumption
  clear_value y3
  intro n5 y6
  have h7 : Within 9881505 s y6 := by
    subst y6
    refine Within.cl ?_ _ rfl
    assumption
  clear_value y6
  intro n8 y9
  have h10 : Within 9881505 s y9 := by
    subst y9
    refine Within.cg ?_ _ rfl
    assumption
  clear_value y9
  intro n11 y12
  have h13 : Within 9881505 s y12 := by
    subst y12
    refine Within.twn ?_ _ rfl
    assumption
  clear_value y12
  refine Within.step ?_ (relayOff_within ..) rfl
  refine Within.step ?_ (wbStop_within ..) rfl
  refine Within.step ?_ (lmuStop_within ..) rfl
  refine Within.step ?_ (lanesStop_within ..) rfl
  assumption

theorem slackDone_within (worst : Nat) (s : State) : Within 13926305 s (slackDone worst s) := by
  delta slackDone
  refine Within.ite ?_ ?_
  · exact Within.refl _ _
  · lift_lets
    intro y0
    have h1 : Within 13926305 s y0 := by
      subst y0
      exact Within.mono (slackResult_within ..) rfl
    clear_value y0
    intro n2
    refine Within.ite ?_ ?_
    · refine Within.step ?_ (startUp_within ..) rfl
      refine Within.clk ?_ _ rfl
      assumption
    · refine Within.ite ?_ ?_
      · assumption
      · refine Within.ite ?_ ?_
        · refine Within.step ?_ (armCyclesStart_within ..) rfl
          assumption
        · refine Within.step ?_ (State.wr_within ..) rfl
          assumption

theorem lmuCalDone_within (l : List (BitVec 16)) (s : State) : Within 9717665 s (lmuCalDone l s) := by
  delta lmuCalDone
  refine Within.ite ?_ ?_
  · exact Within.refl _ _
  · lift_lets
    intro n0 y1
    have h2 : Within 9717665 s y1 := by
      subst y1
      exact Within.mono (calDone_within ..) rfl
    clear_value y1
    refine Within.ite ?_ ?_
    · refine Within.step ?_ (State.wr_within ..) rfl
      assumption
    · assumption

theorem command_step  {code hold : Nat} {k : State → State} {s : State} {fm : Nat} {z : State} (hh : Within fm z s) (hk : ∀ (y : State), Within fm z y → Within fm z (k y)) (hm : 8389409 ||| fm = fm) :
    Within fm z (command code hold k s) := by
  delta command
  lift_lets
  intro y0
  have h1 : Within fm z y0 := by
    subst y0
    refine Within.step ?_ (State.count_within ..) (Within.sub rfl hm)
    refine Within.step ?_ (State.wr_within ..) (Within.sub rfl hm)
    assumption
  clear_value y0
  refine Within.ite ?_ ?_
  · refine Within.step ?_ (State.event_within ..) (Within.sub rfl hm)
    refine Within.step ?_ (State.wr_within ..) (Within.sub rfl hm)
    refine hk _ ?_
    refine Within.step ?_ (State.logCommand_within ..) (Within.sub rfl hm)
    assumption
  · refine Within.step ?_ (State.event_within ..) (Within.sub rfl hm)
    refine Within.step ?_ (State.logCommand_within ..) (Within.sub rfl hm)
    refine Within.step ?_ (State.wrs_within ..) (Within.sub rfl hm)
    assumption

theorem linkAct_within (s : State) : Within 13916065 s (linkAct s) := by
  delta linkAct
  refine Within.ite ?_ ?_
  · lift_lets
    intro n0
    refine Within.step ?_ (startUp_within ..) rfl
    refine Within.glb ?_ _ rfl (.inr ⟨rfl, rfl⟩)
    exact Within.refl _ _
  · exact Within.mono (linkAsk_within ..) rfl

theorem cmdLink_within (s : State) : Within 13916065 s (cmdLink s) := by
  delta cmdLink
  refine command_step ?_ ?_ rfl
  · exact Within.refl _ _
  · intro y0 h1
    refine Within.step ?_ (linkAct_within ..) rfl
    assumption

theorem armAct_within (s : State) : Within 8406945 s (armAct s) := by
  delta armAct
  exact Within.mono (changeState_within ..) rfl

theorem cmdArm_within (key : Nat) (s : State) : Within 8406945 s (cmdArm key s) := by
  delta cmdArm
  refine command_step ?_ ?_ rfl
  · exact Within.refl _ _
  · intro y0 h1
    refine Within.step ?_ (armAct_within ..) rfl
    assumption

theorem autoArm_within (s : State) : Within 8406945 s (autoArm s) := by
  delta autoArm
  refine Within.ite ?_ ?_
  · exact Within.mono (armAct_within ..) rfl
  · exact Within.refl _ _

theorem deblockAct_within (s : State) : Within 128 s (deblockAct s) := by
  delta deblockAct
  lift_lets
  intro n0
  refine Within.glb ?_ _ rfl (.inr ⟨rfl, rfl⟩)
  exact Within.refl _ _

theorem cmdDeblock_within (key : Nat) (s : State) : Within 8389537 s (cmdDeblock key s) := by
  delta cmdDeblock
  refine command_step ?_ ?_ rfl
  · exact Within.refl _ _
  · intro y0 h1
    refine Within.step ?_ (deblockAct_within ..) rfl
    assumption

theorem orderlyStart_within (s : State) : Within 129 s (orderlyStart s) := by
  delta orderlyStart
  lift_lets
  intro n0
  refine Within.step ?_ (setStep_within ..) rfl
  refine Within.glb ?_ _ rfl (.inr ⟨rfl, rfl⟩)
  exact Within.refl _ _

theorem blockHere_within (orderly : Bool) (s : State) : Within 8406945 s (blockHere orderly s) := by
  delta blockHere
  refine Within.ite ?_ ?_
  · refine Within.ite ?_ ?_
    · exact Within.refl _ _
    · exact Within.mono (orderlyStart_within ..) rfl
  · exact Within.mono (blockAll_within ..) rfl

theorem blockAct_within (orderly : Bool) (s : State) : Within 8406945 s (blockAct orderly s) := by
  delta blockAct
  refine Within.ite ?_ ?_
  · exact Within.mono (State.relay_within ..) rfl
  · exact Within.mono (blockHere_within ..) rfl

theorem cmdBlock_within (arg : Nat) (s : State) : Within 8406945 s (cmdBlock arg s) := by
  delta cmdBlock
  refine command_step ?_ ?_ rfl
  · exact Within.refl _ _
  · intro y0 h1
    refine Within.step ?_ (blockAct_within ..) rfl
    assumption

theorem opblk_within (s : State) : Within 8406945 s (opblk s) := by
  delta opblk
  refine Within.ite ?_ ?_
  · exact Within.refl _ _
  · refine Within.ite ?_ ?_
    · exact Within.mono (State.wr_within ..) rfl
    · lift_lets
      intro y0
      have h1 : Within 8406945 s y0 := by
        subst y0
        exact Within.mono (State.put_within ..) rfl
      clear_value y0
      refine Within.ite ?_ ?_
      · refine Within.step ?_ (State.relay_within ..) rfl
        assumption
      · refine Within.step ?_ (blockHere_within ..) rfl
        assumption

theorem forwardedBlock_within (op orderly : Bool) (s : State) : Within 8406945 s (forwardedBlock op orderly s) := by
  delta forwardedBlock
  refine Within.ite ?_ ?_
  · exact Within.refl _ _
  · refine Within.ite ?_ ?_
    · refine Within.ite ?_ ?_
      · refine Within.step ?_ (blockHere_within ..) rfl
        exact Within.mono (State.put_within ..) rfl
      · exact Within.refl _ _
    · refine command_step ?_ ?_ rfl
      · exact Within.refl _ _
      · intro y0 h1
        refine Within.step ?_ (blockHere_within ..) rfl
        assumption

theorem orderlyTimeout_within (s : State) : Within 129 s (orderlyTimeout s) := by
  delta orderlyTimeout
  refine Within.ite ?_ ?_
  · lift_lets
    intro n0
    refine Within.step ?_ (State.wr_within ..) rfl
    refine Within.glb ?_ _ rfl (.inr ⟨rfl, rfl⟩)
    exact Within.refl _ _
  · exact Within.refl _ _

theorem disarmAct_within (s : State) : Within 8406945 s (disarmAct s) := by
  delta disarmAct
  refine Within.step ?_ (changeState_within ..) rfl
  exact Within.mono (supersede_within ..) rfl

theorem cmdDisarm_within (s : State) : Within 8406945 s (cmdDisarm s) := by
  delta cmdDisarm
  refine command_step ?_ ?_ rfl
  · exact Within.refl _ _
  · intro y0 h1
    refine Within.step ?_ (disarmAct_within ..) rfl
    assumption

theorem recoverAct_within (s : State) : Within 13916065 s (recoverAct s) := by
  delta recoverAct
  refine Within.ite ?_ ?_
  · lift_lets
    intro n0 y1
    have h2 : Within 13916065 s y1 := by
      subst y1
      exact Within.mono (changeState_within ..) rfl
    clear_value y1
    refine Within.ite ?_ ?_
    · refine Within.step ?_ (linkStart_within ..) rfl
      assumption
    · assumption
  · lift_lets
    intro y3
    have h4 : Within 13916065 s y3 := by
      subst y3
      exact Within.mono (changeState_within ..) rfl
    clear_value y3
    refine Within.ite ?_ ?_
    · assumption
    · refine Within.step ?_ (startUp_within ..) rfl
      assumption

theorem cmdRecover_within (key : Nat) (s : State) : Within 13916065 s (cmdRecover key s) := by
  delta cmdRecover
  refine command_step ?_ ?_ rfl
  · exact Within.refl _ _
  · intro y0 h1
    refine Within.step ?_ (recoverAct_within ..) rfl
    assumption

theorem shutEnd_within (s : State) : Within 14075809 s (shutEnd s) := by
  delta shutEnd
  lift_lets
  intro n0 y1
  have h2 : Within 14075809 s y1 := by
    subst y1
    refine Within.glb ?_ _ rfl (.inr ⟨rfl, rfl⟩)
    exact Within.refl _ _
  clear_value y1
  intro n3 y4
  have h5 : Within 14075809 s y4 := by
    subst y4
    refine Within.clk ?_ _ rfl
    assumption
  clear_value y4
  intro y6
  have h7 : Within 14075809 s y6 := by
    subst y6
    refine Within.ite ?_ ?_
    · assumption
    · refine Within.ite ?_ ?_
      · refine Within.step ?_ (setStep_within ..) rfl
        assumption
      · refine Within.step ?_ (applyState_within ..) rfl
        assumption
  clear_value y6
  refine Within.step ?_ (armCyclesStop_within ..) rfl
  assumption

theorem shutTwo_within (s : State) : Within 129 s (shutTwo s) := by
  delta shutTwo
  lift_lets
  intro n0 n1 y2
  have h3 : Within 129 s y2 := by
    subst y2
    refine Within.glb ?_ _ rfl (.inr ⟨rfl, rfl⟩)
    exact Within.refl _ _
  clear_value y2
  intro n4
  refine Within.ite ?_ ?_
  · refine Within.ite ?_ ?_
    · assumption
    · refine Within.step ?_ (orderlyStart_within ..) rfl
      assumption
  · refine Within.glb ?_ _ rfl (.inr ⟨rfl, rfl⟩)
    assumption

theorem shutTail_within (s : State) : Within 14079905 s (shutTail s) := by
  delta shutTail
  lift_lets
  intro n0 y1
  have h2 : Within 14079905 s y1 := by
    subst y1
    refine Within.ite ?_ ?_
    · refine Within.step ?_ (permitWithdraw_within ..) rfl
      refine Within.glb ?_ _ rfl (.inr ⟨rfl, rfl⟩)
      exact Within.refl _ _
    · exact Within.refl _ _
  clear_value y1
  intro n3 y4
  have h5 : Within 14079905 s y4 := by
    subst y4
    refine Within.ite ?_ ?_
    · refine Within.step ?_ (ckptStart_within ..) rfl
      refine Within.glb ?_ _ rfl (.inr ⟨rfl, rfl⟩)
      assumption
    · assumption
  clear_value y4
  refine Within.ite ?_ ?_
  · refine Within.step ?_ (shutEnd_within ..) rfl
    assumption
  · assumption

theorem shutTick_within (s : State) : Within 14079905 s (shutTick s) := by
  delta shutTick
  lift_lets
  intro n0 y1
  have h2 : Within 14079905 s y1 := by
    subst y1
    refine Within.ite ?_ ?_
    · refine Within.ite ?_ ?_
      · exact Within.mono (shutTwo_within ..) rfl
      · refine Within.ite ?_ ?_
        · exact Within.mono (shutTwo_within ..) rfl
        · refine Within.glb ?_ _ rfl (.inr ⟨rfl, rfl⟩)
          exact Within.refl _ _
    · exact Within.refl _ _
  clear_value y1
  refine Within.step ?_ (shutTail_within ..) rfl
  assumption

theorem shutBegin_within (scope : Nat) (s : State) : Within 14079905 s (shutBegin scope s) := by
  delta shutBegin
  lift_lets
  intro n0 y1
  have h2 : Within 14079905 s y1 := by
    subst y1
    refine Within.glb ?_ _ rfl (.inr ⟨rfl, rfl⟩)
    exact Within.refl _ _
  clear_value y1
  intro n3 y4
  have h5 : Within 14079905 s y4 := by
    subst y4
    refine Within.ite ?_ ?_
    · refine Within.ite ?_ ?_
      · refine Within.step ?_ (State.relay_within ..) rfl
        refine Within.glb ?_ _ rfl (.inr ⟨rfl, rfl⟩)
        assumption
      · refine Within.step ?_ (shutTwo_within ..) rfl
        assumption
    · refine Within.step ?_ (shutTwo_within ..) rfl
      refine Within.step ?_ (State.relay_within ..) rfl
      assumption
  clear_value y4
  refine Within.ite ?_ ?_
  · assumption
  · refine Within.step ?_ (shutTail_within ..) rfl
    assumption

theorem cmdShutdown_within (arg key : Nat) (s : State) : Within 14079905 s (cmdShutdown arg key s) := by
  delta cmdShutdown
  refine command_step ?_ ?_ rfl
  · exact Within.refl _ _
  · intro y0 h1
    refine Within.ite ?_ ?_
    · assumption
    · refine Within.step ?_ (shutBegin_within ..) rfl
      assumption

theorem partnerShutdown_within (s : State) : Within 14079905 s (partnerShutdown s) := by
  delta partnerShutdown
  refine Within.ite ?_ ?_
  · exact Within.refl _ _
  · lift_lets
    intro n0 y1
    have h2 : Within 14079905 s y1 := by
      subst y1
      refine Within.step ?_ (shutTwo_within ..) rfl
      refine Within.glb ?_ _ rfl (.inr ⟨rfl, rfl⟩)
      exact Within.refl _ _
    clear_value y1
    refine Within.ite ?_ ?_
    · assumption
    · refine Within.step ?_ (shutTail_within ..) rfl
      assumption

theorem glbCommand_within (w : Nat) (s : State) : Within 14079905 s (glbCommand w s) := by
  delta glbCommand
  lift_lets
  intro n0 n1
  split
  · exact Within.mono (cmdLink_within ..) rfl
  · exact Within.mono (cmdArm_within ..) rfl
  · exact Within.mono (cmdDeblock_within ..) rfl
  · exact Within.mono (cmdBlock_within ..) rfl
  · exact Within.mono (cmdDisarm_within ..) rfl
  · exact Within.mono (cmdRecover_within ..) rfl
  · exact Within.mono (cmdShutdown_within ..) rfl
  · refine command_step ?_ ?_ rfl
    · exact Within.refl _ _
    · intro y2 h3
      dsimp only [id]
      assumption

theorem restart20_within (relink : Bool) (s : State) : Within 14075809 s (restart20 relink s) := by
  delta restart20
  lift_lets
  intro y0
  have h1 : Within 14075809 s y0 := by
    subst y0
    exact Within.mono (armCyclesStop_within ..) rfl
  clear_value y0
  intro n2
  refine Within.step ?_ (startUp_within ..) rfl
  refine Within.glb ?_ _ rfl (.inr ⟨rfl, rfl⟩)
  assumption

theorem restartDue_within (s : State) : Within 14075809 s (restartDue s) := by
  delta restartDue
  split
  · refine Within.ite ?_ ?_
    · lift_lets
      intro n0
      refine Within.step ?_ (restart20_within ..) rfl
      refine Within.clk ?_ _ rfl
      exact Within.refl _ _
    · exact Within.refl _ _
  · exact Within.refl _ _

theorem enterState_within (new step : Nat) (s : State) : Within 9459617 s (enterState new step s) := by
  delta enterState
  lift_lets
  intro y0
  have h1 : Within 9459617 s y0 := by
    subst y0
    refine Within.step ?_ (standbyJudge_within ..) rfl
    exact Within.mono (applyState_within ..) rfl
  clear_value y0
  intro n2
  refine Within.ite ?_ ?_
  · refine Within.glb ?_ _ rfl (.inr ⟨rfl, rfl⟩)
    assumption
  · refine Within.ite ?_ ?_
    · refine Within.step ?_ (roleResolve_within ..) rfl
      refine Within.step ?_ (permitWithdraw_within ..) rfl
      assumption
    · refine Within.ite ?_ ?_
      · refine Within.step ?_ (permitWithdraw_within ..) rfl
        assumption
      · refine Within.ite ?_ ?_
        · refine Within.forAll ?_ fun a3 y4 h5 => ?_
          · assumption
          · refine Within.step ?_ (State.setArm_within ..) rfl
            assumption
        · assumption

theorem stateStart_within (s : State) : Within 14079905 s (stateStart s) := by
  delta stateStart
  lift_lets
  intro y0
  have h1 : Within 14079905 s y0 := by
    subst y0
    exact Within.mono (State.wr_within ..) rfl
  clear_value y0
  intro y2
  have h3 : Within 14079905 s y2 := by
    subst y2
    refine Within.ite ?_ ?_
    · refine Within.step ?_ (blockAll_within ..) rfl
      assumption
    · assumption
  clear_value y2
  intro n4 n5 y6
  have h7 : Within 14079905 s y6 := by
    subst y6
    refine Within.twn ?_ _ rfl
    assumption
  clear_value y6
  intro n8 y9
  have h10 : Within 14079905 s y9 := by
    subst y9
    refine Within.glb ?_ _ rfl (.inr ⟨rfl, rfl⟩)
    assumption
  clear_value y9
  intro y11
  have h12 : Within 14079905 s y11 := by
    subst y11
    split
    · rename_i u13 u14 u15 u16
      refine Within.ite ?_ ?_
      · refine Within.step ?_ (setStep_within ..) rfl
        assumption
      · refine Within.step ?_ (enterState_within ..) rfl
        assumption
    · refine Within.ite ?_ ?_
      · refine Within.step ?_ (enterState_within ..) rfl
        refine Within.glb ?_ _ rfl (.inr ⟨rfl, rfl⟩)
        assumption
      · subst n4
        split
        · refine Within.ite ?_ ?_
          · refine Within.step ?_ (enterState_within ..) rfl
            assumption
          · assumption
        · assumption
  clear_value y11
  intro y17
  have h18 : Within 14079905 s y17 := by
    subst y17
    refine Within.ite ?_ ?_
    · refine Within.step ?_ (endOrderly_within ..) rfl
      assumption
    · assumption
  clear_value y17
  refine Within.step ?_ (restartDue_within ..) rfl
  refine Within.step ?_ (linkStep_within ..) rfl
  refine Within.step ?_ (shutTick_within ..) rfl
  assumption

end Sys2Proof.Machine
end

