-- ==== Sys2Proof/Laws/WithinTwin.lean ====
section
/-! SUPPORT. The footprints of the operations of `Sys2Proof/Machine/Twin.lean`. -/

namespace Sys2Proof.Machine

theorem rehEnd_within (result : Nat) (failed : List Nat) (s : State) : Within 9717665 s (rehEnd result failed s) := by
  delta rehEnd
  lift_lets
  intro n0 y1
  have h2 : Within 9717665 s y1 := by
    subst y1
    refine Within.twn ?_ _ rfl
    exact Within.refl _ _
  clear_value y1
  intro y3
  have h4 : Within 9717665 s y3 := by
    subst y3
    refine Within.step ?_ (State.wrs_within ..) rfl
    assumption
  clear_value y3
  refine Within.ite ?_ ?_
  · refine Within.step ?_ (raise_within ..) rfl
    assumption
  · refine Within.ite ?_ ?_
    · refine Within.step ?_ (unraise_within ..) rfl
      assumption
    · assumption

theorem rehAbort_within (s : State) : Within 1048576 s (rehAbort s) := by
  delta rehAbort
  lift_lets
  intro n0
  refine Within.twn ?_ _ rfl
  exact Within.refl _ _

theorem rehTakeBack_within (s : State) : Within 1049601 s (rehTakeBack s) := by
  delta rehTakeBack
  lift_lets
  intro y0
  have h1 : Within 1049601 s y0 := by
    subst y0
    refine Within.ite ?_ ?_
    · exact Within.mono (State.wr_within ..) rfl
    · exact Within.refl _ _
  clear_value y0
  intro n2 y3
  have h4 : Within 1049601 s y3 := by
    subst y3
    refine Within.twn ?_ _ rfl
    assumption
  clear_value y3
  intro n5
  refine Within.ite ?_ ?_
  · refine Within.cl ?_ _ rfl
    assumption
  · assumption

theorem rehFreeze_within (s : State) : Within 9717665 s (rehFreeze s) := by
  delta rehFreeze
  split
  · refine Within.ite ?_ ?_
    · lift_lets
      intro y0
      have h1 : Within 9717665 s y0 := by
        subst y0
        refine Within.ite ?_ ?_
        · exact Within.mono (rehTakeBack_within ..) rfl
        · exact Within.refl _ _
      clear_value y0
      refine Within.step ?_ (rehEnd_within ..) rfl
      assumption
    · exact Within.refl _ _
  · exact Within.refl _ _

theorem rehJudge_within (s : State) : Within 9437184 s (rehJudge s) := by
  delta rehJudge
  split
  · lift_lets
    intro n0 n1
    refine Within.ite ?_ ?_
    · refine Within.step ?_ (State.relay_within ..) rfl
      exact Within.mono (rehAbort_within ..) rfl
    · exact Within.refl _ _
  · exact Within.refl _ _

theorem rehWatch_within (s : State) : Within 1048576 s (rehWatch s) := by
  delta rehWatch
  split
  · lift_lets
    intro n0 n1 n2 n3
    refine Within.ite ?_ ?_
    · refine Within.twn ?_ _ rfl
      exact Within.refl _ _
    · exact Within.refl _ _
  · exact Within.refl _ _

theorem takeoverRefused_within (s : State) : Within 9455521 s (takeoverRefused s) := by
  delta takeoverRefused
  refine Within.step ?_ (rehAbort_within ..) rfl
  refine Within.step ?_ (raise_within ..) rfl
  exact Within.mono (State.wr_within ..) rfl

theorem takeoverTrigger_within (trig : Nat) (s : State) : Within 9455521 s (takeoverTrigger trig s) := by
  delta takeoverTrigger
  refine Within.ite ?_ ?_
  · exact Within.refl _ _
  · lift_lets
    intro n0 n1
    refine Within.ite ?_ ?_
    · exact Within.mono (takeoverRefused_within ..) rfl
    · refine Within.ite ?_ ?_
      · refine Within.step ?_ (takeoverRefused_within ..) rfl
        exact Within.mono (raise_within ..) rfl
      · refine Within.step ?_ (State.wr_within ..) rfl
        refine Within.twn ?_ _ rfl
        exact Within.refl _ _

theorem takeoverPoint_within (s : State) : Within 9717665 s (takeoverPoint s) := by
  delta takeoverPoint
  split
  · rename_i u0 u1 u2 u3
    refine Within.ite ?_ ?_
    · exact Within.refl _ _
    · lift_lets
      intro n4 n5 n6 n7 y8
      have h9 : Within 9717665 s y8 := by
        subst y8
        refine Within.twn ?_ _ rfl
        exact Within.refl _ _
      clear_value y8
      intro y10
      have h11 : Within 9717665 s y10 := by
        subst y10
        refine Within.ite ?_ ?_
        · refine Within.step ?_ (rehEnd_within ..) rfl
          assumption
        · assumption
      clear_value y10
      intro y12
      have h13 : Within 9717665 s y12 := by
        subst y12
        refine Within.step ?_ (State.wrs_within ..) rfl
        assumption
      clear_value y12
      intro y14
      have h15 : Within 9717665 s y14 := by
        subst y14
        refine Within.step ?_ (State.wr64_within ..) rfl
        assumption
      clear_value y14
      intro n16 y17
      have h18 : Within 9717665 s y17 := by
        subst y17
        refine Within.cl ?_ _ rfl
        assumption
      clear_value y17
      intro y19
      have h20 : Within 9717665 s y19 := by
        subst y19
        refine Within.step ?_ (raise_within ..) rfl
        refine Within.step ?_ (State.relay_within ..) rfl
        assumption
      clear_value y19
      refine Within.step ?_ (ledgerFire_within ..) rfl
      assumption
  · exact Within.refl _ _

theorem hbMissed_within (s : State) : Within 9455521 s (hbMissed s) := by
  delta hbMissed
  lift_lets
  intro n0 n1 n2 y3
  have h4 : Within 9455521 s y3 := by
    subst y3
    refine Within.step ?_ (State.inc_within ..) rfl
    refine Within.twn ?_ _ rfl
    exact Within.refl _ _
  clear_value y3
  intro n5
  refine Within.ite ?_ ?_
  · exact Within.refl _ _
  · refine Within.ite ?_ ?_
    · assumption
    · refine Within.step ?_ (linkLost_within ..) rfl
      refine Within.ite ?_ ?_
      · refine Within.step ?_ (takeoverTrigger_within ..) rfl
        assumption
      · assumption

theorem tkreqReceived_within (s : State) : Within 9455521 s (tkreqReceived s) := by
  delta tkreqReceived
  refine Within.ite ?_ ?_
  · exact Within.refl _ _
  · lift_lets
    intro y0
    have h1 : Within 9455521 s y0 := by
      subst y0
      exact Within.mono (raise_within ..) rfl
    clear_value y0
    refine Within.ite ?_ ?_
    · refine Within.step ?_ (takeoverTrigger_within ..) rfl
      assumption
    · assumption

theorem tknoteReceived_within (epoch : Nat) (s : State) : Within 9717665 s (tknoteReceived epoch s) := by
  delta tknoteReceived
  refine Within.ite ?_ ?_
  · exact Within.refl _ _
  · lift_lets
    intro y0
    have h1 : Within 9717665 s y0 := by
      subst y0
      refine Within.ite ?_ ?_
      · exact Within.mono (rehEnd_within ..) rfl
      · exact Within.refl _ _
    clear_value y0
    intro n2 y3
    have h4 : Within 9717665 s y3 := by
      subst y3
      refine Within.twn ?_ _ rfl
      assumption
    clear_value y3
    refine Within.step ?_ (State.wr_within ..) rfl
    refine Within.step ?_ (State.wr_within ..) rfl
    assumption

theorem ublkReceived_within (mask : Nat) (s : State) : Within 9455521 s (ublkReceived mask s) := by
  delta ublkReceived
  lift_lets
  intro n0 y1
  have h2 : Within 9455521 s y1 := by
    subst y1
    refine Within.step ?_ (urgentBlock_within ..) rfl
    refine Within.step ?_ (endOrderly_within ..) rfl
    exact Within.mono (supersede_within ..) rfl
  clear_value y1
  intro n3 n4
  refine Within.ite ?_ ?_
  · refine Within.ite ?_ ?_
    · refine Within.step ?_ (changeState_within ..) rfl
      assumption
    · refine Within.twn ?_ _ rfl
      assumption
  · refine Within.ite ?_ ?_
    · refine Within.twn ?_ _ rfl
      exact Within.refl _ _
    · exact Within.refl _ _

theorem twnJudged_within (r : Nat) (s : State) : Within 8389121 s (twnJudged r s) := by
  delta twnJudged
  refine Within.step ?_ (State.event_within ..) rfl
  refine Within.step ?_ (State.count_within ..) rfl
  exact Within.mono (State.wr_within ..) rfl

theorem takeoverCmd_within (key : Nat) (s : State) : Within 9455521 s (takeoverCmd key s) := by
  delta takeoverCmd
  refine Within.ite ?_ ?_
  · exact Within.mono (twnJudged_within ..) rfl
  · refine Within.ite ?_ ?_
    · lift_lets
      intro n0 y1
      have h2 : Within 9455521 s y1 := by
        subst y1
        exact Within.mono (takeoverTrigger_within ..) rfl
      clear_value y1
      refine Within.step ?_ (twnJudged_within ..) rfl
      assumption
    · refine Within.ite ?_ ?_
      · refine Within.step ?_ (twnJudged_within ..) rfl
        exact Within.mono (State.relay_within ..) rfl
      · exact Within.mono (twnJudged_within ..) rfl

theorem roleStart_within (s : State) : Within 9455521 s (roleStart s) := by
  delta roleStart
  lift_lets
  intro n0 y1
  have h2 : Within 9455521 s y1 := by
    subst y1
    refine Within.ite ?_ ?_
    · refine Within.twn ?_ _ rfl
      exact Within.refl _ _
    · exact Within.refl _ _
  clear_value y1
  intro n3 y4
  have h5 : Within 9455521 s y4 := by
    subst y4
    refine Within.twn ?_ _ rfl
    assumption
  clear_value y4
  split
  · refine Within.step ?_ (standbyJudge_within ..) rfl
    refine Within.step ?_ (unsync_within ..) rfl
    refine Within.step ?_ (setRole_within ..) rfl
    assumption
  · assumption

theorem orphanAdopt_within (s : State) : Within 9455521 s (orphanAdopt s) := by
  delta orphanAdopt
  refine Within.ite ?_ ?_
  · refine Within.ite ?_ ?_
    · refine Within.step ?_ (takeoverRefused_within ..) rfl
      exact Within.mono (raise_within ..) rfl
    · lift_lets
      intro y0
      have h1 : Within 9455521 s y0 := by
        subst y0
        refine Within.step ?_ (State.wr_within ..) rfl
        exact Within.mono (State.wr_within ..) rfl
      clear_value y0
      intro n2 y3
      have h4 : Within 9455521 s y3 := by
        subst y3
        refine Within.twn ?_ _ rfl
        assumption
      clear_value y3
      intro y5
      have h6 : Within 9455521 s y5 := by
        subst y5
        refine Within.step ?_ (raise_within ..) rfl
        assumption
      clear_value y5
      refine Within.ite ?_ ?_
      · refine Within.step ?_ (changeState_within ..) rfl
        assumption
      · assumption
  · exact Within.refl _ _

theorem revertTimer_within (s : State) : Within 1048577 s (revertTimer s) := by
  delta revertTimer
  refine Within.ite ?_ ?_
  · lift_lets
    intro n0 n1
    refine Within.step ?_ (State.wr_within ..) rfl
    refine Within.twn ?_ _ rfl
    exact Within.refl _ _
  · lift_lets
    intro n2
    refine Within.step ?_ (State.wr_within ..) rfl
    refine Within.twn ?_ _ rfl
    exact Within.refl _ _

theorem prefReturn_within (s : State) : Within 9455521 s (prefReturn s) := by
  delta prefReturn
  split
  · refine Within.ite ?_ ?_
    · exact Within.mono (takeoverTrigger_within ..) rfl
    · exact Within.refl _ _
  · exact Within.refl _ _

theorem rehStart_within (s : State) : Within 9437185 s (rehStart s) := by
  delta rehStart
  lift_lets
  intro n0 n1 n2 n3
  refine Within.step ?_ (State.relay_within ..) rfl
  refine Within.step ?_ (State.wr_within ..) rfl
  refine Within.twn ?_ _ rfl
  exact Within.refl _ _

theorem rehearse_within (key : Nat) (s : State) : Within 9437697 s (rehearse key s) := by
  delta rehearse
  refine Within.ite ?_ ?_
  · exact Within.mono (twnJudged_within ..) rfl
  · refine Within.ite ?_ ?_
    · refine Within.step ?_ (twnJudged_within ..) rfl
      exact Within.mono (rehStart_within ..) rfl
    · exact Within.mono (twnJudged_within ..) rfl

theorem rehearsalAuto_within (s : State) : Within 9437185 s (rehearsalAuto s) := by
  delta rehearsalAuto
  refine Within.ite ?_ ?_
  · exact Within.mono (rehStart_within ..) rfl
  · exact Within.refl _ _

theorem rehReceived_within (abort : Bool) (r len : Nat) (s : State) : Within 1048577 s (rehReceived abort r len s) := by
  delta rehReceived
  refine Within.ite ?_ ?_
  · exact Within.mono (rehAbort_within ..) rfl
  · refine Within.ite ?_ ?_
    · lift_lets
      intro n0 n1
      refine Within.step ?_ (State.wr_within ..) rfl
      refine Within.twn ?_ _ rfl
      exact Within.refl _ _
    · exact Within.refl _ _

theorem rehDriveStart_within (s : State) : Within 1049601 s (rehDriveStart s) := by
  delta rehDriveStart
  split
  · refine Within.ite ?_ ?_
    · exact Within.refl _ _
    · lift_lets
      intro n0 y1
      have h2 : Within 1049601 s y1 := by
        subst y1
        refine Within.twn ?_ _ rfl
        exact Within.refl _ _
      clear_value y1
      intro n3 n4 y5
      have h6 : Within 1049601 s y5 := by
        subst y5
        refine Within.step ?_ (State.wr_within ..) rfl
        refine Within.twn ?_ _ rfl
        assumption
      clear_value y5
      intro n7
      refine Within.ite ?_ ?_
      · assumption
      · refine Within.ite ?_ ?_
        · refine Within.cl ?_ _ rfl
          assumption
        · assumption
  · exact Within.refl _ _

theorem rehDriveEnd_within (s : State) : Within 1049601 s (rehDriveEnd s) := by
  delta rehDriveEnd
  split
  · refine Within.ite ?_ ?_
    · exact Within.refl _ _
    · lift_lets
      intro n0
      refine Within.step ?_ (rehTakeBack_within ..) rfl
      refine Within.twn ?_ _ rfl
      exact Within.refl _ _
  · exact Within.refl _ _

theorem rehCheck_within (s : State) : Within 9717665 s (rehCheck s) := by
  delta rehCheck
  split
  · refine Within.ite ?_ ?_
    · exact Within.refl _ _
    · refine Within.ite ?_ ?_
      · refine Within.ite ?_ ?_
        · exact Within.refl _ _
        · lift_lets
          intro n0
          exact Within.mono (rehEnd_within ..) rfl
      · exact Within.mono (rehEnd_within ..) rfl
  · exact Within.refl _ _

theorem driveOverdue_within (s : State) : Within 9455521 s (driveOverdue s) := by
  delta driveOverdue
  lift_lets
  intro n0 n1
  refine Within.ite ?_ ?_
  · refine Within.step ?_ (raise_within ..) rfl
    refine Within.twn ?_ _ rfl
    exact Within.refl _ _
  · exact Within.refl _ _

theorem driveRecord_within (s : State) : Within 9455521 s (driveRecord s) := by
  delta driveRecord
  refine Within.ite ?_ ?_
  · lift_lets
    intro n0
    refine Within.step ?_ (unraise_within ..) rfl
    refine Within.step ?_ (State.wr64_within ..) rfl
    refine Within.twn ?_ _ rfl
    exact Within.refl _ _
  · exact Within.refl _ _

theorem snapSend_within (s : State) : Within 9437184 s (snapSend s) := by
  delta snapSend
  lift_lets
  intro n0 n1 y2
  have h3 : Within 9437184 s y2 := by
    subst y2
    refine Within.twn ?_ _ rfl
    exact Within.refl _ _
  clear_value y2
  intro n4 n5
  refine Within.ite ?_ ?_
  · assumption
  · refine Within.forAll ?_ fun a6 y7 h8 => ?_
    · assumption
    · refine Within.step ?_ (State.relay_within ..) rfl
      assumption

theorem resyncAsk_within (n : Nat) (s : State) : Within 9437185 s (resyncAsk n s) := by
  delta resyncAsk
  refine Within.ite ?_ ?_
  · lift_lets
    intro n0
    refine Within.twn ?_ _ rfl
    exact Within.refl _ _
  · lift_lets
    intro n1 y2
    have h3 : Within 9437185 s y2 := by
      subst y2
      refine Within.twn ?_ _ rfl
      exact Within.refl _ _
    clear_value y2
    refine Within.step ?_ (State.relay_within ..) rfl
    refine Within.step ?_ (State.putBit_within ..) rfl
    assumption

theorem leftSync_within (n : Nat) (s : State) : Within 9455521 s (leftSync n s) := by
  delta leftSync
  lift_lets
  intro n0 n1 n2 n3 y4
  have h5 : Within 9455521 s y4 := by
    subst y4
    subst n0
    split
    · rename_i u6 u7 u8 u9
      refine Within.twn ?_ _ rfl
      exact Within.refl _ _
    · exact Within.refl _ _
  clear_value y4
  intro n10
  refine Within.ite ?_ ?_
  · refine Within.step ?_ (raiseEach_within ..) rfl
    refine Within.twn ?_ _ rfl
    assumption
  · refine Within.ite ?_ ?_
    · refine Within.step ?_ (resyncAsk_within ..) rfl
      assumption
    · assumption

theorem resyncCmd_within (n : Nat) (s : State) : Within 9455521 s (resyncCmd n s) := by
  delta resyncCmd
  refine Within.ite ?_ ?_
  · lift_lets
    intro n0 y1
    have h2 : Within 9455521 s y1 := by
      subst y1
      refine Within.twn ?_ _ rfl
      exact Within.refl _ _
    clear_value y1
    refine Within.step ?_ (twnJudged_within ..) rfl
    refine Within.step ?_ (resyncAsk_within ..) rfl
    refine Within.step ?_ (unraise_within ..) rfl
    assumption
  · exact Within.mono (twnJudged_within ..) rfl

theorem resyncNamed_within (n : Nat) (s : State) : Within 9437185 s (resyncNamed n s) := by
  delta resyncNamed
  refine Within.ite ?_ ?_
  · exact Within.refl _ _
  · lift_lets
    intro n0 n1
    refine Within.step ?_ (State.relay_within ..) rfl
    refine Within.step ?_ (State.putBit_within ..) rfl
    refine Within.twn ?_ _ rfl
    exact Within.refl _ _

theorem resyncHold_within (s : State) : Within 4096 s (resyncHold s) := by
  delta resyncHold
  split
  · rename_i u0 u1 u2 u3
    refine Within.ite ?_ ?_
    · exact Within.mono (State.setArm_within ..) rfl
    · exact Within.refl _ _
  · exact Within.refl _ _

theorem rsReplace_within (n : Nat) (bs : List Byte) (s : State) : Within 4096 s (rsReplace n bs s) := by
  delta rsReplace
  lift_lets
  intro n0
  refine Within.forAll ?_ fun a1 y2 h3 => ?_
  · exact Within.refl _ _
  · refine Within.step ?_ (State.setCell_within ..) rfl
    assumption

theorem rsFreeze_within (n : Nat) (s : State) : Within 9441281 s (rsFreeze n s) := by
  delta rsFreeze
  refine Within.ite ?_ ?_
  · exact Within.refl _ _
  · lift_lets
    intro y0
    have h1 : Within 9441281 s y0 := by
      subst y0
      exact Within.mono (State.putBit_within ..) rfl
    clear_value y0
    intro n2 y3
    have h4 : Within 9441281 s y3 := by
      subst y3
      refine Within.twn ?_ _ rfl
      assumption
    clear_value y3
    refine Within.ite ?_ ?_
    · refine Within.step ?_ (State.setArm_within ..) rfl
      refine Within.step ?_ (State.inc_within ..) rfl
      assumption
    · split
      · rename_i u5 u6 u7 u8 u9 u10
        lift_lets
        intro y11
        have h12 : Within 9441281 s y11 := by
          subst y11
          refine Within.step ?_ (rsReplace_within ..) rfl
          assumption
        clear_value y11
        intro y13
        have h14 : Within 9441281 s y13 := by
          subst y13
          refine Within.step ?_ (State.wrs_within ..) rfl
          assumption
        clear_value y13
        intro n15 n16 y17
        have h18 : Within 9441281 s y17 := by
          subst y17
          refine Within.twn ?_ _ rfl
          assumption
        clear_value y17
        refine Within.ite ?_ ?_
        · refine Within.step ?_ (resyncAsk_within ..) rfl
          assumption
        · refine Within.step ?_ (State.setArm_within ..) rfl
          refine Within.step ?_ (State.inc_within ..) rfl
          assumption
      · refine Within.step ?_ (resyncAsk_within ..) rfl
        assumption

theorem resyncNext_within (s : State) : Within 9437185 s (resyncNext s) := by
  delta resyncNext
  refine Within.ite ?_ ?_
  · exact Within.refl _ _
  · split
    · exact Within.mono (resyncAsk_within ..) rfl
    · exact Within.refl _ _

theorem compareArm_within (n : Nat) (own theirs : Nat × Nat) (intime : Bool) (s : State) : Within 9455521 s (compareArm n own theirs intime s) := by
  delta compareArm
  refine Within.ite ?_ ?_
  · exact Within.refl _ _
  · refine Within.ite ?_ ?_
    · lift_lets
      intro n0 n1 y2
      have h3 : Within 9455521 s y2 := by
        subst y2
        refine Within.step ?_ (State.inc_within ..) rfl
        refine Within.twn ?_ _ rfl
        exact Within.refl _ _
      clear_value y2
      refine Within.ite ?_ ?_
      · refine Within.step ?_ (State.putBit_within ..) rfl
        assumption
      · assumption
    · lift_lets
      intro n4 y5
      have h6 : Within 9455521 s y5 := by
        subst y5
        refine Within.step ?_ (State.inc_within ..) rfl
        refine Within.twn ?_ _ rfl
        exact Within.refl _ _
      clear_value y5
      refine Within.step ?_ (leftSync_within ..) rfl
      refine Within.step ?_ (State.putBit_within ..) rfl
      refine Within.step ?_ (raise_within ..) rfl
      assumption

theorem compareCycle_within (s : State) : Within 9455521 s (compareCycle s) := by
  delta compareCycle
  split
  · exact Within.refl _ _
  · rename_i u0 u1 u2 u3
    refine Within.ite ?_ ?_
    · exact Within.refl _ _
    · split
      · exact Within.refl _ _
      · lift_lets
        intro n4 y5
        have h6 : Within 9455521 s y5 := by
          subst y5
          refine Within.twn ?_ _ rfl
          exact Within.refl _ _
        clear_value y5
        intro n7 y8
        have h9 : Within 9455521 s y8 := by
          subst y8
          refine Within.forAll ?_ fun a10 y11 h12 => ?_
          · assumption
          · lift_lets
            intro n13
            refine Within.step ?_ (compareArm_within ..) rfl
            assumption
        clear_value y8
        intro n14
        refine Within.ite ?_ ?_
        · assumption
        · refine Within.step ?_ (standbyJudge_within ..) rfl
          refine Within.step ?_ (State.put_within ..) rfl
          assumption

theorem snapHeaderIn_within (bs : List Byte) (s : State) : Within 9459617 s (snapHeaderIn bs s) := by
  delta snapHeaderIn
  lift_lets
  intro n0 n1 n2 n3 y4
  have h5 : Within 9459617 s y4 := by
    subst y4
    exact Within.mono (State.wrs_within ..) rfl
  clear_value y4
  intro n6 y7
  have h8 : Within 9459617 s y7 := by
    subst y7
    refine Within.twn ?_ _ rfl
    assumption
  clear_value y7
  intro n9 n10 n11 n12 y13
  have h14 : Within 9459617 s y13 := by
    subst y13
    refine Within.ite ?_ ?_
    · refine Within.twn ?_ _ rfl
      assumption
    · assumption
  clear_value y13
  intro n15
  refine Within.ite ?_ ?_
  · assumption
  · refine Within.ite ?_ ?_
    · refine Within.ite ?_ ?_
      · assumption
      · refine Within.step ?_ (enterState_within ..) rfl
        assumption
    · refine Within.ite ?_ ?_
      · refine Within.twn ?_ _ rfl
        assumption
      · assumption

theorem stationTake_within (b : List Byte) (s : State) : Within 8193 s (stationTake b s) := by
  delta stationTake
  lift_lets
  intro y0
  have h1 : Within 8193 s y0 := by
    subst y0
    refine Within.forAll ?_ fun a2 y3 h4 => ?_
    · exact Within.refl _ _
    · lift_lets
      intro y5
      have h6 : Within 8193 s y5 := by
        subst y5
        refine Within.step ?_ (State.wrs_within ..) rfl
        assumption
      clear_value y5
      intro n7
      refine Within.ref ?_ _ rfl
      assumption
  clear_value y0
  intro y8
  have h9 : Within 8193 s y8 := by
    subst y8
    refine Within.step ?_ (State.wrs_within ..) rfl
    assumption
  clear_value y8
  intro n10
  refine Within.ref ?_ _ rfl
  assumption

theorem stationStart_within (s : State) : Within 1056769 s (stationStart s) := by
  delta stationStart
  split
  · rename_i u0 u1 u2 u3
    refine Within.ite ?_ ?_
    · lift_lets
      intro n4
      refine Within.step ?_ (stationTake_within ..) rfl
      refine Within.twn ?_ _ rfl
      exact Within.refl _ _
    · exact Within.refl _ _
  · exact Within.refl _ _

theorem snapDone_within (bs : List Byte) (s : State) : Within 9467809 s (snapDone bs s) := by
  delta snapDone
  lift_lets
  intro n0 n1 n2 n3 y4
  have h5 : Within 9467809 s y4 := by
    subst y4
    refine Within.twn ?_ _ rfl
    exact Within.refl _ _
  clear_value y4
  intro y6
  have h7 : Within 9467809 s y6 := by
    subst y6
    refine Within.forAll ?_ fun a8 y9 h10 => ?_
    · assumption
    · refine Within.step ?_ (State.setArm_within ..) rfl
      assumption
  clear_value y6
  intro n11 n12 n13 y14
  have h15 : Within 9467809 s y14 := by
    subst y14
    refine Within.ite ?_ ?_
    · refine Within.twn ?_ _ rfl
      assumption
    · assumption
  clear_value y14
  refine Within.step ?_ (stationStart_within ..) rfl
  refine Within.step ?_ (compareCycle_within ..) rfl
  assumption

theorem snapReceived_within (ok first : Bool) (bs : List Byte) (s : State) : Within 9467809 s (snapReceived ok first bs s) := by
  delta snapReceived
  refine Within.ite ?_ ?_
  · exact Within.refl _ _
  · refine Within.ite ?_ ?_
    · lift_lets
      intro n0
      refine Within.step ?_ (crcError_within ..) rfl
      refine Within.twn ?_ _ rfl
      exact Within.refl _ _
    · lift_lets
      intro n1 n2
      subst n1
      split
      · exact Within.refl _ _
      · lift_lets
        intro n3 y4
        have h5 : Within 9467809 s y4 := by
          subst y4
          refine Within.twn ?_ _ rfl
          exact Within.refl _ _
        clear_value y4
        intro y6
        have h7 : Within 9467809 s y6 := by
          subst y6
          refine Within.ite ?_ ?_
          · refine Within.step ?_ (snapHeaderIn_within ..) rfl
            assumption
          · assumption
        clear_value y6
        refine Within.ite ?_ ?_
        · refine Within.step ?_ (snapDone_within ..) rfl
          assumption
        · assumption

theorem snapFreeze_within (s : State) : Within 9455521 s (snapFreeze s) := by
  delta snapFreeze
  refine Within.ite ?_ ?_
  · exact Within.refl _ _
  · lift_lets
    intro n0 n1
    refine Within.step ?_ (compareCycle_within ..) rfl
    refine Within.ite ?_ ?_
    · exact Within.refl _ _
    · exact Within.mono (State.inc_within ..) rfl

theorem lostFrame_within (n : Nat) (s : State) : Within 4097 s (lostFrame n s) := by
  delta lostFrame
  lift_lets
  intro n0 n1 y2
  have h3 : Within 4097 s y2 := by
    subst y2
    exact Within.mono (State.mapCells_within ..) rfl
  clear_value y2
  intro y4
  have h5 : Within 4097 s y4 := by
    subst y4
    refine Within.step ?_ (State.wrs_within ..) rfl
    assumption
  clear_value y4
  refine Within.ite ?_ ?_
  · exact Within.refl _ _
  · refine Within.step ?_ (State.putBit_within ..) rfl
    assumption

theorem twinStart_within (s : State) : Within 9463713 s (twinStart s) := by
  delta twinStart
  lift_lets
  intro n0 n1 n2 n3 y4
  have h5 : Within 9463713 s y4 := by
    subst y4
    refine Within.twn ?_ _ rfl
    exact Within.refl _ _
  clear_value y4
  intro y6
  have h7 : Within 9463713 s y6 := by
    subst y6
    refine Within.ite ?_ ?_
    · refine Within.step ?_ (driveRecord_within ..) rfl
      assumption
    · assumption
  clear_value y6
  refine Within.step ?_ (resyncNext_within ..) rfl
  refine Within.step ?_ (revertTimer_within ..) rfl
  refine Within.step ?_ (rehJudge_within ..) rfl
  refine Within.step ?_ (stationStart_within ..) rfl
  assumption

theorem twnCommand_within (w : Nat) (s : State) : Within 9455521 s (twnCommand w s) := by
  delta twnCommand
  lift_lets
  intro n0
  split
  · exact Within.mono (takeoverCmd_within ..) rfl
  · exact Within.mono (rehearse_within ..) rfl
  · exact Within.mono (resyncCmd_within ..) rfl
  · exact Within.mono (twnJudged_within ..) rfl

end Sys2Proof.Machine
end

