-- ==== Sys2Proof/Laws/WithinCollector.lean ====
section
/-! SUPPORT. The footprints of the operations of `Sys2Proof/Machine/Collector.lean`. -/

namespace Sys2Proof.Machine

theorem reportEffect_within (fs : Nat) (s : State) : Within 161 s (reportEffect fs s) := by
  delta reportEffect
  refine Within.ite ?_ ?_
  · lift_lets
    intro n0
    refine Within.glb ?_ _ rfl (.inr ⟨rfl, rfl⟩)
    exact Within.refl _ _
  · refine Within.ite ?_ ?_
    · exact Within.mono (ledgerDrop_within ..) rfl
    · refine Within.ite ?_ ?_
      · exact Within.mono (State.wr_within ..) rfl
      · exact Within.refl _ _

theorem faultRaise_within (l : List Nat) (s : State) : Within 9455521 s (faultRaise l s) := by
  delta faultRaise
  lift_lets
  intro n0 y1
  have h2 : Within 9455521 s y1 := by
    subst y1
    refine Within.forAll ?_ fun a3 y4 h5 => ?_
    · exact Within.refl _ _
    · refine Within.step ?_ (reportEffect_within ..) rfl
      assumption
  clear_value y1
  intro m0 m1 m2
  have hm : Within 9455521 s m2 := by
    subst m2
    refine Within.fc ?_ _ rfl
    assumption
  clear_value m2
  intro n6 y7
  have h8 : Within 9455521 s y7 := by
    subst y7
    refine Within.forAll ?_ fun a9 y10 h11 => ?_
    · assumption
    · lift_lets
      intro n12
      refine Within.step ?_ (liveUpdate_within ..) rfl
      refine Within.fc ?_ _ rfl
      assumption
  clear_value y7
  refine Within.step ?_ (readyJudge_within ..) rfl
  refine Within.step ?_ (raiseSlot_within ..) rfl
  assumption

theorem faultLiveClear_within (fs : Nat) (s : State) : Within 8406945 s (faultLiveClear fs s) := by
  delta faultLiveClear
  refine Within.ite ?_ ?_
  · exact Within.refl _ _
  · lift_lets
    intro n0 y1
    have h2 : Within 8406945 s y1 := by
      subst y1
      refine Within.ite ?_ ?_
      · refine Within.glb ?_ _ rfl (.inr ⟨rfl, rfl⟩)
        exact Within.refl _ _
      · exact Within.refl _ _
    clear_value y1
    intro y3
    have h4 : Within 8406945 s y3 := by
      subst y3
      refine Within.ite ?_ ?_
      · refine Within.step ?_ (State.put_within ..) rfl
        assumption
      · assumption
    clear_value y3
    intro y5
    have h6 : Within 8406945 s y5 := by
      subst y5
      refine Within.ite ?_ ?_
      · refine Within.step ?_ (State.wr_within ..) rfl
        assumption
      · refine Within.ite ?_ ?_
        · refine Within.step ?_ (State.wr_within ..) rfl
          assumption
        · refine Within.ite ?_ ?_
          · refine Within.step ?_ (State.putBit_within ..) rfl
            assumption
          · refine Within.ite ?_ ?_
            · refine Within.step ?_ (State.wr_within ..) rfl
              assumption
            · assumption
    clear_value y5
    refine Within.step ?_ (unraise_within ..) rfl
    assumption

theorem collectorSelf_within (ecc : Bool) (s : State) : Within 9455521 s (collectorSelf ecc s) := by
  delta collectorSelf
  lift_lets
  intro n0
  refine Within.ite ?_ ?_
  · refine Within.step ?_ (readyJudge_within ..) rfl
    exact Within.mono (selfFault_within ..) rfl
  · exact Within.mono (raise_within ..) rfl

theorem heartbeat_within (s : State) : Within 8406945 s (heartbeat s) := by
  delta heartbeat
  refine Within.step ?_ (unraise_within ..) rfl
  refine Within.step ?_ (lanternJudge_within ..) rfl
  exact Within.mono (State.wr_within ..) rfl

theorem heartbeatLost_within (s : State) : Within 9455521 s (heartbeatLost s) := by
  delta heartbeatLost
  refine Within.step ?_ (raise_within ..) rfl
  refine Within.step ?_ (lanternJudge_within ..) rfl
  exact Within.mono (State.wr_within ..) rfl

theorem lanternEdge_within (s : State) : Within 8388609 s (lanternEdge s) := by
  delta lanternEdge
  refine Within.ite ?_ ?_
  · lift_lets
    intro n0 y1
    have h2 : Within 8388609 s y1 := by
      subst y1
      exact Within.mono (State.put_within ..) rfl
    clear_value y1
    intro y3
    have h4 : Within 8388609 s y3 := by
      subst y3
      refine Within.ite ?_ ?_
      · assumption
      · refine Within.step ?_ (State.put_within ..) rfl
        assumption
    clear_value y3
    refine Within.step ?_ (State.emit_within ..) rfl
    assumption
  · exact Within.refl _ _

theorem lanternIn_within (s : State) : Within 8406945 s (lanternIn s) := by
  delta lanternIn
  lift_lets
  intro n0 n1 y2
  have h3 : Within 8406945 s y2 := by
    subst y2
    refine Within.fc ?_ _ rfl
    exact Within.refl _ _
  clear_value y2
  intro y4
  have h5 : Within 8406945 s y4 := by
    subst y4
    refine Within.step ?_ (State.put_within ..) rfl
    assumption
  clear_value y4
  refine Within.ite ?_ ?_
  · refine Within.step ?_ (unraise_within ..) rfl
    refine Within.step ?_ (State.wrs_within ..) rfl
    assumption
  · assumption

theorem lanternStopped_within (s : State) : Within 9455521 s (lanternStopped s) := by
  delta lanternStopped
  lift_lets
  intro n0 n1 y2
  have h3 : Within 9455521 s y2 := by
    subst y2
    refine Within.fc ?_ _ rfl
    exact Within.refl _ _
  clear_value y2
  intro y4
  have h5 : Within 9455521 s y4 := by
    subst y4
    refine Within.step ?_ (raise_within ..) rfl
    refine Within.step ?_ (State.inc_within ..) rfl
    refine Within.step ?_ (State.wrs_within ..) rfl
    assumption
  clear_value y4
  refine Within.ite ?_ ?_
  · exact Within.refl _ _
  · refine Within.ite ?_ ?_
    · refine Within.step ?_ (takeoverTrigger_within ..) rfl
      assumption
    · assumption

theorem fcJudged_within (result : Nat) (s : State) : Within 9717665 s (fcJudged result s) := by
  delta fcJudged
  refine Within.step ?_ (State.event_within ..) rfl
  refine Within.step ?_ (State.count_within ..) rfl
  exact Within.mono (State.wr_within ..) rfl

theorem clrReact_within (s : State) : Within 9717665 s (clrReact s) := by
  delta clrReact
  lift_lets
  intro n0 n1 y2
  have h3 : Within 9717665 s y2 := by
    subst y2
    refine Within.foldl ?_ fun a4 y5 h6 => ?_
    · exact Within.refl _ _
    · refine Within.step ?_ (State.wr_within ..) rfl
      assumption
  clear_value y2
  intro y7
  have h8 : Within 9717665 s y7 := by
    subst y7
    refine Within.step ?_ (State.wr_within ..) rfl
    assumption
  clear_value y7
  intro y9
  have h10 : Within 9717665 s y9 := by
    subst y9
    refine Within.ite ?_ ?_
    · refine Within.step ?_ (State.relay_within ..) rfl
      assumption
    · assumption
  clear_value y9
  refine Within.step ?_ (readyJudge_within ..) rfl
  refine Within.step ?_ (lanternJudge_within ..) rfl
  refine Within.step ?_ (fcJudged_within ..) rfl
  assumption

theorem clrFirst_within (s : State) : Within 9717665 s (clrFirst s) := by
  delta clrFirst
  lift_lets
  intro y0
  have h1 : Within 9717665 s y0 := by
    subst y0
    exact Within.mono (State.wrs_within ..) rfl
  clear_value y0
  refine Within.step ?_ (fcJudged_within ..) rfl
  refine Within.step ?_ (State.wr64_within ..) rfl
  assumption

theorem clearSticky_within (mask w : Nat) (s : State) : Within 1 s (clearSticky mask w s) := by
  delta clearSticky
  refine Within.foldl ?_ fun a0 y1 h2 => ?_
  · exact Within.refl _ _
  · refine Within.step ?_ (State.wr_within ..) rfl
    assumption

theorem clrSticky_within (s : State) : Within 9717665 s (clrSticky s) := by
  delta clrSticky
  refine Within.step ?_ (fcJudged_within ..) rfl
  refine Within.forAll ?_ fun a0 y1 h2 => ?_
  · exact Within.refl _ _
  · refine Within.step ?_ (clearSticky_within ..) rfl
    assumption

theorem fcCommand_within (code key : Nat) (s : State) : Within 9717665 s (fcCommand code key s) := by
  delta fcCommand
  refine Within.ite ?_ ?_
  · exact Within.refl _ _
  · refine Within.ite ?_ ?_
    · exact Within.mono (clrSticky_within ..) rfl
    · refine Within.ite ?_ ?_
      · exact Within.mono (clrReact_within ..) rfl
      · refine Within.ite ?_ ?_
        · exact Within.mono (clrFirst_within ..) rfl
        · exact Within.mono (fcJudged_within ..) rfl

theorem sevRaised_within (fs lo : Nat) (s : State) : Within 9455521 s (sevRaised fs lo s) := by
  delta sevRaised
  lift_lets
  intro n0 n1 n2 y3
  have h4 : Within 9455521 s y3 := by
    subst y3
    refine Within.ite ?_ ?_
    · refine Within.twn ?_ _ rfl
      exact Within.refl _ _
    · exact Within.refl _ _
  clear_value y3
  refine Within.ite ?_ ?_
  · refine Within.step ?_ (react_within ..) rfl
    assumption
  · exact Within.refl _ _

theorem sevSettle_within (old s : State) : Within 9455521 s (sevSettle old s) := by
  delta sevSettle
  refine Within.step ?_ (readyJudge_within ..) rfl
  refine Within.forAll ?_ fun a0 y1 h2 => ?_
  · exact Within.refl _ _
  · refine Within.step ?_ (sevRaised_within ..) rfl
    assumption

theorem sevWrite_within (m : Master) (w v : Nat) (s : State) : Within 9455523 s (sevWrite m w v s) := by
  delta sevWrite
  refine Within.step ?_ (sevSettle_within ..) rfl
  exact Within.mono (regWrite_within ..) rfl

theorem unlock_within (m : Master) (code : Nat) (s : State) : Within 9455521 s (unlock m code s) := by
  delta unlock
  refine Within.ite ?_ ?_
  · exact Within.mono (State.wr_within ..) rfl
  · refine Within.ite ?_ ?_
    · refine Within.step ?_ (raise_within ..) rfl
      exact Within.mono (State.wr_within ..) rfl
    · refine Within.ite ?_ ?_
      · lift_lets
        intro n0
        refine Within.step ?_ (raise_within ..) rfl
        refine Within.step ?_ (State.put_within ..) rfl
        exact Within.mono (State.wr_within ..) rfl
      · refine Within.ite ?_ ?_
        · refine Within.step ?_ (changeState_within ..) rfl
          exact Within.mono (permitWithdraw_within ..) rfl
        · exact Within.mono (State.wr_within ..) rfl

theorem testWrite_within (v : Nat) (s : State) : Within 1 s (testWrite v s) := by
  delta testWrite
  lift_lets
  intro y0
  have h1 : Within 1 s y0 := by
    subst y0
    refine Within.ite ?_ ?_
    · exact Within.mono (State.wr_within ..) rfl
    · exact Within.refl _ _
  clear_value y0
  refine Within.ite ?_ ?_
  · refine Within.step ?_ (State.put_within ..) rfl
    assumption
  · refine Within.ite ?_ ?_
    · exact Within.mono (State.wr_within ..) rfl
    · assumption

theorem inject_within (mode fs : Nat) (s : State) : Within 9455521 s (inject mode fs s) := by
  delta inject
  refine Within.ite ?_ ?_
  · exact Within.mono (State.wr_within ..) rfl
  · refine Within.ite ?_ ?_
    · exact Within.refl _ _
    · refine Within.ite ?_ ?_
      · refine Within.step ?_ (readyJudge_within ..) rfl
        exact Within.mono (raiseSlot_within ..) rfl
      · refine Within.ite ?_ ?_
        · lift_lets
          intro n0 y1
          have h2 : Within 9455521 s y1 := by
            subst y1
            refine Within.fc ?_ _ rfl
            exact Within.refl _ _
          clear_value y1
          refine Within.step ?_ (readyJudge_within ..) rfl
          refine Within.step ?_ (raiseSlot_within ..) rfl
          refine Within.step ?_ (liveUpdate_within ..) rfl
          assumption
        · refine Within.ite ?_ ?_
          · lift_lets
            intro n3
            refine Within.step ?_ (liveUpdate_within ..) rfl
            refine Within.fc ?_ _ rfl
            exact Within.refl _ _
          · exact Within.refl _ _

end Sys2Proof.Machine
end

