-- ==== Sys2Proof/Laws/WithinHostPort.lean ====
section
/-! SUPPORT. The footprints of the operations of `Sys2Proof/Machine/HostPort.lean`. -/

namespace Sys2Proof.Machine

theorem bankReset_within (b : Nat) (s : State) : Within 17 s (bankReset b s) :=
  (Within.refl 17 s).stores _ s.shadow s.samp s.capt _ s.cellar (.inl rfl) (.inr rfl) (.inr rfl) (.inr rfl) (.inl rfl) (.inr rfl)
    fun c => ⟨Sparse.keep_wf _ _ c.regs, c.shadow, c.samp, c.capt, Sparse.keep_wf _ _ c.latch, c.cellar⟩

theorem dmaEnd_within (ch err : Nat) (s : State) : Within 8389121 s (dmaEnd ch err s) := by
  delta dmaEnd
  refine Within.step ?_ (State.event_within ..) rfl
  exact Within.mono (State.wrs_within ..) rfl

theorem functionReset_within (fn : Nat) (s : State) : Within 8389137 s (functionReset fn s) := by
  delta functionReset
  lift_lets
  intro y1
  have h1 : Within 8389137 s y1 := by
    subst y1
    refine Within.forAll (Within.refl _ _) fun a y h => ?_
    exact Within.step h (dmaEnd_within ..) rfl
  clear_value y1
  intro y2
  have h2 : Within 8389137 s y2 := Within.step h1 (bankReset_within ..) rfl
  clear_value y2
  exact h2.hst' _ rfl fun c => ⟨c.inner.arch, c.inner.ck0, c.inner.ck1, Sparse.keep_wf _ _ c.inner.vecMask, Sparse.keep_wf _ _ c.inner.pba, Sparse.keep_wf _ _ c.inner.vecTab, Sparse.keep_wf _ _ c.inner.cfg, c.inner.sent⟩

theorem pcieLink_within (up : Bool) (speed width : Nat) (s : State) : Within 9455521 s (pcieLink up speed width s) := by
  delta pcieLink
  lift_lets
  intro n0 y1
  have h2 : Within 9455521 s y1 := by
    subst y1
    exact Within.mono (State.wrs_within ..) rfl
  clear_value y1
  intro y3
  have h4 : Within 9455521 s y3 := by
    subst y3
    refine Within.ite ?_ ?_
    · refine Within.step ?_ (State.event_within ..) rfl
      assumption
    · assumption
  clear_value y3
  refine Within.ite ?_ ?_
  · refine Within.step ?_ (unraise_within ..) rfl
    assumption
  · refine Within.ite ?_ ?_
    · refine Within.step ?_ (raise_within ..) rfl
      assumption
    · assumption

theorem msixFlush_within (fn : Nat) (s : State) : Within 8389120 s (msixFlush fn s) := by
  delta msixFlush
  refine Within.forAll (Within.refl _ _) fun v y h => ?_
  split
  · refine Within.step ?_ (State.emit_within ..) rfl
    exact h.hst' _ rfl fun c => ⟨c.inner.arch, c.inner.ck0, c.inner.ck1, c.inner.vecMask, Sparse.set_wf _ _ _ c.inner.pba, c.inner.vecTab, c.inner.cfg, c.inner.sent⟩
  · exact h

theorem cfgWrite_within (fn ofs be v : Nat) (s : State) : Within 8389137 s (cfgWrite fn ofs be v s) := by
  delta cfgWrite
  lift_lets
  intro m old dflt new src y
  have h : Within 8389137 s y := (Within.refl 8389137 s).hst' _ rfl fun c => ⟨c.inner.arch, c.inner.ck0, c.inner.ck1, c.inner.vecMask, c.inner.pba, c.inner.vecTab, Sparse.set_wf _ _ _ c.inner.cfg, c.inner.sent⟩
  clear_value y
  intro w put src2
  split
  · refine Within.step ?_ (msixFlush_within ..) rfl
    exact h.hst _ rfl rfl rfl rfl rfl
  · split
    · exact Within.step h (functionReset_within ..) rfl
    · exact h

theorem complete_within (fn status : Nat) (ws : List Nat) (s : State) : Within 8388608 s (complete fn status ws s) := by
  delta complete
  exact Within.mono (State.emit_within ..) rfl

theorem cfgRequest_within (fn : Nat) (write : Bool) (dw be v : Nat) (s : State) : Within 8389137 s (cfgRequest fn write dw be v s) := by
  delta cfgRequest
  refine Within.ite ?_ ?_
  · exact Within.mono (complete_within ..) rfl
  · refine Within.ite ?_ ?_
    · refine Within.step ?_ (complete_within ..) rfl
      exact Within.mono (cfgWrite_within ..) rfl
    · exact Within.mono (complete_within ..) rfl

theorem msixWrite_within (fn ofs w : Nat) (s : State) : Within 8389120 s (msixWrite fn ofs w s) := by
  delta msixWrite
  dsimp only
  split
  · exact Within.refl _ _
  · split
    · refine Within.step ?_ (msixFlush_within ..) rfl
      exact (Within.refl 8389120 s).hst' _ rfl fun c => ⟨c.inner.arch, c.inner.ck0, c.inner.ck1, Sparse.set_wf _ _ _ c.inner.vecMask, c.inner.pba, c.inner.vecTab, c.inner.cfg, c.inner.sent⟩
    · exact (Within.refl 8389120 s).hst' _ rfl fun c => ⟨c.inner.arch, c.inner.ck0, c.inner.ck1, c.inner.vecMask, c.inner.pba, Sparse.set_wf _ _ _ c.inner.vecTab, c.inner.cfg, c.inner.sent⟩

theorem msixAccess_within (fn : Nat) (write : Bool) (ofs w : Nat) (s : State) : Within 8389120 s (msixAccess fn write ofs w s) := by
  delta msixAccess
  refine Within.ite ?_ ?_
  · refine Within.ite ?_ ?_
    · exact Within.refl _ _
    · exact Within.mono (complete_within ..) rfl
  · refine Within.ite ?_ ?_
    · exact Within.mono (msixWrite_within ..) rfl
    · exact Within.mono (complete_within ..) rfl

theorem releaseOne_within (m : Master) (o : Nat) (s : State) : Within 8406945 s (releaseOne m o s) := by
  delta releaseOne
  refine Within.ite ?_ ?_
  · exact Within.mono (State.werr_within ..) rfl
  · refine Within.ite ?_ ?_
    · exact Within.refl _ _
    · lift_lets
      intro y0
      have h1 : Within 8406945 s y0 := by
        subst y0
        refine Within.step ?_ (unraise_within ..) rfl
        refine Within.step ?_ (State.event_within ..) rfl
        exact Within.mono (State.putBit_within ..) rfl
      clear_value y0
      intro n2 n3
      refine Within.ite ?_ ?_
      · assumption
      · refine Within.forAll ?_ fun a4 y5 h6 => ?_
        · assumption
        · refine Within.step ?_ (State.signalPf_within ..) rfl
          assumption

theorem release_within (m : Master) (mask key : Nat) (s : State) : Within 8406945 s (release m mask key s) := by
  delta release
  refine Within.ite ?_ ?_
  · exact Within.refl _ _
  · refine Within.forAll ?_ fun a0 y1 h2 => ?_
    · exact Within.refl _ _
    · refine Within.step ?_ (releaseOne_within ..) rfl
      assumption

theorem mdioStart_within (w : Nat) (s : State) : Within 8388609 s (mdioStart w s) := by
  delta mdioStart
  refine Within.ite ?_ ?_
  · exact Within.refl _ _
  · lift_lets
    intro y0
    have h1 : Within 8388609 s y0 := by
      subst y0
      exact Within.mono (State.wrs_within ..) rfl
    clear_value y0
    refine Within.step ?_ (State.emit_within ..) rfl
    assumption

theorem mdioDone_within (data : Nat) (s : State) : Within 1 s (mdioDone data s) := by
  delta mdioDone
  refine Within.ite ?_ ?_
  · exact Within.refl _ _
  · lift_lets
    intro y0
    have h1 : Within 1 s y0 := by
      subst y0
      exact Within.mono (State.wr_within ..) rfl
    clear_value y0
    refine Within.ite ?_ ?_
    · assumption
    · refine Within.step ?_ (State.wr_within ..) rfl
      assumption

theorem loadWindow_within (load : Nat) (heavy : Bool) (s : State) : Within 9459617 s (loadWindow load heavy s) := by
  delta loadWindow
  lift_lets
  intro y0
  have h1 : Within 9459617 s y0 := by
    subst y0
    exact Within.mono (State.wrs_within ..) rfl
  clear_value y0
  intro n2 n3 y4
  have h5 : Within 9459617 s y4 := by
    subst y4
    refine Within.hst ?_ _ rfl rfl rfl rfl rfl
    assumption
  clear_value y4
  intro y6
  have h7 : Within 9459617 s y6 := by
    subst y6
    refine Within.ite ?_ ?_
    · refine Within.step ?_ (raise_within ..) rfl
      assumption
    · refine Within.ite ?_ ?_
      · refine Within.step ?_ (unraise_within ..) rfl
        assumption
      · assumption
  clear_value y6
  intro y8
  have h9 : Within 9459617 s y8 := by
    subst y8
    refine Within.ite ?_ ?_
    · refine Within.step ?_ (ckptDue_within ..) rfl
      assumption
    · assumption
  clear_value y8
  refine Within.ite ?_ ?_
  · refine Within.step ?_ (extractStart_within ..) rfl
    assumption
  · assumption

theorem restartDone_within (a b : Bool) (s : State) : Within 9455521 s (restartDone a b s) := by
  delta restartDone
  refine Within.ite ?_ ?_
  · exact Within.refl _ _
  · refine Within.ite ?_ ?_
    · refine Within.step ?_ (raise_within ..) rfl
      exact Within.mono (State.wr_within ..) rfl
    · lift_lets
      intro y0
      have h1 : Within 9455521 s y0 := by
        subst y0
        exact Within.mono (State.wrs_within ..) rfl
      clear_value y0
      intro y2
      have h3 : Within 9455521 s y2 := by
        subst y2
        refine Within.ite ?_ ?_
        · assumption
        · refine Within.step ?_ (raise_within ..) rfl
          assumption
      clear_value y2
      refine Within.step ?_ (unraise_within ..) rfl
      refine Within.step ?_ (unraise_within ..) rfl
      assumption

theorem resultReady_within (s : State) : Within 8389120 s (resultReady s) := by
  delta resultReady
  split
  · refine Within.ite ?_ ?_
    · exact Within.refl _ _
    · lift_lets
      intro n0
      refine Within.step ?_ (State.emit_within ..) rfl
      refine Within.hst ?_ _ rfl rfl rfl rfl rfl
      exact Within.refl _ _
  · exact Within.refl _ _

theorem smbusTimeout_within (s : State) : Within 512 s (smbusTimeout s) := by
  delta smbusTimeout
  refine Within.ite ?_ ?_
  · lift_lets
    intro n0
    refine Within.hst ?_ _ rfl rfl rfl rfl rfl
    exact Within.refl _ _
  · exact Within.refl _ _

end Sys2Proof.Machine
end

