-- ==== Sys2Proof/Laws/WithinClocks.lean ====
section
/-! SUPPORT. The footprints of the operations of `Sys2Proof/Machine/Clocks.lean`. -/

namespace Sys2Proof.Machine

theorem plAbandon_within (s : State) : Within 4194305 s (plAbandon s) := by
  delta plAbandon
  refine Within.ite ?_ ?_
  · exact Within.refl _ _
  · lift_lets
    intro n0
    refine Within.step ?_ (plStep_within ..) rfl
    refine Within.step ?_ (State.wrs_within ..) rfl
    refine Within.clk ?_ _ rfl
    exact Within.refl _ _

theorem powerWarning_within (mv : Nat) (s : State) : Within 13649825 s (powerWarning mv s) := by
  delta powerWarning
  lift_lets
  intro y0
  have h1 : Within 13649825 s y0 := by
    subst y0
    exact Within.mono (State.wrs_within ..) rfl
  clear_value y0
  intro n2 n3
  refine Within.step ?_ (plAbandon_within ..) rfl
  refine Within.step ?_ (raise_within ..) rfl
  refine Within.clk ?_ _ rfl
  assumption

theorem railOut_within (rail : Nat) (s : State) : Within 9455521 s (railOut rail s) := by
  delta railOut
  refine Within.step ?_ (raise_within ..) rfl
  exact Within.mono (State.putBit_within ..) rfl

theorem junction_within (tj : Int) (sensor : Nat) (s : State) : Within 9455521 s (junction tj sensor s) := by
  delta junction
  lift_lets
  intro y0
  have h1 : Within 9455521 s y0 := by
    subst y0
    exact Within.mono (State.wrs_within ..) rfl
  clear_value y0
  intro n2 y3
  have h4 : Within 9455521 s y3 := by
    subst y3
    refine Within.ite ?_ ?_
    · refine Within.step ?_ (raise_within ..) rfl
      assumption
    · refine Within.ite ?_ ?_
      · refine Within.step ?_ (unraise_within ..) rfl
        assumption
      · assumption
  clear_value y3
  refine Within.ite ?_ ?_
  · refine Within.step ?_ (raise_within ..) rfl
    assumption
  · refine Within.ite ?_ ?_
    · refine Within.step ?_ (unraise_within ..) rfl
      assumption
    · assumption

theorem tbFallback_within (s : State) : Within 1 s (tbFallback s) := by
  delta tbFallback
  refine Within.ite ?_ ?_
  · exact Within.refl _ _
  · refine Within.ite ?_ ?_
    · refine Within.step ?_ (State.inc_within ..) rfl
      exact Within.mono (State.wr_within ..) rfl
    · exact Within.mono (State.wr_within ..) rfl

theorem ostFallback_within (s : State) : Within 13649825 s (ostFallback s) := by
  delta ostFallback
  refine Within.ite ?_ ?_
  · exact Within.refl _ _
  · refine Within.ite ?_ ?_
    · refine Within.step ?_ (raise_within ..) rfl
      refine Within.step ?_ (State.inc_within ..) rfl
      exact Within.mono (State.wr_within ..) rfl
    · lift_lets
      intro n0
      refine Within.clk ?_ _ rfl
      exact Within.refl _ _

theorem clockStop_within (s : State) : Within 9885601 s (clockStop s) := by
  delta clockStop
  lift_lets
  intro y0
  have h1 : Within 9885601 s y0 := by
    subst y0
    refine Within.ite ?_ ?_
    · exact Within.mono (armCyclesStop_within ..) rfl
    · exact Within.refl _ _
  clear_value y0
  intro n2
  split
  · rename_i u3 u4 u5 u6
    refine Within.step ?_ (enterState_within ..) rfl
    refine Within.glb ?_ _ rfl (.inr ⟨rfl, rfl⟩)
    assumption
  · assumption

theorem cpllFail_within (c : Nat) (s : State) : Within 9455521 s (cpllFail c s) := by
  delta cpllFail
  lift_lets
  intro y0
  have h1 : Within 9455521 s y0 := by
    subst y0
    exact Within.mono (State.wr_within ..) rfl
  clear_value y0
  refine Within.ite ?_ ?_
  · refine Within.step ?_ (raise_within ..) rfl
    assumption
  · assumption

theorem clockFailure_within (c q : Nat) (s : State) : Within 14145441 s (clockFailure c q s) := by
  delta clockFailure
  split
  · lift_lets
    intro y0
    have h1 : Within 14145441 s y0 := by
      subst y0
      exact Within.mono (State.wrs_within ..) rfl
    clear_value y0
    refine Within.step ?_ (raise_within ..) rfl
    refine Within.step ?_ (plAbandon_within ..) rfl
    refine Within.step ?_ (clockStop_within ..) rfl
    refine Within.step ?_ (ostFallback_within ..) rfl
    refine Within.step ?_ (tbFallback_within ..) rfl
    assumption
  · refine Within.step ?_ (raise_within ..) rfl
    refine Within.step ?_ (clockStop_within ..) rfl
    refine Within.step ?_ (tbFallback_within ..) rfl
    exact Within.mono (State.wr_within ..) rfl
  · lift_lets
    intro y2
    have h3 : Within 14145441 s y2 := by
      subst y2
      refine Within.step ?_ (raise_within ..) rfl
      exact Within.mono (State.wr_within ..) rfl
    clear_value y2
    refine Within.ite ?_ ?_
    · refine Within.step ?_ (State.wrs_within ..) rfl
      assumption
    · assumption
  · lift_lets
    intro y4
    have h5 : Within 14145441 s y4 := by
      subst y4
      refine Within.step ?_ (raise_within ..) rfl
      exact Within.mono (State.wr_within ..) rfl
    clear_value y4
    intro y6
    have h7 : Within 14145441 s y6 := by
      subst y6
      refine Within.step ?_ (State.wr_within ..) rfl
      assumption
    clear_value y6
    intro n8
    refine Within.ite ?_ ?_
    · refine Within.clk ?_ _ rfl
      assumption
    · assumption
  · refine Within.step ?_ (raise_within ..) rfl
    refine Within.forAll ?_ fun a9 y10 h11 => ?_
    · exact Within.mono (State.putBit_within ..) rfl
    · refine Within.step ?_ (lockLoss_within ..) rfl
      assumption
  · refine Within.step ?_ (raise_within ..) rfl
    refine Within.step ?_ (linkLost_within ..) rfl
    exact Within.mono (State.wr_within ..) rfl
  · refine Within.step ?_ (raise_within ..) rfl
    refine Within.forAll ?_ fun a12 y13 h14 => ?_
    · exact Within.mono (State.wr_within ..) rfl
    · refine Within.step ?_ (ethLink_within ..) rfl
      assumption
  · exact Within.mono (cpllFail_within ..) rfl
  · refine Within.step ?_ (raise_within ..) rfl
    refine Within.step ?_ (pcieLink_within ..) rfl
    exact Within.mono (State.wr_within ..) rfl

theorem laneReturn_within (l : Nat) (s : State) : Within 9455521 s (laneReturn l s) := by
  delta laneReturn
  lift_lets
  intro n0
  refine Within.ite ?_ ?_
  · refine Within.step ?_ (idleLane_within ..) rfl
    exact Within.mono (State.setLn_within ..) rfl
  · exact Within.refl _ _

theorem pllRegained_within (c q : Nat) (s : State) : Within 9455521 s (pllRegained c q s) := by
  delta pllRegained
  refine Within.ite ?_ ?_
  · lift_lets
    intro y0
    have h1 : Within 9455521 s y0 := by
      subst y0
      exact Within.mono (State.putBit_within ..) rfl
    clear_value y0
    intro y2
    have h3 : Within 9455521 s y2 := by
      subst y2
      refine Within.forAll ?_ fun a4 y5 h6 => ?_
      · assumption
      · refine Within.step ?_ (laneReturn_within ..) rfl
        assumption
    clear_value y2
    refine Within.ite ?_ ?_
    · refine Within.step ?_ (unraise_within ..) rfl
      assumption
    · assumption
  · lift_lets
    intro y7
    have h8 : Within 9455521 s y7 := by
      subst y7
      exact Within.mono (State.wr_within ..) rfl
    clear_value y7
    refine Within.ite ?_ ?_
    · refine Within.step ?_ (unraise_within ..) rfl
      assumption
    · assumption

theorem fallbackReady_within (ofb : Bool) (s : State) : Within 13649825 s (fallbackReady ofb s) := by
  delta fallbackReady
  refine Within.ite ?_ ?_
  · lift_lets
    intro y0
    have h1 : Within 13649825 s y0 := by
      subst y0
      refine Within.step ?_ (unraise_within ..) rfl
      exact Within.mono (State.wr_within ..) rfl
    clear_value y0
    intro n2 n3 y4
    have h5 : Within 13649825 s y4 := by
      subst y4
      refine Within.step ?_ (ostFallback_within ..) rfl
      refine Within.clk ?_ _ rfl
      assumption
    clear_value y4
    refine Within.ite ?_ ?_
    · assumption
    · refine Within.ite ?_ ?_
      · refine Within.step ?_ (raise_within ..) rfl
        assumption
      · assumption
  · lift_lets
    intro y6
    have h7 : Within 13649825 s y6 := by
      subst y6
      refine Within.step ?_ (unraise_within ..) rfl
      exact Within.mono (State.wr_within ..) rfl
    clear_value y6
    intro n8 n9 y10
    have h11 : Within 13649825 s y10 := by
      subst y10
      refine Within.step ?_ (tbFallback_within ..) rfl
      refine Within.step ?_ (State.wr_within ..) rfl
      refine Within.clk ?_ _ rfl
      assumption
    clear_value y10
    refine Within.ite ?_ ?_
    · assumption
    · refine Within.ite ?_ ?_
      · refine Within.step ?_ (raise_within ..) rfl
        assumption
      · assumption

theorem fallbackLate_within (ofb : Bool) (s : State) : Within 4194304 s (fallbackLate ofb s) := by
  delta fallbackLate
  refine Within.ite ?_ ?_
  · lift_lets
    intro n0
    refine Within.clk ?_ _ rfl
    exact Within.refl _ _
  · lift_lets
    intro n1
    refine Within.clk ?_ _ rfl
    exact Within.refl _ _

theorem fallbackTrim_within (fbo ofb eFbo eOfb : Nat) (s : State) : Within 1 s (fallbackTrim fbo ofb eFbo eOfb s) := by
  delta fallbackTrim
  refine Within.ite ?_ ?_
  · exact Within.refl _ _
  · exact Within.mono (State.wrs_within ..) rfl

theorem muxForced_within (ost : Bool) (s : State) : Within 9455521 s (muxForced ost s) := by
  delta muxForced
  refine Within.ite ?_ ?_
  · refine Within.step ?_ (raise_within ..) rfl
    exact Within.mono (State.inc_within ..) rfl
  · exact Within.refl _ _

theorem ostlerClock_within (s : State) : Within 8406945 s (ostlerClock s) := by
  delta ostlerClock
  refine Within.ite ?_ ?_
  · exact Within.refl _ _
  · refine Within.step ?_ (unraise_within ..) rfl
    refine Within.step ?_ (State.inc_within ..) rfl
    exact Within.mono (State.wrs_within ..) rfl

theorem setQuiesce_within (l : List Nat) (s : State) : Within 4194305 s (setQuiesce l s) := by
  delta setQuiesce
  lift_lets
  intro n0
  refine Within.step ?_ (State.put_within ..) rfl
  refine Within.clk ?_ _ rfl
  exact Within.refl _ _

theorem gateRequest_within (u : Nat) (s : State) : Within 4194305 s (gateRequest u s) := by
  delta gateRequest
  refine Within.ite ?_ ?_
  · exact Within.refl _ _
  · refine Within.ite ?_ ?_
    · exact Within.mono (State.wrs_within ..) rfl
    · lift_lets
      intro y0
      have h1 : Within 4194305 s y0 := by
        subst y0
        exact Within.mono (State.putBit_within ..) rfl
      clear_value y0
      intro n2 y3
      have h4 : Within 4194305 s y3 := by
        subst y3
        refine Within.clk ?_ _ rfl
        assumption
      clear_value y3
      refine Within.ite ?_ ?_
      · assumption
      · refine Within.step ?_ (setQuiesce_within ..) rfl
        assumption

theorem ungateRequest_within (u : Nat) (s : State) : Within 4194305 s (ungateRequest u s) := by
  delta ungateRequest
  refine Within.ite ?_ ?_
  · exact Within.refl _ _
  · lift_lets
    intro y0
    have h1 : Within 4194305 s y0 := by
      subst y0
      exact Within.mono (State.putBit_within ..) rfl
    clear_value y0
    intro y2
    have h3 : Within 4194305 s y2 := by
      subst y2
      refine Within.step ?_ (setQuiesce_within ..) rfl
      assumption
    clear_value y2
    intro n4
    refine Within.ite ?_ ?_
    · refine Within.clk ?_ _ rfl
      assumption
    · assumption

theorem gateWrite_within (which v : Nat) (s : State) : Within 4194305 s (gateWrite which v s) := by
  delta gateWrite
  refine Within.forAll ?_ fun a0 y1 h2 => ?_
  · exact Within.refl _ _
  · refine Within.ite ?_ ?_
    · refine Within.step ?_ (gateRequest_within ..) rfl
      assumption
    · refine Within.step ?_ (ungateRequest_within ..) rfl
      assumption

theorem gateQuiesced_within (u : Nat) (s : State) : Within 4194305 s (gateQuiesced u s) := by
  delta gateQuiesced
  refine Within.ite ?_ ?_
  · exact Within.refl _ _
  · lift_lets
    intro y0
    have h1 : Within 4194305 s y0 := by
      subst y0
      refine Within.step ?_ (State.putBit_within ..) rfl
      exact Within.mono (setQuiesce_within ..) rfl
    clear_value y0
    refine Within.ite ?_ ?_
    · refine Within.step ?_ (State.putBit_within ..) rfl
      assumption
    · assumption

theorem gateTimeout_within (u : Nat) (s : State) : Within 13649825 s (gateTimeout u s) := by
  delta gateTimeout
  refine Within.ite ?_ ?_
  · exact Within.refl _ _
  · lift_lets
    intro y0
    have h1 : Within 13649825 s y0 := by
      subst y0
      refine Within.step ?_ (State.putBit_within ..) rfl
      exact Within.mono (setQuiesce_within ..) rfl
    clear_value y0
    refine Within.step ?_ (raise_within ..) rfl
    refine Within.step ?_ (State.wrs_within ..) rfl
    assumption

theorem ungateRelease_within (u : Nat) (s : State) : Within 4194305 s (ungateRelease u s) := by
  delta ungateRelease
  refine Within.ite ?_ ?_
  · exact Within.refl _ _
  · lift_lets
    intro y0
    have h1 : Within 4194305 s y0 := by
      subst y0
      exact Within.mono (State.putBit_within ..) rfl
    clear_value y0
    intro n2 y3
    have h4 : Within 4194305 s y3 := by
      subst y3
      refine Within.clk ?_ _ rfl
      assumption
    clear_value y3
    refine Within.ite ?_ ?_
    · refine Within.step ?_ (State.putBit_within ..) rfl
      assumption
    · assumption

theorem softReset_within (code key : Nat) (s : State) : Within 4194305 s (softReset code key s) := by
  delta softReset
  refine Within.ite ?_ ?_
  · exact Within.refl _ _
  · refine Within.ite ?_ ?_
    · exact Within.mono (State.wr_within ..) rfl
    · lift_lets
      intro n0
      refine Within.clk ?_ _ rfl
      exact Within.refl _ _

end Sys2Proof.Machine
end

