-- ==== Sys2Proof/Laws/WithinHooks.lean ====
section
/-! SUPPORT. The footprints of the operations of `Sys2Proof/Machine/Hooks.lean`. -/

namespace Sys2Proof.Machine

theorem deadtSend_within (n : Nat) (s : State) : Within 1024 s (deadtSend n s) := by
  delta deadtSend
  refine Within.forAll ?_ fun a0 y1 h2 => ?_
  · exact Within.refl _ _
  · refine Within.step ?_ (writeAll_within ..) rfl
    assumption

theorem monitorOff_within (s : State) : Within 9455521 s (monitorOff s) := by
  delta monitorOff
  lift_lets
  intro y0
  have h1 : Within 9455521 s y0 := by
    subst y0
    refine Within.ite ?_ ?_
    · exact Within.refl _ _
    · exact Within.mono (State.wrs_within ..) rfl
  clear_value y0
  refine Within.step ?_ (twinFigures_within ..) rfl
  assumption

theorem settleArray_within (addr : Nat) (old s : State) : Within 9521057 s (settleArray addr old s) := by
  delta settleArray
  split
  · refine Within.ite ?_ ?_
    · exact Within.mono (writeAll_within ..) rfl
    · exact Within.refl _ _
  · split
    · refine Within.ite ?_ ?_
      · exact Within.mono (deadtSend_within ..) rfl
      · exact Within.refl _ _
    · split
      · refine Within.ite ?_ ?_
        · lift_lets
          intro n0
          refine Within.net ?_ _ rfl rfl
          exact Within.refl _ _
        · exact Within.refl _ _
      · refine Within.ite ?_ ?_
        · exact Within.mono (sevSettle_within ..) rfl
        · exact Within.refl _ _

theorem settleReg_within (addr : Nat) (old s : State) : Within 9553889 s (settleReg addr old s) := by
  delta settleReg
  split
  · exact Within.mono (acceptJudge_within ..) rfl
  · exact Within.mono (acceptJudge_within ..) rfl
  · exact Within.mono (acceptJudge_within ..) rfl
  · refine Within.ite ?_ ?_
    · lift_lets
      intro n0
      refine Within.cg ?_ _ rfl
      exact Within.refl _ _
    · exact Within.refl _ _
  · exact Within.mono (monitorOff_within ..) rfl
  · exact Within.mono (ledgerOff_within ..) rfl
  · exact Within.mono (syncJudge_within ..) rfl
  · refine Within.ite ?_ ?_
    · exact Within.refl _ _
    · lift_lets
      intro n1
      refine Within.step ?_ (syncJudge_within ..) rfl
      refine Within.tb ?_ _ rfl (.inr rfl)
      exact Within.refl _ _
  · exact Within.mono (settleArray_within ..) rfl

theorem ordEntries_within (addrs : List Nat) (o : Nat) (s : State) : Within 8201 s (ordEntries addrs o s) := by
  delta ordEntries
  lift_lets
  intro fs cp
  split
  · have h : Within 8201 s (ordApply o { s with capt := cp }) := by
      refine Within.step ?_ (ordApply_within ..) rfl
      exact (Within.refl 8201 s).capt _ rfl fun c => wf_foldl c.capt fun m a hm => Sparse.set_wf _ _ _ hm
    clear_value cp
    generalize ordApply o { s with capt := cp } = y at h
    refine ⟨h.queue, fun c => ?_, h.out, h.free, fun i hi => ?_⟩
    · have d := h.canon c
      exact ⟨d.regs, d.shadow, d.samp, c.capt, d.latch, d.cellar, d.inner⟩
    · have p := h.parts i hi
      unfold SamePart at p ⊢
      split at p <;> first | exact p | rfl
  · exact Within.refl _ _

theorem setBoth_within (base : Nat) (ix : List Nat) (f : FldSpec) (fld : Fld) (v : Nat) (s : State) : Within 3 s (setBoth base ix f fld v s) := by
  delta setBoth
  lift_lets
  intro y0
  have h1 : Within 3 s y0 := by
    subst y0
    refine Within.ite ?_ ?_
    · exact Within.mono (State.wr_within ..) rfl
    · exact Within.refl _ _
  clear_value y0
  intro n2 y3
  have h4 : Within 3 s y3 := by
    subst y3
    refine Within.step ?_ (State.wrShadow_within ..) rfl
    assumption
  clear_value y3
  refine Within.ite ?_ ?_
  · assumption
  · refine Within.ite ?_ ?_
    · refine Within.step ?_ (State.wr_within ..) rfl
      assumption
    · refine Within.step ?_ (State.wr_within ..) rfl
      assumption

theorem setByLayer_within (base : Nat) (ix : List Nat) (f : FldSpec) (fld : Fld) (v : Nat) (s : State) : Within 4194371 s (setByLayer base ix f fld v s) := by
  delta setByLayer
  split
  · split
    · exact Within.mono (tbRateWrite_within ..) rfl
    · exact Within.mono (refenWrite_within ..) rfl
    · refine Within.forAll ?_ fun a0 y1 h2 => ?_
      · exact Within.refl _ _
      · refine Within.ite ?_ ?_
        · refine Within.step ?_ (gateRequest_within ..) rfl
          assumption
        · refine Within.step ?_ (ungateRequest_within ..) rfl
          assumption
    · refine Within.forAll ?_ fun a3 y4 h5 => ?_
      · exact Within.refl _ _
      · refine Within.ite ?_ ?_
        · refine Within.step ?_ (gateRequest_within ..) rfl
          assumption
        · refine Within.step ?_ (ungateRequest_within ..) rfl
          assumption
    · refine Within.ite ?_ ?_
      · exact Within.mono (State.wr_within ..) rfl
      · refine Within.ite ?_ ?_
        · exact Within.mono (State.wr_within ..) rfl
        · exact Within.refl _ _
    · refine Within.ite ?_ ?_
      · exact Within.refl _ _
      · exact Within.mono (State.wr_within ..) rfl
    · exact Within.mono (State.wr_within ..) rfl
  · split
    · exact Within.mono (tbRateWrite_within ..) rfl
    · exact Within.mono (refenWrite_within ..) rfl
    · refine Within.forAll ?_ fun a6 y7 h8 => ?_
      · exact Within.refl _ _
      · refine Within.ite ?_ ?_
        · refine Within.step ?_ (gateRequest_within ..) rfl
          assumption
        · refine Within.step ?_ (ungateRequest_within ..) rfl
          assumption
    · refine Within.forAll ?_ fun a9 y10 h11 => ?_
      · exact Within.refl _ _
      · refine Within.ite ?_ ?_
        · refine Within.step ?_ (gateRequest_within ..) rfl
          assumption
        · refine Within.step ?_ (ungateRequest_within ..) rfl
          assumption
    · refine Within.ite ?_ ?_
      · exact Within.mono (State.wr_within ..) rfl
      · refine Within.ite ?_ ?_
        · exact Within.mono (State.wr_within ..) rfl
        · exact Within.refl _ _
    · refine Within.ite ?_ ?_
      · exact Within.refl _ _
      · exact Within.mono (State.wr_within ..) rfl
    · exact Within.mono (State.wr_within ..) rfl
  · refine Within.ite ?_ ?_
    · exact Within.refl _ _
    · exact Within.mono (setBoth_within ..) rfl
  · exact Within.refl _ _

theorem applyEntry_within (e : Nat × Nat × Nat) (s : State) : Within 13748195 s (applyEntry e s) := by
  delta applyEntry
  split
  · exact Within.refl _ _
  · rename_i u0 u1 u2 u3
    lift_lets
    intro y4
    have h5 : Within 13748195 s y4 := by
      subst y4
      refine Within.foldl ?_ fun a6 y7 h8 => ?_
      · exact Within.refl _ _
      · lift_lets
        intro n9 n10 n11
        refine Within.ite ?_ ?_
        · assumption
        · refine Within.step ?_ (setByLayer_within ..) rfl
          assumption
    clear_value y4
    refine Within.step ?_ (settleReg_within ..) rfl
    assumption

theorem applyEntries_within (l : List (Nat × Nat × Nat)) (s : State) : Within 13756395 s (applyEntries l s) := by
  delta applyEntries
  refine Within.forAll ?_ fun a0 y1 h2 => ?_
  · refine Within.forAll ?_ fun a3 y4 h5 => ?_
    · exact Within.refl _ _
    · refine Within.step ?_ (applyEntry_within ..) rfl
      assumption
  · refine Within.step ?_ (ordEntries_within ..) rfl
    assumption

end Sys2Proof.Machine
end

