-- ==== Sys2Proof/Laws/WithinRecipe.lean ====
section
/-! SUPPORT. The footprints of the operations of `Sys2Proof/Machine/Recipe.lean`. -/

namespace Sys2Proof.Machine

theorem rcpResult_within (cmd code sec ofs : Nat) (s : State) : Within 1 s (rcpResult cmd code sec ofs s) := by
  delta rcpResult
  refine Within.step ?_ (State.count_within ..) rfl
  exact Within.mono (State.wrs_within ..) rfl

theorem rcpRefuse_within (cmd code : Nat) (s : State) : Within 8389121 s (rcpRefuse cmd code s) := by
  delta rcpRefuse
  refine Within.step ?_ (State.event_within ..) rfl
  exact Within.mono (rcpResult_within ..) rfl

theorem rcpBegin_within (cmd arg phase : Nat) (s : State) : Within 10486273 s (rcpBegin cmd arg phase s) := by
  delta rcpBegin
  lift_lets
  intro n0
  refine Within.step ?_ (State.event_within ..) rfl
  refine Within.step ?_ (State.wrs_within ..) rfl
  refine Within.rcp ?_ _ rfl
  exact Within.refl _ _

theorem rcpEnd_within (cmd code sec ofs : Nat) (s : State) : Within 10486273 s (rcpEnd cmd code sec ofs s) := by
  delta rcpEnd
  lift_lets
  intro n0 y1
  have h2 : Within 10486273 s y1 := by
    subst y1
    refine Within.step ?_ (State.wrs_within ..) rfl
    refine Within.rcp ?_ _ rfl
    exact Within.refl _ _
  clear_value y1
  refine Within.step ?_ (State.event_within ..) rfl
  refine Within.step ?_ (rcpResult_within ..) rfl
  assumption

theorem rcpDone_within (cmd : Nat) (s : State) : Within 10486273 s (rcpDone cmd s) := by
  delta rcpDone
  refine Within.step ?_ (rcpEnd_within ..) rfl
  exact Within.mono (State.event_within ..) rfl

theorem rcpJudge_step  {cmd : Nat} {k : State → State} {s : State} {fm : Nat} {z : State} (hh : Within fm z s) (hk : ∀ (y : State), Within fm z y → Within fm z (k y)) (hm : 8389121 ||| fm = fm) :
    Within fm z (rcpJudge cmd k s) := by
  delta rcpJudge
  refine Within.ite ?_ ?_
  · refine Within.step ?_ (rcpRefuse_within ..) (Within.sub rfl hm)
    assumption
  · refine hk _ ?_
    assumption

theorem stageOk_within (b : Bool) (s : State) : Within 1 s (stageOk b s) := by
  delta stageOk
  exact Within.mono (State.put_within ..) rfl

theorem State.setSlot_within (s : State) (i : Nat) (f : NvSlot → NvSlot) : Within 2097152 s (State.setSlot s i f) := by
  delta State.setSlot
  lift_lets
  intro n0
  refine Within.rcp ?_ _ rfl
  exact Within.refl _ _

theorem prepareUngate_within (p : Prep) (s : State) : Within 4194305 s (prepareUngate p s) := by
  delta prepareUngate
  lift_lets
  intro y0
  have h1 : Within 4194305 s y0 := by
    subst y0
    refine Within.forAll ?_ fun a2 y3 h4 => ?_
    · exact Within.refl _ _
    · refine Within.ite ?_ ?_
      · refine Within.step ?_ (ungateRequest_within ..) rfl
        assumption
      · assumption
  clear_value y0
  refine Within.ite ?_ ?_
  · refine Within.step ?_ (ungateRequest_within ..) rfl
    assumption
  · assumption

theorem commitBegin_within (r : Recipe) (k : Option Nat) (acked : Bool) (s : State) : Within 14680577 s (commitBegin r k acked s) := by
  delta commitBegin
  lift_lets
  intro n0 y1
  have h2 : Within 14680577 s y1 := by
    subst y1
    exact Within.mono (rcpBegin_within ..) rfl
  clear_value y1
  intro n3
  refine Within.step ?_ (prepareUngate_within ..) rfl
  refine Within.rcp ?_ _ rfl
  assumption

theorem commitStart_within (acked : Bool) (s : State) : Within 14680577 s (commitStart acked s) := by
  delta commitStart
  lift_lets
  intro n0 n1 n2
  refine Within.ite ?_ ?_
  · refine Within.step ?_ (State.carry_within ..) rfl
    exact Within.mono (commitBegin_within ..) rfl
  · exact Within.mono (commitBegin_within ..) rfl

theorem applyTopo_within (d : List Byte) (s : State) : Within 8409889 s (applyTopo d s) := by
  delta applyTopo
  lift_lets
  intro n0 n1 y2
  have h3 : Within 8409889 s y2 := by
    subst y2
    refine Within.be ?_ _ rfl
    exact Within.refl _ _
  clear_value y2
  intro y4
  have h5 : Within 8409889 s y4 := by
    subst y4
    refine Within.forAll ?_ fun a6 y7 h8 => ?_
    · assumption
    · refine Within.step ?_ (State.wr_within ..) rfl
      assumption
  clear_value y4
  intro y9
  have h10 : Within 8409889 s y9 := by
    subst y9
    refine Within.forAll ?_ fun a11 y12 h13 => ?_
    · assumption
    · refine Within.step ?_ (State.setArm_within ..) rfl
      assumption
  clear_value y9
  refine Within.step ?_ (ledgerTopo_within ..) rfl
  refine Within.step ?_ (loadLive_within ..) rfl
  assumption

theorem applyLane_within (d : List Byte) (s : State) : Within 9455521 s (applyLane d s) := by
  delta applyLane
  lift_lets
  intro n0
  refine Within.forAll ?_ fun a1 y2 h3 => ?_
  · exact Within.refl _ _
  · split
    · refine Within.step ?_ (laneNamed_within ..) rfl
      refine Within.step ?_ (State.wrs_within ..) rfl
      assumption
    · refine Within.step ?_ (laneOff_within ..) rfl
      refine Within.step ?_ (State.wrs_within ..) rfl
      assumption

theorem applyEngn_within (d : List Byte) (s : State) : Within 1 s (applyEngn d s) := by
  delta applyEngn
  lift_lets
  intro n0
  refine Within.forAll ?_ fun a1 y2 h3 => ?_
  · exact Within.refl _ _
  · split
    · refine Within.step ?_ (State.wrs_within ..) rfl
      refine Within.step ?_ (State.putBit_within ..) rfl
      assumption
    · refine Within.step ?_ (State.wrs_within ..) rfl
      refine Within.step ?_ (State.putBit_within ..) rfl
      assumption

theorem sampleEntries_within (es : List (Nat × Nat × Nat)) (s : State) : Within 4 s (sampleEntries es s) := by
  delta sampleEntries
  refine Within.forAll (Within.refl _ _) fun e y h => ?_
  split
  · exact h.samp _ rfl fun c => wf_foldl c.samp fun m a hm => Sparse.set_wf _ _ _ hm
  · exact h

theorem applyParm_within (es : List (Nat × Nat × Nat)) (s : State) : Within 13756399 s (applyParm es s) := by
  delta applyParm
  lift_lets
  intro y0
  have h1 : Within 13756399 s y0 := by
    subst y0
    refine Within.step ?_ (sampleEntries_within ..) rfl
    exact Within.mono (applyEntries_within ..) rfl
  clear_value y0
  refine Within.ite ?_ ?_
  · refine Within.step ?_ (productsUpdate_within ..) rfl
    assumption
  · assumption

theorem applySafe_within (d : List Byte) (acked : Bool) (s : State) : Within 9979809 s (applySafe d acked s) := by
  delta applySafe
  lift_lets
  intro n0 y1
  have h2 : Within 9979809 s y1 := by
    subst y1
    exact Within.mono (State.wr_within ..) rfl
  clear_value y1
  intro n3 y4
  have h5 : Within 9979809 s y4 := by
    subst y4
    refine Within.step ?_ (sbuHandover_within ..) rfl
    refine Within.step ?_ (State.wr_within ..) rfl
    assumption
  clear_value y4
  intro n6
  refine Within.ite ?_ ?_
  · refine Within.step ?_ (State.wr_within ..) rfl
    refine Within.sbu ?_ _ rfl
    assumption
  · refine Within.sbu ?_ _ rfl
    assumption

theorem switchGates_within (s : State) : Within 4194305 s (switchGates s) := by
  delta switchGates
  lift_lets
  intro y0
  have h1 : Within 4194305 s y0 := by
    subst y0
    refine Within.forAll ?_ fun a2 y3 h4 => ?_
    · exact Within.refl _ _
    · refine Within.ite ?_ ?_
      · assumption
      · refine Within.step ?_ (gateRequest_within ..) rfl
        assumption
  clear_value y0
  refine Within.ite ?_ ?_
  · assumption
  · refine Within.step ?_ (gateRequest_within ..) rfl
    assumption

theorem switchEngines_within (changed : List Nat) (s : State) : Within 4097 s (switchEngines changed s) := by
  delta switchEngines
  lift_lets
  intro n0
  subst n0
  intro y1
  have h2 : Within 4097 s y1 := by
    subst y1
    refine Within.ite ?_ ?_
    · refine Within.forAll ?_ fun a3 y4 h5 => ?_
      · exact Within.refl _ _
      · refine Within.step ?_ (State.setArm_within ..) rfl
        refine Within.step ?_ (State.wr_within ..) rfl
        assumption
    · exact Within.refl _ _
  clear_value y1
  refine Within.ite ?_ ?_
  · refine Within.forAll ?_ fun a6 y7 h8 => ?_
    · assumption
    · refine Within.step ?_ (State.setArm_within ..) rfl
      assumption
  · assumption

theorem switchState_within (was : Nat) (changed : List Nat) (head : Bool) (s : State) : Within 14079905 s (switchState was changed head s) := by
  delta switchState
  lift_lets
  intro n0 n1 n2 n3 y4
  have h5 : Within 14079905 s y4 := by
    subst y4
    refine Within.ite ?_ ?_
    · exact Within.mono (enterState_within ..) rfl
    · exact Within.refl _ _
  clear_value y4
  intro n6
  refine Within.ite ?_ ?_
  · refine Within.step ?_ (startUp_within ..) rfl
    exact Within.mono (enterState_within ..) rfl
  · refine Within.ite ?_ ?_
    · exact Within.refl _ _
    · refine Within.ite ?_ ?_
      · refine Within.ite ?_ ?_
        · refine Within.ite ?_ ?_
          · refine Within.clk ?_ _ rfl
            assumption
          · refine Within.step ?_ (restart20_within ..) rfl
            assumption
        · refine Within.ite ?_ ?_
          · assumption
          · refine Within.ite ?_ ?_
            · refine Within.step ?_ (linkStart_within ..) rfl
              assumption
            · assumption
      · refine Within.ite ?_ ?_
        · exact Within.mono (startUp_within ..) rfl
        · exact Within.refl _ _

theorem switchTables_within (k : Nat) (p : Prep) (s : State) : Within 2097153 s (switchTables k p s) := by
  delta switchTables
  lift_lets
  intro n0 n1 n2 y3
  have h4 : Within 2097153 s y3 := by
    subst y3
    refine Within.rcp ?_ _ rfl
    exact Within.refl _ _
  clear_value y3
  intro y5
  have h6 : Within 2097153 s y5 := by
    subst y5
    refine Within.step ?_ (State.wrs_within ..) rfl
    assumption
  clear_value y5
  intro y7
  have h8 : Within 2097153 s y7 := by
    subst y7
    refine Within.step ?_ (State.wr64_within ..) rfl
    assumption
  clear_value y7
  refine Within.forAll ?_ fun a9 y10 h11 => ?_
  · assumption
  · refine Within.step ?_ (State.wr_within ..) rfl
    assumption

theorem switchSections_within (p : Prep) (s : State) : Within 13760495 s (switchSections p s) := by
  delta switchSections
  lift_lets
  intro n0
  subst n0
  intro y1
  have h2 : Within 13760495 s y1 := by
    subst y1
    refine Within.ite ?_ ?_
    · exact Within.mono (applyLane_within ..) rfl
    · exact Within.refl _ _
  clear_value y1
  intro y3
  have h4 : Within 13760495 s y3 := by
    subst y3
    refine Within.ite ?_ ?_
    · refine Within.step ?_ (applyTopo_within ..) rfl
      assumption
    · assumption
  clear_value y3
  intro y5
  have h6 : Within 13760495 s y5 := by
    subst y5
    refine Within.ite ?_ ?_
    · refine Within.step ?_ (applyEngn_within ..) rfl
      assumption
    · assumption
  clear_value y5
  intro y7
  have h8 : Within 13760495 s y7 := by
    subst y7
    refine Within.ite ?_ ?_
    · refine Within.step ?_ (graphLoad_within ..) rfl
      assumption
    · assumption
  clear_value y7
  intro y9
  have h10 : Within 13760495 s y9 := by
    subst y9
    refine Within.step ?_ (switchEngines_within ..) rfl
    assumption
  clear_value y9
  intro y11
  have h12 : Within 13760495 s y11 := by
    subst y11
    refine Within.ite ?_ ?_
    · refine Within.step ?_ (applyParm_within ..) rfl
      assumption
    · assumption
  clear_value y11
  intro y13
  have h14 : Within 13760495 s y13 := by
    subst y13
    refine Within.ite ?_ ?_
    · refine Within.step ?_ (graphInit_within ..) rfl
      assumption
    · assumption
  clear_value y13
  refine Within.ite ?_ ?_
  · refine Within.step ?_ (graphFigures_within ..) rfl
    assumption
  · assumption

theorem switchTwin_within (cycle untwin : Bool) (p : Prep) (s : State) : Within 9979809 s (switchTwin cycle untwin p s) := by
  delta switchTwin
  lift_lets
  intro n0
  subst n0
  intro y1
  have h2 : Within 9979809 s y1 := by
    subst y1
    refine Within.ite ?_ ?_
    · exact Within.mono (State.wr_within ..) rfl
    · exact Within.refl _ _
  clear_value y1
  intro y3
  have h4 : Within 9979809 s y3 := by
    subst y3
    refine Within.ite ?_ ?_
    · refine Within.step ?_ (applySafe_within ..) rfl
      assumption
    · assumption
  clear_value y3
  intro n5 y6
  have h7 : Within 9979809 s y6 := by
    subst y6
    refine Within.twn ?_ _ rfl
    assumption
  clear_value y6
  intro y8
  have h9 : Within 9979809 s y8 := by
    subst y8
    refine Within.step ?_ (unraise_within ..) rfl
    assumption
  clear_value y8
  intro n10 y11
  have h12 : Within 9979809 s y11 := by
    subst y11
    refine Within.ite ?_ ?_
    · refine Within.twn ?_ _ rfl
      assumption
    · assumption
  clear_value y11
  intro y13
  have h14 : Within 9979809 s y13 := by
    subst y13
    refine Within.ite ?_ ?_
    · refine Within.step ?_ (relayOff_within ..) rfl
      assumption
    · assumption
  clear_value y13
  refine Within.ite ?_ ?_
  · refine Within.step ?_ (unsync_within ..) rfl
    assumption
  · assumption

theorem switchNow_within (k : Nat) (p : Prep) (s : State) : Within 16775151 s (switchNow k p s) := by
  delta switchNow
  lift_lets
  intro n0 n1 n2 n3 n4 y5
  have h6 : Within 16775151 s y5 := by
    subst y5
    refine Within.step ?_ (switchTwin_within ..) rfl
    refine Within.step ?_ (switchSections_within ..) rfl
    exact Within.mono (switchTables_within ..) rfl
  clear_value y5
  intro y7
  have h8 : Within 16775151 s y7 := by
    subst y7
    refine Within.step ?_ (acceptJudge_within ..) rfl
    refine Within.step ?_ (switchGates_within ..) rfl
    assumption
  clear_value y7
  intro y9
  have h10 : Within 16775151 s y9 := by
    subst y9
    refine Within.step ?_ (switchState_within ..) rfl
    assumption
  clear_value y9
  intro y11
  have h12 : Within 16775151 s y11 := by
    subst y11
    refine Within.ite ?_ ?_
    · refine Within.step ?_ (relayStart_within ..) rfl
      assumption
    · assumption
  clear_value y11
  refine Within.step ?_ (standbyJudge_within ..) rfl
  assumption

theorem loadBegin_within (i : Nat) (s : State) : Within 10486273 s (loadBegin i s) := by
  delta loadBegin
  refine Within.step ?_ (stageOk_within ..) rfl
  exact Within.mono (rcpBegin_within ..) rfl

theorem loadInvalid_within (s : State) : Within 10486273 s (loadInvalid s) := by
  delta loadInvalid
  refine Within.step ?_ (rcpEnd_within ..) rfl
  exact Within.mono (State.event_within ..) rfl

theorem autoGiveUp_within (s : State) : Within 11552673 s (autoGiveUp s) := by
  delta autoGiveUp
  lift_lets
  intro n0
  refine Within.step ?_ (raise_within ..) rfl
  refine Within.step ?_ (setStep_within ..) rfl
  refine Within.rcp ?_ _ rfl
  exact Within.refl _ _

theorem autoFail_within (s : State) : Within 11552673 s (autoFail s) := by
  delta autoFail
  split
  · exact Within.refl _ _
  · rename_i u0 u1 u2 u3
    lift_lets
    intro y4
    have h5 : Within 11552673 s y4 := by
      subst y4
      exact Within.mono (raise_within ..) rfl
    clear_value y4
    intro n6 n7 y8
    have h9 : Within 11552673 s y8 := by
      subst y8
      refine Within.rcp ?_ _ rfl
      assumption
    clear_value y8
    refine Within.ite ?_ ?_
    · refine Within.step ?_ (autoGiveUp_within ..) rfl
      assumption
    · refine Within.ite ?_ ?_
      · refine Within.step ?_ (loadBegin_within ..) rfl
        assumption
      · refine Within.step ?_ (autoGiveUp_within ..) rfl
        refine Within.step ?_ (raise_within ..) rfl
        refine Within.step ?_ (loadInvalid_within ..) rfl
        assumption

theorem autoLoad_within (s : State) : Within 11552673 s (autoLoad s) := by
  delta autoLoad
  lift_lets
  intro n0 n1 y2
  have h3 : Within 11552673 s y2 := by
    subst y2
    refine Within.step ?_ (setStep_within ..) rfl
    refine Within.rcp ?_ _ rfl
    exact Within.refl _ _
  clear_value y2
  refine Within.ite ?_ ?_
  · refine Within.step ?_ (loadBegin_within ..) rfl
    assumption
  · refine Within.step ?_ (autoFail_within ..) rfl
    refine Within.step ?_ (loadInvalid_within ..) rfl
    assumption

theorem autoNext_within (cmd code : Nat) (s : State) : Within 15746977 s (autoNext cmd code s) := by
  delta autoNext
  split
  · exact Within.refl _ _
  · rename_i u0 u1 u2 u3
    refine Within.ite ?_ ?_
    · exact Within.mono (autoFail_within ..) rfl
    · refine Within.ite ?_ ?_
      · split
        · exact Within.mono (commitStart_within ..) rfl
        · rename_i u4 u5 u6 u7 u8
          refine Within.step ?_ (autoFail_within ..) rfl
          refine Within.step ?_ (rcpEnd_within ..) rfl
          exact Within.mono (State.event_within ..) rfl
      · lift_lets
        intro n9 y10
        have h11 : Within 15746977 s y10 := by
          subst y10
          refine Within.rcp ?_ _ rfl
          exact Within.refl _ _
        clear_value y10
        refine Within.ite ?_ ?_
        · refine Within.step ?_ (State.wr_within ..) rfl
          assumption
        · assumption

theorem rcpFinish_within (cmd code sec ofs : Nat) (s : State) : Within 15746977 s (rcpFinish cmd code sec ofs s) := by
  delta rcpFinish
  refine Within.step ?_ (autoNext_within ..) rfl
  exact Within.mono (rcpEnd_within ..) rfl

theorem proposalTry_within (s : State) : Within 14680577 s (proposalTry s) := by
  delta proposalTry
  split
  · exact Within.refl _ _
  · rename_i u0 u1 u2 u3 u4
    lift_lets
    intro n5
    refine Within.ite ?_ ?_
    · exact Within.mono (commitBegin_within ..) rfl
    · exact Within.refl _ _

theorem proposalReceived_within (id : Nat) (crcs : List Nat) (k : Nat) (s : State) : Within 14680577 s (proposalReceived id crcs k s) := by
  delta proposalReceived
  refine Within.ite ?_ ?_
  · lift_lets
    intro n0
    refine Within.step ?_ (proposalTry_within ..) rfl
    refine Within.rcp ?_ _ rfl
    exact Within.refl _ _
  · exact Within.refl _ _

theorem setPrep_within (f : Prep → Prep) (s : State) : Within 2097152 s (setPrep f s) := by
  delta setPrep
  lift_lets
  intro n0
  refine Within.rcp ?_ _ rfl
  exact Within.refl _ _

theorem confirmReceived_within (s : State) : Within 2097153 s (confirmReceived s) := by
  delta confirmReceived
  split
  · refine Within.ite ?_ ?_
    · lift_lets
      intro y0
      have h1 : Within 2097153 s y0 := by
        subst y0
        exact Within.mono (setPrep_within ..) rfl
      clear_value y0
      refine Within.ite ?_ ?_
      · refine Within.step ?_ (State.wr_within ..) rfl
        assumption
      · assumption
    · exact Within.refl _ _
  · exact Within.refl _ _

theorem commitUnready_within (s : State) : Within 11552673 s (commitUnready s) := by
  delta commitUnready
  lift_lets
  intro n0
  refine Within.step ?_ (rcpEnd_within ..) rfl
  refine Within.step ?_ (raise_within ..) rfl
  refine Within.rcp ?_ _ rfl
  exact Within.refl _ _

theorem confirmDeadline_within (s : State) : Within 11552673 s (confirmDeadline s) := by
  delta confirmDeadline
  lift_lets
  intro n0 y1
  have h2 : Within 11552673 s y1 := by
    subst y1
    exact Within.mono (rcpEnd_within ..) rfl
  clear_value y1
  intro n3 y4
  have h5 : Within 11552673 s y4 := by
    subst y4
    exact Within.mono (setPrep_within ..) rfl
  clear_value y4
  intro n6
  split
  · split
    · refine Within.ite ?_ ?_
      · exact Within.refl _ _
      · refine Within.ite ?_ ?_
        · refine Within.step ?_ (commitUnready_within ..) rfl
          exact Within.mono (State.carry_within ..) rfl
        · refine Within.ite ?_ ?_
          · refine Within.step ?_ (standbyJudge_within ..) rfl
            refine Within.twn ?_ _ rfl
            assumption
          · refine Within.ite ?_ ?_
            · refine Within.step ?_ (State.wr_within ..) rfl
              assumption
            · assumption
    · exact Within.refl _ _
  · rename_i u7 u8 u9 u10 u11 u12 u13
    refine Within.ite ?_ ?_
    · exact Within.refl _ _
    · refine Within.ite ?_ ?_
      · exact Within.mono (commitUnready_within ..) rfl
      · refine Within.step ?_ (standbyJudge_within ..) rfl
        refine Within.typed ?_ _ _ _ _ _ _ _ _ _ _ _ _ _ _ _ _ _ (.inr rfl) (.inr rfl) (.inr rfl) (.inr rfl) (.inr rfl) (.inr rfl) (.inr rfl) (.inr rfl) (.inr rfl) (.inr rfl) (.inr rfl) (.inr rfl) (.inr rfl) (.inr rfl) (.inl rfl) (.inl rfl) (.inr rfl) (.inr rfl) (.inr ⟨rfl, rfl⟩) rfl rfl rfl rfl rfl rfl rfl rfl
        exact Within.refl _ _
  · exact Within.refl _ _

theorem commitAborted_within (k : Nat) (s : State) : Within 11552673 s (commitAborted k s) := by
  delta commitAborted
  split
  · refine Within.ite ?_ ?_
    · exact Within.mono (commitUnready_within ..) rfl
    · exact Within.refl _ _
  · rename_i u0 u1 u2 u3 u4 u5 u6
    refine Within.ite ?_ ?_
    · exact Within.mono (commitUnready_within ..) rfl
    · exact Within.refl _ _
  · exact Within.refl _ _

theorem commitSwitch_within (s : State) : Within 16775151 s (commitSwitch s) := by
  delta commitSwitch
  split
  · exact Within.refl _ _
  · refine Within.ite ?_ ?_
    · exact Within.refl _ _
    · refine Within.ite ?_ ?_
      · refine Within.step ?_ (rcpFinish_within ..) rfl
        exact Within.mono (raise_within ..) rfl
      · refine Within.step ?_ (rcpFinish_within ..) rfl
        exact Within.mono (switchNow_within ..) rfl

theorem prepareEnd_within (s : State) : Within 16775151 s (prepareEnd s) := by
  delta prepareEnd
  split
  · exact Within.refl _ _
  · refine Within.ite ?_ ?_
    · exact Within.refl _ _
    · lift_lets
      intro y0
      have h1 : Within 16775151 s y0 := by
        subst y0
        exact Within.mono (setPrep_within ..) rfl
      clear_value y0
      intro y2
      have h3 : Within 16775151 s y2 := by
        subst y2
        refine Within.step ?_ (State.relay_within ..) rfl
        assumption
      clear_value y2
      refine Within.ite ?_ ?_
      · refine Within.step ?_ (commitSwitch_within ..) rfl
        assumption
      · refine Within.ite ?_ ?_
        · refine Within.step ?_ (setPrep_within ..) rfl
          refine Within.step ?_ (State.wr_within ..) rfl
          assumption
        · refine Within.step ?_ (State.wr_within ..) rfl
          assumption

theorem rcpCommit_within (key : Nat) (s : State) : Within 14680577 s (rcpCommit key s) := by
  delta rcpCommit
  refine rcpJudge_step ?_ ?_ rfl
  · exact Within.refl _ _
  · intro y0 h1
    split
    · refine Within.step ?_ (commitStart_within ..) rfl
      assumption
    · rename_i u2 u3 u4 u5 u6
      refine Within.step ?_ (State.event_within ..) rfl
      refine Within.step ?_ (rcpResult_within ..) rfl
      assumption

theorem rcpVerify_within  (s : State) : Within 10486273 s (rcpVerify  s) := by
  delta rcpVerify
  refine rcpJudge_step ?_ ?_ rfl
  · exact Within.refl _ _
  · intro y0 h1
    refine Within.step ?_ (stageOk_within ..) rfl
    refine Within.step ?_ (rcpBegin_within ..) rfl
    assumption

theorem verifyEnd_within (cmd limit : Nat) (s : State) : Within 15746977 s (verifyEnd cmd limit s) := by
  delta verifyEnd
  split
  · refine Within.step ?_ (proposalTry_within ..) rfl
    refine Within.step ?_ (rcpFinish_within ..) rfl
    exact Within.mono (stageOk_within ..) rfl
  · rename_i u0 u1 u2 u3 u4
    refine Within.step ?_ (rcpFinish_within ..) rfl
    exact Within.mono (stageOk_within ..) rfl

theorem rcpLoad_within (arg : Nat) (s : State) : Within 10486273 s (rcpLoad arg s) := by
  delta rcpLoad
  refine rcpJudge_step ?_ ?_ rfl
  · exact Within.refl _ _
  · intro y0 h1
    refine Within.ite ?_ ?_
    · refine Within.step ?_ (rcpRefuse_within ..) rfl
      assumption
    · refine Within.ite ?_ ?_
      · refine Within.step ?_ (loadBegin_within ..) rfl
        assumption
      · refine Within.step ?_ (loadInvalid_within ..) rfl
        assumption

theorem loadComplete_within (ok : Bool) (s : State) : Within 15746977 s (loadComplete ok s) := by
  delta loadComplete
  split
  · rename_i u0 u1 u2
    refine Within.ite ?_ ?_
    · refine Within.step ?_ (rcpFinish_within ..) rfl
      exact Within.mono (raise_within ..) rfl
    · lift_lets
      intro n3 n4 y5
      have h6 : Within 15746977 s y5 := by
        subst y5
        refine (Within.cellar (?_ : Within _ _ s) _ rfl fun c => (Memory.writeBytes_wf _ _ _ c.cellar)).rcp _ rfl
        exact Within.refl _ _
      clear_value y5
      refine Within.step ?_ (verifyEnd_within ..) rfl
      assumption
  · exact Within.refl _ _

theorem rcpAbort_within (s : State) : Within 15746977 s (rcpAbort s) := by
  delta rcpAbort
  split
  · rename_i u0 u1 u2
    refine Within.step ?_ (rcpFinish_within ..) rfl
    exact Within.mono (stageOk_within ..) rfl
  · rename_i u3 u4 u5
    refine Within.step ?_ (rcpFinish_within ..) rfl
    exact Within.mono (stageOk_within ..) rfl
  · rename_i u6 u7 u8
    lift_lets
    intro y9
    have h10 : Within 15746977 s y9 := by
      subst y9
      split
      · split
        · exact Within.mono (State.carry_within ..) rfl
        · exact Within.refl _ _
      · exact Within.refl _ _
    clear_value y9
    refine Within.step ?_ (rcpFinish_within ..) rfl
    assumption
  · exact Within.refl _ _

theorem stageTouched_within (s : State) : Within 15746977 s (stageTouched s) := by
  delta stageTouched
  lift_lets
  intro n0 y1
  have h2 : Within 15746977 s y1 := by
    subst y1
    refine Within.step ?_ (stageOk_within ..) rfl
    refine Within.rcp ?_ _ rfl
    exact Within.refl _ _
  clear_value y1
  split
  · rename_i u3 u4 u5
    refine Within.step ?_ (rcpFinish_within ..) rfl
    assumption
  · rename_i u6 u7 u8
    refine Within.step ?_ (rcpFinish_within ..) rfl
    assumption
  · rename_i u9 u10 u11
    split
    · refine Within.ite ?_ ?_
      · assumption
      · refine Within.step ?_ (rcpFinish_within ..) rfl
        assumption
    · assumption
  · assumption

theorem rcpStore_within (arg key : Nat) (s : State) : Within 10486273 s (rcpStore arg key s) := by
  delta rcpStore
  refine rcpJudge_step ?_ ?_ rfl
  · exact Within.refl _ _
  · intro y0 h1
    refine Within.ite ?_ ?_
    · refine Within.step ?_ (rcpRefuse_within ..) rfl
      assumption
    · refine Within.ite ?_ ?_
      · refine Within.step ?_ (rcpRefuse_within ..) rfl
        assumption
      · refine Within.ite ?_ ?_
        · refine Within.step ?_ (rcpRefuse_within ..) rfl
          assumption
        · lift_lets
          intro n2
          refine Within.step ?_ (rcpBegin_within ..) rfl
          refine Within.step ?_ (State.setSlot_within ..) rfl
          assumption

theorem storeComplete_within (ok : Bool) (s : State) : Within 11552673 s (storeComplete ok s) := by
  delta storeComplete
  split
  · rename_i u0 u1 u2
    lift_lets
    intro n3 n4 n5 n6
    refine Within.ite ?_ ?_
    · refine Within.step ?_ (rcpEnd_within ..) rfl
      exact Within.mono (State.setSlot_within ..) rfl
    · refine Within.step ?_ (rcpEnd_within ..) rfl
      exact Within.mono (raise_within ..) rfl
  · exact Within.refl _ _

theorem rcpErase_within (arg key : Nat) (s : State) : Within 10486273 s (rcpErase arg key s) := by
  delta rcpErase
  refine rcpJudge_step ?_ ?_ rfl
  · exact Within.refl _ _
  · intro y0 h1
    refine Within.ite ?_ ?_
    · refine Within.step ?_ (rcpRefuse_within ..) rfl
      assumption
    · refine Within.ite ?_ ?_
      · refine Within.step ?_ (rcpRefuse_within ..) rfl
        assumption
      · refine Within.step ?_ (rcpBegin_within ..) rfl
        refine Within.step ?_ (State.setSlot_within ..) rfl
        assumption

theorem eraseComplete_within (ok : Bool) (s : State) : Within 11552673 s (eraseComplete ok s) := by
  delta eraseComplete
  split
  · rename_i u0 u1 u2
    refine Within.ite ?_ ?_
    · refine Within.step ?_ (rcpEnd_within ..) rfl
      exact Within.mono (State.setSlot_within ..) rfl
    · refine Within.step ?_ (rcpEnd_within ..) rfl
      exact Within.mono (raise_within ..) rfl
  · exact Within.refl _ _

theorem State.setKey_within (s : State) (i : Nat) (k : KeySlot) : Within 2097152 s (State.setKey s i k) := by
  delta State.setKey
  lift_lets
  intro n0
  refine Within.rcp ?_ _ rfl
  exact Within.refl _ _

theorem rcpKeyWrite_within (arg key : Nat) (s : State) : Within 10486273 s (rcpKeyWrite arg key s) := by
  delta rcpKeyWrite
  refine rcpJudge_step ?_ ?_ rfl
  · exact Within.refl _ _
  · intro y0 h1
    refine Within.ite ?_ ?_
    · refine Within.step ?_ (rcpRefuse_within ..) rfl
      assumption
    · refine Within.ite ?_ ?_
      · refine Within.step ?_ (rcpRefuse_within ..) rfl
        assumption
      · split
        · refine Within.ite ?_ ?_
          · refine Within.step ?_ (rcpDone_within ..) rfl
            refine Within.step ?_ (State.setKey_within ..) rfl
            assumption
          · refine Within.step ?_ (rcpRefuse_within ..) rfl
            assumption
        · refine Within.step ?_ (rcpRefuse_within ..) rfl
          assumption

theorem rcpKeyRevoke_within (arg key : Nat) (s : State) : Within 10486273 s (rcpKeyRevoke arg key s) := by
  delta rcpKeyRevoke
  refine rcpJudge_step ?_ ?_ rfl
  · exact Within.refl _ _
  · intro y0 h1
    refine Within.ite ?_ ?_
    · refine Within.step ?_ (rcpRefuse_within ..) rfl
      assumption
    · refine Within.ite ?_ ?_
      · refine Within.step ?_ (rcpRefuse_within ..) rfl
        assumption
      · split
        · refine Within.ite ?_ ?_
          · refine Within.step ?_ (rcpDone_within ..) rfl
            refine Within.step ?_ (State.setKey_within ..) rfl
            assumption
          · refine Within.step ?_ (rcpRefuse_within ..) rfl
            assumption
        · refine Within.step ?_ (rcpRefuse_within ..) rfl
          assumption

theorem rcpMinverSet_within (key : Nat) (s : State) : Within 10486273 s (rcpMinverSet key s) := by
  delta rcpMinverSet
  refine rcpJudge_step ?_ ?_ rfl
  · exact Within.refl _ _
  · intro y0 h1
    lift_lets
    intro n2 n3
    refine Within.ite ?_ ?_
    · refine Within.step ?_ (rcpRefuse_within ..) rfl
      assumption
    · refine Within.ite ?_ ?_
      · refine Within.step ?_ (rcpRefuse_within ..) rfl
        assumption
      · refine Within.step ?_ (rcpDone_within ..) rfl
        refine Within.rcp ?_ _ rfl
        assumption

theorem safeExpire_within (s : State) : Within 9979809 s (safeExpire s) := by
  delta safeExpire
  lift_lets
  intro n0
  refine Within.step ?_ (raise_within ..) rfl
  refine Within.step ?_ (State.wr_within ..) rfl
  refine Within.sbu ?_ _ rfl
  exact Within.refl _ _

theorem rcpSafeAck_within  (s : State) : Within 12076961 s (rcpSafeAck  s) := by
  delta rcpSafeAck
  refine rcpJudge_step ?_ ?_ rfl
  · exact Within.refl _ _
  · intro y0 h1
    lift_lets
    intro n2 n3 y4
    have h5 : Within 12076961 s y4 := by
      subst y4
      refine Within.step ?_ (rcpRefuse_within ..) rfl
      refine Within.step ?_ (State.wr_within ..) rfl
      assumption
    clear_value y4
    intro n6 n7 y8
    have h9 : Within 12076961 s y8 := by
      subst y8
      refine Within.typed ?_ _ _ _ _ _ _ _ _ _ _ _ _ _ _ _ _ _ (.inr rfl) (.inr rfl) (.inr rfl) (.inr rfl) (.inr rfl) (.inr rfl) (.inr rfl) (.inr rfl) (.inr rfl) (.inr rfl) (.inr rfl) (.inr rfl) (.inr rfl) (.inl rfl) (.inr rfl) (.inl rfl) (.inr rfl) (.inr rfl) (.inr ⟨rfl, rfl⟩) rfl rfl rfl rfl rfl rfl rfl rfl
      assumption
    clear_value y8
    refine Within.ite ?_ ?_
    · refine Within.step ?_ (rcpRefuse_within ..) rfl
      assumption
    · refine Within.ite ?_ ?_
      · refine Within.ite ?_ ?_
        · refine Within.step ?_ (safeExpire_within ..) rfl
          assumption
        · assumption
      · refine Within.step ?_ (rcpDone_within ..) rfl
        assumption

theorem rcpHouseRead_within  (s : State) : Within 10486305 s (rcpHouseRead  s) := by
  delta rcpHouseRead
  refine rcpJudge_step ?_ ?_ rfl
  · exact Within.refl _ _
  · intro y0 h1
    lift_lets
    intro n2 n3
    refine Within.step ?_ (rcpDone_within ..) rfl
    refine Within.step ?_ (State.wr_within ..) rfl
    refine Within.cellar ?_ _ rfl fun c => (Memory.writeBytes_wf _ _ _ c.cellar)
    assumption

theorem rcpHouseStore_within (key : Nat) (s : State) : Within 10486273 s (rcpHouseStore key s) := by
  delta rcpHouseStore
  refine rcpJudge_step ?_ ?_ rfl
  · exact Within.refl _ _
  · intro y0 h1
    refine Within.ite ?_ ?_
    · refine Within.step ?_ (rcpRefuse_within ..) rfl
      assumption
    · split
      · rename_i u2 u3 u4 u5 u6
        refine Within.step ?_ (State.event_within ..) rfl
        refine Within.step ?_ (rcpResult_within ..) rfl
        assumption
      · lift_lets
        intro n7 n8 n9 y10
        have h11 : Within 10486273 s y10 := by
          subst y10
          refine Within.rcp ?_ _ rfl
          assumption
        clear_value y10
        refine Within.step ?_ (rcpBegin_within ..) rfl
        assumption

theorem houseStoreComplete_within (ok : Bool) (s : State) : Within 10486273 s (houseStoreComplete ok s) := by
  delta houseStoreComplete
  split
  · rename_i u0 u1 u2
    refine Within.ite ?_ ?_
    · lift_lets
      intro n3 n4 n5
      refine Within.step ?_ (rcpEnd_within ..) rfl
      refine Within.rcp ?_ _ rfl
      exact Within.refl _ _
    · exact Within.mono (rcpEnd_within ..) rfl
  · exact Within.refl _ _

theorem rcpCommand_within (w : Nat) (s : State) : Within 16271265 s (rcpCommand w s) := by
  delta rcpCommand
  generalize w % 256 = q
  rcases q with _ | _ | _ | _ | _ | _ | _ | _ | _ | _ | _ | _ | _ | q
  · exact rcpJudge_step (Within.refl _ _) (fun y h => Within.step h (rcpRefuse_within ..) rfl) rfl
  · exact Within.mono (rcpVerify_within ..) rfl
  · exact Within.mono (rcpCommit_within ..) rfl
  · exact Within.mono (rcpStore_within ..) rfl
  · exact Within.mono (rcpLoad_within ..) rfl
  · exact Within.mono (rcpAbort_within ..) rfl
  · exact Within.mono (rcpSafeAck_within ..) rfl
  · exact Within.mono (rcpErase_within ..) rfl
  · exact Within.mono (rcpHouseRead_within ..) rfl
  · exact Within.mono (rcpHouseStore_within ..) rfl
  · exact Within.mono (rcpKeyWrite_within ..) rfl
  · exact Within.mono (rcpKeyRevoke_within ..) rfl
  · exact Within.mono (rcpMinverSet_within ..) rfl
  · exact rcpJudge_step (Within.refl _ _) (fun y h => Within.step h (rcpRefuse_within ..) rfl) rfl

end Sys2Proof.Machine
end

