-- ==== Sys2Proof/Laws/WithinBusCore.lean ====
section
/-! SUPPORT. The footprints of the operations of `Sys2Proof/Machine/BusCore.lean`. -/

namespace Sys2Proof.Machine

theorem slkclr_within (s : State) : Within 1 s (slkclr s) := by
  delta slkclr
  refine Within.forAll ?_ fun a0 y1 h2 => ?_
  · exact Within.refl _ _
  · refine Within.step ?_ (State.wr_within ..) rfl
    assumption

theorem schCntclr_within (s : State) : Within 1 s (schCntclr s) := by
  delta schCntclr
  refine Within.forAll ?_ fun a0 y1 h2 => ?_
  · exact Within.refl _ _
  · refine Within.step ?_ (State.wrs_within ..) rfl
    assumption

theorem insLimitWrite_within (m : Master) (n addr w : Nat) (s : State) : Within 9553891 s (insLimitWrite m n addr w s) := by
  delta insLimitWrite
  refine Within.step ?_ (settleReg_within ..) rfl
  exact Within.mono (carriedWrite_within ..) rfl

theorem onBit_step  {w i : Nat} {f : State → State} {s : State} {fm : Nat} {z : State} (hh : Within fm z s) (hf : ∀ (y : State), Within fm z y → Within fm z (f y)) (hm : 0 ||| fm = fm) :
    Within fm z (onBit w i f s) := by
  delta onBit
  refine Within.ite ?_ ?_
  · refine hf _ ?_
    assumption
  · assumption

theorem arrayCommand_within (addr w : Nat) (s : State) : Within 9459625 s (arrayCommand addr w s) := by
  delta arrayCommand
  split
  · refine onBit_step ?_ ?_ rfl
    · refine onBit_step ?_ ?_ rfl
      · refine onBit_step ?_ ?_ rfl
        · exact Within.refl _ _
        · intro y0 h1
          refine Within.step ?_ (laneRetrain_within ..) rfl
          assumption
      · intro y2 h3
        refine Within.step ?_ (giclr_within ..) rfl
        assumption
    · intro y4 h5
      refine Within.step ?_ (clCntclr_within ..) rfl
      assumption
  · split
    · refine onBit_step ?_ ?_ rfl
      · exact Within.refl _ _
      · intro y6 h7
        refine Within.step ?_ (fpCommit_within ..) rfl
        assumption
    · exact Within.refl _ _

theorem unitCommand_within (m : Master) (addr w : Nat) (s : State) : Within 14153641 s (unitCommand m addr w s) := by
  delta unitCommand
  split
  · exact Within.mono (glbCommand_within ..) rfl
  · refine onBit_step ?_ ?_ rfl
    · exact Within.refl _ _
    · intro y0 h1
      refine Within.step ?_ (opblk_within ..) rfl
      assumption
  · refine onBit_step ?_ ?_ rfl
    · exact Within.refl _ _
    · intro y2 h3
      refine Within.step ?_ (State.wr_within ..) rfl
      assumption
  · refine onBit_step ?_ ?_ rfl
    · refine onBit_step ?_ ?_ rfl
      · refine onBit_step ?_ ?_ rfl
        · exact Within.refl _ _
        · intro y4 h5
          refine Within.step ?_ (slkclr_within ..) rfl
          assumption
      · intro y6 h7
        refine Within.step ?_ (schCntclr_within ..) rfl
        assumption
    · intro y8 h9
      refine Within.step ?_ (reverify_within ..) rfl
      assumption
  · refine onBit_step ?_ ?_ rfl
    · refine onBit_step ?_ ?_ rfl
      · exact Within.refl _ _
      · intro y10 h11
        refine Within.step ?_ (pcommit_within ..) rfl
        assumption
    · intro y12 h13
      refine Within.step ?_ (greset_within ..) rfl
      assumption
  · refine onBit_step ?_ ?_ rfl
    · exact Within.refl _ _
    · intro y14 h15
      refine Within.step ?_ (State.wr_within ..) rfl
      assumption
  · lift_lets
    intro y16
    have h17 : Within 14153641 s y16 := by
      subst y16
      refine onBit_step ?_ ?_ rfl
      · refine onBit_step ?_ ?_ rfl
        · exact Within.refl _ _
        · intro y18 h19
          refine Within.step ?_ (ocommit_within ..) rfl
          assumption
      · intro y20 h21
        refine Within.step ?_ (wcommit_within ..) rfl
        assumption
    clear_value y16
    refine Within.ite ?_ ?_
    · assumption
    · refine Within.step ?_ (preset_within ..) rfl
      assumption
  · refine onBit_step ?_ ?_ rfl
    · refine onBit_step ?_ ?_ rfl
      · exact Within.refl _ _
      · intro y22 h23
        refine Within.step ?_ (rerank_within ..) rfl
        assumption
    · intro y24 h25
      refine Within.step ?_ (beCntclr_within ..) rfl
      assumption
  · exact Within.mono (cellCommand_within ..) rfl
  · refine onBit_step ?_ ?_ rfl
    · exact Within.refl _ _
    · intro y26 h27
      refine Within.step ?_ (insCntclr_within ..) rfl
      assumption
  · refine onBit_step ?_ ?_ rfl
    · refine onBit_step ?_ ?_ rfl
      · refine onBit_step ?_ ?_ rfl
        · exact Within.refl _ _
        · intro y28 h29
          refine Within.step ?_ (pqSubmit_within ..) rfl
          assumption
      · intro y30 h31
        refine Within.step ?_ (pqPop_within ..) rfl
        assumption
    · intro y32 h33
      refine Within.step ?_ (pqFlush_within ..) rfl
      assumption
  · refine onBit_step ?_ ?_ rfl
    · refine onBit_step ?_ ?_ rfl
      · refine onBit_step ?_ ?_ rfl
        · refine onBit_step ?_ ?_ rfl
          · exact Within.refl _ _
          · intro y34 h35
            refine Within.step ?_ (ckptDue_within ..) rfl
            assumption
        · intro y36 h37
          refine Within.step ?_ (ledgerFire_within ..) rfl
          assumption
      · intro y38 h39
        refine Within.step ?_ (ledgerRelease_within ..) rfl
        assumption
    · intro y40 h41
      refine Within.step ?_ (extractStart_within ..) rfl
      assumption
  · refine onBit_step ?_ ?_ rfl
    · refine onBit_step ?_ ?_ rfl
      · exact Within.refl _ _
      · intro y42 h43
        refine Within.step ?_ (netCntclr_within ..) rfl
        assumption
    · intro y44 h45
      refine Within.step ?_ (ptpReset_within ..) rfl
      assumption
  · lift_lets
    intro y46
    have h47 : Within 14153641 s y46 := by
      subst y46
      refine onBit_step ?_ ?_ rfl
      · refine onBit_step ?_ ?_ rfl
        · exact Within.refl _ _
        · intro y48 h49
          refine Within.step ?_ (scommit_within ..) rfl
          assumption
      · intro y50 h51
        refine Within.ite ?_ ?_
        · refine Within.step ?_ (State.wr_within ..) rfl
          assumption
        · refine Within.step ?_ (calStart_within ..) rfl
          assumption
    clear_value y46
    refine onBit_step ?_ ?_ rfl
    · refine onBit_step ?_ ?_ rfl
      · refine onBit_step ?_ ?_ rfl
        · assumption
        · intro y52 h53
          refine Within.step ?_ (swTrigger_within ..) rfl
          assumption
      · intro y54 h55
        refine Within.step ?_ (swTrigger_within ..) rfl
        assumption
    · intro y56 h57
      refine Within.step ?_ (lmuCntclr_within ..) rfl
      assumption
  · refine onBit_step ?_ ?_ rfl
    · refine onBit_step ?_ ?_ rfl
      · exact Within.refl _ _
      · intro y58 h59
        refine Within.step ?_ (relayRetrain_within ..) rfl
        assumption
    · intro y60 h61
      refine Within.step ?_ (twnCntclr_within ..) rfl
      assumption
  · exact Within.mono (twnCommand_within ..) rfl
  · exact Within.mono (softReset_within ..) rfl
  · exact Within.mono (plRequest_within ..) rfl
  · exact Within.mono (arrayCommand_within ..) rfl

theorem fieldEffect_within (m : Master) (r : RegSpec) (ix : List Nat) (addr w : Nat) (s : State) : Within 13752291 s (fieldEffect m r ix addr w s) := by
  delta fieldEffect
  lift_lets
  intro n0
  subst n0
  intro n1 y2
  have h3 : Within 13752291 s y2 := by
    subst y2
    beta_reduce
    refine Within.step ?_ (settleReg_within ..) rfl
    exact Within.mono (writeFields_within ..) rfl
  clear_value y2
  refine Within.ite ?_ ?_
  · split
    · rename_i u4 u5 u6 u7
      refine Within.ite ?_ ?_
      · exact Within.mono (carriedWrite_within ..) rfl
      · refine Within.ite ?_ ?_
        · exact Within.mono (insLimitWrite_within ..) rfl
        · beta_reduce
          refine Within.step ?_ (settleReg_within ..) rfl
          exact Within.mono (writeFields_within ..) rfl
  · refine Within.ite ?_ ?_
    · exact Within.mono (hinWrite_within ..) rfl
    · refine Within.ite ?_ ?_
      · refine Within.ite ?_ ?_
        · exact Within.mono (State.wr_within ..) rfl
        · refine Within.ite ?_ ?_
          · exact Within.refl _ _
          · beta_reduce
            refine Within.step ?_ (settleReg_within ..) rfl
            exact Within.mono (writeFields_within ..) rfl
      · refine Within.ite ?_ ?_
        · split
          · refine Within.step ?_ (State.setArm_within ..) rfl
            assumption
          · assumption
        · split
          · refine Within.ite ?_ ?_
            · exact Within.mono (refenWrite_within ..) rfl
            · exact Within.refl _ _
          · exact Within.mono (gateWrite_within ..) rfl
          · exact Within.mono (gateWrite_within ..) rfl
          · exact Within.mono (acceptWrite_within ..) rfl
          · exact Within.mono (acceptWrite_within ..) rfl
          · exact Within.mono (acceptWrite_within ..) rfl
          · beta_reduce
            refine Within.step ?_ (settleReg_within ..) rfl
            exact Within.mono (writeFields_within ..) rfl

theorem unmapped_within (m : Master) (addr : Nat) (write : Bool) (s : State) : Within 1 s (unmapped m addr write s) := by
  delta unmapped
  refine Within.step ?_ (State.inc_within ..) rfl
  exact Within.mono (State.wrs_within ..) rfl

theorem writeLive_step  {m : Master} {addr w : Nat} {k : RegSpec → List Nat → State → State} {s : State} {fm : Nat} {z : State} (hh : Within fm z s) (hk : ∀ (c0 : RegSpec) (c1 : List Nat) (y : State), Within fm z y → Within fm z (k c0 c1 y)) (hm : 9455521 ||| fm = fm) :
    Within fm z (writeLive m addr w k s) := by
  delta writeLive
  split
  · assumption
  · refine Within.step ?_ (unmapped_within ..) (Within.sub rfl hm)
    assumption
  · refine Within.step ?_ (gateAccess_within ..) (Within.sub rfl hm)
    assumption
  · refine Within.step ?_ (violation_within ..) (Within.sub rfl hm)
    assumption
  · refine hk _ _ _ ?_
    assumption

theorem writeAccess_step  {m : Master} {addr w : Nat} {k : RegSpec → List Nat → State → State} {s : State} {fm : Nat} {z : State} (hh : Within fm z s) (hk : ∀ (c0 : RegSpec) (c1 : List Nat) (y : State), Within fm z y → Within fm z (k c0 c1 y)) (hm : 9455521 ||| fm = fm) :
    Within fm z (writeAccess m addr w k s) := by
  delta writeAccess
  refine Within.ite ?_ ?_
  · assumption
  · refine writeLive_step ?_ ?_ (Within.sub rfl hm)
    · assumption
    · intro a0 a1 y2 h3
      refine hk _ _ _ ?_
      assumption

theorem coreEffect_within (m : Master) (addr w : Nat) (r : RegSpec) (ix : List Nat) (s : State) : Within 14153707 s (coreEffect m addr w r ix s) := by
  delta coreEffect
  refine Within.step ?_ (unitCommand_within ..) rfl
  exact Within.mono (fieldEffect_within ..) rfl

theorem coreWrite_within (m : Master) (addr w : Nat) (s : State) : Within 14153707 s (coreWrite m addr w s) := by
  delta coreWrite
  refine writeAccess_step ?_ ?_ rfl
  · exact Within.refl _ _
  · intro a0 a1 y2 h3
    refine Within.step ?_ (coreEffect_within ..) rfl
    assumption

theorem maskedWrite_within (m : Master) (addr mask v : Nat) (s : State) : Within 14153707 s (maskedWrite m addr mask v s) := by
  delta maskedWrite
  split
  · exact Within.mono (coreWrite_within ..) rfl
  · rename_i u0 u1 u2 u3
    exact Within.mono (coreWrite_within ..) rfl

end Sys2Proof.Machine
end

