-- ==== Sys2Proof/Laws/WithinWaybill.lean ====
section
/-! SUPPORT. The footprints of the operations of `Sys2Proof/Machine/Waybill.lean`. -/

namespace Sys2Proof.Machine

theorem runOut_within (e : WbEntry) (at_ : Nat) (s : State) : Within 8519680 s (runOut e at_ s) := by
  delta runOut
  lift_lets
  intro n0 n1 n2 n3 n4
  refine Within.step ?_ (State.emit_within ..) rfl
  refine Within.wb ?_ _ rfl
  exact Within.refl _ _

theorem runWrite_within (e : WbEntry) (s : State) : Within 14153707 s (runWrite e s) := by
  delta runWrite
  refine Within.ite ?_ ?_
  · refine Within.step ?_ (raise_within ..) rfl
    refine Within.step ?_ (State.inc_within ..) rfl
    exact Within.mono (State.wr_within ..) rfl
  · exact Within.mono (maskedWrite_within ..) rfl

theorem runWindow_within (e : WbEntry) (age : Int) (s : State) : Within 393217 s (runWindow e age s) := by
  delta runWindow
  lift_lets
  intro n0 n1
  refine Within.step ?_ (wbWindows_within ..) rfl
  refine Within.wb ?_ _ rfl
  exact Within.refl _ _

theorem wbAction_within (e : WbEntry) (late : Bool) (s : State) : Within 14153707 s (wbAction e late s) := by
  delta wbAction
  lift_lets
  intro n0
  split
  · exact Within.mono (runOut_within ..) rfl
  · exact Within.mono (runWrite_within ..) rfl
  · exact Within.mono (State.emit_within ..) rfl
  · exact Within.mono (ledgerFire_within ..) rfl
  · exact Within.mono (fbRequest_within ..) rfl
  · exact Within.mono (runWindow_within ..) rfl
  · exact Within.mono (State.event_within ..) rfl
  · exact Within.refl _ _

theorem wbRun_within (e : WbEntry) (late : Bool) (s : State) : Within 14153707 s (wbRun e late s) := by
  delta wbRun
  lift_lets
  intro n0 y1
  have h2 : Within 14153707 s y1 := by
    subst y1
    exact Within.mono (State.wr_within ..) rfl
  clear_value y1
  refine Within.step ?_ (wbAction_within ..) rfl
  refine Within.step ?_ (wbComplete_within ..) rfl
  assumption

theorem wbLate_within (e : WbEntry) (s : State) : Within 14153707 s (wbLate e s) := by
  delta wbLate
  refine Within.ite ?_ ?_
  · exact Within.mono (State.inc_within ..) rfl
  · refine Within.ite ?_ ?_
    · refine Within.step ?_ (wbComplete_within ..) rfl
      refine Within.step ?_ (raise_within ..) rfl
      refine Within.step ?_ (State.inc_within ..) rfl
      exact Within.mono (State.wr_within ..) rfl
    · refine Within.step ?_ (wbRun_within ..) rfl
      refine Within.step ?_ (raise_within ..) rfl
      refine Within.step ?_ (State.inc_within ..) rfl
      exact Within.mono (State.wr_within ..) rfl

theorem entryStart_within (s : State) : Within 14153707 s (entryStart s) := by
  delta entryStart
  split
  · refine Within.step ?_ (wbRun_within ..) rfl
    exact Within.mono (wbRemove_within ..) rfl
  · exact Within.refl _ _

theorem relaySkip_within (s : State) : Within 131073 s (relaySkip s) := by
  delta relaySkip
  split
  · refine Within.step ?_ (State.inc_within ..) rfl
    exact Within.mono (wbRemove_within ..) rfl
  · exact Within.refl _ _

theorem outReturn_within (p : Nat) (s : State) : Within 8519680 s (outReturn p s) := by
  delta outReturn
  dsimp only
  generalize s.wb.returns.find? (fun r => r.1 == p && decide (r.2.2 ≤ s.rawNs)) = d
  rcases d with _ | ⟨a, level, b⟩
  · exact Within.refl _ _
  · refine Within.step ?_ (State.emit_within ..) rfl
    exact (Within.refl 8519680 s).wb _ rfl

theorem wbWindowClose_within (j : Nat) (s : State) : Within 393217 s (wbWindowClose j s) := by
  delta wbWindowClose
  lift_lets
  intro n0
  subst n0
  intro n1
  refine Within.step ?_ (wbWindows_within ..) rfl
  refine Within.wb ?_ _ rfl
  exact Within.refl _ _

theorem push_within (m : Master) (s : State) : Within 14153707 s (push m s) := by
  delta push
  lift_lets
  intro n0 n1 n2 y3
  have h4 : Within 14153707 s y3 := by
    subst y3
    refine Within.step ?_ (State.wr_within ..) rfl
    exact Within.mono (State.wr_within ..) rfl
  clear_value y3
  intro y5
  have h6 : Within 14153707 s y5 := by
    subst y5
    refine Within.step ?_ (wbAdd_within ..) rfl
    assumption
  clear_value y5
  subst n1
  split
  · refine Within.ite ?_ ?_
    · refine Within.step ?_ (State.carry_within ..) rfl
      assumption
    · assumption
  · refine Within.step ?_ (wbLate_within ..) rfl
    assumption
  · refine Within.step ?_ (wbLate_within ..) rfl
    assumption
  · refine Within.step ?_ (wbFull_within ..) rfl
    assumption
  · assumption

theorem cancelBy_within (tag mask : Nat) (s : State) : Within 8781825 s (cancelBy tag mask s) := by
  delta cancelBy
  lift_lets
  intro y0
  have h1 : Within 8781825 s y0 := by
    subst y0
    exact Within.mono (wbCancel_within ..) rfl
  clear_value y0
  refine Within.ite ?_ ?_
  · refine Within.step ?_ (State.carry_within ..) rfl
    assumption
  · assumption

theorem wbCancelled_within (s : State) : Within 8781825 s (wbCancelled s) := by
  delta wbCancelled
  exact Within.mono (cancelBy_within ..) rfl

theorem donePop_within (s : State) : Within 131073 s (donePop s) := by
  delta donePop
  lift_lets
  intro n0
  refine Within.step ?_ (wbSync_within ..) rfl
  refine Within.wb ?_ _ rfl
  exact Within.refl _ _

theorem shadowAdd_within (e : WbEntry) (s : State) : Within 9586595 s (shadowAdd e s) := by
  delta shadowAdd
  refine Within.ite ?_ ?_
  · exact Within.mono (wbFull_within ..) rfl
  · exact Within.mono (wbAdd_within ..) rfl

theorem makeLate_within (l : List WbEntry) (s : State) : Within 14153707 s (makeLate l s) := by
  delta makeLate
  refine Within.forAll ?_ fun a0 y1 h2 => ?_
  · exact Within.refl _ _
  · refine Within.step ?_ (wbLate_within ..) rfl
    assumption

theorem jumped_within (old s : State) : Within 14153707 s (jumped old s) := by
  delta jumped
  lift_lets
  intro n0
  subst n0
  intro n1 n2 y3
  have h4 : Within 14153707 s y3 := by
    subst y3
    refine Within.wb ?_ _ rfl
    exact Within.refl _ _
  clear_value y3
  refine Within.ite ?_ ?_
  · assumption
  · refine Within.step ?_ (makeLate_within ..) rfl
    refine Within.step ?_ (wbSync_within ..) rfl
    assumption

theorem jump_within (adj : Int) (s : State) : Within 14153707 s (jump adj s) := by
  delta jump
  refine Within.step ?_ (jumped_within ..) rfl
  exact Within.mono (stepTime_within ..) rfl

theorem passOver_within (c : Nat) (s : State) : Within 14153707 s (passOver c s) := by
  delta passOver
  lift_lets
  intro n0
  subst n0
  intro n1 n2 y3
  have h4 : Within 14153707 s y3 := by
    subst y3
    refine Within.wb ?_ _ rfl
    exact Within.refl _ _
  clear_value y3
  refine Within.ite ?_ ?_
  · assumption
  · refine Within.step ?_ (makeLate_within ..) rfl
    refine Within.step ?_ (wbSync_within ..) rfl
    assumption

theorem hostStep_within  (s : State) : Within 14153707 s (hostStep  s) := by
  delta hostStep
  refine hostAdjust_step ?_ ?_ rfl
  · exact Within.refl _ _
  · intro y0 h1
    refine Within.step ?_ (jump_within ..) rfl
    assumption

theorem hostSet_within  (s : State) : Within 14153707 s (hostSet  s) := by
  delta hostSet
  refine hostAdjust_step ?_ ?_ rfl
  · exact Within.refl _ _
  · intro y0 h1
    refine Within.step ?_ (jumped_within ..) rfl
    refine Within.step ?_ (setTime_within ..) rfl
    assumption

end Sys2Proof.Machine
end

