-- ==== Sys2Proof/Laws/WithinReads.lean ====
section
/-! SUPPORT. The footprints of the operations of `Sys2Proof/Machine/Reads.lean`. -/

namespace Sys2Proof.Machine

theorem regRead_within (m : Master) (addr : Nat) (s : State) : Within 9455537 s (regRead m addr s).2 := by
  delta regRead
  split
  · dsimp only
    exact Within.refl _ _
  · dsimp only
    exact Within.mono (unmapped_within ..) rfl
  · dsimp only
    exact Within.mono (gateAccess_within ..) rfl
  · dsimp only
    exact Within.mono (violation_within ..) rfl
  · lift_lets
    intro n0
    split
    · dsimp only
      exact Within.refl _ _
    · split
      · split
        · rename_i u1 u2 u3 u4
          lift_lets
          intro n5
          dsimp only
          refine Within.latch ?_ _ rfl fun c => Sparse.set_wf _ _ _ c.latch
          exact Within.refl _ _
        · dsimp only
          exact Within.refl _ _
      · dsimp only
        exact Within.refl _ _

theorem cellarRead_within (m : Master) (shown a : Nat) (s : State) : Within 9455521 s (cellarRead m shown a s).2 := by
  delta cellarRead
  split
  · dsimp only
    exact Within.refl _ _
  · split
    · dsimp only
      exact Within.mono (violation_within ..) rfl
    · split
      · dsimp only
        exact Within.refl _ _
      · dsimp only
        exact Within.refl _ _

theorem cellarWrite_within (m : Master) (shown a w : Nat) (s : State) : Within 15746977 s (cellarWrite m shown a w s) := by
  delta cellarWrite
  refine Within.ite ?_ ?_
  · exact Within.refl _ _
  · refine Within.ite ?_ ?_
    · exact Within.mono (violation_within ..) rfl
    · refine Within.ite ?_ ?_
      · exact Within.refl _ _
      · lift_lets
        intro y0
        have h1 : Within 15746977 s y0 := by
          subst y0
          refine Within.cellar ?_ _ rfl fun c => (Memory.write32_wf _ _ _ c.cellar)
          exact Within.refl _ _
        clear_value y0
        refine Within.ite ?_ ?_
        · refine Within.step ?_ (stageTouched_within ..) rfl
          assumption
        · assumption

theorem readLive_within (m : Master) (addr : Nat) (s : State) : Within 9455537 s (readLive m addr s).2 := by
  delta readLive
  split
  · exact Within.mono (cellarRead_within ..) rfl
  · exact Within.mono (regRead_within ..) rfl

theorem busRead_within (m : Master) (addr : Nat) (s : State) : Within 9455537 s (busRead m addr s).2 := by
  delta busRead
  split
  · dsimp only
    exact Within.refl _ _
  · exact Within.mono (readLive_within ..) rfl

end Sys2Proof.Machine
end

