-- ==== Sys2Proof/Laws/WithinCarried.lean ====
section
/-! SUPPORT. The footprints of the operations of `Sys2Proof/Machine/Carried.lean`. -/

namespace Sys2Proof.Machine

theorem missItem_within (s : State) : Within 9455521 s (missItem s) := by
  delta missItem
  lift_lets
  intro n0
  refine Within.step ?_ (missedJudge_within ..) rfl
  refine Within.step ?_ (raise_within ..) rfl
  refine Within.twn ?_ _ rfl
  exact Within.refl _ _

theorem atCycle_step  {clamp : Option Nat} {k : Nat} {f : Nat → State → State} {s : State} {fm : Nat} {z : State} (hh : Within fm z s) (hf : ∀ (c0 : Nat) (y : State), Within fm z y → Within fm z (f c0 y)) (hm : 9455521 ||| fm = fm) :
    Within fm z (atCycle clamp k f s) := by
  delta atCycle
  split
  · refine hf _ _ ?_
    assumption
  · refine Within.ite ?_ ?_
    · refine Within.step ?_ (missItem_within ..) (Within.sub rfl hm)
      assumption
    · refine hf _ _ ?_
      assumption

theorem takeCapt_within (fs : List Fld) (b : List Byte) (s : State) : Within 8 s (takeCapt fs b s) :=
  (Within.refl 8 s).capt _ rfl fun c => wf_foldl c.capt fun m a hm => Sparse.set_wf _ _ _ hm

theorem dlvReceived_within (n c own : Nat) (s : State) : Within 4096 s (dlvReceived n c own s) := by
  delta dlvReceived
  lift_lets
  intro n0 n1
  exact Within.mono (State.setArm_within ..) rfl

theorem lifeReceived_within (b : List Byte) (s : State) : Within 16384 s (lifeReceived b s) := by
  delta lifeReceived
  lift_lets
  intro n0 n1 n2
  refine Within.tly ?_ _ rfl rfl rfl rfl
  exact Within.refl _ _

theorem entryReceived_within (b : List Byte) (s : State) : Within 9586595 s (entryReceived b s) := by
  delta entryReceived
  lift_lets
  intro y0
  have h1 : Within 9586595 s y0 := by
    subst y0
    exact Within.mono (shadowAdd_within ..) rfl
  clear_value y0
  intro n2
  refine Within.ite ?_ ?_
  · refine Within.step ?_ (missedJudge_within ..) rfl
    refine Within.twn ?_ _ rfl
    assumption
  · assumption

theorem writeReceived_within (k addr w : Nat) (s : State) : Within 9553891 s (writeReceived k addr w s) := by
  delta writeReceived
  refine Within.step ?_ (State.addItem_within ..) rfl
  refine Within.step ?_ (settleReg_within ..) rfl
  exact Within.mono (regWrite_within ..) rfl

theorem itemTake_within (clamp : Option Nat) (b : List Byte) (s : State) : Within 12048363 s (itemTake clamp b s) := by
  delta itemTake
  lift_lets
  intro n0 n1 n2 n3 n4
  split
  · exact Within.mono (State.wr_within ..) rfl
  · refine atCycle_step ?_ ?_ rfl
    · exact Within.refl _ _
    · intro a5 y6 h7
      refine Within.step ?_ (State.wrs_within ..) rfl
      refine Within.step ?_ (takeCapt_within ..) rfl
      assumption
  · refine atCycle_step ?_ ?_ rfl
    · exact Within.refl _ _
    · intro a8 y9 h10
      lift_lets
      intro n11
      refine Within.step ?_ (State.wr_within ..) rfl
      refine Within.cg ?_ _ rfl
      assumption
  · refine atCycle_step ?_ ?_ rfl
    · exact Within.refl _ _
    · intro a12 y13 h14
      refine Within.step ?_ (State.wrs_within ..) rfl
      refine Within.step ?_ (takeCapt_within ..) rfl
      assumption
  · refine atCycle_step ?_ ?_ rfl
    · exact Within.refl _ _
    · intro a15 y16 h17
      refine Within.step ?_ (State.wrs_within ..) rfl
      refine Within.step ?_ (takeCapt_within ..) rfl
      assumption
  · refine atCycle_step ?_ ?_ rfl
    · exact Within.refl _ _
    · intro a18 y19 h20
      refine Within.step ?_ (State.addItem_within ..) rfl
      assumption
  · refine atCycle_step ?_ ?_ rfl
    · exact Within.refl _ _
    · intro a21 y22 h23
      lift_lets
      intro n24 n25
      refine Within.step ?_ (State.wr_within ..) rfl
      refine Within.be ?_ _ rfl
      assumption
  · refine atCycle_step ?_ ?_ rfl
    · exact Within.refl _ _
    · intro a26 y27 h28
      refine Within.step ?_ (writeReceived_within ..) rfl
      assumption
  · exact Within.mono (lifeReceived_within ..) rfl
  · refine atCycle_step ?_ ?_ rfl
    · exact Within.refl _ _
    · intro a29 y30 h31
      refine Within.step ?_ (State.setArm_within ..) rfl
      refine Within.step ?_ (State.wr_within ..) rfl
      refine Within.step ?_ (takeCapt_within ..) rfl
      assumption
  · exact Within.mono (dlvReceived_within ..) rfl
  · exact Within.mono (commitAborted_within ..) rfl
  · exact Within.mono (entryReceived_within ..) rfl
  · exact Within.mono (wbCancel_within ..) rfl
  · exact Within.mono (resyncNamed_within ..) rfl
  · refine Within.twn ?_ _ rfl
    exact Within.refl _ _
  · refine Within.twn ?_ _ rfl
    exact Within.refl _ _
  · exact Within.refl _ _

theorem itemReceived_within (ok : Bool) (b : List Byte) (s : State) : Within 12048363 s (itemReceived ok b s) := by
  delta itemReceived
  refine Within.ite ?_ ?_
  · exact Within.mono (crcError_within ..) rfl
  · lift_lets
    intro n0 y1
    have h2 : Within 12048363 s y1 := by
      subst y1
      refine Within.ite ?_ ?_
      · refine Within.twn ?_ _ rfl
        exact Within.refl _ _
      · exact Within.refl _ _
    clear_value y1
    refine Within.step ?_ (itemTake_within ..) rfl
    assumption

theorem sampleWord_within (addr w : Nat) (s : State) : Within 4 s (sampleWord addr w s) := by
  delta sampleWord
  split
  · exact Within.refl _ _
  · exact (Within.refl 4 s).samp _ rfl fun c => wf_foldl c.samp fun m a hm => Sparse.set_wf _ _ _ hm

theorem itemApply_within (i : Item) (s : State) : Within 9445381 s (itemApply i s) := by
  delta itemApply
  refine Within.ite ?_ ?_
  · lift_lets
    intro n0
    refine Within.ref ?_ _ rfl
    exact Within.refl _ _
  · refine Within.ite ?_ ?_
    · exact Within.mono (sampleWord_within ..) rfl
    · exact Within.refl _ _

theorem itemsApply_within (s : State) : Within 9445381 s (itemsApply s) := by
  delta itemsApply
  lift_lets
  intro n0 n1
  refine Within.forAll ?_ fun a2 y3 h4 => ?_
  · refine Within.twn ?_ _ rfl
    exact Within.refl _ _
  · refine Within.step ?_ (itemApply_within ..) rfl
    assumption

theorem refreshStart_within (s : State) : Within 8388608 s (refreshStart s) := by
  delta refreshStart
  refine Within.ite ?_ ?_
  · exact Within.mono (State.carry_within ..) rfl
  · exact Within.refl _ _

theorem refreshTake_within (d : List Byte) (s : State) : Within 136195 s (refreshTake d s) := by
  delta refreshTake
  lift_lets
  intro n0 y1
  have h2 : Within 136195 s y1 := by
    subst y1
    exact Within.refl _ _
  clear_value y1
  intro y3
  have h4 : Within 136195 s y3 := by
    subst y3
    refine Within.foldl ?_ fun a5 y6 h7 => ?_
    · exact Within.refl _ _
    · refine Within.step ?_ (State.wrShadow_within ..) rfl
      refine Within.step ?_ (State.wr_within ..) rfl
      assumption
  clear_value y3
  intro y8
  have h9 : Within 136195 s y8 := by
    subst y8
    refine Within.forAll ?_ fun a10 y11 h12 => ?_
    · assumption
    · refine Within.ite ?_ ?_
      · refine Within.step ?_ (deadtSend_within ..) rfl
        assumption
      · assumption
  clear_value y8
  intro n13 n14 n15 n16 n17 n18 y19
  have h20 : Within 136195 s y19 := by
    subst y19
    refine Within.step ?_ (wbSync_within ..) rfl
    refine Within.wb ?_ _ rfl
    assumption
  clear_value y19
  refine Within.step ?_ (State.mapCells_within ..) rfl
  assumption

theorem refreshApply_within (s : State) : Within 12048363 s (refreshApply s) := by
  delta refreshApply
  split
  · rename_i u0 u1 u2 u3
    refine Within.ite ?_ ?_
    · exact Within.refl _ _
    · lift_lets
      intro n4 y5
      have h6 : Within 12048363 s y5 := by
        subst y5
        exact Within.mono (refreshTake_within ..) rfl
      clear_value y5
      intro n7 n8 n9 y10
      have h11 : Within 12048363 s y10 := by
        subst y10
        refine Within.typed ?_ _ _ _ _ _ _ _ _ _ _ _ _ _ _ _ _ _ (.inr rfl) (.inr rfl) (.inr rfl) (.inr rfl) (.inr rfl) (.inr rfl) (.inr rfl) (.inr rfl) (.inl rfl) (.inr rfl) (.inr rfl) (.inr rfl) (.inr rfl) (.inr rfl) (.inl rfl) (.inr rfl) (.inr rfl) (.inr rfl) (.inr ⟨rfl, rfl⟩) rfl rfl rfl rfl rfl rfl rfl rfl
        assumption
      clear_value y10
      refine Within.forAll ?_ fun a12 y13 h14 => ?_
      · refine Within.step ?_ (missedJudge_within ..) rfl
        refine Within.step ?_ (unraise_within ..) rfl
        assumption
      · refine Within.step ?_ (itemTake_within ..) rfl
        assumption
  · exact Within.refl _ _

end Sys2Proof.Machine
end

