-- ==== Sys2Proof/Laws/WithinCycle.lean ====
section
/-! SUPPORT. The footprints of the operations of `Sys2Proof/Machine/Cycle.lean`. -/

namespace Sys2Proof.Machine

theorem sampleAll_within (c : Nat) (s : State) : Within 4 s (sampleAll c s) := by
  delta sampleAll
  dsimp only
  refine Within.forAll ?_ fun i y h => ?_
  · exact (Within.refl 4 s).samp _ rfl fun c => c.regs
  · split
    · exact h
    · split
      · exact Within.step h (sampleWord_within ..) rfl
      · refine h.samp _ rfl fun c => wf_foldl c.samp fun m a hm => ?_
        split
        · exact hm
        · exact Sparse.set_wf _ _ _ hm

theorem token_within (now idx : Nat) (s : State) : Within 13658021 s (token now idx s) := by
  delta token
  refine Within.ite ?_ ?_
  · exact Within.refl _ _
  · lift_lets
    intro n0
    refine Within.step ?_ (replicas_within ..) rfl
    refine Within.step ?_ (rampsUpdate_within ..) rfl
    exact Within.mono (sampleAll_within ..) rfl

theorem numberCycle_within (s : State) : Within 14155755 s (numberCycle s) := by
  delta numberCycle
  lift_lets
  intro n0 n1 n2 n3 y4
  have h5 : Within 14155755 s y4 := by
    subst y4
    refine Within.typed ?_ _ _ _ _ _ _ _ _ _ _ _ _ _ _ _ _ _ (.inl rfl) (.inr rfl) (.inr rfl) (.inr rfl) (.inr rfl) (.inr rfl) (.inr rfl) (.inr rfl) (.inr rfl) (.inr rfl) (.inr rfl) (.inr rfl) (.inr rfl) (.inr rfl) (.inl rfl) (.inr rfl) (.inr rfl) (.inr rfl) (.inr ⟨rfl, rfl⟩) rfl rfl rfl rfl rfl rfl rfl rfl
    exact Within.refl _ _
  clear_value y4
  intro y6
  have h7 : Within 14155755 s y6 := by
    subst y6
    refine Within.tb ?_ _ rfl (.inr rfl)
    exact Within.refl _ _
  clear_value y6
  split
  · refine Within.step ?_ (State.wrs_within ..) rfl
    refine Within.sch ?_ _ rfl
    exact Within.refl _ _
  · refine Within.ite ?_ ?_
    · refine Within.step ?_ (passOver_within ..) rfl
      refine Within.step ?_ (raise_within ..) rfl
      refine Within.step ?_ (State.wrs_within ..) rfl
      assumption
    · split
      · refine Within.step ?_ (passOver_within ..) rfl
        refine Within.step ?_ (raise_within ..) rfl
        refine Within.step ?_ (State.wrs_within ..) rfl
        assumption
      · exact Within.mono (State.wr_within ..) rfl

theorem obeyStart_within (s : State) : Within 9455521 s (obeyStart s) := by
  delta obeyStart
  lift_lets
  intro y0
  have h1 : Within 9455521 s y0 := by
    subst y0
    refine Within.ite ?_ ?_
    · exact Within.refl _ _
    · refine Within.step ?_ (obeyJudge_within ..) rfl
      exact Within.mono (State.wr_within ..) rfl
  clear_value y0
  intro n2
  refine Within.twn ?_ _ rfl
  assumption

theorem controlStart_within (s : State) : Within 9496481 s (controlStart s) := by
  delta controlStart
  refine Within.ite ?_ ?_
  · refine Within.step ?_ (graphClose_within ..) rfl
    exact Within.mono (refbSwap_within ..) rfl
  · exact Within.refl _ _

theorem cycleStart_within (s : State) : Within 14155755 s (cycleStart s) := by
  delta cycleStart
  refine Within.ite ?_ ?_
  · exact Within.refl _ _
  · lift_lets
    intro y0
    have h1 : Within 14155755 s y0 := by
      subst y0
      refine Within.step ?_ (clearInCycle_within ..) rfl
      exact Within.mono (rehWatch_within ..) rfl
    clear_value y0
    intro y2
    have h3 : Within 14155755 s y2 := by
      subst y2
      refine Within.step ?_ (numberCycle_within ..) rfl
      assumption
    clear_value y2
    intro n4 n5 y6
    have h7 : Within 14155755 s y6 := by
      subst y6
      refine Within.typed ?_ _ _ _ _ _ _ _ _ _ _ _ _ _ _ _ _ _ (.inl rfl) (.inr rfl) (.inr rfl) (.inr rfl) (.inr rfl) (.inl rfl) (.inr rfl) (.inr rfl) (.inr rfl) (.inr rfl) (.inr rfl) (.inr rfl) (.inr rfl) (.inr rfl) (.inr rfl) (.inr rfl) (.inr rfl) (.inr rfl) (.inr ⟨rfl, rfl⟩) rfl rfl rfl rfl rfl rfl rfl rfl
      assumption
    clear_value y6
    intro y8
    have h9 : Within 14155755 s y8 := by
      subst y8
      refine Within.step ?_ (State.wr64_within ..) rfl
      assumption
    clear_value y8
    intro y10
    have h11 : Within 14155755 s y10 := by
      subst y10
      refine Within.step ?_ (cycleAlign_within ..) rfl
      assumption
    clear_value y10
    intro y12
    have h13 : Within 14155755 s y12 := by
      subst y12
      refine Within.step ?_ (State.mapCells_within ..) rfl
      assumption
    clear_value y12
    intro n14 y15
    have h16 : Within 14155755 s y15 := by
      subst y15
      refine Within.be ?_ _ rfl
      assumption
    clear_value y15
    intro y17
    have h18 : Within 14155755 s y17 := by
      subst y17
      refine Within.step ?_ (launchFrames_within ..) rfl
      assumption
    clear_value y17
    intro y19
    have h20 : Within 14155755 s y19 := by
      subst y19
      refine Within.step ?_ (twinStart_within ..) rfl
      refine Within.step ?_ (roleStart_within ..) rfl
      refine Within.step ?_ (stateStart_within ..) rfl
      refine Within.step ?_ (obeyStart_within ..) rfl
      assumption
    clear_value y19
    intro y21
    have h22 : Within 14155755 s y21 := by
      subst y21
      refine Within.forAll ?_ fun a23 y24 h25 => ?_
      · assumption
      · refine Within.step ?_ (e0Start_within ..) rfl
        refine Within.step ?_ (sigmaStart_within ..) rfl
        assumption
    clear_value y21
    intro y26
    have h27 : Within 14155755 s y26 := by
      subst y26
      refine Within.step ?_ (controlStart_within ..) rfl
      refine Within.step ?_ (phaseStart_within ..) rfl
      refine Within.step ?_ (rampsStart_within ..) rfl
      assumption
    clear_value y26
    intro y28
    have h29 : Within 14155755 s y28 := by
      subst y28
      refine Within.step ?_ (ledgerCycle_within ..) rfl
      refine Within.step ?_ (lmuCycle_within ..) rfl
      assumption
    clear_value y28
    intro y30
    have h31 : Within 14155755 s y30 := by
      subst y30
      refine Within.ite ?_ ?_
      · refine Within.step ?_ (plGo_within ..) rfl
        assumption
      · assumption
    clear_value y30
    refine Within.ite ?_ ?_
    · assumption
    · refine Within.step ?_ (hbSend_within ..) rfl
      assumption

theorem missrunLimit_within (n : Nat) (s : State) : Within 9455521 s (missrunLimit n s) := by
  delta missrunLimit
  refine Within.ite ?_ ?_
  · exact Within.mono (raise_within ..) rfl
  · exact Within.refl _ _

theorem deadline_within (n : Nat) (s : State) : Within 9459617 s (deadline n s) := by
  delta deadline
  refine Within.ite ?_ ?_
  · lift_lets
    intro n0 y1
    have h2 : Within 9459617 s y1 := by
      subst y1
      exact Within.mono (State.wrs_within ..) rfl
    clear_value y1
    intro y3
    have h4 : Within 9459617 s y3 := by
      subst y3
      refine Within.step ?_ (State.putBit_within ..) rfl
      refine Within.step ?_ (State.inc_within ..) rfl
      assumption
    clear_value y3
    intro y5
    have h6 : Within 9459617 s y5 := by
      subst y5
      refine Within.step ?_ (State.setArm_within ..) rfl
      assumption
    clear_value y5
    refine Within.ite ?_ ?_
    · refine Within.step ?_ (missrunLimit_within ..) rfl
      assumption
    · assumption
  · refine Within.ite ?_ ?_
    · exact Within.refl _ _
    · refine Within.step ?_ (unraise_within ..) rfl
      refine Within.step ?_ (State.putBit_within ..) rfl
      exact Within.mono (State.wrs_within ..) rfl

theorem fpShow_within (n : Nat) (fp : Option Nat) (s : State) : Within 1 s (fpShow n fp s) := by
  delta fpShow
  split
  · exact Within.mono (State.wrs_within ..) rfl
  · lift_lets
    intro n0
    exact Within.mono (State.wrs_within ..) rfl

theorem applySel_within (n : Nat) (q : Sel) (s : State) : Within 8411041 s (applySel n q s) := by
  delta applySel
  lift_lets
  intro y0
  have h1 : Within 8411041 s y0 := by
    subst y0
    exact Within.mono (State.mapCells_within ..) rfl
  clear_value y0
  intro y2
  have h3 : Within 8411041 s y2 := by
    subst y2
    refine Within.step ?_ (fpShow_within ..) rfl
    refine Within.step ?_ (State.wrs_within ..) rfl
    assumption
  clear_value y2
  refine Within.step ?_ (State.setArm_within ..) rfl
  assumption

theorem blockArm_within (n : Nat) (late : Bool) (s : State) : Within 4097 s (blockArm n late s) := by
  delta blockArm
  lift_lets
  intro sent y0
  have h1 : Within 4097 s y0 := by
    subst y0
    exact Within.mono (State.mapCells_within ..) rfl
  clear_value y0
  intro y2
  have h3 : Within 4097 s y2 := by
    subst y2
    refine Within.step ?_ (fpShow_within ..) rfl
    refine Within.step ?_ (State.wrs_within ..) rfl
    assumption
  clear_value y2
  refine Within.step ?_ (State.setArm_within ..) rfl
  assumption

theorem holdArm_within (n : Nat) (late : Bool) (s : State) : Within 4096 s (holdArm n late s) := by
  delta holdArm
  lift_lets
  intro n0 n1 n2 y3
  have h4 : Within 4096 s y3 := by
    subst y3
    exact Within.mono (State.mapCells_within ..) rfl
  clear_value y3
  intro n5
  refine Within.step ?_ (State.setArm_within ..) rfl
  assumption

theorem freezeArm_within (n : Nat) (s : State) : Within 9459617 s (freezeArm n s) := by
  delta freezeArm
  lift_lets
  intro n0 n1 y2
  have h3 : Within 9459617 s y2 := by
    subst y2
    refine Within.step ?_ (State.setArm_within ..) rfl
    refine Within.step ?_ (deadline_within ..) rfl
    exact Within.mono (countArm_within ..) rfl
  clear_value y2
  intro y4
  have h5 : Within 9459617 s y4 := by
    subst y4
    refine Within.step ?_ (rsFreeze_within ..) rfl
    assumption
  clear_value y4
  intro n6 y7
  have h8 : Within 9459617 s y7 := by
    subst y7
    refine Within.ite ?_ ?_
    · refine Within.step ?_ (blockArm_within ..) rfl
      assumption
    · refine Within.ite ?_ ?_
      · refine Within.step ?_ (holdArm_within ..) rfl
        assumption
      · refine Within.step ?_ (applySel_within ..) rfl
        assumption
  clear_value y7
  intro y9
  have h10 : Within 9459617 s y9 := by
    subst y9
    refine Within.ite ?_ ?_
    · refine Within.step ?_ (State.setArm_within ..) rfl
      assumption
    · assumption
  clear_value y9
  refine Within.step ?_ (State.setArm_within ..) rfl
  assumption

theorem armFreeze_within (s : State) : Within 9723809 s (armFreeze s) := by
  delta armFreeze
  refine Within.ite ?_ ?_
  · exact Within.refl _ _
  · lift_lets
    intro n0 y1
    have h2 : Within 9723809 s y1 := by
      subst y1
      refine Within.be ?_ _ rfl
      exact Within.refl _ _
    clear_value y1
    intro y3
    have h4 : Within 9723809 s y3 := by
      subst y3
      refine Within.step ?_ (rehFreeze_within ..) rfl
      assumption
    clear_value y3
    intro y5
    have h6 : Within 9723809 s y5 := by
      subst y5
      refine Within.forAll ?_ fun a7 y8 h9 => ?_
      · assumption
      · refine Within.step ?_ (freezeArm_within ..) rfl
        assumption
    clear_value y5
    intro y10
    have h11 : Within 9723809 s y10 := by
      subst y10
      refine Within.step ?_ (snapFreeze_within ..) rfl
      refine Within.step ?_ (snapSend_within ..) rfl
      refine Within.step ?_ (ledgerWrite_within ..) rfl
      assumption
    clear_value y10
    intro n12 n13 n14
    refine Within.typed ?_ _ _ _ _ _ _ _ _ _ _ _ _ _ _ _ _ _ (.inr rfl) (.inr rfl) (.inr rfl) (.inr rfl) (.inl rfl) (.inl rfl) (.inr rfl) (.inr rfl) (.inr rfl) (.inr rfl) (.inr rfl) (.inr rfl) (.inr rfl) (.inr rfl) (.inr rfl) (.inr rfl) (.inr rfl) (.inr rfl) (.inr ⟨rfl, rfl⟩) rfl rfl rfl rfl rfl rfl rfl rfl
    assumption

end Sys2Proof.Machine
end

