-- ==== Sys2Proof/Laws/WithinBus.lean ====
section
/-! SUPPORT. The footprints of the operations of `Sys2Proof/Machine/Bus.lean`. -/

namespace Sys2Proof.Machine

theorem tbControl_within (m : Master) (r : RegSpec) (ix : List Nat) (w : Nat) (s : State) : Within 14153707 s (tbControl m r ix w s) := by
  delta tbControl
  lift_lets
  intro y0
  have h1 : Within 14153707 s y0 := by
    subst y0
    refine Within.step ?_ (settleReg_within ..) rfl
    exact Within.mono (writeFields_within ..) rfl
  clear_value y0
  intro y2
  have h3 : Within 14153707 s y2 := by
    subst y2
    refine onBit_step ?_ ?_ rfl
    · assumption
    · intro y4 h5
      refine hostAdjust_step ?_ ?_ rfl
      · assumption
      · intro y6 h7
        refine Within.step ?_ (slewEnd_within ..) rfl
        assumption
  clear_value y2
  intro y8
  have h9 : Within 14153707 s y8 := by
    subst y8
    refine onBit_step ?_ ?_ rfl
    · assumption
    · intro y10 h11
      refine Within.step ?_ (hostStep_within ..) rfl
      assumption
  clear_value y8
  intro y12
  have h13 : Within 14153707 s y12 := by
    subst y12
    refine onBit_step ?_ ?_ rfl
    · assumption
    · intro y14 h15
      refine Within.step ?_ (hostSet_within ..) rfl
      assumption
  clear_value y12
  intro y16
  have h17 : Within 14153707 s y16 := by
    subst y16
    refine onBit_step ?_ ?_ rfl
    · assumption
    · intro y18 h19
      refine hostAdjust_step ?_ ?_ rfl
      · assumption
      · intro y20 h21
        refine Within.step ?_ (slewTime_within ..) rfl
        assumption
  clear_value y16
  refine onBit_step ?_ ?_ rfl
  · assumption
  · intro y22 h23
    refine Within.step ?_ (tbCntclr_within ..) rfl
    assumption

theorem wbControl_within (m : Master) (w : Nat) (s : State) : Within 14153707 s (wbControl m w s) := by
  delta wbControl
  refine onBit_step ?_ ?_ rfl
  · refine onBit_step ?_ ?_ rfl
    · refine onBit_step ?_ ?_ rfl
      · refine onBit_step ?_ ?_ rfl
        · exact Within.refl _ _
        · intro y0 h1
          refine Within.step ?_ (push_within ..) rfl
          assumption
      · intro y2 h3
        refine Within.step ?_ (wbCancelled_within ..) rfl
        assumption
    · intro y4 h5
      refine Within.step ?_ (cancelBy_within ..) rfl
      assumption
  · intro y6 h7
    refine Within.step ?_ (donePop_within ..) rfl
    assumption

theorem bankedWrite_within (m : Master) (r : RegSpec) (ix : List Nat) (addr w : Nat) (s : State) : Within 8388611 s (bankedWrite m r ix addr w s) := by
  delta bankedWrite
  refine Within.ite ?_ ?_
  · exact Within.refl _ _
  · lift_lets
    intro y0
    have h1 : Within 8388611 s y0 := by
      subst y0
      refine Within.foldl ?_ fun a2 y3 h4 => ?_
      · exact Within.refl _ _
      · refine Within.step ?_ (writeField_within ..) rfl
        assumption
    clear_value y0
    refine Within.ite ?_ ?_
    · assumption
    · refine Within.step ?_ (State.emit_within ..) rfl
      assumption

theorem dmaBusyWrite_within (m : Master) (ch ofs w : Nat) (s : State) : Within 8389121 s (dmaBusyWrite m ch ofs w s) := by
  delta dmaBusyWrite
  refine Within.ite ?_ ?_
  · exact Within.mono (dmaEnd_within ..) rfl
  · exact Within.mono (State.werr_within ..) rfl

theorem dmaStart_within (m : Master) (ch : Nat) (s : State) : Within 8389121 s (dmaStart m ch s) := by
  delta dmaStart
  lift_lets
  intro y0
  have h1 : Within 8389121 s y0 := by
    subst y0
    exact Within.mono (State.wrs_within ..) rfl
  clear_value y0
  refine Within.ite ?_ ?_
  · refine Within.step ?_ (State.wrs_within ..) rfl
    assumption
  · refine Within.step ?_ (dmaEnd_within ..) rfl
    assumption

theorem dmaWrite_within (m : Master) (ch ofs : Nat) (r : RegSpec) (ix : List Nat) (addr w : Nat) (s : State) : Within 8389123 s (dmaWrite m ch ofs r ix addr w s) := by
  delta dmaWrite
  refine Within.ite ?_ ?_
  · exact Within.mono (dmaBusyWrite_within ..) rfl
  · lift_lets
    intro y0
    have h1 : Within 8389123 s y0 := by
      subst y0
      exact Within.mono (writeFields_within ..) rfl
    clear_value y0
    refine Within.ite ?_ ?_
    · refine Within.step ?_ (dmaStart_within ..) rfl
      assumption
    · assumption

theorem hstEffect_within (m : Master) (addr w : Nat) (r : RegSpec) (ix : List Nat) (s : State) : Within 9553891 s (hstEffect m addr w r ix s) := by
  delta hstEffect
  refine Within.ite ?_ ?_
  · exact Within.mono (bankedWrite_within ..) rfl
  · refine Within.ite ?_ ?_
    · exact Within.mono (dmaWrite_within ..) rfl
    · split
      · exact Within.mono (release_within ..) rfl
      · exact Within.mono (hstNtx_within ..) rfl
      · refine Within.ite ?_ ?_
        · exact Within.refl _ _
        · refine Within.ite ?_ ?_
          · exact Within.mono (mdioStart_within ..) rfl
          · exact Within.mono (writeFields_within ..) rfl
      · refine Within.step ?_ (settleReg_within ..) rfl
        exact Within.mono (writeFields_within ..) rfl

theorem fcEffect_within (m : Master) (addr w : Nat) (r : RegSpec) (ix : List Nat) (s : State) : Within 9816035 s (fcEffect m addr w r ix s) := by
  delta fcEffect
  refine Within.ite ?_ ?_
  · exact Within.mono (clearSticky_within ..) rfl
  · refine Within.ite ?_ ?_
    · exact Within.mono (sevWrite_within ..) rfl
    · split
      · exact Within.mono (fcCommand_within ..) rfl
      · refine Within.ite ?_ ?_
        · exact Within.mono (testWrite_within ..) rfl
        · exact Within.refl _ _
      · exact Within.mono (unlock_within ..) rfl
      · exact Within.mono (inject_within ..) rfl
      · refine Within.step ?_ (settleReg_within ..) rfl
        exact Within.mono (writeFields_within ..) rfl

theorem fullEffect_within (m : Master) (addr w : Nat) (r : RegSpec) (ix : List Nat) (s : State) : Within 16775147 s (fullEffect m addr w r ix s) := by
  delta fullEffect
  refine Within.ite ?_ ?_
  · exact Within.mono (hstEffect_within ..) rfl
  · refine Within.ite ?_ ?_
    · exact Within.mono (fcEffect_within ..) rfl
    · refine Within.ite ?_ ?_
      · exact Within.mono (writeFields_within ..) rfl
      · refine Within.ite ?_ ?_
        · exact Within.mono (State.wr_within ..) rfl
        · split
          · exact Within.mono (rcpCommand_within ..) rfl
          · exact Within.mono (State.wr_within ..) rfl
          · exact Within.mono (tbControl_within ..) rfl
          · exact Within.mono (tbRateWrite_within ..) rfl
          · refine hostAdjust_step ?_ ?_ rfl
            · exact Within.refl _ _
            · intro y0 h1
              refine Within.step ?_ (writeFields_within ..) rfl
              assumption
          · refine hostAdjust_step ?_ ?_ rfl
            · exact Within.refl _ _
            · intro y2 h3
              refine Within.step ?_ (writeFields_within ..) rfl
              assumption
          · exact Within.mono (wbControl_within ..) rfl
          · exact Within.mono (sbuCommand_within ..) rfl
          · exact Within.mono (coreEffect_within ..) rfl

theorem writeAny_within (m : Master) (addr w : Nat) (s : State) : Within 16775147 s (writeAny m addr w s) := by
  delta writeAny
  refine Within.ite ?_ ?_
  · exact Within.mono (cellarWrite_within ..) rfl
  · refine writeLive_step ?_ ?_ rfl
    · exact Within.refl _ _
    · intro a0 a1 y2 h3
      refine Within.step ?_ (fullEffect_within ..) rfl
      assumption

theorem busWrite_within (m : Master) (addr w : Nat) (s : State) : Within 16775147 s (busWrite m addr w s) := by
  delta busWrite
  refine Within.ite ?_ ?_
  · exact Within.refl _ _
  · exact Within.mono (writeAny_within ..) rfl

theorem stageWrite_within (m : Master) (index w : Nat) (s : State) : Within 15746977 s (stageWrite m index w s) := by
  delta stageWrite
  refine Within.ite ?_ ?_
  · exact Within.refl _ _
  · exact Within.mono (cellarWrite_within ..) rfl

theorem readWords_within (m : Master) (n addr : Nat) (s : State) : Within 9455537 s (readWords m n addr s).2 := by
  induction n generalizing addr s with
  | zero => exact Within.refl _ _
  | succ n ih => exact Within.step (Within.mono (busRead_within ..) rfl) (ih _ _) rfl

theorem writeWords_within (m : Master) (addr : Nat) (l : List (Nat × Nat)) (s : State) : Within 16775147 s (writeWords m addr l s) := by
  delta writeWords
  refine Within.foldl ?_ fun a0 y1 h2 => ?_
  · exact Within.refl _ _
  · refine Within.ite ?_ ?_
    · assumption
    · refine Within.ite ?_ ?_
      · refine Within.ite ?_ ?_
        · refine Within.step ?_ (State.werr_within ..) rfl
          assumption
        · assumption
      · refine Within.step ?_ (busWrite_within ..) rfl
        assumption

theorem pcieRead_within (fn addr n : Nat) (s : State) : Within 9455537 s (pcieRead fn addr n s) := by
  delta pcieRead
  lift_lets
  intro n0
  refine Within.ite ?_ ?_
  · exact Within.mono (complete_within ..) rfl
  · refine Within.ite ?_ ?_
    · refine Within.ite ?_ ?_
      · exact Within.mono (complete_within ..) rfl
      · refine Within.step ?_ (complete_within ..) rfl
        exact Within.mono (State.werr_within ..) rfl
    · split
      · rename_i u1 u2 u3 u4
        refine Within.ite ?_ ?_
        · refine Within.step ?_ (complete_within ..) rfl
          refine Within.ofPair u4 ?_
          exact Within.mono (readWords_within ..) rfl
        · refine Within.step ?_ (complete_within ..) rfl
          refine Within.ofPair u4 ?_
          exact Within.mono (readWords_within ..) rfl

theorem pcieWrite_within (fn addr first last : Nat) (poisoned : Bool) (ws : List Nat) (s : State) : Within 16775147 s (pcieWrite fn addr first last poisoned ws s) := by
  delta pcieWrite
  lift_lets
  intro n0
  refine Within.ite ?_ ?_
  · refine Within.step ?_ (raise_within ..) rfl
    exact Within.mono (State.inc_within ..) rfl
  · refine Within.ite ?_ ?_
    · exact Within.refl _ _
    · refine Within.ite ?_ ?_
      · refine Within.ite ?_ ?_
        · exact Within.refl _ _
        · exact Within.mono (State.werr_within ..) rfl
      · exact Within.mono (writeWords_within ..) rfl

theorem pcieRequest_within (fn kind dw count first last : Nat) (poisoned : Bool) (data : List Nat) (s : State) : Within 16775163 s (pcieRequest fn kind dw count first last poisoned data s) := by
  delta pcieRequest
  refine Within.ite ?_ ?_
  · exact Within.refl _ _
  · split
    · exact Within.mono (pcieRead_within ..) rfl
    · exact Within.mono (pcieWrite_within ..) rfl
    · exact Within.mono (complete_within ..) rfl

theorem dmaRead_within (m : Master) (cellar : Bool) (a : Nat) (s : State) : Within 9455537 s (dmaRead m cellar a s).2 := by
  delta dmaRead
  split
  · exact Within.mono (cellarRead_within ..) rfl
  · exact Within.mono (regRead_within ..) rfl

theorem dmaStore_within (m : Master) (cellar : Bool) (a w : Nat) (s : State) : Within 16775147 s (dmaStore m cellar a w s) := by
  delta dmaStore
  refine Within.ite ?_ ?_
  · exact Within.mono (cellarWrite_within ..) rfl
  · refine writeLive_step ?_ ?_ rfl
    · exact Within.refl _ _
    · intro a0 a1 y2 h3
      refine Within.step ?_ (fullEffect_within ..) rfl
      assumption

theorem dmaWord_within (ch i v : Nat) (s : State) : Within 16775163 s (dmaWord ch i v s).2 := by
  delta dmaWord
  lift_lets
  intro n0 n1 n2 n3 n4
  subst n4
  intro n5
  split
  · dsimp only
    refine Within.ite ?_ ?_
    · exact Within.mono (dmaStore_within ..) rfl
    · refine Within.step ?_ (State.wr_within ..) rfl
      exact Within.mono (dmaStore_within ..) rfl
  · split
    · rename_i u6 u7 u8 u9
      split
      · dsimp only
        refine Within.ofPair u9 ?_
        exact Within.mono (dmaRead_within ..) rfl
      · dsimp only
        refine Within.step ?_ (State.wr_within ..) rfl
        refine Within.step ?_ (State.emit_within ..) rfl
        refine Within.ofPair u9 ?_
        exact Within.mono (dmaRead_within ..) rfl
  · split
    · rename_i u10 u11 u12 u13
      split
      · dsimp only
        refine Within.ofPair u13 ?_
        exact Within.mono (dmaRead_within ..) rfl
      · dsimp only
        refine Within.ite ?_ ?_
        · refine Within.step ?_ (dmaStore_within ..) rfl
          refine Within.ofPair u13 ?_
          exact Within.mono (dmaRead_within ..) rfl
        · refine Within.step ?_ (State.wr_within ..) rfl
          refine Within.step ?_ (dmaStore_within ..) rfl
          refine Within.ofPair u13 ?_
          exact Within.mono (dmaRead_within ..) rfl

theorem dmaWords_within (ch : Nat) (data : List Nat) (n i : Nat) (s : State) : Within 16775163 s (dmaWords ch data n i s) := by
  induction n generalizing i s with
  | zero => exact Within.refl _ _
  | succ n ih =>
    unfold dmaWords
    dsimp only
    split
    · exact Within.refl _ _
    · have h := Within.mono (m := 16775163) (dmaWord_within ch i (data.getD i 0) s) rfl
      split
      · refine Within.step ?_ (dmaEnd_within ..) rfl
        split
        · exact h
        · exact Within.step h (State.wr_within ..) rfl
      · exact Within.step h (ih _ _) rfl

theorem dmaAbort_within (m : Master) (ch words : Nat) (data : List Nat) (s : State) : Within 16775163 s (dmaAbort m ch words data s) := by
  delta dmaAbort
  refine Within.ite ?_ ?_
  · exact Within.mono (busWrite_within ..) rfl
  · refine Within.ite ?_ ?_
    · refine Within.step ?_ (busWrite_within ..) rfl
      exact Within.mono (dmaWords_within ..) rfl
    · exact Within.mono (busWrite_within ..) rfl

theorem dmaComplete_within (ch : Nat) (hostErr : Bool) (words : Nat) (data : List Nat) (s : State) : Within 16775163 s (dmaComplete ch hostErr words data s) := by
  delta dmaComplete
  refine Within.ite ?_ ?_
  · exact Within.refl _ _
  · lift_lets
    intro n0 n1 y2
    have h3 : Within 16775163 s y2 := by
      subst y2
      exact Within.mono (dmaWords_within ..) rfl
    clear_value y2
    refine Within.ite ?_ ?_
    · assumption
    · refine Within.ite ?_ ?_
      · refine Within.step ?_ (dmaEnd_within ..) rfl
        refine Within.step ?_ (raise_within ..) rfl
        assumption
      · refine Within.step ?_ (dmaEnd_within ..) rfl
        assumption

theorem portReads_within (n addr : Nat) (s : State) : Within 9455537 s (portReads n addr s).2 := by
  induction n generalizing addr s with
  | zero => exact Within.refl _ _
  | succ n ih =>
    unfold portReads
    dsimp only
    split
    · exact Within.mono (busRead_within ..) rfl
    · exact Within.step (Within.mono (busRead_within ..) rfl) (ih _ _) rfl

theorem portWrites_within (l : List Nat) (addr : Nat) (s : State) : Within 16775147 s (portWrites l addr s).2 := by
  induction l generalizing addr s with
  | nil => exact Within.refl _ _
  | cons w l ih =>
    unfold portWrites
    dsimp only
    split
    · exact Within.mono (busWrite_within ..) rfl
    · exact Within.step (Within.mono (busWrite_within ..) rfl) (ih _ _) rfl

theorem portResult_within (smbus : Bool) (bs : List Byte) (s : State) : Within 512 s (portResult smbus bs s) := by
  delta portResult
  lift_lets
  intro n0
  refine Within.hst ?_ _ rfl rfl rfl rfl rfl
  exact Within.refl _ _

theorem portErr_within (smbus : Bool) (code : Nat) (s : State) : Within 512 s (portErr smbus code s) := by
  delta portErr
  exact Within.mono (portResult_within ..) rfl

theorem portCrc_within (smbus : Bool) (s : State) : Within 9455521 s (portCrc smbus s) := by
  delta portCrc
  lift_lets
  intro n0 n1 y2
  have h3 : Within 9455521 s y2 := by
    subst y2
    refine Within.step ?_ (State.inc_within ..) rfl
    refine Within.hst ?_ _ rfl rfl rfl rfl rfl
    exact Within.refl _ _
  clear_value y2
  refine Within.step ?_ (portErr_within ..) rfl
  refine Within.ite ?_ ?_
  · refine Within.step ?_ (raise_within ..) rfl
    assumption
  · assumption

theorem portRun_within (smbus write : Bool) (addr n : Nat) (ws : List Nat) (s : State) : Within 16775163 s (portRun smbus write addr n ws s) := by
  delta portRun
  lift_lets
  intro n0 y1
  have h2 : Within 16775163 s y1 := by
    subst y1
    refine Within.hst ?_ _ rfl rfl rfl rfl rfl
    exact Within.refl _ _
  clear_value y1
  refine Within.ite ?_ ?_
  · split
    · rename_i u3 u4 u5 u6
      refine Within.step ?_ (portResult_within ..) rfl
      refine Within.ofPair u6 ?_
      refine Within.step ?_ (portWrites_within ..) rfl
      assumption
  · split
    · rename_i u7 u8 u9 u10
      refine Within.step ?_ (portResult_within ..) rfl
      refine Within.ofPair u10 ?_
      refine Within.step ?_ (portReads_within ..) rfl
      assumption

theorem portRequest_within (smbus : Bool) (bytes : List Byte) (s : State) : Within 16775163 s (portRequest smbus bytes s) := by
  delta portRequest
  refine Within.ite ?_ ?_
  · exact Within.mono (State.inc_within ..) rfl
  · refine Within.ite ?_ ?_
    · refine Within.ite ?_ ?_
      · exact Within.refl _ _
      · exact Within.mono (State.emit_within ..) rfl
    · refine Within.ite ?_ ?_
      · refine Within.ite ?_ ?_
        · exact Within.refl _ _
        · exact Within.mono (portResult_within ..) rfl
      · lift_lets
        intro n0 n1 n2 n3
        refine Within.ite ?_ ?_
        · exact Within.mono (portCrc_within ..) rfl
        · refine Within.ite ?_ ?_
          · exact Within.mono (portErr_within ..) rfl
          · refine Within.ite ?_ ?_
            · exact Within.mono (portErr_within ..) rfl
            · exact Within.mono (portRun_within ..) rfl

end Sys2Proof.Machine
end

