-- ==== Sys2Proof/Laws/WithinResets.lean ====
section
/-! SUPPORT. The footprints of the operations of `Sys2Proof/Machine/Resets.lean`. -/

namespace Sys2Proof.Machine

theorem ostlerEvent_within (e : Nat) (s : State) : Within 8388609 s (ostlerEvent e s) := by
  delta ostlerEvent
  lift_lets
  intro y0
  have h1 : Within 8388609 s y0 := by
    subst y0
    exact Within.mono (State.putBit_within ..) rfl
  clear_value y0
  refine Within.ite ?_ ?_
  · refine Within.step ?_ (State.emit_within ..) rfl
    assumption
  · assumption

theorem vinClear_within (s : State) : Within 108527615 s (vinClear s) := by
  delta vinClear
  refine ⟨rfl, fun c => ?_, List.prefix_refl _, Nat.le_refl _, fun i hi => ?_⟩
  · exact ⟨Sparse.keep_wf _ _ c.regs, rfl, rfl, rfl, rfl, rfl, c.inner.arch, c.inner.ck0, c.inner.ck1, rfl, rfl, rfl, rfl, rfl⟩
  · unfold SamePart
    split <;> first | rfl | trivial

theorem vinDown_within (s : State) : Within 133693439 s (vinDown s) := by
  delta vinDown
  lift_lets
  intro y1
  have h1 : Within 133693439 s y1 := by
    subst y1
    refine Within.ite ?_ (Within.refl _ _)
    exact Within.mono (ckptLose_within ..) rfl
  clear_value y1
  intro y2
  have h2 : Within 133693439 s y2 := Within.forAll h1 fun a y h => Within.step h (State.emit_within ..) rfl
  clear_value y2
  intro y3
  have h3 : Within 133693439 s y3 := Within.ite (Within.step h2 (ostlerEvent_within ..) rfl) h2
  clear_value y3
  exact Within.step (Within.step h3 (ostlerEvent_within ..) rfl) (vinClear_within ..) rfl

theorem vinReset_within (cause rail : Nat) (s : State) : Within 133693439 s (vinReset cause rail s) := by
  delta vinReset
  refine Within.ite ?_ ?_
  · exact Within.refl _ _
  · refine Within.step ?_ (State.inc_within ..) rfl
    refine Within.step ?_ (State.wrs_within ..) rfl
    exact Within.mono (vinDown_within ..) rfl

theorem vinRelease_within (pref : Bool) (s : State) : Within 76564385 s (vinRelease pref s) := by
  delta vinRelease
  refine Within.ite ?_ ?_
  · exact Within.refl _ _
  · lift_lets
    intro n0 y1
    have h2 : Within 76564385 s y1 := by
      subst y1
      refine Within.step ?_ (sbuShowCrc_within ..) rfl
      refine Within.step ?_ (State.wr_within ..) rfl
      refine Within.glb ?_ _ rfl (.inl rfl)
      exact Within.refl _ _
    clear_value y1
    intro y3
    have h4 : Within 76564385 s y3 := by
      subst y3
      refine Within.forAll ?_ fun a5 y6 h7 => ?_
      · assumption
      · refine Within.ite ?_ ?_
        · refine Within.step ?_ (raise_within ..) rfl
          assumption
        · assumption
    clear_value y3
    refine Within.ite ?_ ?_
    · refine Within.step ?_ (raise_within ..) rfl
      assumption
    · assumption

theorem vauxReset_within (s : State) : Within 134217727 s (vauxReset s) := by
  delta vauxReset
  dsimp only
  refine Within.ite (Within.refl _ _) ?_
  refine Within.step (Within.mono (k := 134217727) (vinDown_within s |>.mono rfl) rfl) (k := 134217727) ?_ rfl
  generalize vinDown s = y
  refine ⟨rfl, fun c => ?_, List.prefix_refl _, Nat.le_refl _, fun i hi => ?_⟩
  · exact ⟨Sparse.keep_wf _ _ c.regs, c.shadow, c.samp, c.capt, c.latch, c.cellar, c.inner.arch, c.inner.ck0, c.inner.ck1, rfl,
      rfl, rfl, rfl, c.inner.sent⟩
  · unfold SamePart
    split <;> first | rfl | trivial

theorem vauxRelease_within (ostaddr : Nat) (s : State) : Within 67108993 s (vauxRelease ostaddr s) := by
  delta vauxRelease
  refine Within.ite ?_ ?_
  · exact Within.refl _ _
  · lift_lets
    intro n0
    refine Within.step ?_ (State.wrs_within ..) rfl
    refine Within.glb ?_ _ rfl (.inl rfl)
    exact Within.refl _ _

theorem bootSupplies_within (s : State) : Within 1 s (bootSupplies s) := by
  delta bootSupplies
  exact Within.mono (State.wrs_within ..) rfl

theorem bootCellar_within (s : State) : Within 288 s (bootCellar s) := by
  delta bootCellar
  lift_lets
  intro n0
  refine (Within.cellar (?_ : Within _ _ s) _ rfl fun c => (Memory.clear_wf _ _ _ c.cellar)).fc _ rfl
  exact Within.refl _ _

theorem bootHouse_within (s : State) : Within 13756395 s (bootHouse s) := by
  delta bootHouse
  lift_lets
  intro n0 n1 y2
  have h3 : Within 13756395 s y2 := by
    subst y2
    exact Within.mono (State.wrs_within ..) rfl
  clear_value y2
  split
  · lift_lets
    intro y4
    have h5 : Within 13756395 s y4 := by
      subst y4
      refine Within.step ?_ (applyEntries_within ..) rfl
      refine Within.step ?_ (State.wrs_within ..) rfl
      assumption
    clear_value y4
    refine Within.ite ?_ ?_
    · assumption
    · refine Within.step ?_ (raise_within ..) rfl
      assumption
  · refine Within.step ?_ (raise_within ..) rfl
    refine Within.step ?_ (State.wr_within ..) rfl
    assumption

theorem lossEntry_within (s : State) : Within 4194592 s (lossEntry s) := by
  delta lossEntry
  dsimp only
  split
  · exact Within.refl _ _
  · exact (((Within.refl 4194592 s).cellar _ rfl fun c => Memory.writeBytes_wf _ _ _ c.cellar).fc _ rfl).clk _ rfl

theorem bootEnd_within (s : State) : Within 15857643 s (bootEnd s) := by
  delta bootEnd
  lift_lets
  intro y0
  have h1 : Within 15857643 s y0 := by
    subst y0
    refine Within.step ?_ (lossEntry_within ..) rfl
    exact Within.mono (bootHouse_within ..) rfl
  clear_value y0
  intro y2
  have h3 : Within 15857643 s y2 := by
    subst y2
    refine Within.ite ?_ ?_
    · refine Within.step ?_ (raise_within ..) rfl
      assumption
    · assumption
  clear_value y2
  intro y4
  have h5 : Within 15857643 s y4 := by
    subst y4
    refine Within.step ?_ (lanternJudge_within ..) rfl
    refine Within.step ?_ (enterState_within ..) rfl
    assumption
  clear_value y4
  refine Within.ite ?_ ?_
  · refine Within.step ?_ (autoLoad_within ..) rfl
    assumption
  · assumption

theorem bootStep_within (ok : Bool) (src : Nat) (s : State) : Within 15857643 s (bootStep ok src s) := by
  delta bootStep
  lift_lets
  intro n0 n1 y2
  have h3 : Within 15857643 s y2 := by
    subst y2
    refine Within.glb ?_ _ rfl (.inr ⟨rfl, rfl⟩)
    exact Within.refl _ _
  clear_value y2
  refine Within.ite ?_ ?_
  · exact Within.refl _ _
  · refine Within.ite ?_ ?_
    · split
      · refine Within.step ?_ (raise_within ..) rfl
        assumption
      · assumption
    · subst n0
      split
      · refine Within.step ?_ (setStep_within ..) rfl
        exact Within.mono (bootSupplies_within ..) rfl
      · exact Within.mono (setStep_within ..) rfl
      · refine Within.step ?_ (setStep_within ..) rfl
        exact Within.mono (bootCellar_within ..) rfl
      · exact Within.mono (setStep_within ..) rfl
      · exact Within.mono (bootEnd_within ..) rfl
      · exact Within.refl _ _

theorem rcpAbandon_within (s : State) : Within 15746977 s (rcpAbandon s) := by
  delta rcpAbandon
  split
  · exact Within.refl _ _
  · rename_i u0 u1 u2
    exact Within.mono (rcpAbort_within ..) rfl
  · rename_i u3 u4 u5 u6 u7
    exact Within.mono (rcpFinish_within ..) rfl

theorem ostlerAbandon_within (s : State) : Within 25182721 s (ostlerAbandon s) := by
  delta ostlerAbandon
  lift_lets
  intro y0
  have h1 : Within 25182721 s y0 := by
    subst y0
    refine Within.ite ?_ ?_
    · refine Within.step ?_ (State.event_within ..) rfl
      refine Within.step ?_ (State.wrs_within ..) rfl
      exact Within.mono (ckptLose_within ..) rfl
    · exact Within.refl _ _
  clear_value y0
  intro n2 y3
  have h4 : Within 25182721 s y3 := by
    subst y3
    refine Within.ite ?_ ?_
    · refine Within.step ?_ (State.event_within ..) rfl
      refine Within.step ?_ (State.wrs_within ..) rfl
      refine Within.tly ?_ _ rfl rfl rfl rfl
      assumption
    · assumption
  clear_value y3
  intro n5
  refine Within.tly ?_ _ rfl rfl rfl rfl
  assumption

theorem ostlerRestart_within (ecc : Bool) (s : State) : Within 32524193 s (ostlerRestart ecc s) := by
  delta ostlerRestart
  refine Within.ite ?_ ?_
  · exact Within.refl _ _
  · lift_lets
    intro y0
    have h1 : Within 32524193 s y0 := by
      subst y0
      refine Within.step ?_ (State.inc_within ..) rfl
      exact Within.mono (State.wr_within ..) rfl
    clear_value y0
    intro n2 y3
    have h4 : Within 32524193 s y3 := by
      subst y3
      refine Within.hst ?_ _ rfl rfl rfl rfl rfl
      assumption
    clear_value y3
    refine Within.step ?_ (raise_within ..) rfl
    refine Within.step ?_ (ostlerAbandon_within ..) rfl
    refine Within.step ?_ (rcpAbandon_within ..) rfl
    assumption

end Sys2Proof.Machine
end

