-- ==== Sys2Proof/WellFormed.lean ====
section
/-! DEFINITION. The commands that an environment can send: what the operand types leave to check is the length of a byte or word list
and, of a slot of the collector, that no source stands twice. The meanings are total and do not ask for it. -/

namespace Sys2Proof

/-- A command whose operands the hardware's environment can bring about. -/
def Instr.wf : Instr → Bool
  | .registerWrite _ _ _ => true
  | .unmapSeenClear _ => true
  | .vauxDomainRelease _ => true
  | .vinDomainReset _ _ => true
  | .vinDomainRelease _ => true
  | .bootStepDone _ _ => true
  | .link _ => true
  | .arm _ _ => true
  | .deblock _ _ => true
  | .block _ _ => true
  | .disarm _ => true
  | .recover _ _ => true
  | .shutdown _ _ _ => true
  | .opblkWrite _ => true
  | .rcpVerify _ => true
  | .rcpLoad _ _ => true
  | .loadComplete _ => true
  | .rcpCommit _ _ => true
  | .rcpStore _ _ _ => true
  | .storeComplete _ => true
  | .rcpAbort _ => true
  | .safeAck _ => true
  | .slotErase _ _ _ => true
  | .slotEraseComplete _ => true
  | .houseRead _ => true
  | .houseStore _ _ => true
  | .houseStoreComplete _ => true
  | .keyWrite _ _ _ => true
  | .keyRevoke _ _ _ => true
  | .minverSet _ _ => true
  | .stageAreaWrite _ _ _ => true
  | .commitProposalReceived _ crcs _ => decide (crcs.length = 6)
  | .cycleStartToken _ _ => true
  | .missrunLimit _ => true
  | .uplinkFrameReceived _ _ bytes _ _ => !bytes.isEmpty
  | .uplinkCutoff _ => true
  | .rankingComplete _ => true
  | .levelGenComplete _ => true
  | .refHeldLimit _ => true
  | .selectionComplete _ => true
  | .timingComplete _ _ => true
  | .engineFault _ _ => true
  | .slkclr _ => true
  | .schCntclr _ => true
  | .reverify _ => true
  | .slackVerifyDone _ => true
  | .acceptRegisterWrite _ _ _ => true
  | .coreScheduleDone _ _ => true
  | .graphRunComplete _ => true
  | .graphStall _ => true
  | .coreEccError _ _ _ _ => true
  | .pcommit _ => true
  | .greset _ => true
  | .maxclr _ => true
  | .hinWrite _ _ _ => true
  | .ocommit _ => true
  | .wcommit _ => true
  | .preset _ _ => true
  | .exclude _ _ _ => true
  | .include _ _ _ => true
  | .failbyp _ _ _ => true
  | .spareIn _ _ _ => true
  | .spareOut _ _ _ => true
  | .rerank _ => true
  | .beCntclr _ => true
  | .armSelectionLimitWrite _ _ _ _ => true
  | .fpCommit _ _ => true
  | .fpUpdatePoint _ => true
  | .fpCompareFire _ _ => true
  | .insCntclr _ => true
  | .insLimitWrite _ _ _ _ => true
  | .clAuxselWrite _ _ _ => true
  | .laneIdleExpired _ => true
  | .laneBurstSent _ => true
  | .laneRxLock _ => true
  | .laneTs2Received _ _ _ _ _ => true
  | .laneTrainTimeout _ => true
  | .laneMeasureDone _ => true
  | .laneRetryExpired _ => true
  | .laneLockLoss _ => true
  | .laneSignalLoss _ => true
  | .laneRxwaitExpired _ => true
  | .laneRetrain _ _ => true
  | .giclr _ _ => true
  | .clCntclr _ _ => true
  | .gapIdleEnter _ => true
  | .gapIdleExit _ => true
  | .gapExitLockCheck _ _ => true
  | .dmInserviceSend _ => true
  | .dmrspReceived _ _ _ _ _ _ _ => true
  | .dmrspTimeout _ => true
  | .ringSplit _ => true
  | .parcelRetryExhausted _ => true
  | .parcelBusyTimeout _ => true
  | .chainEnumerated _ => true
  | .pqSubmit _ => true
  | .pqPop _ => true
  | .pqFlush _ => true
  | .cellarEccUncorrectable _ => true
  | .scrubPassDone _ => true
  | .capestUpdate _ => true
  | .ckpt _ => true
  | .tallyCkptDone _ => true
  | .ledgerTrigger _ => true
  | .ltrig _ => true
  | .lrelease _ => true
  | .ledgerDisable _ _ => true
  | .extract _ => true
  | .extractDone _ => true
  | .tbRateWrite _ _ => true
  | .stepTime _ => true
  | .setTime _ => true
  | .slew _ => true
  | .slewstop _ => true
  | .tbCntclr _ => true
  | .push _ => true
  | .wbCancel _ => true
  | .wbFlush _ => true
  | .donepop _ => true
  | .wbOutReturn _ => true
  | .wbWindowClose _ => true
  | .ethLinkChange _ _ _ => true
  | .ethFrameReceived _ _ _ _ bytes => decide (14 ≤ bytes.length ∧ bytes.length ≤ 1522)
  | .svFrameReceived _ _ bytes => decide (14 ≤ bytes.length ∧ bytes.length ≤ 1522)
  | .svSubscriptionLost _ => true
  | .ptpSyncReceived _ _ _ _ _ _ _ _ _ => true
  | .ptpFollowUpReceived _ _ _ _ _ _ _ => true
  | .ptpAnnounceReceived _ _ _ _ _ _ _ _ _ _ _ _ => true
  | .ptpAnnounceTimeout _ _ => true
  | .pdelayReqSend _ => true
  | .pdelayReqReceived _ _ _ => true
  | .pdelayRespReceived _ _ _ _ _ => true
  | .ptprst _ => true
  | .netCntclr _ => true
  | .prpPortLost _ => true
  | .fbTrigger _ => true
  | .fbTake _ => true
  | .fbLaunch _ => true
  | .hstNtx _ _ _ => true
  | .lmuConversionDone _ _ _ => true
  | .lmuPassEnd _ => true
  | .lmuTrigger _ => true
  | .swtrg _ _ => true
  | .lmuTimerTrigger _ => true
  | .scommit _ => true
  | .cal _ => true
  | .lmuCalDone l => decide (l.length = 16)
  | .lmuRefenWrite _ _ => true
  | .lmuRefFault _ => true
  | .lmuDchStale _ => true
  | .lmuWindowClose _ => true
  | .lmuCntclr _ => true
  | .sbuTick _ _ _ _ _ => true
  | .sbuFilterChange _ _ => true
  | .sbuDiscrepancyLatch _ => true
  | .sbuReadbackFault _ _ => true
  | .sbuTestPulse _ _ => true
  | .sbuTestEnd _ _ => true
  | .sbuClear _ _ => true
  | .faultRaise srcs => !srcs.isEmpty && decide srcs.Nodup
  | .faultLiveClear _ => true
  | .collectorSelfFault _ => true
  | .clrReact _ _ => true
  | .clrFirst _ _ => true
  | .clrSticky _ => true
  | .fcSevWrite _ _ _ => true
  | .fcUnlock _ _ => true
  | .fcTestWrite _ _ => true
  | .injPulse _ _ => true
  | .injHold _ _ => true
  | .injRelease _ _ => true
  | .relayTrained _ => true
  | .relayLaneLoss _ => true
  | .relayLaneRejoin _ => true
  | .relayRetrain _ => true
  | .twnCntclr _ => true
  | .relayIdReceived _ _ _ _ _ _ crcs _ _ _ => decide (crcs.length = 6)
  | .relayCycleMark _ => true
  | .relayHbReceived _ _ _ _ _ _ _ _ => true
  | .tknoteReceived _ => true
  | .ublkReceived _ => true
  | .degReceived _ => true
  | .rehReceived _ _ _ => true
  | .imgReceived _ values => !values.isEmpty
  | .snapReceived _ _ bytes => !bytes.isEmpty
  | .carriedItemReceived _ bytes => !bytes.isEmpty
  | .forwardedBlockReceived _ _ => true
  | .partnerLedgerTrigger _ => true
  | .resync _ _ => true
  | .takeover _ _ => true
  | .rehearse _ _ => true
  | .pcieLinkChange _ _ _ => true
  | .flr _ => true
  | .pcieMemoryRequest _ kind _ count _ _ _ data => decide (data.length ≤ 1024) && (if kind = 1 then !data.isEmpty && decide (count.toNat = 0) else data.isEmpty)
  | .dmaStart _ _ _ => true
  | .dmaAbort _ _ words data => decide (words.toNat ≤ 4194304 ∧ data.length ≤ 4194304)
  | .dmaComplete _ _ words data => decide (words.toNat ≤ 4194304 ∧ data.length ≤ 4194304)
  | .hstRelease _ _ _ => true
  | .ostlerRequest smbus bytes => decide (0 < bytes.length ∧ bytes.length ≤ if smbus then 39 else 263)
  | .ostlerWatchdog _ => true
  | .ostlerRestartDone _ _ => true
  | .ostlerLoadWindow _ _ => true
  | .mdioStart _ _ => true
  | .mdioDone _ => true
  | .vinPowerWarning _ => true
  | .railOutOfWindow _ => true
  | .softwareReset _ _ _ => true
  | .clockFailure _ _ => true
  | .fallbackOscReady _ => true
  | .fallbackNotReadyTimeout _ => true
  | .fallbackTrim _ _ _ _ => true
  | .muxForcedSwitch _ => true
  | .clkGateWrite _ _ _ => true
  | .gateQuiesced _ => true
  | .gateQuiesceTimeout _ => true
  | .ungateRelease _ => true
  | .plreq _ _ _ => true
  | .plVcoreSettled _ => true
  | .junctionTempWarn _ _ => true
  | .pcieConfigRequest _ _ _ _ _ => true
  | .msixTableAccess _ _ _ _ => true
  | .pllLockRegained _ _ => true
  | .vauxDomainReset => true
  | .autoArm => true
  | .orderlyBlockTimeout => true
  | .linkTimeout => true
  | .roleWaitExpiry => true
  | .verifyComplete => true
  | .commitPrepareEnd => true
  | .commitSwitch => true
  | .safeAckExpiry => true
  | .commitConfirmReceived => true
  | .commitConfirmDeadline => true
  | .replicaOverLimit => true
  | .cycleStart => true
  | .cyclePhaseErrorLimit => true
  | .armFreeze => true
  | .graphImageReady => true
  | .paramApply => true
  | .graphInit => true
  | .orderApply => true
  | .waveformApply => true
  | .cellarPinitDone => true
  | .tallyFold => true
  | .lifeApply => true
  | .tallyLoadDone => true
  | .tallyCkptDue => true
  | .tallyCkptRetry => true
  | .tallyCkptOverdue => true
  | .ledgerStart => true
  | .ledgerArmed => true
  | .ledgerFreeze => true
  | .tbRawWrap => true
  | .slewComplete => true
  | .ppsInEdge => true
  | .ppsLoss => true
  | .ppsOutEdge => true
  | .ppsOutFall => true
  | .timeSourceLoss => true
  | .wbEntryStart => true
  | .wbRelaySkip => true
  | .ptpSyncTimeout => true
  | .prpSupervisionSend => true
  | .fastPathFault => true
  | .lmuCalAutoStart => true
  | .lmuRefReady => true
  | .sbuOscFault => true
  | .sbuXchkFault => true
  | .sbuVsafeOut => true
  | .sbuStatusReceived => true
  | .sbuStatusLost => true
  | .aliveTokenTimeout => true
  | .lanternReadbackFault => true
  | .ostlerHeartbeat => true
  | .ostlerHeartbeatLost => true
  | .lanternEdge => true
  | .lanternInEdge => true
  | .lanternInStopped => true
  | .relayAttemptTimeout => true
  | .relayPartnerDetected => true
  | .relayLinkLost => true
  | .relayHbMissed => true
  | .twinAlignChange => true
  | .tkreqReceived => true
  | .carriedItemApply => true
  | .partnerShutdownReceived => true
  | .refreshStart => true
  | .refreshApply => true
  | .resyncHold => true
  | .takeoverPoint => true
  | .orphanAdoption => true
  | .prefReturn => true
  | .rehearsalDriveStart => true
  | .rehearsalDriveEnd => true
  | .rehearsalCheck => true
  | .rehearsalAuto => true
  | .driveExerciseOverdue => true
  | .perst => true
  | .ostlerResultReady => true
  | .smbusTimeout => true
  | .regulatorFault => true
  | .ostlerClockReturn => true
  | .plCellarSwitched => true
  | .plVcoreTimeout => true

end Sys2Proof
end

