-- ==== Sys2Proof/Tests/Slice0.lean ====
section
/-! SUPPORT. Small states for tests, ill-formed commands that the check refuses, single steps with the results the specification gives,
and, for every statement with hypotheses, values that meet them. -/

open Sys2Proof Sys2Proof.Machine

set_option Elab.async false

/-- The block powered up, in device state `st`, with the fields `l`. -/
def on (st : Nat) (l : List (Fld × Nat)) : State :=
  { State.reset with glb := { State.reset.glb with vinOn := true, vauxOn := true } }.wrs ((F.GLB_STATE_STATE, st) :: l)

/-- The block without VIN; with or without VAUX. -/
def dark (vaux : Bool) : State := { State.reset with glb := { State.reset.glb with vinOn := false, vauxOn := vaux } }


/-- LOADED with the base point of P-256 in `RCP.KEYBUF` and an EMPTY key slot. -/
def goodPoint : State :=
  { on 3 [(F.RCP_KEYBUF_DATA 0, 0xF2D1176B), (F.RCP_KEYBUF_DATA 1, 0x47422CE1), (F.RCP_KEYBUF_DATA 2, 0xE5E6BCF8), (F.RCP_KEYBUF_DATA 3, 0xF240A463),
    (F.RCP_KEYBUF_DATA 4, 0x817D0377), (F.RCP_KEYBUF_DATA 5, 0xA033EB2D), (F.RCP_KEYBUF_DATA 6, 0x4539A1F4), (F.RCP_KEYBUF_DATA 7, 0x96C298D8),
    (F.RCP_KEYBUF_DATA 8, 0xE242E34F), (F.RCP_KEYBUF_DATA 9, 0x9B7F1AFE), (F.RCP_KEYBUF_DATA 10, 0x4AEBE78E), (F.RCP_KEYBUF_DATA 11, 0x169E0F7C),
    (F.RCP_KEYBUF_DATA 12, 0x5733CE2B), (F.RCP_KEYBUF_DATA 13, 0xCE5E316B), (F.RCP_KEYBUF_DATA 14, 0x6840B6CB), (F.RCP_KEYBUF_DATA 15, 0xF551BF37)] with rcp := { State.reset.rcp with keys := [{}] } }

/-- LINKED with a Recipe of no arm and, in the stage area, a verified image with DELTA set whose one section is an empty PARM. -/
def goodImage : State :=
  let s := on 4 [(F.RCP_STS_STAGE_OK, 1), (F.SCH_CFG_ARMCYC, 100000), (F.SCH_CFG_M, 1)]
  let b : List Byte := [0, 0, 0, 0, 2, 0, 1, 0] ++ List.replicate 28 0 ++ [0xF5, 0xA5, 0xFD, 0x42, 0xA0, 0x86, 0x01, 0, 1] ++ List.replicate 51 0 ++ [5]
  { s with
    cellar := s.cellar.writeBytes 0x1A0000000 b
    rcp := { s.rcp with secs := [(4, [1, 0, 1, 0] ++ List.replicate 10 0 ++ [1, 0]), (5, [])], keys := [⟨1, some (List.replicate 64 0)⟩] } }

/-- The stores are in canonical form right after reset: none lists anything. -/
theorem reset_canonical : StoresCanonical State.reset :=
  ⟨by decide, by decide, by decide, by decide, by decide, by decide, ⟨by decide, by decide, by decide, by decide, by decide, by decide, by decide, by decide⟩⟩

/-! ### Ill-formed commands, one for each check of `Instr.wf` -/

theorem smoke_proposal_five_crcs : (Instr.commitProposalReceived 0 [0, 0, 0, 0, 0] 0).wf = false := by decide
theorem smoke_uplink_without_bytes : (Instr.uplinkFrameReceived 0 0 [] 0 0).wf = false := by decide
theorem smoke_eth_runt : (Instr.ethFrameReceived 0 true 0 0 [0, 0]).wf = false := by decide
theorem smoke_sv_runt : (Instr.svFrameReceived 0 0 [0, 0]).wf = false := by decide
theorem smoke_cal_fifteen : (Instr.lmuCalDone (List.replicate 15 0)).wf = false := by decide
theorem smoke_raise_none : (Instr.faultRaise []).wf = false := by decide
theorem smoke_raise_twice : (Instr.faultRaise [3, 3]).wf = false := by decide
theorem smoke_id_five_crcs : (Instr.relayIdReceived 0 false 0 0 0 0 [0, 0, 0, 0, 0] 0 0 false).wf = false := by decide
theorem smoke_image_empty : (Instr.imgReceived 0 []).wf = false := by decide
theorem smoke_snapshot_empty : (Instr.snapReceived true true []).wf = false := by decide
theorem smoke_item_empty : (Instr.carriedItemReceived true []).wf = false := by decide
theorem smoke_write_without_data : (Instr.pcieMemoryRequest 0 1 0 0 0 0 false []).wf = false := by decide
theorem smoke_read_with_data : (Instr.pcieMemoryRequest 0 0 0 1 0 0 false [5]).wf = false := by decide
theorem smoke_abort_past_the_end : (Instr.dmaAbort .pf0 0 0x400001 []).wf = false := by decide
theorem smoke_complete_past_the_end : (Instr.dmaComplete 0 false 0x400001 []).wf = false := by decide
theorem smoke_spi_nothing : (Instr.ostlerRequest false []).wf = false := by decide
theorem smoke_smbus_forty : (Instr.ostlerRequest true (List.replicate 40 0)).wf = false := by decide
theorem smoke_well_formed : (Instr.faultRaise [3, 4]).wf = true := by decide

/-! ### Single steps, with results that the specification gives -/

/-- The next state of an outcome. -/
def nextOf : Host.Outcome State Fault Refusal → State
  | .next t => t
  | _ => State.reset

/-- R55: the check value of CRC-32C. -/
theorem test_crc32c : crc32c [0x31, 0x32, 0x33, 0x34, 0x35, 0x36, 0x37, 0x38, 0x39] = 0xE3069283 := by decide +kernel
/-- R318: 16, 32 and 64 cells at 10,000 ns; 32 at S3 and 5,000 ns. -/
theorem test_chain_limits : [chainMax 1 10000, chainMax 2 10000, chainMax 3 10000, chainMax 3 5000] = [16, 32, 64, 32] := by decide
/-- R13, R353: a tick is 2 ns. -/
theorem test_tick : (nextOf (step (on 6 []))).tb.raw = 131072 := by decide +kernel
/-- R37: ARM outside LINKED has hold code 0x01. -/
theorem test_arm_in_loaded : (nextOf (exec (.arm .pf0 0xA5C3) (on 3 []))).rd F.GLB_CMDSTS_HOLD = 1 := by decide +kernel
/-- R37: ARM without its key has hold code 0x02. -/
theorem test_arm_without_key : (nextOf (exec (.arm .pf0 0) (on 4 []))).rd F.GLB_CMDSTS_HOLD = 2 := by decide +kernel
/-- R39: DEBLOCK in WAIT has hold code 0x06. -/
theorem test_deblock_in_wait : (nextOf (exec (.deblock .pf0 0xA5C3) (on 7 []))).rd F.GLB_CMDSTS_HOLD = 6 := by decide +kernel
/-- R22: an urgent BLOCK in RUN leads to BLOCKED. -/
theorem test_block_in_run : (nextOf (exec (.block .pf0 0) (on 6 [(F.GLB_ROLE_ROLE, 0)]))).st = stBLOCKED := by decide +kernel
/-- R46: DISARM leads to LINKED. -/
theorem test_disarm : (nextOf (exec (.disarm .pf0) (on 5 []))).st = stLINKED := by decide +kernel
/-- R22, R553: a reset of the VIN domain leads to BOOT. -/
theorem test_vin_reset : (nextOf (exec (.vinDomainReset 2 0) (on 6 []))).st = stBOOT := by decide +kernel
/-- R86: the complement of 0x3C91_7E04 acknowledges it. -/
theorem test_safe_ack : (nextOf (exec (.safeAck .pf0)
    (on 3 [(F.RCP_STS_SAFE_STATE, 1), (secCrcFld 6, 0x3C917E04), (F.RCP_SAFEACK_CODE, 0xC36E81FB)]))).sbu.ack = true := by decide +kernel
/-- R85: a wrong code counts in ACK_FAIL. -/
theorem test_safe_ack_wrong : (nextOf (exec (.safeAck .pf0) (on 3 [(F.RCP_STS_SAFE_STATE, 1)]))).rd F.RCP_STS_ACK_FAIL = 1 := by decide +kernel
/-- R71: a command while another runs has code 0x14. -/
theorem test_rcp_busy : (nextOf (exec (.rcpVerify .pf0) { on 3 [] with rcp := { State.reset.rcp with job := some (3, 0) } })).rd
    F.RCP_RESULT_CODE = 0x14 := by decide +kernel
/-- R66: a write into the stage area clears STAGE_OK. -/
theorem test_stage_write : (nextOf (exec (.stageAreaWrite .pf0 0 5) (on 3 [(F.RCP_STS_STAGE_OK, 1)]))).flag F.RCP_STS_STAGE_OK = false := by
  decide +kernel
/-- R456: a raise sets the sticky bit of its source. -/
theorem test_raise : (nextOf (exec (.faultRaise [33]) (on 6 []))).rdBit (F.FC_STICKY_S 1) 1 = true := by decide +kernel
/-- R356: STEP adds ADJ to TB.NOW. -/
theorem test_step_time : (nextOf (exec (.stepTime .pf0) (on 6 [(F.TB_SRC_SRC, 0), (F.TB_ADJ_LO_T, 1000)]))).now = 1000 := by decide +kernel
/-- R450: CLEAR with a wrong key has result 3. -/
theorem test_sbu_clear : (nextOf (exec (.sbuClear .pf0 0) (on 6 []))).rd F.SBU_CMDSTS_RESULT = 3 := by decide +kernel
/-- R505: TAKEOVER with a wrong key has result 3. -/
theorem test_takeover : (nextOf (exec (.takeover .pf0 0) (on 6 []))).rd F.TWN_CMDSTS_RESULT = 3 := by decide +kernel
/-- R483: a missed heartbeat counts. -/
theorem test_heartbeat : (nextOf (exec .relayHbMissed (on 6 [(F.TWN_STS_LSTATE, 3)]))).rd F.TWN_ERR_HBMISS = 1 := by decide +kernel
/-- R146: PCOMMIT while one is pending sets REFUSED. -/
theorem test_pcommit : (nextOf (exec (.pcommit .pf0) (on 6 [(F.CG_PSTS_PENDING, 1)]))).flag F.CG_PSTS_REFUSED = true := by decide +kernel
/-- R533: a write of a frozen master is dropped. -/
theorem test_frozen : (nextOf (exec (.hinWrite .pf0 0 7) (on 6 [(F.HST_FRZ_FROZEN, 1)]))).rd (F.CG_HIN_VAL 0) = 0 := by decide +kernel
/-- R411: CAL in RUN is refused with CALREF. -/
theorem test_cal_in_run : (nextOf (exec (.cal .pf0) (on 6 []))).flag F.LMU_STS_CALREF = true := by decide +kernel
/-- No row of the table has bits. -/
theorem test_no_word : decodeTableWord 32 0 = none := by decide

/-! ### Values that meet the hypotheses of the statements -/

/-- Values that meet the hypotheses of StepRunsTheFrontCommand, clause by clause. -/
theorem witness_StepRunsTheFrontCommand :
    (∃ (c : Instr) (l : List Instr) (s : State), s.pending = c :: l) ∧
    (∃ (s : State), s.pending = [] ∧ s.clocked = true) ∧
    (∃ (s : State), s.pending = [] ∧ s.clocked = false) :=
  ⟨⟨.cycleStart, [], { State.reset with pending := [.cycleStart] }, by decide⟩,
   ⟨on 6 [], by decide⟩,
   ⟨dark true, by decide⟩⟩

/-- Values that meet the hypotheses of StepKeepsCanonical. -/
theorem witness_StepKeepsCanonical :
    (∃ (s : State) (t : State), StoresCanonical s ∧ step s = .next t) :=
  ⟨State.reset, _, reset_canonical, rfl⟩

/-- Values that meet the hypotheses of CommandsKeepToTheirFootprint, clause by clause. -/
theorem witness_CommandsKeepToTheirFootprint :
    (∃ (c : Instr) (s : State) (t : State), exec c s = .next t) ∧
    (∃ (c : Instr) (s : State) (t : State), exec c s = .next t ∧ (∀ x r, c ≠ .vinDomainReset x r) ∧ c ≠ .vauxDomainReset ∧
      c ≠ .tbRawWrap) ∧
    (∃ (c : Instr) (s : State) (t : State), exec c s = .next t ∧ (∀ x r, c ≠ .vinDomainReset x r) ∧ (∀ p, c ≠ .vinDomainRelease p) ∧
      (∀ a, c ≠ .vauxDomainRelease a) ∧ c ≠ .vauxDomainReset) :=
  ⟨⟨.lmuRefReady, on 6 [], _, rfl⟩,
   ⟨.lmuRefReady, on 6 [], _, rfl, nofun, nofun, nofun⟩,
   ⟨.lmuRefReady, on 6 [], _, rfl, nofun, nofun, nofun, nofun⟩⟩

/-- Values that meet the hypotheses of PathsCloseOnlyAtASafetyTick. -/
theorem witness_PathsCloseOnlyAtASafetyTick :
    (∃ (c : Instr) (k : Nat) (s : State) (t : State), exec c s = .next t ∧ (∀ si ea eb v rb, c ≠ .sbuTick si ea eb v rb) ∧
      (t.path k).on = true) :=
  ⟨.lmuRefReady, 0, { on 6 [] with sbu := { (on 6 []).sbu with paths := [{ on := true }] } }, _, rfl, nofun, by decide⟩

/-- Values that meet the hypotheses of RollbackFloorNeverLowered, clause by clause. -/
theorem witness_RollbackFloorNeverLowered :
    (∃ (s : State) (t : State), step s = .next t) ∧
    (∃ (m : Master) (s : State), s.grants m .p 0x10000 = true ∧ s.rcp.job = none ∧ s.rcp.minver ≤ s.rd F.RCP_ACT_VER_VALUE) ∧
    (∃ (m : Master) (s : State), s.grants m .p 0x10000 = true ∧ s.rcp.job = none ∧ s.rd F.RCP_ACT_VER_VALUE < s.rcp.minver) ∧
    (∃ (b : List Byte) (s : State), (readRecipe (b.take (imageLen b))).version < s.rcp.minver) :=
  ⟨⟨on 6 [], _, rfl⟩,
   ⟨.pf0, on 4 [], by decide +kernel⟩,
   ⟨.pf0, { on 4 [] with rcp := { (on 4 []).rcp with minver := 1 } }, by decide +kernel⟩,
   ⟨[], { on 4 [] with rcp := { (on 4 []).rcp with minver := 1 } }, by decide +kernel⟩⟩

/-- Values that meet the hypotheses of ArmConditions, clause by clause. -/
theorem witness_ArmConditions :
    (∃ (m : Master) (s : State), s.grants m .p 0xC = true ∧ s.busy = false) ∧
    (∃ (s : State), s.flag F.GLB_AUTO_AUTO_ARM = true ∧ s.st = stLINKED ∧ s.armHold true = 0) ∧
    (∃ (s : State), (s.flag F.GLB_AUTO_AUTO_ARM = false ∨ s.st ≠ stLINKED ∨ s.armHold true ≠ 0)) :=
  ⟨⟨.pf0, on 4 [], by decide⟩,
   ⟨on 4 [(F.GLB_AUTO_AUTO_ARM, 1), (F.GLB_ROLE_ROLE, 0), (F.SCH_SLKVER_PASS, 1), (F.SBU_STS_PROOF, 1), (F.SBU_STS_ALLCLOSED, 1), (F.SBU_STS_CFG, 1), (F.LMU_STS_CALDONE, 1)], by decide⟩,
   ⟨on 4 [], by decide⟩⟩

/-- Values that meet the hypotheses of DeblockConditions, clause by clause. -/
theorem witness_DeblockConditions :
    (∃ (m : Master) (s : State), s.grants m .p 0xC = true ∧ s.busy = false ∧ s.flag F.TWN_STS_REH = false) ∧
    (∃ (c : Instr) (s : State) (t : State), exec c s = .next t ∧ s.glb.deblockPend = false ∧ carriesWrites c = false) :=
  ⟨⟨.pf0, on 5 [], by decide⟩,
   ⟨.lmuRefReady, on 6 [], _, rfl, by decide, rfl⟩⟩

/-- Values that meet the hypotheses of CollectorRecordSurvivesAVinReset, clause by clause. -/
theorem witness_CollectorRecordSurvivesAVinReset :
    (∃ (c : Fin 4) (r : Fin 11) (s : State) (t : State), exec (.vinDomainReset c r) s = .next t) ∧
    (∃ (c : Fin 4) (r : Fin 11) (s : State) (t : State), s.glb.vinOn = true ∧ c.val ≠ 3 ∧ exec (.vinDomainReset c r) s = .next t) ∧
    (∃ (a : BitVec 2) (s : State) (t : State) (u : State), s.glb.vauxOn = true ∧ exec .vauxDomainReset s = .next t ∧
      exec (.vauxDomainRelease a) t = .next u) :=
  ⟨⟨0, 0, on 6 [], _, rfl⟩,
   ⟨0, 0, on 6 [], _, by decide, by decide, rfl⟩,
   ⟨0, on 6 [], _, _, by decide, rfl, rfl⟩⟩

/-- Values that meet the hypotheses of RegisterWritesAtTheArbiter, clause by clause. -/
theorem witness_RegisterWritesAtTheArbiter :
    (∃ (m : Master) (s : State), s.frozen m.owner = true) ∧
    (∃ (m : Master) (a : Nat) (s : State), s.reach m a = false) ∧
    (∃ (m : Master) (a : Nat) (u : Nat) (s : State), s.frozen m.owner = false ∧ s.reach m a = true ∧ s.gatedAt a = some u) ∧
    (∃ (m : Master) (v : View) (a : Nat) (s : State), s.frozen m.owner = false ∧ s.reach m a = true ∧ s.gatedAt a = none ∧
      m.owner = 1 ∧ v ≠ .u) ∧
    (∃ (m : Master) (a : Nat) (s : State), s.frozen m.owner = false ∧ s.reach m a = true ∧ s.gatedAt a = none ∧ m.owner = 1 ∧
      s.flag F.HST_PF1CFG_RO = true) ∧
    (∃ (m : Master) (v : View) (a : Nat) (s : State), s.grants m v a = true) ∧
    (∃ (m : Master) (s : State), s.frozen m.owner = false) ∧
    (∃ (m : Master) (s : State), s.frozen m.owner = true) :=
  ⟨⟨.pf1, State.reset.wr F.HST_FRZ_FROZEN 2, by decide⟩,
   ⟨.pf1, 0, State.reset, by decide⟩,
   ⟨.pf0, 0x180400, 1, on 3 [(F.CLK_GSTS0_LG, 2)], by decide⟩,
   ⟨.pf1, .p, 0xC, on 3 [], by decide⟩,
   ⟨.pf1, 0x20020, on 3 [(F.HST_PF1CFG_RO, 1)], by decide⟩,
   ⟨.pf0, .p, 0xC, on 3 [], by decide⟩,
   ⟨.pf1, on 3 [], by decide⟩,
   ⟨.pf1, on 3 [(F.HST_FRZ_FROZEN, 2)], by decide⟩⟩

/-- Values that meet the hypotheses of EventReachesEveryBank, clause by clause. -/
theorem witness_EventReachesEveryBank :
    (∃ (b : Nat) (e : Nat), b < 3 ∧ e < 32) ∧
    (∃ (b : Nat) (e : Nat) (i : Nat), b < 3 ∧ i ≠ e) ∧
    (∃ (f : Fld), (∀ b, b < 3 → f.key ≠ (F.HST_EVSTS_EV.inBank b).key)) :=
  ⟨⟨2, 18, by decide⟩,
   ⟨0, 18, 0, by decide⟩,
   ⟨F.GLB_STATE_STATE, by decide⟩⟩

/-- Values that meet the hypotheses of StateCommands, clause by clause. -/
theorem witness_StateCommands :
    (∃ (h : Nat), h ≠ 0) ∧
    (∃ (s : State), s.running = true) ∧
    (∃ (s : State), s.running = false) ∧
    (∃ (n : Nat), n ≠ stSAFE) ∧
    (∃ (m : Master) (s : State), s.grants m .p 0xC = true ∧ s.linkHold = 0) ∧
    (∃ (s : State), s.running = true ∧ s.rd F.GLB_STATE_STEP ≠ 0xF0) ∧
    (∃ (m : Master) (key : BitVec 16) (s : State), s.grants m .p 0xC = true ∧ s.armHold (decide (key.toNat = cmdKey)) = 0) ∧
    (∃ (m : Master) (key : BitVec 16) (s : State), s.grants m .p 0xC = true ∧ s.deblockHold key.toNat = 0) ∧
    (∃ (m : Master) (s : State), s.grants m .p 0xC = true ∧ s.blockHold = 0) ∧
    (∃ (arg : Byte) (s : State), s.role ≠ roSTANDBY ∧ arg.toNat.testBit 0 = false) ∧
    (∃ (m : Master) (s : State), s.grants m .p 0xC = true ∧ (s.eff = stARMED ∨ s.eff = stBLOCKED)) ∧
    (∃ (m : Master) (key : BitVec 16) (s : State), s.grants m .p 0xC = true ∧ s.recoverHold key.toNat = 0) ∧
    (∃ (m : Master) (key : BitVec 16) (s : State), s.grants m .p 0xC = true ∧ s.shutHold key.toNat = 0) ∧
    (∃ (m : Master) (s : State), s.grants m .u 0x14 = true ∧ s.blockable = true ∧ s.role ≠ roWAIT ∧ s.role ≠ roSTANDBY) ∧
    (∃ (m : Master) (s : State), s.grants m .p 0xC = true ∧ s.busy = true) ∧
    (∃ (m : Master) (s : State), s.grants m .p 0xC = true ∧ s.busy = false ∧ s.eff ≠ stLINKED) ∧
    (∃ (m : Master) (key : BitVec 16) (s : State), s.grants m .p 0xC = true ∧ s.busy = false ∧ s.flag F.TWN_STS_REH = false ∧
      (s.eff = stARMED ∨ s.eff = stBLOCKED) ∧ key.toNat ≠ cmdKey) ∧
    (∃ (m : Master) (s : State), s.grants m .p 0xC = true ∧ s.blockable = false) ∧
    (∃ (m : Master) (s : State), s.grants m .p 0xC = true ∧ s.eff ≠ stARMED ∧ s.eff ≠ stBLOCKED) ∧
    (∃ (m : Master) (s : State), s.grants m .p 0xC = true ∧ s.busy = false ∧ s.flag F.TWN_STS_REH = false ∧ s.eff = stSAFE ∧
      s.flag F.FC_STS_SELF = true) :=
  ⟨⟨6, by decide⟩,
   ⟨on 4 [(F.SCH_CFG_RUNNING, 1)], by decide⟩,
   ⟨on 4 [], by decide⟩,
   ⟨5, by decide⟩,
   ⟨.pf0, on 3 [(F.GLB_STATE_STEP, 0xF0)], by decide⟩,
   ⟨on 3 [(F.GLB_STATE_STEP, 0x21), (F.SCH_CFG_RUNNING, 1)], by decide⟩,
   ⟨.pf0, 0xA5C3, on 4 [(F.GLB_ROLE_ROLE, 0), (F.SCH_SLKVER_PASS, 1), (F.SBU_STS_PROOF, 1), (F.SBU_STS_ALLCLOSED, 1), (F.SBU_STS_CFG, 1), (F.LMU_STS_CALDONE, 1)], by decide⟩,
   ⟨.pf0, 0xA5C3, on 5 [(F.GLB_ROLE_ROLE, 0), (F.SBU_STS_SO0, 1), (F.SBU_STS_SO1, 1)], by decide⟩,
   ⟨.pf0, on 6 [(F.GLB_ROLE_ROLE, 0)], by decide⟩,
   ⟨2, on 6 [], by decide⟩,
   ⟨.pf0, on 7 [], by decide⟩,
   ⟨.pf0, 0xA5C3, on 8 [], by decide⟩,
   ⟨.pf0, 0xA5C3, on 6 [], by decide⟩,
   ⟨.pf1, on 6 [(F.GLB_ROLE_ROLE, 0)], by decide⟩,
   ⟨.pf0, on 3 [(F.GLB_STATE_LINK_BUSY, 1)], by decide⟩,
   ⟨.pf0, on 3 [], by decide⟩,
   ⟨.pf0, 0, on 7 [], by decide⟩,
   ⟨.pf0, on 2 [], by decide⟩,
   ⟨.pf0, on 6 [], by decide⟩,
   ⟨.pf0, on 8 [(F.FC_STS_SELF, 1)], by decide⟩⟩

/-- Values that meet the hypotheses of DomainResets, clause by clause. -/
theorem witness_DomainResets :
    (∃ (c : Fin 4) (s : State), s.glb.vinOn = true ∧ c.val ≠ 3) ∧
    (∃ (s : State), s.glb.vinOn = true ∧ s.clk.swReset = true) ∧
    (∃ (s : State), s.glb.vinOn = false) ∧
    (∃ (s : State), s.glb.vauxOn = true) ∧
    (∃ (s : State), s.glb.vauxOn = false) ∧
    (∃ (s : State), s.glb.vinOn = false ∧ s.glb.vauxOn = true) :=
  ⟨⟨1, on 6 [], by decide⟩,
   ⟨{ on 6 [] with clk := { (on 6 []).clk with swReset := true } }, by decide⟩,
   ⟨dark true, by decide⟩,
   ⟨on 6 [], by decide⟩,
   ⟨dark false, by decide⟩,
   ⟨dark true, by decide⟩⟩

/-- Values that meet the hypotheses of BootAndOstlerRestart, clause by clause. -/
theorem witness_BootAndOstlerRestart :
    (∃ (s : State), s.glb.vinOn = true ∧ s.st = stBOOT ∧ s.glb.bootFailed = false ∧ s.rd F.GLB_STATE_STEP = 1) ∧
    (∃ (s : State), s.glb.vinOn = true ∧ s.st = stBOOT ∧ s.glb.bootFailed = false ∧ s.rd F.GLB_STATE_STEP = 2) ∧
    (∃ (s : State), s.glb.vinOn = true ∧ s.st = stBOOT ∧ s.glb.bootFailed = false ∧ s.rd F.GLB_STATE_STEP = 3) ∧
    (∃ (s : State), s.glb.vinOn = true ∧ s.st = stBOOT ∧ s.glb.bootFailed = false ∧ s.rd F.GLB_STATE_STEP = 4) ∧
    (∃ (s : State), s.glb.vinOn = true ∧ s.st = stBOOT ∧ s.glb.bootFailed = false ∧ s.rd F.GLB_STATE_STEP = 5) ∧
    (∃ (s : State), s.glb.vinOn = true ∧ s.st = stBOOT ∧ s.glb.bootFailed = false ∧ s.rd F.GLB_STATE_STEP = 2) ∧
    (∃ (s : State), s.glb.vauxOn = true ∧ s.flag F.HST_STS_OSTRDY = true) :=
  ⟨⟨on 1 [], by decide⟩,
   ⟨on 1 [(F.GLB_STATE_STEP, 2)], by decide⟩,
   ⟨on 1 [(F.GLB_STATE_STEP, 3)], by decide⟩,
   ⟨on 1 [(F.GLB_STATE_STEP, 4)], by decide⟩,
   ⟨on 1 [(F.GLB_STATE_STEP, 5)], by decide⟩,
   ⟨on 1 [(F.GLB_STATE_STEP, 2)], by decide⟩,
   ⟨on 6 [(F.HST_STS_OSTRDY, 1)], by decide⟩⟩

/-- Values that meet the hypotheses of StartUpAndStateEvents, clause by clause. -/
theorem witness_StartUpAndStateEvents :
    (∃ (s : State), s.flag F.SCH_SLKVER_BUSY = true) ∧
    (∃ (s : State), s.flag F.SCH_SLKVER_BUSY = false) ∧
    (∃ (l : Fin 128) (h : Nat) (s : State), (s.ln l).ehop = some h ∧ s.flag (F.CL_ENUM_BUSY l) = true ∧ s.liveHops l ≤ h) ∧
    (∃ (s : State), s.linking = true) ∧
    (∃ (s : State), s.linking = false ∧ s.glb.relink = true ∧ s.eff = stLOADED ∧ s.running = true) ∧
    (∃ (s : State), s.rd F.TWN_STS_LSTATE = 1) ∧
    (∃ (s : State), s.rd F.TWN_STS_LSTATE = 1 ∧ s.twn.limit = true ∧ s.twn.attempts < 3) ∧
    (∃ (s : State), s.rd F.TWN_STS_LSTATE = 1 ∧ s.twn.limit = true ∧ 3 ≤ s.twn.attempts) ∧
    (∃ (s : State), s.glb.roleTimer = true ∧ s.role = roWAIT) ∧
    (∃ (s : State), s.flag F.GLB_AUTO_AUTO_ARM = true ∧ s.st = stLINKED ∧ s.armHold true = 0) ∧
    (∃ (s : State), s.glb.orderly = true) ∧
    (∃ (s : State), s.role = roACTIVE ∧ s.relayUp = true) ∧
    (∃ (s : State), s.role = roACTIVE ∧ s.relayUp = true ∧ s.blockable = true) ∧
    (∃ (s : State), s.relayUp = true ∧ s.glb.shutStep = 0 ∧ (s.blockable || decide (s.eff = stSAFE)) = true) ∧
    (∃ (ok : Bool) (s : State), (ckptDone ok s).running = true) ∧
    (∃ (cyc : Nat) (now : Nat) (s : State), s.tly.ckAt = some (cyc, now)) ∧
    (∃ (s : State), s.flag F.LMU_STS_CALBUSY = true) :=
  ⟨⟨on 4 [(F.SCH_SLKVER_BUSY, 1)], by decide⟩,
   ⟨State.reset, by decide⟩,
   ⟨0, 0, (on 3 [(F.CL_ENUM_BUSY 0, 1)]).setLn 0 fun x => { x with ehop := some 0 }, by decide⟩,
   ⟨on 3 [(F.GLB_STATE_LINK_BUSY, 1)], by decide⟩,
   ⟨{ on 3 [(F.SCH_CFG_RUNNING, 1)] with glb := { (on 3 []).glb with relink := true } }, by decide⟩,
   ⟨on 3 [(F.TWN_STS_LSTATE, 1)], by decide⟩,
   ⟨{ on 3 [(F.TWN_STS_LSTATE, 1)] with twn := { (on 3 []).twn with limit := true, attempts := 2 } }, by decide⟩,
   ⟨{ on 3 [(F.TWN_STS_LSTATE, 1)] with twn := { (on 3 []).twn with limit := true, attempts := 3 } }, by decide⟩,
   ⟨{ on 4 [] with glb := { (on 4 []).glb with roleTimer := true } }, by decide⟩,
   ⟨on 4 [(F.GLB_AUTO_AUTO_ARM, 1), (F.GLB_ROLE_ROLE, 0), (F.SCH_SLKVER_PASS, 1), (F.SBU_STS_PROOF, 1), (F.SBU_STS_ALLCLOSED, 1), (F.SBU_STS_CFG, 1), (F.LMU_STS_CALDONE, 1)], by decide⟩,
   ⟨{ on 6 [] with glb := { (on 6 []).glb with orderly := true } }, by decide⟩,
   ⟨on 6 [(F.GLB_ROLE_ROLE, 2), (F.TWN_STS_LSTATE, 3)], by decide⟩,
   ⟨on 6 [(F.GLB_ROLE_ROLE, 2), (F.TWN_STS_LSTATE, 3)], by decide⟩,
   ⟨on 6 [(F.TWN_STS_LSTATE, 3)], by decide⟩,
   ⟨true, on 6 [(F.SCH_CFG_RUNNING, 1)], by decide⟩,
   ⟨0, 0, { on 6 [] with tly := { (on 6 []).tly with ckAt := some (0, 0) } }, by decide⟩,
   ⟨on 3 [(F.LMU_STS_CALBUSY, 1)], by decide⟩⟩

/-- Values that meet the hypotheses of RaisesAndReactions, clause by clause. -/
theorem witness_RaisesAndReactions :
    (∃ (fs : Nat), reservedSource fs = true) ∧
    (∃ (s : State), s.glb.vinOn = false) ∧
    (∃ (fs : Nat) (s : State), atOnce fs = false ∧ s.fc.cond.contains fs = true) ∧
    (∃ (fs : Nat) (s : State), reservedSource fs = false ∧ s.glb.vinOn = true ∧ atOnce fs = true) ∧
    (∃ (fs : Nat) (s : State), reservedSource fs = false ∧ s.glb.vinOn = true ∧ atOnce fs = false ∧ s.fc.cond.contains fs = false) ∧
    (∃ (fs : Nat) (s : State), s.fc.cond.contains fs = true) ∧
    (∃ (lo : Nat) (s : State), s.eff = stBOOT ∧ 1 ≤ lo) ∧
    (∃ (lo : Nat) (s : State), s.eff = stSAFE ∧ 1 ≤ lo) ∧
    (∃ (s : State), s.role = roSOLO) :=
  ⟨⟨30, by decide⟩,
   ⟨dark true, by decide⟩,
   ⟨5, { on 6 [] with fc := { (on 6 []).fc with cond := [5] } }, by decide⟩,
   ⟨274, on 6 [], by decide⟩,
   ⟨5, on 6 [], by decide⟩,
   ⟨5, { on 6 [] with fc := { (on 6 []).fc with cond := [5] } }, by decide⟩,
   ⟨1, on 1 [], by decide⟩,
   ⟨1, on 8 [], by decide⟩,
   ⟨on 6 [(F.GLB_ROLE_ROLE, 0)], by decide⟩⟩

/-- Values that meet the hypotheses of CollectorReports, clause by clause. -/
theorem witness_CollectorReports :
    (∃ (l : List (BitVec 9)) (s : State), s.slotOf (l.map (·.toNat)) = []) ∧
    (∃ (f : BitVec 9) (s : State), s.slotOf [f.toNat] = [f.toNat] ∧ f.toNat ≠ 454 ∧ f.toNat ≠ 438 ∧ f.toNat ≠ 1 ∧
      atOnce f.toNat = false) ∧
    (∃ (f : BitVec 9), (f.toNat = 448 ∨ f.toNat = 449)) ∧
    (∃ (f : BitVec 9), 6 ≤ f.toNat ∧ f.toNat ≠ 448 ∧ f.toNat ≠ 449 ∧ f.toNat ≠ 451 ∧ f.toNat ≠ 454) ∧
    (∃ (e : Bool) (s : State), s.fc.cond.contains (if e then 449 else 448) = true) ∧
    (∃ (e : Bool) (s : State), s.fc.cond.contains (if e then 449 else 448) = false) ∧
    (∃ (s : State), s.flag F.FC_LANTERN_RUN = true ∧ s.rawNs % 500000 = 0 ∧ s.fc.cond.contains 451 = false) ∧
    (∃ (t : Nat) (s : State), s.fc.linPrev = some t ∧ s.sinceNs t < 450000) ∧
    (∃ (t : Nat) (s : State), s.flag F.FC_LIN_STOPPED = false ∧ s.fc.linPrev = some t ∧ 1500000 ≤ s.sinceNs t ∧ s.role ≠ roSTANDBY) :=
  ⟨⟨[30, 511], on 6 [], by decide +kernel⟩,
   ⟨5, on 6 [], by decide +kernel⟩,
   ⟨448, by decide⟩,
   ⟨6, by decide⟩,
   ⟨true, { on 6 [] with fc := { (on 6 []).fc with cond := [449] } }, by decide⟩,
   ⟨false, on 6 [], by decide⟩,
   ⟨on 6 [(F.FC_LANTERN_RUN, 1)], by decide⟩,
   ⟨0, { on 6 [] with fc := { (on 6 []).fc with linPrev := some 0 } }, by decide⟩,
   ⟨281474975210656, { on 6 [(F.GLB_ROLE_ROLE, 0), (F.FC_LIN_STOPPED, 0)] with fc := { (on 6 []).fc with linPrev := some 281474975210656 } }, by decide⟩⟩

/-- Values that meet the hypotheses of CollectorCommands, clause by clause. -/
theorem witness_CollectorCommands :
    (∃ (m : Master) (k : BitVec 16) (s : State), s.grants m .p 0x3B0004 = true ∧ s.glb.vinOn = true ∧ s.st ≠ stBOOT ∧
      k.toNat = cmdKey) ∧
    (∃ (m : Master) (k : BitVec 16) (s : State), s.grants m .p 0x3B0004 = true ∧ s.glb.vinOn = true ∧ s.st ≠ stBOOT ∧
      k.toNat ≠ cmdKey) ∧
    (∃ (s : State), s.flag F.FC_STS_DEG = false ∧ s.flag F.FC_STS_HOV = false ∧ s.flag F.FC_STS_BLK = true ∧
      s.flag F.FC_STS_TRIP = false ∧ s.liveAt 4 = false) ∧
    (∃ (m : Master) (k : BitVec 16) (s : State), s.grants m .p 0x3B0004 = true ∧ k.toNat = cmdKey) ∧
    (∃ (m : Master) (s : State), s.grants m .p 0x3B0004 = true) ∧
    (∃ (m : Master) (w : Fin 64) (s : State), s.grants m .p (0x3B0200 + 4 * w.val) = true) ∧
    (∃ (m : Master) (s : State), s.grants m .p 0x3B002C = true ∧ m ≠ .ost) ∧
    (∃ (c : Word) (s : State), s.grants .ost .p 0x3B002C = true ∧ s.flag F.FC_TEST_LOCKOUT = false ∧ c.toNat = 0x54455354 ∧
      s.glb.tstmode = true ∧ s.eff = stLINKED) ∧
    (∃ (c : Word) (s : State), s.grants .ost .p 0x3B002C = true ∧ s.flag F.FC_TEST_LOCKOUT = false ∧ c.toNat ≠ 0x54455354) ∧
    (∃ (m : Master) (v : Word) (s : State), s.grants m .p 0x3B0028 = true ∧ s.st = stTEST ∧ v.toNat.testBit 1 = false) ∧
    (∃ (m : Master) (v : Word) (s : State), s.grants m .p 0x3B0028 = true ∧ s.st ≠ stTEST ∧
      v.toNat.testBit 0 ≠ s.flag F.FC_TEST_INJ_REACT) ∧
    (∃ (m : Master) (f : BitVec 9) (s : State), s.grants m .p 0x3B0030 = true ∧ s.st = stTEST ∧ reservedSource f.toNat = false) ∧
    (∃ (m : Master) (f : BitVec 9) (s : State), s.grants m .p 0x3B0030 = true ∧ s.st = stTEST ∧ reservedSource f.toNat = false) ∧
    (∃ (m : Master) (f : BitVec 9) (s : State), s.grants m .p 0x3B0030 = true ∧ s.st = stTEST ∧ reservedSource f.toNat = false) ∧
    (∃ (m : Master) (s : State), s.grants m .p 0x3B0030 = true ∧ s.st ≠ stTEST) :=
  ⟨⟨.pf0, 0xA5C3, on 6 [], by decide⟩,
   ⟨.pf0, 0, on 6 [], by decide⟩,
   ⟨on 7 [(F.FC_STS_BLK, 1)], by decide +kernel⟩,
   ⟨.pf0, 0xA5C3, on 6 [], by decide⟩,
   ⟨.pf0, on 6 [], by decide⟩,
   ⟨.pf0, 63, on 6 [], by decide⟩,
   ⟨.pf0, on 6 [], by decide⟩,
   ⟨0x54455354, { on 4 [] with glb := { (on 4 []).glb with tstmode := true } }, by decide⟩,
   ⟨0, on 4 [], by decide⟩,
   ⟨.pf0, 1, on 15 [], by decide⟩,
   ⟨.pf0, 1, on 6 [], by decide⟩,
   ⟨.pf0, 5, on 15 [], by decide⟩,
   ⟨.pf0, 5, on 15 [], by decide⟩,
   ⟨.pf0, 5, on 15 [], by decide⟩,
   ⟨.pf0, on 6 [], by decide⟩⟩

/-- Values that meet the hypotheses of TickAdvancesRaw, clause by clause. -/
theorem witness_TickAdvancesRaw :
    (∃ (s : State), s.tb.raw < rawMod) ∧
    (∃ (s : State), s.tb.raw < rawMod) :=
  ⟨⟨State.reset, by decide⟩,
   ⟨State.reset, by decide⟩⟩

/-- Values that meet the hypotheses of RateKeepsTimeContinuous. -/
theorem witness_RateKeepsTimeContinuous :
    (∃ (r : Int), -(2 ^ 31) ≤ r ∧ r < 2 ^ 31) :=
  ⟨-2147483648, by decide⟩

/-- Values that meet the hypotheses of TimebaseCommandsAndEvents, clause by clause. -/
theorem witness_TimebaseCommandsAndEvents :
    (∃ (m : Master) (s : State), s.grants m .p 0x300020 = true ∧ s.servoOwned = false) ∧
    (∃ (m : Master) (s : State), s.grants m .p 0x300000 = true ∧ s.servoOwned = false) ∧
    (∃ (m : Master) (s : State), s.grants m .p 0x300000 = true ∧ s.servoOwned = false) ∧
    (∃ (s : State), s.flag F.TB_PPSOUT_EN = false) ∧
    (∃ (m : Master) (s : State), s.grants m .p 0x300000 = true ∧ s.servoOwned = false ∧ s.adj.natAbs < 2 ^ 31) ∧
    (∃ (m : Master) (s : State), s.grants m .p 0x300000 = true ∧ s.servoOwned = false ∧ 2 ^ 31 ≤ s.adj.natAbs) ∧
    (∃ (m : Master) (s : State), s.grants m .p 0x300000 = true ∧ s.servoOwned = false) ∧
    (∃ (m : Master) (s : State), s.grants m .p 0x300000 = true ∧ s.servoOwned = true) ∧
    (∃ (m : Master) (s : State), s.grants m .u 0x300000 = true) ∧
    (∃ (s : State), s.rawWraps = true) ∧
    (∃ (s : State), s.tb.slewing = true ∧ s.tb.slewRem = 0) ∧
    (∃ (p : Int) (s : State), s.tb.ppsPrev = some p ∧ 100000 < (s.nowInt - p - 1000000000).natAbs) ∧
    (∃ (s : State), s.tb.ppsPrev = none) ∧
    (∃ (s : State), s.rd F.TB_SRC_SRC ≠ 2) ∧
    (∃ (s : State), s.flag F.TB_PPSOUT_EN = true ∧ s.flag F.TB_PPSOUT_FREE = true ∧ s.tb.ppsLastN = none) ∧
    (∃ (s : State), s.tb.ppsOut = true) ∧
    (∃ (s : State), s.rd F.TB_SRC_SRC = 1) ∧
    (∃ (s : State), 16 ≤ s.tb.errRun) :=
  ⟨⟨.pf0, on 6 [(F.TB_SRC_SRC, 0)], by decide⟩,
   ⟨.pf0, on 6 [(F.TB_SRC_SRC, 0)], by decide⟩,
   ⟨.pf0, on 6 [(F.TB_SRC_SRC, 0)], by decide⟩,
   ⟨on 6 [(F.TB_PPSOUT_EN, 0)], by decide⟩,
   ⟨.pf0, on 6 [(F.TB_SRC_SRC, 0)], by decide⟩,
   ⟨.pf0, on 6 [(F.TB_SRC_SRC, 0), (F.TB_ADJ_LO_T, 0x80000000)], by decide⟩,
   ⟨.pf0, on 6 [(F.TB_SRC_SRC, 0)], by decide⟩,
   ⟨.pf0, on 6 [(F.TB_SRC_SRC, 1)], by decide⟩,
   ⟨.pf1, on 6 [], by decide⟩,
   ⟨{ on 6 [] with tb := { (on 6 []).tb with raw := 2 ^ 64 - 1 } }, by decide⟩,
   ⟨{ on 6 [] with tb := { (on 6 []).tb with slewing := true } }, by decide⟩,
   ⟨5, { on 6 [] with tb := { (on 6 []).tb with ppsPrev := some 5 } }, by decide⟩,
   ⟨on 6 [], by decide⟩,
   ⟨on 6 [(F.TB_SRC_SRC, 0)], by decide⟩,
   ⟨on 6 [(F.TB_PPSOUT_EN, 1), (F.TB_PPSOUT_FREE, 1)], by decide⟩,
   ⟨{ on 6 [] with tb := { (on 6 []).tb with ppsOut := true } }, by decide⟩,
   ⟨on 6 [(F.TB_SRC_SRC, 1)], by decide⟩,
   ⟨{ on 6 [] with tb := { (on 6 []).tb with errRun := 16 } }, by decide⟩⟩

/-- Values that meet the hypotheses of WaybillCommandsAndEvents, clause by clause. -/
theorem witness_WaybillCommandsAndEvents :
    (∃ (m : Master) (s : State), s.grants m .p 0x301020 = true ∧ s.pushResult ⟨s.wbStaged m, m, false⟩ = 0 ∧
      s.flag F.GLB_ROLE_TWIN = false) ∧
    (∃ (m : Master) (s : State), s.grants m .p 0x301020 = true ∧ s.pushResult ⟨s.wbStaged m, m, false⟩ = 4) ∧
    (∃ (s : State), s.wb.ents.length < 4095) ∧
    (∃ (m : Master) (s : State), s.grants m .p 0x301020 = true ∧ s.flag F.GLB_ROLE_TWIN = false) ∧
    (∃ (m : Master) (s : State), s.grants m .p 0x301020 = true ∧ s.flag F.GLB_ROLE_TWIN = false) ∧
    (∃ (m : Master) (s : State), s.grants m .p 0x301020 = true) ∧
    (∃ (i : Nat) (s : State), earliest s.wbAge (fun e => s.wbDue e && s.relayRuns e) s.wb.ents = some i) ∧
    (∃ (e : WbEntry), e.cls = 7) ∧
    (∃ (i : Nat) (s : State), earliest s.wbAge (fun e => s.wbDue e && !s.relayRuns e) s.wb.ents = some i) ∧
    (∃ (p : Fin 4) (l : Bool) (t : Nat) (s : State), s.wb.returns = [(p.val, l, t)] ∧ t ≤ s.rawNs) ∧
    (∃ (j : Fin 8) (s : State), (∀ w ∈ s.wb.wins, w.j ≠ j.val)) ∧
    (∃ (j : Fin 8) (w : WbWin) (s : State), s.wb.wins = [w] ∧ w.j = j.val ∧ w.net = false ∧ w.end_ ≤ s.rawNs) :=
  ⟨⟨.pf0, on 6 [((F.WB_E_WORD 0).inBank 0, 1000000), ((F.WB_E_WORD 2).inBank 0, 7)], by decide +kernel⟩,
   ⟨.pf0, on 6 [], by decide +kernel⟩,
   ⟨on 6 [], by decide⟩,
   ⟨.pf0, on 6 [], by decide⟩,
   ⟨.pf0, on 6 [], by decide⟩,
   ⟨.pf0, on 6 [], by decide⟩,
   ⟨0, { on 6 [] with wb := { (on 6 []).wb with ents := [⟨[0, 0, 7, 0, 0, 0, 0, 0], .pf0, false⟩] } }, by decide⟩,
   ⟨⟨[0, 0, 7, 0, 0, 0, 0, 0], .pf0, false⟩, by decide⟩,
   ⟨0, { on 6 [(F.GLB_ROLE_TWIN, 1), (F.GLB_ROLE_ROLE, 3)] with wb := { (on 6 []).wb with ents := [⟨[0, 0, 0x87, 0, 0, 0, 0, 0], .pf0, true⟩] } }, by decide⟩,
   ⟨3, false, 0, { on 6 [] with wb := { (on 6 []).wb with returns := [(3, false, 0)] } }, by decide⟩,
   ⟨7, on 6 [], by decide⟩,
   ⟨7, ⟨7, 0, false, 0⟩, { on 6 [] with wb := { (on 6 []).wb with wins := [⟨7, 0, false, 0⟩] } }, by decide⟩⟩

/-- Values that meet the hypotheses of FieldWrites, clause by clause. -/
theorem witness_FieldWrites :
    (∃ (f : FldSpec), f.acc = .rw) ∧
    (∃ (f : FldSpec) (s : State), f.acc = .rwl ∧ s.st ≠ stRUN) ∧
    (∃ (f : FldSpec) (s : State), f.acc = .rwl ∧ s.st = stRUN) ∧
    (∃ (f : FldSpec), f.acc = .rwc) ∧
    (∃ (f : FldSpec), f.acc = .w1c) ∧
    (∃ (f : FldSpec), (f.acc = .ro ∨ f.acc = .wo ∨ f.acc = .w1s)) ∧
    (∃ (f : Fld) (g : Fld), g.key ≠ f.key) :=
  ⟨⟨⟨0, 8, .rw, .u, .const 0, false, false⟩, by decide⟩,
   ⟨⟨0, 8, .rwl, .u, .const 0, false, false⟩, on 5 [], by decide⟩,
   ⟨⟨0, 8, .rwl, .u, .const 0, false, false⟩, on 6 [], by decide⟩,
   ⟨⟨0, 8, .rwc, .u, .const 0, false, false⟩, by decide⟩,
   ⟨⟨0, 8, .w1c, .u, .const 0, false, false⟩, by decide⟩,
   ⟨⟨0, 8, .ro, .u, .const 0, false, false⟩, by decide⟩,
   ⟨F.GLB_STATE_STATE, F.GLB_STATE_STEP, by decide⟩⟩

/-- Values that meet the hypotheses of RegisterWriteAtTheArbiter, clause by clause. -/
theorem witness_RegisterWriteAtTheArbiter :
    (∃ (m : Master) (w : BitVec 30) (v : Word) (r : RegSpec) (ix : List Nat) (s : State), (m.bank ≠ 3 ∨ w.toNat < 0x400000) ∧
      s.frozen m.owner = false ∧ inWindow (4 * w.toNat) = false ∧ s.reach m (4 * w.toNat) = true ∧
      findReg (4 * w.toNat) allRegs = some (r, ix) ∧ s.gatedAt (4 * w.toNat) = none ∧ viewBars m r v.toNat = false ∧
      s.writeBars m .u = false) ∧
    (∃ (m : Master) (w : BitVec 30) (s : State), (m.bank ≠ 3 ∨ w.toNat < 0x400000) ∧ s.frozen m.owner = false ∧
      inWindow (4 * w.toNat) = false ∧ s.reach m (4 * w.toNat) = true ∧ findReg (4 * w.toNat) allRegs = none ∧
      s.writeBars m .u = false) ∧
    (∃ (m : Master) (s : State), s.frozen m.owner = true) ∧
    (∃ (m : Master) (s : State), s.frozen m.owner = false ∧ s.reach m 0x44 = true ∧ m.owner ≠ 1 ∧ s.gatedAt 0x44 = none) ∧
    (∃ (m : Master) (s : State), s.frozen m.owner = false ∧ s.reach m 0x1000000 = true ∧ m.owner ≠ 1 ∧
      s.fc.cond.contains 13 = false) ∧
    (∃ (m : Master) (s : State), s.frozen m.owner = false ∧ s.reach m 0x1000000 = true ∧ m = .pf1) :=
  ⟨⟨.pf0, 0x30 / 4, 100, ⟨0x30, [], [⟨0, 16, .rw, .p, .const 500, true, false⟩]⟩, [], on 6 [], by decide +kernel⟩,
   ⟨.pf0, 0xFFFC / 4, on 6 [], by decide +kernel⟩,
   ⟨.pf1, on 6 [(F.HST_FRZ_FROZEN, 2)], by decide⟩,
   ⟨.pf0, on 6 [(F.GLB_UNMAPINFO_SEEN, 1), (F.GLB_UNMAPINFO_COUNT, 9)], by decide⟩,
   ⟨.pf0, on 6 [], by decide⟩,
   ⟨.pf1, on 6 [], by decide⟩⟩

/-- Values that meet the hypotheses of MemoryReadsWhatWasStored, clause by clause. -/
theorem witness_MemoryReadsWhatWasStored :
    (∃ (v : Nat), v < 2 ^ 32) ∧
    (∃ (a : Nat) (j : Nat), (j < a ∨ a + 4 ≤ j)) :=
  ⟨⟨4294967295, by decide⟩,
   ⟨4, 3, by decide⟩⟩

/-- Values that meet the hypotheses of PcieRequests, clause by clause. -/
theorem witness_PcieRequests :
    (∃ (s : State), s.hostReached = true) ∧
    (∃ (fn : Fin 2) (s : State), s.hostReached = true ∧ s.frozen fn.val = true) ∧
    (∃ (fn : Fin 2) (s : State), s.hostReached = true ∧ s.frozen fn.val = true) ∧
    (∃ (s : State), s.hostReached = true) ∧
    (∃ (fn : Fin 2) (s : State), s.hostReached = true ∧ s.frozen fn.val = false) ∧
    (∃ (fn : Fin 2) (s : State), s.hostReached = true ∧ s.frozen fn.val = false) :=
  ⟨⟨on 6 [], by decide⟩,
   ⟨1, on 6 [(F.HST_FRZ_FROZEN, 2)], by decide⟩,
   ⟨1, on 6 [(F.HST_FRZ_FROZEN, 2)], by decide⟩,
   ⟨on 6 [], by decide⟩,
   ⟨0, on 6 [], by decide⟩,
   ⟨0, on 6 [], by decide⟩⟩

/-- Values that meet the hypotheses of DmaCommands, clause by clause. -/
theorem witness_DmaCommands :
    (∃ (m : Master) (ch : Nat) (s : State), (s.wrs [(F.HST_DMA_STS_OWNER ch, m.owner), (F.HST_DMA_STS_DONE ch, 0),
      (F.HST_DMA_STS_ERR ch, 0)]).dmaValid m ch = true) ∧
    (∃ (m : Master) (ch : Nat) (s : State), (s.wrs [(F.HST_DMA_STS_OWNER ch, m.owner), (F.HST_DMA_STS_DONE ch, 0),
      (F.HST_DMA_STS_ERR ch, 0)]).dmaValid m ch = false) ∧
    (∃ (m : Master) (ch : Nat) (o : Nat) (w : Nat) (s : State), o = 0x14 ∧ w.testBit 1 = true ∧
      m.owner = s.rd (F.HST_DMA_STS_OWNER ch)) ∧
    (∃ (ch : Fin 8) (s : State), s.flag (F.HST_DMA_STS_BUSY ch) = false) ∧
    (∃ (ch : Fin 8) (s : State), s.flag (F.HST_DMA_STS_BUSY ch) = true ∧ s.frozen (s.rd (F.HST_DMA_STS_OWNER ch)) = true) ∧
    (∃ (ch : Fin 8) (s : State), s.flag (F.HST_DMA_STS_BUSY ch) = true ∧ s.frozen (s.rd (F.HST_DMA_STS_OWNER ch)) = false) ∧
    (∃ (m : Master) (ch : Fin 8) (s : State), s.frozen m.owner = false ∧ s.reach m (0x3D0214 + 0x20 * ch) = true ∧
      s.writeBars m .u = false ∧ s.flag (F.HST_DMA_STS_BUSY ch) = true ∧ m.owner = s.rd (F.HST_DMA_STS_OWNER ch)) :=
  ⟨⟨.pf0, 7, on 6 [(F.HST_DMA_LEN_LEN 7, 64)], by decide⟩,
   ⟨.pf0, 7, on 6 [], by decide⟩,
   ⟨.pf0, 0, 0x14, 2, on 6 [], by decide⟩,
   ⟨0, on 6 [], by decide⟩,
   ⟨0, on 6 [(F.HST_DMA_STS_BUSY 0, 1), (F.HST_DMA_STS_OWNER 0, 1), (F.HST_FRZ_FROZEN, 2)], by decide⟩,
   ⟨0, on 6 [(F.HST_DMA_STS_BUSY 0, 1)], by decide⟩,
   ⟨.pf0, 0, on 6 [(F.HST_DMA_STS_BUSY 0, 1)], by decide⟩⟩

/-- Values that meet the hypotheses of OstlerRequests, clause by clause. -/
theorem witness_OstlerRequests :
    (∃ (s : State), s.hst.sbResult.isSome = true ∧ s.hst.sbReady = false) ∧
    (∃ (s : State), s.hst.sbResult = none ∧ s.flag F.HST_STS_OSTRDY = false) ∧
    (∃ (s : State), s.hst.sbResult = none ∧ s.flag F.HST_STS_OSTRDY = true ∧ s.frozen 2 = false) ∧
    (∃ (l : List Byte) (s : State), s.hst.sbResult = none ∧ s.flag F.HST_STS_OSTRDY = true ∧ s.frozen 2 = false ∧ l.length = 7 ∧
      crc8 (l.take 6) = leAt l 6 1 ∧ leAt l 0 1 = 1 ∧ 1 ≤ leAt l 1 1 ∧ leAt l 1 1 ≤ 8 ∧ leAt l 2 4 % 4 = 0) :=
  ⟨⟨{ on 6 [] with hst := { (on 6 []).hst with sbResult := some [] } }, by decide⟩,
   ⟨on 6 [], by decide⟩,
   ⟨on 6 [(F.HST_STS_OSTRDY, 1)], by decide⟩,
   ⟨[1, 1, 0, 0, 0, 0, 102], on 6 [(F.HST_STS_OSTRDY, 1)], by decide +kernel⟩⟩

/-- Values that meet the hypotheses of HostPort, clause by clause. -/
theorem witness_HostPort :
    (∃ (f : Fin 2) (s : State), s.dmaOf f.val = []) ∧
    (∃ (s : State), s.flag F.HST_STS_LINKUP = true) ∧
    (∃ (s : State), s.flag F.HST_STS_LINKUP = false) ∧
    (∃ (f : Fin 2) (s : State), s.frozen f.val = false) ∧
    (∃ (f : Fin 2) (s : State), s.frozen f.val = false) ∧
    (∃ (f : Fin 2) (s : State), s.frozen f.val = true) ∧
    (∃ (f : Fin 2) (s : State), s.frozen f.val = false) ∧
    (∃ (f : Fin 2) (d : BitVec 12) (s : State), s.frozen f.val = false ∧ 4 * d.toNat < 0x400 ∧ d.toNat % 4 = 1) ∧
    (∃ (m : Master) (y : BitVec 16) (s : State), s.grants m .p 0x3D000C = true ∧ y.toNat = 0xA5C3) ∧
    (∃ (m : Master) (y : BitVec 16) (s : State), s.grants m .p 0x3D000C = true ∧ y.toNat ≠ 0xA5C3) ∧
    (∃ (m : Master) (s : State), mayRelease m.owner 2 = true ∧ s.frozen 2 = true) ∧
    (∃ (m : Master) (s : State), s.grants m .p 0x3D0324 = true ∧ s.flag F.HST_MDIO_BUSY = true) ∧
    (∃ (m : Master) (s : State), s.grants m .p 0x3D0324 = true ∧ s.flag F.HST_MDIO_BUSY = false) ∧
    (∃ (s : State), s.flag F.HST_MDIO_BUSY = true ∧ s.flag F.HST_MDIO_OP = false) ∧
    (∃ (l : BitVec 10), l.toNat ≤ 900) ∧
    (∃ (s : State), s.flag F.HST_STS_OSTRDY = false) ∧
    (∃ (s : State), s.flag F.HST_STS_OSTRDY = false) ∧
    (∃ (r : List Byte) (s : State), s.hst.sbResult = some r ∧ s.hst.sbReady = false) ∧
    (∃ (s : State), s.hst.sbSmbus = true) :=
  ⟨⟨1, on 6 [], by decide⟩,
   ⟨on 6 [(F.HST_STS_LINKUP, 1)], by decide⟩,
   ⟨on 6 [], by decide⟩,
   ⟨0, on 6 [], by decide⟩,
   ⟨0, on 6 [], by decide⟩,
   ⟨1, on 6 [(F.HST_FRZ_FROZEN, 2)], by decide⟩,
   ⟨0, on 6 [], by decide⟩,
   ⟨1, 253, on 6 [], by decide⟩,
   ⟨.pf0, 0xA5C3, on 6 [], by decide⟩,
   ⟨.pf0, 0, on 6 [], by decide⟩,
   ⟨.pf0, on 6 [(F.HST_FRZ_FROZEN, 4)], by decide⟩,
   ⟨.pf0, on 6 [(F.HST_MDIO_BUSY, 1)], by decide⟩,
   ⟨.pf0, on 6 [], by decide⟩,
   ⟨on 6 [(F.HST_MDIO_BUSY, 1)], by decide⟩,
   ⟨900, by decide⟩,
   ⟨on 6 [], by decide⟩,
   ⟨on 6 [], by decide⟩,
   ⟨[7], { on 6 [] with hst := { (on 6 []).hst with sbResult := some [7] } }, by decide⟩,
   ⟨{ on 6 [] with hst := { (on 6 []).hst with sbSmbus := true } }, by decide⟩⟩

/-- Values that meet the hypotheses of SupplyEvents, clause by clause. -/
theorem witness_SupplyEvents :
    (∃ (v : BitVec 16) (s : State), v.toNat < s.rd F.CLK_PWRCFG_WARN) ∧
    (∃ (v : BitVec 16) (s : State), s.rd F.CLK_PWRCFG_WARN ≤ v.toNat) ∧
    (∃ (t : BitVec 16) (s : State), signed 16 t.toNat < 1100 ∧ signed 16 t.toNat < 10 * s.rd F.CLK_THERM_WARN - 50) ∧
    (∃ (t : BitVec 16) (s : State), 1180 ≤ signed 16 t.toNat ∧ 10 * s.rd F.CLK_THERM_WARN ≤ signed 16 t.toNat) ∧
    (∃ (m : Master) (c : Byte) (k : BitVec 16) (s : State), s.grants m .p 0x3E0010 = true ∧ c.toNat = 1 ∧ k.toNat = 0xA5C3 ∧
      s.st ≠ stARMED ∧ s.st ≠ stRUN ∧ s.st ≠ stBLOCKED) ∧
    (∃ (m : Master) (c : Byte) (k : BitVec 16) (s : State), s.grants m .p 0x3E0010 = true ∧ c.toNat = 1 ∧ k.toNat = 0xA5C3 ∧
      s.st = stRUN) :=
  ⟨⟨2000, on 6 [], by decide⟩,
   ⟨5000, on 6 [], by decide⟩,
   ⟨250, on 6 [], by decide⟩,
   ⟨1180, on 6 [], by decide⟩,
   ⟨.pf0, 1, 0xA5C3, on 4 [], by decide⟩,
   ⟨.pf0, 1, 0xA5C3, on 6 [], by decide⟩⟩

/-- Values that meet the hypotheses of ClocksAndGates, clause by clause. -/
theorem witness_ClocksAndGates :
    (∃ (s : State), s.flag F.CLK_CKSTS_TBFB = false ∧ s.flag F.CLK_CKSTS_FBORDY = true) ∧
    (∃ (s : State), s.flag F.CLK_CKSTS_TBFB = false ∧ s.flag F.CLK_CKSTS_FBORDY = false) ∧
    (∃ (s : State), (unraise 9 (s.wr F.CLK_CKSTS_FBORDY 1)).flag F.CLK_CKSTS_HOLDRST = false) ∧
    (∃ (s : State), (unraise 9 (s.wr F.CLK_CKSTS_FBORDY 1)).flag F.CLK_CKSTS_HOLDRST = true) ∧
    (∃ (s : State), s.flag F.CLK_CKSTS_REFOK = true) ∧
    (∃ (s : State), s.flag F.CLK_CKSTS_OSTFB = true) ∧
    (∃ (s : State), s.flag F.CLK_CKSTS_OSTFB = true) ∧
    (∃ (m : Master) (w : Fin 2) (s : State), s.grants m .p (0x3E0030 + 4 * w.val) = true) ∧
    (∃ (u : Nat) (s : State), s.gateOn u = false ∧ s.unitUsed u = true) ∧
    (∃ (u : Nat) (s : State), s.gateOn u = true) ∧
    (∃ (u : Nat) (s : State), s.gateOn u = false) ∧
    (∃ (u : Fin 39) (s : State), s.clk.quiesce.contains u.val = true ∧ 32 ≤ u.val) ∧
    (∃ (u : Fin 39) (s : State), s.clk.quiesce.contains u.val = true) ∧
    (∃ (u : Fin 39) (s : State), s.clk.ungate.contains u.val = true ∧ u.val < 32) :=
  ⟨⟨on 6 [(F.CLK_CKSTS_FBORDY, 1)], by decide⟩,
   ⟨on 6 [(F.CLK_CKSTS_FBORDY, 0)], by decide⟩,
   ⟨on 6 [], by decide⟩,
   ⟨on 6 [(F.CLK_CKSTS_HOLDRST, 1)], by decide⟩,
   ⟨on 6 [(F.CLK_CKSTS_REFOK, 1)], by decide⟩,
   ⟨on 6 [(F.CLK_CKSTS_OSTFB, 1)], by decide⟩,
   ⟨on 6 [(F.CLK_CKSTS_OSTFB, 1)], by decide⟩,
   ⟨.pf0, 1, on 6 [], by decide⟩,
   ⟨36, on 6 [(F.GLB_ROLE_TWIN, 1)], by decide⟩,
   ⟨36, on 6 [(F.CLK_GATE1_RLY, 1)], by decide⟩,
   ⟨36, on 6 [], by decide⟩,
   ⟨38, { on 6 [] with clk := { (on 6 []).clk with quiesce := [38] } }, by decide⟩,
   ⟨38, { on 6 [] with clk := { (on 6 []).clk with quiesce := [38] } }, by decide⟩,
   ⟨31, { on 6 [] with clk := { (on 6 []).clk with ungate := [31] } }, by decide⟩⟩

/-- Values that meet the hypotheses of LevelsAndSchedule, clause by clause. -/
theorem witness_LevelsAndSchedule :
    (∃ (m : Master) (k : BitVec 16) (s : State), s.grants m .p 0x3E0050 = true ∧ k.toNat ≠ 0xA5C3) ∧
    (∃ (m : Master) (s : State), s.grants m .p 0x3E0050 = true ∧ s.clk.plStep ≠ 0) ∧
    (∃ (m : Master) (s : State), s.grants m .p 0x3E0050 = true ∧ s.clk.plStep = 0 ∧ s.running = false) ∧
    (∃ (m : Master) (q : BitVec 2) (s : State), s.grants m .p 0x3E0050 = true ∧ s.clk.plStep = 0 ∧ s.running = true ∧
      q.toNat = s.rd F.CLK_PLSTS_PL) ∧
    (∃ (m : Master) (q : BitVec 2) (s : State), s.grants m .p 0x3E0050 = true ∧ s.clk.plStep = 0 ∧ s.running = true ∧
      q.toNat ≠ s.rd F.CLK_PLSTS_PL ∧ s.rdBit F.SCH_ACCEPT_PLOK q.toNat = false) ∧
    (∃ (m : Master) (q : BitVec 2) (s : State), s.grants m .p 0x3E0050 = true ∧ s.clk.plStep = 0 ∧ s.running = true ∧
      q.toNat ≠ s.rd F.CLK_PLSTS_PL ∧ s.rdBit F.SCH_ACCEPT_PLOK q.toNat = true) ∧
    (∃ (s : State), s.clk.plFrom < s.rd F.CLK_PLSTS_TARGET) ∧
    (∃ (s : State), s.rd F.CLK_PLSTS_TARGET ≤ s.clk.plFrom) ∧
    (∃ (s : State), s.clk.plStep = 2 ∧ s.clk.plFrom < s.rd F.CLK_PLSTS_TARGET) ∧
    (∃ (s : State), s.clk.plStep ≠ 2) ∧
    (∃ (s : State), s.clk.plStep = 3 ∧ s.clk.plFrom < s.rd F.CLK_PLSTS_TARGET) ∧
    (∃ (s : State), s.clk.plStep = 2) ∧
    (∃ (s : State), s.clk.returning = false) ∧
    (∃ (m : Master) (s : State), s.grants m .p 0x20020 = true ∧ s.flag F.SCH_SLKVER_BUSY = false) ∧
    (∃ (m : Master) (s : State), s.grants m .p 0x20020 = true ∧ s.flag F.SCH_SLKVER_BUSY = true) ∧
    (∃ (m : Master) (w : Fin 3) (s : State), s.grants m .p (acceptAddr w.val) = true ∧ s.st ≠ stRUN) ∧
    (∃ (m : Master) (w : Fin 3) (s : State), s.grants m .p (acceptAddr w.val) = true ∧ s.st = stRUN) ∧
    (∃ (s : State), 16 ≤ s.clk.replRun ∧ s.fc.cond.contains 20 = false ∧ (raise 20 s).flag F.CLK_PLCFG_AUTOUP = false) ∧
    (∃ (s : State), s.clk.replRun < 16) ∧
    (∃ (m : Master) (s : State), s.grants m .u 0x20020 = true) ∧
    (∃ (m : Master) (s : State), s.grants m .u 0x20020 = true) ∧
    (∃ (m : Master) (n : Fin 12) (w : Fin 3) (s : State), s.grants m .p (insLimitAddr n.val w.val) = true ∧ s.standbyWrite = true) ∧
    (∃ (m : Master) (n : Fin 12) (w : Fin 3) (s : State), s.grants m .p (insLimitAddr n.val w.val) = true) :=
  ⟨⟨.pf0, 0, on 6 [], by decide⟩,
   ⟨.pf0, { on 6 [] with clk := { (on 6 []).clk with plStep := 2 } }, by decide⟩,
   ⟨.pf0, on 3 [], by decide⟩,
   ⟨.pf0, 0, on 6 [(F.SCH_CFG_RUNNING, 1), (F.CLK_PLSTS_PL, 0)], by decide⟩,
   ⟨.pf0, 1, on 6 [(F.SCH_CFG_RUNNING, 1), (F.CLK_PLSTS_PL, 0), (F.SCH_ACCEPT_PLOK, 1)], by decide⟩,
   ⟨.pf0, 1, on 6 [(F.SCH_CFG_RUNNING, 1), (F.CLK_PLSTS_PL, 0), (F.SCH_ACCEPT_PLOK, 2)], by decide⟩,
   ⟨on 6 [(F.CLK_PLSTS_TARGET, 3)], by decide⟩,
   ⟨on 6 [], by decide⟩,
   ⟨{ on 6 [(F.CLK_PLSTS_TARGET, 3)] with clk := { (on 6 []).clk with plStep := 2 } }, by decide⟩,
   ⟨on 6 [], by decide⟩,
   ⟨{ on 6 [(F.CLK_PLSTS_TARGET, 3)] with clk := { (on 6 []).clk with plStep := 3 } }, by decide⟩,
   ⟨{ on 6 [] with clk := { (on 6 []).clk with plStep := 2 } }, by decide⟩,
   ⟨on 6 [], by decide⟩,
   ⟨.pf0, on 4 [], by decide⟩,
   ⟨.pf0, on 4 [(F.SCH_SLKVER_BUSY, 1)], by decide⟩,
   ⟨.pf0, 0, on 4 [], by decide⟩,
   ⟨.pf0, 0, on 6 [], by decide⟩,
   ⟨{ on 6 [] with clk := { (on 6 []).clk with replRun := 16 } }, by decide +kernel⟩,
   ⟨on 6 [], by decide⟩,
   ⟨.pf1, on 6 [], by decide⟩,
   ⟨.pf1, on 6 [], by decide⟩,
   ⟨.pf0, 0, 0, on 6 [(F.GLB_ROLE_ROLE, 3), (F.GLB_ROLE_TWIN, 1)], by decide⟩,
   ⟨.pf0, 0, 0, on 6 [], by decide⟩⟩

/-- Values that meet the hypotheses of CycleEvents, clause by clause. -/
theorem witness_CycleEvents :
    (∃ (s : State), s.running = false) ∧
    (∃ (s : State), s.running = true) ∧
    (∃ (s : State), s.twn.items = []) ∧
    (∃ (s : State), s.running = false) ∧
    (∃ (s : State), s.running = true) ∧
    (∃ (s : State), s.sch.first = none ∧ s.twn.adopt = false ∧ s.tb.renum = none) ∧
    (∃ (c : Nat) (s : State), s.sch.first = some c ∧ c < 2 ^ 32) ∧
    (∃ (s : State), (s.running = false ∨ s.sch.frozen = true ∨ s.sch.first.isSome = true)) ∧
    (∃ (s : State), s.running = true ∧ s.sch.frozen = false ∧ s.sch.first = none) ∧
    (∃ (n : Fin 12) (s : State), s.rd (F.ARM_STS_MISSRUN n) = 3) ∧
    (∃ (n : Fin 12) (s : State), s.rd (F.ARM_STS_MISSRUN n) ≠ 3) ∧
    (∃ (n : Nat) (s : State), (s.arm n).rsHold = false ∧ s.armLate n = false) :=
  ⟨⟨on 3 [], by decide⟩,
   ⟨on 6 [(F.SCH_CFG_RUNNING, 1)], by decide⟩,
   ⟨on 6 [], by decide⟩,
   ⟨on 3 [], by decide⟩,
   ⟨on 6 [(F.SCH_CFG_RUNNING, 1)], by decide⟩,
   ⟨on 6 [], by decide⟩,
   ⟨7, { on 6 [] with sch := { (on 6 []).sch with first := some 7 } }, by decide⟩,
   ⟨on 3 [], by decide⟩,
   ⟨on 6 [(F.SCH_CFG_RUNNING, 1)], by decide⟩,
   ⟨0, on 6 [(F.ARM_STS_MISSRUN 0, 3)], by decide⟩,
   ⟨0, on 6 [], by decide⟩,
   ⟨0, { on 6 [(F.ARM_DL_CRT 0, 99600)] with be := { (on 6 []).be with arms := [{ ({} : ArmSt) with done := some 5 }] } }, by decide +kernel⟩⟩

/-- Values that meet the hypotheses of ControlGraph, clause by clause. -/
theorem witness_ControlGraph :
    (∃ (s : State), (s.cg.run.isSome = true ∨ s.cg.imgs = [])) ∧
    (∃ (i : Img) (l : List Img) (s : State), s.cg.run = none ∧ s.cg.imgs = i :: l ∧ i.vals.any Option.isNone = false ∧
      s.flag F.CG_STS_STOPPED = false) ∧
    (∃ (r : Run) (c : Fin 8) (s : State), s.cg.run = some r ∧ s.cg.g.cores.contains c.val = true ∧ r.done.contains c.val = false) ∧
    (∃ (s : State), s.cg.run = none) ∧
    (∃ (r : Run) (s : State), s.cg.run = some r ∧ s.cg.g.cores.all r.done.contains = true) ∧
    (∃ (r : Run) (c : Fin 8) (s : State), s.cg.run = some r ∧ s.cg.g.cores.contains c.val = true ∧ r.done.contains c.val = false ∧
      4 * s.mper ≤ cycDiff s.cyc r.img.cyc) ∧
    (∃ (s : State), s.cg.run = none) ∧
    (∃ (s : State), s.cg.run = none) ∧
    (∃ (k : Nat) (s : State), s.cg.gresetAt = some k ∧ s.cycleDue k = true) ∧
    (∃ (s : State), s.cg.gresetAt = none) ∧
    (∃ (s : State), s.flag F.CG_PSTS_PENDING = true ∧ s.cycleDue (s.rd F.CG_PAPPLY_CYC) = true) ∧
    (∃ (s : State), s.flag F.CG_PSTS_PENDING = false) ∧
    (∃ (s : State), (s.role ≠ roSTANDBY ∨ s.relayUp = false)) ∧
    (∃ (c : Word) (s : State), s.role = roSTANDBY ∧ s.relayUp = true ∧ s.cg.imgs = [] ∧ c.toNat = s.cyc ∧ s.cg.g.order = []) ∧
    (∃ (m : Master) (s : State), s.grants m .p 0x40000 = true ∧ s.standbyWrite = true) ∧
    (∃ (m : Master) (s : State), s.grants m .p 0x40000 = true ∧ s.standbyWrite = false ∧ s.flag F.CG_PSTS_PENDING = true) ∧
    (∃ (m : Master) (s : State), s.grants m .p 0x40000 = true ∧ s.standbyWrite = false ∧ s.flag F.CG_PSTS_PENDING = false ∧
      s.flag F.GLB_ROLE_TWIN = false) ∧
    (∃ (m : Master) (s : State), s.grants m .p 0x40000 = true ∧ s.standbyWrite = false ∧ s.st = stRUN) ∧
    (∃ (m : Master) (s : State), s.grants m .p 0x40000 = true ∧ s.standbyWrite = false ∧ s.st ≠ stRUN ∧
      s.flag F.GLB_ROLE_TWIN = false) ∧
    (∃ (m : Master) (s : State), s.grants m .p 0x40040 = true) ∧
    (∃ (m : Master) (k : BitVec 6) (s : State), s.grants m .u (0x42000 + 4 * k.toNat) = true ∧ s.standbyWrite = true) ∧
    (∃ (m : Master) (k : BitVec 6) (s : State), s.grants m .u (0x42000 + 4 * k.toNat) = true ∧ s.standbyWrite = false ∧
      s.flag F.GLB_ROLE_TWIN = false) :=
  ⟨⟨on 6 [], by decide⟩,
   ⟨{}, [], { on 6 [] with cg := { (on 6 []).cg with imgs := [{}] } }, by decide⟩,
   ⟨{}, 0, { on 6 [] with cg := { (on 6 []).cg with run := some {}, g := { ({} : Grph) with sched := [[0]] } } }, by decide⟩,
   ⟨on 6 [], by decide⟩,
   ⟨{}, { on 6 [] with cg := { (on 6 []).cg with run := some {} } }, by decide⟩,
   ⟨{}, 0, { on 6 [(F.SCH_CYC_CYC, 100)] with cg := { (on 6 []).cg with run := some {}, g := { ({} : Grph) with sched := [[0]] } } }, by decide +kernel⟩,
   ⟨on 6 [], by decide⟩,
   ⟨on 6 [], by decide⟩,
   ⟨0, { on 6 [] with cg := { (on 6 []).cg with gresetAt := some 0 } }, by decide +kernel⟩,
   ⟨on 6 [], by decide⟩,
   ⟨on 6 [(F.CG_PSTS_PENDING, 1)], by decide +kernel⟩,
   ⟨on 6 [], by decide⟩,
   ⟨on 6 [(F.GLB_ROLE_ROLE, 0)], by decide⟩,
   ⟨0, on 6 [(F.GLB_ROLE_ROLE, 3), (F.TWN_STS_LSTATE, 3)], by decide⟩,
   ⟨.pf0, on 6 [(F.GLB_ROLE_ROLE, 3), (F.GLB_ROLE_TWIN, 1)], by decide⟩,
   ⟨.pf0, on 6 [(F.CG_PSTS_PENDING, 1)], by decide⟩,
   ⟨.pf0, on 6 [], by decide⟩,
   ⟨.pf0, on 6 [], by decide⟩,
   ⟨.pf0, on 5 [], by decide⟩,
   ⟨.pf0, on 6 [], by decide⟩,
   ⟨.pf0, 0, on 6 [(F.GLB_ROLE_ROLE, 3), (F.GLB_ROLE_TWIN, 1)], by decide⟩,
   ⟨.pf1, 63, on 6 [], by decide⟩⟩

/-- Values that meet the hypotheses of FrameEvents, clause by clause. -/
theorem witness_FrameEvents :
    (∃ (l : Fin 128) (s : State), (s.lane l ≠ lsLOCKED ∨ s.cl.launched = false ∨ (s.ln l).te.isSome = true)) ∧
    (∃ (l : Fin 128) (b : List Byte) (c : Byte) (d : Byte) (s : State), s.lane l = lsLOCKED ∧ s.cl.launched = true ∧
      (s.ln l).te = none ∧ (codeGroups l c.toNat d.toNat s).headerOk b = false) ∧
    (∃ (l : Fin 128) (b : List Byte) (c : Byte) (d : Byte) (s : State), s.lane l = lsLOCKED ∧ s.cl.launched = true ∧
      (s.ln l).te = none ∧ (codeGroups l c.toNat d.toNat s).headerOk b = true) ∧
    (∃ (n : Fin 12) (s : State), (s.running = false ∨ s.arms.contains n.val = false ∨ (s.arm n).cut = true)) ∧
    (∃ (n : Fin 12) (s : State), s.running = true ∧ s.arms.contains n.val = true ∧ (s.arm n).cut = false) :=
  ⟨⟨0, on 6 [], by decide⟩,
   ⟨0, [], 0, 0, { on 6 [(F.CL_STS_STATE 0, lsLOCKED)] with cl := { (on 6 []).cl with launched := true } }, by decide +kernel⟩,
   ⟨0, [0, 0, 0, 0, 0, 0, 0, 0, 0, 0, 0, 119], 0, 0, { on 6 [(F.CL_STS_STATE 0, lsLOCKED)] with cl := { (on 6 []).cl with launched := true, epoch := 0 } }, by decide +kernel⟩,
   ⟨0, on 3 [], by decide⟩,
   ⟨0, on 6 [(F.SCH_CFG_RUNNING, 1), (F.SCH_CFG_NARMS, 1)], by decide +kernel⟩⟩

/-- Values that meet the hypotheses of CellCommands, clause by clause. -/
theorem witness_CellCommands :
    (∃ (m : Master) (s : State), s.grants m .p 0x100008 = true) ∧
    (∃ (i : Nat) (c : Nat) (k : Nat) (s : State), 1 ≤ i ∧ i ≤ 5 ∧ s.cellRefusal i k c ≠ 0) ∧
    (∃ (i : Nat) (c : Nat) (k : Nat) (s : State), 1 ≤ i ∧ i ≤ 5 ∧ s.cellRefusal i k c = 0) ∧
    (∃ (c : Nat) (s : State), s.cell? c = none) ∧
    (∃ (c : Nat) (x : CellSt) (s : State), s.cell? c = some x ∧ s.role = roSTANDBY) ∧
    (∃ (k : Nat) (c : Nat) (x : CellSt) (s : State), s.cell? c = some x ∧ s.role ≠ roSTANDBY ∧ k ≠ 0xA5C3) :=
  ⟨⟨.pf0, on 6 [], by decide⟩,
   ⟨1, 0, 0, on 6 [], by decide⟩,
   ⟨1, 0, 0, { on 6 [] with be := { (on 6 []).be with cells := [{}] } }, by decide +kernel⟩,
   ⟨0, on 6 [], by decide⟩,
   ⟨0, {}, { on 6 [(F.GLB_ROLE_ROLE, 3)] with be := { (on 6 []).be with cells := [{}] } }, by decide +kernel⟩,
   ⟨0, 0, {}, { on 6 [(F.GLB_ROLE_ROLE, 0)] with be := { (on 6 []).be with cells := [{}] } }, by decide +kernel⟩⟩

/-- Values that meet the hypotheses of Engines, clause by clause. -/
theorem witness_Engines :
    (∃ (n : Fin 12) (s : State), (s.running = false ∨ s.arms.contains n.val = false ∨ (s.arm n).ranked = true
      ∨ s.slotsTaken n = false)) ∧
    (∃ (n : Fin 12) (s : State), s.running = true ∧ s.arms.contains n.val = true ∧ (s.arm n).ranked = false ∧ s.slotsTaken n = true) ∧
    (∃ (n : Fin 12) (s : State), s.role ≠ roSTANDBY ∧ (s.running = false ∨ (s.arm n).ranked = false ∨ (s.arm n).sel.isSome = true)) ∧
    (∃ (n : Fin 12) (s : State), s.role ≠ roSTANDBY ∧ s.running = true ∧ (s.arm n).ranked = true ∧ (s.arm n).sel = none ∧
      s.st = stRUN) ∧
    (∃ (n : Fin 12) (s : State), s.role ≠ roSTANDBY ∧ s.running = true ∧ (s.arm n).ranked = true ∧ (s.arm n).sel = none ∧
      s.st ≠ stRUN) ∧
    (∃ (e : Fin 24) (s : State), s.rdBit F.BE_USED_USED e.val = false) ∧
    (∃ (e : Fin 24) (s : State), s.rdBit F.BE_USED_USED e.val = true) ∧
    (∃ (e : Fin 24) (s : State), s.rdBit F.BE_USED_USED e.val = true) ∧
    (∃ (m : Master) (s : State), s.grants m .p 0x100000 = true) ∧
    (∃ (m : Master) (s : State), s.grants m .u 0x100000 = true) ∧
    (∃ (m : Master) (n : Fin 12) (w : Fin 7) (s : State), s.grants m .p (limitAddr n.val w.val) = true ∧ s.standbyWrite = true) ∧
    (∃ (m : Master) (n : Fin 12) (w : Fin 7) (v : Word) (s : State), s.grants m .p (limitAddr n.val w.val) = true ∧
      s.standbyWrite = false ∧ (regWrite m (limitAddr n.val w.val) v.toNat s).twinned = false) :=
  ⟨⟨0, on 3 [], by decide⟩,
   ⟨0, { on 6 [(F.SCH_CFG_RUNNING, 1), (F.SCH_CFG_NARMS, 1)] with be := {} }, by decide +kernel⟩,
   ⟨0, on 3 [(F.GLB_ROLE_ROLE, 0)], by decide⟩,
   ⟨0, { on 6 [(F.SCH_CFG_RUNNING, 1), (F.GLB_ROLE_ROLE, 0)] with be := { (on 6 []).be with arms := [{ ({} : ArmSt) with ranked := true }] } }, by decide +kernel⟩,
   ⟨0, { on 5 [(F.SCH_CFG_RUNNING, 1), (F.GLB_ROLE_ROLE, 0)] with be := { (on 6 []).be with arms := [{ ({} : ArmSt) with ranked := true }] } }, by decide +kernel⟩,
   ⟨0, on 6 [], by decide⟩,
   ⟨0, on 6 [(F.BE_USED_USED, 1)], by decide⟩,
   ⟨0, on 6 [(F.BE_USED_USED, 1)], by decide⟩,
   ⟨.pf0, on 6 [], by decide⟩,
   ⟨.pf1, on 6 [], by decide⟩,
   ⟨.pf0, 0, 0, on 6 [(F.GLB_ROLE_ROLE, 3), (F.GLB_ROLE_TWIN, 1)], by decide⟩,
   ⟨.pf0, 0, 0, 0, on 6 [], by decide +kernel⟩⟩

/-- Values that meet the hypotheses of ReferencesAndLevelGenerator, clause by clause. -/
theorem witness_ReferencesAndLevelGenerator :
    (∃ (m : Master) (s : State), s.grants m .p 0x80000 = true ∧ s.standbyWrite = true) ∧
    (∃ (m : Master) (s : State), s.grants m .p 0x80000 = true ∧ s.standbyWrite = false ∧ s.flag F.REF_STS_OPENDING = true) ∧
    (∃ (m : Master) (s : State), s.grants m .p 0x80000 = true ∧ s.standbyWrite = false ∧ s.flag F.REF_STS_WPENDING = true) ∧
    (∃ (m : Master) (s : State), s.grants m .p 0x80000 = true ∧ s.standbyWrite = false ∧ s.flag F.REF_STS_OPENDING = false ∧
      s.flag F.GLB_ROLE_TWIN = false) ∧
    (∃ (m : Master) (s : State), s.grants m .p 0x80000 = true ∧ s.standbyWrite = false ∧ s.flag F.REF_STS_WPENDING = false ∧
      s.flag F.GLB_ROLE_TWIN = false) ∧
    (∃ (m : Master) (s : State), s.grants m .p 0x80000 = true ∧ s.standbyWrite = false ∧ s.st = stRUN) ∧
    (∃ (m : Master) (s : State), s.grants m .p 0x80000 = true ∧ s.standbyWrite = false ∧ s.st ≠ stRUN ∧
      s.flag F.GLB_ROLE_TWIN = false) ∧
    (∃ (s : State), s.flag F.REF_STS_OPENDING = true ∧ s.cycleDue (s.rd F.REF_OAPPLY_CYC) = true) ∧
    (∃ (s : State), s.flag F.REF_STS_WPENDING = true ∧ s.cycleDue (s.rd F.REF_WAPPLY_CYC) = true) ∧
    (∃ (s : State), s.flag F.REF_STS_OPENDING = false ∧ s.flag F.REF_STS_WPENDING = false) ∧
    (∃ (n : Fin 12) (s : State), (s.running = false ∨ s.arms.contains n.val = false)) ∧
    (∃ (n : Fin 12) (s : State), s.running = true ∧ s.arms.contains n.val = true ∧ f32isFin (s.vref n) = false ∧
      s.armStill n = false) ∧
    (∃ (n : Fin 12) (s : State), s.running = true ∧ s.arms.contains n.val = true ∧ f32isFin (s.vref n) = true) ∧
    (∃ (n : Fin 12) (s : State), s.flag (F.ARM_LGSTS_HELD n) = true ∧ s.rd F.REF_LGCFG_HOLDLIM ≤ s.rd (F.ARM_LGSTS_HELDRUN n)) ∧
    (∃ (n : Fin 12) (s : State), s.flag (F.ARM_LGSTS_HELD n) = false) :=
  ⟨⟨.pf0, on 6 [(F.GLB_ROLE_ROLE, 3), (F.GLB_ROLE_TWIN, 1)], by decide⟩,
   ⟨.pf0, on 6 [(F.REF_STS_OPENDING, 1)], by decide⟩,
   ⟨.pf0, on 6 [(F.REF_STS_WPENDING, 1)], by decide⟩,
   ⟨.pf0, on 6 [], by decide⟩,
   ⟨.pf0, on 6 [], by decide⟩,
   ⟨.pf0, on 6 [], by decide⟩,
   ⟨.pf0, on 5 [], by decide⟩,
   ⟨on 6 [(F.REF_STS_OPENDING, 1)], by decide +kernel⟩,
   ⟨on 6 [(F.REF_STS_WPENDING, 1)], by decide +kernel⟩,
   ⟨on 6 [], by decide⟩,
   ⟨0, on 3 [], by decide⟩,
   ⟨0, { on 6 [(F.SCH_CFG_RUNNING, 1), (F.SCH_CFG_NARMS, 1)] with ref := { (on 6 []).ref with front := [(0x7FC00000, 0)] } }, by decide +kernel⟩,
   ⟨0, on 6 [(F.SCH_CFG_RUNNING, 1), (F.SCH_CFG_NARMS, 1)], by decide +kernel⟩,
   ⟨0, on 6 [(F.ARM_LGSTS_HELD 0, 1), (F.ARM_LGSTS_HELDRUN 0, 255)], by decide⟩,
   ⟨0, on 6 [], by decide⟩⟩

/-- Values that meet the hypotheses of TimingCommands, clause by clause. -/
theorem witness_TimingCommands :
    (∃ (n : Fin 12) (s : State), (s.arm n).lateOpen = true) ∧
    (∃ (n : Fin 12) (s : State), (s.arm n).lateOpen = false ∧ ((s.arm n).sel = none ∨ (s.arm n).done.isSome = true)) ∧
    (∃ (q : Sel) (n : Fin 12) (s : State), (s.arm n).lateOpen = false ∧ (s.arm n).sel = some q ∧ (s.arm n).done = none ∧
      s.st ≠ stRUN ∧ s.smpFlag (F.INS_FP_CFG_SRC n) = false) ∧
    (∃ (q : Sel) (n : Fin 12) (s : State), (s.arm n).lateOpen = false ∧ (s.arm n).sel = some q ∧ (s.arm n).done = none ∧
      s.st = stRUN ∧ (writeSlots n q s).smpFlag (F.INS_FP_CFG_SRC n) = false) ∧
    (∃ (m : Master) (n : Fin 12) (s : State), s.grants m .p (0x140104 + 0x40 * n.val) = true ∧ s.standbyWrite = true) ∧
    (∃ (m : Master) (n : Fin 12) (s : State), s.grants m .p (0x140104 + 0x40 * n.val) = true ∧ s.standbyWrite = false ∧
      s.flag (F.INS_FP_CFG_MODE n) = true ∧ s.twinned = false) ∧
    (∃ (m : Master) (n : Fin 12) (s : State), s.grants m .p (0x140104 + 0x40 * n.val) = true ∧ s.standbyWrite = false ∧
      s.flag (F.INS_FP_CFG_MODE n) = false ∧ s.flag (F.INS_FP_STS_PENDING n) = true) ∧
    (∃ (m : Master) (n : Fin 12) (s : State), s.grants m .p (0x140104 + 0x40 * n.val) = true ∧ s.standbyWrite = false ∧
      s.flag (F.INS_FP_CFG_MODE n) = false ∧ s.flag (F.INS_FP_STS_PENDING n) = false ∧ s.twinned = false) ∧
    (∃ (s : State), s.running = false) ∧
    (∃ (n : Fin 12) (s : State), s.running = true ∧ s.twinned = false ∧ s.flag (F.INS_FP_CFG_MODE n) = false ∧
      s.flag (F.INS_FP_STS_PENDING n) = true ∧ (s.arm n).fpAt = none) ∧
    (∃ (n : Fin 12) (j : Fin 4) (s : State), s.compareFires n j = false) ∧
    (∃ (n : Fin 12) (j : Fin 4) (s : State), s.compareFires n j = true) ∧
    (∃ (m : Master) (s : State), s.grants m .u 0x140004 = true) :=
  ⟨⟨0, { on 6 [] with be := { (on 6 []).be with arms := [{ ({} : ArmSt) with lateOpen := true }] } }, by decide +kernel⟩,
   ⟨0, on 6 [], by decide⟩,
   ⟨{}, 0, { on 5 [] with be := { (on 6 []).be with arms := [{ ({} : ArmSt) with sel := some {} }] } }, by decide +kernel⟩,
   ⟨{}, 0, { on 6 [] with be := { (on 6 []).be with arms := [{ ({} : ArmSt) with sel := some {} }] } }, by decide +kernel⟩,
   ⟨.pf0, 0, on 6 [(F.GLB_ROLE_ROLE, 3), (F.GLB_ROLE_TWIN, 1)], by decide⟩,
   ⟨.pf0, 0, on 6 [(F.INS_FP_CFG_MODE 0, 1)], by decide⟩,
   ⟨.pf0, 0, on 6 [(F.INS_FP_STS_PENDING 0, 1)], by decide⟩,
   ⟨.pf0, 0, on 6 [], by decide⟩,
   ⟨on 3 [], by decide⟩,
   ⟨0, on 6 [(F.SCH_CFG_RUNNING, 1), (F.INS_FP_STS_PENDING 0, 1)], by decide +kernel⟩,
   ⟨0, 0, on 6 [], by decide⟩,
   ⟨0, 0, on 6 [(F.SCH_CFG_RUNNING, 1), (F.INS_FP_CMP_CMODE 0 0, 1), (F.SCH_CFG_ARMCYC, 100000)], by decide +kernel⟩,
   ⟨.pf1, on 6 [], by decide⟩⟩

/-- Values that meet the hypotheses of ParcelCommands, clause by clause. -/
theorem witness_ParcelCommands :
    (∃ (m : Master) (s : State), s.grants m .p 0x189008 = true ∧ 16 ≤ s.cl.reqs.length + s.hostOpen) ∧
    (∃ (m : Master) (s : State), s.grants m .p 0x189008 = true ∧ s.cl.reqs.length + s.hostOpen < 16) ∧
    (∃ (m : Master) (s : State), s.grants m .p 0x189008 = true) ∧
    (∃ (m : Master) (s : State), s.grants m .p 0x189008 = true) ∧
    (∃ (m : Master) (l : Fin 128) (s : State), s.grants m .p (0x180048 + 0x100 * l.val) = true ∧ s.st = stRUN) ∧
    (∃ (m : Master) (l : Fin 128) (v : Byte) (s : State), s.grants m .p (0x180048 + 0x100 * l.val) = true ∧ s.st ≠ stRUN ∧
      s.rd (F.CL_FCFG_AUXSEL l) = v.toNat) ∧
    (∃ (m : Master) (l : Fin 128) (v : Byte) (s : State), s.grants m .p (0x180048 + 0x100 * l.val) = true ∧ s.st ≠ stRUN ∧
      s.rd (F.CL_FCFG_AUXSEL l) ≠ v.toNat ∧ s.flag (F.CL_CFG_USED l) = true) ∧
    (∃ (t : Tx) (l : Fin 128) (s : State), (s.ln l).tx = some t ∧ t.await.isSome = true ∧ s.rd F.CL_PQCFG_RETRY ≤ t.repeats) ∧
    (∃ (t : Tx) (b : Nat) (l : Fin 128) (s : State), (s.ln l).tx = some t ∧ t.busy = some b ∧
      s.rd F.CL_PQCFG_BUSYMAX ≤ cycDiff s.cyc b) ∧
    (∃ (l : Fin 128) (s : State), (s.ln l).tx = none) :=
  ⟨⟨.pf0, { on 6 [] with cl := { (on 6 []).cl with reqs := List.replicate 16 (0, {}) } }, by decide +kernel⟩,
   ⟨.ost, on 6 [], by decide +kernel⟩,
   ⟨.pf0, on 6 [], by decide⟩,
   ⟨.pf0, on 6 [], by decide⟩,
   ⟨.pf0, 0, on 6 [], by decide⟩,
   ⟨.pf0, 0, 0, on 4 [], by decide⟩,
   ⟨.pf0, 0, 1, on 4 [(F.CL_CFG_USED 0, 1)], by decide⟩,
   ⟨{ await := some 0, repeats := 255 }, 0, { on 6 [] with cl := { (on 6 []).cl with lanes := [{ tx := some { await := some 0, repeats := 255 } }] } }, by decide +kernel⟩,
   ⟨{ busy := some 0 }, 0, 0, { on 6 [(F.SCH_CYC_CYC, 100000)] with cl := { (on 6 []).cl with lanes := [{ tx := some { busy := some 0 } }] } }, by decide +kernel⟩,
   ⟨0, on 6 [], by decide⟩⟩

/-- Values that meet the hypotheses of LaneTrainingAndHopDelays, clause by clause. -/
theorem witness_LaneTrainingAndHopDelays :
    (∃ (l : Fin 128) (s : State), s.lane l = lsEIDLE ∧ s.linking = true ∧ s.ringWaits l = false) ∧
    (∃ (l : Fin 128) (s : State), s.lane l ≠ lsEIDLE) ∧
    (∃ (l : Fin 128) (s : State), s.lane l = lsEXIT) ∧
    (∃ (l : Fin 128) (s : State), s.lane l ≠ lsEXIT) ∧
    (∃ (l : Fin 128) (s : State), s.lane l = lsALIGN) ∧
    (∃ (l : Fin 128) (s : State), s.lane l = lsRXLOST) ∧
    (∃ (l : Fin 128) (g : Byte) (h : Byte) (i : Byte) (c : Byte) (s : State), (s.lane l ≠ lsTRAIN ∨ c ≠ orderedChk [g, h, i])) ∧
    (∃ (l : Fin 128) (g : Byte) (h : Byte) (i : Byte) (c : Byte) (s : State), s.lane l = lsTRAIN ∧ c = orderedChk [g, h, i] ∧
      i.toNat = l.val ∧ s.rd (F.CL_CFG_RING l) = 0xFF ∧ s.linking = false) ∧
    (∃ (l : Fin 128) (s : State), (s.lane l = lsALIGN ∨ s.lane l = lsTRAIN)) ∧
    (∃ (l : Fin 128) (s : State), s.lane l ≠ lsALIGN ∧ s.lane l ≠ lsTRAIN) ∧
    (∃ (l : Fin 128) (s : State), s.lane l = lsMEASURE ∧ s.measured l = true) ∧
    (∃ (l : Fin 128) (s : State), s.lane l ≠ lsMEASURE) ∧
    (∃ (l : Fin 128) (s : State), s.lane l = lsFAILED ∧ s.linking = true) ∧
    (∃ (s : State), s.linking = false) ∧
    (∃ (m : Master) (l : Fin 128) (s : State), s.grants m .p (0x180004 + 0x100 * l.val) = true ∧ s.lane l = lsEIDLE) ∧
    (∃ (m : Master) (l : Fin 128) (s : State), s.grants m .p (0x180004 + 0x100 * l.val) = true ∧ s.lane l = lsRXLOST) ∧
    (∃ (m : Master) (l : Fin 128) (s : State), s.grants m .p (0x180004 + 0x100 * l.val) = true ∧ s.lane l ≠ lsEIDLE ∧
      s.lane l ≠ lsRXLOST) ∧
    (∃ (l : Fin 128) (s : State), s.lane l = lsMEASURE ∧ s.cutNow l = true) ∧
    (∃ (l : Fin 128) (a : Byte) (b : Byte) (c : Byte) (d : Byte) (e : Byte) (s : State), s.lane l = lsMEASURE ∧ s.cutNow l = false ∧
      e ≠ orderedChk [a, b, c, d]) ∧
    (∃ (l : Fin 128) (a : Byte) (b : Byte) (c : Byte) (d : Byte) (e : Byte) (s : State), s.lane l = lsMEASURE ∧ s.cutNow l = false ∧
      e = orderedChk [a, b, c, d] ∧ 200 ≤ b.toNat + 256 * c.toNat ∧ b.toNat + 256 * c.toNat ≤ 5000 ∧ a.toNat = (s.ln l).mhop) ∧
    (∃ (l : Fin 128) (s : State), s.lane l ≠ lsMEASURE ∧ (s.ln l).dmOut = none) ∧
    (∃ (l : Fin 128) (s : State), s.lane l = lsMEASURE) ∧
    (∃ (h : Nat) (l : Fin 128) (s : State), s.lane l ≠ lsMEASURE ∧ (s.ln l).dmOut = some h) ∧
    (∃ (l : Fin 128) (s : State), s.lane l ≠ lsMEASURE ∧ (s.ln l).dmOut = none) ∧
    (∃ (l : Fin 128) (s : State), s.dmDue l = false) ∧
    (∃ (l : Fin 128) (s : State), s.dmDue l = true ∧ s.lane l = lsLOCKED ∧ (s.ln l).te = none) ∧
    (∃ (e : Nat) (l : Fin 128) (s : State), s.dmDue l = true ∧ s.lane l = lsLOCKED ∧ (s.ln l).te = some e ∧
      e + 20 + ((s.hop l (s.rd (F.CL_DMSTS_NEXT l) % s.liveHops l)).rt.getD 0) / 10 + 100 + 400 < s.armcyc ∧ s.cutNow l = false) :=
  ⟨⟨0, on 4 [(F.CL_STS_STATE 0, 1), (F.GLB_STATE_LINK_BUSY, 1)], by decide +kernel⟩,
   ⟨0, on 4 [], by decide⟩,
   ⟨0, on 4 [(F.CL_STS_STATE 0, 2)], by decide⟩,
   ⟨0, on 4 [], by decide⟩,
   ⟨0, on 4 [(F.CL_STS_STATE 0, 3)], by decide⟩,
   ⟨0, on 6 [(F.CL_STS_STATE 0, 9)], by decide⟩,
   ⟨0, 0, 0, 0, 0, on 4 [], by decide⟩,
   ⟨0, 0, 0, 0, 0xA5, on 4 [(F.CL_STS_STATE 0, 4), (F.CL_CFG_RING 0, 255)], by decide +kernel⟩,
   ⟨0, on 4 [(F.CL_STS_STATE 0, 4)], by decide⟩,
   ⟨0, on 4 [], by decide⟩,
   ⟨0, on 4 [(F.CL_STS_STATE 0, 5)], by decide +kernel⟩,
   ⟨0, on 4 [], by decide⟩,
   ⟨0, on 4 [(F.CL_STS_STATE 0, 7), (F.GLB_STATE_LINK_BUSY, 1)], by decide⟩,
   ⟨on 4 [], by decide⟩,
   ⟨.pf0, 0, on 4 [(F.CL_STS_STATE 0, 1)], by decide⟩,
   ⟨.pf0, 0, on 6 [(F.CL_STS_STATE 0, 9)], by decide⟩,
   ⟨.pf0, 0, on 6 [], by decide⟩,
   ⟨0, { on 4 [(F.CL_STS_STATE 0, 5)] with cl := { (on 4 []).cl with cut := 1 } }, by decide +kernel⟩,
   ⟨0, 0, 0, 0, 0, 0, on 4 [(F.CL_STS_STATE 0, 5)], by decide +kernel⟩,
   ⟨0, 0, 200, 0, 0, 0x6D, on 4 [(F.CL_STS_STATE 0, 5)], by decide +kernel⟩,
   ⟨0, on 6 [], by decide⟩,
   ⟨0, on 4 [(F.CL_STS_STATE 0, 5)], by decide⟩,
   ⟨0, 0, { on 6 [] with cl := { (on 6 []).cl with lanes := [{ dmOut := some 0 }] } }, by decide +kernel⟩,
   ⟨0, on 6 [], by decide⟩,
   ⟨0, on 6 [], by decide⟩,
   ⟨0, { on 6 [(F.CL_DMCFG_EN 0, 1), (F.CL_STS_STATE 0, 8), (F.CL_STS_HOPSEEN 0, 1), (F.CL_CFG_HOPS 0, 1)] with cl := { (on 6 []).cl with lanes := [{ dmAge := 65535 }] } }, by decide +kernel⟩,
   ⟨0, 0, { on 6 [(F.CL_DMCFG_EN 0, 1), (F.CL_STS_STATE 0, 8), (F.CL_STS_HOPSEEN 0, 1), (F.CL_CFG_HOPS 0, 1), (F.SCH_CFG_ARMCYC, 100000)] with cl := { (on 6 []).cl with lanes := [{ dmAge := 65535, te := some 0 }] } }, by decide +kernel⟩⟩

/-- Values that meet the hypotheses of LaneLoss, clause by clause. -/
theorem witness_LaneLoss :
    (∃ (l : Fin 128) (s : State), s.lane l = lsLOCKED) ∧
    (∃ (l : Fin 128) (s : State), lsALIGN ≤ s.lane l ∧ s.lane l ≤ lsREADY) ∧
    (∃ (l : Fin 128) (s : State), (s.lane l < lsALIGN ∨ s.lane l = lsFAILED ∨ s.lane l = lsRXLOST)) ∧
    (∃ (l : Fin 128) (s : State), s.flag (F.CL_CFG_USED l) = true ∧ s.flag (F.CL_STS_GAP l) = false) ∧
    (∃ (l : Fin 128) (s : State), s.flag (F.CL_STS_GAP l) = true) ∧
    (∃ (l : Fin 128) (s : State), s.lane l = lsRXLOST ∧ s.flag (F.CL_TRCFG_AUTORT l) = true) ∧
    (∃ (l : Fin 128) (s : State), s.lane l ≠ lsRXLOST) ∧
    (∃ (l : Fin 128) (s : State), (s.ln l).te = none) ∧
    (∃ (e : Nat) (l : Fin 128) (s : State), (s.ln l).te = some e ∧ s.flag (F.CL_CTL_GAPIDLE l) = true ∧ s.lane l = lsLOCKED ∧
      s.rd (F.CL_CFG_RING l) = 0xFF ∧ s.flag (F.CL_STS_GIOFF l) = false ∧ s.flag (F.CL_STS_GAP l) = false ∧
      e < s.rd (F.ARM_ULCUT_CRT (s.rd (F.CL_CFG_ARM l))) ∧ s.dmDue l = false ∧ (s.ln l).dmOut = none ∧
      e + 20 + 1000 + 400 + s.burstNs l ≤ s.armcyc) ∧
    (∃ (l : Fin 128) (s : State), s.flag (F.CL_STS_GAP l) = true) ∧
    (∃ (l : Fin 128) (s : State), s.flag (F.CL_STS_GAP l) = false) ∧
    (∃ (l : Fin 128) (s : State), (s.ln l).gapCheck = true) ∧
    (∃ (l : Fin 128) (s : State), (s.lane l = lsRXLOST ∨ s.lane l = lsFAILED)) ∧
    (∃ (l : Fin 128) (s : State), s.lane l ≠ lsRXLOST ∧ s.lane l ≠ lsFAILED) ∧
    (∃ (m : Master) (l : Fin 128) (s : State), s.grants m .p (0x180004 + 0x100 * l.val) = true) ∧
    (∃ (m : Master) (l : Fin 128) (s : State), s.grants m .u (0x180004 + 0x100 * l.val) = true) :=
  ⟨⟨0, on 6 [(F.CL_STS_STATE 0, 8)], by decide⟩,
   ⟨0, on 4 [(F.CL_STS_STATE 0, 6)], by decide⟩,
   ⟨0, on 4 [], by decide⟩,
   ⟨0, on 6 [(F.CL_CFG_USED 0, 1)], by decide⟩,
   ⟨0, on 6 [(F.CL_STS_GAP 0, 1)], by decide⟩,
   ⟨0, on 6 [(F.CL_STS_STATE 0, 9), (F.CL_TRCFG_AUTORT 0, 1)], by decide⟩,
   ⟨0, on 6 [], by decide⟩,
   ⟨0, on 6 [], by decide⟩,
   ⟨0, 0, { on 6 [(F.CL_CTL_GAPIDLE 0, 1), (F.CL_STS_STATE 0, 8), (F.CL_CFG_RING 0, 255), (F.ARM_ULCUT_CRT 0, 90000), (F.SCH_CFG_ARMCYC, 100000)] with cl := { (on 6 []).cl with lanes := [{ te := some 0 }] } }, by decide +kernel⟩,
   ⟨0, on 6 [(F.CL_STS_GAP 0, 1)], by decide⟩,
   ⟨0, on 6 [], by decide⟩,
   ⟨0, { on 6 [] with cl := { (on 6 []).cl with lanes := [{ gapCheck := true }] } }, by decide +kernel⟩,
   ⟨0, on 6 [(F.CL_STS_STATE 0, 9)], by decide⟩,
   ⟨0, on 6 [], by decide⟩,
   ⟨.pf0, 0, on 6 [], by decide⟩,
   ⟨.pf1, 0, on 6 [], by decide⟩⟩

/-- Values that meet the hypotheses of TallyEvents, clause by clause. -/
theorem witness_TallyEvents :
    (∃ (s : State), s.flag F.TLY_STS_TLOAD = false) ∧
    (∃ (s : State), s.flag F.TLY_STS_TLOAD = true) ∧
    (∃ (g : BitVec 13) (s : State), s.cell? g.toNat = none) ∧
    (∃ (x : CellSt) (g : BitVec 13) (s : State), s.cell? g.toNat = some x ∧ 2 ^ s.rd F.TLY_CAPCFG_WINLOG2 ≤ x.live.capn) ∧
    (∃ (s : State), (s.running = false ∨ s.cyc % 2 ^ 22 ≠ 0)) ∧
    (∃ (s : State), s.running = true ∧ s.cyc % 2 ^ 22 = 0 ∧ s.flag F.GLB_ROLE_TWIN = false) ∧
    (∃ (s : State), (s.st = stBOOT ∨ s.flag F.TLY_STS_TLOAD = true)) ∧
    (∃ (s : State), s.st ≠ stBOOT ∧ s.flag F.TLY_STS_TLOAD = false ∧ s.tly.ck0.seq = 0 ∧ s.tly.ck1.seq = 0) ∧
    (∃ (s : State), (s.st = stBOOT ∨ s.flag F.TLY_STS_PINIT = true)) ∧
    (∃ (s : State), s.st ≠ stBOOT ∧ s.flag F.TLY_STS_PINIT = false) ∧
    (∃ (a : BitVec 33), 0x1E0000000 ≤ a.toNat) ∧
    (∃ (a : BitVec 33), a.toNat < 0x180000000) ∧
    (∃ (s : State), s.hst.loadOver = true) ∧
    (∃ (s : State), s.hst.loadOver = false ∧ (s.flag F.TLY_STS_CKBUSY = true ∨ s.flag F.TLY_STS_TLOAD = false)) ∧
    (∃ (s : State), s.hst.loadOver = false ∧ s.flag F.TLY_STS_CKBUSY = false ∧ s.flag F.TLY_STS_TLOAD = true) ∧
    (∃ (m : Master) (s : State), s.grants m .p 0x280000 = true) ∧
    (∃ (s : State), s.tly.ckRetry = false) ∧
    (∃ (s : State), s.tly.ckRetry = true ∧ s.flag F.TLY_STS_CKBUSY = false ∧ s.flag F.TLY_STS_TLOAD = true ∧ s.hst.loadOver = false) :=
  ⟨⟨on 6 [], by decide⟩,
   ⟨on 6 [(F.TLY_STS_TLOAD, 1)], by decide⟩,
   ⟨0, on 6 [], by decide⟩,
   ⟨{ live := { capn := 32768 } }, 0, { on 6 [(F.TLY_CAPCFG_WINLOG2, 1)] with be := { (on 6 []).be with cells := [{ live := { capn := 32768 } }] } }, by decide +kernel⟩,
   ⟨on 3 [], by decide⟩,
   ⟨on 6 [(F.SCH_CFG_RUNNING, 1)], by decide⟩,
   ⟨on 1 [], by decide⟩,
   ⟨on 3 [], by decide⟩,
   ⟨on 1 [], by decide⟩,
   ⟨on 3 [], by decide⟩,
   ⟨0x1E0000000, by decide⟩,
   ⟨0, by decide⟩,
   ⟨{ on 6 [] with hst := { (on 6 []).hst with loadOver := true } }, by decide⟩,
   ⟨on 6 [], by decide⟩,
   ⟨on 6 [(F.TLY_STS_TLOAD, 1)], by decide⟩,
   ⟨.pf0, on 6 [], by decide⟩,
   ⟨on 6 [], by decide⟩,
   ⟨{ on 6 [(F.TLY_STS_TLOAD, 1)] with tly := { (on 6 []).tly with ckRetry := true } }, by decide +kernel⟩⟩

/-- Values that meet the hypotheses of LedgerCommands, clause by clause. -/
theorem witness_LedgerCommands :
    (∃ (s : State), s.ledger = ldOFF ∧ s.flag F.TLY_LCFG_EN = true ∧ s.running = true ∧ s.flag F.TLY_STS_PINIT = true) ∧
    (∃ (s : State), s.ledger ≠ ldOFF) ∧
    (∃ (s : State), s.ledger = ldFILL ∧ s.preN ≤ s.tly.since) ∧
    (∃ (s : State), (s.ledger ≠ ldFILL ∨ s.tly.since < s.preN)) ∧
    (∃ (b : Fin 11) (s : State), s.rdBit F.TLY_LCFG_TRIGEN b = false) ∧
    (∃ (b : Fin 11) (s : State), s.rdBit F.TLY_LCFG_TRIGEN b = true ∧ (s.ledger = ldFILL ∨ s.ledger = ldARMED) ∧
      s.flag F.GLB_ROLE_TWIN = false) ∧
    (∃ (b : Fin 11) (s : State), s.rdBit F.TLY_LCFG_TRIGEN b = true ∧ s.ledger = ldOFF) ∧
    (∃ (m : Master) (s : State), s.grants m .u 0x280000 = true) ∧
    (∃ (s : State), s.rdBit F.TLY_LCFG_TRIGEN 5 = false) ∧
    (∃ (s : State), s.rdBit F.TLY_LCFG_TRIGEN 5 = true ∧ s.ledger = ldFROZEN) ∧
    (∃ (s : State), s.ledger ≠ ldPOST) ∧
    (∃ (s : State), s.ledger = ldPOST ∧ s.postN < cycDiff s.cyc (s.rd F.TLY_LTCYC_VAL)) ∧
    (∃ (m : Master) (s : State), s.grants m .p 0x280000 = true ∧ s.ledger ≠ ldFROZEN) ∧
    (∃ (m : Master) (s : State), s.grants m .p 0x280000 = true ∧ s.ledger = ldFROZEN ∧ s.flag F.TLY_STS_XBUSY = true) ∧
    (∃ (m : Master) (s : State), s.grants m .p 0x280000 = true ∧ s.ledger = ldFROZEN ∧ s.flag F.TLY_STS_XBUSY = false) ∧
    (∃ (m : Master) (s : State), s.grants m .p 0x280000 = true ∧ s.ledger = ldFROZEN ∧ s.flag F.TLY_STS_XBUSY = false ∧
      s.hst.loadOver = false) ∧
    (∃ (m : Master) (s : State), s.grants m .p 0x280040 = true) ∧
    (∃ (s : State), s.flag F.TLY_LCFG_EN = false ∧ s.ledger = ldARMED) ∧
    (∃ (s : State), s.flag F.TLY_STS_XBUSY = false) ∧
    (∃ (s : State), s.flag F.TLY_STS_XBUSY = true) ∧
    (∃ (s : State), s.flag F.TLY_STS_XBUSY = true) :=
  ⟨⟨on 6 [(F.TLY_LCFG_EN, 1), (F.SCH_CFG_RUNNING, 1), (F.TLY_STS_PINIT, 1)], by decide⟩,
   ⟨on 6 [(F.TLY_LSTS_STATE, 1)], by decide⟩,
   ⟨on 6 [(F.TLY_LSTS_STATE, 1)], by decide +kernel⟩,
   ⟨on 6 [], by decide⟩,
   ⟨0, on 6 [(F.TLY_LCFG_TRIGEN, 0)], by decide +kernel⟩,
   ⟨1, on 6 [(F.TLY_LCFG_TRIGEN, 2), (F.TLY_LSTS_STATE, 2)], by decide +kernel⟩,
   ⟨1, on 6 [(F.TLY_LCFG_TRIGEN, 2)], by decide +kernel⟩,
   ⟨.pf1, on 6 [], by decide⟩,
   ⟨on 6 [(F.TLY_LCFG_TRIGEN, 0)], by decide +kernel⟩,
   ⟨on 6 [(F.TLY_LCFG_TRIGEN, 32), (F.TLY_LSTS_STATE, 4)], by decide +kernel⟩,
   ⟨on 6 [], by decide⟩,
   ⟨on 6 [(F.TLY_LSTS_STATE, 3), (F.SCH_CYC_CYC, 100)], by decide +kernel⟩,
   ⟨.pf0, on 6 [], by decide⟩,
   ⟨.pf0, on 6 [(F.TLY_LSTS_STATE, 4), (F.TLY_STS_XBUSY, 1)], by decide⟩,
   ⟨.pf0, on 6 [(F.TLY_LSTS_STATE, 4)], by decide⟩,
   ⟨.pf0, on 6 [(F.TLY_LSTS_STATE, 4)], by decide⟩,
   ⟨.pf0, on 6 [], by decide⟩,
   ⟨on 6 [(F.TLY_LSTS_STATE, 2), (F.TLY_LCFG_EN, 0)], by decide⟩,
   ⟨on 6 [], by decide⟩,
   ⟨on 6 [(F.TLY_STS_XBUSY, 1)], by decide⟩,
   ⟨on 6 [(F.TLY_STS_XBUSY, 1)], by decide⟩⟩

/-- Values that meet the hypotheses of NetworkFrames, clause by clause. -/
theorem witness_NetworkFrames :
    (∃ (p : Fin 4) (s : State), s.portOn p = false) ∧
    (∃ (p : Fin 4) (s : State), s.portOn p = true) ∧
    (∃ (p : Fin 4) (s : State), s.portOn p = true) ∧
    (∃ (p : Fin 4) (b : List Byte) (s : State), s.portOn p = true ∧ (b.length < 60 ∨ 1518 < b.length)) ∧
    (∃ (p : Fin 4) (b : List Byte) (s : State), s.portOn p = true ∧ 60 ≤ b.length ∧ b.length ≤ 1518) ∧
    (∃ (p : Fin 4) (b : List Byte) (s : State), s.portOn p = true ∧ 60 ≤ b.length ∧ b.length ≤ 1518) ∧
    (∃ (s : State), s.flag F.NET_PRP_EN = true) ∧
    (∃ (s : State), s.flag F.NET_PRP_EN = false) ∧
    (∃ (s : State), s.flag F.NET_PRP_EN = true) ∧
    (∃ (m : Master) (s : State), s.grants m .u 0x340000 = true) ∧
    (∃ (p : Fin 4) (b : List Byte) (s : State), (s.portOn p = false ∨ etherType b ≠ 0x88BA)) ∧
    (∃ (p : Fin 4) (b : List Byte) (s : State), s.portOn p = true ∧ etherType b = 0x88BA ∧
      ((asdus (b.drop (etherAt b + 10))).any fun x => (s.svMatch p b (x.map (·.id))).isSome) = false) ∧
    (∃ (p : Fin 4) (b : List Byte) (s : State), s.portOn p = true ∧ etherType b = 0x88BA ∧
      ((asdus (b.drop (etherAt b + 10))).any fun x => (s.svMatch p b (x.map (·.id))).isSome) = true) ∧
    (∃ (n : Fin 32) (s : State), s.flag (F.NET_SV_CFG_EN n) = false) ∧
    (∃ (n : Fin 32) (s : State), s.flag (F.NET_SV_CFG_EN n) = true) :=
  ⟨⟨0, on 6 [(F.NET_P_CFG_MODE 0, 0)], by decide⟩,
   ⟨0, on 6 [(F.NET_P_CFG_MODE 0, 2)], by decide⟩,
   ⟨0, on 6 [(F.NET_P_CFG_MODE 0, 2)], by decide⟩,
   ⟨0, [], on 6 [(F.NET_P_CFG_MODE 0, 2)], by decide⟩,
   ⟨0, List.replicate 60 0, on 6 [(F.NET_P_CFG_MODE 0, 2)], by decide⟩,
   ⟨0, List.replicate 60 0, on 6 [(F.NET_P_CFG_MODE 0, 2)], by decide⟩,
   ⟨on 6 [(F.NET_PRP_EN, 1)], by decide⟩,
   ⟨on 6 [], by decide⟩,
   ⟨on 6 [(F.NET_PRP_EN, 1)], by decide⟩,
   ⟨.pf1, on 6 [], by decide⟩,
   ⟨0, [], on 6 [(F.NET_P_CFG_MODE 0, 0)], by decide⟩,
   ⟨0, List.replicate 12 0 ++ [0x88, 0xBA], on 6 [(F.NET_P_CFG_MODE 0, 2)], by decide +kernel⟩,
   ⟨0, List.replicate 12 0 ++ [0x88, 0xBA], on 6 [(F.NET_P_CFG_MODE 0, 2), (F.NET_SV_CFG_EN 0, 1), (F.NET_SV_CFG_PORTS 0, 15), (F.NET_SV_CFG_APPID 0, 0), (F.NET_SV_DMAC_HI_ADDR 0, 0), (F.NET_SV_DMAC_LO_ADDR 0, 0)], by decide +kernel⟩,
   ⟨0, on 6 [], by decide⟩,
   ⟨0, on 6 [(F.NET_SV_CFG_EN 0, 1)], by decide⟩⟩

/-- Values that meet the hypotheses of PtpEvents, clause by clause. -/
theorem witness_PtpEvents :
    (∃ (p : Fin 4) (d : Byte) (s : State), s.ptpPort p = true ∧ d.toNat ≠ s.rd F.NET_PTPCFG_DOMAIN) ∧
    (∃ (p : Fin 4) (d : Byte) (g : Byte) (s : State), s.ptpPort p = true ∧ d.toNat = s.rd F.NET_PTPCFG_DOMAIN ∧
      -3 ≤ signed 8 g.toNat ∧ signed 8 g.toNat ≤ 3 ∧ (s.port p).masters = []) ∧
    (∃ (p : Fin 4) (d : Byte) (s : State), s.ptpPort p = true ∧ d.toNat ≠ s.rd F.NET_PTPCFG_DOMAIN) ∧
    (∃ (p : Fin 4) (d : Byte) (g : Byte) (s : State), s.ptpPort p = true ∧ d.toNat = s.rd F.NET_PTPCFG_DOMAIN ∧ -4 ≤ g.toInt ∧
      g.toInt ≤ 1 ∧ s.rd F.NET_PTPSTS_SLAVE = p.val) ∧
    (∃ (p : Fin 4) (d : Byte) (s : State), s.ptpPort p = true ∧ d.toNat = s.rd F.NET_PTPCFG_DOMAIN ∧ (s.port p).sync = none) ∧
    (∃ (p : Fin 4) (d : Byte) (r : BitVec 80) (g : Byte) (q : BitVec 16) (o : Int) (s : State), s.ptpPort p = true ∧
      d.toNat = s.rd F.NET_PTPCFG_DOMAIN ∧ -4 ≤ g.toInt ∧ g.toInt ≤ 1 ∧ s.rd F.NET_PTPSTS_SLAVE = p.val ∧
      (s.port p).sync = some (q.toNat, r.toNat, o)) ∧
    (∃ (p : Fin 4) (s : State), s.ptpPort p = false) ∧
    (∃ (p : Fin 4) (s : State), s.ptpPort p = true ∧ (s.port p).reqT1 = none) ∧
    (∃ (p : Fin 4) (s : State), s.ptpPort p = true) ∧
    (∃ (p : Fin 4) (s : State), (s.port p).reqT1 = none) ∧
    (∃ (x : Int) (p : Fin 4) (q : BitVec 16) (s : State), (s.port p).reqT1 = some x ∧ s.ptpPort p = true ∧
      q.toNat = (s.port p).reqSeq ∧ (s.port p).kept = []) ∧
    (∃ (m : Master) (s : State), s.grants m .p 0x340000 = true) :=
  ⟨⟨0, 9, on 6 [(F.NET_PTPCFG_PORTS, 15), (F.NET_P_CFG_MODE 0, 2)], by decide⟩,
   ⟨0, 0, 0, on 6 [(F.NET_PTPCFG_PORTS, 15), (F.NET_P_CFG_MODE 0, 2)], by decide +kernel⟩,
   ⟨0, 9, on 6 [(F.NET_PTPCFG_PORTS, 15), (F.NET_P_CFG_MODE 0, 2)], by decide⟩,
   ⟨0, 0, 0, on 6 [(F.NET_PTPCFG_PORTS, 15), (F.NET_P_CFG_MODE 0, 2), (F.NET_PTPSTS_SLAVE, 0)], by decide +kernel⟩,
   ⟨0, 0, on 6 [(F.NET_PTPCFG_PORTS, 15), (F.NET_P_CFG_MODE 0, 2)], by decide⟩,
   ⟨0, 0, 0, 0, 0, 0, { on 6 [(F.NET_PTPCFG_PORTS, 15), (F.NET_P_CFG_MODE 0, 2), (F.NET_PTPSTS_SLAVE, 0)] with net := { (on 6 []).net with ports := [{ sync := some (0, 0, 0) }] } }, by decide +kernel⟩,
   ⟨0, on 6 [(F.NET_P_CFG_MODE 0, 0)], by decide⟩,
   ⟨0, on 6 [(F.NET_PTPCFG_PORTS, 15), (F.NET_P_CFG_MODE 0, 2)], by decide +kernel⟩,
   ⟨0, on 6 [(F.NET_PTPCFG_PORTS, 15), (F.NET_P_CFG_MODE 0, 2)], by decide⟩,
   ⟨0, on 6 [], by decide⟩,
   ⟨0, 0, 0, { on 6 [(F.NET_PTPCFG_PORTS, 15), (F.NET_P_CFG_MODE 0, 2)] with net := { (on 6 []).net with ports := [{ reqT1 := some 0 }] } }, by decide +kernel⟩,
   ⟨.pf0, on 6 [], by decide⟩⟩

/-- Values that meet the hypotheses of FrameLaunch, clause by clause. -/
theorem witness_FrameLaunch :
    (∃ (b : Fin 32) (s : State), s.rd (F.NET_FB_TRIG_MODE b) = 0) ∧
    (∃ (b : Fin 32) (s : State), s.rd (F.NET_FB_TRIG_MODE b) = 1 ∧ s.badLaunch b (s.rd (F.NET_FB_CFG_PORT b)) = true) ∧
    (∃ (b : Fin 32) (s : State), s.rd (F.NET_FB_TRIG_MODE b) = 1 ∧ s.badLaunch b (s.rd (F.NET_FB_CFG_PORT b)) = false) ∧
    (∃ (b : Fin 32) (s : State), s.rd (F.NET_FB_TRIG_MODE b) = 3 ∧ s.running = true ∧
      s.badLaunch b (s.rd (F.NET_FB_CFG_PORT b)) = false) ∧
    (∃ (s : State), s.net.launches = [] ∧ s.wb.ents = []) ∧
    (∃ (b : Fin 32) (l : Launch) (s : State), s.net.launches = [l] ∧ l.buf = b.val ∧ l.taken = false) ∧
    (∃ (s : State), s.net.launches = []) ∧
    (∃ (b : Fin 32) (l : Launch) (s : State), s.net.launches = [l] ∧ l.buf = b.val ∧ l.taken = true ∧ l.late = false ∧
      l.at_ ≤ s.nowInt ∧ s.flag (F.NET_FB_CFG_GATEEN b) = false) ∧
    (∃ (m : Master) (b : Fin 32) (p : Fin 8) (s : State), s.grants m .p 0x3D0320 = true ∧ s.badLaunch b p = true) ∧
    (∃ (m : Master) (b : Fin 32) (p : Fin 8) (s : State), s.grants m .p 0x3D0320 = true ∧ s.badLaunch b p = false) :=
  ⟨⟨0, on 6 [], by decide⟩,
   ⟨0, on 6 [(F.NET_FB_TRIG_MODE 0, 1)], by decide +kernel⟩,
   ⟨0, on 6 [(F.NET_FB_TRIG_MODE 0, 1), (F.NET_P_CFG_MODE 0, 2), (F.NET_FB_CFG_LEN 0, 60)], by decide +kernel⟩,
   ⟨0, on 6 [(F.NET_FB_TRIG_MODE 0, 3), (F.SCH_CFG_RUNNING, 1), (F.NET_P_CFG_MODE 0, 2), (F.NET_FB_CFG_LEN 0, 60)], by decide +kernel⟩,
   ⟨on 6 [], by decide⟩,
   ⟨0, {}, { on 6 [] with net := { (on 6 []).net with launches := [{}] } }, by decide⟩,
   ⟨on 6 [], by decide⟩,
   ⟨0, { taken := true }, { on 6 [] with net := { (on 6 []).net with launches := [{ taken := true }] } }, by decide +kernel⟩,
   ⟨.pf0, 0, 7, on 6 [], by decide +kernel⟩,
   ⟨.pf0, 0, 0, on 6 [(F.NET_P_CFG_MODE 0, 2), (F.NET_FB_CFG_LEN 0, 60)], by decide +kernel⟩⟩

/-- Values that meet the hypotheses of LmuTriggersAndCalibration, clause by clause. -/
theorem witness_LmuTriggersAndCalibration :
    (∃ (c : Fin 2) (s : State), s.triggerNow c = true) ∧
    (∃ (c : Fin 2) (s : State), s.triggerNow c = false) ∧
    (∃ (m : Master) (c : Fin 2) (s : State), s.grants m .p 0x380000 = true ∧ s.rd (F.LMU_ADC_CFG_TRGSRC c) = 0) ∧
    (∃ (m : Master) (c : Fin 2) (s : State), s.grants m .p 0x380000 = true ∧ s.rd (F.LMU_ADC_CFG_TRGSRC c) ≠ 0) ∧
    (∃ (c : Fin 2) (s : State), s.rd (F.LMU_ADC_CFG_TRGSRC c) = 2) ∧
    (∃ (c : Nat) (s : State), s.convMode c ≠ 2) ∧
    (∃ (c : Nat) (s : State), s.convMode c = 2 ∧ s.flag F.LMU_STS_CALBUSY = true) ∧
    (∃ (c : Nat) (s : State), s.convMode c = 2 ∧ s.flag F.LMU_STS_CALBUSY = false ∧ s.flag (F.LMU_ADC_CFG_GATEEN c) = false ∧
      s.flag (F.LMU_ADC_STS_BUSY c) = false) ∧
    (∃ (c : Nat) (s : State), s.convMode c = 2 ∧ s.flag F.LMU_STS_CALBUSY = false ∧ s.flag (F.LMU_ADC_CFG_GATEEN c) = false ∧
      s.flag (F.LMU_ADC_STS_BUSY c) = true ∧ s.rd (F.LMU_ADC_CFG_BUSYPOL c) = 1) ∧
    (∃ (c : Fin 2) (s : State), s.flag (F.LMU_ADC_STS_BUSY c) = false) ∧
    (∃ (c : Fin 2) (s : State), s.flag (F.LMU_ADC_STS_BUSY c) = true) ∧
    (∃ (d : Fin 8) (e : Fin 64) (c : Nat) (s : State), s.flag (F.LMU_SEQ_CFG_DCHEN e) = true ∧ s.rd (F.LMU_SEQ_CFG_DCH e) = d.val ∧
      s.converterOf e = some c ∧ s.convMode c ≠ 0) ∧
    (∃ (m : Master) (s : State), s.grants m .p 0x380000 = true ∧ s.calLocked = true) ∧
    (∃ (m : Master) (s : State), s.grants m .p 0x380000 = true ∧ s.calLocked = false ∧ s.flag F.LMU_STS_CALBUSY = false) ∧
    (∃ (m : Master) (s : State), s.grants m .p 0x380000 = true) ∧
    (∃ (m : Master) (s : State), s.grants m .p 0x380000 = true ∧ s.calLocked = false) ∧
    (∃ (s : State), s.lmu.calDue = false) ∧
    (∃ (s : State), s.lmu.calDue = true ∧ s.flag F.LMU_STS_CALBUSY = false) ∧
    (∃ (s : State), s.flag F.LMU_CTL_REFEN = true) :=
  ⟨⟨0, on 6 [(F.LMU_ADC_CFG_TRGSRC 0, 3)], by decide⟩,
   ⟨0, on 6 [(F.LMU_ADC_CFG_TRGSRC 0, 0)], by decide⟩,
   ⟨.pf0, 0, on 6 [(F.LMU_ADC_CFG_TRGSRC 0, 0)], by decide⟩,
   ⟨.pf0, 0, on 6 [(F.LMU_ADC_CFG_TRGSRC 0, 1)], by decide⟩,
   ⟨0, on 6 [(F.LMU_ADC_CFG_TRGSRC 0, 2)], by decide⟩,
   ⟨0, on 6 [], by decide⟩,
   ⟨0, on 6 [(F.LMU_ADC_CFG_MODE 0, 2), (F.LMU_STS_CALBUSY, 1)], by decide⟩,
   ⟨0, on 6 [(F.LMU_ADC_CFG_MODE 0, 2)], by decide⟩,
   ⟨0, on 6 [(F.LMU_ADC_CFG_MODE 0, 2), (F.LMU_ADC_STS_BUSY 0, 1), (F.LMU_ADC_CFG_BUSYPOL 0, 1)], by decide⟩,
   ⟨0, on 6 [], by decide⟩,
   ⟨0, on 6 [(F.LMU_ADC_STS_BUSY 0, 1)], by decide⟩,
   ⟨0, 0, 0, on 6 [(F.LMU_SEQ_CFG_DCHEN 0, 1), (F.LMU_SEQ_CFG_DCH 0, 0), (F.LMU_ADC_CFG_FIRST 0, 0), (F.LMU_ADC_CFG_MODE 0, 1)], by decide +kernel⟩,
   ⟨.pf0, on 6 [], by decide⟩,
   ⟨.pf0, on 4 [], by decide⟩,
   ⟨.pf0, on 6 [], by decide⟩,
   ⟨.pf0, on 4 [], by decide⟩,
   ⟨on 3 [], by decide⟩,
   ⟨{ on 3 [] with lmu := { (on 3 []).lmu with calDue := true } }, by decide⟩,
   ⟨on 3 [(F.LMU_CTL_REFEN, 1)], by decide⟩⟩

/-- Values that meet the hypotheses of LmuResultsAndFastPath, clause by clause. -/
theorem witness_LmuResultsAndFastPath :
    (∃ (e : Fin 64) (s : State), s.flag (F.LMU_SEQ_CFG_FILT e) = false ∧ s.rd (F.LMU_SEQ_CFG_REP e) = 0 ∧ s.converterOf e = none) ∧
    (∃ (u : Fin 48) (s : State), (s.meter u).ended = []) ∧
    (∃ (u : Fin 48) (w : Win) (l : List Win) (s : State), (s.meter u).ended = w :: l ∧ w.incomp = false ∧ u.val < 32) ∧
    (∃ (u : Fin 48) (w : Win) (l : List Win) (s : State), (s.meter u).ended = w :: l ∧ w.incomp = true ∧ u.val < 32) ∧
    (∃ (m : Master) (s : State), s.grants m .p 0x380000 = true ∧ (s.flag F.LMU_STS_SPEND0 = true ∨ s.flag F.LMU_STS_SPEND1 = true)) ∧
    (∃ (m : Master) (s : State), s.grants m .p 0x380000 = true ∧ s.flag F.LMU_STS_SPEND0 = false ∧ s.flag F.LMU_STS_SPEND1 = false) ∧
    (∃ (m : Master) (s : State), s.grants m .u 0x380000 = true) ∧
    (∃ (a : Nat) (d : Nat) (s : State), (urgentBlock a ((s.wr (F.LMU_PROT_LATCH d) 1).inc F.LMU_PROTCNT_FIRES)).eff = stRUN) ∧
    (∃ (d : Fin 8) (s : State), s.flag (F.LMU_PROT_EN d) = false ∧ s.rdBit F.TLY_LTRIG_LWC d = false) :=
  ⟨⟨63, on 6 [(F.LMU_ADC_CFG_FIRST 0, 1), (F.LMU_ADC_CFG_LAST 0, 0), (F.LMU_ADC_CFG_FIRST 1, 1), (F.LMU_ADC_CFG_LAST 1, 0)], by decide +kernel⟩,
   ⟨0, on 6 [], by decide +kernel⟩,
   ⟨0, {}, [], { on 6 [] with lmu := { (on 6 []).lmu with meters := [{ ended := [{}] }] } }, by decide +kernel⟩,
   ⟨0, { incomp := true }, [], { on 6 [] with lmu := { (on 6 []).lmu with meters := [{ ended := [{ incomp := true }] }] } }, by decide +kernel⟩,
   ⟨.pf0, on 6 [(F.LMU_STS_SPEND0, 1)], by decide⟩,
   ⟨.pf0, on 6 [], by decide⟩,
   ⟨.pf1, on 6 [], by decide⟩,
   ⟨0, 0, on 6 [], by decide +kernel⟩,
   ⟨0, on 6 [(F.TLY_LTRIG_LWC, 0), (F.LMU_PROT_EN 0, 0)], by decide +kernel⟩⟩

/-- Values that meet the hypotheses of SafetyBlock, clause by clause. -/
theorem witness_SafetyBlock :
    (∃ (s : State), s.sbuCfg = true) ∧
    (∃ (p : Fin 8) (s : State), s.pairMode p ≠ 0 ∧ s.safe (66 + 16 * p.val) 2 + 1 ≤ (s.pair p).dcount ∧ (s.pair p).disc = false) ∧
    (∃ (p : Fin 8) (s : State), (s.pair p).disc = true) ∧
    (∃ (m : Master) (k : BitVec 16) (s : State), s.grants m .p 0x3A0008 = true ∧ k.toNat ≠ 0xA5C3) ∧
    (∃ (m : Master) (s : State), s.grants m .p 0x3A0008 = true ∧
      ((s.wr F.SBU_CMDSTS_SEQ (s.rd F.SBU_CMDSTS_SEQ + 1)).event 2).sbu.preqA = true) ∧
    (∃ (m : Master) (s : State), s.grants m .p 0x3A0008 = true ∧
      ((s.wr F.SBU_CMDSTS_SEQ (s.rd F.SBU_CMDSTS_SEQ + 1)).event 2).sbu.preqA = false ∧
      ((s.wr F.SBU_CMDSTS_SEQ (s.rd F.SBU_CMDSTS_SEQ + 1)).event 2).sbu.preqB = false) ∧
    (∃ (k : Fin 2) (s : State), s.sbuCfg = true ∧ s.safe (193 + 16 * k.val) 1 = 1 ∧ (s.path k).test = 0) ∧
    (∃ (k : Fin 2) (s : State), (s.path k).test = 0) ∧
    (∃ (k : Fin 2) (r : BitVec 2) (s : State), (s.path k).test ≠ 0 ∧ testPass (s.path k) r.toNat = true) ∧
    (∃ (k : Fin 2) (r : BitVec 2) (s : State), (s.path k).test ≠ 0 ∧ testPass (s.path k) r.toNat = false) ∧
    (∃ (s : State), s.glb.vinOn = true) ∧
    (∃ (s : State), s.glb.vinOn = false) ∧
    (∃ (s : State), s.glb.vinOn = true) ∧
    (∃ (s : State), s.glb.vauxOn = false) ∧
    (∃ (s : State), s.glb.vauxOn = true) ∧
    (∃ (k : Nat) (s : State), k < 2 ∧ (s.path k).on = false ∧ ((driveOne k s).path k).on = true) ∧
    (∃ (p : Fin 8) (s : State), s.pairMode p = 0) ∧
    (∃ (p : Fin 8) (s : State), s.pairMode p ≠ 0 ∧ s.pairClosed p = false) :=
  ⟨⟨{ on 6 [] with sbu := { (on 6 []).sbu with sec := [0] } }, by decide⟩,
   ⟨0, { on 6 [] with sbu := { (on 6 []).sbu with sec := List.replicate 64 0 ++ [1], pairs := [{ dcount := 9 }] } }, by decide +kernel⟩,
   ⟨0, { on 6 [] with sbu := { (on 6 []).sbu with pairs := [{ disc := true }] } }, by decide +kernel⟩,
   ⟨.pf0, 0, on 6 [], by decide⟩,
   ⟨.pf0, { on 6 [] with sbu := { (on 6 []).sbu with preqA := true } }, by decide +kernel⟩,
   ⟨.pf0, on 6 [], by decide +kernel⟩,
   ⟨0, { on 6 [] with sbu := { (on 6 []).sbu with sec := List.replicate 193 0 ++ [1], crc := 0 } }, by decide +kernel⟩,
   ⟨0, on 6 [], by decide +kernel⟩,
   ⟨0, 0, { on 6 [] with sbu := { (on 6 []).sbu with paths := [{ on := true, test := 1 }] } }, by decide +kernel⟩,
   ⟨0, 1, { on 6 [] with sbu := { (on 6 []).sbu with paths := [{ on := true, test := 1 }] } }, by decide +kernel⟩,
   ⟨on 6 [], by decide⟩,
   ⟨dark true, by decide⟩,
   ⟨on 6 [], by decide⟩,
   ⟨dark false, by decide⟩,
   ⟨dark true, by decide⟩,
   ⟨0, { on 6 [] with sbu := { (on 6 []).sbu with sec := List.replicate 192 0 ++ [1, 0, 0, 0], crc := 0, preqA := true, preqB := true, preqWas := true, vsafeOk := true } }, by decide +kernel⟩,
   ⟨0, on 6 [], by decide +kernel⟩,
   ⟨0, { on 6 [] with sbu := { (on 6 []).sbu with sec := List.replicate 64 0 ++ [1] } }, by decide +kernel⟩⟩

/-- Values that meet the hypotheses of RecipeCommands, clause by clause. -/
theorem witness_RecipeCommands :
    (∃ (m : Master) (x : Nat × Nat) (s : State), s.grants m .p 0x10000 = true ∧ s.rcp.job = some x) ∧
    (∃ (m : Master) (s : State), s.grants m .p 0x10000 = true ∧ s.rcp.job = none) ∧
    (∃ (m : Master) (i : BitVec 4) (s : State), s.grants m .p 0x10000 = true ∧ s.rcp.job = none ∧ 1 < i.toNat) ∧
    (∃ (m : Master) (i : BitVec 4) (s : State), s.grants m .p 0x10000 = true ∧ s.rcp.job = none ∧ i.toNat ≤ 1 ∧
      (s.slot i.toNat).valid = true) ∧
    (∃ (m : Master) (i : BitVec 4) (s : State), s.grants m .p 0x10000 = true ∧ s.rcp.job = none ∧ i.toNat ≤ 1 ∧
      (s.slot i.toNat).valid = false) ∧
    (∃ (m : Master) (k : BitVec 16) (s : State), s.grants m .p 0x10000 = true ∧ s.rcp.job = none ∧ k.toNat ≠ 0xA5C3) ∧
    (∃ (m : Master) (i : BitVec 4) (s : State), s.grants m .p 0x10000 = true ∧ s.rcp.job = none ∧ i.toNat ≤ 1 ∧
      s.flag F.RCP_STS_STAGE_OK = false) ∧
    (∃ (m : Master) (i : BitVec 4) (s : State), s.grants m .p 0x10000 = true ∧ s.rcp.job = none ∧ i.toNat ≤ 1 ∧
      s.flag F.RCP_STS_STAGE_OK = true) ∧
    (∃ (m : Master) (i : BitVec 4) (s : State), s.grants m .p 0x10000 = true ∧ s.rcp.job = none ∧ i.toNat ≤ 1) ∧
    (∃ (m : Master) (s : State), s.grants m .p 0x10000 = true ∧ s.rcp.job = none) ∧
    (∃ (m : Master) (s : State), s.grants m .p 0x10000 = true ∧ s.rcp.job = none ∧ s.rd F.RCP_HOUSE_LEN_N = 0) ∧
    (∃ (m : Master) (c : Nat) (t : Nat) (o : Nat) (s : State), s.grants m .p 0x10000 = true ∧ s.rcp.job = none ∧
      s.commitVerdict true = some (c, t, o)) ∧
    (∃ (m : Master) (s : State), s.grants m .p 0x10000 = true ∧ s.rcp.job = none ∧ s.commitVerdict true = none) ∧
    (∃ (s : State), s.rcp.job = some (1, 0)) ∧
    (∃ (i : Nat) (s : State), s.rcp.job = some (4, i) ∧ s.rcp.auto = none) ∧
    (∃ (i : Nat) (s : State), s.rcp.job = some (4, i)) ∧
    (∃ (i : Nat) (s : State), s.rcp.job = some (3, i)) ∧
    (∃ (i : Nat) (s : State), s.rcp.job = some (3, i) ∧ s.stage (s.slot i).image.length = (s.slot i).image) ∧
    (∃ (i : Nat) (s : State), s.rcp.job = some (7, i)) ∧
    (∃ (t : Nat) (s : State), s.rcp.job = some (9, t) ∧ s.flag F.RCP_HOUSE_NONE = false) ∧
    (∃ (t : Nat) (s : State), s.rcp.job = some (9, t)) ∧
    (∃ (m : Master) (s : State), s.grants m .p 0x10000 = true ∧ s.rcp.job = some (1, 0) ∧ s.rcp.auto = none) ∧
    (∃ (m : Master) (i : Nat) (s : State), s.grants m .p 0x10000 = true ∧ s.rcp.job = some (4, i) ∧ s.rcp.auto = none) ∧
    (∃ (m : Master) (s : State), s.grants m .p 0x10000 = true ∧ s.rcp.job = some (2, 0) ∧ s.rcp.prep = none ∧ s.rcp.auto = none) ∧
    (∃ (m : Master) (c : Nat) (i : Nat) (s : State), s.grants m .p 0x10000 = true ∧ s.rcp.job = some (c, i) ∧ c ≠ 1 ∧ c ≠ 2 ∧ c ≠ 4) ∧
    (∃ (m : Master) (s : State), s.grants m .p 0x10000 = true ∧ s.rcp.job = none) ∧
    (∃ (code : Nat), code < 256) :=
  ⟨⟨.pf0, (3, 0), { on 4 [] with rcp := { (on 4 []).rcp with job := some (3, 0) } }, by decide +kernel⟩,
   ⟨.pf0, on 4 [], by decide +kernel⟩,
   ⟨.pf0, 2, on 4 [], by decide +kernel⟩,
   ⟨.pf0, 1, { on 4 [] with rcp := { (on 4 []).rcp with slots := [{}, { valid := true }] } }, by decide +kernel⟩,
   ⟨.pf0, 1, on 4 [], by decide +kernel⟩,
   ⟨.pf0, 0, on 4 [], by decide +kernel⟩,
   ⟨.pf0, 1, on 4 [], by decide +kernel⟩,
   ⟨.pf0, 1, on 4 [(F.RCP_STS_STAGE_OK, 1)], by decide +kernel⟩,
   ⟨.pf0, 1, on 4 [], by decide +kernel⟩,
   ⟨.pf0, on 4 [], by decide +kernel⟩,
   ⟨.pf0, on 4 [], by decide +kernel⟩,
   ⟨.pf0, 0x1B, 0, 0, on 4 [], by decide +kernel⟩,
   ⟨.pf0, goodImage, by decide +kernel⟩,
   ⟨{ on 4 [] with rcp := { (on 4 []).rcp with job := some (1, 0) } }, by decide⟩,
   ⟨0, { on 4 [] with rcp := { (on 4 []).rcp with job := some (4, 0) } }, by decide⟩,
   ⟨0, { on 4 [] with rcp := { (on 4 []).rcp with job := some (4, 0) } }, by decide⟩,
   ⟨0, { on 4 [] with rcp := { (on 4 []).rcp with job := some (3, 0) } }, by decide⟩,
   ⟨0, { on 4 [] with rcp := { (on 4 []).rcp with job := some (3, 0) } }, by decide +kernel⟩,
   ⟨0, { on 4 [] with rcp := { (on 4 []).rcp with job := some (7, 0) } }, by decide⟩,
   ⟨1, { on 4 [(F.RCP_HOUSE_NONE, 0)] with rcp := { (on 4 [(F.RCP_HOUSE_NONE, 0)]).rcp with job := some (9, 1) } }, by decide⟩,
   ⟨1, { on 4 [] with rcp := { (on 4 []).rcp with job := some (9, 1) } }, by decide⟩,
   ⟨.pf0, { on 4 [] with rcp := { (on 4 []).rcp with job := some (1, 0) } }, by decide +kernel⟩,
   ⟨.pf0, 0, { on 4 [] with rcp := { (on 4 []).rcp with job := some (4, 0) } }, by decide +kernel⟩,
   ⟨.pf0, { on 4 [] with rcp := { (on 4 []).rcp with job := some (2, 0) } }, by decide +kernel⟩,
   ⟨.pf0, 3, 0, { on 4 [] with rcp := { (on 4 []).rcp with job := some (3, 0) } }, by decide +kernel⟩,
   ⟨.pf0, on 4 [], by decide +kernel⟩,
   ⟨0x16, by decide⟩⟩

/-- Values that meet the hypotheses of RecipeKeys, clause by clause. -/
theorem witness_RecipeKeys :
    (∃ (m : Master) (k : BitVec 16) (s : State), s.grants m .p 0x10000 = true ∧ s.rcp.job = none ∧ k.toNat ≠ 0xA5C3) ∧
    (∃ (m : Master) (s : State), s.grants m .p 0x10000 = true ∧ s.rcp.job = none ∧ (s.eff = stARMED ∨ s.eff = stRUN
      ∨ s.eff = stBLOCKED)) ∧
    (∃ (m : Master) (i : BitVec 4) (k : KeySlot) (s : State), s.grants m .p 0x10000 = true ∧ s.rcp.job = none ∧ s.keysLocked = false
      ∧ s.rcp.keys[i.toNat]? = some k ∧ k.state = 0 ∧ onCurve (keyPoint s.keyBuf) = true) ∧
    (∃ (m : Master) (i : BitVec 4) (k : KeySlot) (s : State), s.grants m .p 0x10000 = true ∧ s.rcp.job = none ∧ s.keysLocked = false
      ∧ s.rcp.keys[i.toNat]? = some k ∧ (k.state ≠ 0 ∨ onCurve (keyPoint s.keyBuf) = false)) ∧
    (∃ (m : Master) (i : BitVec 4) (k : KeySlot) (s : State), s.grants m .p 0x10000 = true ∧ s.rcp.job = none ∧ s.keysLocked = false
      ∧ s.rcp.keys[i.toNat]? = some k ∧ k.state = 1 ∧ 2 ≤ (s.rcp.keys.filter (·.state == 1)).length) ∧
    (∃ (m : Master) (s : State), s.grants m .p 0x10000 = true ∧ s.rcp.job = none ∧ s.keysLocked = false ∧
      (s.rcp.keys.filter (·.state == 1)).length < 2) ∧
    (∃ (m : Master) (s : State), s.grants m .p 0x10000 = true ∧ s.rcp.job = none ∧ s.rcp.minver ≤ s.rd F.RCP_ACT_VER_VALUE) ∧
    (∃ (m : Master) (s : State), s.grants m .p 0x10000 = true ∧ s.rcp.job = none ∧ s.rd F.RCP_ACT_VER_VALUE < s.rcp.minver) ∧
    (∃ (m : Master) (s : State), s.grants m .p 0x10000 = true ∧ s.rcp.job = none ∧ s.safePending = false) ∧
    (∃ (m : Master) (s : State), s.grants m .p 0x10000 = true ∧ s.rcp.job = none ∧ s.safePending = true ∧
      s.rd F.RCP_SAFEACK_CODE ≠ 0xFFFFFFFF - s.rd (secCrcFld 6) ∧ s.rd F.RCP_STS_ACK_FAIL < 2) ∧
    (∃ (m : Master) (s : State), s.grants m .p 0x10000 = true ∧ s.rcp.job = none ∧ s.safePending = true ∧
      s.rd F.RCP_SAFEACK_CODE ≠ 0xFFFFFFFF - s.rd (secCrcFld 6) ∧ s.rd F.RCP_STS_ACK_FAIL = 2) ∧
    (∃ (m : Master) (s : State), s.grants m .p 0x10000 = true ∧ s.rcp.job = none ∧ s.safePending = true ∧
      s.rd F.RCP_SAFEACK_CODE = 0xFFFFFFFF - s.rd (secCrcFld 6)) ∧
    (∃ (s : State), s.safePending = true) ∧
    (∃ (s : State), s.safePending = false) :=
  ⟨⟨.pf0, 0, on 4 [], by decide +kernel⟩,
   ⟨.pf0, on 6 [], by decide +kernel⟩,
   ⟨.pf0, 0, {}, goodPoint, by decide +kernel⟩,
   ⟨.pf0, 0, ⟨1, none⟩, { on 4 [] with rcp := { (on 4 []).rcp with keys := [⟨1, none⟩] } }, by decide +kernel⟩,
   ⟨.pf0, 0, ⟨1, none⟩, { on 4 [] with rcp := { (on 4 []).rcp with keys := [⟨1, none⟩, ⟨1, none⟩] } }, by decide +kernel⟩,
   ⟨.pf0, on 4 [], by decide +kernel⟩,
   ⟨.pf0, on 4 [], by decide +kernel⟩,
   ⟨.pf0, { on 4 [] with rcp := { (on 4 []).rcp with minver := 1 } }, by decide +kernel⟩,
   ⟨.pf0, on 4 [], by decide +kernel⟩,
   ⟨.pf0, on 4 [(F.RCP_STS_SAFE_STATE, 1)], by decide +kernel⟩,
   ⟨.pf0, on 4 [(F.RCP_STS_SAFE_STATE, 1), (F.RCP_STS_ACK_FAIL, 2)], by decide +kernel⟩,
   ⟨.pf0, on 4 [(F.RCP_STS_SAFE_STATE, 1), (F.RCP_SAFEACK_CODE, 0xFFFFFFFF)], by decide +kernel⟩,
   ⟨on 4 [(F.RCP_STS_SAFE_STATE, 1)], by decide +kernel⟩,
   ⟨on 4 [], by decide +kernel⟩⟩

/-- Values that meet the hypotheses of RecipeSwitch, clause by clause. -/
theorem witness_RecipeSwitch :
    (∃ (p : Prep) (s : State), s.rcp.prep = some p ∧ p.ready = false ∧ s.running = true ∧ p.k = none) ∧
    (∃ (p : Prep) (k : Nat) (s : State), s.rcp.prep = some p ∧ p.ready = false ∧ s.running = true ∧ p.k = some k ∧ p.role = roACTIVE
      ∧ p.confirmed = false ∧ p.alone = false) ∧
    (∃ (p : Prep) (s : State), s.rcp.prep = some p ∧ p.ready = false ∧ s.running = false) ∧
    (∃ (p : Prep) (s : State), s.rcp.prep = some p ∧ p.ready = true ∧ s.switchDue p = true ∧
      stateVerdict { p.img with flags := clearBit p.img.flags 0 } p.changed s.st = 0) ∧
    (∃ (p : Prep) (s : State), s.rcp.prep = some p ∧ p.ready = true ∧ s.switchDue p = true ∧
      stateVerdict { p.img with flags := clearBit p.img.flags 0 } p.changed s.st ≠ 0 ∧ s.rcp.auto = none) ∧
    (∃ (p : Prep) (s : State), s.rcp.prep = some p ∧ (p.ready = false ∨ s.switchDue p = false)) ∧
    (∃ (k : Nat), k < 2 ^ 32) ∧
    (∃ (s : State), s.standbyWrite = true ∧ s.flag F.RCP_STS_STAGE_OK = false) ∧
    (∃ (p : Prep) (k : Nat) (s : State), s.rcp.prep = some p ∧ p.k = some k ∧ p.ready = true) ∧
    (∃ (p : Prep) (k : Nat) (s : State), s.rcp.prep = some p ∧ p.k = some k ∧ p.confirmed = false ∧ s.deadlineDue k = true ∧
      s.flag F.RCP_TWINCFG_REQ_BOTH = true) ∧
    (∃ (p : Prep) (k : Nat) (s : State), s.rcp.prep = some p ∧ p.k = some k ∧ p.confirmed = false ∧ s.deadlineDue k = true ∧
      s.flag F.RCP_TWINCFG_REQ_BOTH = false ∧ s.role ≠ roSTANDBY ∧ p.ready = true) :=
  ⟨⟨{ img := {}, changed := [] }, { on 4 [(F.SCH_CFG_RUNNING, 1)] with rcp := { (on 4 [(F.SCH_CFG_RUNNING, 1)]).rcp with prep := some ({ img := {}, changed := [] } : Prep) } }, by decide +kernel⟩,
   ⟨{ img := {}, changed := [], k := some 5, role := 2 }, 5, { on 4 [(F.SCH_CFG_RUNNING, 1)] with rcp := { (on 4 [(F.SCH_CFG_RUNNING, 1)]).rcp with prep := some ({ img := {}, changed := [], k := some 5, role := 2 } : Prep) } }, by decide +kernel⟩,
   ⟨{ img := {}, changed := [], k := some 5 }, { on 4 [] with rcp := { (on 4 []).rcp with prep := some ({ img := {}, changed := [], k := some 5 } : Prep) } }, by decide +kernel⟩,
   ⟨{ img := {}, changed := [], ready := true }, { on 3 [] with rcp := { (on 3 []).rcp with prep := some ({ img := {}, changed := [], ready := true } : Prep) } }, by decide +kernel⟩,
   ⟨{ img := {}, changed := [1], ready := true }, { on 6 [] with rcp := { (on 6 []).rcp with prep := some ({ img := {}, changed := [1], ready := true } : Prep) } }, by decide +kernel⟩,
   ⟨{ img := {}, changed := [], k := some 5 }, { on 4 [] with rcp := { (on 4 []).rcp with prep := some ({ img := {}, changed := [], k := some 5 } : Prep) } }, by decide +kernel⟩,
   ⟨1, by decide⟩,
   ⟨on 6 [(F.GLB_ROLE_TWIN, 1), (F.GLB_ROLE_ROLE, 3)], by decide +kernel⟩,
   ⟨{ img := {}, changed := [], k := some 5, ready := true }, 5, { on 4 [(F.SCH_CFG_RUNNING, 1)] with rcp := { (on 4 [(F.SCH_CFG_RUNNING, 1)]).rcp with prep := some ({ img := {}, changed := [], k := some 5, ready := true } : Prep) } }, by decide +kernel⟩,
   ⟨{ img := {}, changed := [], k := some 5 }, 5, { on 4 [(F.RCP_TWINCFG_REQ_BOTH, 1), (F.SCH_CYC_CYC, 3)] with rcp := { (on 4 [(F.RCP_TWINCFG_REQ_BOTH, 1), (F.SCH_CYC_CYC, 3)]).rcp with prep := some ({ img := {}, changed := [], k := some 5 } : Prep) } }, by decide +kernel⟩,
   ⟨{ img := {}, changed := [], k := some 5, ready := true }, 5, { on 4 [(F.RCP_TWINCFG_REQ_BOTH, 0), (F.SCH_CYC_CYC, 3)] with rcp := { (on 4 [(F.RCP_TWINCFG_REQ_BOTH, 0), (F.SCH_CYC_CYC, 3)]).rcp with prep := some ({ img := {}, changed := [], k := some 5, ready := true } : Prep) } }, by decide +kernel⟩⟩

/-- Values that meet the hypotheses of RelayLink, clause by clause. -/
theorem witness_RelayLink :
    (∃ (j : Fin 4) (s : State), s.relayUp = true ∧ s.rdBit F.TWN_STS_LANES j = true ∧ clearBit (s.rd F.TWN_STS_LANES) j ≠ 0) ∧
    (∃ (j : Fin 4) (s : State), s.relayUp = true ∧ s.rdBit F.TWN_STS_LANES j = true ∧ clearBit (s.rd F.TWN_STS_LANES) j = 0) ∧
    (∃ (s : State), s.relayUp = true) ∧
    (∃ (s : State), s.relayUp = false) ∧
    (∃ (s : State), s.relayUp = true) ∧
    (∃ (s : State), s.rd F.TWN_STS_LSTATE = 2) ∧
    (∃ (s : State), s.rd F.TWN_STS_LSTATE ≠ 2) ∧
    (∃ (m : Master) (s : State), s.grants m .p 0x3C0000 = true ∧ s.running = true) ∧
    (∃ (s : State), s.flag F.GLB_ROLE_TWIN = true) ∧
    (∃ (m : Master) (s : State), s.grants m .u 0x3C0000 = true) ∧
    (∃ (s : State), s.relayUp = true ∧ s.armcyc ≠ 0) ∧
    (∃ (s : State), s.relayUp = true) ∧
    (∃ (s : State), s.relayUp = true) ∧
    (∃ (s : State), s.flag F.GLB_ROLE_TWIN = true) ∧
    (∃ (s : State), s.relayUp = true) ∧
    (∃ (s : State), s.rdBit F.TWN_NRCAUSE_CAUSE 3 = false ∧ 16 ≤ s.twn.alignBad) ∧
    (∃ (s : State), s.rdBit F.TWN_NRCAUSE_CAUSE 3 = true ∧ 16 ≤ s.twn.alignGood) :=
  ⟨⟨0, on 6 [(F.TWN_STS_LSTATE, 3), (F.TWN_STS_LANES, 15)], by decide⟩,
   ⟨3, on 6 [(F.TWN_STS_LSTATE, 3), (F.TWN_STS_LANES, 8)], by decide⟩,
   ⟨on 6 [(F.TWN_STS_LSTATE, 3)], by decide⟩,
   ⟨on 6 [], by decide⟩,
   ⟨on 6 [(F.TWN_STS_LSTATE, 3)], by decide⟩,
   ⟨on 6 [(F.TWN_STS_LSTATE, 2)], by decide⟩,
   ⟨on 6 [], by decide⟩,
   ⟨.pf0, on 6 [(F.SCH_CFG_RUNNING, 1)], by decide⟩,
   ⟨on 3 [(F.GLB_ROLE_TWIN, 1)], by decide⟩,
   ⟨.pf1, on 6 [], by decide⟩,
   ⟨on 6 [(F.TWN_STS_LSTATE, 3), (F.SCH_CFG_ARMCYC, 50000)], by decide⟩,
   ⟨on 6 [(F.TWN_STS_LSTATE, 3)], by decide⟩,
   ⟨on 6 [(F.TWN_STS_LSTATE, 3)], by decide⟩,
   ⟨on 6 [(F.GLB_ROLE_TWIN, 1)], by decide⟩,
   ⟨on 6 [(F.TWN_STS_LSTATE, 3)], by decide⟩,
   ⟨{ on 6 [] with twn := { (on 6 []).twn with alignBad := 16 } }, by decide⟩,
   ⟨{ on 6 [(F.TWN_NRCAUSE_CAUSE, 8)] with twn := { (on 6 [(F.TWN_NRCAUSE_CAUSE, 8)]).twn with alignGood := 16 } }, by decide⟩⟩

/-- Values that meet the hypotheses of CarriedItems, clause by clause. -/
theorem witness_CarriedItems :
    (∃ (s : State), s.twn.refresh = none) ∧
    (∃ (k : Nat) (s : State), cycDiff k s.cyc ≤ 0) ∧
    (∃ (k : Nat) (s : State), 0 < cycDiff k s.cyc) ∧
    (∃ (s : State), s.twinned = true ∧ s.role = roACTIVE ∧ s.relayUp = true ∧ s.flag F.TWN_STS_PNR = true) ∧
    (∃ (s : State), s.flag F.TWN_STS_PNR = false) ∧
    (∃ (x : Nat) (a : Nat) (s : State), s.twn.refresh = some (x, a) ∧ s.role = roSTANDBY ∧ s.cycleDue a = true) ∧
    (∃ (s : State), s.twn.refresh = none) :=
  ⟨⟨on 6 [], by decide⟩,
   ⟨0, on 6 [], by decide⟩,
   ⟨1, on 6 [], by decide⟩,
   ⟨on 6 [(F.TWN_STS_LSTATE, 3), (F.GLB_ROLE_ROLE, 2), (F.GLB_ROLE_TWIN, 1), (F.TWN_STS_PNR, 1)], by decide⟩,
   ⟨on 6 [], by decide⟩,
   ⟨5, 0, { on 6 [(F.GLB_ROLE_ROLE, 3)] with twn := { (on 6 [(F.GLB_ROLE_ROLE, 3)]).twn with refresh := some (5, 0) } }, by decide⟩,
   ⟨on 6 [], by decide⟩⟩

/-- Values that meet the hypotheses of Takeover, clause by clause. -/
theorem witness_Takeover :
    (∃ (s : State), s.relayUp = true ∧ s.twn.hbMiss < 2) ∧
    (∃ (s : State), s.relayUp = true ∧ s.twn.hbMiss = 2 ∧ s.flag F.TWN_CFG_TKHB = false) ∧
    (∃ (x : Nat) (s : State), s.role = roSTANDBY ∧ x ≠ 2 ∧ (s.rd F.TWN_NRCAUSE_CAUSE ≠ 0 ∨ s.twn.tk ≠ none)) ∧
    (∃ (s : State), s.role = roSTANDBY ∧ s.rd F.TWN_NRCAUSE_CAUSE = 0 ∧ s.twn.tk = none ∧ s.twn.nextRole = none ∧
      s.nextEpoch ≤ 0xFFFF) ∧
    (∃ (s : State), s.relayUp = true ∧ s.role = roSTANDBY ∧ (raise 381 s).flag F.TWN_CFG_TKREQ = true) ∧
    (∃ (m : Master) (k : BitVec 16) (s : State), s.grants m .p 0x3C0004 = true ∧ k.toNat ≠ 0xA5C3) ∧
    (∃ (m : Master) (s : State), s.grants m .p 0x3C0004 = true ∧ s.role = roSTANDBY ∧ s.twn.tk = none) ∧
    (∃ (m : Master) (s : State), s.grants m .p 0x3C0004 = true ∧ s.role = roACTIVE ∧ s.relayUp = true ∧
      s.flag F.TWN_STS_PNR = false) ∧
    (∃ (x : Nat) (t : Nat) (s : State), s.twn.tk = some (x, t) ∧ s.running = true ∧ s.role = roSTANDBY ∧ s.takeoverDue t = true) ∧
    (∃ (s : State), s.relayUp = true ∧ s.role = roACTIVE ∧ s.twn.reh = none) ∧
    (∃ (s : State), s.role = roSTANDBY ∧ s.twn.tkAt = none) ∧
    (∃ (s : State), s.running = true ∧ s.role = roSTANDBY ∧ s.flag F.GLB_ROLE_NOT_READY = true ∧ s.relayUp = false ∧
      s.rd F.TWN_CFG_ORPHAN ≤ s.twn.orphan ∧ s.twn.nextRole = none ∧ s.nextEpoch ≤ 0xFFFF) ∧
    (∃ (t : Nat) (s : State), s.twn.revFrom = some t ∧ s.revertReady = true ∧ t + s.rd F.TWN_REVERT_HOLD_S * 1000000000 ≤ s.rawNs ∧
      s.twn.tk = none ∧ s.twn.nextRole = none) ∧
    (∃ (s : State), s.twn.revFrom = none) :=
  ⟨⟨on 6 [(F.TWN_STS_LSTATE, 3)], by decide⟩,
   ⟨{ on 6 [(F.TWN_STS_LSTATE, 3), (F.TWN_CFG_TKHB, 0)] with twn := { (on 6 [(F.TWN_STS_LSTATE, 3), (F.TWN_CFG_TKHB, 0)]).twn with hbMiss := 2 } }, by decide +kernel⟩,
   ⟨4, on 6 [(F.GLB_ROLE_ROLE, 3), (F.TWN_NRCAUSE_CAUSE, 1)], by decide⟩,
   ⟨on 6 [(F.GLB_ROLE_ROLE, 3), (F.TWN_NRCAUSE_CAUSE, 0)], by decide⟩,
   ⟨on 6 [(F.TWN_STS_LSTATE, 3), (F.GLB_ROLE_ROLE, 3), (F.TWN_CFG_TKREQ, 1)], by decide +kernel⟩,
   ⟨.pf0, 0, on 6 [], by decide⟩,
   ⟨.pf0, on 6 [(F.GLB_ROLE_ROLE, 3)], by decide +kernel⟩,
   ⟨.pf0, on 6 [(F.TWN_STS_LSTATE, 3), (F.GLB_ROLE_ROLE, 2), (F.GLB_ROLE_TWIN, 1)], by decide +kernel⟩,
   ⟨4, 0, { on 6 [(F.GLB_ROLE_ROLE, 3), (F.SCH_CFG_RUNNING, 1), (F.SCH_CFG_ARMCYC, 5000)] with twn := { (on 6 []).twn with tk := some (4, 0) }, tb := { (on 6 []).tb with raw := 4600 * 65536 } }, by decide +kernel⟩,
   ⟨on 6 [(F.TWN_STS_LSTATE, 3), (F.GLB_ROLE_ROLE, 2), (F.GLB_ROLE_TWIN, 1)], by decide⟩,
   ⟨on 6 [(F.GLB_ROLE_ROLE, 3)], by decide +kernel⟩,
   ⟨{ on 6 [(F.GLB_ROLE_ROLE, 3), (F.SCH_CFG_RUNNING, 1), (F.GLB_ROLE_NOT_READY, 1)] with twn := { (on 6 []).twn with orphan := 255 } }, by decide +kernel⟩,
   ⟨0, { on 6 [(F.GLB_ROLE_ROLE, 3), (F.GLB_ROLE_PREF, 1), (F.TWN_STS_INSYNC, 1), (F.FC_LIN_RUNNING, 1)] with twn := { (on 6 []).twn with revFrom := some 0 }, tb := { (on 6 []).tb with raw := 70000000000000 * 65536 } }, by decide +kernel⟩,
   ⟨on 6 [], by decide⟩⟩

/-- Values that meet the hypotheses of RehearsalAndResync, clause by clause. -/
theorem witness_RehearsalAndResync :
    (∃ (m : Master) (s : State), s.grants m .p 0x3C0004 = true ∧ s.rehReady = true) ∧
    (∃ (m : Master) (s : State), s.grants m .p 0x3C0004 = true ∧ s.rehReady = false) ∧
    (∃ (s : State), s.flag F.TWN_REHCFG_AUTO = true ∧ s.rehReady = true ∧ s.twn.rehDone = false) ∧
    (∃ (s : State), s.relayUp = true ∧ s.role = roSTANDBY ∧ s.eff = stBLOCKED) ∧
    (∃ (q : Rehearsal) (s : State), s.twn.reh = some q ∧ q.phase = 0 ∧ q.abort = false ∧ -1 ≤ cycDiff s.cyc q.r ∧ s.role = roSTANDBY
      ∧ s.sch.frozen = false ∧ s.rd F.TWN_PEPOCH_EPOCH < 65535) ∧
    (∃ (q : Rehearsal) (s : State), s.twn.reh = some q ∧ q.phase = 1 ∧ (q.len : Int) - 1 ≤ cycDiff s.cyc q.r ∧ s.role = roACTIVE ∧
      s.sch.frozen = false) ∧
    (∃ (q : Rehearsal) (s : State), s.twn.reh = some q ∧ q.phase = 2 ∧ q.abort = false ∧ s.role = roACTIVE ∧
      (q.len : Int) + 2 ≤ cycDiff s.cyc q.r) ∧
    (∃ (l : List Nat), l.length < 8192) ∧
    (∃ (s : State), s.rd F.TWN_EXERCISE_DAYS ≠ 0 ∧ s.twn.overdue = false ∧
      s.rd64 F.TWN_LASTDRV_LO_T F.TWN_LASTDRV_HI_T + s.rd F.TWN_EXERCISE_DAYS * 86400000000000 < s.now) ∧
    (∃ (m : Master) (n : Byte) (s : State), s.grants m .p 0x3C0004 = true ∧ s.role = roSTANDBY ∧ s.relayUp = true ∧
      s.arms.contains n.toNat = true) ∧
    (∃ (m : Master) (s : State), s.grants m .p 0x3C0004 = true ∧ (s.role ≠ roSTANDBY ∨ s.relayUp = false)) ∧
    (∃ (n : Nat) (s : State), s.twn.resync = some (n, s.cyc) ∧ s.sch.frozen = false) ∧
    (∃ (s : State), s.relayUp = true ∧ s.role = roSTANDBY) ∧
    (∃ (b : List Byte) (s : State), s.relayUp = true ∧ s.role = roSTANDBY ∧ b.length < 64) :=
  ⟨⟨.pf0, on 7 [(F.TWN_STS_LSTATE, 3), (F.GLB_ROLE_ROLE, 2), (F.GLB_ROLE_TWIN, 1), (F.TWN_STS_PSTATE, 7)], by decide +kernel⟩,
   ⟨.pf0, on 6 [], by decide +kernel⟩,
   ⟨on 7 [(F.TWN_STS_LSTATE, 3), (F.GLB_ROLE_ROLE, 2), (F.GLB_ROLE_TWIN, 1), (F.TWN_STS_PSTATE, 7), (F.TWN_REHCFG_AUTO, 1)], by decide +kernel⟩,
   ⟨on 7 [(F.TWN_STS_LSTATE, 3), (F.GLB_ROLE_ROLE, 3)], by decide +kernel⟩,
   ⟨{}, { on 7 [(F.GLB_ROLE_ROLE, 3)] with twn := { (on 7 [(F.GLB_ROLE_ROLE, 3)]).twn with reh := some {} } }, by decide +kernel⟩,
   ⟨{ phase := 1, len := 1 }, { on 7 [(F.GLB_ROLE_ROLE, 2)] with twn := { (on 7 [(F.GLB_ROLE_ROLE, 2)]).twn with reh := some { phase := 1, len := 1 } } }, by decide +kernel⟩,
   ⟨{ phase := 2, len := 1 }, { on 7 [(F.GLB_ROLE_ROLE, 2), (F.SCH_CYC_CYC, 3)] with twn := { (on 7 [(F.GLB_ROLE_ROLE, 2), (F.SCH_CYC_CYC, 3)]).twn with reh := some { phase := 2, len := 1 } } }, by decide +kernel⟩,
   ⟨[3], by decide⟩,
   ⟨{ on 6 [(F.TWN_EXERCISE_DAYS, 1)] with tb := { (on 6 []).tb with raw := 2 ^ 63 } }, by decide +kernel⟩,
   ⟨.pf0, 0, on 6 [(F.TWN_STS_LSTATE, 3), (F.GLB_ROLE_ROLE, 3), (F.SCH_CFG_NARMS, 1)], by decide +kernel⟩,
   ⟨.pf0, on 6 [], by decide +kernel⟩,
   ⟨0, { on 6 [] with twn := { (on 6 []).twn with resync := some (0, 0) } }, by decide⟩,
   ⟨on 6 [(F.TWN_STS_LSTATE, 3), (F.GLB_ROLE_ROLE, 3), (F.GLB_ROLE_TWIN, 1)], by decide⟩,
   ⟨[], on 6 [(F.TWN_STS_LSTATE, 3), (F.GLB_ROLE_ROLE, 3), (F.GLB_ROLE_TWIN, 1)], by decide⟩⟩
end

section
/-! SUPPORT. The statements on the block as a whole (spec/00): the step, reset, the timebase clock, words of the Cellar, register
writes at the arbiter. -/

namespace Sys2Proof.Machine

/-! ### Ticks of the timebase clock (R353) -/

/-- Ticks in a row move TB.RAW by 2 ns each, modulo 2^64, and only the timebase part of the state (R13, R353). -/
theorem repeat_tick_spec (k : Nat) (s : State) (h : s.tb.raw < rawMod) :
    ∃ tb : TbSt, Nat.repeat tick k s = { s with tb := tb } ∧ tb.raw = (s.tb.raw + k * rawPerTick) % rawMod := by
  induction k with
  | zero => exact ⟨s.tb, rfl, by simp [Nat.mod_eq_of_lt h]⟩
  | succ k ih =>
    obtain ⟨tb, hs, hraw⟩ := ih
    have hlt : (Nat.repeat tick k s).tb.raw < rawMod := by
      rw [hs, hraw]
      exact Nat.mod_lt _ (by decide)
    obtain ⟨n, o, r, f, hn, ht⟩ := tick_spec _ hlt
    refine ⟨{ tb with raw := n, ofsx := o, slewRem := r, slewFrac := f }, ?_, ?_⟩
    · rw [Nat.repeat, ht, hs]
    · rw [hn, hs, hraw, Nat.mod_add_mod, Nat.succ_mul, Nat.add_assoc]

/-- Settles O21: k ticks move the timebase part alone, and TB.RAW in it by k ticks of 2 ns. -/
theorem tickAdvancesRaw : Obligations.TickAdvancesRaw := by
  refine ⟨fun k s h => ?_, fun k s h => ?_⟩ <;> obtain ⟨tb, hs, hraw⟩ := repeat_tick_spec k s h
  · rw [hs]
    exact hraw
  · rw [hs]
    exact ⟨rfl, rfl, rfl⟩

/-! ### A word stored in the Cellar (R3) -/

@[simp] theorem leBytes_length (n x : Nat) : (leBytes n x).length = n := by
  induction n generalizing x with
  | zero => rfl
  | succ n ih => simp [leBytes, ih]

/-- The little-endian bytes of a number give it back, cut to their count. -/
theorem leNat_leBytes (n x : Nat) : leNat (leBytes n x) = x % 256 ^ n := by
  induction n generalizing x with
  | zero => simp [leBytes, leNat, Nat.mod_one]
  | succ n ih => simp [leBytes, leNat, ih, Nat.pow_succ', Nat.mod_mul]

/-- The range that a list of bytes was written to reads the list. -/
theorem Memory.readBytes_writeBytes (m : Memory) (a : Nat) (bs : List Byte) :
    (m.writeBytes a bs).readBytes a bs.length = bs := by
  rw [Memory.readBytes_eq]
  refine List.ext_getElem (by simp) fun i _ hi => ?_
  simp [Memory.read_writeBytes, hi]

/-- Settles O27: the four bytes of the word are read where they were written, and no other byte is touched. -/
theorem memoryReadsWhatWasStored : Obligations.MemoryReadsWhatWasStored := by
  refine ⟨fun m a v hv => ?_, fun m a v j hj => ?_⟩
  · have hb := Memory.readBytes_writeBytes m a (leBytes 4 v)
    rw [leBytes_length] at hb
    rw [Memory.read32, Memory.write32, hb, leNat_leBytes, Nat.mod_eq_of_lt (by omega)]
  · have hout : ¬ (a ≤ j ∧ j < a + (leBytes 4 v).length) := by
      rw [leBytes_length]
      omega
    rw [Memory.write32, Memory.read_writeBytes, if_neg hout]

/-! ### The step and reset -/

/-- Settles O1: `step` looks at the queue first; with an empty one the clock decides between a tick and an idle step. -/
theorem stepRunsTheFrontCommand : Obligations.StepRunsTheFrontCommand := by
  refine ⟨fun c s => rfl, fun c l s h => ?_, fun s h hc => ?_, fun s h hc => ?_⟩
  · simp only [step, h]
  · simp only [step, h, hc, if_true]
  · simp only [step, h, hc, Bool.false_eq_true, if_false]

/-- A register file that lists nothing reads the reset column (R5, R11). -/
theorem State.reset_rd (f : Fld) : State.reset.rd f = f.reset % 2 ^ f.w := by
  have hnone : State.reset.regs.get f.key = 0 := rfl
  rw [State.rd, hnone, Nat.zero_xor]

/-- Settles O2: the register file lists nothing, every store is empty, and the rest is as `State.reset` gives it. -/
theorem resetState : Obligations.ResetState :=
  ⟨State.reset_rd, reset_canonical, State.reset_rd _, State.reset_rd _, State.reset_rd _, rfl, rfl, rfl, rfl⟩

/-! ### The gate of a register write (R533, R28, R540, R565, R10, R532) -/

section Gate

variable {s : State} {m : Master} {a : Nat}

theorem gate_of_frozen (v : View) (k : State → State) (hf : s.frozen m.owner = true) : gate m v a k s = s := by
  simp [gate, hf]

theorem gate_of_not_reach (v : View) (k : State → State) (hr : s.reach m a = false) : gate m v a k s = s := by
  simp [gate, hr]

theorem gate_of_gatedAt {u : Nat} (v : View) (k : State → State) (hf : s.frozen m.owner = false) (hr : s.reach m a = true)
    (hg : s.gatedAt a = some u) : gate m v a k s = gateAccess u s := by
  simp [gate, hf, hr, hg]

/-- A write that its view or RO bars is a violation: of kind 2 under view u, which only RO bars, else of kind 0 (R533). -/
theorem gate_of_writeBars {v : View} (k : State → State) (hf : s.frozen m.owner = false) (hr : s.reach m a = true)
    (hg : s.gatedAt a = none) (hb : s.writeBars m v = true) :
    gate m v a k s = violation m a (if v == .u then 2 else 0) true s := by
  simp [gate, hf, hr, hg, hb]

end Gate

/-! ### The record of a violation (R533) -/

/-- Fields of registers at different addresses have different keys. -/
theorem Fld.key_ne_of_addr_lt {f g : Fld} (hlo : f.lo < 32) (h : f.addr < g.addr) : f.key ≠ g.key := by
  simp only [Fld.key]
  omega

/-- TB.NOW does not hang on the fields above TB.RATE in the map. -/
theorem now_wrs_of_lt (s : State) (l : List (Fld × Nat)) (h : ∀ p ∈ l, F.TB_RATE_RATE.addr < p.1.addr) :
    (s.wrs l).now = s.now := by
  induction l generalizing s with
  | nil => rfl
  | cons p l ih =>
    obtain ⟨hp, hl⟩ := List.forall_mem_cons.mp h
    rw [State.wrs_cons, ih _ hl, now_wr s _ (Fld.key_ne_of_addr_lt (by decide) hp)]

/-- The violation record takes TB.NOW of the violation: its address and kind, written before, do not move the time. -/
theorem now_violInfo (s : State) (o a kind w d : Nat) : (s.wrs [(F.HST_VIOL_ADDR_ADDR o, a), (F.HST_VIOL_INFO_KIND o, kind),
    (F.HST_VIOL_INFO_WRITE o, w), (F.HST_VIOL_INFO_DMA o, d)]).now = s.now := by
  refine now_wrs_of_lt s _ ?_
  simp [F.TB_RATE_RATE, F.HST_VIOL_ADDR_ADDR, F.HST_VIOL_INFO_KIND, F.HST_VIOL_INFO_WRITE, F.HST_VIOL_INFO_DMA]
  omega

/-- A violation by a frozen master leaves its record as it is. -/
theorem violation_of_frozen {s : State} {m : Master} (a kind : Nat) (w : Bool) (hf : s.frozen m.owner = true) :
    violation m a kind w s = (raise (400 + m.owner) s).event 16 := by
  simp only [violation, hf, if_true]

/-- Settles O12: one equation of `gate` for each branch, and the record of the first violation with the time at which it came. -/
theorem registerWritesAtTheArbiter : Obligations.RegisterWritesAtTheArbiter := by
  refine ⟨fun m v a k s hf => gate_of_frozen v k hf, fun m v a k s hr => gate_of_not_reach v k hr,
    fun m v a u k s hf hr hg => gate_of_gatedAt v k hf hr hg, fun m v a k s hf hr hg ho hv => ?_,
    fun m a k s hf hr hg ho hro => ?_, fun m v a k s hgr => gate_grants k hgr, fun m a kind w s hf => ?_,
    fun m a kind w s hf => violation_of_frozen a kind w hf⟩
  · have hb : s.writeBars m v = true := by simp [State.writeBars, ho, hv]
    rw [gate_of_writeBars k hf hr hg hb, if_neg (by simpa using hv)]
  · have hb : s.writeBars m .u = true := by simp [State.writeBars, ho, hro]
    exact gate_of_writeBars k hf hr hg hb
  · simp only [violation, hf, Bool.false_eq_true, if_false, now_violInfo]
    rfl

/-! ### A register write (R8, R531, R579) -/

section Write

variable {s : State} {m : Master} {a : Nat}

/-- A write to a register that no gate, view or RO bars reaches it (R578). -/
theorem writeVerdict_reg {r : RegSpec} {ix : List Nat} {w : Nat} (hr : s.reach m a = true)
    (hreg : findReg a allRegs = some (r, ix)) (hg : s.gatedAt a = none) (hv : viewBars m r w = false)
    (hb : s.writeBars m .u = false) : s.writeVerdict m a w = .reg r ix := by
  simp [State.writeVerdict, hr, hreg, hg, hv, hb]

/-- A write to an address without a register finds none, where RO does not bar it (R579). -/
theorem writeVerdict_unmapped (w : Nat) (hr : s.reach m a = true) (hreg : findReg a allRegs = none)
    (hb : s.writeBars m .u = false) : s.writeVerdict m a w = .unmapped := by
  simp [State.writeVerdict, hr, hreg, hb]

theorem writeLive_of_reg {r : RegSpec} {ix : List Nat} {w : Nat} (k : RegSpec → List Nat → State → State)
    (h : s.writeVerdict m a w = .reg r ix) : writeLive m a w k s = k r ix s := by
  simp only [writeLive, h]

theorem writeLive_of_unmapped {w : Nat} (k : RegSpec → List Nat → State → State)
    (h : s.writeVerdict m a w = .unmapped) : writeLive m a w k s = unmapped m a true s := by
  simp only [writeLive, h]

/-- RO bars PF1 alone (R532). -/
theorem writeBars_u_of_owner_ne (ho : m.owner ≠ 1) : s.writeBars m .u = false := by
  simp [State.writeBars, ho]

theorem busWrite_of_frozen (w : Nat) (hf : s.frozen m.owner = true) : busWrite m a w s = s := by
  simp only [busWrite, hf, if_true]

/-- Outside the Cellar window, a write of a master that is not frozen acts by what it finds in the map. -/
theorem busWrite_of_not_inWindow (w : Nat) (hf : s.frozen m.owner = false) (hw : inWindow a = false) :
    busWrite m a w s = writeLive m a w (fullEffect m a w) s := by
  simp only [busWrite, writeAny, hf, hw, Bool.false_eq_true, if_false]

/-- The DMA engine presents no address from 0x0100_0000 up; every other register write comes to the arbiter (R524, R527). -/
theorem execRegisterWrite_eq {w : BitVec 30} (v : Word) (h : m.bank ≠ 3 ∨ w.toNat < 0x400000) :
    execRegisterWrite m w v s = .next (busWrite m (4 * w.toNat) v.toNat s) := by
  have hc : ¬ (m.bank = 3 ∧ 0x400000 ≤ w.toNat) := by omega
  simp [execRegisterWrite, hc]

theorem execRegisterWrite_of_frozen (w : BitVec 30) (v : Word) (hf : s.frozen m.owner = true) :
    execRegisterWrite m w v s = .next s := by
  simp [execRegisterWrite, busWrite_of_frozen _ hf]

/-! ### UNMAP_SEEN_CLEAR (R581) -/

/-- The table of GLB.UNMAPINFO. -/
def unmapInfoReg : RegSpec := ⟨0x44, [], [⟨0, 2, .ro, .a, .const 0, false, false⟩, ⟨2, 1, .ro, .a, .const 0, false, false⟩,
  ⟨3, 1, .w1c, .a, .const 0, false, false⟩, ⟨16, 16, .ro, .a, .const 0, false, false⟩]⟩

theorem findReg_unmapInfo : findReg 0x44 allRegs = some (unmapInfoReg, []) := by decide +kernel

theorem mayWrite_of_owner_ne (v : View) (ho : m.owner ≠ 1) : mayWrite m v = true := by
  simp [mayWrite, ho]

theorem viewBars_unmapInfo (w : Nat) (ho : m.owner ≠ 1) : viewBars m unmapInfoReg w = false := by
  simp [viewBars, unmapInfoReg, mayWrite_of_owner_ne _ ho]

/-- Of GLB.UNMAPINFO a write reaches SEEN alone, by its code w1c. -/
theorem writeFields_unmapInfo (w : Nat) (ho : m.owner ≠ 1) : writeFields m false unmapInfoReg [] 0x44 w s =
    s.wr F.GLB_UNMAPINFO_SEEN (s.rd F.GLB_UNMAPINFO_SEEN - (s.rd F.GLB_UNMAPINFO_SEEN &&& field w 3 1)) := by
  simp [writeFields, unmapInfoReg, mayWrite_of_owner_ne _ ho, writeField, bankedFld, FldSpec.at, F.GLB_UNMAPINFO_SEEN]

/-- A write of 1 to SEEN clears SEEN, and then COUNT. -/
theorem coreEffect_unmapInfo_seen (ho : m.owner ≠ 1) : coreEffect m 0x44 8 unmapInfoReg [] s =
    (s.wr F.GLB_UNMAPINFO_SEEN (s.rd F.GLB_UNMAPINFO_SEEN - (s.rd F.GLB_UNMAPINFO_SEEN &&& 1))).wr F.GLB_UNMAPINFO_COUNT 0 := by
  have hfields : fieldEffect m unmapInfoReg [] 0x44 8 s = writeFields m false unmapInfoReg [] 0x44 8 s := rfl
  rw [coreEffect, hfields, writeFields_unmapInfo 8 ho]
  rfl

/-- A one-bit field without its own 1 is 0: what a w1c write of 1 leaves. -/
theorem sub_and_one_of_lt_two {x : Nat} (h : x < 2) : x - (x &&& 1) = 0 := by
  rw [Nat.and_one_is_mod, Nat.mod_eq_of_lt h, Nat.sub_self]

/-- UNMAP_SEEN_CLEAR that reaches its register leaves SEEN and COUNT 0. -/
theorem execUnmapSeenClear_eq (hf : s.frozen m.owner = false) (hr : s.reach m 0x44 = true) (ho : m.owner ≠ 1)
    (hg : s.gatedAt 0x44 = none) :
    execUnmapSeenClear m s = .next ((s.wr F.GLB_UNMAPINFO_SEEN 0).wr F.GLB_UNMAPINFO_COUNT 0) := by
  have hv := writeVerdict_reg hr findReg_unmapInfo hg (viewBars_unmapInfo 8 ho) (writeBars_u_of_owner_ne ho)
  have hseen := sub_and_one_of_lt_two (s.rd_lt F.GLB_UNMAPINFO_SEEN)
  simp only [execUnmapSeenClear, coreWrite, writeAccess, hf, Bool.false_eq_true, if_false, writeLive_of_reg _ hv,
    coreEffect_unmapInfo_seen ho, hseen]

/-! ### STAGE_AREA_WRITE (R66, R531) -/

/-- The stage area lies in the staging partition, which every owner but PF1 may write. -/
theorem cellarWrites_stage {i : Nat} (hi : i < 2 ^ 22) (o : Nat) : cellarWrites o (stageBase + 4 * i) = (o != 1) := by
  have hin : inStaging (stageBase + 4 * i) = true := by
    simp only [inStaging, stageBase, Bool.and_eq_true, decide_eq_true_eq]
    omega
  rw [cellarWrites, hin, Bool.true_and]

/-- The write of a master that is not frozen comes to the Cellar, by the address that its way shows. -/
theorem execStageAreaWrite_eq (i : BitVec 22) (v : Word) (hf : s.frozen m.owner = false) : execStageAreaWrite m i v s =
    .next (cellarWrite m (if m.bank = 3 then stageBase + 4 * i.toNat else 0x1000000 + 4 * i.toNat)
      (stageBase + 4 * i.toNat) v.toNat s) := by
  simp only [execStageAreaWrite, stageWrite, hf, Bool.false_eq_true, if_false]

theorem cellarWrite_of_cellarWrites {w shown : Nat} (hr : s.reach m 0x1000000 = true) (ha : cellarWrites m.owner a = true)
    (hc : s.fc.cond.contains 13 = false) : cellarWrite m shown a w s =
      (let t := { s with cellar := s.cellar.write32 a w }
       if a < stageBase + stageSize then stageTouched t else t) := by
  simp only [cellarWrite, hr, ha, hc, Bool.not_true, Bool.false_eq_true, if_false]

theorem cellarWrite_of_not_cellarWrites {w shown : Nat} (hr : s.reach m 0x1000000 = true)
    (ha : cellarWrites m.owner a = false) : cellarWrite m shown a w s = violation m shown 1 true s := by
  simp only [cellarWrite, hr, ha, Bool.not_true, Bool.not_false, Bool.false_eq_true, if_false, if_true]

end Write

/-- Settles O26: what each of the three commands finds at the arbiter, and the effect that follows. -/
theorem registerWriteAtTheArbiter : Obligations.RegisterWriteAtTheArbiter := by
  refine ⟨fun m w v r ix s hd hf hw hr hreg hg hv hb => ?_, fun m w v s hd hf hw hr hreg hb => ?_,
    fun m w v s hf => execRegisterWrite_of_frozen w v hf, fun m s hf hr ho hg => ⟨_, execUnmapSeenClear_eq hf hr ho hg, ?_⟩,
    fun m i v s hf hr ho hc => ?_, fun m i v s hf hr hm => ?_⟩
  · refine (execRegisterWrite_eq v hd).trans ?_
    rw [busWrite_of_not_inWindow _ hf hw, writeLive_of_reg _ (writeVerdict_reg hr hreg hg hv hb)]
  · refine (execRegisterWrite_eq v hd).trans ?_
    rw [busWrite_of_not_inWindow _ hf hw, writeLive_of_unmapped _ (writeVerdict_unmapped _ hr hreg hb)]
    rfl
  · refine ⟨?_, State.rd_wr_same _ _ _, ?_⟩
    · rw [State.rd_wr_ne _ _ (by decide), State.rd_wr_same, Nat.zero_mod]
    · rw [State.rd_wr_ne _ _ (by decide), State.rd_wr_ne _ _ (by decide)]
  · have ha : cellarWrites m.owner (stageBase + 4 * i.toNat) = true := by
      rw [cellarWrites_stage i.isLt]
      simpa using ho
    refine (execStageAreaWrite_eq i v hf).trans ?_
    rw [cellarWrite_of_cellarWrites hr ha hc]
  · subst hm
    have ha : cellarWrites Master.pf1.owner (stageBase + 4 * i.toNat) = false := cellarWrites_stage i.isLt _
    refine (execStageAreaWrite_eq i v hf).trans ?_
    rw [cellarWrite_of_not_cellarWrites hr ha]
    rfl

end Sys2Proof.Machine
end

section
/-! SUPPORT. The footprint of every command: each meaning answers a next state, and changes what `footprint` allows it. -/

namespace Sys2Proof

/-- A footprint without the bit of the Recipe unit leaves that unit as it is. -/
theorem Within.rcp_eq {m : Nat} {s t : Machine.State} (w : Within m s t) (hm : m.testBit 21 = false) : t.rcp = s.rcp := w.parts 21 hm

end Sys2Proof

namespace Sys2Proof.Machine

/-- A register write does what its command does, or is a violation. -/
theorem gate_within {m : Master} {v : View} {a k fm : Nat} {f : State → State} {s : State} (hf : ∀ y, Within k y (f y))
    (hk : k ||| fm = fm) (hm : raised ||| fm = fm) : Within fm s (gate m v a f s) :=
  gate_step (.refl _ _) (fun y h => h.step (hf y) hk) hm

/-- Every command answers a next state within its footprint: `rfl` runs its meaning, and the footprint of the operation that it runs lies
within the command's. -/
theorem exec_within (c : Instr) (s : State) : ∃ t, exec c s = .next t ∧ Within (footprint c) s t := by
  cases c <;> refine ⟨_, rfl, ?_⟩ <;> dsimp only [footprint]
  case registerWrite => exact Within.ite (.refl _ _) ((busWrite_within ..).mono rfl)
  case unmapSeenClear => exact (coreWrite_within ..).mono rfl
  case vauxDomainRelease => exact (vauxRelease_within ..).mono rfl
  case vinDomainReset => exact (vinReset_within ..).mono rfl
  case vinDomainRelease => exact (vinRelease_within ..).mono rfl
  case bootStepDone => exact (bootStep_within ..).mono rfl
  case link => exact gate_within (fun _ => cmdLink_within ..) rfl rfl
  case arm => exact gate_within (fun _ => cmdArm_within ..) rfl rfl
  case deblock => exact gate_within (fun _ => cmdDeblock_within ..) rfl rfl
  case block => exact gate_within (fun _ => cmdBlock_within ..) rfl rfl
  case disarm => exact gate_within (fun _ => cmdDisarm_within ..) rfl rfl
  case recover => exact gate_within (fun _ => cmdRecover_within ..) rfl rfl
  case shutdown => exact gate_within (fun _ => cmdShutdown_within ..) rfl rfl
  case opblkWrite => exact gate_within (fun _ => opblk_within ..) rfl rfl
  case rcpVerify => exact gate_within (fun _ => rcpVerify_within ..) rfl rfl
  case rcpLoad => exact gate_within (fun _ => rcpLoad_within ..) rfl rfl
  case loadComplete => exact (loadComplete_within ..).mono rfl
  case rcpCommit => exact gate_within (fun _ => rcpCommit_within ..) rfl rfl
  case rcpStore => exact gate_within (fun _ => rcpStore_within ..) rfl rfl
  case storeComplete => exact (storeComplete_within ..).mono rfl
  case rcpAbort => exact gate_within (fun _ => rcpAbort_within ..) rfl rfl
  case safeAck => exact gate_within (fun _ => rcpSafeAck_within ..) rfl rfl
  case slotErase => exact gate_within (fun _ => rcpErase_within ..) rfl rfl
  case slotEraseComplete => exact (eraseComplete_within ..).mono rfl
  case houseRead => exact gate_within (fun _ => rcpHouseRead_within ..) rfl rfl
  case houseStore => exact gate_within (fun _ => rcpHouseStore_within ..) rfl rfl
  case houseStoreComplete => exact (houseStoreComplete_within ..).mono rfl
  case keyWrite => exact gate_within (fun _ => rcpKeyWrite_within ..) rfl rfl
  case keyRevoke => exact gate_within (fun _ => rcpKeyRevoke_within ..) rfl rfl
  case minverSet => exact gate_within (fun _ => rcpMinverSet_within ..) rfl rfl
  case stageAreaWrite => exact (stageWrite_within ..).mono rfl
  case commitProposalReceived => exact (proposalReceived_within ..).mono rfl
  case cycleStartToken => exact (token_within ..).mono rfl
  case missrunLimit => exact (missrunLimit_within ..).mono rfl
  case uplinkFrameReceived => exact (uplink_within ..).mono rfl
  case uplinkCutoff => exact (uplinkCutoff_within ..).mono rfl
  case rankingComplete => exact (ranking_within ..).mono rfl
  case levelGenComplete => exact (levelGen_within ..).mono rfl
  case refHeldLimit => exact (refHeldLimit_within ..).mono rfl
  case selectionComplete => exact ((lostFrame_within ..).mono rfl).step (selection_within ..) rfl
  case timingComplete => exact (timing_within ..).mono rfl
  case engineFault => exact (engineFault_within ..).mono rfl
  case slkclr => exact gate_within (fun _ => slkclr_within ..) rfl rfl
  case schCntclr => exact gate_within (fun _ => schCntclr_within ..) rfl rfl
  case reverify => exact gate_within (fun _ => reverify_within ..) rfl rfl
  case slackVerifyDone => exact (slackDone_within ..).mono rfl
  case acceptRegisterWrite => exact gate_within (fun _ => acceptWrite_within ..) rfl rfl
  case coreScheduleDone => exact (coreDone_within ..).mono rfl
  case graphRunComplete => exact (runComplete_within ..).mono rfl
  case graphStall => exact (graphStall_within ..).mono rfl
  case coreEccError => exact (coreEcc_within ..).mono rfl
  case pcommit => exact gate_within (fun _ => pcommit_within ..) rfl rfl
  case greset => exact gate_within (fun _ => greset_within ..) rfl rfl
  case maxclr => exact gate_within (fun _ => State.wr_within ..) rfl rfl
  case hinWrite => exact gate_within (fun _ => hinWrite_within ..) rfl rfl
  case ocommit => exact gate_within (fun _ => ocommit_within ..) rfl rfl
  case wcommit => exact gate_within (fun _ => wcommit_within ..) rfl rfl
  case preset => exact gate_within (fun _ => preset_within ..) rfl rfl
  case exclude => exact gate_within (fun _ => cellCommand_within ..) rfl rfl
  case failbyp => exact gate_within (fun _ => cellCommand_within ..) rfl rfl
  case spareIn => exact gate_within (fun _ => cellCommand_within ..) rfl rfl
  case spareOut => exact gate_within (fun _ => cellCommand_within ..) rfl rfl
  case rerank => exact gate_within (fun _ => rerank_within ..) rfl rfl
  case beCntclr => exact gate_within (fun _ => beCntclr_within ..) rfl rfl
  case armSelectionLimitWrite => exact gate_within (fun _ => carriedWrite_within ..) rfl rfl
  case fpCommit => exact gate_within (fun _ => fpCommit_within ..) rfl rfl
  case fpUpdatePoint => exact (fpUpdate_within ..).mono rfl
  case fpCompareFire => exact (compareFire_within ..).mono rfl
  case insCntclr => exact gate_within (fun _ => insCntclr_within ..) rfl rfl
  case insLimitWrite => exact gate_within (fun _ => insLimitWrite_within ..) rfl rfl
  case clAuxselWrite => exact gate_within (fun _ => auxselWrite_within ..) rfl rfl
  case laneIdleExpired => exact (idleExpired_within ..).mono rfl
  case laneBurstSent => exact (burstSent_within ..).mono rfl
  case laneRxLock => exact (rxLock_within ..).mono rfl
  case laneTs2Received => exact (ts2Received_within ..).mono rfl
  case laneTrainTimeout => exact (trainTimeout_within ..).mono rfl
  case laneMeasureDone => exact (measureDone_within ..).mono rfl
  case laneRetryExpired => exact (retryExpired_within ..).mono rfl
  case laneLockLoss => exact (lockLoss_within ..).mono rfl
  case laneSignalLoss =>
    exact Within.ite ((((State.wr_within ..).mono rfl).step (laneCause_within ..) rfl).step (lockLoss_within ..) rfl) (.refl _ _)
  case laneRxwaitExpired => exact (rxwaitExpired_within ..).mono rfl
  case laneRetrain => exact gate_within (fun _ => laneRetrain_within ..) rfl rfl
  case giclr => exact gate_within (fun _ => giclr_within ..) rfl rfl
  case clCntclr => exact gate_within (fun _ => clCntclr_within ..) rfl rfl
  case gapIdleEnter => exact (gapEnter_within ..).mono rfl
  case gapIdleExit => exact (gapExit_within ..).mono rfl
  case gapExitLockCheck => exact (gapCheck_within ..).mono rfl
  case dmInserviceSend => exact (dmSend_within ..).mono rfl
  case dmrspReceived => exact (dmrspReceived_within ..).mono rfl
  case dmrspTimeout => exact (dmrspTimeout_within ..).mono rfl
  case ringSplit => exact Within.ite ((ringSplit_within ..).mono rfl) ((ringBreak_within ..).mono rfl)
  case parcelRetryExhausted => exact (retryExhausted_within ..).mono rfl
  case parcelBusyTimeout => exact (busyTimeout_within ..).mono rfl
  case chainEnumerated => exact (chainEnumerated_within ..).mono rfl
  case pqSubmit => exact gate_within (fun _ => pqSubmit_within ..) rfl rfl
  case pqPop => exact gate_within (fun _ => pqPop_within ..) rfl rfl
  case pqFlush => exact gate_within (fun _ => pqFlush_within ..) rfl rfl
  case cellarEccUncorrectable => exact (cellarEcc_within ..).mono rfl
  case scrubPassDone => exact (scrubDone_within ..).mono rfl
  case capestUpdate => exact (capestUpdate_within ..).mono rfl
  case ckpt => exact gate_within (fun _ => ckptDue_within ..) rfl rfl
  case tallyCkptDone => exact Within.ite ((ckptDone_within ..).mono rfl) (((ckptDone_within ..).mono rfl).step (shutTail_within ..) rfl)
  case ledgerTrigger => exact (ledgerFire_within ..).mono rfl
  case ltrig => exact gate_within (fun _ => ledgerFire_within ..) rfl rfl
  case lrelease => exact gate_within (fun _ => ledgerRelease_within ..) rfl rfl
  case ledgerDisable => exact gate_within (fun _ => ledgerConfig_within ..) rfl rfl
  case extract => exact gate_within (fun _ => extractStart_within ..) rfl rfl
  case extractDone => exact (extractDone_within ..).mono rfl
  case tbRateWrite => exact gate_within (fun _ => tbRateWrite_within ..) rfl rfl
  case stepTime => exact gate_within (fun _ => hostStep_within ..) rfl rfl
  case setTime => exact gate_within (fun _ => hostSet_within ..) rfl rfl
  case slew => exact gate_step (.refl _ _) (fun _ h => hostAdjust_step h (fun _ h => h.step (slewTime_within ..) rfl) rfl) rfl
  case slewstop => exact gate_step (.refl _ _) (fun _ h => hostAdjust_step h (fun _ h => h.step (slewEnd_within ..) rfl) rfl) rfl
  case tbCntclr => exact gate_within (fun _ => tbCntclr_within ..) rfl rfl
  case push => exact gate_within (fun _ => push_within ..) rfl rfl
  case wbCancel => exact gate_within (fun _ => wbCancelled_within ..) rfl rfl
  case wbFlush => exact gate_within (fun _ => cancelBy_within ..) rfl rfl
  case donepop => exact gate_within (fun _ => donePop_within ..) rfl rfl
  case wbOutReturn => exact (outReturn_within ..).mono rfl
  case wbWindowClose => exact (wbWindowClose_within ..).mono rfl
  case ethLinkChange => exact (ethLink_within ..).mono rfl
  case ethFrameReceived => exact (ethReceive_within ..).mono rfl
  case svFrameReceived => exact (svFrame_within ..).mono rfl
  case svSubscriptionLost => exact (svLost_within ..).mono rfl
  case ptpSyncReceived => exact ptpSync_step (.refl _ _) (fun _ _ h => h.step (jump_within ..) rfl) rfl
  case ptpFollowUpReceived => exact ptpFollowUp_step (.refl _ _) (fun _ _ h => h.step (jump_within ..) rfl) rfl
  case ptpAnnounceReceived => exact (announce_within ..).mono rfl
  case ptpAnnounceTimeout => exact (announceTimeout_within ..).mono rfl
  case pdelayReqSend => exact (pdelaySend_within ..).mono rfl
  case pdelayReqReceived => exact (pdelayAnswer_within ..).mono rfl
  case pdelayRespReceived => exact (pdelayResponse_within ..).mono rfl
  case ptprst => exact gate_within (fun _ => ptpReset_within ..) rfl rfl
  case netCntclr => exact gate_within (fun _ => netCntclr_within ..) rfl rfl
  case prpPortLost => exact (prpLost_within ..).mono rfl
  case fbTrigger => exact (fbTrigger_within ..).mono rfl
  case fbTake => exact (fbTake_within ..).mono rfl
  case fbLaunch => exact (fbLaunch_within ..).mono rfl
  case hstNtx => exact gate_within (fun _ => hstNtx_within ..) rfl rfl
  case lmuConversionDone => exact (conversion_within ..).mono rfl
  case lmuPassEnd => exact (passEnd_within ..).mono rfl
  case lmuTrigger => exact Within.ite ((lmuTrigger_within ..).mono rfl) (.refl _ _)
  case swtrg => exact gate_within (fun _ => swTrigger_within ..) rfl rfl
  case lmuTimerTrigger => exact Within.ite ((lmuTrigger_within ..).mono rfl) (.refl _ _)
  case scommit => exact gate_within (fun _ => scommit_within ..) rfl rfl
  case cal => exact gate_within (fun _ => .ite ((State.wr_within ..).mono rfl) (calStart_within ..)) rfl rfl
  case lmuCalDone => exact (lmuCalDone_within ..).mono rfl
  case lmuRefenWrite => exact gate_within (fun _ => refenWrite_within ..) rfl rfl
  case lmuRefFault => exact (refFault_within ..).mono rfl
  case lmuDchStale => exact (channelStale_within ..).mono rfl
  case lmuWindowClose => exact (windowClose_within ..).mono rfl
  case lmuCntclr => exact gate_within (fun _ => lmuCntclr_within ..) rfl rfl
  case sbuTick => exact (sbuTick_within ..).mono rfl
  case sbuFilterChange => exact (filterChange_within ..).mono rfl
  case sbuDiscrepancyLatch => exact (discLatch_within ..).mono rfl
  case sbuReadbackFault => exact (readbackFault_within ..).mono rfl
  case sbuTestPulse => exact (testPulse_within ..).mono rfl
  case sbuTestEnd => exact (testEnd_within ..).mono rfl
  case sbuClear => exact gate_within (fun _ => sbuCommand_within ..) rfl rfl
  case faultRaise => exact (faultRaise_within ..).mono rfl
  case faultLiveClear => exact (faultLiveClear_within ..).mono rfl
  case collectorSelfFault => exact (collectorSelf_within ..).mono rfl
  case clrReact => exact gate_within (fun _ => fcCommand_within ..) rfl rfl
  case clrFirst => exact gate_within (fun _ => fcCommand_within ..) rfl rfl
  case clrSticky => exact gate_within (fun _ => fcCommand_within ..) rfl rfl
  case fcSevWrite => exact gate_within (fun _ => sevWrite_within ..) rfl rfl
  case fcUnlock => exact gate_within (fun _ => unlock_within ..) rfl rfl
  case fcTestWrite => exact gate_within (fun _ => testWrite_within ..) rfl rfl
  case injPulse => exact gate_within (fun _ => inject_within ..) rfl rfl
  case injHold => exact gate_within (fun _ => inject_within ..) rfl rfl
  case injRelease => exact gate_within (fun _ => inject_within ..) rfl rfl
  case relayTrained => exact (relayTrained_within ..).mono rfl
  case relayLaneLoss => exact (laneLoss_within ..).mono rfl
  case relayLaneRejoin => exact (laneRejoin_within ..).mono rfl
  case relayRetrain => exact gate_within (fun _ => relayRetrain_within ..) rfl rfl
  case twnCntclr => exact gate_within (fun _ => twnCntclr_within ..) rfl rfl
  case relayIdReceived => exact (idReceived_within ..).mono rfl
  case relayCycleMark => exact (cycleMark_within ..).mono rfl
  case relayHbReceived => exact (hbReceived_within ..).mono rfl
  case tknoteReceived => exact (tknoteReceived_within ..).mono rfl
  case ublkReceived => exact (ublkReceived_within ..).mono rfl
  case degReceived => exact Within.ite ((partnerDegraded_within ..).mono rfl) (.refl _ _)
  case rehReceived => exact (rehReceived_within ..).mono rfl
  case imgReceived => exact (imgReceived_within ..).mono rfl
  case snapReceived => exact (snapReceived_within ..).mono rfl
  case carriedItemReceived => exact (itemReceived_within ..).mono rfl
  case forwardedBlockReceived => exact (forwardedBlock_within ..).mono rfl
  case partnerLedgerTrigger => exact (partnerTrigger_within ..).mono rfl
  case resync => exact gate_within (fun _ => resyncCmd_within ..) rfl rfl
  case takeover => exact gate_within (fun _ => takeoverCmd_within ..) rfl rfl
  case rehearse => exact gate_within (fun _ => rehearse_within ..) rfl rfl
  case pcieLinkChange => exact (pcieLink_within ..).mono rfl
  case flr => exact (functionReset_within ..).mono rfl
  case pcieMemoryRequest => exact (pcieRequest_within ..).mono rfl
  case dmaStart => exact (busWrite_within ..).mono rfl
  case dmaAbort => exact (dmaAbort_within ..).mono rfl
  case dmaComplete => exact (dmaComplete_within ..).mono rfl
  case hstRelease => exact gate_within (fun _ => release_within ..) rfl rfl
  case ostlerRequest => exact (portRequest_within ..).mono rfl
  case ostlerWatchdog => exact (ostlerRestart_within ..).mono rfl
  case ostlerRestartDone => exact (restartDone_within ..).mono rfl
  case ostlerLoadWindow => exact (loadWindow_within ..).mono rfl
  case mdioStart => exact gate_within (fun _ => mdioStart_within ..) rfl rfl
  case mdioDone => exact (mdioDone_within ..).mono rfl
  case vinPowerWarning => exact Within.ite ((powerWarning_within ..).mono rfl) (.refl _ _)
  case railOutOfWindow => exact (railOut_within ..).mono rfl
  case softwareReset => exact gate_within (fun _ => softReset_within ..) rfl rfl
  case clockFailure => exact (clockFailure_within ..).mono rfl
  case fallbackOscReady => exact (fallbackReady_within ..).mono rfl
  case fallbackNotReadyTimeout => exact (fallbackLate_within ..).mono rfl
  case fallbackTrim => exact (fallbackTrim_within ..).mono rfl
  case muxForcedSwitch => exact (muxForced_within ..).mono rfl
  case clkGateWrite => exact gate_within (fun _ => gateWrite_within ..) rfl rfl
  case gateQuiesced => exact (gateQuiesced_within ..).mono rfl
  case gateQuiesceTimeout => exact (gateTimeout_within ..).mono rfl
  case ungateRelease => exact (ungateRelease_within ..).mono rfl
  case plreq => exact gate_within (fun _ => plRequest_within ..) rfl rfl
  case plVcoreSettled => exact (vcoreSettled_within ..).mono rfl
  case junctionTempWarn => exact (junction_within ..).mono rfl
  case pcieConfigRequest => exact (cfgRequest_within ..).mono rfl
  case msixTableAccess => exact (msixAccess_within ..).mono rfl
  case pllLockRegained => exact (pllRegained_within ..).mono rfl
  case vauxDomainReset => exact (vauxReset_within ..).mono rfl
  case autoArm => exact (autoArm_within ..).mono rfl
  case orderlyBlockTimeout => exact (orderlyTimeout_within ..).mono rfl
  case linkTimeout => exact (linkTimeout_within ..).mono rfl
  case roleWaitExpiry => exact (roleWaitExpiry_within ..).mono rfl
  case verifyComplete => exact Within.ite ((verifyEnd_within ..).mono rfl) (.refl _ _)
  case commitPrepareEnd => exact (prepareEnd_within ..).mono rfl
  case commitSwitch => exact (commitSwitch_within ..).mono rfl
  case safeAckExpiry => exact Within.ite ((safeExpire_within ..).mono rfl) (.refl _ _)
  case commitConfirmReceived => exact (confirmReceived_within ..).mono rfl
  case commitConfirmDeadline => exact (confirmDeadline_within ..).mono rfl
  case replicaOverLimit => exact (replicaLimit_within ..).mono rfl
  case cycleStart => exact (cycleStart_within ..).mono rfl
  case cyclePhaseErrorLimit => exact (phaseErrorLimit_within ..).mono rfl
  case armFreeze => exact (armFreeze_within ..).mono rfl
  case graphImageReady => exact (imageReady_within ..).mono rfl
  case paramApply => exact (paramApply_within ..).mono rfl
  case graphInit => exact (graphInitDue_within ..).mono rfl
  case orderApply => exact (orderApply_within ..).mono rfl
  case waveformApply => exact (waveformApply_within ..).mono rfl
  case cellarPinitDone => exact (pinitDone_within ..).mono rfl
  case tallyFold => exact Within.ite ((tallyFold_within ..).mono rfl) (.refl _ _)
  case lifeApply => exact (lifeApply_within ..).mono rfl
  case tallyLoadDone => exact (tallyLoad_within ..).mono rfl
  case tallyCkptDue => exact (ckptDue_within ..).mono rfl
  case tallyCkptRetry => exact Within.ite ((ckptStart_within ..).mono rfl) (.refl _ _)
  case tallyCkptOverdue => exact (raise_within ..).mono rfl
  case ledgerStart => exact (ledgerStart_within ..).mono rfl
  case ledgerArmed => exact (ledgerArmed_within ..).mono rfl
  case ledgerFreeze => exact (ledgerFreeze_within ..).mono rfl
  case tbRawWrap => exact Within.ite ((tick_within ..).mono rfl) (.refl _ _)
  case slewComplete => exact (slewComplete_within ..).mono rfl
  case ppsInEdge => exact ppsInEdge_step (.refl _ _) (fun _ _ h => h.step (jump_within ..) rfl) rfl
  case ppsLoss => exact (ppsLoss_within ..).mono rfl
  case ppsOutEdge => exact (ppsOutEdge_within ..).mono rfl
  case ppsOutFall => exact (ppsOutFall_within ..).mono rfl
  case timeSourceLoss => exact (timeSourceLoss_within ..).mono rfl
  case wbEntryStart => exact (entryStart_within ..).mono rfl
  case wbRelaySkip => exact (relaySkip_within ..).mono rfl
  case ptpSyncTimeout => exact (setLock_within ..).mono rfl
  case prpSupervisionSend => exact (prpSupervise_within ..).mono rfl
  case fastPathFault => exact (fastFault_within ..).mono rfl
  case lmuCalAutoStart => exact Within.ite (((Within.refl _ _).lmu _ rfl).step (calStart_within ..) rfl) (.refl _ _)
  case lmuRefReady => exact Within.ite ((State.wr_within ..).mono rfl) (.refl _ _)
  case sbuOscFault => exact (oscFault_within ..).mono rfl
  case sbuXchkFault => exact (xchkFault_within ..).mono rfl
  case sbuVsafeOut => exact (vsafeJudge_within ..).mono rfl
  case sbuStatusReceived => exact (statusReceived_within ..).mono rfl
  case sbuStatusLost => exact (statusLost_within ..).mono rfl
  case aliveTokenTimeout => exact (raise_within ..).mono rfl
  case lanternReadbackFault => exact ((State.put_within ..).mono rfl).step (raise_within ..) rfl
  case ostlerHeartbeat => exact (heartbeat_within ..).mono rfl
  case ostlerHeartbeatLost => exact (heartbeatLost_within ..).mono rfl
  case lanternEdge => exact (lanternEdge_within ..).mono rfl
  case lanternInEdge => exact (lanternIn_within ..).mono rfl
  case lanternInStopped => exact (lanternStopped_within ..).mono rfl
  case relayAttemptTimeout => exact (attemptTimeout_within ..).mono rfl
  case relayPartnerDetected => exact (partnerDetected_within ..).mono rfl
  case relayLinkLost => exact (linkLost_within ..).mono rfl
  case relayHbMissed => exact (hbMissed_within ..).mono rfl
  case twinAlignChange => exact (alignChange_within ..).mono rfl
  case tkreqReceived => exact (tkreqReceived_within ..).mono rfl
  case carriedItemApply => exact (itemsApply_within ..).mono rfl
  case partnerShutdownReceived => exact (partnerShutdown_within ..).mono rfl
  case refreshStart => exact (refreshStart_within ..).mono rfl
  case refreshApply => exact (refreshApply_within ..).mono rfl
  case resyncHold => exact (resyncHold_within ..).mono rfl
  case takeoverPoint => exact (takeoverPoint_within ..).mono rfl
  case orphanAdoption => exact (orphanAdopt_within ..).mono rfl
  case prefReturn => exact (prefReturn_within ..).mono rfl
  case rehearsalDriveStart => exact (rehDriveStart_within ..).mono rfl
  case rehearsalDriveEnd => exact (rehDriveEnd_within ..).mono rfl
  case rehearsalCheck => exact (rehCheck_within ..).mono rfl
  case rehearsalAuto => exact (rehearsalAuto_within ..).mono rfl
  case driveExerciseOverdue => exact (driveOverdue_within ..).mono rfl
  case perst => exact ((functionReset_within ..).mono rfl).step (functionReset_within ..) rfl
  case ostlerResultReady => exact (resultReady_within ..).mono rfl
  case smbusTimeout => exact (smbusTimeout_within ..).mono rfl
  case regulatorFault => exact ((State.wr_within ..).mono rfl).step (raise_within ..) rfl
  case ostlerClockReturn => exact (ostlerClock_within ..).mono rfl
  case plCellarSwitched => exact (cellarSwitched_within ..).mono rfl
  case plVcoreTimeout => exact (vcoreTimeout_within ..).mono rfl
  -- The goal that is left is INCLUDE: the name of its constructor is a word of Lean itself.
  exact gate_within (fun _ => cellCommand_within ..) rfl rfl

end Sys2Proof.Machine
end

section
/-! SUPPORT. The rollback floor (R65): no command lowers `RCP.MINVER`. `FloorKept n s` is the invariant; a command that stays out of
the Recipe unit keeps it by its footprint, and the operations that reach that unit are taken one by one. -/

namespace Sys2Proof.Machine

/-- The rollback floor of `s` is `n` or more. -/
def FloorKept (n : Nat) (s : State) : Prop := n ≤ s.rcp.minver

/-! ### How the floor is kept -/

section Floor

variable {n : Nat} {s x y : State}

/-- An operation that leaves the Recipe unit as it is. -/
theorem FloorKept.within {m : Nat} (w : Within m x y) (hm : m.testBit 21 = false) (h : FloorKept n x) : FloorKept n y := by
  rwa [FloorKept, w.rcp_eq hm]

/-- A change of other parts of the state, or of the Recipe unit but for its floor. -/
theorem FloorKept.of_minver (h : FloorKept n x) (hy : y.rcp.minver = x.rcp.minver) : FloorKept n y := by
  rwa [FloorKept, hy]

theorem FloorKept.ite {c : Prop} [Decidable c] (hx : FloorKept n x) (hy : FloorKept n y) : FloorKept n (if c then x else y) := by
  split
  · exact hx
  · exact hy

theorem FloorKept.foldl {α : Type} {l : List α} {f : State → α → State} (h : FloorKept n x)
    (hf : ∀ a y, FloorKept n y → FloorKept n (f y a)) : FloorKept n (l.foldl f x) := by
  induction l generalizing x with
  | nil => exact h
  | cons a l ih => exact ih (hf a x h)

theorem FloorKept.forAll {α : Type} {l : List α} {f : α → State → State} (h : FloorKept n x)
    (hf : ∀ a y, FloorKept n y → FloorKept n (f a y)) : FloorKept n (Machine.forAll l f x) :=
  h.foldl hf

/-! ### The bookkeeping of a Recipe command -/

theorem rcpResult_floor (cmd code sec ofs : Nat) (h : FloorKept n s) : FloorKept n (rcpResult cmd code sec ofs s) :=
  h.within (rcpResult_within ..) rfl

theorem rcpRefuse_floor (cmd code : Nat) (h : FloorKept n s) : FloorKept n (rcpRefuse cmd code s) :=
  h.within (rcpRefuse_within ..) rfl

theorem event_floor (e : Nat) (h : FloorKept n s) : FloorKept n (s.event e) := h.within (State.event_within ..) rfl

theorem wr_floor (f : Fld) (v : Nat) (h : FloorKept n s) : FloorKept n (s.wr f v) := h.within (State.wr_within ..) rfl

theorem wrs_floor (l : List (Fld × Nat)) (h : FloorKept n s) : FloorKept n (s.wrs l) := h.within (State.wrs_within ..) rfl

theorem inc_floor (f : Fld) (k : Nat) (h : FloorKept n s) : FloorKept n (s.inc f k) := h.within (State.inc_within ..) rfl

theorem raise_floor (fs : Nat) (h : FloorKept n s) : FloorKept n (raise fs s) := h.within (raise_within ..) rfl

theorem stageOk_floor (b : Bool) (h : FloorKept n s) : FloorKept n (stageOk b s) := h.within (stageOk_within ..) rfl

theorem standbyJudge_floor (h : FloorKept n s) : FloorKept n (standbyJudge s) := h.within (standbyJudge_within ..) rfl

theorem carry_floor (kind : Nat) (b : List Byte) (h : FloorKept n s) : FloorKept n (s.carry kind b) :=
  h.within (State.carry_within ..) rfl

theorem rcpBegin_floor (cmd arg phase : Nat) (h : FloorKept n s) : FloorKept n (rcpBegin cmd arg phase s) :=
  event_floor _ (wrs_floor _ h)

theorem rcpEnd_floor (cmd code sec ofs : Nat) (h : FloorKept n s) : FloorKept n (rcpEnd cmd code sec ofs s) :=
  event_floor _ (rcpResult_floor _ _ _ _ (wrs_floor _ h))

theorem rcpDone_floor (cmd : Nat) (h : FloorKept n s) : FloorKept n (rcpDone cmd s) := rcpEnd_floor _ _ _ _ (event_floor _ h)

/-- A command that finds another running is refused, else it has its own effect (R71). -/
theorem rcpJudge_floor (cmd : Nat) {k : State → State} (h : FloorKept n s) (hk : FloorKept n (k s)) :
    FloorKept n (rcpJudge cmd k s) :=
  .ite (rcpRefuse_floor _ _ h) hk

/-! ### The commit and its switch (R74 to R79) -/

theorem commitBegin_floor (r : Recipe) (k : Option Nat) (acked : Bool) (h : FloorKept n s) : FloorKept n (commitBegin r k acked s) :=
  .within (prepareUngate_within ..) rfl (.of_minver (rcpBegin_floor rcCOMMIT 0 2 h) rfl)

theorem commitStart_floor (acked : Bool) (h : FloorKept n s) : FloorKept n (commitStart acked s) :=
  .ite (carry_floor _ _ (commitBegin_floor _ _ _ h)) (commitBegin_floor _ _ _ h)

theorem switchTables_floor (k : Nat) (p : Prep) (h : FloorKept n s) : FloorKept n (switchTables k p s) :=
  .forAll (.within (State.wr64_within ..) rfl (wrs_floor _ h)) fun _ _ h => wr_floor _ _ h

theorem switchNow_floor (k : Nat) (p : Prep) (h : FloorKept n s) : FloorKept n (switchNow k p s) := by
  have hsections := (switchTables_floor k p h).within (switchSections_within p _) rfl
  have htwin := fun c u => hsections.within (switchTwin_within c u p _) rfl
  have hstate := fun c u was head => ((htwin c u).within (switchGates_within _) rfl).within (acceptJudge_within _) rfl
    |>.within (switchState_within was p.changed head _) rfl
  exact standbyJudge_floor (.ite ((hstate ..).within (relayStart_within _) rfl) (hstate ..))

/-! ### The automatic load, and the end of a command (R69) -/

theorem loadBegin_floor (i : Nat) (h : FloorKept n s) : FloorKept n (loadBegin i s) := stageOk_floor _ (rcpBegin_floor _ _ _ h)

theorem loadInvalid_floor (h : FloorKept n s) : FloorKept n (loadInvalid s) := rcpEnd_floor _ _ _ _ (event_floor _ h)

theorem autoGiveUp_floor (h : FloorKept n s) : FloorKept n (autoGiveUp s) :=
  raise_floor _ (.within (setStep_within ..) rfl (.of_minver h rfl))

theorem autoFail_floor (h : FloorKept n s) : FloorKept n (autoFail s) := by
  unfold autoFail
  split
  · exact h
  · next i _ _ =>
    have hraised := raise_floor (36 + i) h
    have hother : FloorKept n { raise (36 + i) s with rcp := { (raise (36 + i) s).rcp with auto := some (1 - i, true) } } :=
      .of_minver hraised rfl
    exact .ite (autoGiveUp_floor hraised)
      (.ite (loadBegin_floor _ hother) (autoGiveUp_floor (raise_floor _ (loadInvalid_floor hother))))

theorem autoLoad_floor (h : FloorKept n s) : FloorKept n (autoLoad s) := by
  have hstep : FloorKept n (setStep 0x11 { s with rcp := { s.rcp with auto := some (s.firstSlot, false) } }) :=
    .within (setStep_within ..) rfl (.of_minver h rfl)
  exact .ite (loadBegin_floor _ hstep) (autoFail_floor (loadInvalid_floor hstep))

theorem autoNext_floor (cmd code : Nat) (h : FloorKept n s) : FloorKept n (autoNext cmd code s) := by
  unfold autoNext
  split
  · exact h
  · refine .ite (autoFail_floor h) (.ite ?_ (.ite (wr_floor _ _ h) h))
    split
    · exact commitStart_floor _ h
    · exact autoFail_floor (rcpEnd_floor _ _ _ _ (event_floor _ h))

theorem rcpFinish_floor (cmd code sec ofs : Nat) (h : FloorKept n s) : FloorKept n (rcpFinish cmd code sec ofs s) :=
  autoNext_floor _ _ (rcpEnd_floor _ _ _ _ h)

/-! ### Commits in twin operation (R81, R82) -/

theorem proposalTry_floor (h : FloorKept n s) : FloorKept n (proposalTry s) := by
  unfold proposalTry
  split
  · exact h
  · exact .ite (commitBegin_floor _ _ _ h) h

theorem proposalReceived_floor (id : Nat) (crcs : List Nat) (k : Nat) (h : FloorKept n s) :
    FloorKept n (proposalReceived id crcs k s) :=
  .ite (proposalTry_floor (s := { s with rcp := { s.rcp with proposal := some (id, crcs, k) } }) h) h

theorem confirmReceived_floor (h : FloorKept n s) : FloorKept n (confirmReceived s) := by
  unfold confirmReceived
  split
  · exact .ite (.ite (wr_floor _ _ h) h) h
  · exact h

theorem commitUnready_floor (h : FloorKept n s) : FloorKept n (commitUnready s) :=
  rcpEnd_floor _ _ _ _ (raise_floor _ h)

theorem confirmDeadline_floor (h : FloorKept n s) : FloorKept n (confirmDeadline s) := by
  have halone : FloorKept n (standbyJudge { s with rcp := { s.rcp with proposal := none }, twn := { s.twn with alone := true } }) :=
    standbyJudge_floor (.of_minver h rfl)
  have hended : FloorKept n (standbyJudge { rcpEnd rcCOMMIT 0x17 0 0 s with twn := { s.twn with alone := true } }) :=
    standbyJudge_floor (.of_minver (rcpEnd_floor rcCOMMIT 0x17 0 0 h) rfl)
  unfold confirmDeadline
  split
  · split
    · exact .ite h (.ite (commitUnready_floor (carry_floor _ _ h)) (.ite hended (.ite (wr_floor _ _ h) h)))
    · exact h
  · exact .ite h (.ite (commitUnready_floor h) halone)
  · exact h

theorem commitAborted_floor (k : Nat) (h : FloorKept n s) : FloorKept n (commitAborted k s) := by
  unfold commitAborted
  split
  · exact .ite (commitUnready_floor h) h
  · exact .ite (commitUnready_floor h) h
  · exact h

theorem commitSwitch_floor (h : FloorKept n s) : FloorKept n (commitSwitch s) := by
  unfold commitSwitch
  split
  · exact h
  · exact .ite h (.ite (rcpFinish_floor _ _ _ _ (raise_floor _ h)) (rcpFinish_floor _ _ _ _ (switchNow_floor _ _ h)))

theorem prepareEnd_floor (h : FloorKept n s) : FloorKept n (prepareEnd s) := by
  have hready : FloorKept n (setPrep (fun p => { p with ready := true }) s) := h
  unfold prepareEnd
  split
  · exact h
  · exact .ite h (.ite (commitSwitch_floor hready)
      (.ite (wr_floor _ _ (hready.within (State.relay_within ..) rfl)) (wr_floor _ _ hready)))

/-! ### The commands of `RCP.CMD` -/

theorem rcpCommit_floor (key : Nat) (h : FloorKept n s) : FloorKept n (rcpCommit key s) := by
  refine rcpJudge_floor _ h ?_
  split
  · exact commitStart_floor _ h
  · exact event_floor _ (rcpResult_floor _ _ _ _ h)

theorem rcpVerify_floor (h : FloorKept n s) : FloorKept n (rcpVerify s) :=
  rcpJudge_floor _ h (stageOk_floor _ (rcpBegin_floor _ _ _ h))

theorem verifyEnd_floor (cmd limit : Nat) (h : FloorKept n s) : FloorKept n (verifyEnd cmd limit s) := by
  unfold verifyEnd
  split
  · exact proposalTry_floor (rcpFinish_floor _ _ _ _ (stageOk_floor _ h))
  · exact rcpFinish_floor _ _ _ _ (stageOk_floor _ h)

theorem rcpLoad_floor (arg : Nat) (h : FloorKept n s) : FloorKept n (rcpLoad arg s) :=
  rcpJudge_floor _ h (.ite (rcpRefuse_floor _ _ h) (.ite (loadBegin_floor _ h) (loadInvalid_floor h)))

theorem loadComplete_floor (ok : Bool) (h : FloorKept n s) : FloorKept n (loadComplete ok s) := by
  unfold loadComplete
  split
  · exact .ite (rcpFinish_floor _ _ _ _ (raise_floor _ h)) (verifyEnd_floor _ _ h)
  · exact h

theorem rcpAbort_floor (h : FloorKept n s) : FloorKept n (rcpAbort s) := by
  unfold rcpAbort
  split
  · exact rcpFinish_floor _ _ _ _ (stageOk_floor _ h)
  · exact rcpFinish_floor _ _ _ _ (stageOk_floor _ h)
  · refine rcpFinish_floor _ _ _ _ ?_
    split
    · split
      · exact carry_floor _ _ h
      · exact h
    · exact h
  · exact h

theorem stageTouched_floor (h : FloorKept n s) : FloorKept n (stageTouched s) := by
  have htouched : FloorKept n (stageOk false { s with rcp := { s.rcp with origin := 3 } }) := stageOk_floor _ h
  unfold stageTouched
  dsimp only
  split
  · exact rcpFinish_floor _ _ _ _ htouched
  · exact rcpFinish_floor _ _ _ _ htouched
  · split
    · exact .ite htouched (rcpFinish_floor _ _ _ _ htouched)
    · exact htouched
  · exact htouched

theorem rcpStore_floor (arg key : Nat) (h : FloorKept n s) : FloorKept n (rcpStore arg key s) :=
  have hno := fun code => rcpRefuse_floor rcSTORE code h
  rcpJudge_floor _ h (.ite (hno _) (.ite (hno _) (.ite (hno _) (rcpBegin_floor _ _ _ h))))

theorem storeComplete_floor (ok : Bool) (h : FloorKept n s) : FloorKept n (storeComplete ok s) := by
  unfold storeComplete
  split
  · exact .ite (rcpEnd_floor _ _ _ _ h) (rcpEnd_floor _ _ _ _ (raise_floor _ h))
  · exact h

theorem rcpErase_floor (arg key : Nat) (h : FloorKept n s) : FloorKept n (rcpErase arg key s) :=
  have hno := fun code => rcpRefuse_floor rcERASE code h
  rcpJudge_floor _ h (.ite (hno _) (.ite (hno _) (rcpBegin_floor _ _ _ h)))

theorem eraseComplete_floor (ok : Bool) (h : FloorKept n s) : FloorKept n (eraseComplete ok s) := by
  unfold eraseComplete
  split
  · exact .ite (rcpEnd_floor _ _ _ _ h) (rcpEnd_floor _ _ _ _ (raise_floor _ h))
  · exact h

theorem rcpKeyWrite_floor (arg key : Nat) (h : FloorKept n s) : FloorKept n (rcpKeyWrite arg key s) := by
  have hno := fun code => rcpRefuse_floor 0xA code h
  refine rcpJudge_floor _ h (.ite (hno _) (.ite (hno _) ?_))
  split
  · exact .ite (rcpDone_floor _ h) (hno _)
  · exact hno _

theorem rcpKeyRevoke_floor (arg key : Nat) (h : FloorKept n s) : FloorKept n (rcpKeyRevoke arg key s) := by
  have hno := fun code => rcpRefuse_floor 0xB code h
  refine rcpJudge_floor _ h (.ite (hno _) (.ite (hno _) ?_))
  split
  · exact .ite (rcpDone_floor _ h) (hno _)
  · exact hno _

/-- MINVER_SET is the one command that moves the floor: to a VERSION that is not below it (R65). -/
theorem rcpMinverSet_floor (key : Nat) (h : FloorKept n s) : FloorKept n (rcpMinverSet key s) := by
  refine rcpJudge_floor _ h (.ite (rcpRefuse_floor _ _ h) ?_)
  split
  · exact rcpRefuse_floor _ _ h
  · next hver => exact rcpDone_floor _ (Nat.le_trans h (Nat.le_of_not_lt hver))

theorem safeExpire_floor (h : FloorKept n s) : FloorKept n (safeExpire s) := h.within (safeExpire_within _) rfl

theorem rcpSafeAck_floor (h : FloorKept n s) : FloorKept n (rcpSafeAck s) := by
  have hfail : FloorKept n (rcpRefuse 6 0x18 (s.wr F.RCP_STS_ACK_FAIL (min 3 (s.rd F.RCP_STS_ACK_FAIL + 1)))) :=
    rcpRefuse_floor _ _ (wr_floor _ _ h)
  exact rcpJudge_floor _ h (.ite (rcpRefuse_floor _ _ h) (.ite (.ite (safeExpire_floor hfail) hfail) (rcpDone_floor _ h)))

theorem rcpHouseRead_floor (h : FloorKept n s) : FloorKept n (rcpHouseRead s) :=
  rcpJudge_floor _ h (rcpDone_floor _ (wr_floor _ _ h))

theorem rcpHouseStore_floor (key : Nat) (h : FloorKept n s) : FloorKept n (rcpHouseStore key s) := by
  refine rcpJudge_floor _ h (.ite (rcpRefuse_floor _ _ h) ?_)
  split
  · exact event_floor _ (rcpResult_floor _ _ _ _ h)
  · exact rcpBegin_floor _ _ _ h

theorem houseStoreComplete_floor (ok : Bool) (h : FloorKept n s) : FloorKept n (houseStoreComplete ok s) := by
  unfold houseStoreComplete
  split
  · exact .ite (rcpEnd_floor _ _ _ _ h) (rcpEnd_floor _ _ _ _ h)
  · exact h

theorem rcpCommand_floor (w : Nat) (h : FloorKept n s) : FloorKept n (rcpCommand w s) := by
  have hother := fun c => rcpJudge_floor c h (rcpRefuse_floor c 0x0D h)
  unfold rcpCommand
  generalize w % 256 = c
  rcases c with _ | _ | _ | _ | _ | _ | _ | _ | _ | _ | _ | _ | _ | c
  · exact hother 0
  · exact rcpVerify_floor h
  · exact rcpCommit_floor _ h
  · exact rcpStore_floor _ _ h
  · exact rcpLoad_floor _ h
  · exact rcpAbort_floor h
  · exact rcpSafeAck_floor h
  · exact rcpErase_floor _ _ h
  · exact rcpHouseRead_floor h
  · exact rcpHouseStore_floor _ h
  · exact rcpKeyWrite_floor _ _ h
  · exact rcpKeyRevoke_floor _ _ h
  · exact rcpMinverSet_floor _ h
  · exact hother (c + 13)

/-! ### Register writes and the ways to them (R8, R521, R527 to R529, R535 to R540) -/

theorem gate_floor (m : Master) (v : View) (a : Nat) {k : State → State} (h : FloorKept n s) (hk : FloorKept n (k s)) :
    FloorKept n (gate m v a k s) := by
  unfold gate
  refine .ite h (.ite h ?_)
  split
  · exact h.within (gateAccess_within ..) rfl
  · exact .ite (h.within (violation_within ..) rfl) hk

theorem writeLive_floor (m : Master) (a w : Nat) {k : RegSpec → List Nat → State → State} (h : FloorKept n s)
    (hk : ∀ r ix, FloorKept n (k r ix s)) : FloorKept n (writeLive m a w k s) := by
  unfold writeLive
  split
  · exact h
  · exact h.within (unmapped_within ..) rfl
  · exact h.within (gateAccess_within ..) rfl
  · exact h.within (violation_within ..) rfl
  · exact hk _ _

/-- Of the registers of the map, `RCP.CMD` alone leads to the floor. -/
theorem fullEffect_floor (m : Master) (addr w : Nat) (r : RegSpec) (ix : List Nat) (h : FloorKept n s) :
    FloorKept n (fullEffect m addr w r ix s) := by
  have hfields : ∀ t a, FloorKept n (writeFields m t r ix a w s) := fun _ _ => h.within (writeFields_within ..) rfl
  have hadjust : FloorKept n (hostAdjust (writeFields m false r ix addr w) s) := .ite (wr_floor _ _ h) (hfields _ _)
  unfold fullEffect
  refine .ite (h.within (hstEffect_within ..) rfl) (.ite (h.within (fcEffect_within ..) rfl)
    (.ite (hfields _ _) (.ite (wr_floor _ _ h) ?_)))
  split
  · exact rcpCommand_floor _ h
  · exact wr_floor _ _ h
  · exact h.within (tbControl_within ..) rfl
  · exact h.within (tbRateWrite_within ..) rfl
  · exact hadjust
  · exact hadjust
  · exact h.within (wbControl_within ..) rfl
  · exact h.within (sbuCommand_within ..) rfl
  · exact h.within (coreEffect_within ..) rfl

theorem cellarWrite_floor (m : Master) (shown a w : Nat) (h : FloorKept n s) : FloorKept n (cellarWrite m shown a w s) :=
  .ite h (.ite (h.within (violation_within ..) rfl)
    (.ite h (.ite (stageTouched_floor (s := { s with cellar := s.cellar.write32 a w }) h) h)))

theorem writeAny_floor (m : Master) (addr w : Nat) (h : FloorKept n s) : FloorKept n (writeAny m addr w s) :=
  .ite (cellarWrite_floor _ _ _ _ h) (writeLive_floor _ _ _ h fun _ _ => fullEffect_floor _ _ _ _ _ h)

theorem busWrite_floor (m : Master) (addr w : Nat) (h : FloorKept n s) : FloorKept n (busWrite m addr w s) :=
  .ite h (writeAny_floor _ _ _ h)

theorem stageWrite_floor (m : Master) (index w : Nat) (h : FloorKept n s) : FloorKept n (stageWrite m index w s) :=
  .ite h (cellarWrite_floor _ _ _ _ h)

theorem writeWords_floor (m : Master) (addr : Nat) (l : List (Nat × Nat)) (h : FloorKept n s) : FloorKept n (writeWords m addr l s) :=
  h.foldl fun _ _ h => .ite h (.ite (.ite (h.within (State.werr_within ..) rfl) h) (busWrite_floor _ _ _ h))

theorem pcieWrite_floor (fn addr first last : Nat) (poisoned : Bool) (ws : List Nat) (h : FloorKept n s) :
    FloorKept n (pcieWrite fn addr first last poisoned ws s) :=
  .ite (raise_floor _ (inc_floor _ _ h)) (.ite h (.ite (.ite h (h.within (State.werr_within ..) rfl))
    (writeWords_floor _ _ _ h)))

theorem pcieRequest_floor (fn kind dw count first last : Nat) (poisoned : Bool) (data : List Nat) (h : FloorKept n s) :
    FloorKept n (pcieRequest fn kind dw count first last poisoned data s) := by
  unfold pcieRequest
  refine .ite h ?_
  split
  · exact h.within (pcieRead_within ..) rfl
  · exact pcieWrite_floor _ _ _ _ _ _ h
  · exact h.within (complete_within ..) rfl

theorem dmaStore_floor (m : Master) (cellar : Bool) (a w : Nat) (h : FloorKept n s) : FloorKept n (dmaStore m cellar a w s) :=
  .ite (cellarWrite_floor _ _ _ _ h) (writeLive_floor _ _ _ h fun _ _ => fullEffect_floor _ _ _ _ _ h)

theorem dmaWord_floor (ch i v : Nat) (h : FloorKept n s) : FloorKept n (dmaWord ch i v s).2 := by
  have hread : ∀ m c a, FloorKept n (dmaRead m c a s).2 := fun _ _ _ => h.within (dmaRead_within ..) rfl
  have hstore : ∀ m c a w, FloorKept n (dmaStore m c a w s) := fun m c a w => dmaStore_floor m c a w h
  have hmove : ∀ m c c' a a' w, FloorKept n (dmaStore m c' a' w (dmaRead m c a s).2) :=
    fun m c c' a a' w => dmaStore_floor m c' a' w (hread m c a)
  unfold dmaWord
  dsimp only
  split
  · exact .ite (hstore _ _ _ _) (wr_floor _ _ (hstore _ _ _ _))
  · split
    · exact hread _ _ _
    · exact wr_floor _ _ (.within (State.emit_within ..) rfl (hread _ _ _))
  · split
    · exact hread _ _ _
    · exact .ite (hmove _ _ _ _ _ _) (wr_floor _ _ (hmove _ _ _ _ _ _))

theorem dmaWords_floor (ch : Nat) (data : List Nat) (k i : Nat) (h : FloorKept n s) : FloorKept n (dmaWords ch data k i s) := by
  induction k generalizing i s with
  | zero => exact h
  | succ k ih =>
    have hword := dmaWord_floor ch i (data.getD i 0) h
    unfold dmaWords
    refine .ite h ?_
    dsimp only
    split
    · exact .within (dmaEnd_within ..) rfl (.ite hword (wr_floor _ _ hword))
    · exact ih _ hword

theorem dmaAbort_floor (m : Master) (ch words : Nat) (data : List Nat) (h : FloorKept n s) :
    FloorKept n (dmaAbort m ch words data s) :=
  .ite (busWrite_floor _ _ _ h) (.ite (busWrite_floor _ _ _ (dmaWords_floor _ _ _ _ h)) (busWrite_floor _ _ _ h))

theorem dmaComplete_floor (ch : Nat) (hostErr : Bool) (words : Nat) (data : List Nat) (h : FloorKept n s) :
    FloorKept n (dmaComplete ch hostErr words data s) :=
  have hwords := fun k => dmaWords_floor ch data k 0 h
  .ite h (.ite (hwords _) (.ite (.within (dmaEnd_within ..) rfl (raise_floor _ (hwords _)))
    (.within (dmaEnd_within ..) rfl (hwords _))))

theorem portWrites_floor (l : List Nat) (addr : Nat) (h : FloorKept n s) : FloorKept n (portWrites l addr s).2 := by
  induction l generalizing addr s with
  | nil => exact h
  | cons w l ih =>
    have hword := busWrite_floor .ost (addr % 2 ^ 32) w h
    unfold portWrites
    dsimp only
    split
    · exact hword
    · exact ih _ hword

theorem portRun_floor (smbus write : Bool) (addr k : Nat) (ws : List Nat) (h : FloorKept n s) :
    FloorKept n (portRun smbus write addr k ws s) := by
  have hseq : FloorKept n { s with hst := { s.hst with sbSeq := (s.hst.sbSeq + 1) % 256 } } := h
  exact .ite (.within (portResult_within ..) rfl (portWrites_floor _ _ hseq))
    (.within (portResult_within ..) rfl (.within (portReads_within ..) rfl hseq))

theorem portRequest_floor (smbus : Bool) (bytes : List Byte) (h : FloorKept n s) : FloorKept n (portRequest smbus bytes s) :=
  have herr := fun code => h.within (portErr_within smbus code s) rfl
  .ite (inc_floor _ _ h) (.ite (.ite h (h.within (State.emit_within ..) rfl))
    (.ite (.ite h (h.within (portResult_within ..) rfl)) (.ite (h.within (portCrc_within ..) rfl)
      (.ite (herr _) (.ite (herr _) (portRun_floor _ _ _ _ _ h))))))

/-! ### Items from the partner (R490, R491) -/

theorem atCycle_floor (clamp : Option Nat) (k : Nat) {f : Nat → State → State} (h : FloorKept n s) (hf : ∀ j, FloorKept n (f j s)) :
    FloorKept n (atCycle clamp k f s) := by
  unfold atCycle
  split
  · exact hf _
  · exact .ite (h.within (missItem_within ..) rfl) (hf _)

theorem itemTake_floor (clamp : Option Nat) (b : List Byte) (h : FloorKept n s) : FloorKept n (itemTake clamp b s) := by
  have hcapt : ∀ fs d, FloorKept n (takeCapt fs d s) := fun _ _ => h
  unfold itemTake
  dsimp only
  split
  · exact wr_floor _ _ h
  · exact atCycle_floor _ _ h fun _ => wrs_floor _ (hcapt _ _)
  · exact atCycle_floor _ _ h fun _ => wr_floor _ _ h
  · exact atCycle_floor _ _ h fun _ => wrs_floor _ (hcapt _ _)
  · exact atCycle_floor _ _ h fun _ => wrs_floor _ (hcapt _ _)
  · exact atCycle_floor _ _ h fun _ => h
  · exact atCycle_floor _ _ h fun _ => wr_floor _ _ h
  · exact atCycle_floor _ _ h fun _ => h.within (writeReceived_within ..) rfl
  · exact h.within (lifeReceived_within ..) rfl
  · exact atCycle_floor _ _ h fun _ => .within (State.setArm_within ..) rfl (wr_floor _ _ (hcapt _ _))
  · exact h.within (dlvReceived_within ..) rfl
  · exact commitAborted_floor _ h
  · exact h.within (entryReceived_within ..) rfl
  · exact h.within (wbCancel_within ..) rfl
  · exact h.within (resyncNamed_within ..) rfl
  · exact h
  · exact h
  · exact h

theorem itemReceived_floor (ok : Bool) (b : List Byte) (h : FloorKept n s) : FloorKept n (itemReceived ok b s) :=
  .ite (h.within (crcError_within ..) rfl) (itemTake_floor _ _ (.ite h h))

theorem refreshApply_floor (h : FloorKept n s) : FloorKept n (refreshApply s) := by
  unfold refreshApply
  split
  · have htaken : FloorKept n (refreshTake s.twn.refData s) := h.within (refreshTake_within ..) rfl
    exact .ite h (.forAll (.within (missedJudge_within ..) rfl (.within (unraise_within ..) rfl (.of_minver htaken rfl)))
      fun _ _ h => itemTake_floor _ _ h)
  · exact h

/-! ### Resets, the boot and the Ostler's restart (R27, R543, R553): the NOR store keeps the floor -/

theorem vinClear_floor (h : FloorKept n s) : FloorKept n (vinClear s) := h

theorem vinDown_floor (h : FloorKept n s) : FloorKept n (vinDown s) := by
  have hckpt : FloorKept n (if s.tly.ckAt.isSome then ckptLose s else s) := .ite (h.within (ckptLose_within ..) rfl) h
  have hpins := hckpt.forAll (l := [0, 1, 2, 3, 4, 5]) (f := fun p s => s.emit (.pin p false)) fun _ _ h => h
  exact vinClear_floor (.within (ostlerEvent_within 1 _) rfl (.ite (hpins.within (ostlerEvent_within 17 _) rfl) hpins))

theorem vinReset_floor (cause rail : Nat) (h : FloorKept n s) : FloorKept n (vinReset cause rail s) :=
  .ite h (inc_floor _ _ (wrs_floor _ (vinDown_floor h)))

theorem vauxReset_floor (h : FloorKept n s) : FloorKept n (vauxReset s) :=
  .ite h (.of_minver (vinDown_floor h) rfl)

theorem bootEnd_floor (h : FloorKept n s) : FloorKept n (bootEnd s) := by
  have hloss : FloorKept n (lossEntry (bootHouse s)) :=
    (h.within (bootHouse_within ..) rfl).within (lossEntry_within ..) rfl
  have hraised := FloorKept.ite (c := 2 ≤ (lossEntry (bootHouse s)).rd F.CLK_RSTCAUSE_CAUSE) (raise_floor 23 hloss) hloss
  have hentered := (hraised.within (enterState_within stDEFAULTS 0x10 _) rfl).within (lanternJudge_within _) rfl
  exact .ite (autoLoad_floor hentered) hentered

theorem bootStep_floor (ok : Bool) (src : Nat) (h : FloorKept n s) : FloorKept n (bootStep ok src s) := by
  unfold bootStep
  refine .ite h (.ite ?_ ?_)
  · split
    · exact raise_floor _ h
    · exact h
  · split
    · exact .within (setStep_within ..) rfl (h.within (bootSupplies_within ..) rfl)
    · exact h.within (setStep_within ..) rfl
    · exact .within (setStep_within ..) rfl (h.within (bootCellar_within ..) rfl)
    · exact h.within (setStep_within ..) rfl
    · exact bootEnd_floor h
    · exact h

theorem rcpAbandon_floor (h : FloorKept n s) : FloorKept n (rcpAbandon s) := by
  unfold rcpAbandon
  split
  · exact h
  · exact rcpAbort_floor h
  · exact rcpFinish_floor _ _ _ _ h

theorem ostlerRestart_floor (ecc : Bool) (h : FloorKept n s) : FloorKept n (ostlerRestart ecc s) :=
  .ite h (raise_floor _ (.within (ostlerAbandon_within ..) rfl
    (rcpAbandon_floor (.of_minver (inc_floor F.HST_OSTLER_CNT_RESTARTS 1 (wr_floor F.HST_STS_OSTRDY 0 h)) rfl))))

end Floor

/-! ### Every step -/

/-- A command outside the Recipe unit keeps the floor by its footprint; those that reach it are listed. -/
theorem exec_floor {n : Nat} {s : State} (c : Instr) (h : FloorKept n s) : ∃ t, exec c s = .next t ∧ FloorKept n t := by
  by_cases hc : (footprint c).testBit 21 = false
  · obtain ⟨t, ht, hw⟩ := exec_within c s
    exact ⟨t, ht, .within hw hc h⟩
  cases c <;> refine ⟨_, rfl, ?_⟩
  case registerWrite => exact .ite h (busWrite_floor _ _ _ h)
  case stageAreaWrite => exact stageWrite_floor _ _ _ h
  case pcieMemoryRequest => exact pcieRequest_floor _ _ _ _ _ _ _ _ h
  case dmaStart => exact busWrite_floor _ _ _ h
  case dmaAbort => exact dmaAbort_floor _ _ _ _ h
  case dmaComplete => exact dmaComplete_floor _ _ _ _ h
  case ostlerRequest => exact portRequest_floor _ _ h
  case rcpVerify => exact gate_floor _ _ _ h (rcpVerify_floor h)
  case rcpCommit => exact gate_floor _ _ _ h (rcpCommit_floor _ h)
  case rcpStore => exact gate_floor _ _ _ h (rcpStore_floor _ _ h)
  case rcpLoad => exact gate_floor _ _ _ h (rcpLoad_floor _ h)
  case rcpAbort => exact gate_floor _ _ _ h (rcpAbort_floor h)
  case safeAck => exact gate_floor _ _ _ h (rcpSafeAck_floor h)
  case slotErase => exact gate_floor _ _ _ h (rcpErase_floor _ _ h)
  case houseRead => exact gate_floor _ _ _ h (rcpHouseRead_floor h)
  case houseStore => exact gate_floor _ _ _ h (rcpHouseStore_floor _ h)
  case keyWrite => exact gate_floor _ _ _ h (rcpKeyWrite_floor _ _ h)
  case keyRevoke => exact gate_floor _ _ _ h (rcpKeyRevoke_floor _ _ h)
  case minverSet => exact gate_floor _ _ _ h (rcpMinverSet_floor _ h)
  case verifyComplete => exact .ite (verifyEnd_floor _ _ h) h
  case loadComplete => exact loadComplete_floor _ h
  case storeComplete => exact storeComplete_floor _ h
  case slotEraseComplete => exact eraseComplete_floor _ h
  case houseStoreComplete => exact houseStoreComplete_floor _ h
  case commitPrepareEnd => exact prepareEnd_floor h
  case commitSwitch => exact commitSwitch_floor h
  case commitProposalReceived => exact proposalReceived_floor _ _ _ h
  case commitConfirmReceived => exact confirmReceived_floor h
  case commitConfirmDeadline => exact confirmDeadline_floor h
  case carriedItemReceived => exact itemReceived_floor _ _ h
  case refreshApply => exact refreshApply_floor h
  case bootStepDone => exact bootStep_floor _ _ h
  case ostlerWatchdog => exact ostlerRestart_floor _ h
  case vinDomainReset => exact vinReset_floor _ _ h
  case vauxDomainReset => exact vauxReset_floor h
  all_goals exact absurd (by dsimp only [footprint]; rfl) hc

/-- No step lowers the floor (R65). -/
theorem step_floor {n : Nat} {s t : State} (ht : step s = .next t) (h : FloorKept n s) : FloorKept n t := by
  unfold step at ht
  split at ht
  · next c rest _ =>
    obtain ⟨u, hu, hfloor⟩ := exec_floor (s := { s with pending := rest }) c h
    cases hu.symm.trans ht
    exact hfloor
  · cases ht
    exact .ite (h.within (tick_within _) rfl) h

end Sys2Proof.Machine
end

section
/-! SUPPORT. The statements on the Recipe unit (spec/02): the rollback floor, the CRC, keys and the SAFE acknowledge, the commit. -/

namespace Sys2Proof.Machine

/-! ### Shared operations of the unit -/

@[simp] theorem State.event_rcp (s : State) (e : Nat) : (s.event e).rcp = s.rcp := (State.event_within s e).rcp_eq rfl

@[simp] theorem raise_rcp (fs : Nat) (s : State) : (raise fs s).rcp = s.rcp := (raise_within fs s).rcp_eq rfl

/-- The end of a command drops the command and its commit, and what a HOUSE_STORE carries (R71). -/
@[simp] theorem rcpEnd_rcp (cmd code sec ofs : Nat) (s : State) :
    (rcpEnd cmd code sec ofs s).rcp = { s.rcp with job := none, prep := none, houseNew := [] } := by
  simp [rcpEnd, rcpResult]

/-- With no automatic load under way the end of a command is all (R69). -/
theorem rcpFinish_of_auto_none {s : State} (cmd code sec ofs : Nat) (h : s.rcp.auto = none) :
    rcpFinish cmd code sec ofs s = rcpEnd cmd code sec ofs s := by
  simp [rcpFinish, autoNext, h]

/-- A granted Recipe command, while none runs, has its own effect (R71). -/
theorem gate_rcpJudge_grants {s : State} {m : Master} {v : View} {a : Nat} (cmd : Nat) (k : State → State)
    (hg : s.grants m v a = true) (hj : s.rcp.job = none) : gate m v a (rcpJudge cmd k) s = k s := by
  rw [gate_grants _ hg, rcpJudge, hj, Option.isSome_none, if_neg Bool.false_ne_true]

/-! ### The rollback floor (R65, R72) -/

section MinverSet

variable {s : State} {m : Master} (hg : s.grants m .p 0x10000 = true) (hj : s.rcp.job = none)
include hg hj

theorem execMinverSet_of_wrong_key {k : BitVec 16} (hk : k.toNat ≠ cmdKey) :
    execMinverSet m k s = .next (rcpRefuse 0xC 0x1A s) := by
  simp [execMinverSet, rcpMinverSet, gate_rcpJudge_grants _ _ hg hj, hk]

theorem execMinverSet_of_le (hv : s.rcp.minver ≤ s.rd F.RCP_ACT_VER_VALUE) : execMinverSet m 0xA5C3 s =
    .next (rcpDone 0xC { s with rcp := { s.rcp with minver := s.rd F.RCP_ACT_VER_VALUE } }) := by
  simp [execMinverSet, rcpMinverSet, gate_rcpJudge_grants _ _ hg hj, Nat.not_lt.mpr hv]

theorem execMinverSet_of_lt (hv : s.rd F.RCP_ACT_VER_VALUE < s.rcp.minver) :
    execMinverSet m 0xA5C3 s = .next (rcpRefuse 0xC 0x0A s) := by
  simp [execMinverSet, rcpMinverSet, gate_rcpJudge_grants _ _ hg hj, hv]

end MinverSet

theorem check10_eq_none {s : State} {r : Recipe} : check10 s r = none ↔ s.rcp.minver ≤ r.version := by
  by_cases h : s.rcp.minver ≤ r.version <;> simp [check10, verdict, must, h]

/-- An image that validates passes check 10. -/
theorem check10_of_verifyImage {s : State} {b : List Byte} {n : Nat} (h : verifyImage s b n = none) :
    check10 s (readRecipe (b.take (imageLen b))) = none := by
  simp only [verifyImage, Option.orElse_eq_none] at h
  obtain ⟨-, -, -, -, -, -, -, -, -, h10, -⟩ := h
  exact h10

/-- Settles O7: `step_floor` for the floor itself, the two ways of MINVER_SET, and check 10 of an image. -/
theorem rollbackFloorNeverLowered : Obligations.RollbackFloorNeverLowered := by
  refine ⟨fun s t ht => step_floor ht (Nat.le_refl _), fun m s hg hj hv => ⟨_, execMinverSet_of_le hg hj hv, ?_⟩,
    fun m s hg hj hv => execMinverSet_of_lt hg hj hv, fun b n s hv hn => ?_⟩
  · simp [rcpDone]
  · exact absurd (check10_eq_none.mp (check10_of_verifyImage hn)) (Nat.not_le.mpr hv)

/-! ### CRC-32C (R55) -/

/-- One shift step of a reflected CRC with polynomial `p`. -/
def crcShift (p c : Nat) : Nat := if c % 2 = 1 then (c / 2) ^^^ p else c / 2

/-- The model shifts before it counts down, `Nat.repeat` after: the steps are the same. -/
theorem crcStepR_eq_repeat (p n c : Nat) : crcStepR p n c = Nat.repeat (crcShift p) n c := by
  have hswap : ∀ n c, Nat.repeat (crcShift p) n (crcShift p c) = crcShift p (Nat.repeat (crcShift p) n c) := by
    intro n c
    induction n with
    | zero => rfl
    | succ n ih => exact congrArg (crcShift p) ih
  induction n generalizing c with
  | zero => rfl
  | succ n ih => exact (ih (crcShift p c)).trans (hswap n c)

/-- One more byte, but for the final exclusive-or: it goes into the low bits and is shifted out by eight steps. -/
theorem crc32c_concat (l : List Byte) (b : Byte) : crc32c (l ++ [b]) ^^^ 0xFFFFFFFF =
    Nat.repeat (crcShift 0x82F63B78) 8 (crc32c l ^^^ 0xFFFFFFFF ^^^ b.toNat) := by
  rw [← crcStepR_eq_repeat, crc32c, crc32c, Nat.xor_xor_cancel_right, Nat.xor_xor_cancel_right, List.foldl_concat]

/-- Settles O11: the byte step of `crc32c`, the bits of the two forms of the polynomial, and the check value by computation. -/
theorem castagnoliCheck : Obligations.CastagnoliCheck :=
  ⟨fun b l _ => ⟨by decide, crc32c_concat l b⟩, by decide, by decide +kernel⟩

/-! ### Keys (R63) -/

section Keys

variable {s : State} {m : Master} {i : BitVec 4} (hg : s.grants m .p 0x10000 = true) (hj : s.rcp.job = none)
include hg hj

theorem execKeyWrite_of_wrong_key {k : BitVec 16} (hk : k.toNat ≠ cmdKey) :
    execKeyWrite m i k s = .next (rcpRefuse 0xA 0x1A s) := by
  simp [execKeyWrite, rcpKeyWrite, gate_rcpJudge_grants _ _ hg hj, hk]

theorem execKeyRevoke_of_wrong_key {k : BitVec 16} (hk : k.toNat ≠ cmdKey) :
    execKeyRevoke m i k s = .next (rcpRefuse 0xB 0x1A s) := by
  simp [execKeyRevoke, rcpKeyRevoke, gate_rcpJudge_grants _ _ hg hj, hk]

theorem execKeyWrite_of_locked (hl : s.keysLocked = true) : execKeyWrite m i 0xA5C3 s = .next (rcpRefuse 0xA 0x0D s) := by
  simp [execKeyWrite, rcpKeyWrite, gate_rcpJudge_grants _ _ hg hj, hl]

theorem execKeyRevoke_of_locked (hl : s.keysLocked = true) : execKeyRevoke m i 0xA5C3 s = .next (rcpRefuse 0xB 0x0D s) := by
  simp [execKeyRevoke, rcpKeyRevoke, gate_rcpJudge_grants _ _ hg hj, hl]

variable {k : KeySlot} (hl : s.keysLocked = false)
include hl

/-- KEY_WRITE of an existing slot: it must be EMPTY and the point on the curve. -/
theorem execKeyWrite_of_slot (hk : s.rcp.keys[i.toNat]? = some k) : execKeyWrite m i 0xA5C3 s = .next
    (if k.state = 0 && onCurve (keyPoint s.keyBuf) then rcpDone 0xA (s.setKey i.toNat ⟨1, some s.keyBuf⟩)
      else rcpRefuse 0xA 0x19 s) := by
  simp [execKeyWrite, rcpKeyWrite, gate_rcpJudge_grants _ _ hg hj, hl, hk]

/-- KEY_REVOKE of an existing slot: it must be VALID and not the only one. -/
theorem execKeyRevoke_of_slot (hk : s.rcp.keys[i.toNat]? = some k) : execKeyRevoke m i 0xA5C3 s = .next
    (if k.state = 1 && 2 ≤ (s.rcp.keys.filter (·.state == 1)).length then rcpDone 0xB (s.setKey i.toNat { k with state := 2 })
      else rcpRefuse 0xB 0x19 s) := by
  simp [execKeyRevoke, rcpKeyRevoke, gate_rcpJudge_grants _ _ hg hj, hl, hk]

/-- KEY_REVOKE leaves the last VALID slot, whichever slot it names. -/
theorem execKeyRevoke_of_last (hn : (s.rcp.keys.filter (·.state == 1)).length < 2) :
    execKeyRevoke m i 0xA5C3 s = .next (rcpRefuse 0xB 0x19 s) := by
  cases hk : s.rcp.keys[i.toNat]? with
  | none => simp [execKeyRevoke, rcpKeyRevoke, gate_rcpJudge_grants _ _ hg hj, hl, hk]
  | some k => rw [execKeyRevoke_of_slot hg hj hl hk, if_neg (by simp [hn])]

end Keys

/-! ### The SAFE acknowledge (R84, R85) -/

section SafeAck

variable {s : State} {m : Master} (hg : s.grants m .p 0x10000 = true) (hj : s.rcp.job = none)
include hg hj

theorem execSafeAck_of_not_pending (hp : s.safePending = false) : execSafeAck m s = .next (rcpRefuse 6 0x1E s) := by
  simp [execSafeAck, rcpSafeAck, gate_rcpJudge_grants _ _ hg hj, hp]

/-- A wrong code counts in ACK_FAIL; the third discards the pending configuration. -/
theorem execSafeAck_of_wrong_code (hp : s.safePending = true) (hc : s.rd F.RCP_SAFEACK_CODE ≠ 0xFFFFFFFF - s.rd (secCrcFld 6)) :
    execSafeAck m s = .next
      (let t := rcpRefuse 6 0x18 (s.wr F.RCP_STS_ACK_FAIL (min 3 (s.rd F.RCP_STS_ACK_FAIL + 1)))
       if 3 ≤ s.rd F.RCP_STS_ACK_FAIL + 1 then safeExpire t else t) := by
  simp [execSafeAck, rcpSafeAck, gate_rcpJudge_grants _ _ hg hj, hp, hc]

/-- The right code acknowledges the configuration, in the SBU and in the slots that hold its section (R86). -/
theorem execSafeAck_of_code (hp : s.safePending = true) (hc : s.rd F.RCP_SAFEACK_CODE = 0xFFFFFFFF - s.rd (secCrcFld 6)) :
    ∃ slots, execSafeAck m s =
      .next (rcpDone 6 { s with sbu := { s.sbu with ack := true }, rcp := { s.rcp with slots := slots } }) := by
  refine ⟨s.rcp.slots.map fun x => if x.valid && safeCrcOf x.image == some (s.rd (secCrcFld 6)) then
    { x with ack := some (s.rd (secCrcFld 6)) } else x, ?_⟩
  simp [execSafeAck, rcpSafeAck, gate_rcpJudge_grants _ _ hg hj, hp, hc]

end SafeAck

/-- Settles O54: each command's answer in each case of its order, key before state before argument. -/
theorem recipeKeys : Obligations.RecipeKeys := by
  refine ⟨fun m i k s hg hj hk => ⟨execKeyWrite_of_wrong_key hg hj hk, execKeyRevoke_of_wrong_key hg hj hk,
      execMinverSet_of_wrong_key hg hj hk⟩,
    fun m i s hg hj he => ?_, fun m i k s hg hj hl hk h0 hp => ?_, fun m i k s hg hj hl hk hno => ?_,
    fun m i k s hg hj hl hk h1 hn => ?_, fun m i s hg hj hl hn => execKeyRevoke_of_last hg hj hl hn,
    fun m s hg hj hv => execMinverSet_of_le hg hj hv, fun m s hg hj hv => execMinverSet_of_lt hg hj hv,
    fun m s hg hj hp => execSafeAck_of_not_pending hg hj hp, fun m s hg hj hp hc hn => ?_, fun m s hg hj hp hc hn => ?_,
    fun m s hg hj hp hc => ?_, fun s hp => ?_, fun s hp => ?_⟩
  · have hl : s.keysLocked = true := by simpa [State.keysLocked, or_assoc] using he
    exact ⟨execKeyWrite_of_locked hg hj hl, execKeyRevoke_of_locked hg hj hl⟩
  · exact (execKeyWrite_of_slot hg hj hl hk).trans (by simp [h0, hp])
  · exact (execKeyWrite_of_slot hg hj hl hk).trans (by rcases hno with h | h <;> simp [h])
  · exact (execKeyRevoke_of_slot hg hj hl hk).trans (by simp [h1, hn])
  · have hmin : min 3 (s.rd F.RCP_STS_ACK_FAIL + 1) = s.rd F.RCP_STS_ACK_FAIL + 1 := by omega
    exact (execSafeAck_of_wrong_code hg hj hp hc).trans (by rw [hmin]; exact congrArg _ (if_neg (by omega)))
  · exact (execSafeAck_of_wrong_code hg hj hp hc).trans (by simp [hn])
  · obtain ⟨slots, hs⟩ := execSafeAck_of_code hg hj hp hc
    exact ⟨_, hs, rfl, rfl⟩
  · exact congrArg _ (if_pos hp)
  · exact congrArg _ (if_neg (by simp [hp]))

/-! ### The commit (R75 to R77, R81, R82) -/

section Commit

variable {s : State} {p : Prep} (hp : s.rcp.prep = some p)
include hp

/-- The end of prepare while arm cycles run: the commit waits, on the active unit for a confirmation if it is coordinated. -/
theorem prepareEnd_of_running (hr : p.ready = false) (hrun : s.running = true) (hrole : p.k = none ∨ p.role = roACTIVE) :
    prepareEnd s = (setPrep (fun p => { p with ready := true }) s).wr F.RCP_STS_PHASE
      (if p.k.isSome && !p.confirmed && !p.alone then 5 else 3) := by
  have hrun' : (setPrep (fun p => { p with ready := true }) s).running = true := hrun
  have hstandby : ¬ (p.k.isSome = true ∧ p.role = roSTANDBY) := by
    rintro ⟨hk, hst⟩
    rcases hrole with h | h
    · simp [h] at hk
    · exact absurd (h.symm.trans hst) (by decide)
  simp [prepareEnd, hp, hr, hrun', hstandby]

theorem prepareEnd_of_stopped (hr : p.ready = false) (hrun : s.running = false) :
    prepareEnd s = commitSwitch (setPrep (fun p => { p with ready := true }) s) := by
  have hrun' : (setPrep (fun p => { p with ready := true }) s).running = false := hrun
  simp [prepareEnd, hp, hr, hrun']

/-- A commit that is ready and due is judged once more, and takes effect or ends with 0x16 and FS39. -/
theorem commitSwitch_of_due (hr : p.ready = true) (hd : s.switchDue p = true) : commitSwitch s =
    if stateVerdict { p.img with flags := clearBit p.img.flags 0 } p.changed s.st = 0 then
      rcpFinish 2 0 0 0 (switchNow (s.commitCyc p) p s)
    else rcpFinish 2 0x16 0 0 (raise 39 s) := by
  simp [commitSwitch, hp, hr, hd]

theorem commitSwitch_of_not_due (h : p.ready = false ∨ s.switchDue p = false) : commitSwitch s = s := by
  rcases h with h | h <;> simp [commitSwitch, hp, h]

theorem confirmReceived_of_ready {k : Nat} (hk : p.k = some k) (hr : p.ready = true) :
    confirmReceived s = (setPrep (fun p => { p with confirmed := true }) s).wr F.RCP_STS_PHASE 3 := by
  simp [confirmReceived, hp, hk, hr]

variable {k : Nat} (hk : p.k = some k) (hc : p.confirmed = false) (hd : s.deadlineDue k = true)
include hk hc hd

theorem confirmDeadline_of_both (hb : s.flag F.RCP_TWINCFG_REQ_BOTH = true) :
    confirmDeadline s = commitUnready (s.carry 16 (leBytes 4 k)) := by
  simp [confirmDeadline, hp, hk, hc, hd, hb]

theorem confirmDeadline_of_alone (hb : s.flag F.RCP_TWINCFG_REQ_BOTH = false) (hrole : s.role ≠ roSTANDBY) (hr : p.ready = true) :
    confirmDeadline s = (setPrep (fun p => { p with alone := true }) s).wr F.RCP_STS_PHASE 3 := by
  simp [confirmDeadline, hp, hk, hc, hd, hb, hrole, hr]

end Commit

/-- A standby keeps a proposal until its stage area holds a verified image. -/
theorem proposalTry_of_stage_not_ok {s : State} (h : s.flag F.RCP_STS_STAGE_OK = false) : proposalTry s = s := by
  unfold proposalTry
  split
  · rfl
  · simp [h]

theorem proposalReceived_of_stage_not_ok {s : State} (id : Nat) (crcs : List Nat) (k : Nat) (hw : s.standbyWrite = true)
    (h : s.flag F.RCP_STS_STAGE_OK = false) :
    proposalReceived id crcs k s = { s with rcp := { s.rcp with proposal := some (id, crcs, k) } } := by
  rw [proposalReceived, if_pos hw]
  exact proposalTry_of_stage_not_ok h

/-- The tables of a switch leave of the Recipe unit all but the sections and the commit. -/
theorem switchTables_rcp (k : Nat) (p : Prep) (s : State) : (switchTables k p s).rcp = { s.rcp with
    secs := [1, 2, 3, 4, 5, 6].map fun t => (t, if p.changed.contains t then s.newSec p.img t else s.activeSec t), prep := none } := by
  simp [switchTables, State.wr64]

/-- A field that a loop of writes does not name reads as before. -/
theorem rd_forAll_wr {α : Type} (l : List α) (f : α → Fld) (v : α → State → Nat) (s : State) {g : Fld}
    (h : ∀ a ∈ l, g.key ≠ (f a).key) : (forAll l (fun a s => s.wr (f a) (v a s)) s).rd g = s.rd g := by
  induction l generalizing s with
  | nil => rfl
  | cons a l ih =>
    obtain ⟨ha, hl⟩ := List.forall_mem_cons.mp h
    rw [forAll_cons, ih _ hl, State.rd_wr_ne _ _ ha]

theorem switchTables_commitCyc {k : Nat} (hk : k < 2 ^ 32) (p : Prep) (s : State) :
    (switchTables k p s).rd F.RCP_COMMIT_CYC_VALUE = k := by
  rw [switchTables, rd_forAll_wr _ _ _ _ (by decide), State.wr64, State.rd_wr_ne _ _ (by decide), State.rd_wr_ne _ _ (by decide)]
  simp only [State.wrs_cons, State.wrs_nil]
  rw [State.rd_wr_ne _ _ (by decide), State.rd_wr_ne _ _ (by decide), State.rd_wr_same]
  exact Nat.mod_eq_of_lt hk

/-- Settles O55: each command of the commit by the lemma on its case. -/
theorem recipeSwitch : Obligations.RecipeSwitch := by
  refine ⟨fun p s hp hr hrun hk => ?_, fun p k s hp hr hrun hk hrole hc ha => ?_,
    fun p s hp hr hrun => congrArg _ (prepareEnd_of_stopped hp hr hrun), fun p s hp hr hd hv => ?_, fun p s hp hr hd hv ha => ?_,
    fun p s hp h => congrArg _ (commitSwitch_of_not_due hp h),
    fun k p s hk => ⟨switchTables_commitCyc hk p s, by rw [switchTables_rcp], by rw [switchTables_rcp]⟩,
    fun id crcs k s hw hs => ?_, fun p k s hp hk hr => congrArg _ (confirmReceived_of_ready hp hk hr),
    fun p k s hp hk hc hd hb => congrArg _ (confirmDeadline_of_both hp hk hc hd hb),
    fun p k s hp hk hc hd hb hrole hr => congrArg _ (confirmDeadline_of_alone hp hk hc hd hb hrole hr)⟩
  · exact congrArg _ ((prepareEnd_of_running hp hr hrun (.inl hk)).trans (by simp [hk]))
  · exact congrArg _ ((prepareEnd_of_running hp hr hrun (.inr hrole)).trans (by simp [hk, hc, ha]))
  · exact congrArg _ ((commitSwitch_of_due hp hr hd).trans (if_pos hv))
  · have hauto : (raise 39 s).rcp.auto = none := by rw [raise_rcp, ha]
    rw [← rcpFinish_of_auto_none 2 0x16 0 0 hauto]
    exact congrArg _ ((commitSwitch_of_due hp hr hd).trans (if_neg hv))
  · exact congrArg _ (proposalReceived_of_stage_not_ok _ _ _ hw hs)

end Sys2Proof.Machine
end

section
/-! SUPPORT. The statements on the arm cycle (spec/03): levels and the schedule, the events of a cycle, frames, the timing stage and the
commits of a fractional-PWM unit. -/

namespace Sys2Proof.Machine

/-! ### Reading after a change -/

/-- A granted register write answers what its operation makes of the state. -/
theorem next_gate {m : Master} {v : View} {a : Nat} {k : State → State} {s t : State} (hg : s.grants m v a = true) (h : k s = t) :
    (.next (gate m v a k s) : Res) = .next t :=
  congrArg _ ((gate_grants k hg).trans h)

/-- A one-bit field reads 0 after 0 was written to it. -/
theorem flag_wr_zero (s : State) (f : Fld) : (s.wr f 0).flag f = false := by
  simp [State.flag]

theorem rd_inc_ne (s : State) {f g : Fld} (n : Nat) (h : g.key ≠ f.key) : (s.inc f n).rd g = s.rd g := State.rd_wr_ne _ _ h

theorem rd_put_ne (s : State) {f g : Fld} (b : Bool) (h : g.key ≠ f.key) : (s.put f b).rd g = s.rd g := State.rd_wr_ne _ _ h

/-- Element `n` of the padded list is the one that changes. -/
theorem modifyPad_getD {α : Type} (d : α) (f : α → α) (n : Nat) (l : List α) : (modifyPad d f n l).getD n d = f (l.getD n d) := by
  induction n generalizing l with
  | zero => cases l <;> rfl
  | succ n ih => cases l with
    | nil => exact ih []
    | cons x l => exact ih l

/-- Lane `l` after its change. -/
theorem ln_setLn_same (s : State) (l : Nat) (f : LaneSt → LaneSt) : (s.setLn l f).ln l = f (s.ln l) := modifyPad_getD ..

/-- Twin operation reads two fields of GLB.ROLE alone. -/
theorem twinned_congr {s t : State} (h : t.regs = s.regs) : t.twinned = s.twinned := by
  rw [State.twinned, State.twinned, State.flag, State.flag, State.role, State.role, State.rd_congr h, State.rd_congr h]

theorem twinned_wr_of_addr_lt (s : State) {f : Fld} (v : Nat) (h : F.GLB_ROLE_TWIN.addr < f.addr) :
    (s.wr f v).twinned = s.twinned := by
  simp only [State.twinned, flag_wr_ne s v (Fld.key_ne_of_addr_lt (by decide) h),
    role_wr s v (Fld.key_ne_of_addr_lt (by decide) h)]

/-- A commit's capture leaves every active value (R9). -/
theorem captureAll_regs (fs : List Fld) (s : State) : (captureAll fs s).regs = s.regs := (captureAll_within fs s).parts 0 rfl

/-! ### A request for a performance level (R567) -/

/-- RESULT of a request for level `q`: the first of the refusals that applies, else 1. -/
def State.plResult (s : State) (q key : Nat) : Nat :=
  if key != 0xA5C3 then 4 else if s.clk.plStep != 0 then 3 else if !s.running then 5
  else if q = s.rd F.CLK_PLSTS_PL then 6 else if !s.rdBit F.SCH_ACCEPT_PLOK q then 2 else 1

theorem plRequest_eq (q key : Nat) (s : State) : plRequest q key s =
    let t := s.wr F.CLK_PLSTS_RESULT (s.plResult q key)
    if s.plResult q key = 1 then plStart (t.rd F.CLK_PLSTS_PL) q false t else t := rfl

theorem plRequest_of_refused {s : State} {q key : Nat} (h : s.plResult q key ≠ 1) :
    plRequest q key s = s.wr F.CLK_PLSTS_RESULT (s.plResult q key) := (plRequest_eq ..).trans (if_neg h)

theorem plRequest_of_accepted {s : State} {q key : Nat} (h : s.plResult q key = 1) :
    plRequest q key s = plStart (s.rd F.CLK_PLSTS_PL) q false (s.wr F.CLK_PLSTS_RESULT 1) := by
  have hp : (s.wr F.CLK_PLSTS_RESULT 1).rd F.CLK_PLSTS_PL = s.rd F.CLK_PLSTS_PL := State.rd_wr_ne _ _ (by decide)
  simp only [plRequest_eq, h, if_true, hp]

/-- With arm cycles running a change waits for the next cycle start (R568). -/
theorem plStart_of_running {s : State} (p q : Nat) (returning : Bool) (h : s.running = true) : plStart p q returning s =
    plStep 1 ({ s with clk := { s.clk with plFrom := p, returning := returning } }.wr F.CLK_PLSTS_TARGET q) := by
  refine if_pos ?_
  rw [running_wr _ _ (by decide)]
  exact h

section Request

variable {s : State} {m : Master} {q : BitVec 2} (hg : s.grants m .p 0x3E0050 = true)
include hg

/-- A refused request shows its result alone. -/
theorem execPlreq_of_refused {k : BitVec 16} {r : Nat} (hr : s.plResult q.toNat k.toNat = r) (h : r ≠ 1) :
    execPlreq m q k s = .next (s.wr F.CLK_PLSTS_RESULT r) := by
  subst hr
  exact next_gate hg (plRequest_of_refused h)

theorem execPlreq_of_accepted {k : BitVec 16} (hr : s.plResult q.toNat k.toNat = 1) (hrun : s.running = true) :
    execPlreq m q k s = .next (plStep 1 ({ s.wr F.CLK_PLSTS_RESULT 1 with
      clk := { s.clk with plFrom := s.rd F.CLK_PLSTS_PL, returning := false } }.wr F.CLK_PLSTS_TARGET q.toNat)) := by
  refine next_gate hg ((plRequest_of_accepted hr).trans (plStart_of_running _ _ _ ?_))
  rw [running_wr _ _ (by decide), hrun]

end Request

/-! ### The voltage–rate sequencer (R568 to R570) -/

theorem vcoreSettled_of_other_step {s : State} (mv : Nat) (h : s.clk.plStep ≠ 2) :
    vcoreSettled mv s = s.wr F.CLK_VCORE_MV mv := by
  simp [vcoreSettled, h]

/-- VCORE settled on the way up: the Cellar is next. -/
theorem vcoreSettled_of_raising {s : State} (mv : Nat) (h : s.clk.plStep = 2) (hup : s.clk.plFrom < s.rd F.CLK_PLSTS_TARGET) :
    vcoreSettled mv s = plStep 3 (s.wr F.CLK_VCORE_MV mv) := by
  simp [vcoreSettled, h, State.rd_wr_ne s (f := F.CLK_VCORE_MV) (g := F.CLK_PLSTS_TARGET) mv (by decide), hup]

/-- The Cellar switched on the way up: the new level is in force and is verified. -/
theorem cellarSwitched_of_raising {s : State} (h : s.clk.plStep = 3) (hup : s.clk.plFrom < s.rd F.CLK_PLSTS_TARGET) :
    cellarSwitched s = plVerify (levelFigures
      (((s.put F.CLK_CKSTS_CSEL (!s.flag F.CLK_CKSTS_CSEL)).inc F.CLK_MUXCNT_SWITCHES).wr F.CLK_PLSTS_INFORCE
        (s.rd F.CLK_PLSTS_TARGET))) := by
  have hq : ((s.put F.CLK_CKSTS_CSEL (!s.flag F.CLK_CKSTS_CSEL)).inc F.CLK_MUXCNT_SWITCHES).rd F.CLK_PLSTS_TARGET =
      s.rd F.CLK_PLSTS_TARGET := by
    rw [rd_inc_ne _ _ (by decide), rd_put_ne _ _ (by decide)]
  simp [cellarSwitched, h, hq, hup]

/-! ### Acceptance, replicas and the limits of insertion (R106, R111, R219, R254, R571) -/

/-- In the 16th cycle above the limit FS20 is raised; without AUTOUP that is all. -/
theorem replicaLimit_of_no_autoup {s : State} (hr : 16 ≤ s.clk.replRun) (hc : s.fc.cond.contains 20 = false)
    (ha : (raise 20 s).flag F.CLK_PLCFG_AUTOUP = false) : replicaLimit s = raise 20 s := by
  have hlim : (decide (s.clk.replRun < 16) || s.fc.cond.contains 20) = false := by
    rw [hc, Bool.or_false]
    exact decide_eq_false (Nat.not_lt.mpr hr)
  rw [replicaLimit, if_neg (Bool.eq_false_iff.mp hlim)]
  exact if_neg (by simp [ha])

theorem replicaLimit_of_few {s : State} (h : s.clk.replRun < 16) : replicaLimit s = s := if_pos (by simp [h])

/-- A standby of a declared twin leaves a carried register (R219, R254). -/
theorem carriedWrite_of_standby {s : State} (m : Master) (stby : Fld) (addr w : Nat) (h : s.standbyWrite = true) :
    carriedWrite m stby addr w s = s.wr stby 1 := if_pos h

/-- Settles O34: a request by its result, the sequencer by its step, and each write by what its granted operation does. -/
theorem levelsAndSchedule : Obligations.LevelsAndSchedule := by
  refine ⟨fun m q k s hg hk => execPlreq_of_refused hg (if_pos (by simpa using hk)) (by decide),
    fun m q s hg hp => execPlreq_of_refused hg (by simp [State.plResult, hp]) (by decide),
    fun m q s hg hp hr => execPlreq_of_refused hg (by simp [State.plResult, hp, hr]) (by decide),
    fun m q s hg hp hr hq => execPlreq_of_refused hg (by simp [State.plResult, hp, hr, hq]) (by decide),
    fun m q s hg hp hr hq hb => execPlreq_of_refused hg (by simp [State.plResult, hp, hr, hq, hb]) (by decide),
    fun m q s hg hp hr hq hb => execPlreq_of_accepted hg (by simp [State.plResult, hp, hr, hq, hb]) hr,
    fun s h => if_pos h, fun s h => if_neg (Nat.not_lt.mpr h),
    fun v s h hup => congrArg _ (vcoreSettled_of_raising _ h hup), fun v s h => congrArg _ (vcoreSettled_of_other_step _ h),
    fun s h hup => congrArg _ (cellarSwitched_of_raising h hup), fun s h => congrArg _ (if_pos h), fun s h => if_neg (by simp [h]),
    fun m s hg hb => next_gate hg (if_neg (by simp [hb])), fun m s hg hb => next_gate hg (if_pos hb),
    fun m w v s hg hst => next_gate hg (if_neg hst), fun m w v s hg hst => next_gate hg (if_pos hst),
    fun s hr hc ha => congrArg _ (replicaLimit_of_no_autoup hr hc ha), fun s hr => congrArg _ (replicaLimit_of_few hr),
    fun m s hg => next_gate hg rfl, fun m s hg => next_gate hg rfl, fun m n w v s hg hs => next_gate hg ?_,
    fun m n w v s hg => next_gate hg rfl⟩
  rw [insLimitWrite, carriedWrite_of_standby _ _ _ _ hs]

/-! ### The events of a cycle (R92 to R94, R98, R102, R113, R115) -/

theorem token_of_running {s : State} (now idx : Nat) (h : s.running = true) :
    token now idx s = replicas now idx (rampsUpdate s.nextCyc (sampleAll s.nextCyc s)) := if_neg (by simp [h])

/-- With no carried write waiting, the fabric samples every field as it stands (R102). -/
theorem smp_sampleAll_of_no_items {s : State} (f : Fld) (c : Nat) (h : s.twn.items = []) : (sampleAll c s).smp f = s.rd f := by
  simp only [sampleAll, h, forAll_nil]
  rfl

theorem nextCyc_of_next {s : State} (hf : s.sch.first = none) (ha : s.twn.adopt = false) (hr : s.tb.renum = none) :
    s.nextCyc = (s.cyc + 1) % 2 ^ 32 := by
  simp [State.nextCyc, hf, ha, hr]

theorem numberCycle_of_next {s : State} (hf : s.sch.first = none) (ha : s.twn.adopt = false) (hr : s.tb.renum = none) :
    numberCycle s = s.wr F.SCH_CYC_CYC s.nextCyc := by
  simp [numberCycle, hf, ha, hr]

/-- The first cycle takes the number it was given, and the control periods are counted from it (R93, R364). -/
theorem numberCycle_of_first {s : State} {c : Nat} (hf : s.sch.first = some c) : numberCycle s =
    (({ s with sch := { s.sch with first := none } } : State).wr F.SCH_CYC_CYC c).wr F.SCH_CPBASE_CYC c := by
  simp [numberCycle, State.nextCyc, hf]

theorem armFreeze_of_idle {s : State} (h : s.running = false ∨ s.sch.frozen = true ∨ s.sch.first.isSome = true) :
    armFreeze s = s := by
  refine if_pos ?_
  rcases h with h | h | h <;> simp [h]

/-- An arm in time, and not held for a resync, starts its run of late cycles again (R115). -/
theorem deadline_of_in_time {s : State} {n : Nat} (hh : (s.arm n).rsHold = false) (hl : s.armLate n = false) : deadline n s =
    unraise (224 + 2 * n) (((s.wr (F.ARM_STS_LASTLATE n) 0).wr (F.ARM_STS_MISSRUN n) 0).putBit F.SCH_LATEARMS_ARMS n false) := by
  simp [deadline, hh, hl]

/-- Settles O35: each event by its guard, past which it is the chain of operations that its definition lists; the number of a cycle by
the two ways to it. -/
theorem cycleEvents : Obligations.CycleEvents := by
  refine ⟨fun a i s h => congrArg _ (if_pos (by simp [h])), fun a i s h => congrArg _ (token_of_running _ _ h),
    fun f c s h => smp_sampleAll_of_no_items f c h, fun s h => congrArg _ (if_pos (by simp [h])),
    fun s h => congrArg _ (if_neg (by simp [h])), fun s hf ha hr => ?_, fun c s hf hc => ?_,
    fun s h => congrArg _ (armFreeze_of_idle h), fun s hrun hfr hf => congrArg _ (if_neg (by simp [hrun, hfr, hf])),
    fun n s h => congrArg _ (if_pos h), fun n s h => congrArg _ (if_neg h), fun n s hh hl => deadline_of_in_time hh hl⟩
  · rw [numberCycle_of_next hf ha hr, nextCyc_of_next hf ha hr, State.cyc, State.rd_wr_same]
    exact Nat.mod_mod _ _
  · have hmod : c % 2 ^ 32 = c := Nat.mod_eq_of_lt hc
    rw [numberCycle_of_first hf, State.cyc, State.rd_wr_ne _ _ (by decide), State.rd_wr_same, State.rd_wr_same]
    exact ⟨hmod, hmod⟩

/-! ### Frames (R99, R107, R112, R290 to R294) -/

section Uplink

variable {s : State} (l start : Nat) (b : List Byte) (c d : Nat)

theorem uplink_of_ignored (h : s.lane l ≠ lsLOCKED ∨ s.cl.launched = false ∨ (s.ln l).te.isSome = true) :
    uplink l start b c d s = s := by
  refine if_pos ?_
  rcases h with h | h | h <;> simp [h]

variable (hl : s.lane l = lsLOCKED) (hc : s.cl.launched = true) (ht : (s.ln l).te = none)
include hl hc ht

/-- A foreign header is counted, beside the code groups, and nothing else. -/
theorem uplink_of_bad_header (hh : (codeGroups l c d s).headerOk b = false) :
    uplink l start b c d s = (codeGroups l c d s).inc (F.CL_ERR4_HDRERR l) := by
  simp [uplink, hl, hc, ht, hh]

/-- A frame with the header of this cycle ends with the record of its end, and the ring is judged (R290, R321). -/
theorem uplink_of_headerOk (hh : (codeGroups l c d s).headerOk b = true) :
    ∃ t : State, uplink l start b c d s = ringBreak l t ∧ (t.ln l).te.isSome = true := by
  have hguard : ¬ (s.lane l != lsLOCKED || !s.cl.launched || (s.ln l).te.isSome) = true := by simp [hl, hc, ht]
  rw [uplink, if_neg hguard, if_neg (by simp [hh])]
  refine ⟨_, rfl, ?_⟩
  rw [ln_setLn_same]
  rfl

end Uplink

theorem uplinkCutoff_of_ignored {s : State} {n : Nat} (h : s.running = false ∨ s.arms.contains n = false ∨ (s.arm n).cut = true) :
    uplinkCutoff n s = s := by
  refine if_pos ?_
  rcases h with h | h | h <;> simp only [h, Bool.not_false, Bool.true_or, Bool.or_true]

/-- Settles O37: a frame by the guard and by its header, a cut-off by its guard. -/
theorem frameEvents : Obligations.FrameEvents := by
  refine ⟨fun l a b c d s h => congrArg _ (uplink_of_ignored _ _ _ _ _ h),
    fun l a b c d s hl hc ht hh => congrArg _ (uplink_of_bad_header _ _ _ _ _ hl hc ht hh),
    fun l a b c d s hl hc ht hh => ?_, fun n s h => congrArg _ (uplinkCutoff_of_ignored h),
    fun n s hr ha hc => congrArg _ (if_neg (by rw [hr, ha, hc]; decide))⟩
  obtain ⟨t, hu, hte⟩ := uplink_of_headerOk l.val a.toNat b c.toNat d.toNat hl hc ht hh
  exact ⟨t, congrArg _ hu, hte⟩

/-! ### The timing stage (R107, R114) -/

section Timing

variable {s : State} {n : Nat} (crt : Nat)

theorem timing_of_lateOpen (h : (s.arm n).lateOpen = true) :
    timing n crt s = recordDone n crt (s.setArm n fun a => { a with lateOpen := false }) := if_pos h

/-- Without a selection, or once done, the stage does nothing. -/
theorem timing_of_not_due (hl : (s.arm n).lateOpen = false) (h : (s.arm n).sel = none ∨ (s.arm n).done.isSome = true) :
    timing n crt s = s := by
  rcases h with h | h
  · simp [timing, hl, h]
  · cases hq : (s.arm n).sel <;> simp [timing, hl, h, hq]

/-- The stage records its end on `t`, the state in which its slots, if it wrote any, stand. -/
theorem timing_of_sel {q : Sel} {t : State} (hl : (s.arm n).lateOpen = false) (hq : (s.arm n).sel = some q)
    (hd : (s.arm n).done = none) (ht : (if s.st = stRUN then writeSlots n q s else s) = t)
    (hsrc : t.smpFlag (F.INS_FP_CFG_SRC n) = false) :
    timing n crt s = recordDone n crt (t.setArm n fun a => { a with done := some crt }) := by
  simp [timing, hl, hq, hd, ht, hsrc]

end Timing

/-! ### Commits and update points of FP(n) (R248 to R254) -/

section FpCommit

variable {s : State} {n : Nat}

theorem fpCommit_of_standby (h : s.standbyWrite = true) : fpCommit n s = s.wr (F.INS_FP_STS_STBY_WR n) 1 := if_pos h

variable (hs : s.standbyWrite = false)
include hs

theorem fpCommit_of_auto (hm : s.flag (F.INS_FP_CFG_MODE n) = true) (ht : s.twinned = false) : fpCommit n s = s := by
  simp [fpCommit, hs, hm, ht]

variable (hm : s.flag (F.INS_FP_CFG_MODE n) = false)
include hm

theorem fpCommit_of_pending (hp : s.flag (F.INS_FP_STS_PENDING n) = true) :
    fpCommit n s = s.wr (F.INS_FP_STS_CREFUSED n) 1 := by
  simp [fpCommit, hs, hm, hp]

/-- A commit without a twin waits for the next update point. -/
theorem fpCommit_of_accepted (hp : s.flag (F.INS_FP_STS_PENDING n) = false) (ht : s.twinned = false) : fpCommit n s =
    ((captureAll (fpShared n ++ fpCompares n) s).wr (F.INS_FP_STS_PENDING n) 1).setArm n fun a => { a with fpAt := none } := by
  have htwin : ((captureAll (fpShared n ++ fpCompares n) s).wr (F.INS_FP_STS_PENDING n) 1).twinned = false := by
    have haddr : F.GLB_ROLE_TWIN.addr < (F.INS_FP_STS_PENDING n).addr := Nat.lt_of_lt_of_le (by decide) (Nat.le_add_right ..)
    rw [twinned_wr_of_addr_lt _ _ haddr, twinned_congr (captureAll_regs ..), ht]
  simp [fpCommit, hs, hm, hp, htwin]

end FpCommit

/-- The update point of a pending commit that waits for no cycle ends it. -/
theorem fpUpdate_of_pending {s : State} {n : Nat} (hr : s.running = true) (hp : s.flag (F.INS_FP_STS_PENDING n) = true)
    (ha : (s.arm n).fpAt = none) : (fpUpdate n s).flag (F.INS_FP_STS_PENDING n) = false := by
  have hset : ∀ (t : State) (f : ArmSt → ArmSt), (t.setArm n f).flag (F.INS_FP_STS_PENDING n) =
      t.flag (F.INS_FP_STS_PENDING n) := fun _ _ => rfl
  simp only [fpUpdate, hr, hp, ha, Bool.not_true, Bool.false_eq_true, if_false, Bool.and_self, if_true, hset, flag_wr_zero]

/-- A compare that fires emits its trigger, and the Ledger's when it is selected (R251, R348). -/
theorem compareFire_of_fires {s : State} {n j : Nat} (h : s.compareFires n j = true) : compareFire n j s =
    if (s.emit (.trigger 0 n j)).rd F.TLY_LTRIG_FPSEL_N = n ∧ (s.emit (.trigger 0 n j)).rd F.TLY_LTRIG_FPSEL_J = j then
      ledgerFire 7 (s.emit (.trigger 0 n j)) else s.emit (.trigger 0 n j) := by
  simp [compareFire, h]

/-- Settles O41: the timing stage, a commit, an update point and a compare, each by its case. -/
theorem timingCommands : Obligations.TimingCommands := by
  refine ⟨fun n c s h => congrArg _ (timing_of_lateOpen _ h), fun n c s hl h => congrArg _ (timing_of_not_due _ hl h),
    fun q n c s hl hq hd hst hsrc => congrArg _ (timing_of_sel _ hl hq hd (if_neg hst) hsrc),
    fun q n c s hl hq hd hst hsrc => congrArg _ (timing_of_sel _ hl hq hd (if_pos hst) hsrc),
    fun m n s hg hs => next_gate hg (fpCommit_of_standby hs), fun m n s hg hs hm ht => next_gate hg (fpCommit_of_auto hs hm ht),
    fun m n s hg hs hm hp => next_gate hg (fpCommit_of_pending hs hm hp),
    fun m n s hg hs hm hp ht => next_gate hg (fpCommit_of_accepted hs hm hp ht), fun n s h => congrArg _ (if_pos (by simp [h])),
    fun n s hr _ _ hp ha => ⟨_, rfl, fpUpdate_of_pending hr hp ha⟩,
    fun n j s h => congrArg _ (if_neg (Bool.eq_false_iff.mp h)), fun n j s h => congrArg _ (compareFire_of_fires h),
    fun m s hg => next_gate hg rfl⟩

end Sys2Proof.Machine
end

section
/-! SUPPORT. The statement on the references (spec/05): commits of orders and waveforms, PRESET, and the level generator. -/

namespace Sys2Proof.Machine

/-! ### Commits and PRESET (R162, R170 to R172) -/

section RefCommit

variable {s : State}

theorem ocommit_of_standby (h : s.standbyWrite = true) : ocommit s = s.wr F.REF_STS_STBY_WR 1 := if_pos h

theorem wcommit_of_standby (h : s.standbyWrite = true) : wcommit s = s.wr F.REF_STS_STBY_WR 1 := if_pos h

theorem preset_of_standby (m : Master) (k : Nat) (h : s.standbyWrite = true) : preset m k s = s.wr F.REF_STS_STBY_WR 1 := if_pos h

/-- Neither a capture nor the record of a pending commit changes whether a twin is declared. -/
theorem flag_twin_commit (fs : List Fld) {p a : Fld} (k : Nat) (hp : F.GLB_ROLE_TWIN.key ≠ p.key) (ha : F.GLB_ROLE_TWIN.key ≠ a.key) :
    ((captureAll fs s).wrs [(p, 1), (a, k)]).flag F.GLB_ROLE_TWIN = s.flag F.GLB_ROLE_TWIN := by
  simp only [State.wrs_cons, State.wrs_nil]
  rw [flag_wr_ne _ _ ha, flag_wr_ne _ _ hp, State.flag, State.rd_congr (captureAll_regs ..), State.flag]

variable (hs : s.standbyWrite = false)
include hs

theorem ocommit_of_pending (hp : s.flag F.REF_STS_OPENDING = true) : ocommit s = s.wr F.REF_STS_REFUSED 1 := by
  rw [ocommit, if_neg (by simp [hs]), if_pos hp]

theorem wcommit_of_pending (hp : s.flag F.REF_STS_WPENDING = true) : wcommit s = s.wr F.REF_STS_REFUSED 1 := by
  rw [wcommit, if_neg (by simp [hs]), if_pos hp]

/-- With no twin declared an order commit captures the shadows and waits for its apply point. -/
theorem ocommit_of_accepted (hp : s.flag F.REF_STS_OPENDING = false) (ht : s.flag F.GLB_ROLE_TWIN = false) :
    ocommit s = ((captureAll ((List.range 4).flatMap ordFields) s).wr F.REF_STS_OPENDING 1).wr F.REF_OAPPLY_CYC
      (captureAll ((List.range 4).flatMap ordFields) s).applyPoint := by
  rw [ocommit, if_neg (by simp [hs]), if_neg (by simp [hp])]
  refine if_neg ?_
  rw [flag_twin_commit _ _ (by decide) (by decide), ht]
  decide

/-- With no twin declared a waveform commit captures the shadows and waits for its apply point. -/
theorem wcommit_of_accepted (hp : s.flag F.REF_STS_WPENDING = false) (ht : s.flag F.GLB_ROLE_TWIN = false) :
    wcommit s = ((captureAll waveFields s).wr F.REF_STS_WPENDING 1).wr F.REF_WAPPLY_CYC (captureAll waveFields s).applyPoint := by
  rw [wcommit, if_neg (by simp [hs]), if_neg (by simp [hp])]
  refine if_neg ?_
  rw [flag_twin_commit _ _ (by decide) (by decide), ht]
  decide

theorem preset_of_run (m : Master) (k : Nat) (hr : s.st = stRUN) : preset m k s = s.werr F.HST_WERR_LOCKED m := by
  rw [preset, if_neg (by simp [hs]), if_pos hr]

/-- With no twin declared nothing is carried, and the ramps of the mask wait for their preset. -/
theorem preset_of_no_twin (m : Master) (k : Nat) (hr : s.st ≠ stRUN) (ht : s.flag F.GLB_ROLE_TWIN = false) :
    preset m k s = { s with ref := { s.ref with preset := s.ref.preset ||| k } } := by
  have htw : s.twinned = false := by rw [State.twinned, ht, Bool.false_and]
  simp [preset, hs, hr, ht, htw]

end RefCommit

/-! ### Apply points (R162, R171) -/

section RefApply

variable {s : State}

theorem orderApply_of_due (hp : s.flag F.REF_STS_OPENDING = true) (hc : s.cycleDue (s.rd F.REF_OAPPLY_CYC) = true) :
    orderApply s = (forAll [0, 1, 2, 3] ordApply s).wr F.REF_STS_OPENDING 0 :=
  if_pos (by rw [hp, hc, Bool.and_self])

theorem waveformApply_of_due (hp : s.flag F.REF_STS_WPENDING = true) (hc : s.cycleDue (s.rd F.REF_WAPPLY_CYC) = true) :
    waveformApply s = (s.applyCapt waveFields).wr F.REF_STS_WPENDING 0 :=
  if_pos (by rw [hp, hc, Bool.and_self])

theorem orderApply_of_not_pending (hp : s.flag F.REF_STS_OPENDING = false) : orderApply s = s := if_neg (by simp [hp])

theorem waveformApply_of_not_pending (hp : s.flag F.REF_STS_WPENDING = false) : waveformApply s = s := if_neg (by simp [hp])

end RefApply

/-! ### The level generator (R178 to R184) -/

section LevelGen

variable {s : State} {n : Nat}

theorem levelGen_of_idle (h : s.running = false ∨ s.arms.contains n = false) : levelGen n s = s := by
  refine if_pos ?_
  rcases h with h | h <;> simp only [h, Bool.not_false, Bool.true_or, Bool.or_true]

/-- A configured arm in a running cycle passes the guard of the level generator. -/
theorem levelGen_guard (hr : s.running = true) (ha : s.arms.contains n = true) :
    ¬ (!s.running || !s.arms.contains n) = true := by
  rw [hr, ha]
  decide

/-- A reference that is not finite leaves N and F of an arm that moves (R180). -/
theorem levelGen_of_not_finite (hr : s.running = true) (ha : s.arms.contains n = true) (hv : f32isFin (s.vref n) = false)
    (hm : s.armStill n = false) : levelGen n s = raise (225 + 2 * n) ((((s.wr (F.ARM_VREF_VAL n) (s.vref n)).put
      (F.ARM_LGSTS_INSTILL n) false).wr (F.ARM_LGSTS_NONFIN n) 1).wr (F.ARM_REFCAUSE_NONFIN n) 1) := by
  rw [levelGen, if_neg (levelGen_guard hr ha), hm]
  exact (if_pos (by rw [hv]; rfl)).trans (if_neg Bool.false_ne_true)

/-- The reference is held for HOLDLIM control periods (R179). -/
theorem refHeldLimit_of_held (hh : s.flag (F.ARM_LGSTS_HELD n) = true)
    (hl : s.rd F.REF_LGCFG_HOLDLIM ≤ s.rd (F.ARM_LGSTS_HELDRUN n)) :
    refHeldLimit n s = raise (225 + 2 * n) (s.wr (F.ARM_REFCAUSE_HELD n) 1) :=
  if_pos (by rw [hh, decide_eq_true hl, Bool.and_self])

theorem refHeldLimit_of_not_held (hh : s.flag (F.ARM_LGSTS_HELD n) = false) : refHeldLimit n s = s :=
  if_neg (by simp [hh])

end LevelGen

/-- Settles O40: each commit and PRESET by its case, an apply point by its guard, and the level generator by its two guards; past them a
finite reference gives N and F as the definition lists. -/
theorem referencesAndLevelGenerator : Obligations.ReferencesAndLevelGenerator := by
  refine ⟨fun m k s hg hs => ⟨next_gate hg (ocommit_of_standby hs), next_gate hg (wcommit_of_standby hs),
      next_gate hg (preset_of_standby m _ hs)⟩,
    fun m s hg hs hp => next_gate hg (ocommit_of_pending hs hp), fun m s hg hs hp => next_gate hg (wcommit_of_pending hs hp),
    fun m s hg hs hp ht => next_gate hg (ocommit_of_accepted hs hp ht),
    fun m s hg hs hp ht => next_gate hg (wcommit_of_accepted hs hp ht),
    fun m k s hg hs hr => next_gate hg (preset_of_run hs m _ hr),
    fun m k s hg hs hr ht => next_gate hg (preset_of_no_twin hs m _ hr ht),
    fun s hp hc => congrArg _ (orderApply_of_due hp hc), fun s hp hc => congrArg Host.Outcome.next (waveformApply_of_due hp hc),
    fun s ho hw => ⟨congrArg _ (orderApply_of_not_pending ho), congrArg _ (waveformApply_of_not_pending hw)⟩,
    fun n s h => congrArg _ (levelGen_of_idle h), fun n s hr ha hv hm => congrArg _ (levelGen_of_not_finite hr ha hv hm),
    fun n s hr ha hv => congrArg _ ((if_neg (levelGen_guard hr ha)).trans (if_neg (by simp [hv]))),
    fun n s hh hl => congrArg _ (refHeldLimit_of_held hh hl), fun n s hh => congrArg _ (refHeldLimit_of_not_held hh)⟩

end Sys2Proof.Machine
end

section
/-! SUPPORT. The statements on the lanes (spec/08): training and hop delays, loss of lock and of signal, gap idle, the counters of a
lane. -/

namespace Sys2Proof.Machine

/-! ### Training (R264, R274, R276, R283) -/

section Training

variable {s : State} {l : Nat}

/-- In EIDLE of a link process the end of the wait begins an attempt, which two counters show. -/
theorem idleExpired_of_linking (h : s.lane l = lsEIDLE) (hk : s.linking = true) (hr : s.ringWaits l = false) :
    idleExpired l s =
      (let t := (s.inc (F.CL_STS_ATTEMPTS l)).inc (F.CL_ERR3_TRAINS l)
       setLane l lsEXIT (t.emit (.laneCode l 2 (t.burst l)))) := if_pos (by simp [h, hk, hr])

theorem idleExpired_of_other_state (h : s.lane l ≠ lsEIDLE) : idleExpired l s = s := if_neg (by simp [h])

theorem rxLock_of_align (h : s.lane l = lsALIGN) :
    rxLock l s = setLane l lsTRAIN ((s.wr (F.CL_STS_RXLOCK l) 1).wr (F.CL_STS_SIGDET l) 1) :=
  (if_pos (by simp [h])).trans (if_pos h)

/-- A relock brings the lane back into service, and every hop is measured anew (R283). -/
theorem rxLock_of_rxlost (h : s.lane l = lsRXLOST) : rxLock l s = setLane l lsLOCKED
    ((dropSamples l ((s.wr (F.CL_STS_RXLOCK l) 1).wr (F.CL_STS_SIGDET l) 1)).wr (F.CL_DMSTS_NEXT l) 0) := by
  have halign : ¬ s.lane l = lsALIGN := by
    rw [h]
    decide
  exact (if_pos (by simp [h])).trans ((if_neg halign).trans (if_pos h))

/-- A TS2 outside TRAIN, or with a wrong CHK, is dropped. -/
theorem ts2Received_of_unsound {g h i c : Byte} (hu : s.lane l ≠ lsTRAIN ∨ c ≠ orderedChk [g, h, i]) :
    ts2Received l g h i c s = s := by
  refine if_neg ?_
  rcases hu with hu | hu <;> simp [hu]

/-- The link process bit lies below the lanes in the map. -/
theorem linking_wr_hopseen (l v : Nat) (s : State) : (s.wr (F.CL_STS_HOPSEEN l) v).linking = s.linking :=
  flag_wr_ne s v (Fld.key_ne_of_addr_lt (by decide) (Nat.lt_of_lt_of_le (by decide) (Nat.le_add_right ..)))

/-- Rings are closed again by a link process alone (R322). -/
theorem ringRejoin_of_not_linking (hops : Nat) (hk : s.linking = false) : ringRejoin l hops s = s := if_neg (by simp [hk])

/-- A sound TS2 on a lane without a ring: HOPSEEN is held against HOPS, and the measurement of hop 0 begins. -/
theorem ts2Received_of_sound {g h i c : Byte} (hl : s.lane l = lsTRAIN) (hc : c = orderedChk [g, h, i]) (hi : i.toNat = l)
    (hr : s.rd (F.CL_CFG_RING l) = 0xFF) (hk : s.linking = false) : ts2Received l g h i c s =
      (let t := s.wr (F.CL_STS_HOPSEEN l) h.toNat
       let u := if h.toNat = t.expHops l then t else laneCause l F.CL_CAUSE_HOPS t
       sendDmreq l 0 (setLane l lsMEASURE (u.setLn l fun x => { x with hops := [], mhop := 0 }))) := by
  have hjoin : ringRejoin l h.toNat (s.wr (F.CL_STS_HOPSEEN l) h.toNat) = s.wr (F.CL_STS_HOPSEEN l) h.toNat :=
    ringRejoin_of_not_linking _ ((linking_wr_hopseen ..).trans hk)
  simp only [ts2Received, hr, hl, ← hc, hi, hjoin, if_true, Nat.mul_zero, Nat.add_zero, decide_true, Bool.and_self]

theorem trainTimeout_of_training (h : s.lane l = lsALIGN ∨ s.lane l = lsTRAIN) :
    trainTimeout l s = idleLane l lsFAILED (laneCause l F.CL_CAUSE_TRAIN s) := if_pos (by simpa using h)

theorem trainTimeout_of_other_state (ha : s.lane l ≠ lsALIGN) (ht : s.lane l ≠ lsTRAIN) : trainTimeout l s = s :=
  if_neg (by simp [ha, ht])

theorem measureDone_of_measured (h : s.lane l = lsMEASURE) (hm : s.measured l = true) : measureDone l s =
    (let t := setLane l lsREADY ((computeComps l s).setLn l fun x => { x with retrain := false })
     if t.ringFar l then t else enumStart l t) := if_pos (by simp [h, hm])

theorem measureDone_of_other_state (h : s.lane l ≠ lsMEASURE) : measureDone l s = s := if_neg (by simp [h])

theorem retryExpired_of_failed (h : s.lane l = lsFAILED) (hk : s.linking = true) : retryExpired l s = setLane l lsEIDLE s :=
  if_pos (by simp [h, hk])

theorem retryExpired_of_not_linking (hk : s.linking = false) : retryExpired l s = s := if_neg (by simp [hk])

theorem laneRetrain_of_rxlost (h : s.lane l = lsRXLOST) :
    laneRetrain l s = idleLane l lsEIDLE (s.setLn l fun x => { x with retrain := true }) := by
  have hidle : ¬ s.lane l = lsEIDLE := by
    rw [h]
    decide
  exact (if_neg hidle).trans (if_pos h)

theorem laneRetrain_of_other_state (he : s.lane l ≠ lsEIDLE) (hr : s.lane l ≠ lsRXLOST) : laneRetrain l s = s :=
  (if_neg he).trans (if_neg hr)

end Training

/-! ### Hop delays (R277, R280, R281, R282) -/

section HopDelay

variable {s : State} {l : Nat}

section Response

variable {a b c d e : Byte} {r : Nat}

/-- An urgent block spoils the exchange of its cycle, which is asked again. -/
theorem dmrspReceived_of_cut (h : s.lane l = lsMEASURE) (hc : s.cutNow l = true) :
    dmrspReceived l a b c d e r s = sendDmreq l (s.ln l).mhop s := (if_pos h).trans (if_pos hc)

theorem dmrspReceived_of_bad_chk (h : s.lane l = lsMEASURE) (hc : s.cutNow l = false) (he : e ≠ orderedChk [a, b, c, d]) :
    dmrspReceived l a b c d e r s = trainFail l (s.inc (F.CL_ERR2_DMERR l)) := by
  simp only [dmrspReceived, h, hc, decide_eq_false he, if_true, Bool.false_and, Bool.false_eq_true, if_false]

/-- A sound response of the hop under measurement brings its TLB and RA, and is a sample of it. -/
theorem dmrspReceived_of_sound (h : s.lane l = lsMEASURE) (hc : s.cutNow l = false) (he : e = orderedChk [a, b, c, d])
    (hlo : 200 ≤ b.toNat + 256 * c.toNat) (hhi : b.toNat + 256 * c.toNat ≤ 5000) (ha : a.toNat = (s.ln l).mhop) :
    dmrspReceived l a b c d e r s = trainSample l (r % 2 ^ 20)
      (setHop l a.toNat (fun x => { x with tlb := b.toNat + 256 * c.toNat, ra := d.toNat }) s) := by
  simp only [dmrspReceived, h, hc, decide_eq_true he, decide_eq_true hlo, decide_eq_true hhi, decide_eq_true ha, if_true,
    Bool.and_self, Bool.false_eq_true, if_false]

/-- In service a response that answers no request is dropped. -/
theorem dmrspReceived_of_no_request (h : s.lane l ≠ lsMEASURE) (ho : (s.ln l).dmOut = none) :
    dmrspReceived l a b c d e r s = s := by
  simp only [dmrspReceived, h, if_false, ho]

end Response

theorem dmrspTimeout_of_request {o : Nat} (h : s.lane l ≠ lsMEASURE) (ho : (s.ln l).dmOut = some o) :
    dmrspTimeout l s = (s.setLn l fun x => { x with dmOut := none }).inc (F.CL_ERR2_DMERR l) := by
  simp only [dmrspTimeout, h, if_false, ho]

theorem dmrspTimeout_of_no_request (h : s.lane l ≠ lsMEASURE) (ho : (s.ln l).dmOut = none) : dmrspTimeout l s = s := by
  simp only [dmrspTimeout, h, if_false, ho]

theorem dmSend_of_not_due (hd : s.dmDue l = false) : dmSend l s = s := if_pos (by simp [hd])

theorem lane_ne_ready_of_locked (h : s.lane l = lsLOCKED) : ¬ s.lane l = lsREADY := by
  rw [h]
  decide

/-- Before the uplink of its cycle has ended, a LOCKED lane has no room for a request that is due. -/
theorem dmSend_of_no_uplink (hd : s.dmDue l = true) (h : s.lane l = lsLOCKED) (ht : (s.ln l).te = none) :
    dmSend l s = s.inc (F.CL_DMSTS_SKIP l) := by
  simp only [dmSend, hd, lane_ne_ready_of_locked h, ht, Bool.not_true, Bool.false_eq_true, if_false]

/-- A request that is due and whose exchange ends before the freeze goes to the next hop in turn. -/
theorem dmSend_of_fits {e : Nat} (hd : s.dmDue l = true) (h : s.lane l = lsLOCKED) (ht : (s.ln l).te = some e)
    (hfit : e + 20 + ((s.hop l (s.rd (F.CL_DMSTS_NEXT l) % s.liveHops l)).rt.getD 0) / 10 + 100 + 400 < s.armcyc)
    (hc : s.cutNow l = false) : dmSend l s =
      (let h := s.rd (F.CL_DMSTS_NEXT l) % s.liveHops l
       let t := s.setLn l fun x => { x with dmOut := some h, dmAge := 0 }
       sendDmreq l h (t.wr (F.CL_DMSTS_NEXT l) ((h + 1) % t.liveHops l))) := by
  simp only [dmSend, hd, lane_ne_ready_of_locked h, ht, hc, decide_eq_true hfit, Bool.not_true, Bool.not_false, Bool.and_self,
    Bool.false_eq_true, if_false, if_true]

end HopDelay

/-- Settles O43: each event by the state of its lane, a response and an in-service request by the guards they pass. -/
theorem laneTrainingAndHopDelays : Obligations.LaneTrainingAndHopDelays :=
  ⟨fun _ _ h hk hr => congrArg _ (idleExpired_of_linking h hk hr), fun _ _ h => congrArg _ (idleExpired_of_other_state h),
    fun _ _ h => congrArg _ (if_pos h), fun _ _ h => congrArg _ (if_neg h),
    fun _ _ h => congrArg _ (rxLock_of_align h), fun _ _ h => congrArg _ (rxLock_of_rxlost h),
    fun _ _ _ _ _ _ hu => congrArg _ (ts2Received_of_unsound hu),
    fun _ _ _ _ _ _ h hc hi hr hk => congrArg _ (ts2Received_of_sound h hc hi hr hk),
    fun _ _ h => congrArg _ (trainTimeout_of_training h), fun _ _ ha ht => congrArg _ (trainTimeout_of_other_state ha ht),
    fun _ _ h hm => congrArg _ (measureDone_of_measured h hm), fun _ _ h => congrArg _ (measureDone_of_other_state h),
    fun _ _ h hk => congrArg _ (retryExpired_of_failed h hk), fun _ _ hk => congrArg _ (retryExpired_of_not_linking hk),
    fun _ _ _ hg h => next_gate hg (if_pos h), fun _ _ _ hg h => next_gate hg (laneRetrain_of_rxlost h),
    fun _ _ _ hg he hr => next_gate hg (laneRetrain_of_other_state he hr),
    fun _ _ _ _ _ _ _ _ h hc => congrArg _ (dmrspReceived_of_cut h hc),
    fun _ _ _ _ _ _ _ _ h hc he => congrArg _ (dmrspReceived_of_bad_chk h hc he),
    fun _ _ _ _ _ _ _ _ h hc he hlo hhi ha => congrArg _ (dmrspReceived_of_sound h hc he hlo hhi ha),
    fun _ _ _ _ _ _ _ _ h ho => congrArg _ (dmrspReceived_of_no_request h ho),
    fun _ _ h => congrArg _ (if_pos h), fun _ _ _ h ho => congrArg _ (dmrspTimeout_of_request h ho),
    fun _ _ h ho => congrArg _ (dmrspTimeout_of_no_request h ho), fun _ _ hd => congrArg _ (dmSend_of_not_due hd),
    fun _ _ hd h ht => congrArg _ (dmSend_of_no_uplink hd h ht),
    fun _ _ _ hd h ht hfit hc => congrArg _ (dmSend_of_fits hd h ht hfit hc)⟩

/-! ### Loss of lock and of signal (R265, R274, R284, R321) -/

section Loss

variable {s : State} {l : Nat}

theorem lockLoss_of_locked (h : s.lane l = lsLOCKED) : lockLoss l s = ringSplit l (-1) (dropSamples l (setLane l lsRXLOST
    (laneCause l F.CL_CAUSE_LOCK (((s.wr (F.CL_STS_RXLOCK l) 0).inc (F.CL_ERR3_LOCKLOSS l)).wr (F.CL_STS_GAP l) 0)))) :=
  if_pos h

/-- A lane in training, or READY, fails. -/
theorem lockLoss_of_training (hlo : lsALIGN ≤ s.lane l) (hhi : s.lane l ≤ lsREADY) : lockLoss l s =
    ringSplit l (-1) (idleLane l lsFAILED ((s.wr (F.CL_STS_RXLOCK l) 0).inc (F.CL_ERR3_LOCKLOSS l))) := by
  have hlocked : ¬ s.lane l = lsLOCKED := Nat.ne_of_lt (Nat.lt_of_le_of_lt hhi (by decide))
  exact (if_neg hlocked).trans (if_pos (by simp [hlo, hhi]))

/-- Before training, in FAILED and in RXLOST the lane keeps its state; a lock that it still had is counted. -/
theorem lockLoss_of_other_state (h : s.lane l < lsALIGN ∨ s.lane l = lsFAILED ∨ s.lane l = lsRXLOST) : lockLoss l s =
    if s.flag (F.CL_STS_RXLOCK l) then (s.wr (F.CL_STS_RXLOCK l) 0).inc (F.CL_ERR3_LOCKLOSS l) else s := by
  have hlocked : ¬ s.lane l = lsLOCKED := by
    simp only [lsALIGN, lsFAILED, lsRXLOST, lsLOCKED] at h ⊢
    omega
  have htrain : ¬ (lsALIGN ≤ s.lane l ∧ s.lane l ≤ lsREADY) := by
    simp only [lsALIGN, lsFAILED, lsRXLOST, lsREADY] at h ⊢
    omega
  exact (if_neg hlocked).trans (if_neg (by simpa using htrain))

theorem rxwaitExpired_of_autort (h : s.lane l = lsRXLOST) (ha : s.flag (F.CL_TRCFG_AUTORT l) = true) :
    rxwaitExpired l s = idleLane l lsEIDLE (s.setLn l fun x => { x with retrain := true }) := if_pos (by simp [h, ha])

theorem rxwaitExpired_of_other_state (h : s.lane l ≠ lsRXLOST) : rxwaitExpired l s = s := if_neg (by simp [h])

/-- A lane that has lost its lock splits its ring before its first hop; any other waits for BREAK. -/
theorem execRingSplit_of_lost {l : Fin 128} (h : s.lane l = lsRXLOST ∨ s.lane l = lsFAILED) :
    execRingSplit l s = .next (ringSplit l (-1) s) := congrArg _ (if_pos (by simpa using h))

theorem execRingSplit_of_other_state {l : Fin 128} (hr : s.lane l ≠ lsRXLOST) (hf : s.lane l ≠ lsFAILED) :
    execRingSplit l s = .next (ringBreak l s) := congrArg _ (if_neg (by simp [hr, hf]))

end Loss

/-! ### Gap idle (R270, R272) -/

section GapIdle

variable {s : State} {l : Nat}

/-- Before the uplink of its cycle has ended no lane goes idle. -/
theorem gapEnter_of_no_uplink (ht : (s.ln l).te = none) : gapEnter l s = s := by
  simp only [gapEnter, ht]

/-- After the uplink end `e` gap idle begins when the conditions of R270 hold. -/
theorem gapEnter_of_uplink {e : Nat} (ht : (s.ln l).te = some e) (hon : s.flag (F.CL_CTL_GAPIDLE l) = true)
    (h : s.lane l = lsLOCKED) (hr : s.rd (F.CL_CFG_RING l) = 0xFF) (ho : s.flag (F.CL_STS_GIOFF l) = false)
    (hg : s.flag (F.CL_STS_GAP l) = false) (hcut : e < s.rd (F.ARM_ULCUT_CRT (s.rd (F.CL_CFG_ARM l))))
    (hd : s.dmDue l = false) (hout : (s.ln l).dmOut = none) (hfit : e + 20 + 1000 + 400 + s.burstNs l ≤ s.armcyc) :
    gapEnter l s = (sendIdle l s).wr (F.CL_STS_GAP l) 1 := by
  simp only [gapEnter, ht]
  exact if_pos (by simp [hon, h, hr, ho, hg, hcut, hd, hout, hfit])

/-- A receiver that has locked after the fast-exit burst ends the check. -/
theorem gapCheck_of_locked (h : (s.ln l).gapCheck = true) :
    gapCheck l true s = s.setLn l fun x => { x with gapCheck := false } :=
  (if_neg (by simp [h])).trans (if_pos rfl)

theorem gapCheck_of_not_locked (h : (s.ln l).gapCheck = true) : gapCheck l false s = lockLoss l
    (laneCause l F.CL_CAUSE_FEXIT ((s.setLn l fun x => { x with gapCheck := false }).wr (F.CL_STS_GIOFF l) 1)) :=
  (if_neg (by simp [h])).trans (if_neg Bool.false_ne_true)

end GapIdle

/-! ### The counters of a lane -/

/-- Zeroing a field whose reset is 0 keeps at 0 another such field. -/
theorem rd_wr_zero {s : State} {f g : Fld} (hf : f.reset = 0) (hg : g.reset = 0) (h : s.rd f = 0) : (s.wr g 0).rd f = 0 := by
  by_cases hk : f.key = g.key
  · simp only [State.rd, State.wr, hk, hf, hg, Sparse.get_set_same, Nat.zero_mod, Nat.xor_self]
  · rw [State.rd_wr_ne s 0 hk, h]

theorem rd_wrs_zero_of_rd {s : State} {f : Fld} {fs : List Fld} (hf : f.reset = 0) (hfs : ∀ g ∈ fs, g.reset = 0)
    (h : s.rd f = 0) : (s.wrs (fs.map fun g => (g, 0))).rd f = 0 := by
  induction fs generalizing s with
  | nil => exact h
  | cons g fs ih =>
    obtain ⟨hg, hfs⟩ := List.forall_mem_cons.mp hfs
    exact ih hfs (rd_wr_zero hf hg h)

/-- A list of counters, each with reset 0, all read 0 after a write of 0 to each of them. -/
theorem rd_wrs_zero {s : State} {fs : List Fld} (hfs : ∀ g ∈ fs, g.reset = 0) {f : Fld} (h : f ∈ fs) :
    (s.wrs (fs.map fun g => (g, 0))).rd f = 0 := by
  induction fs generalizing s with
  | nil => cases h
  | cons g fs ih =>
    obtain ⟨hg, htail⟩ := List.forall_mem_cons.mp hfs
    rcases List.mem_cons.mp h with rfl | h
    · exact rd_wrs_zero_of_rd (fs := fs) hg htail ((State.rd_wr_same ..).trans (Nat.zero_mod _))
    · exact ih htail h

/-- What `CL[l].CTL.CNTCLR` clears: ERR0 to ERR5 and DMSTS.SKIP. -/
def laneCounters (l : Nat) : List Fld :=
  [F.CL_ERR0_CV l, F.CL_ERR0_DISP l, F.CL_ERR1_SLOTCRC l, F.CL_ERR1_FRMCRC l, F.CL_ERR2_XTRA l, F.CL_ERR2_DMERR l,
    F.CL_ERR3_LOCKLOSS l, F.CL_ERR3_TRAINS l, F.CL_ERR4_HDRERR l, F.CL_ERR4_VINV l, F.CL_ERR5_ECHOERR l, F.CL_ERR5_PTMO l,
    F.CL_DMSTS_SKIP l]

theorem reset_of_mem_laneCounters {l : Nat} {f : Fld} (h : f ∈ laneCounters l) : f.reset = 0 := by
  have hall : ((laneCounters l).all fun g => g.reset == 0) = true := rfl
  exact eq_of_beq (List.all_eq_true.mp hall f h)

theorem rd_clCntclr {s : State} {l : Nat} {f : Fld} (h : f ∈ laneCounters l) : (clCntclr l s).rd f = 0 :=
  rd_wrs_zero (fun _ hg => reset_of_mem_laneCounters hg) h

/-- Settles O44: a loss of lock by the state of its lane, gap idle by its conditions, and the counters as one list of zeroed fields. -/
theorem spaoneLaneLoss : Obligations.LaneLoss :=
  ⟨fun _ _ h => congrArg _ (lockLoss_of_locked h), fun _ _ hlo hhi => congrArg _ (lockLoss_of_training hlo hhi),
    fun _ _ h => congrArg _ (lockLoss_of_other_state h), fun _ _ hu hg => congrArg _ (if_pos (by simp [hu, hg])),
    fun _ _ hg => congrArg _ (if_neg (by simp [hg])), fun _ _ h ha => congrArg _ (rxwaitExpired_of_autort h ha),
    fun _ _ h => congrArg _ (rxwaitExpired_of_other_state h), fun _ _ ht => congrArg _ (gapEnter_of_no_uplink ht),
    fun _ _ _ ht hon h hr ho hg hcut hd hout hfit => congrArg _ (gapEnter_of_uplink ht hon h hr ho hg hcut hd hout hfit),
    fun _ _ hg => congrArg _ (if_pos hg), fun _ _ hg => congrArg _ (if_neg (by simp [hg])),
    fun _ _ h => ⟨congrArg _ (gapCheck_of_locked h), congrArg _ (gapCheck_of_not_locked h)⟩,
    fun _ _ h => execRingSplit_of_lost h, fun _ _ hr hf => execRingSplit_of_other_state hr hf,
    fun _ _ _ hg => next_gate hg rfl,
    fun _ _ _ hg => ⟨_, next_gate hg rfl, fun _ hf => rd_clCntclr hf⟩⟩

end Sys2Proof.Machine
end

section
/-! SUPPORT. The canonical form of the stores (R325, R574): no step loses it. -/

namespace Sys2Proof.Machine

/-- The queue of commands is none of the stores. -/
theorem storesCanonical_of_pending {s : State} (h : StoresCanonical s) (l : List Instr) : StoresCanonical { s with pending := l } :=
  ⟨h.regs, h.shadow, h.samp, h.capt, h.latch, h.cellar, h.inner⟩

/-- Settles O4: a command keeps the form within its footprint, a tick within that of the timebase, and an idle step changes nothing. -/
theorem stepKeepsCanonical : Obligations.StepKeepsCanonical := by
  intro s t hs ht
  unfold step at ht
  split at ht
  · next c rest _ =>
    obtain ⟨u, hu, hwithin⟩ := exec_within c { s with pending := rest }
    cases hu.symm.trans ht
    exact hwithin.canon (storesCanonical_of_pending hs rest)
  · cases ht
    split
    · exact (tick_within s).canon hs
    · exact hs

end Sys2Proof.Machine
end

section
/-! SUPPORT. The statements on cell records (spec/10): the Tally with its checkpoints and the Cellar, and the Ledger. -/

namespace Sys2Proof.Machine

/-! ### Reading after a change -/

/-- A one-bit field reads 1 after 1 was written to it. -/
theorem flag_wr_one (s : State) {f : Fld} (hw : f.w = 1) : (s.wr f 1).flag f = true := by
  simp [State.flag, hw]

theorem flag_congr {s t : State} (h : t.regs = s.regs) (f : Fld) : t.flag f = s.flag f := by
  rw [State.flag, State.rd_congr h, State.flag]

/-- A host event writes the status fields of the banks alone (R525). -/
theorem rd_event_ne (s : State) (e : Nat) {f : Fld} (h : ∀ b ∈ [0, 1, 2], f.key ≠ (F.HST_EVSTS_EV.inBank b).key) :
    (s.event e).rd f = s.rd f := by
  unfold State.event
  generalize [0, 1, 2] = banks at h ⊢
  induction banks generalizing s with
  | nil => rfl
  | cons b banks ih =>
    obtain ⟨hb, hbanks⟩ := List.forall_mem_cons.mp h
    have hbit : (s.putBit (F.HST_EVSTS_EV.inBank b) e true).rd f = s.rd f := State.rd_wr_ne _ _ hb
    rw [List.foldl_cons, ih _ hbanks, ← hbit]
    dsimp only
    split
    · split
      · rfl
      · exact State.rd_congr ((State.signalPf_within ..).parts 0 rfl) f
    · rfl

/-- A change of the Ledger's state writes that state and the host event's status. -/
theorem rd_ledgerState_ne (n : Nat) (s : State) {f : Fld} (hs : f.key ≠ F.TLY_LSTS_STATE.key)
    (he : ∀ b ∈ [0, 1, 2], f.key ≠ (F.HST_EVSTS_EV.inBank b).key) : (ledgerState n s).rd f = s.rd f :=
  (rd_event_ne _ _ he).trans (State.rd_wr_ne _ _ hs)

/-- Taking a trigger cycle does not end twin operation. -/
theorem flag_twin_ledgerTake (kt src : Nat) (s : State) : (ledgerTake kt src s).flag F.GLB_ROLE_TWIN = s.flag F.GLB_ROLE_TWIN := by
  have hstate : ∀ t : State, (ledgerState 3 t).flag F.GLB_ROLE_TWIN = t.flag F.GLB_ROLE_TWIN := fun t => by
    rw [State.flag, rd_ledgerState_ne 3 t (by decide) (by decide), State.flag]
  rw [ledgerTake, hstate]
  split <;> simp (disch := decide) only [State.wr64, State.wrs_cons, State.wrs_nil, flag_wr_ne]

/-- A source whose condition is decided is raised or ends. -/
theorem condition_decide (fs : Nat) (p : Prop) [Decidable p] (s : State) :
    condition fs (decide p) s = if p then raise fs s else unraise fs s := by
  simp only [condition, decide_eq_true_eq]

/-! ### Capacitance and life (R333, R335) -/

section Records

variable {s : State}

theorem capestUpdate_of_no_cell {g : Nat} (h : s.cell? g = none) : capestUpdate g s = s := by
  simp only [capestUpdate, h]

/-- A cell whose window of qualifying cycles is full takes a new estimate and starts the next window. -/
theorem capestUpdate_of_full {x : CellSt} {g : Nat} (h : s.cell? g = some x)
    (hw : 2 ^ s.rd F.TLY_CAPCFG_WINLOG2 ≤ x.live.capn) : capestUpdate g s = s.setCell g fun c =>
      { c with capEst := capEstOf c.live.sqq c.live.sqv (s.tally g 24 4), wins := min 65535 (c.wins + 1)
               live := { c.live with sqq := 0, sqv := 0, capn := 0 } } := by
  simp only [capestUpdate, h, if_neg (Nat.not_lt.mpr hw)]

theorem lifeApply_of_not_due (h : s.running = false ∨ s.cyc % 2 ^ 22 ≠ 0) : lifeApply s = s :=
  if_pos (by simpa using h)

/-- With no twin declared an apply cycle takes the values that the unit itself computed. -/
theorem lifeApply_of_due (hr : s.running = true) (hc : s.cyc % 2 ^ 22 = 0) (ht : s.flag F.GLB_ROLE_TWIN = false) :
    lifeApply s =
      (let t := (s.wr F.TLY_LIFEAPPLY_CYC s.cyc).mapCells (fun c => s.tly.lifeReady.contains c.gidx) fun c =>
         { c with life := c.lifeNext }
       { t with tly := { t.tly with lifeReady := [], lifeTable := [], lifeWhole := false } }) := by
  have halone : (s.wr F.TLY_LIFEAPPLY_CYC s.cyc).standbyWrite = false := by
    rw [State.standbyWrite, flag_wr_ne _ _ (by decide), ht, Bool.false_and]
  have hdue : ¬ (!s.running || s.cyc % 2 ^ 22 != 0) = true := by
    rw [hr, hc]
    decide
  rw [lifeApply, if_neg hdue]
  simp only [halone, Bool.false_eq_true, if_false]

/-! ### Loading and checkpoints (R340 to R342, R542, R548) -/

theorem tallyLoad_of_not_due (h : s.st = stBOOT ∨ s.flag F.TLY_STS_TLOAD = true) : tallyLoad s = s :=
  if_pos (by simpa using h)

/-- With no checkpoint copy every record is empty, and the load ends with TLOAD all the same. -/
theorem tallyLoad_of_no_copy (hst : s.st ≠ stBOOT) (hl : s.flag F.TLY_STS_TLOAD = false) (h0 : s.tly.ck0.seq = 0)
    (h1 : s.tly.ck1.seq = 0) :
    ∃ t : State, tallyLoad s = raise 442 (t.wr F.TLY_STS_NOCKPT 1) ∧ t.flag F.TLY_STS_TLOAD = true ∧ t.out = s.out := by
  have hcopies : s.tly.copies = (s.tly.ck0, s.tly.ck1) := if_neg (by simp [h0, h1])
  rw [tallyLoad, if_neg (by simp [hst, hl]), hcopies]
  exact ⟨loadLive (State.wr _ F.TLY_STS_TLOAD 1), if_pos h0, flag_wr_one _ rfl, rfl⟩

theorem ckptDue_of_overload (h : s.hst.loadOver = true) : ckptDue s =
    raise 51 (({ s with tly := { s.tly with ckMoved := true } }.inc F.HST_OSTLER_CNT_POSTPONE).inc F.TLY_CKCNT_POSTPONE) :=
  if_pos h

theorem ckptDue_of_no_overload (h : s.hst.loadOver = false) : ckptDue s = ckptStart s := if_neg (by simp [h])

/-- A checkpoint that runs goes on, and records that are not loaded have none. -/
theorem ckptStart_of_refused (h : s.flag F.TLY_STS_CKBUSY = true ∨ s.flag F.TLY_STS_TLOAD = false) : ckptStart s = s :=
  if_pos (by simpa using h)

theorem ckptStart_of_ready (hb : s.flag F.TLY_STS_CKBUSY = false) (hl : s.flag F.TLY_STS_TLOAD = true) : ckptStart s =
    (let t := ((tallyFold s).wr F.TLY_STS_CKBUSY 1).wr F.TLY_CTL_CKPT 1
     { t with cellar := t.cellar.copyFrom t.cellar tallyBase buildBase tallySize
              tly := { t.tly with ckAt := some (t.cycRec, t.now), ckRetry := false, ckMoved := false } }) :=
  if_neg (by simp [hb, hl])

/-! ### The Cellar (R326, R327) -/

theorem pinitDone_of_not_due (h : s.st = stBOOT ∨ s.flag F.TLY_STS_PINIT = true) : pinitDone s = s :=
  if_pos (by simpa using h)

theorem pinitDone_of_due (hst : s.st ≠ stBOOT) (hp : s.flag F.TLY_STS_PINIT = false) : pinitDone s =
    { s with cellar := (s.cellar.clear 0 0x180000000).clear 0x1C0000000 0x40000000 }.wr F.TLY_STS_PINIT 1 :=
  if_neg (by simp [hst, hp])

/-- An uncorrectable word `w` reads inverted, and its address is recorded (R327). -/
def State.eccRecord (s : State) (w : Nat) : State :=
  ({ s with cellar := s.cellar.writeBytes w ((s.cellar.readBytes w 8).map (~~~ ·)) }.inc F.TLY_ECCUE_VAL).wr64
    F.TLY_UEADR_LO_VAL F.TLY_UEADR_HI_VAL w

theorem cellarEcc_of_ledger {w : Nat} (h : w < 0x180000000) : cellarEcc w s = raiseInCycle 433 (s.eccRecord w) := if_pos h

theorem cellarEcc_of_reserved {w : Nat} (h : 0x1E0000000 ≤ w) : cellarEcc w s = raiseInCycle 436 (s.eccRecord w) :=
  (if_neg (by omega)).trans ((if_neg (by omega)).trans (if_neg (by omega)))

theorem scrubDone_eq (n : Nat) : scrubDone n s =
    (let t := unraise 446 (((s.inc F.TLY_SCRUBSTS_PASSES).wr F.TLY_SCRUBSTS_PROG 0).inc F.TLY_ECCCE_VAL n)
     if t.rd F.TLY_ECCCFG_CETHR < n then raise 437 t else unraise 437 t) := condition_decide ..

end Records

/-- Settles O45: each event by its guard, past which it is the chain of operations that its definition lists. -/
theorem tallyEvents : Obligations.TallyEvents := by
  refine ⟨fun s h => congrArg _ (if_neg (by simp [h])), fun s h => congrArg _ (if_pos h),
    fun g s h => congrArg _ (capestUpdate_of_no_cell h), fun x g s h hw => congrArg _ (capestUpdate_of_full h hw),
    fun s h => congrArg _ (lifeApply_of_not_due h), fun s hr hc ht => congrArg _ (lifeApply_of_due hr hc ht),
    fun s h => congrArg _ (tallyLoad_of_not_due h), fun s hst hl h0 h1 => ?_,
    fun s h => congrArg _ (pinitDone_of_not_due h), fun s hst hp => congrArg _ (pinitDone_of_due hst hp),
    fun a s ha => congrArg _ (cellarEcc_of_reserved (by omega)), fun a s ha => congrArg _ (cellarEcc_of_ledger (by omega)),
    fun n s => congrArg _ (scrubDone_eq n.toNat), fun s h => congrArg _ (ckptDue_of_overload h),
    fun s ho h => congrArg _ ((ckptDue_of_no_overload ho).trans (ckptStart_of_refused h)),
    fun s ho hb hl => congrArg _ ((ckptDue_of_no_overload ho).trans (ckptStart_of_ready hb hl)),
    fun m s hg => next_gate hg rfl, fun s h => congrArg _ (if_neg (by simp [h])),
    fun s h _ _ ho => congrArg _ ((if_pos h).trans (ckptDue_of_no_overload ho).symm), fun s => rfl⟩
  obtain ⟨t, ht, hflag, hout⟩ := tallyLoad_of_no_copy hst hl h0 h1
  exact ⟨t, congrArg _ ht, hflag, hout⟩

/-! ### The Ledger's states and triggers (R345, R348, R349) -/

section Ledger

variable {s : State}

theorem ledgerStart_of_off (h : s.ledger = ldOFF) (he : s.flag F.TLY_LCFG_EN = true) (hr : s.running = true)
    (hp : s.flag F.TLY_STS_PINIT = true) :
    ledgerStart s = ledgerState ldFILL { s with tly := { s.tly with since := 0 } } := if_pos (by simp [h, he, hr, hp])

theorem ledgerStart_of_on (h : s.ledger ≠ ldOFF) : ledgerStart s = s := if_neg (by simp [h])

theorem ledgerArmed_of_filled (h : s.ledger = ldFILL) (hp : s.preN ≤ s.tly.since) : ledgerArmed s = ledgerState ldARMED s :=
  if_pos (by simp [h, hp])

theorem ledgerArmed_of_not_filled (h : s.ledger ≠ ldFILL ∨ s.tly.since < s.preN) : ledgerArmed s = s :=
  if_neg (by simpa [imp_iff_not_or] using h)

/-- A source fires: its bit belongs to the present cycle, or after the freeze to the next one (R349). -/
def State.ledgerFired (s : State) (b : Nat) : State :=
  { s with tly := if s.sch.frozen then { s.tly with firedNext := setBit s.tly.firedNext b }
                  else { s.tly with fired := setBit s.tly.fired b } }

theorem ledgerFire_of_disabled {b : Nat} (h : s.rdBit F.TLY_LCFG_TRIGEN b = false) : ledgerFire b s = s := if_pos (by simp [h])

/-- An enabled source fires; what follows hangs on the state of the Ledger. -/
theorem ledgerFire_of_enabled {b : Nat} (h : s.rdBit F.TLY_LCFG_TRIGEN b = true) : ledgerFire b s =
    (let t := s.ledgerFired b
     if s.ledger = ldFILL || s.ledger = ldARMED then
       let u := ledgerTake t.trigCycle (2 ^ b) t
       if b != 5 && u.flag F.GLB_ROLE_TWIN then u.relay 0x20 (7 :: leBytes 4 t.trigCycle) else u
     else if s.ledger = ldPOST && t.rd F.TLY_LTCYC_VAL = t.trigCycle then t.putBit F.TLY_LTSRC_SRC b true
     else if s.ledger = ldPOST || s.ledger = ldFROZEN then t.inc F.TLY_LSTS_EXTRA
     else t) := if_neg (by simp [h])

/-- With no twin declared the partner is not told. -/
theorem ledgerFire_of_armed {b : Nat} (h : s.rdBit F.TLY_LCFG_TRIGEN b = true) (hl : s.ledger = ldFILL ∨ s.ledger = ldARMED)
    (ht : s.flag F.GLB_ROLE_TWIN = false) :
    ledgerFire b s = ledgerTake (s.ledgerFired b).trigCycle (2 ^ b) (s.ledgerFired b) := by
  have htwin : (s.ledgerFired b).flag F.GLB_ROLE_TWIN = false := ht
  rw [ledgerFire_of_enabled h]
  refine (if_pos (by simpa using hl)).trans (if_neg ?_)
  rw [flag_twin_ledgerTake, htwin, Bool.and_false]
  exact Bool.false_ne_true

theorem ledgerFire_of_off {b : Nat} (h : s.rdBit F.TLY_LCFG_TRIGEN b = true) (hl : s.ledger = ldOFF) :
    ledgerFire b s = s.ledgerFired b := by
  simp [ledgerFire_of_enabled h, hl]

theorem partnerTrigger_of_disabled (k : Nat) (h : s.rdBit F.TLY_LCFG_TRIGEN 5 = false) : partnerTrigger k s = s :=
  if_pos (by simp [h])

/-- Once the window is frozen a trigger of the partner is an extra one. -/
theorem partnerTrigger_of_frozen (k : Nat) (h : s.rdBit F.TLY_LCFG_TRIGEN 5 = true) (hl : s.ledger = ldFROZEN) :
    partnerTrigger k s = s.inc F.TLY_LSTS_EXTRA := by
  simp [partnerTrigger, h, hl]

/-! ### Freeze, release and extract (R345, R350, R351) -/

theorem ledgerFreeze_of_other_state (h : s.ledger ≠ ldPOST) : ledgerFreeze s = s := if_neg (by simp [h])

theorem ledgerFreeze_of_passed (h : s.ledger = ldPOST) (hp : s.postN < cycDiff s.cyc (s.rd F.TLY_LTCYC_VAL)) : ledgerFreeze s =
    (let p := max 1 (s.rd F.TLY_LCAP_VAL)
     let k := min p s.tly.since
     let t := raise 439 (ledgerState ldFROZEN (((s.wr F.TLY_LNUM_VAL k).wr F.TLY_LOLDEST_VAL
       ((s.rd F.TLY_LHEAD_VAL + p - k) % p)).wr F.CG_TRSTS_FROZEN 1))
     if t.flag F.TLY_XCFG1_AUTO then extractStart t else t) := if_pos (by simp [h, hp])

theorem ledgerRelease_of_other_state (h : s.ledger ≠ ldFROZEN) : ledgerRelease s = s := if_pos (by simp [h])

theorem ledgerRelease_of_extract (h : s.ledger = ldFROZEN) (hx : s.flag F.TLY_STS_XBUSY = true) :
    ledgerRelease s = s.wr F.TLY_LSTS_RELREF 1 := (if_neg (by simp [h])).trans (if_pos hx)

theorem ledgerRelease_of_frozen (h : s.ledger = ldFROZEN) (hx : s.flag F.TLY_STS_XBUSY = false) :
    ledgerRelease s = ledgerThaw ldFILL s := (if_neg (by simp [h])).trans (if_neg (by simp [hx]))

theorem extractStart_of_other_state (h : s.ledger ≠ ldFROZEN) : extractStart s = s := if_pos (by simp [h])

theorem extractStart_of_frozen (h : s.ledger = ldFROZEN) (hx : s.flag F.TLY_STS_XBUSY = false) (ho : s.hst.loadOver = false) :
    extractStart s = { s with tly := { s.tly with xMoved := false, extract := [] } }.wrs
      [(F.TLY_STS_XBUSY, 1), (F.TLY_CTL_EXTRACT, 1), (F.TLY_XSTS_DONE, 0), (F.TLY_XSTS_TRUNC, 0), (F.TLY_XSTS_FAIL, 0)] :=
  (if_neg (by simp [h, hx])).trans (if_neg (by simp [ho]))

theorem ledgerOff_of_armed (he : s.flag F.TLY_LCFG_EN = false) (h : s.ledger = ldARMED) : ledgerOff s = ledgerState ldOFF s :=
  (if_neg (by simp [he, h])).trans (if_neg (by simp [h]))

theorem extractDone_of_idle (ok : Bool) (h : s.flag F.TLY_STS_XBUSY = false) : extractDone ok s = s := if_pos (by simp [h])

theorem extractDone_of_failed (h : s.flag F.TLY_STS_XBUSY = true) : extractDone false s =
    raiseEach 445 ((((s.wr F.TLY_STS_XBUSY 0).wr F.TLY_CTL_EXTRACT 0).event 12).wr F.TLY_XSTS_FAIL 1) :=
  (if_neg (by simp [h])).trans (if_neg Bool.false_ne_true)

/-- An extract that completes shows DONE, and reads the Cellar without a change to it. -/
theorem extractDone_of_complete (h : s.flag F.TLY_STS_XBUSY = true) :
    ∃ t : State, extractDone true s = unraise 445 t ∧ t.flag F.TLY_XSTS_DONE = true ∧ t.cellar = s.cellar := by
  refine ⟨_, (if_neg (by simp [h])).trans (if_pos rfl), ?_, (State.event_within _ 12).parts 5 rfl⟩
  exact (flag_wr_ne (f := F.TLY_XSTS_TRUNC) _ _ (by decide)).trans (flag_wr_one _ rfl)

end Ledger

/-- Settles O46: each command by the state of the Ledger, and of an extract by whether it runs. -/
theorem ledgerCommands : Obligations.LedgerCommands := by
  refine ⟨fun s h he hr hp => congrArg _ (ledgerStart_of_off h he hr hp), fun s h => congrArg _ (ledgerStart_of_on h),
    fun n s => rfl, fun s h hp => congrArg _ (ledgerArmed_of_filled h hp), fun s h => congrArg _ (ledgerArmed_of_not_filled h),
    fun b s h => congrArg _ (ledgerFire_of_disabled h), fun b s h hl ht => congrArg _ (ledgerFire_of_armed h hl ht),
    fun b s h hl => ⟨_, congrArg Host.Outcome.next (ledgerFire_of_off h hl), rfl, rfl, rfl⟩, fun m s hg => next_gate hg rfl,
    fun k s h => congrArg _ (partnerTrigger_of_disabled k.toNat h),
    fun k s h hl => congrArg _ (partnerTrigger_of_frozen k.toNat h hl),
    fun s h => congrArg _ (ledgerFreeze_of_other_state h), fun s h hp => congrArg _ (ledgerFreeze_of_passed h hp),
    fun m s hg h => ⟨next_gate hg (ledgerRelease_of_other_state h), next_gate hg (extractStart_of_other_state h)⟩,
    fun m s hg h hx => next_gate hg (ledgerRelease_of_extract h hx), fun m s hg h hx => next_gate hg (ledgerRelease_of_frozen h hx),
    fun m s hg h hx ho => next_gate hg (extractStart_of_frozen h hx ho), fun m v s hg => next_gate hg rfl,
    fun s he h => ledgerOff_of_armed he h, fun ok s h => congrArg _ (extractDone_of_idle ok h),
    fun s h => congrArg _ (extractDone_of_failed h), fun s h => ?_⟩
  obtain ⟨t, ht, hdone, hcellar⟩ := extractDone_of_complete h
  exact ⟨t, congrArg _ ht, hdone, hcellar⟩

end Sys2Proof.Machine
end

section
/-! SUPPORT. The statements on the timebase (spec/11): its rate, adjustments by the host, and its events. -/

namespace Sys2Proof.Machine

/-! ### Two's complement -/

/-- A number in the signed range reads back from its pattern. -/
theorem signed_unsigned {w : Nat} {z : Int} (hl : -(2 ^ w) ≤ z) (hu : z < 2 ^ w) : signed (w + 1) (unsigned (w + 1) z) = z := by
  have hpow : (2 : Int) ^ (w + 1) = 2 * 2 ^ w := pow_succ' 2 w
  have hpattern : (unsigned (w + 1) z : Int) = z % 2 ^ (w + 1) := Int.toNat_of_nonneg (Int.emod_nonneg _ (by omega))
  rw [signed, Nat.add_sub_cancel]
  zify
  rw [hpattern, Int.emod_emod]
  rcases Int.lt_or_le z 0 with hz | hz
  · have hneg : z % 2 ^ (w + 1) = z + 2 ^ (w + 1) := by
      rw [← Int.add_emod_right, Int.emod_eq_of_lt (by omega) (by omega)]
    rw [hneg, if_pos (by omega), Int.add_sub_cancel]
  · rw [Int.emod_eq_of_lt hz (by omega), if_neg (by omega)]

/-- A number in the signed range of a field reads back after its pattern was written. -/
theorem signed_rd_wr (s : State) {f : Fld} {w : Nat} (hw : f.w = w + 1) {z : Int} (hl : -(2 ^ w) ≤ z) (hu : z < 2 ^ w) :
    signed (w + 1) ((s.wr f (unsigned (w + 1) z)).rd f) = z := by
  rw [State.rd_wr_same, hw, signed, Nat.mod_mod, ← signed, signed_unsigned hl hu]

/-! ### The rate (R355, R356) -/

theorem setRate_rate {r : Int} (s : State) (hl : -(2 ^ 31) ≤ r) (hu : r < 2 ^ 31) : (setRate r s).rate = r :=
  signed_rd_wr _ rfl hl hu

/-- The rebased OFSX makes up for the new rate, but for the fraction of a unit that it cannot hold. -/
theorem setRate_rebase {r : Int} (s : State) (hl : -(2 ^ 31) ≤ r) (hu : r < 2 ^ 31) :
    (setRate r s).nowInt = ((s.tb.raw : Int) * (rateUnit + s.rate) + s.tb.ofsx * rateUnit +
      ((s.tb.raw : Int) * (r - s.rate)).fmod rateUnit).fdiv (rateUnit * 65536) := by
  rw [State.nowInt, setRate_rate s hl hu, Int.fmod_def]
  congr 1
  simp only [setRate, State.wr_tb]
  ring

/-- Less than a unit moves TB.NOW by at most 1 ns. -/
theorem fdiv_add_lt_unit (n : Int) {e : Int} (h0 : 0 ≤ e) (h1 : e < rateUnit) :
    n.fdiv (rateUnit * 65536) ≤ (n + e).fdiv (rateUnit * 65536) ∧ (n + e).fdiv (rateUnit * 65536) ≤ n.fdiv (rateUnit * 65536) + 1 := by
  simp only [rateUnit] at *
  rw [Int.fdiv_eq_ediv_of_nonneg _ (by decide), Int.fdiv_eq_ediv_of_nonneg _ (by decide)]
  omega

/-- Settles O22: the remainder of the rebasing is less than a unit. -/
theorem rateKeepsTimeContinuous : Obligations.RateKeepsTimeContinuous := by
  intro r s hl hu
  have hunit : (0 : Int) < rateUnit := by decide
  obtain ⟨hbelow, habove⟩ := fdiv_add_lt_unit (s.tb.raw * (rateUnit + s.rate) + s.tb.ofsx * rateUnit)
    (Int.fmod_nonneg_of_pos ((s.tb.raw : Int) * (r - s.rate)) hunit) (Int.fmod_lt_of_pos _ hunit)
  rw [setRate_rebase s hl hu]
  exact ⟨hbelow, habove, rfl, setRate_rate s hl hu⟩

/-! ### The host's adjustments (R357, R358) -/

section HostAdjust

variable {s : State} {m : Master} {v : View} {a : Nat} (hg : s.grants m v a = true)
include hg

/-- While no servo owns the time, an adjustment that the arbiter lets pass has its effect. -/
theorem next_hostAdjust {k : State → State} {t : State} (ho : s.servoOwned = false) (h : k s = t) :
    (.next (gate m v a (hostAdjust k) s) : Res) = .next t :=
  next_gate hg ((if_neg (by simp [ho])).trans h)

/-- While a servo owns the time, an adjustment sets SRCWR alone. -/
theorem next_hostAdjust_of_servo (k : State → State) (ho : s.servoOwned = true) :
    (.next (gate m v a (hostAdjust k) s) : Res) = .next (s.wr F.TB_STS_SRCWR 1) :=
  next_gate hg (if_pos ho)

end HostAdjust

theorem slewTime_of_small {adj : Int} (s : State) (h : adj.natAbs < 2 ^ 31) : slewTime adj s =
    (let t := slewEnd s
     { t with tb := { t.tb with slewing := true, slewRem := adj * 65536, slewFrac := 0 } }.wr F.TB_STS_SLEWING 1).wr F.TB_CTL_SLEW 1 :=
  if_neg (Nat.not_le.mpr h)

theorem slewTime_of_large {adj : Int} (s : State) (h : 2 ^ 31 ≤ adj.natAbs) : slewTime adj s = s.wr F.TB_STS_ADJERR 1 := if_pos h

/-- The end of a slew writes its own two status fields alone. -/
theorem rd_slewEnd_ne (s : State) {f : Fld} (hs : f.key ≠ F.TB_STS_SLEWING.key) (hc : f.key ≠ F.TB_CTL_SLEW.key) :
    (slewEnd s).rd f = s.rd f :=
  (State.rd_wr_ne _ _ hc).trans (State.rd_wr_ne _ _ hs)

/-- With PPS_OUT disabled a jump skips no pulse. -/
theorem jumpTime_of_ppsOut_disabled (x : Int) {s : State} (h : s.flag F.TB_PPSOUT_EN = false) : jumpTime x s =
    raise 274 (({ slewEnd s with tb := { (slewEnd s).tb with ofsx := x } }.wr F.TB_STS_STEPPED 1).inc F.TB_STEPCNT_N) := by
  have hen : ({ slewEnd s with tb := { (slewEnd s).tb with ofsx := x } } : State).flag F.TB_PPSOUT_EN = false := by
    rw [← h, State.flag, State.flag, ← rd_slewEnd_ne s (by decide) (by decide)]
    rfl
  rw [jumpTime]
  exact congrArg (fun t : State => raise 274 ((t.wr F.TB_STS_STEPPED 1).inc F.TB_STEPCNT_N)) (if_neg (by simp [hen]))

/-! ### Instants of the timebase (R356, R357) -/

theorem execTbRawWrap_of_wraps {s : State} (h : s.rawWraps = true) : execTbRawWrap s = .next (tick s) := by
  rw [execTbRawWrap, if_pos h]

theorem slewComplete_of_applied {s : State} (h : s.tb.slewing = true) (h0 : s.tb.slewRem = 0) : slewComplete s = slewEnd s :=
  if_pos (by simp [h, h0])

/-! ### PPS and the time source (R358 to R361) -/

/-- An edge off the second by more than 100 µs is invalid. -/
theorem ppsInEdge_of_invalid (jump : Int → State → State) {s : State} {p : Int} (hp : s.tb.ppsPrev = some p)
    (h : 100000 < (s.nowInt - p - 1000000000).natAbs) : ppsInEdge jump s = s.inc F.TB_PPSCNT_BAD := by
  rw [ppsInEdge, hp]
  exact if_pos (by simp [h])

/-- PPS lost while another source holds the time raises no fault. -/
theorem ppsLoss_of_other_source {s : State} (h : s.rd F.TB_SRC_SRC ≠ 2) : ppsLoss s =
    syncJudge { ((s.wr F.TB_STS_PPSLOCK 0).wr F.TB_STS_PPSLOST 1) with tb := { s.tb with ppsPrev := none, ppsGood := 0 } } := by
  have hsrc : ((s.wr F.TB_STS_PPSLOCK 0).wr F.TB_STS_PPSLOST 1).rd F.TB_SRC_SRC = s.rd F.TB_SRC_SRC :=
    (State.rd_wr_ne _ _ (by decide)).trans (State.rd_wr_ne _ _ (by decide))
  exact congrArg syncJudge (if_neg (hsrc ▸ h))

/-- The first edge at PPS_OUT needs no earlier one, and with FREE no SYNC. -/
theorem ppsOutEdge_of_first {s : State} (hen : s.flag F.TB_PPSOUT_EN = true) (hfree : s.flag F.TB_PPSOUT_FREE = true)
    (hn : s.tb.ppsLastN = none) :
    ppsOutEdge s = { s with tb := { s.tb with ppsOut := true, ppsLastN := some s.ppsN } }.emit (.pin 4 true) := by
  rw [ppsOutEdge, hn]
  exact if_pos (by simp [hen, hfree])

theorem timeSourceLoss_of_ptp {s : State} (h : s.rd F.TB_SRC_SRC = 1) : timeSourceLoss s = syncJudge (s.wr F.NET_PTPSTS_LOCK 0) :=
  congrArg syncJudge (if_pos h)

/-- Settles O23: an adjustment by who owns the time, an event by the lemma on its case. -/
theorem timebaseCommandsAndEvents : Obligations.TimebaseCommandsAndEvents :=
  ⟨fun _ _ _ hg ho => next_hostAdjust hg ho rfl,
    fun _ _ hg ho => next_hostAdjust hg ho rfl,
    fun _ _ hg ho => next_hostAdjust hg ho rfl,
    fun x _ h => jumpTime_of_ppsOut_disabled x h,
    fun _ s hg ho h => next_hostAdjust hg ho (slewTime_of_small s h),
    fun _ s hg ho h => next_hostAdjust hg ho (slewTime_of_large s h),
    fun _ _ hg ho => next_hostAdjust hg ho rfl,
    fun _ _ hg ho => ⟨next_hostAdjust_of_servo hg _ ho, next_hostAdjust_of_servo hg _ ho, next_hostAdjust_of_servo hg _ ho,
      next_hostAdjust_of_servo hg _ ho⟩,
    fun _ _ hg => next_gate hg rfl,
    fun _ h => execTbRawWrap_of_wraps h,
    fun _ h h0 => congrArg Host.Outcome.next (slewComplete_of_applied h h0),
    fun _ _ hp h => congrArg Host.Outcome.next (ppsInEdge_of_invalid _ hp h),
    fun _ _ => rfl,
    fun _ h => congrArg Host.Outcome.next (ppsLoss_of_other_source h),
    fun _ hen hfree hn => congrArg Host.Outcome.next (ppsOutEdge_of_first hen hfree hn),
    fun _ h => congrArg Host.Outcome.next (if_pos h),
    fun _ h => congrArg Host.Outcome.next (timeSourceLoss_of_ptp h),
    fun _ h => congrArg Host.Outcome.next (if_pos h)⟩

end Sys2Proof.Machine
end

section
/-! SUPPORT. The statements on the station network (spec/12): links and frames, the counters, and sampled values. -/

namespace Sys2Proof.Machine

/-! ### Links (R381) -/

section Network

variable {s : State} {p : Nat}

theorem ethLink_of_off (up speed : Bool) (h : s.portOn p = false) : ethLink p up speed s = s := if_pos (by simp [h])

/-- A link that comes up ends FS(284 + p), and keeps what the port knows of its masters. -/
theorem ethLink_of_up (speed : Bool) (h : s.portOn p = true) : ethLink p true speed s =
    prpJudge (chooseMaster (unraise (284 + p) ((s.put (F.NET_P_STS_LINK p) true).put (F.NET_P_STS_SPEED p) speed))) :=
  if_neg (by simp [h])

/-- A link that goes down raises FS(284 + p), and the port forgets its masters and the Sync that waits. -/
theorem ethLink_of_down (speed : Bool) (h : s.portOn p = true) : ethLink p false speed s =
    prpJudge (chooseMaster ((raise (284 + p) ((s.put (F.NET_P_STS_LINK p) false).put (F.NET_P_STS_SPEED p) speed)).setPort p
      fun x => { x with masters := [], sync := none })) :=
  if_neg (by simp [h])

/-! ### Received frames (R381, R382) -/

section Received

variable {f : List Byte} (age res : Nat) (hon : s.portOn p = true)

include hon

/-- The frame is given without its FCS, so the 64 to 1,522 bytes of R381 are 60 to 1,518 here. -/
theorem ethReceive_of_wrong_size (fcs : Bool) (h : f.length < 60 ∨ 1518 < f.length) :
    ethReceive p fcs age res f s = s.inc (F.NET_P_CNT1_FILT p) := by
  have hsize : (f.length + 4 < 64 || 1522 < f.length + 4) = true := by
    simp only [Bool.or_eq_true, decide_eq_true_eq]
    omega
  exact (if_neg (by simp [hon])).trans (if_pos hsize)

/-- A frame of a permitted size is judged by its FCS. -/
theorem ethReceive_of_size (fcs : Bool) (hlo : 60 ≤ f.length) (hhi : f.length ≤ 1518) : ethReceive p fcs age res f s =
    if !fcs then s.inc (F.NET_P_CNT0_RXCRC p)
    else
      let t := bridge p res f (s.inc (F.NET_P_CNT0_RXOK p))
      if t.passes p (beAt f 0 6) then prpReceive p (t.rxStamp p age) f t else t.inc (F.NET_P_CNT1_FILT p) := by
  have hsize : ¬ (f.length + 4 < 64 || 1522 < f.length + 4) = true := by
    simp only [Bool.or_eq_true, decide_eq_true_eq]
    omega
  exact (if_neg (by simp [hon])).trans (if_neg hsize)

theorem ethReceive_of_wrong_fcs (hlo : 60 ≤ f.length) (hhi : f.length ≤ 1518) :
    ethReceive p false age res f s = s.inc (F.NET_P_CNT0_RXCRC p) :=
  (ethReceive_of_size age res hon false hlo hhi).trans (if_pos rfl)

theorem ethReceive_of_sound (hlo : 60 ≤ f.length) (hhi : f.length ≤ 1518) : ethReceive p true age res f s =
    (let t := bridge p res f (s.inc (F.NET_P_CNT0_RXOK p))
     if t.passes p (beAt f 0 6) then prpReceive p (t.rxStamp p age) f t else t.inc (F.NET_P_CNT1_FILT p)) :=
  (ethReceive_of_size age res hon true hlo hhi).trans (if_neg Bool.false_ne_true)

end Received

/-! ### The PRP pair (R384, R385) -/

theorem prpLost_of_enabled (h : s.flag F.NET_PRP_EN = true) :
    prpLost p s = prpJudge (s.setPort p fun x => { x with silent := true }) := if_pos h

theorem prpLost_of_disabled (h : s.flag F.NET_PRP_EN = false) : prpLost p s = s := if_neg (by simp [h])

theorem prpSupervise_of_enabled (h : s.flag F.NET_PRP_EN = true) : prpSupervise s =
    (let r := prpNext 0 s
     forAll [0, 1] (fun p s => (s.inc (F.NET_P_CNT2_TXOK p)).emit (.ptp p 2 r.1 0)) r.2) := if_pos h

theorem prpSupervise_of_disabled (h : s.flag F.NET_PRP_EN = false) : prpSupervise s = s := if_neg (by simp [h])

/-! ### Sampled values (R393, R394, R398) -/

section SampledValues

variable {age : Nat} {f : List Byte}

theorem svFrame_of_not_taken (h : s.portOn p = false ∨ etherType f ≠ 0x88BA) : svFrame p age f s = s :=
  if_pos (by simpa using h)

/-- An enabled subscription takes an ASDU of the frame. -/
def State.svTaken (s : State) (p : Nat) (f : List Byte) : Bool :=
  (asdus (f.drop (etherAt f + 10))).any fun a => (s.svMatch p f (a.map (·.id))).isSome

/-- What an ASDU of the frame does: a sample of the subscription that takes it, or an error of it where it does not decode. -/
def svAsdu (p : Nat) (f : List Byte) (sim : Bool) (ta : Int) (a : Option Asdu) (s : State) : State :=
  match s.svMatch p f (a.map (·.id)), a with
  | some i, some a => svSample i sim ta a s
  | some i, none => s.inc (F.NET_SV_CNT_ERR i)
  | none, _ => s

/-- An SV frame on a port that is on goes to its subscriptions, if one takes any ASDU of it. -/
theorem svFrame_of_on (hon : s.portOn p = true) (ht : etherType f = 0x88BA) : svFrame p age f s =
    if !s.svTaken p f then s.inc (F.NET_P_CNT1_FILT p)
    else forAll (asdus (f.drop (etherAt f + 10)))
      (svAsdu p f (bit (beAt f (etherAt f + 6) 2) 15) ((s.rxStamp p age).fdiv tickUnit)) s :=
  if_neg (by simp [hon, ht])

theorem svFrame_of_no_subscription (hon : s.portOn p = true) (ht : etherType f = 0x88BA) (h : s.svTaken p f = false) :
    svFrame p age f s = s.inc (F.NET_P_CNT1_FILT p) :=
  (svFrame_of_on hon ht).trans (if_pos (by simp [h]))

theorem svFrame_of_subscription (hon : s.portOn p = true) (ht : etherType f = 0x88BA) (h : s.svTaken p f = true) :
    svFrame p age f s = forAll (asdus (f.drop (etherAt f + 10)))
      (svAsdu p f (bit (beAt f (etherAt f + 6) 2) 15) ((s.rxStamp p age).fdiv tickUnit)) s :=
  (svFrame_of_on hon ht).trans (if_neg (by simp [h]))

theorem svLost_of_enabled {i : Nat} (h : s.flag (F.NET_SV_CFG_EN i) = true) : svLost i s =
    (let t := { s with net := { s.net with sv := modifyPad {} (fun x => { x with any := false }) i s.net.sv } }
     raise 294 ((t.wr (F.NET_SV_STS_LOST i) 1).putBit F.NET_SVLOST_LOST i true)) := if_pos h

theorem svLost_of_disabled {i : Nat} (h : s.flag (F.NET_SV_CFG_EN i) = false) : svLost i s = s := if_neg (by simp [h])

end SampledValues

end Network

/-! ### The network counters -/

theorem State.wrs_append (s : State) (l k : List (Fld × Nat)) : s.wrs (l ++ k) = (s.wrs l).wrs k := List.foldl_append ..

/-- A loop that writes a list of fields at each turn writes the lists one behind another. -/
theorem forAll_wrs {α : Type} (l : List α) (g : α → List (Fld × Nat)) (s : State) :
    forAll l (fun a s => s.wrs (g a)) s = s.wrs (l.flatMap g) := by
  induction l generalizing s with
  | nil => rfl
  | cons a l ih => rw [forAll_cons, ih, List.flatMap_cons, State.wrs_append]

/-- The frame counters of port `p`. -/
def portCounters (p : Nat) : List Fld :=
  [F.NET_P_CNT0_RXOK p, F.NET_P_CNT0_RXCRC p, F.NET_P_CNT1_FILT p, F.NET_P_CNT1_POL p, F.NET_P_CNT2_TXOK p, F.NET_P_CNT2_TXLATE p,
    F.NET_P_CNT3_DUP p, F.NET_P_CNT3_WLAN p]

/-- What `NET.CTL.CNTCLR` clears: the counters of the bridge, of PTP, of the ports and of the subscriptions. -/
def netCounters : List Fld :=
  [F.NET_BRG_ORPHAN, F.NET_PTPSTS_IGN] ++ (List.range 4).flatMap portCounters ++
    (List.range 32).flatMap fun i => [F.NET_SV_CNT_ERR i, F.NET_SV_CNT_GAPS i]

theorem netCntclr_eq (s : State) : netCntclr s = s.wrs (netCounters.map fun f => (f, 0)) := by
  simp only [netCounters, List.map_append, List.map_flatMap, State.wrs_append, ← forAll_wrs]
  rfl

theorem reset_of_mem_netCounters {f : Fld} (h : f ∈ netCounters) : f.reset = 0 := by
  have hall : (netCounters.all fun g => g.reset == 0) = true := rfl
  exact eq_of_beq (List.all_eq_true.mp hall f h)

theorem mem_netCounters_of_port {p : Nat} (hp : p < 4) {f : Fld} (h : f ∈ portCounters p) : f ∈ netCounters :=
  List.mem_append_left _ (List.mem_append_right _ (List.mem_flatMap.mpr ⟨p, List.mem_range.mpr hp, h⟩))

theorem rd_netCntclr {s : State} {f : Fld} (h : f ∈ netCounters) : (netCntclr s).rd f = 0 := by
  rw [netCntclr_eq]
  exact rd_wrs_zero (fun _ hg => reset_of_mem_netCounters hg) h

theorem rd_netCntclr_of_port {s : State} {p : Nat} (hp : p < 4) {f : Fld} (h : f ∈ portCounters p) : (netCntclr s).rd f = 0 :=
  rd_netCntclr (mem_netCounters_of_port hp h)

/-- Settles O47: each frame and event by the guards of its command, and the counters as one list of zeroed fields. -/
theorem networkFrames : Obligations.NetworkFrames := by
  refine ⟨fun p u v s h => congrArg _ (ethLink_of_off u v h), fun p v s h => congrArg _ (ethLink_of_up v h),
    fun p v s h => congrArg _ (ethLink_of_down v h),
    fun p f a r b s hon h => congrArg _ (ethReceive_of_wrong_size a.toNat r.toNat hon f h),
    fun p a r b s hon hlo hhi => congrArg _ (ethReceive_of_wrong_fcs a.toNat r.toNat hon hlo hhi),
    fun p a r b s hon hlo hhi => congrArg _ (ethReceive_of_sound a.toNat r.toNat hon hlo hhi),
    fun p s h => congrArg _ (prpLost_of_enabled h),
    fun p s h => ⟨congrArg _ (prpLost_of_disabled h), congrArg _ (prpSupervise_of_disabled h)⟩,
    fun s h => congrArg _ (prpSupervise_of_enabled h),
    fun m s hg => ⟨netCntclr s, next_gate hg rfl, rd_netCntclr (by simp [netCounters]), rd_netCntclr (by simp [netCounters]),
      fun p hp => ⟨?_, ?_, ?_, ?_⟩⟩,
    fun p a b s h => congrArg _ (svFrame_of_not_taken h),
    fun p a b s hon ht h => congrArg _ (svFrame_of_no_subscription hon ht h),
    fun p a b s hon ht h => congrArg _ (svFrame_of_subscription hon ht h),
    fun n s h => congrArg _ (svLost_of_disabled h), fun n s h => congrArg _ (svLost_of_enabled h)⟩
  all_goals exact rd_netCntclr_of_port hp (by simp [portCounters])

end Sys2Proof.Machine
end

section
/-! SUPPORT. The statements on the fault collector (spec/15): its record through the resets, its reports, and its commands. -/

namespace Sys2Proof.Machine

/-! ### What a reset keeps of the register file (R553) -/

theorem Sparse.get_keep (m : Sparse) (p : Nat → Bool) (k : Nat) : (m.keep p).get k = if p k then m.get k else 0 := by
  obtain ⟨l⟩ := m
  simp only [Sparse.keep, Sparse.get]
  induction l with
  | nil => simp [Sparse.look]
  | cons c l ih =>
    obtain ⟨j, v⟩ := c
    by_cases hk : k = j
    · subst hk
      cases hp : p k <;> simp_all [Sparse.look]
    · cases hp : p j <;> simp_all [Sparse.look]

/-- Where a register file keeps the keys in `p`, a field with a key in `p` reads as before, and every other one its reset value. -/
theorem rd_of_regs_keep {s t : State} {p : Nat → Bool} (h : t.regs = s.regs.keep p) (f : Fld) :
    t.rd f = if p f.key then s.rd f else f.reset % 2 ^ f.w := by
  rw [State.rd, h, Sparse.get_keep]
  split
  · rfl
  · rw [Nat.zero_xor]

/-- Writes to registers behind a field in the map leave it as it is. -/
theorem rd_wrs_of_addr_lt (s : State) {f : Fld} (l : List (Fld × Nat)) (hlo : f.lo < 32) (h : ∀ p ∈ l, f.addr < p.1.addr) :
    (s.wrs l).rd f = s.rd f := by
  induction l generalizing s with
  | nil => rfl
  | cons p l ih =>
    obtain ⟨hp, hl⟩ := List.forall_mem_cons.mp h
    rw [State.wrs_cons, ih _ hl, State.rd_wr_ne _ _ (Fld.key_ne_of_addr_lt hlo hp)]

theorem rd_ostlerEvent_ne (e : Nat) (s : State) {f : Fld} (h : f.key ≠ (F.HST_EVSTS_EV.inBank 2).key) :
    (ostlerEvent e s).rd f = s.rd f := by
  have hbit : (s.putBit (F.HST_EVSTS_EV.inBank 2) e true).rd f = s.rd f := State.rd_wr_ne _ _ h
  rw [← hbit, ostlerEvent]
  split <;> rfl

theorem rd_vinClear (s : State) (f : Fld) : (vinClear s).rd f = if vinKeeps f.key then s.rd f else f.reset % 2 ^ f.w :=
  rd_of_regs_keep rfl f

/-- While the VIN domain goes down, only the Ostler's events move before the register file is cleared. -/
theorem rd_vinDown (s : State) {f : Fld} (h : f.key ≠ (F.HST_EVSTS_EV.inBank 2).key) :
    (vinDown s).rd f = if vinKeeps f.key then s.rd f else f.reset % 2 ^ f.w := by
  have hlink (t : State) : (if t.flag F.HST_STS_LINKUP then ostlerEvent 17 t else t).rd f = t.rd f := by
    split
    · exact rd_ostlerEvent_ne _ _ h
    · rfl
  have hpins (t : State) : (forAll [0, 1, 2, 3, 4, 5] (fun p s => s.emit (.pin p false)) t).rd f = t.rd f := by
    simp only [forAll_cons, forAll_nil, State.rd_congr (State.emit_regs ..)]
  have hckpt : (if s.tly.ckAt.isSome then ckptLose s else s).rd f = s.rd f := by
    split <;> rfl
  rw [vinDown, rd_vinClear, rd_ostlerEvent_ne _ _ h, hlink, hpins, hckpt]

/-! ### The collector through the resets (R464, R540) -/

/-- What R464 keeps through a reset of the VIN domain: STICKY, REAL, INJ, the first-fault record and SELFSEEN. -/
def collectorRecord : List Fld :=
  (List.range 16).flatMap (fun w => [F.FC_STICKY_S w, F.FC_REAL_B w, F.FC_INJB_B w]) ++
    [F.FC_STS_SELFSEEN, F.FC_STS_FIRSTV, F.FC_FIRST_SRC, F.FC_FIRST_SEV, F.FC_FIRST_INJ, F.FC_FIRST_VALID, F.FC_FIRST_COINC,
      F.FC_FIRSTT_LO_VAL, F.FC_FIRSTT_HI_VAL, F.FC_FIRSTCYC_VAL]

/-- What a reset of the VIN domain clears in the collector: LIVE and the latched flags. -/
def collectorLive : List Fld :=
  (List.range 16).map F.FC_LIVE_B ++ [F.FC_STS_DEG, F.FC_STS_HOV, F.FC_STS_BLK, F.FC_STS_TRIP, F.FC_STS_SELF]

/-- The fields of the collector lie before the registers that the resets themselves write, and reset to 0. -/
theorem collector_fields_below_host : ∀ f ∈ collectorRecord ++ collectorLive,
    f.lo < 32 ∧ f.addr < 0x3D0000 ∧ f.reset = 0 ∧ (nvFields.any fun g => g.key == f.key) = false := by
  decide

theorem vinKeeps_of_record : ∀ f ∈ collectorRecord, vinKeeps f.key = true := by decide

theorem vinKeeps_of_live : ∀ f ∈ collectorLive, vinKeeps f.key = false := by decide

theorem mem_record_of_word {w : Nat} (h : w < 16) {f : Fld} (hf : f ∈ [F.FC_STICKY_S w, F.FC_REAL_B w, F.FC_INJB_B w]) :
    f ∈ collectorRecord :=
  List.mem_append_left _ (List.mem_flatMap.mpr ⟨w, List.mem_range.mpr h, hf⟩)

theorem mem_live_of_word {w : Nat} (h : w < 16) : F.FC_LIVE_B w ∈ collectorLive :=
  List.mem_append_left _ (List.mem_map_of_mem (List.mem_range.mpr h))

/-- A reset of the VIN domain that falls due: the domain goes down, and the cause is shown. -/
theorem vinReset_of_due {cause : Nat} (rail : Nat) {s : State} (hv : s.glb.vinOn = true) (hc : cause = 4 → s.clk.swReset = true) :
    vinReset cause rail s = ((vinDown s).wrs [(F.CLK_RSTCAUSE_CAUSE, cause), (F.CLK_RSTCAUSE_RAIL, if cause = 2 then rail else 0),
      (F.CLK_SUPSTS_RAILS, s.rd F.CLK_SUPSTS_RAILS &&& 0x780)]).inc F.CLK_RSTCAUSE_COUNT :=
  if_neg (by simpa [hv] using hc)

theorem vinReset_of_not_due {cause : Nat} (rail : Nat) {s : State} (h : s.glb.vinOn = false ∨ cause = 4 ∧ s.clk.swReset = false) :
    vinReset cause rail s = s :=
  if_pos (by simpa using h)

section DomainResets

variable {f : Fld} (hlo : f.lo < 32) (ha : f.addr < 0x3D0000)
include hlo ha

/-- A reset of the VIN domain that falls due keeps what `vinKeeps` says, before the registers of the clocks. -/
theorem rd_vinReset_of_due {cause : Nat} (rail : Nat) {s : State} (hv : s.glb.vinOn = true)
    (hc : cause = 4 → s.clk.swReset = true) :
    (vinReset cause rail s).rd f = if vinKeeps f.key then s.rd f else f.reset % 2 ^ f.w := by
  have hclk : f.addr < 0x3E0000 := by omega
  rw [vinReset_of_due rail hv hc, rd_inc_ne _ _ (Fld.key_ne_of_addr_lt hlo (hclk.trans (by decide))),
    rd_wrs_of_addr_lt _ _ hlo, rd_vinDown _ (Fld.key_ne_of_addr_lt hlo (ha.trans (by decide)))]
  simp only [List.forall_mem_cons]
  exact ⟨hclk.trans (by decide), hclk.trans (by decide), hclk, by simp⟩

/-- A reset of the VAUX domain keeps non-volatile contents alone, and its release writes registers of the host port and of the clocks. -/
theorem rd_vauxRelease_vauxReset (a : Nat) {s : State} (hv : s.glb.vauxOn = true)
    (hn : (nvFields.any fun g => g.key == f.key) = false) :
    (vauxRelease a (vauxReset s)).rd f = f.reset % 2 ^ f.w := by
  have hoff : (vauxReset s).glb.vauxOn = false := by
    rw [vauxReset, if_neg (by simp [hv])]
  have hregs : (vauxReset s).regs = (vinDown s).regs.keep fun k => nvFields.any fun g => g.key == k := by
    rw [vauxReset, if_neg (by simp [hv])]
  rw [vauxRelease, if_neg (by simp [hoff]), rd_wrs_of_addr_lt _ _ hlo]
  · exact (rd_of_regs_keep hregs f).trans (if_neg (by simp [hn]))
  · simp only [List.forall_mem_cons]
    exact ⟨ha, ha.trans (by decide), ha.trans (by decide), ha.trans (by decide), by simp⟩

end DomainResets

theorem vinReset_fc_of_due {cause : Nat} (rail : Nat) {s : State} (hv : s.glb.vinOn = true)
    (hc : cause = 4 → s.clk.swReset = true) : (vinReset cause rail s).fc = {} := by
  rw [vinReset_of_due rail hv hc]
  rfl

/-- A reset of the VIN domain keeps the collector's record, also where it does not fall due. -/
theorem rd_vinReset_of_record (cause rail : Nat) (s : State) {f : Fld} (h : f ∈ collectorRecord) :
    (vinReset cause rail s).rd f = s.rd f := by
  obtain ⟨hlo, ha, -⟩ := collector_fields_below_host f (List.mem_append_left _ h)
  by_cases hdue : s.glb.vinOn = true ∧ (cause = 4 → s.clk.swReset = true)
  · obtain ⟨hv, hc⟩ := hdue
    rw [rd_vinReset_of_due hlo ha rail hv hc, if_pos (vinKeeps_of_record f h)]
  · rw [vinReset_of_not_due rail (by simpa [or_iff_not_imp_left] using hdue)]

theorem rd_vinReset_of_live {cause : Nat} (rail : Nat) {s : State} (hv : s.glb.vinOn = true)
    (hc : cause = 4 → s.clk.swReset = true) {f : Fld} (h : f ∈ collectorLive) : (vinReset cause rail s).rd f = 0 := by
  obtain ⟨hlo, ha, hr, -⟩ := collector_fields_below_host f (List.mem_append_right _ h)
  rw [rd_vinReset_of_due hlo ha rail hv hc, vinKeeps_of_live f h, hr]
  rfl

theorem rd_vauxRelease_of_collector (a : Nat) {s : State} (hv : s.glb.vauxOn = true) {f : Fld}
    (h : f ∈ collectorRecord ++ collectorLive) : (vauxRelease a (vauxReset s)).rd f = 0 := by
  obtain ⟨hlo, ha, hr, hn⟩ := collector_fields_below_host f h
  rw [rd_vauxRelease_vauxReset hlo ha a hv hn, hr, Nat.zero_mod]

/-- Settles O10: every field of the statement is one of the record, which a VIN reset keeps, or one that it clears. -/
theorem collectorRecordSurvivesAVinReset : Obligations.CollectorRecordSurvivesAVinReset := by
  have hfirst : ∀ f ∈ [F.FC_STS_SELFSEEN, F.FC_STS_FIRSTV, F.FC_FIRST_SRC, F.FC_FIRST_SEV, F.FC_FIRST_INJ, F.FC_FIRST_VALID,
      F.FC_FIRST_COINC, F.FC_FIRSTT_LO_VAL, F.FC_FIRSTT_HI_VAL, F.FC_FIRSTCYC_VAL], f ∈ collectorRecord := fun f hf =>
    List.mem_append_right _ hf
  refine ⟨fun c r s t h => ?_, fun c r s t hv hc h => ?_, fun a s t u hv ht hu => ?_⟩
  · cases h
    have hkeep {f : Fld} (hf : f ∈ collectorRecord) := rd_vinReset_of_record (c.val + 1) r.val s hf
    exact ⟨fun w hw => ⟨hkeep (mem_record_of_word hw (by simp)), hkeep (mem_record_of_word hw (by simp)),
      hkeep (mem_record_of_word hw (by simp))⟩, fun f hf => hkeep (hfirst f hf)⟩
  · cases h
    have hdue : c.val + 1 = 4 → s.clk.swReset = true := by omega
    exact ⟨fun w hw => rd_vinReset_of_live _ hv hdue (mem_live_of_word hw), vinReset_fc_of_due _ hv hdue,
      fun f hf => rd_vinReset_of_live _ hv hdue (List.mem_append_right _ hf)⟩
  · cases ht
    cases hu
    have hzero {f : Fld} (hf : f ∈ collectorRecord ++ collectorLive) := rd_vauxRelease_of_collector a.toNat hv hf
    have hrecord {f : Fld} (hf : f ∈ collectorRecord) := hzero (List.mem_append_left _ hf)
    exact ⟨fun w hw => ⟨hrecord (mem_record_of_word hw (by simp)), hrecord (mem_record_of_word hw (by simp)),
      hrecord (mem_record_of_word hw (by simp)), hzero (List.mem_append_right _ (mem_live_of_word hw))⟩,
      fun f hf => hrecord (hfirst f hf)⟩

/-! ### Reports (R456, R463) -/

/-- The block under VIN in RUN, everything else as after reset. -/
def plainRun : State :=
  { State.reset with glb := { State.reset.glb with vinOn := true, vauxOn := true } }.wr F.GLB_STATE_STATE stRUN

/-- A report of FS192, whose live bit clears after a cycle without its event (R224), is noted as seen in the present cycle. -/
theorem faultRaise_seen_of_cycleSource : (faultRaise [192] plainRun).fc.seen = [192] := by decide +kernel

/-- The raise alone notes nothing. -/
theorem raiseSlot_seen_of_cycleSource :
    (readyJudge (raiseSlot [(192, true, false)]
      (liveUpdate 192 { plainRun with fc := { plainRun.fc with cond := 192 :: plainRun.fc.cond } }))).fc.seen = [] := by
  decide +kernel

/-- Refutes O19: its second clause leaves out that a source which clears at a cycle start is noted as seen. The report of FS192 in RUN
meets the clause's hypotheses, and the two states differ in `fc.seen`. -/
theorem not_collectorReports : ¬ Obligations.CollectorReports := by
  rintro ⟨-, hreport, -⟩
  have h192 : (192 : BitVec 9).toNat = 192 := rfl
  have hstates : faultRaise [192] plainRun = _ :=
    Host.Outcome.next.inj (hreport 192 plainRun (by decide +kernel) (by decide) (by decide) (by decide) (by decide))
  rw [h192] at hstates
  have hseen : [192] = [] := by
    rw [← faultRaise_seen_of_cycleSource, hstates, raiseSlot_seen_of_cycleSource]
  exact List.cons_ne_nil _ _ hseen

/-! ### Commands of the collector (R463, R466 to R468) -/

section Commands

variable {s : State}

theorem fcCommand_clrReact {key : Nat} (hv : s.glb.vinOn = true) (hst : s.st ≠ stBOOT) (hk : key = cmdKey) :
    fcCommand 1 key s = clrReact s := by
  simp [fcCommand, hv, hst, hk]

theorem fcCommand_clrReact_of_wrong_key {key : Nat} (hv : s.glb.vinOn = true) (hst : s.st ≠ stBOOT) (hk : key ≠ cmdKey) :
    fcCommand 1 key s = fcJudged 3 s := by
  simp [fcCommand, hv, hst, hk]

theorem fcCommand_clrFirst {key : Nat} (hk : key = cmdKey) : fcCommand 2 key s = clrFirst s := by
  simp [fcCommand, hk]

theorem fcCommand_clrSticky (key : Nat) : fcCommand 3 key s = clrSticky s := by
  simp [fcCommand]

/-- With BLK the one latched flag and no source of severity 4 live, CLR_REACT clears BLK and keeps none. -/
theorem clrReact_of_blk (hdeg : s.flag F.FC_STS_DEG = false) (hhov : s.flag F.FC_STS_HOV = false) (hblk : s.flag F.FC_STS_BLK = true)
    (htrip : s.flag F.FC_STS_TRIP = false) (hlive : s.liveAt 4 = false) : clrReact s =
      readyJudge (lanternJudge (fcJudged 1 ((s.wr F.FC_STS_BLK 0).wr F.FC_CMDSTS_KEPT 0))) := by
  have hkept : ([2, 3, 4, 5].filter fun l => s.flag (flagOf l) && s.liveAt l) = [] := by
    simp [flagOf, hdeg, hhov, htrip, hlive]
  have hgone : ([2, 3, 4, 5].filter fun l => s.flag (flagOf l) && !s.liveAt l) = [4] := by
    simp [List.filter, flagOf, hdeg, hhov, hblk, htrip, hlive]
  rw [clrReact, hkept, hgone]
  rfl

/-! ### TEST and injection (R472 to R475) -/

theorem unlock_of_not_ostler {m : Master} (code : Nat) (hm : m ≠ .ost) : unlock m code s = s.wr F.FC_TEST_REFUSED 1 :=
  if_pos (by simpa using hm)

theorem unlock_of_wrong_code {code : Nat} (hl : s.flag F.FC_TEST_LOCKOUT = false) (hc : code ≠ 0x54455354) : unlock .ost code s =
    raise 455 ((s.wr F.FC_TEST_BADKEY (min 3 (s.rd F.FC_TEST_BADKEY + 1))).put F.FC_TEST_LOCKOUT (3 ≤ s.rd F.FC_TEST_BADKEY + 1)) := by
  rw [unlock, if_neg (by decide), if_neg (by simp [hl]), if_pos (by simpa using hc)]

theorem unlock_of_linked {code : Nat} (hl : s.flag F.FC_TEST_LOCKOUT = false) (hc : code = 0x54455354) (ht : s.glb.tstmode = true)
    (he : s.eff = stLINKED) : unlock .ost code s = changeState stTEST 0xF8 (permitWithdraw s) := by
  rw [unlock, if_neg (by decide), if_neg (by simp [hl]), if_neg (by simp [hc]), if_pos (by simp [ht, he])]

theorem testWrite_of_test {v : Nat} (hst : s.st = stTEST) (hv : v.testBit 1 = false) :
    testWrite v s = s.put F.FC_TEST_INJ_REACT (v.testBit 0) := by
  simp [testWrite, hst, hv]

/-- Outside TEST a write that would change INJ_REACT is refused. -/
theorem testWrite_of_not_test {v : Nat} (hst : s.st ≠ stTEST) (hv : v.testBit 0 ≠ s.flag F.FC_TEST_INJ_REACT) :
    testWrite v s = s.wr F.FC_TEST_REFUSED 1 := by
  simp only [testWrite, if_neg hst, bne_iff_ne, if_pos hv]

theorem inject_of_not_test (mode fs : Nat) (hst : s.st ≠ stTEST) : inject mode fs s = s.wr F.FC_TEST_REFUSED 1 :=
  if_pos (by simpa using hst)

/-- In TEST a defined source is injected as MODE says. -/
theorem inject_of_test (mode : Nat) {fs : Nat} (hst : s.st = stTEST) (hr : reservedSource fs = false) : inject mode fs s =
    if mode = 0 then readyJudge (raiseSlot [(fs, false, true)] s)
    else if mode = 1 then readyJudge (raiseSlot [(fs, false, true)]
      (liveUpdate fs { s with fc := { s.fc with held := fs :: s.fc.held.filter (· != fs) } }))
    else if mode = 2 then liveUpdate fs { s with fc := { s.fc with held := s.fc.held.filter (· != fs) } }
    else s := by
  rw [inject, if_neg (by simp [hst]), if_neg (by simp [hr])]

end Commands

/-- Settles O20: each write passes the gate, and its operation is at the case that its lemma names. -/
theorem collectorCommands : Obligations.CollectorCommands :=
  ⟨fun _ _ _ hg hv hst hk => next_gate hg (fcCommand_clrReact hv hst hk),
    fun _ _ _ hg hv hst hk => next_gate hg (fcCommand_clrReact_of_wrong_key hv hst hk),
    fun _ hdeg hhov hblk htrip hlive => clrReact_of_blk hdeg hhov hblk htrip hlive,
    fun _ _ _ hg hk => next_gate hg (fcCommand_clrFirst hk),
    fun _ _ hg => next_gate hg (fcCommand_clrSticky 0),
    fun _ _ _ _ hg => next_gate hg rfl,
    fun _ c _ hg hm => next_gate hg (unlock_of_not_ostler c.toNat hm),
    fun _ _ hg hl hc ht he => next_gate hg (unlock_of_linked hl hc ht he),
    fun _ _ hg hl hc => next_gate hg (unlock_of_wrong_code hl hc),
    fun _ _ _ hg hst hv => next_gate hg (testWrite_of_test hst hv),
    fun _ _ _ hg hst hv => next_gate hg (testWrite_of_not_test hst hv),
    fun _ _ _ hg hst hr => next_gate hg (inject_of_test 0 hst hr),
    fun _ _ _ hg hst hr => next_gate hg (inject_of_test 1 hst hr),
    fun _ _ _ hg hst hr => next_gate hg (inject_of_test 2 hst hr),
    fun _ f _ hg hst => next_gate hg (inject_of_not_test 0 f.toNat hst)⟩

end Sys2Proof.Machine
end

section
/-! SUPPORT. The statements on twin operation (spec/16): the Relay link, the carried items with the refresh, takeover and return. -/

namespace Sys2Proof.Machine

/-! ### Reading after a change -/

@[simp] theorem State.event_twn (s : State) (e : Nat) : (s.event e).twn = s.twn := (State.event_within s e).parts 20 rfl

@[simp] theorem State.relay_twn (s : State) (type : Nat) (b : List Byte) : (s.relay type b).twn = s.twn :=
  (State.relay_within s type b).parts 20 rfl

@[simp] theorem State.relay_cl (s : State) (type : Nat) (b : List Byte) : (s.relay type b).cl = s.cl :=
  (State.relay_within s type b).parts 10 rfl

theorem rd_relay (s : State) (type : Nat) (b : List Byte) (f : Fld) : (s.relay type b).rd f = s.rd f :=
  State.rd_congr ((State.relay_within s type b).parts 0 rfl) f

theorem rd_with_twn (s : State) (v : TwnSt) (f : Fld) : { s with twn := v }.rd f = s.rd f := rfl

theorem rd_with_cl (s : State) (v : ClSt) (f : Fld) : { s with cl := v }.rd f = s.rd f := rfl

/-- A value that its field can hold is read as it was written. -/
theorem rd_wr_of_lt (s : State) {f : Fld} {v : Nat} (h : v < 2 ^ f.w) : (s.wr f v).rd f = v :=
  (State.rd_wr_same ..).trans (Nat.mod_eq_of_lt h)

theorem flag_put_same (s : State) {f : Fld} (b : Bool) (hw : f.w = 1) : (s.put f b).flag f = b := by
  cases b with
  | false => exact flag_wr_zero s f
  | true => exact flag_wr_one s hw

/-! ### The states of the Relay link (R481) -/

section LinkState

variable (n : Nat) (s : State)

@[simp] theorem linkState_twn : (linkState n s).twn = s.twn := (linkState_within n s).parts 20 rfl

theorem rd_linkState_same (h : n < 8) : (linkState n s).rd F.TWN_STS_LSTATE = n := by
  rw [linkState]
  split
  · assumption
  · rw [rd_event_ne _ _ (by decide)]
    exact rd_wr_of_lt s h

end LinkState

/-- The link as it leaves UP for LISTEN: no lane, no clock, no snapshot under way, a rehearsal to be aborted. -/
def State.linkDown (s : State) : State :=
  (linkState 2 { s with twn := { s.twn with snapBuf := none, reh := s.twn.reh.map fun r => { r with abort := true } } }).wrs
    [(F.TWN_STS_LANES, 0), (F.TWN_STS_CKLOCK, 0)]

theorem linkLost_of_up {s : State} (h : s.relayUp = true) : linkLost s = standbyJudge (raise 370 s.linkDown) := if_pos h

theorem linkLost_of_down {s : State} (h : s.relayUp = false) : linkLost s = s := if_neg (by simp [h])

theorem rd_linkDown_lstate (s : State) : s.linkDown.rd F.TWN_STS_LSTATE = 2 := by
  simp (disch := decide) only [State.linkDown, State.wrs_cons, State.wrs_nil, State.rd_wr_ne, rd_linkState_same]

theorem rd_linkDown_lanes (s : State) : s.linkDown.rd F.TWN_STS_LANES = 0 := by
  simp (disch := decide) only [State.linkDown, State.wrs_cons, State.wrs_nil, State.rd_wr_ne, rd_wr_of_lt]

theorem flag_linkDown_cklock (s : State) : s.linkDown.flag F.TWN_STS_CKLOCK = false := flag_wr_zero _ _

/-- In LISTEN the partner's training sequence starts a training without a time limit. -/
theorem partnerDetected_of_listen {s : State} (h : s.rd F.TWN_STS_LSTATE = 2) : partnerDetected s =
    (linkState 1 { s with twn := { s.twn with limit := false } }).emit (.relay 0 s.idBytes) := if_pos h

theorem partnerDetected_of_other_state {s : State} (h : s.rd F.TWN_STS_LSTATE ≠ 2) : partnerDetected s = s := if_neg h

/-- The link in training as it starts: the first attempt, with its time limit and the ID packet, and no arm in sync. -/
def State.trainingStarted (s : State) : State :=
  unsync ((linkState 1 { s with twn := { s.twn with attempts := 1, failed3 := false, limit := true, hbMiss := 0 } }).emit
    (.relay 0 { s with twn := { s.twn with attempts := 1, failed3 := false, limit := true, hbMiss := 0 } }.idBytes))

theorem relayStart_of_twin {s : State} (h : s.flag F.GLB_ROLE_TWIN = true) : relayStart s = standbyJudge s.trainingStarted :=
  if_neg (by simp [h])

theorem rd_unsync_lstate (s : State) : (unsync s).rd F.TWN_STS_LSTATE = s.rd F.TWN_STS_LSTATE := by
  simp (disch := decide) only [unsync, State.wrs_cons, State.wrs_nil, State.rd_wr_ne]
  rfl

theorem rd_trainingStarted_lstate (s : State) : s.trainingStarted.rd F.TWN_STS_LSTATE = 1 :=
  (rd_unsync_lstate _).trans (rd_linkState_same 1 _ (by decide))

theorem trainingStarted_attempts (s : State) : s.trainingStarted.twn.attempts = 1 :=
  congrArg TwnSt.attempts (linkState_twn ..)

/-! ### Lanes (R484) -/

section Lanes

variable {s : State} {j : Nat}

theorem laneLoss_of_some_left (hu : s.relayUp = true) (hj : s.rdBit F.TWN_STS_LANES j = true)
    (hl : clearBit (s.rd F.TWN_STS_LANES) j ≠ 0) :
    laneLoss j s = raiseEach 369 (setLanes (clearBit (s.rd F.TWN_STS_LANES) j) s) :=
  (if_pos (by simp [hu, hj])).trans (if_neg hl)

theorem laneLoss_of_last (hu : s.relayUp = true) (hj : s.rdBit F.TWN_STS_LANES j = true)
    (hl : clearBit (s.rd F.TWN_STS_LANES) j = 0) : laneLoss j s = linkLost (raiseEach 369 s) :=
  (if_pos (by simp [hu, hj])).trans (if_pos hl)

theorem laneLoss_of_down (h : s.relayUp = false) : laneLoss j s = s := if_neg (by simp [h])

theorem laneRejoin_of_up (h : s.relayUp = true) : laneRejoin j s =
    standbyJudge (setLanes (setBit (s.rd F.TWN_STS_LANES) j) s) := if_pos h

theorem laneRejoin_of_down (h : s.relayUp = false) : laneRejoin j s = s := if_neg (by simp [h])

end Lanes

/-- What `TWN.CTL.CNTCLR` clears: the four counts of TWN.ERR and the counts of comparisons, mismatches and resyncs. -/
def twinCounters : List Fld :=
  [F.TWN_ERR_CV, F.TWN_ERR_CRC, F.TWN_ERR_HBMISS, F.TWN_ERR_SNAPINC, F.TWN_CMPCNT_N, F.TWN_MISCNT_N, F.TWN_RSYNCCNT_N]

theorem rd_twnCntclr {s : State} {f : Fld} (h : f ∈ twinCounters) : (twnCntclr s).rd f = 0 :=
  rd_wrs_zero (fs := twinCounters) (by decide) h

/-! ### Cycle marks, heartbeats, identity, alignment (R482, R483, R485, R489) -/

theorem cycleMark_of_up {s : State} (cv : Nat) (h : s.relayUp = true) (ha : s.armcyc ≠ 0) : cycleMark cv s =
    (let x := signed 64 (s.rd64 F.TB_CYCST_LO_T F.TB_CYCST_HI_T) - (s.nowInt - s.rd F.TWN_LRLY_NS)
     (s.inc F.TWN_ERR_CV cv).wr F.TWN_ALIGN_NS (unsigned 32 ((x + (s.armcyc : Int) / 2) % s.armcyc - (s.armcyc : Int) / 2))) :=
  if_neg (by simp [h, ha])

/-- The partner's NOT_READY as its heartbeat shows it; a change is event TWIN. -/
def State.pnrShown (s : State) (nr : Bool) : State := if s.flag F.TWN_STS_PNR = nr then s else (s.put F.TWN_STS_PNR nr).event 14

theorem flag_pnrShown (s : State) (nr : Bool) : (s.pnrShown nr).flag F.TWN_STS_PNR = nr := by
  rw [State.pnrShown]
  split
  · assumption
  · rw [State.flag, rd_event_ne _ _ (by decide)]
    exact flag_put_same s nr rfl

theorem rd_pnrShown_ne (s : State) (nr : Bool) {f : Fld} (hf : f.key ≠ F.TWN_STS_PNR.key)
    (he : ∀ b ∈ [0, 1, 2], f.key ≠ (F.HST_EVSTS_EV.inBank b).key) : (s.pnrShown nr).rd f = s.rd f := by
  rw [State.pnrShown]
  split
  · rfl
  · rw [rd_event_ne _ _ he, rd_put_ne _ _ hf]

/-- What a sound heartbeat shows of the partner, and the end of the count of misses. -/
def State.hbShown (s : State) (cyc base state role epoch flags : Nat) (nr : Bool) : State :=
  let t := (s.wrs [(F.TWN_STS_PROLE, role), (F.TWN_STS_PSTATE, state), (F.TWN_PEPOCH_EPOCH, epoch)]).pnrShown nr
  { t with twn := { t.twn with
      pcyc := cyc, pcpbase := base, hbMiss := 0, pflags := flags, pnext := decide ((t.armcyc : Int) < 2 * t.crt) } }

section Heartbeat

variable {s : State} {cyc base state role epoch flags : Nat} {nr : Bool}

theorem hbReceived_of_wrong_crc (h : s.relayUp = true) : hbReceived false cyc base state role epoch flags nr s = crcError s := by
  simp [hbReceived, h]

theorem hbReceived_of_sound (h : s.relayUp = true) : hbReceived true cyc base state role epoch flags nr s =
    standbyJudge (alignCycle (standbyEpoch (partnerDegraded (flags.testBit 0) (s.hbShown cyc base state role epoch flags nr)))) :=
  if_neg (by simp [h])

/-- The registers that a heartbeat shows are those written, and then the partner's NOT_READY. -/
theorem rd_hbShown (f : Fld) : (s.hbShown cyc base state role epoch flags nr).rd f =
    ((s.wrs [(F.TWN_STS_PROLE, role), (F.TWN_STS_PSTATE, state), (F.TWN_PEPOCH_EPOCH, epoch)]).pnrShown nr).rd f :=
  rd_with_twn ..

theorem rd_hbShown_prole (h : role < 4) : (s.hbShown cyc base state role epoch flags nr).rd F.TWN_STS_PROLE = role := by
  rw [rd_hbShown, rd_pnrShown_ne _ _ (by decide) (by decide)]
  simp (disch := decide) only [State.wrs_cons, State.wrs_nil, State.rd_wr_ne]
  exact rd_wr_of_lt _ h

theorem rd_hbShown_pstate (h : state < 16) : (s.hbShown cyc base state role epoch flags nr).rd F.TWN_STS_PSTATE = state := by
  rw [rd_hbShown, rd_pnrShown_ne _ _ (by decide) (by decide)]
  simp (disch := decide) only [State.wrs_cons, State.wrs_nil, State.rd_wr_ne]
  exact rd_wr_of_lt _ h

theorem rd_hbShown_epoch (h : epoch < 65536) : (s.hbShown cyc base state role epoch flags nr).rd F.TWN_PEPOCH_EPOCH = epoch := by
  rw [rd_hbShown, rd_pnrShown_ne _ _ (by decide) (by decide)]
  exact rd_wr_of_lt _ h

theorem flag_hbShown_pnr : (s.hbShown cyc base state role epoch flags nr).flag F.TWN_STS_PNR = nr := flag_pnrShown _ nr

end Heartbeat

/-- What the registers show of the partner after an ID packet. -/
def State.idShown (s : State) (mid : Nat) (pref : Bool) (epoch role state : Nat) : State :=
  s.wrs [(F.TWN_MID_PID, mid), (F.TWN_STS_PPREF, b2n pref), (F.TWN_PEPOCH_EPOCH, epoch), (F.TWN_STS_PROLE, role),
    (F.TWN_STS_PSTATE, state)]

/-- The partner as an ID packet gives it; `clash`: its MID or its PREF is the unit's own. -/
def State.idTaken (s : State) (mid : Nat) (pref : Bool) (epoch role state image : Nat) (crcs : List Nat) (cyc base : Nat)
    (tw clash : Bool) : State :=
  let t := s.idShown mid pref epoch role state
  { t with twn := { t.twn with
      pimage := image, pcrcs := crcs, pcyc := cyc, pcpbase := base, partnerTwin := tw, clash := clash } }

section Identity

variable {s : State} {mid : Nat} {pref : Bool} {epoch role state image : Nat} {crcs : List Nat} {cyc base : Nat} {tw clash : Bool}

theorem rd_idShown_own_mid : (s.idShown mid pref epoch role state).rd F.TWN_MID_ID = s.rd F.TWN_MID_ID := by
  simp (disch := decide) only [State.idShown, State.wrs_cons, State.wrs_nil, State.rd_wr_ne]

theorem flag_idShown_own_pref : (s.idShown mid pref epoch role state).flag F.GLB_ROLE_PREF = s.flag F.GLB_ROLE_PREF := by
  simp (disch := decide) only [State.idShown, State.wrs_cons, State.wrs_nil, flag_wr_ne]

/-- An ID packet is taken and its identity judged: what it gives of the partner leaves the unit's own MID and PREF. -/
theorem idReceived_of_twin (h : s.flag F.GLB_ROLE_TWIN = true) : idReceived mid pref epoch role state image crcs cyc base tw s =
    (let clash := decide (mid = s.rd F.TWN_MID_ID) || pref == s.flag F.GLB_ROLE_PREF
     standbyJudge (condition 372 clash (s.idTaken mid pref epoch role state image crcs cyc base tw clash))) := by
  have hmid : (s.idShown mid pref epoch role state).rd F.TWN_MID_ID = s.rd F.TWN_MID_ID := rd_idShown_own_mid
  have hpref : (s.idShown mid pref epoch role state).flag F.GLB_ROLE_PREF = s.flag F.GLB_ROLE_PREF := flag_idShown_own_pref
  rw [← hmid, ← hpref]
  exact if_neg (by simp [h])

theorem rd_idTaken (f : Fld) : (s.idTaken mid pref epoch role state image crcs cyc base tw clash).rd f =
    (s.idShown mid pref epoch role state).rd f := rd_with_twn ..

theorem rd_idTaken_mid (h : mid < 65536) :
    (s.idTaken mid pref epoch role state image crcs cyc base tw clash).rd F.TWN_MID_PID = mid := by
  simp (disch := decide) only [rd_idTaken, State.idShown, State.wrs_cons, State.wrs_nil, State.rd_wr_ne]
  exact rd_wr_of_lt _ h

theorem rd_idTaken_epoch (h : epoch < 65536) :
    (s.idTaken mid pref epoch role state image crcs cyc base tw clash).rd F.TWN_PEPOCH_EPOCH = epoch := by
  simp (disch := decide) only [rd_idTaken, State.idShown, State.wrs_cons, State.wrs_nil, State.rd_wr_ne]
  exact rd_wr_of_lt _ h

theorem flag_idTaken_pref : (s.idTaken mid pref epoch role state image crcs cyc base tw clash).flag F.TWN_STS_PPREF = pref := by
  simp (disch := decide) only [State.flag, rd_idTaken, State.idShown, State.wrs_cons, State.wrs_nil, State.rd_wr_ne]
  exact flag_put_same _ pref rfl

end Identity

/-- Cause ALIGN comes after 16 cycles out of alignment. -/
theorem alignChange_of_bad {s : State} (hc : s.rdBit F.TWN_NRCAUSE_CAUSE 3 = false) (h : 16 ≤ s.twn.alignBad) :
    alignChange s = readyJudge (raise 382 (s.putBit F.TWN_NRCAUSE_CAUSE 3 true)) := if_pos (by simp [hc, h])

/-- Cause ALIGN ends after 16 cycles in alignment. -/
theorem alignChange_of_good {s : State} (hc : s.rdBit F.TWN_NRCAUSE_CAUSE 3 = true) (h : 16 ≤ s.twn.alignGood) :
    alignChange s = readyJudge (unraise 382 (s.putBit F.TWN_NRCAUSE_CAUSE 3 false)) :=
  (if_neg (by simp [hc])).trans (if_pos (by simp [hc, h]))

/-- Settles O56: each event by the state of the link, and what a packet shows of the partner read field by field. -/
theorem relayLink : Obligations.RelayLink := by
  refine ⟨fun j s hu hj hl => congrArg _ (laneLoss_of_some_left hu hj hl),
    fun j s hu hj hl => congrArg _ (laneLoss_of_last hu hj hl),
    fun j s hu => congrArg _ (laneRejoin_of_up hu),
    fun j s hd => ⟨congrArg _ (laneLoss_of_down hd), congrArg _ (laneRejoin_of_down hd), congrArg _ (linkLost_of_down hd)⟩,
    fun s hu => ⟨_, congrArg _ (linkLost_of_up hu), rd_linkDown_lstate s, rd_linkDown_lanes s, flag_linkDown_cklock s⟩,
    fun s hl => ⟨_, congrArg Host.Outcome.next (partnerDetected_of_listen hl), rd_linkState_same 1 _ (by decide),
      congrArg TwnSt.limit (linkState_twn ..)⟩,
    fun s hl => congrArg _ (partnerDetected_of_other_state hl), fun m s hg hr => next_gate hg (if_pos hr),
    fun s ht => ⟨_, relayStart_of_twin ht, rd_trainingStarted_lstate s, trainingStarted_attempts s⟩,
    fun m s hg => ⟨_, next_gate hg rfl, ?_⟩, fun v s hu ha => congrArg _ (cycleMark_of_up _ hu ha),
    fun c b st r e f n s hu => congrArg _ (hbReceived_of_wrong_crc hu),
    fun c b st r e f n s hu => ⟨_, congrArg _ (hbReceived_of_sound hu), rd_hbShown_prole r.isLt, rd_hbShown_pstate st.isLt,
      rd_hbShown_epoch e.isLt, flag_hbShown_pnr, rfl, rfl, rfl⟩,
    fun d p e r st i k c b w s ht => ⟨_, congrArg _ (idReceived_of_twin ht), rd_idTaken_mid d.isLt, flag_idTaken_pref,
      rd_idTaken_epoch e.isLt, rfl, rfl, rfl⟩,
    fun o s hu => congrArg _ (if_pos hu), fun s hc h => congrArg _ (alignChange_of_bad hc h),
    fun s hc h => congrArg _ (alignChange_of_good hc h)⟩
  have hzero : ∀ f ∈ twinCounters, (twnCntclr s).rd f = 0 := fun f hf => rd_twnCntclr hf
  simpa only [twinCounters, List.forall_mem_cons, List.not_mem_nil, false_implies, implies_true, and_true] using hzero

/-! ### Carried items and the refresh (R490, R491, R498) -/

section Items

variable {s : State}

theorem itemReceived_of_no_refresh (b : List Byte) (h : s.twn.refresh = none) : itemReceived true b s = itemTake none b s := by
  simp [itemReceived, h]

theorem atCycle_of_past {k : Nat} (f : Nat → State → State) (h : cycDiff k s.cyc ≤ 0) : atCycle none k f s = missItem s :=
  if_pos h

theorem atCycle_of_ahead {k : Nat} (f : Nat → State → State) (h : 0 < cycDiff k s.cyc) : atCycle none k f s = f k s :=
  if_neg (Int.not_le.mpr h)

/-- While the link is UP the active unit sends its items. -/
theorem carry_of_active (kind : Nat) (b : List Byte) (ha : s.role = roACTIVE) (hu : s.relayUp = true) :
    s.carry kind b = s.emit (.relay 0x20 (BitVec.ofNat 8 kind :: b)) := (if_pos ha).trans (if_pos hu)

theorem refreshStart_of_not_ready (ht : s.twinned = true) (ha : s.role = roACTIVE) (hu : s.relayUp = true)
    (hn : s.flag F.TWN_STS_PNR = true) : refreshStart s = s.carry 25 s.refreshBytes := if_pos (by simp [ht, ha, hu, hn])

theorem refreshStart_of_ready (hn : s.flag F.TWN_STS_PNR = false) : refreshStart s = s := if_neg (by simp [hn])

theorem refreshApply_of_none (h : s.twn.refresh = none) : refreshApply s = s := by
  simp only [refreshApply, h]

/-- At its cycle the standby takes the refresh in place of what waited, and then the items that came after it. -/
theorem refreshApply_of_due {x a : Nat} (h : s.twn.refresh = some (x, a)) (hr : s.role = roSTANDBY) (hd : s.cycleDue a = true) :
    refreshApply s = (let t := refreshTake s.twn.refData s
      forAll s.twn.refItems (itemTake (some a)) (missedJudge (unraise 387 { t with
        twn := { t.twn with refresh := none, refData := [], refItems := [], items := [], missed := false }
        tly := { t.tly with lifeMiss := false } }))) := by
  simp [refreshApply, h, hr, hd]

end Items

/-- Settles O57: an item by its CRC and its apply point, a refresh by the partner's readiness and by its cycle. -/
theorem carriedItems : Obligations.CarriedItems :=
  ⟨fun _ _ => rfl, fun b _ h => congrArg _ (itemReceived_of_no_refresh b h), fun _ f _ h => atCycle_of_past f h,
    fun _ f _ h => atCycle_of_ahead f h, fun _ => rfl,
    fun _ ht ha hu hn => congrArg _ ((refreshStart_of_not_ready ht ha hu hn).trans (carry_of_active 25 _ ha hu)),
    fun _ hn => congrArg _ (refreshStart_of_ready hn), fun _ _ _ h hr hd => congrArg _ (refreshApply_of_due h hr hd),
    fun _ h => congrArg _ (refreshApply_of_none h)⟩

/-! ### Missed heartbeats (R483) -/

/-- One more heartbeat missed. -/
def State.missCounted (s : State) : State :=
  { s with twn := { s.twn with hbMiss := s.twn.hbMiss + 1 } }.inc F.TWN_ERR_HBMISS

theorem hbMissed_of_few {s : State} (h : s.relayUp = true) (hn : s.twn.hbMiss < 2) : hbMissed s = s.missCounted := by
  have hne : s.twn.hbMiss + 1 ≠ 3 := by omega
  exact (if_neg (by simp [h])).trans (if_pos (by simpa using hne))

/-- The third miss in a row takes the link down; without TKHB it is no trigger. -/
theorem hbMissed_of_third {s : State} (h : s.relayUp = true) (hn : s.twn.hbMiss = 2) (hk : s.flag F.TWN_CFG_TKHB = false) :
    hbMissed s = linkLost s.missCounted := by
  have hkc : s.missCounted.flag F.TWN_CFG_TKHB = false := (flag_wr_ne _ _ (by decide)).trans hk
  have hon : ¬ (s.missCounted.flag F.TWN_CFG_TKHB &&
      !(s.missCounted.flag F.TWN_CFG_HBQUAL && s.missCounted.flag F.FC_LIN_RUNNING)) = true := by simp [hkc]
  exact (if_neg (by simp [h])).trans ((if_neg (by simp [hn])).trans (congrArg linkLost (if_neg hon)))

/-! ### A takeover: trigger, command, point (R505 to R507, R510) -/

section Trigger

variable {s : State} {trig : Nat} (hr : s.role = roSTANDBY)
include hr

/-- A standby with a cause, or with a takeover under way, refuses the trigger (R506). -/
theorem takeoverTrigger_of_refused (ht : trig ≠ 2) (h : s.rd F.TWN_NRCAUSE_CAUSE ≠ 0 ∨ s.twn.tk ≠ none) :
    takeoverTrigger trig s = takeoverRefused s := by
  rcases h with h | h
  · simp [takeoverTrigger, hr, ht, h]
  · simp [takeoverTrigger, hr, Option.isSome_iff_ne_none.mpr h]

/-- With no cause and an EPOCH left, detection is recorded. -/
theorem takeoverTrigger_of_detected (hc : s.rd F.TWN_NRCAUSE_CAUSE = 0) (ht : s.twn.tk = none) (hn : s.twn.nextRole = none)
    (he : s.nextEpoch ≤ 0xFFFF) : takeoverTrigger trig s =
    { s with twn := { s.twn with tk := some (trig, s.rawNs) } }.wr F.TWN_TKSTS_LOSTFRM 0 := by
  have hclear : clearBit 0 0 = 0 := rfl
  simp [takeoverTrigger, hr, hc, ht, hn, hclear, Nat.not_lt.mpr he]

theorem tkreqReceived_of_enabled (hu : s.relayUp = true) (hk : (raise 381 s).flag F.TWN_CFG_TKREQ = true) :
    tkreqReceived s = takeoverTrigger 3 (raise 381 s) := (if_neg (by simp [hu, hr])).trans (if_pos hk)

theorem takeoverCmd_of_standby (ht : s.twn.tk = none) : takeoverCmd cmdKey s =
    twnJudged (if (takeoverTrigger 4 s).twn.tk.isSome then 1 else 2) (takeoverTrigger 4 s) := by
  simp [takeoverCmd, hr, ht]

/-- UBLK makes a standby BLOCKED from its next cycle start; only a unit just past its takeover point blocks by itself. -/
theorem ublkReceived_of_standby (mask : Nat) (ht : s.twn.tkAt = none) : ublkReceived mask s =
    { s with twn := { s.twn with ublk := some s.cyc, taken := if s.st = stRUN then some stBLOCKED else none } } := by
  simp [ublkReceived, ht, hr]

end Trigger

theorem takeoverCmd_of_wrong_key {key : Nat} (s : State) (h : key ≠ cmdKey) : takeoverCmd key s = twnJudged 3 s :=
  if_pos (by simpa using h)

theorem rehearse_of_wrong_key {key : Nat} (s : State) (h : key ≠ cmdKey) : rehearse key s = twnJudged 3 s :=
  if_pos (by simpa using h)

/-- Written to the active unit with a ready partner, TAKEOVER goes to the partner as TKREQ. -/
theorem takeoverCmd_of_active {s : State} (ha : s.role = roACTIVE) (hu : s.relayUp = true) (hn : s.flag F.TWN_STS_PNR = false) :
    takeoverCmd cmdKey s = twnJudged 1 (s.relay 0x10 []) := by
  simp [takeoverCmd, ha, hu, hn]

theorem tknoteReceived_of_active {s : State} (epoch : Nat) (hu : s.relayUp = true) (ha : s.role = roACTIVE)
    (hq : s.twn.reh = none) : tknoteReceived epoch s =
    (({ s with twn := { s.twn with nextRole := some roSTANDBY } }.wr F.TWN_PEPOCH_EPOCH epoch).wr F.TWN_STS_PROLE roACTIVE) := by
  simp [tknoteReceived, hu, ha, hq]

/-- The state of the arms at a takeover point: BLOCKED after UBLK, else as the last complete snapshot had it (R507). -/
def State.takenState (s : State) : Option Nat := if s.twn.ublk.isSome then some stBLOCKED else s.twn.snapLast.map Prod.snd

/-- The role that follows a takeover point; a rehearsal ends with ABORT. -/
def State.roleTaken (s : State) : State :=
  let t := { s with twn := { s.twn with tk := none, tkAt := some s.cyc, nextRole := some roACTIVE, taken := s.takenState } }
  if s.twn.reh.isSome then rehEnd 3 [] t else t

/-- The EPOCH with which the unit drives from its takeover point on: in a rehearsal it keeps the one it drives with (R518). -/
def State.takenEpoch (s : State) : Nat := s.twn.drive.getD s.nextEpoch

/-- What the registers show of the takeover point: the EPOCH, the trigger, the cycle and the time. -/
def State.takeoverShown (s : State) (trig : Nat) : State :=
  let t := s.roleTaken.wrs [(F.GLB_ROLE_EPOCH, s.takenEpoch), (F.TWN_TKSTS_TRIG, trig), (F.TWN_TKCYC_VAL, s.roleTaken.cyc)]
  t.wr64 F.TWN_TKT_LO_VAL F.TWN_TKT_HI_VAL t.now

/-- The unit past its takeover point, with the locked frame, and TKNOTE sent. -/
def State.takenOver (s : State) (trig : Nat) : State :=
  let t := s.takeoverShown trig
  { t with cl := { t.cl with lock := some (s.takenEpoch, true) } }.relay 0x11 (leBytes 2 s.takenEpoch)

section TakeoverPoint

variable {s : State}

theorem takeoverPoint_of_due {trig t : Nat} (h : s.twn.tk = some (trig, t)) (hrun : s.running = true) (hr : s.role = roSTANDBY)
    (hd : s.takeoverDue t = true) : takeoverPoint s = ledgerFire 4 (raise 377 (s.takenOver trig)) := by
  simp only [takeoverPoint, h]
  exact if_neg (by simp [hrun, hr, hd])

theorem roleTaken_nextRole : s.roleTaken.twn.nextRole = some roACTIVE := by
  rw [State.roleTaken]
  split <;> rfl

theorem roleTaken_tk : s.roleTaken.twn.tk = none := by
  rw [State.roleTaken]
  split <;> rfl

theorem roleTaken_cyc : s.roleTaken.cyc = s.cyc := by
  rw [State.roleTaken]
  split
  · simp (disch := decide) [rehEnd, cyc_wr]
    rfl
  · rfl

theorem takenOver_twn (trig : Nat) : (s.takenOver trig).twn = s.roleTaken.twn := State.relay_twn ..

theorem takenOver_nextRole (trig : Nat) : (s.takenOver trig).twn.nextRole = some roACTIVE := by
  rw [takenOver_twn, roleTaken_nextRole]

theorem takenOver_tk (trig : Nat) : (s.takenOver trig).twn.tk = none := by
  rw [takenOver_twn, roleTaken_tk]

theorem takenOver_lock (trig : Nat) : (s.takenOver trig).cl.lock = some (s.twn.drive.getD s.nextEpoch, true) :=
  congrArg ClSt.lock (State.relay_cl ..)

theorem rd_takenOver (trig : Nat) (f : Fld) : (s.takenOver trig).rd f = (s.takeoverShown trig).rd f :=
  (rd_relay ..).trans (rd_with_cl ..)

theorem rd_takenOver_epoch (trig : Nat) : (s.takenOver trig).rd F.GLB_ROLE_EPOCH = s.twn.drive.getD s.nextEpoch % 65536 := by
  simp (disch := decide) only [rd_takenOver, State.takeoverShown, State.wr64, State.wrs_cons, State.wrs_nil, State.rd_wr_ne]
  exact State.rd_wr_same ..

theorem rd_takenOver_cyc (trig : Nat) : (s.takenOver trig).rd F.TWN_TKCYC_VAL = s.cyc := by
  simp (disch := decide) only [rd_takenOver, State.takeoverShown, State.wr64, State.wrs_cons, State.wrs_nil, State.rd_wr_ne,
    roleTaken_cyc]
  exact rd_wr_of_lt _ (State.rd_lt ..)

end TakeoverPoint

/-! ### Orphans and the preferred unit's return (R511, R512) -/

/-- A standby that adopts the orphaned cells: a new EPOCH, trigger 6, the role ACTIVE from the next cycle start. -/
def State.adopting (s : State) : State :=
  let t := (s.wr F.GLB_ROLE_EPOCH s.nextEpoch).wr F.TWN_TKSTS_TRIG 6
  { t with twn := { t.twn with nextRole := some roACTIVE, tk := none } }

theorem orphanAdopt_of_link_down {s : State} (hrun : s.running = true) (hr : s.role = roSTANDBY)
    (hn : s.flag F.GLB_ROLE_NOT_READY = true) (hu : s.relayUp = false) (ho : s.rd F.TWN_CFG_ORPHAN ≤ s.twn.orphan)
    (hx : s.twn.nextRole = none) (he : s.nextEpoch ≤ 0xFFFF) : orphanAdopt s =
    (let t := raise 379 s.adopting
     if t.eff = stARMED ∨ t.eff = stRUN then changeState stBLOCKED 0x70 t else t) := by
  rw [orphanAdopt, if_pos (by simp [hrun, hr, hn, hu, ho, hx]), if_neg (Nat.not_lt.mpr he)]
  simp only [Bool.or_eq_true, decide_eq_true_eq]
  rfl

theorem rd_adopting_epoch {s : State} (he : s.nextEpoch ≤ 0xFFFF) : s.adopting.rd F.GLB_ROLE_EPOCH = s.nextEpoch :=
  (State.rd_wr_ne _ _ (by decide)).trans (rd_wr_of_lt _ (Nat.lt_succ_of_le he))

theorem rd_adopting_trig (s : State) : s.adopting.rd F.TWN_TKSTS_TRIG = 6 := rd_wr_of_lt _ (by decide)

theorem prefReturn_of_held {s : State} {t : Nat} (h : s.twn.revFrom = some t) (hv : s.revertReady = true)
    (hd : t + s.rd F.TWN_REVERT_HOLD_S * 1000000000 ≤ s.rawNs) (ht : s.twn.tk = none) (hn : s.twn.nextRole = none) :
    prefReturn s = takeoverTrigger 5 s := by
  simp [prefReturn, h, hv, hd, ht, hn]

theorem prefReturn_of_no_timer {s : State} (h : s.twn.revFrom = none) : prefReturn s = s := by
  simp only [prefReturn, h]

/-- Settles O58: each event and command by its case; the state at the takeover point read field by field. -/
theorem takeover : Obligations.Takeover :=
  ⟨fun _ hu hn => congrArg _ (hbMissed_of_few hu hn),
    fun _ hu hn hk => congrArg _ ((hbMissed_of_third hu hn hk).trans (by rw [State.missCounted, hn])),
    fun _ _ hr ht h => takeoverTrigger_of_refused hr ht h, fun _ _ hr hc ht hn he => takeoverTrigger_of_detected hr hc ht hn he,
    fun _ hu hr hk => congrArg _ (tkreqReceived_of_enabled hr hu hk),
    fun _ _ s hg hk => ⟨next_gate hg (takeoverCmd_of_wrong_key s hk), next_gate hg (rehearse_of_wrong_key s hk)⟩,
    fun _ _ hg hr ht => next_gate hg (takeoverCmd_of_standby hr ht),
    fun _ _ hg ha hu hn => next_gate hg (takeoverCmd_of_active ha hu hn),
    fun x _ _ h hrun hr hd => ⟨_, congrArg _ (takeoverPoint_of_due h hrun hr hd), takenOver_nextRole x, takenOver_tk x,
      takenOver_lock x, rd_takenOver_epoch x, rd_takenOver_cyc x⟩,
    fun _ _ hu ha hq => congrArg _ (tknoteReceived_of_active _ hu ha hq),
    fun _ _ hr ht => congrArg _ (ublkReceived_of_standby hr _ ht),
    fun s hrun hr hn hu ho hx he => ⟨_, congrArg _ (orphanAdopt_of_link_down hrun hr hn hu ho hx he), rd_adopting_epoch he,
      rd_adopting_trig s, rfl⟩,
    fun _ _ h hv hd ht hn => congrArg _ (prefReturn_of_held h hv hd ht hn), fun _ h => congrArg _ (prefReturn_of_no_timer h)⟩

end Sys2Proof.Machine
end

section
/-! SUPPORT. The statements on the host port and the side band (spec/17): host events, PCIe memory requests, and the PCIe link with the
function resets, configuration space, MSI-X, release, MDIO and the Ostler. -/

namespace Sys2Proof.Machine

/-! ### Host events (R525, R526) -/

/-- A field has no bit at or above its width. -/
theorem rdBit_of_width_le (s : State) {f : Fld} {i : Nat} (h : f.w ≤ i) : s.rdBit f i = false :=
  Nat.testBit_lt_two_pow ((s.rd_lt f).trans_le (Nat.pow_le_pow_right Nat.two_pos h))

theorem rdBit_putBit_same (s : State) {f : Fld} {i : Nat} (h : i < f.w) : (s.putBit f i true).rdBit f i = true := by
  simp [State.putBit, State.rdBit, setBit, Nat.testBit_mod_two_pow, Nat.testBit_or, Nat.testBit_two_pow_self, h]

theorem rdBit_putBit_of_bit_ne (s : State) (f : Fld) {i j : Nat} (h : j ≠ i) : (s.putBit f i true).rdBit f j = s.rdBit f j := by
  by_cases hj : j < f.w
  · simp [State.putBit, State.rdBit, setBit, Nat.testBit_mod_two_pow, Nat.testBit_or, Nat.testBit_two_pow_of_ne h.symm, hj]
  · rw [rdBit_of_width_le _ (Nat.le_of_not_lt hj), rdBit_of_width_le _ (Nat.le_of_not_lt hj)]

/-- Event `e` in one bank: its status bit, and the bank's signal of a new enabled bit. -/
def State.bankEvent (e b : Nat) (s : State) : State :=
  let fresh := !s.rdBit (F.HST_EVSTS_EV.inBank b) e && s.rdBit (F.HST_EVEN_EN.inBank b) e
  let t := s.putBit (F.HST_EVSTS_EV.inBank b) e true
  if fresh then (if b = 2 then t.emit (.pin 6 false) else t.signalPf b (t.rd ((F.HST_EVVEC_VEC e).inBank b))) else t

theorem event_eq_bankEvents (s : State) (e : Nat) : s.event e = forAll [0, 1, 2] (State.bankEvent e) s := rfl

/-- The signal of a bank writes no register. -/
theorem bankEvent_regs (e b : Nat) (s : State) :
    (s.bankEvent e b).regs = (s.putBit (F.HST_EVSTS_EV.inBank b) e true).regs := by
  rw [State.bankEvent]
  split
  · split
    · rfl
    · exact (State.signalPf_within ..).parts 0 rfl
  · rfl

theorem rd_bankEvent_same (e b : Nat) (s : State) :
    (s.bankEvent e b).rd (F.HST_EVSTS_EV.inBank b) = setBit (s.rd (F.HST_EVSTS_EV.inBank b)) e % 2 ^ 32 :=
  (State.rd_congr (bankEvent_regs ..) _).trans (State.rd_wr_same ..)

theorem rd_bankEvent_ne (e : Nat) (s : State) {b : Nat} {f : Fld} (h : f.key ≠ (F.HST_EVSTS_EV.inBank b).key) :
    (s.bankEvent e b).rd f = s.rd f :=
  (State.rd_congr (bankEvent_regs ..) _).trans (State.rd_wr_ne _ _ h)

/-- Each bank takes the event once: the other two leave its status. -/
theorem rd_event_evsts (s : State) (e : Nat) {b : Nat} (hb : b < 3) :
    (s.event e).rd (F.HST_EVSTS_EV.inBank b) = setBit (s.rd (F.HST_EVSTS_EV.inBank b)) e % 2 ^ 32 := by
  rw [event_eq_bankEvents]
  obtain rfl | rfl | rfl : b = 0 ∨ b = 1 ∨ b = 2 := by omega
  all_goals simp (disch := decide) only [forAll_cons, forAll_nil, rd_bankEvent_ne, rd_bankEvent_same]

theorem rdBit_event_evsts (s : State) (e i : Nat) {b : Nat} (hb : b < 3) : (s.event e).rdBit (F.HST_EVSTS_EV.inBank b) i =
    (s.putBit (F.HST_EVSTS_EV.inBank b) e true).rdBit (F.HST_EVSTS_EV.inBank b) i :=
  congrArg (Nat.testBit · i) ((rd_event_evsts s e hb).trans (State.rd_wr_same s (F.HST_EVSTS_EV.inBank b) _).symm)

/-- Settles O13: an event sets its bit in each of the three status words and writes no other register. -/
theorem eventReachesEveryBank : Obligations.EventReachesEveryBank :=
  ⟨fun _ e s hb he => (rdBit_event_evsts s e e hb).trans (rdBit_putBit_same s he),
    fun _ e i s hb hi => (rdBit_event_evsts s e i hb).trans (rdBit_putBit_of_bit_ne s _ hi),
    fun e _ s h => rd_event_ne s e fun b hb => h b (List.mem_range.mp hb)⟩

/-! ### PCIe memory requests (R521, R533, R547) -/

theorem functionMaster_owner (fn : Fin 2) : (functionMaster fn.val).owner = fn.val := by
  revert fn
  decide

/-- An aligned word lies in one page of 4096 bytes. -/
theorem page_of_word (dw : Nat) : 4 * dw / 4096 = (4 * dw + 3) / 4096 := by
  omega

section PcieRequest

variable {s : State} {fn kind dw count first last : Nat} {poisoned : Bool} {data : List Nat}

section Reached

variable (hr : s.hostReached = true)
include hr

theorem pcieRequest_of_read : pcieRequest fn 0 dw count first last poisoned data s = pcieRead fn (4 * dw) count s :=
  if_neg (by simp [hr])

theorem pcieRequest_of_write : pcieRequest fn 1 dw count first last poisoned data s =
    pcieWrite fn (4 * dw) first last poisoned data s := if_neg (by simp [hr])

/-- I/O, AtomicOp and locked requests have no meaning for a function (R521). -/
theorem pcieRequest_of_unsupported : pcieRequest fn 2 dw count first last poisoned data s = s.emit (.completion fn 1 []) :=
  if_neg (by simp [hr])

end Reached

theorem pcieRead_of_frozen {addr : Nat} (h : s.frozen fn = true) : pcieRead fn addr count s = s.emit (.completion fn 1 []) :=
  if_pos h

theorem pcieRead_of_one_word (h : s.frozen fn = false) : pcieRead fn (4 * dw) 1 s =
    (let x := busRead (functionMaster fn) (4 * dw) s
     if x.2.frozen fn then x.2.emit (.completion fn 1 []) else x.2.emit (.completion fn 0 [x.1])) := by
  exact (if_neg (by simp [h])).trans (if_neg (by simp [page_of_word dw]))

/-- A poisoned write is counted before the freeze of its function is looked at (R547). -/
theorem pcieWrite_of_poisoned {addr : Nat} : pcieWrite fn addr first last true data s = raise 404 (s.inc F.HST_PCIERR_UNCORR) :=
  rfl

theorem pcieWrite_of_frozen {addr : Nat} (h : s.frozen fn = true) : pcieWrite fn addr first last false data s = s := if_pos h

/-- A whole word is one register write of the function. -/
theorem writeWords_of_whole_word {m : Master} {addr v : Nat} (h : s.frozen m.owner = false) :
    writeWords m addr [(15, v)] s = busWrite m addr v s := by
  simp [writeWords, h]

theorem pcieWrite_of_whole_word {v : Nat} (h : s.frozen fn = false) (hm : s.frozen (functionMaster fn).owner = false) :
    pcieWrite fn (4 * dw) 15 last false [v] s = busWrite (functionMaster fn) (4 * dw) v s := by
  have hone : pcieWrite fn (4 * dw) 15 last false [v] s = writeWords (functionMaster fn) (4 * dw) [(15, v)] s :=
    (if_neg (by simp [h])).trans (if_neg (by simp [page_of_word dw]))
  rw [hone, writeWords_of_whole_word hm]

end PcieRequest

/-- Settles O28: each request by its kind, then by the freeze of its function. -/
theorem pcieRequests : Obligations.PcieRequests :=
  ⟨fun _ _ _ _ _ _ _ _ hr => congrArg _ (pcieRequest_of_unsupported hr),
    fun _ _ _ _ _ _ _ _ hr hf => congrArg _ ((pcieRequest_of_read hr).trans (pcieRead_of_frozen hf)),
    fun _ _ _ _ _ _ _ hr hf => congrArg _ ((pcieRequest_of_write hr).trans (pcieWrite_of_frozen hf)),
    fun _ _ _ _ _ _ _ hr => congrArg _ ((pcieRequest_of_write hr).trans pcieWrite_of_poisoned),
    fun _ _ _ _ _ _ _ hr hf => congrArg _ ((pcieRequest_of_read hr).trans (pcieRead_of_one_word hf)),
    fun fn _ _ _ _ _ hr hf => congrArg _ ((pcieRequest_of_write hr).trans
      (pcieWrite_of_whole_word hf (by rw [functionMaster_owner fn, hf])))⟩

/-! ### Function resets and the PCIe link (R523, R525) -/

/-- A function that runs no channel loses its bank's registers alone. -/
theorem rd_functionReset_of_idle {s : State} {fn : Nat} (h : s.dmaOf fn = []) (f : Fld) :
    (functionReset fn s).rd f = if inBankKey fn f.key then f.reset % 2 ^ f.w else s.rd f := by
  have hregs : (functionReset fn s).regs = s.regs.keep fun k => !inBankKey fn k := by
    rw [functionReset, h]
    rfl
  rw [rd_of_regs_keep hregs]
  cases inBankKey fn f.key <;> rfl

theorem inBankKey_evsts (fn : Fin 2) : inBankKey fn.val (F.HST_EVSTS_EV.inBank fn.val).key = true := by
  revert fn
  decide

theorem inBankKey_state (fn : Fin 2) : inBankKey fn.val F.GLB_STATE_STATE.key = false := by
  revert fn
  decide

theorem functionReset_msix_of_idle {s : State} {fn : Nat} (h : s.dmaOf fn = []) :
    (functionReset fn s).hst.msixEn = clearBit s.hst.msixEn fn ∧ (functionReset fn s).hst.fnMask = clearBit s.hst.fnMask fn := by
  rw [functionReset, h]
  exact ⟨rfl, rfl⟩

theorem pcieLink_of_lost {s : State} (speed width : Nat) (h : s.flag F.HST_STS_LINKUP = true) : pcieLink false speed width s =
    raise 403 ((((s.wr F.HST_STS_LINKUP 0).wr F.HST_STS_SPEED 0).wr F.HST_STS_WIDTH 0).event 17) := by
  simp [pcieLink, h, b2n]

theorem pcieLink_of_regained {s : State} (speed width : Nat) (h : s.flag F.HST_STS_LINKUP = false) : pcieLink true speed width s =
    unraise 403 ((((s.wr F.HST_STS_LINKUP 1).wr F.HST_STS_SPEED speed).wr F.HST_STS_WIDTH width).event 17) := by
  simp [pcieLink, h, b2n]

/-! ### Configuration space and MSI-X tables (R520, R526, R533) -/

section Function

variable {s : State} {fn : Nat}

theorem cfgRequest_of_frozen (write : Bool) (dw be v : Nat) (h : s.frozen fn = true) :
    cfgRequest fn write dw be v s = s.emit (.completion fn 1 []) := if_pos h

theorem cfgRequest_of_read (dw be v : Nat) (h : s.frozen fn = false) :
    cfgRequest fn false dw be v s = s.emit (.completion fn 0 [s.cfgRead fn (4 * dw)]) := if_neg (by simp [h])

theorem cfgRequest_of_write (dw be v : Nat) (h : s.frozen fn = false) :
    cfgRequest fn true dw be v s = (cfgWrite fn (4 * dw) be v s).emit (.completion fn 0 []) := if_neg (by simp [h])

theorem msixAccess_of_read (ofs w : Nat) (h : s.frozen fn = false) :
    msixAccess fn false ofs w s = s.emit (.completion fn 0 [s.msixRead fn ofs]) := if_neg (by simp [h])

theorem msixAccess_of_write (ofs w : Nat) (h : s.frozen fn = false) : msixAccess fn true ofs w s = msixWrite fn ofs w s :=
  if_neg (by simp [h])

/-- The second word of a table entry, the upper half of its address, is stored as it is written. -/
theorem msixWrite_of_upper_address {dw : Nat} (w : Nat) (hofs : 4 * dw < 0x400) (hdw : dw % 4 = 1) : msixWrite fn (4 * dw) w s =
    { s with hst := { s.hst with vecTab := s.hst.vecTab.set (4 * (64 * fn + 4 * dw / 16) + 1) w } } := by
  have hword : 4 * dw % 16 = 4 := by omega
  simp [msixWrite, hword, Nat.not_le.mpr hofs]

end Function

/-! ### Release of frozen masters (R534) -/

theorem release_of_key (m : Master) (mask : Nat) {key : Nat} (s : State) (h : key = 0xA5C3) :
    release m mask key s = forAll (bitsOf 3 mask) (releaseOne m) s := if_neg (by simp [h])

theorem release_of_wrong_key (m : Master) (mask : Nat) {key : Nat} (s : State) (h : key ≠ 0xA5C3) : release m mask key s = s :=
  if_pos (by simpa using h)

/-- The Ostler, which has no MSI-X vectors, is released by the clear of its FROZEN bit alone. -/
theorem releaseOne_of_ostler {m : Master} {s : State} (hm : mayRelease m.owner 2 = true) (hf : s.frozen 2 = true) :
    releaseOne m 2 s = unraise 402 ((s.putBit F.HST_FRZ_FROZEN 2 false).event 16) := by
  simp [releaseOne, hm, hf]

/-! ### PHY management (R546) -/

/-- HST.MDIO as START writes it: the word's fields, and BUSY. -/
def State.mdioWritten (w : Nat) (s : State) : State :=
  s.wrs [(F.HST_MDIO_DATA, w), (F.HST_MDIO_REGAD, w / 2 ^ 16), (F.HST_MDIO_PHYAD, w / 2 ^ 21), (F.HST_MDIO_OP, w / 2 ^ 26),
    (F.HST_MDIO_BUSY, 1)]

section Mdio

variable {s : State} {w : Nat}

theorem mdioStart_of_busy (h : s.flag F.HST_MDIO_BUSY = true) : mdioStart w s = s := if_pos h

/-- An idle port takes the request, which leaves for the PHY. -/
theorem mdioStart_of_idle (h : s.flag F.HST_MDIO_BUSY = false) : mdioStart w s =
    (let t := s.mdioWritten w
     t.emit (.mdio (!t.flag F.HST_MDIO_OP) (t.rd F.HST_MDIO_PHYAD) (t.rd F.HST_MDIO_REGAD) (t.rd F.HST_MDIO_DATA))) :=
  if_neg (by simp [h])

theorem mdioStart_regs_of_idle (h : s.flag F.HST_MDIO_BUSY = false) : (mdioStart w s).regs = (s.mdioWritten w).regs :=
  (congrArg State.regs (mdioStart_of_idle h)).trans (State.emit_regs ..)

theorem flag_mdioWritten_busy : (s.mdioWritten w).flag F.HST_MDIO_BUSY = true := flag_wr_one _ rfl

theorem rd_mdioWritten : (s.mdioWritten w).rd F.HST_MDIO_DATA = w % 2 ^ 16 ∧
    (s.mdioWritten w).rd F.HST_MDIO_REGAD = w / 2 ^ 16 % 2 ^ 5 ∧ (s.mdioWritten w).rd F.HST_MDIO_PHYAD = w / 2 ^ 21 % 2 ^ 5 ∧
    (s.mdioWritten w).rd F.HST_MDIO_OP = w / 2 ^ 26 % 2 ^ 1 := by
  refine ⟨?_, ?_, ?_, ?_⟩
  all_goals
    simp (disch := decide) only [State.mdioWritten, State.wrs_cons, State.wrs_nil, State.rd_wr_ne]
    exact State.rd_wr_same ..

/-- The data of a read come with MDIO_DONE. -/
theorem mdioDone_of_read {data : Nat} (hb : s.flag F.HST_MDIO_BUSY = true) (ho : s.flag F.HST_MDIO_OP = false) :
    mdioDone data s = (s.wr F.HST_MDIO_BUSY 0).wr F.HST_MDIO_DATA data := by
  have hop : (s.wr F.HST_MDIO_BUSY 0).flag F.HST_MDIO_OP = false := (flag_wr_ne _ _ (by decide)).trans ho
  simp [mdioDone, hb, hop]

end Mdio

/-! ### The Ostler (R538, R542, R543, R602) -/

section Ostler

variable {s : State}

/-- A window of at most 900 permille ends a run of overloaded windows. -/
theorem loadWindow_of_low_load {load : Nat} (heavy : Bool) (h : load ≤ 900) : loadWindow load heavy s =
    (let t := ((s.wr F.HST_OSTLER_LOAD_LOAD load).wr F.HST_OSTLER_LOAD_PEAK (max load (s.rd F.HST_OSTLER_LOAD_PEAK))).wr
       F.HST_OSTLER_LOAD_OVER (b2n heavy)
     let t := unraise 53 { t with hst := { t.hst with loadOver := heavy, loadRun := 0 } }
     let t := if t.tly.ckMoved then ckptDue t else t
     if t.tly.xMoved then extractStart t else t) := by
  simp only [loadWindow, if_neg (Nat.not_lt.mpr h)]
  rfl

theorem restartDone_of_image_a (b : Bool) (h : s.flag F.HST_STS_OSTRDY = false) : restartDone true b s =
    unraise 52 (unraise 48 (((s.wr F.HST_STS_OSTRDY 1).wr F.HST_OSTLER_STS_STOPPED 0).wr F.HST_OSTLER_STS_IMG 0)) := by
  simp [restartDone, h, b2n]

theorem restartDone_of_no_image (h : s.flag F.HST_STS_OSTRDY = false) :
    restartDone false false s = raise 50 (s.wr F.HST_OSTLER_STS_STOPPED 1) := (if_neg (by simp [h])).trans (if_pos rfl)

theorem resultReady_of_in_flight {r : List Byte} (hres : s.hst.sbResult = some r) (hready : s.hst.sbReady = false) :
    resultReady s = { s with hst := { s.hst with sbReady := true } }.emit (.sideband r) := by
  simp [resultReady, hres, hready]

theorem smbusTimeout_of_smbus (h : s.hst.sbSmbus = true) : smbusTimeout s =
    { s with hst := { s.hst with sbResult := none, sbReady := false, sbSmbus := false } } := if_pos h

end Ostler

/-- Settles O31: each event and command of the host port by its case; what FLR and MDIO START leave is read field by field. -/
theorem hostPort : Obligations.HostPort := by
  refine ⟨fun _ => rfl, fun _ _ => rfl, fun f s hidle => ⟨_, rfl, ?_⟩, fun _ _ _ _ hl => congrArg _ (pcieLink_of_lost _ _ hl),
    fun _ _ _ hl => congrArg _ (pcieLink_of_regained _ _ hl), fun _ _ _ _ _ hf => congrArg _ (cfgRequest_of_read _ _ _ hf),
    fun _ _ _ _ _ hf => congrArg _ (cfgRequest_of_write _ _ _ hf),
    fun _ _ _ _ _ _ hf => congrArg _ (cfgRequest_of_frozen _ _ _ _ hf),
    fun _ _ _ _ hf => congrArg _ (msixAccess_of_read _ _ hf),
    fun _ _ _ _ hf hofs hdw => congrArg _ ((msixAccess_of_write _ _ hf).trans (msixWrite_of_upper_address _ hofs hdw)),
    fun m k _ s hg hk => next_gate hg (release_of_key m k.toNat s hk),
    fun m k _ s hg hk => next_gate hg (release_of_wrong_key m k.toNat s hk), fun _ _ hm hf => releaseOne_of_ostler hm hf,
    fun _ _ _ hg hb => next_gate hg (mdioStart_of_busy hb), fun m v s hg hb => ⟨_, next_gate hg rfl, ?_⟩,
    fun _ _ hb ho => congrArg _ (mdioDone_of_read hb ho), fun _ h _ hl => congrArg _ (loadWindow_of_low_load h hl),
    fun b _ hr => congrArg _ (restartDone_of_image_a b hr), fun _ hr => congrArg _ (restartDone_of_no_image hr),
    fun _ _ hres hready => congrArg _ (resultReady_of_in_flight hres hready),
    fun _ h => congrArg _ (smbusTimeout_of_smbus h)⟩
  · obtain ⟨hen, hmask⟩ := functionReset_msix_of_idle hidle
    refine ⟨hen, hmask, ?_, ?_⟩
    · rw [rd_functionReset_of_idle hidle, if_pos (inBankKey_evsts f)]
      rfl
    · rw [rd_functionReset_of_idle hidle, inBankKey_state f]
      rfl
  · have hregs := mdioStart_regs_of_idle (w := v.toNat) hb
    simp only [flag_congr hregs, State.rd_congr hregs]
    exact ⟨flag_mdioWritten_busy, rd_mdioWritten⟩

end Sys2Proof.Machine
end

section
/-! SUPPORT. The frame of every command, read off its footprint (O5). -/

namespace Sys2Proof.Machine

/-- Whatever next state a command answers lies within the command's footprint. -/
theorem within_of_exec {c : Instr} {s t : State} (h : exec c s = .next t) : Within (footprint c) s t := by
  obtain ⟨u, hu, hw⟩ := exec_within c s
  cases hu.symm.trans h
  exact hw

/-- TB.RAW, part 25, is in the footprint of the resets of the two domains and of the wrap of TB.RAW alone. -/
theorem footprint_raw {c : Instr} (h1 : ∀ x r, c ≠ .vinDomainReset x r) (h2 : c ≠ .vauxDomainReset) (h3 : c ≠ .tbRawWrap) :
    (footprint c).testBit 25 = false := by
  cases c <;> dsimp only [footprint]
  case vinDomainReset => exact absurd rfl (h1 _ _)
  case vauxDomainReset => exact absurd rfl h2
  case tbRawWrap => exact absurd rfl h3
  all_goals rfl

/-- The power of the two domains, part 26, is in the footprint of their resets and releases alone. -/
theorem footprint_power {c : Instr} (h1 : ∀ x r, c ≠ .vinDomainReset x r) (h2 : ∀ p, c ≠ .vinDomainRelease p)
    (h3 : ∀ a, c ≠ .vauxDomainRelease a) (h4 : c ≠ .vauxDomainReset) : (footprint c).testBit 26 = false := by
  cases c <;> dsimp only [footprint]
  case vinDomainReset => exact absurd rfl (h1 _ _)
  case vinDomainRelease => exact absurd rfl (h2 _)
  case vauxDomainRelease => exact absurd rfl (h3 _)
  case vauxDomainReset => exact absurd rfl h4
  all_goals rfl

/-- Settles O5: every next state lies within the footprint of its command (`exec_within`); TB.RAW and the power of the domains are
parts of their own in it. -/
theorem commandsKeepToTheirFootprint : Obligations.CommandsKeepToTheirFootprint :=
  ⟨fun _ _ _ h => within_of_exec h, fun _ _ _ h h1 h2 h3 => (within_of_exec h).parts 25 (footprint_raw h1 h2 h3),
    fun _ _ _ h h1 h2 h3 h4 => (within_of_exec h).parts 26 (footprint_power h1 h2 h3 h4)⟩

end Sys2Proof.Machine
end

section
/-! SUPPORT. The device-state commands (R21 to R51): the conditions of ARM (O8), of DEBLOCK (O9) and of the other commands (O14). -/

namespace Sys2Proof.Machine

/-! ### The conditions of ARM (R37) -/

/-- The role register has two bits: WAIT is the role that is none of the other three. -/
theorem State.role_eq_wait_iff (s : State) :
    s.role = roWAIT ↔ s.role ≠ roSOLO ∧ s.role ≠ roACTIVE ∧ s.role ≠ roSTANDBY := by
  have h : s.role < 4 := s.rd_lt F.GLB_ROLE_ROLE
  simp only [roSOLO, roWAIT, roACTIVE, roSTANDBY]
  omega

/-- The hold code of ARM while no process of R25 runs: the first failing condition of R37. -/
theorem State.armHold_eq {s : State} (keyOk : Bool) (h : s.busy = false) : s.armHold keyOk =
    if s.eff ≠ stLINKED then 0x01 else if keyOk = false then 0x02 else if s.role ≠ roSOLO ∧ s.role ≠ roACTIVE ∧ s.role ≠ roSTANDBY
    then 0x06 else if s.glb.tstmode = true then 0x10 else if s.rd F.RCP_SBUCRC_CRC ≠ s.rd (secCrcFld 6) ∨ s.flag F.SBU_STS_CFG = false
    then 0x0A else if s.flag F.LMU_STS_CALDONE = false ∨ s.flag F.LMU_STS_CAL_NRDY = true then 0x0B
    else if s.flag F.SCH_SLKVER_PASS = false ∨ s.rd F.SCH_SLKVER_PL ≠ s.inforce then 0x09 else if s.flag F.SBU_STS_PROOF = false
    then 0x04 else if s.flag F.SBU_STS_ALLCLOSED = false then 0x05 else if s.flag F.FC_STS_BLK = true ∨ s.flag F.FC_STS_TRIP = true
    then 0x03 else 0 := by
  simp only [State.armHold, h, State.role_eq_wait_iff, State.safeAcked, State.calibrated, State.noLatch45, bne_iff_ne, ne_eq,
    Bool.false_eq_true, if_false, Bool.not_eq_true', Bool.and_eq_false_iff, decide_eq_false_iff_not, Bool.not_eq_false']

theorem exec_arm_of_grants {m : Master} {s : State} (key : BitVec 16) (h : s.grants m .p 0xC = true) :
    exec (.arm m key) s = .next (command 3 (s.armHold (key.toNat = cmdKey)) (changeState stARMED 0x40) s) :=
  congrArg _ (gate_grants _ h)

/-- AUTO_ARM arms where it is enabled, the state is LINKED and no condition but the key's fails. -/
theorem autoArm_eq (s : State) : autoArm s =
    if s.flag F.GLB_AUTO_AUTO_ARM = true ∧ s.st = stLINKED ∧ s.armHold true = 0 then changeState stARMED 0x40 s else s := by
  simp only [autoArm, armAct, Bool.and_eq_true, decide_eq_true_eq, and_assoc]

/-- Settles O8: the command has the hold code of `armHold`, whose conditions are those of R37 in their order. -/
theorem armConditions : Obligations.ArmConditions := by
  refine ⟨fun m k s hg hb => ?_, fun s ha hs hh => ?_, fun s h => ?_⟩
  · rw [exec_arm_of_grants k hg, State.armHold_eq _ hb]
    simp only [decide_eq_false_iff_not]
  · exact congrArg _ ((autoArm_eq s).trans (if_pos ⟨ha, hs, hh⟩))
  · refine congrArg _ ((autoArm_eq s).trans (if_neg fun ⟨ha, hs, hh⟩ => ?_))
    simp [ha, hs, hh] at h

/-! ### The conditions of DEBLOCK (R39) -/

theorem exec_deblock_of_grants {m : Master} {s : State} (key : BitVec 16) (h : s.grants m .p 0xC = true) :
    exec (.deblock m key) s = .next (command 4 (s.deblockHold key.toNat) deblockAct s) :=
  congrArg _ (gate_grants _ h)

/-- The mean VCAP of an arm is at least VMIN where the sum over its cells in O is at least VMIN times their number (R39). -/
theorem State.vcapOk_iff (s : State) : s.vcapOk = true ↔ ∀ n ∈ s.arms,
    s.rd F.GLB_DBCHK_VMIN * max 1 ((s.armCells n).filter (·.inO)).length ≤ (((s.armCells n).filter (·.inO)).map (·.vcap)).sum := by
  simp only [State.vcapOk, List.all_eq_true, decide_eq_true_eq, List.sum_eq_foldl]

/-- The hold code of DEBLOCK while neither a process of R25 nor a rehearsal runs: the first failing condition of R39. -/
theorem State.deblockHold_eq {s : State} (key : Nat) (hb : s.busy = false) (hr : s.flag F.TWN_STS_REH = false) :
    s.deblockHold key = if s.eff ≠ stARMED ∧ s.eff ≠ stBLOCKED then 0x01 else if key ≠ 0xA5C3 then 0x02
    else if s.role ≠ roSOLO ∧ s.role ≠ roACTIVE then 0x06 else if s.flag F.FC_STS_BLK = true ∨ s.flag F.FC_STS_TRIP = true then 0x03
    else if s.flag F.SBU_STS_SO0 = false ∨ s.flag F.SBU_STS_SO1 = false then 0x0C else if ∃ n ∈ s.arms,
    s.navail n < s.rd (F.ARM_POPMIN_N n) then 0x07 else if s.flag F.GLB_DBCHK_VCHK_EN = true ∧ ¬ (∀ n ∈ s.arms,
    s.rd F.GLB_DBCHK_VMIN * max 1 ((s.armCells n).filter (·.inO)).length ≤ (((s.armCells n).filter (·.inO)).map (·.vcap)).sum)
    then 0x08 else if s.flag F.GLB_DBCHK_SYNCREQ = true ∧ s.flag F.REF_SYN_STS_INSYNC = false then 0x0D
    else 0 := by
  simp only [← State.vcapOk_iff]
  simp only [State.deblockHold, hb, hr, State.noLatch45, State.popShort, Bool.or_false, Bool.false_eq_true, if_false, bne_iff_ne, ne_eq,
    Bool.not_eq_true', Bool.or_eq_false_iff, Bool.and_eq_false_iff, decide_eq_false_iff_not, Bool.not_eq_false', List.any_eq_true,
    decide_eq_true_eq, Bool.and_eq_true, Bool.not_eq_true, cmdKey]

/-! ### How a command is judged, and the state change (R21, R22) -/

theorem command_of_ne_zero (code : Nat) {hold : Nat} (k : State → State) (s : State) (h : hold ≠ 0) : command code hold k s =
    (((((s.wr F.GLB_CMDSTS_CODE code).count F.GLB_CMDSTS_SEQ).wr F.GLB_CMDSTS_RESULT 2).wr F.GLB_CMDSTS_HOLD hold).logCommand code
      hold).event 2 :=
  if_neg h

/-- A command with a hold code does not act. -/
theorem command_refused (code : Nat) {hold : Nat} (k : State → State) (s : State) (h : hold ≠ 0) :
    command code hold k s = command code hold id s :=
  (command_of_ne_zero code k s h).trans (command_of_ne_zero code id s h).symm

theorem changeState_of_running {s : State} (new step : Nat) (h : s.running = true) :
    changeState new step s = { s with glb := { s.glb with pend := some (new, step) } } :=
  if_pos h

theorem changeState_of_not_running {s : State} (new step : Nat) (h : s.running = false) :
    changeState new step s = applyState new step { s with glb := { s.glb with pend := none } } :=
  if_neg (by simp [h])

/-- A state change to another state than SAFE fires no trigger of the Ledger. -/
theorem applyState_of_ne_safe {new : Nat} (step : Nat) (s : State) (h : new ≠ stSAFE) : applyState new step s =
    lanternJudge (((((((((s.wr F.GLB_STATE_PREV s.st).wr F.GLB_STATE_STATE new).wr F.GLB_STATE_STEP step).wr F.GLB_STCYC_CYC
      s.cycRec).wr F.GLB_STT_LO_T s.now).wr F.GLB_STT_HI_T (s.now / 2 ^ 32)).logState new s.st).event 1)) := by
  have hnow : (s.wrs [(F.GLB_STATE_PREV, s.st), (F.GLB_STATE_STATE, new), (F.GLB_STATE_STEP, step), (F.GLB_STCYC_CYC, s.cycRec)]).now
      = s.now := by
    simp only [State.wrs, List.foldl_cons, List.foldl_nil]
    rw [now_wr _ _ (by decide), now_wr _ _ (by decide), now_wr _ _ (by decide), now_wr _ _ (by decide)]
  simp only [applyState, if_neg h, hnow]
  rfl

/-! ### The other commands of GLB.CMD, and GLB.OPBLK (R22 to R51) -/

section Commands

variable {m : Master} {s : State}

theorem exec_link_of_grants (h : s.grants m .p 0xC = true) : exec (.link m) s = .next (command 2 s.linkHold linkAct s) :=
  congrArg _ (gate_grants _ h)

theorem exec_block_of_grants (arg : Byte) (h : s.grants m .p 0xC = true) :
    exec (.block m arg) s = .next (command 5 s.blockHold (blockAct (arg.toNat.testBit 0)) s) :=
  congrArg _ (gate_grants _ h)

theorem exec_disarm_of_grants (h : s.grants m .p 0xC = true) : exec (.disarm m) s = .next (command 6 s.disarmHold disarmAct s) :=
  congrArg _ (gate_grants _ h)

theorem exec_recover_of_grants (key : BitVec 16) (h : s.grants m .p 0xC = true) :
    exec (.recover m key) s = .next (command 7 (s.recoverHold key.toNat) recoverAct s) :=
  congrArg _ (gate_grants _ h)

theorem exec_shutdown_of_grants (arg : Byte) (key : BitVec 16) (h : s.grants m .p 0xC = true) : exec (.shutdown m arg key) s =
    .next (command 8 (s.shutHold key.toNat)
      (fun t => if t.glb.shutStep != 0 then t else shutBegin (b2n (arg.toNat.testBit 1)) t) s) :=
  congrArg _ (gate_grants _ h)

theorem exec_opblkWrite_of_grants (h : s.grants m .u 0x14 = true) : exec (.opblkWrite m) s = .next (opblk s) :=
  congrArg _ (gate_grants _ h)

/-- LINK starts the link process at once while arm cycles run, but after a shutdown. -/
theorem linkAct_of_running (hr : s.running = true) (hs : s.rd F.GLB_STATE_STEP ≠ 0xF0) : linkAct s = linkStart s := by
  rw [linkAct, if_neg hs, linkAsk, if_pos hr]

theorem blockAct_of_urgent (h : s.role ≠ roSTANDBY) : blockAct false s = blockAll s := by
  rw [blockAct, if_neg h, blockHere, if_neg (by simp)]

theorem opblk_of_driver (hb : s.blockable = true) (hw : s.role ≠ roWAIT) (hs : s.role ≠ roSTANDBY) :
    opblk s = blockHere false (s.put F.GLB_OPBLK_BLK s.running) := by
  have hrole : (s.put F.GLB_OPBLK_BLK s.running).role = s.role := role_wr s _ (by decide)
  simp only [opblk, hb, Bool.not_true, Bool.false_eq_true, if_false, if_neg hw, hrole, if_neg hs]

theorem State.linkHold_of_busy (h : s.busy = true) : s.linkHold = 0xF := if_pos h

theorem State.armHold_of_not_linked (keyOk : Bool) (hb : s.busy = false) (hs : s.eff ≠ stLINKED) : s.armHold keyOk = 1 := by
  rw [State.armHold_eq _ hb, if_pos hs]

theorem State.deblockHold_of_wrong_key {key : Nat} (hb : s.busy = false) (hr : s.flag F.TWN_STS_REH = false)
    (hs : s.eff = stARMED ∨ s.eff = stBLOCKED) (hk : key ≠ cmdKey) : s.deblockHold key = 2 := by
  rw [State.deblockHold_eq _ hb hr, if_neg (by tauto), if_pos hk]

theorem State.blockHold_of_not_blockable (h : s.blockable = false) : s.blockHold = 1 := by
  rw [State.blockHold, if_pos (by rw [h]; rfl)]

theorem State.disarmHold_of_armed (h : s.eff = stARMED ∨ s.eff = stBLOCKED) : s.disarmHold = 0 := by
  rw [State.disarmHold, if_pos (by simpa using h)]

theorem State.disarmHold_of_not_armed (ha : s.eff ≠ stARMED) (hb : s.eff ≠ stBLOCKED) : s.disarmHold = 1 := by
  rw [State.disarmHold, if_neg (by simp [ha, hb])]

theorem State.recoverHold_of_self {key : Nat} (hb : s.busy = false) (hr : s.flag F.TWN_STS_REH = false) (hs : s.eff = stSAFE)
    (hf : s.flag F.FC_STS_SELF = true) : s.recoverHold key = 0xE := by
  simp [State.recoverHold, hb, hr, hs, hf]

end Commands

/-- Settles O14: each command is `command` with its hold code and its effect; an accepted one has hold code 0, a refused one does not
act. -/
theorem stateCommands : Obligations.StateCommands := by
  refine ⟨fun _ _ _ => rfl, fun c _ k s h => command_of_ne_zero c k s h, fun n p s h => changeState_of_running n p h,
    fun n p s h => changeState_of_not_running n p h, fun _ p s h => applyState_of_ne_safe p s h, fun m s hg hh => ?_,
    fun s hr hs => linkAct_of_running hr hs, fun m key s hg hh => ?_, fun m key s hg hh => ?_, fun m arg s hg hh => ?_,
    fun m arg s hr ha => ?_, fun m s hg he => ?_, fun m key s hg hh => ?_, fun m arg key s hg hh => ?_,
    fun m s hg hb hw hs => (exec_opblkWrite_of_grants hg).trans (congrArg _ (opblk_of_driver hb hw hs)), fun m s hg hb => ?_,
    fun m key s hg hb he => ?_, fun m key s hg hb hr he hk => ?_, fun m arg s hg hb => ?_, fun m s hg ha hb => ?_,
    fun m key s hg hb hr hs hf => ?_⟩
  · rw [exec_link_of_grants hg, hh]
  · rw [exec_arm_of_grants key hg, hh]
  · rw [exec_deblock_of_grants key hg, hh]
    rfl
  · rw [exec_block_of_grants arg hg, hh]
  · rw [ha, blockAct_of_urgent hr]
  · rw [exec_disarm_of_grants hg, State.disarmHold_of_armed he]
    rfl
  · rw [exec_recover_of_grants key hg, hh]
  · rw [exec_shutdown_of_grants arg key hg, hh]
  · rw [exec_link_of_grants hg, State.linkHold_of_busy hb, command_refused _ _ _ (by decide)]
  · rw [exec_arm_of_grants key hg, State.armHold_of_not_linked _ hb he, command_refused _ _ _ (by decide)]
  · rw [exec_deblock_of_grants key hg, State.deblockHold_of_wrong_key hb hr he hk, command_refused _ _ _ (by decide)]
  · rw [exec_block_of_grants arg hg, State.blockHold_of_not_blockable hb, command_refused _ _ _ (by decide)]
  · rw [exec_disarm_of_grants hg, State.disarmHold_of_not_armed ha hb, command_refused _ _ _ (by decide)]
  · rw [exec_recover_of_grants key hg, State.recoverHold_of_self hb hr hs hf, command_refused _ _ _ (by decide)]

end Sys2Proof.Machine
end

section
/-! SUPPORT. Events of the start-up steps, the link process, roles, orderly blocks and shutdown (R25 to R49): what each does where its
condition holds (O17). -/

namespace Sys2Proof.Machine

section StartUp

variable {s : State}

/-- The end of a slack verification: a restart that waits for it begins, or step 0x20 starts arm cycles or reports hold code 9 (R30). -/
theorem slackDone_of_busy (worst : Nat) (h : s.flag F.SCH_SLKVER_BUSY = true) : slackDone worst s =
    let t := slackResult worst s
    if t.clk.restart.isSome && t.clk.plStep = 0 && !t.running then startUp { t with clk := { t.clk with restart := none } }
    else if !t.clk.start20 || t.clk.plStep != 0 || t.running then t
    else if t.flag F.SCH_SLKVER_PASS && t.inforce = t.rd F.SCH_CFG_PL then armCyclesStart t else t.wr F.GLB_CMDSTS_HOLD 9 :=
  if_neg (by simp [h])

theorem slackDone_of_not_busy (worst : Nat) (h : s.flag F.SCH_SLKVER_BUSY = false) : slackDone worst s = s :=
  if_pos (by simp [h])

/-- The last hop of a chain ends its enumeration (R316). -/
theorem chainEnumerated_of_last {l h : Nat} (hh : (s.ln l).ehop = some h) (hb : s.flag (F.CL_ENUM_BUSY l) = true)
    (hl : s.liveHops l ≤ h) : chainEnumerated l s =
    linkJudge ((s.wr (F.CL_ENUM_BUSY l) 0).setLn l fun x => { x with ehop := none, enumd := true }) := by
  simp only [chainEnumerated, hh, hb, hl, decide_true, Bool.and_self, if_true]

theorem linkTimeout_of_linking (h : s.linking = true) : linkTimeout s = linkEnd s := if_pos h

/-- After a failed population check the link process starts again (R33). -/
theorem linkTimeout_of_relink (hl : s.linking = false) (hr : s.glb.relink = true) (he : s.eff = stLOADED) (hrun : s.running = true) :
    linkTimeout s = linkStart s := by
  simp [linkTimeout, hl, hr, he, hrun]

/-- The automatic calibration that leaves the LMU uncalibrated reports hold code 0x0B (R27). -/
theorem lmuCalDone_of_busy (l : List (BitVec 16)) (h : s.flag F.LMU_STS_CALBUSY = true) : lmuCalDone l s =
    if s.lmu.calAuto && !(calDone l s).calibrated then (calDone l s).wr F.GLB_CMDSTS_HOLD 0xB else calDone l s :=
  if_neg (by simp [h])

end StartUp

section Roles

variable {s : State}

theorem relayTrained_of_training (lrly : Nat) (h : s.rd F.TWN_STS_LSTATE = 1) :
    relayTrained lrly s = standbyEpoch (roleGoOn (linkUp lrly s)) :=
  if_pos h

/-- An attempt before the third makes room for the next one (R481). -/
theorem attemptTimeout_of_more (hl : s.rd F.TWN_STS_LSTATE = 1) (ht : s.twn.limit = true) (ha : s.twn.attempts < 3) :
    attemptTimeout s = { s with twn := { s.twn with attempts := s.twn.attempts + 1 } }.emit (.relay 0 s.idBytes) := by
  simp [attemptTimeout, hl, ht, ha]

/-- The third failed attempt ends in LISTEN with FS368 (R481, R519). -/
theorem attemptTimeout_of_third (hl : s.rd F.TWN_STS_LSTATE = 1) (ht : s.twn.limit = true) (ha : 3 ≤ s.twn.attempts) :
    attemptTimeout s = roleGoOn (standbyJudge (raise 368 (linkState 2 { s with twn := { s.twn with failed3 := true } }))) := by
  simp [attemptTimeout, hl, ht, Nat.not_lt.mpr ha]

/-- 2 s without a partner resolve the role (R34). -/
theorem roleWaitExpiry_of_timer (ht : s.glb.roleTimer = true) (hr : s.role = roWAIT) : roleWaitExpiry s =
    let t := { s with glb := { s.glb with roleTimer := false } }.wr F.GLB_STATE_STEP 0x31
    if t.flag F.GLB_ROLE_OBEY_OTHER then resolveStandby t else resolveDriver roACTIVE t :=
  if_neg (by simp [ht, hr])

end Roles

section Blocks

variable {s : State}

theorem orderlyTimeout_of_orderly (h : s.glb.orderly = true) :
    orderlyTimeout s = { s with glb := { s.glb with orderlyTmo := true } }.wr F.GLB_CMDSTS_OBLK_TMO 1 :=
  if_pos h

/-- The ACTIVE unit judges a BLOCK that its STANDBY forwards as its own (R41). -/
theorem forwardedBlock_of_block (orderly : Bool) (hr : s.role = roACTIVE) (hu : s.relayUp = true) :
    forwardedBlock false orderly s = command 5 s.blockHold (blockHere orderly) s := by
  simp [forwardedBlock, hr, hu]

/-- A forwarded write of `GLB.OPBLK` acts on the ACTIVE unit (R41). -/
theorem forwardedBlock_of_opblk (orderly : Bool) (hr : s.role = roACTIVE) (hu : s.relayUp = true) (hb : s.blockable = true) :
    forwardedBlock true orderly s = blockHere false (s.put F.GLB_OPBLK_BLK s.running) := by
  simp [forwardedBlock, hr, hu, hb]

/-- A shutdown of scope 1 that the partner tells runs here from its step 2 (R47). -/
theorem partnerShutdown_of_idle (hu : s.relayUp = true) (hs : s.glb.shutStep = 0)
    (hb : (s.blockable || decide (s.eff = stSAFE)) = true) : partnerShutdown s =
    let t := shutTwo { s with glb := { s.glb with shutScope := 1 } }
    if t.running then t else shutTail t :=
  if_neg (by simp [hu, hs, hb])

/-- A checkpoint that fails is tried again, with FS440 (R340). -/
theorem ckptDone_of_failed {cyc now : Nat} (h : s.tly.ckAt = some (cyc, now)) : ckptDone false s =
    raiseEach 440 (let t := ckptLose (((s.wr F.TLY_STS_CKBUSY 0).wr F.TLY_CTL_CKPT 0).event 12)
      { t with tly := { t.tly with ckRetry := true } }.inc F.TLY_CKCNT_FAIL) := by
  simp only [ckptDone, h, Bool.false_eq_true, if_false]

end Blocks

/-- Settles O17: each clause is the branch of the event's meaning that its hypotheses name. -/
theorem startUpAndStateEvents : Obligations.StartUpAndStateEvents :=
  ⟨fun _ _ h => congrArg _ (slackDone_of_busy _ h), fun _ _ h => congrArg _ (slackDone_of_not_busy _ h),
    fun _ _ _ hh hb hl => congrArg _ (chainEnumerated_of_last hh hb hl), fun _ h => congrArg _ (linkTimeout_of_linking h),
    fun _ hl hr he hrun => congrArg _ (linkTimeout_of_relink hl hr he hrun), fun _ _ h => congrArg _ (relayTrained_of_training _ h),
    fun _ hl ht ha => congrArg _ (attemptTimeout_of_more hl ht ha), fun _ hl ht ha => congrArg _ (attemptTimeout_of_third hl ht ha),
    fun _ ht hr => congrArg _ (roleWaitExpiry_of_timer ht hr),
    fun s ha hs hh => congrArg _ ((autoArm_eq s).trans (if_pos ⟨ha, hs, hh⟩)),
    fun _ h => congrArg _ (orderlyTimeout_of_orderly h), fun _ _ hr hu => congrArg _ (forwardedBlock_of_block _ hr hu),
    fun _ _ hr hu hb => congrArg _ (forwardedBlock_of_opblk _ hr hu hb),
    fun _ hu hs hb => congrArg _ (partnerShutdown_of_idle hu hs hb), fun _ _ h => congrArg _ (if_pos h),
    fun _ _ _ h => ckptDone_of_failed h, fun _ _ h => congrArg _ (lmuCalDone_of_busy _ h)⟩

end Sys2Proof.Machine
end

section
/-! SUPPORT. Outside a safety tick no path of the SBU is energised (R20, R443): each operation that reaches the SBU only opens paths,
and an operation whose footprint lacks the SBU leaves them as they are. -/

namespace Sys2Proof.Machine

/-- From `s` to `t` no path of the SBU is energised: one that is energised in `t` was so in `s`. -/
structure NoPathCloses (s t : State) : Prop where
  was_on : ∀ k, (t.path k).on = true → (s.path k).on = true

namespace NoPathCloses

variable {s x y : State}

theorem refl (s : State) : NoPathCloses s s := ⟨fun _ => id⟩

/-- One more operation that energises no path. -/
theorem comp (k : NoPathCloses x y) (h : NoPathCloses s x) : NoPathCloses s y :=
  ⟨fun i hi => h.was_on i (k.was_on i hi)⟩

/-- One more operation whose footprint lacks the SBU. -/
theorem after {m : Nat} (w : Within m x y) (hm : m.testBit 19 = false) (h : NoPathCloses s x) : NoPathCloses s y :=
  comp ⟨fun k => by rw [State.path, w.parts 19 hm]; exact id⟩ h

theorem of_within {m : Nat} (w : Within m s y) (hm : m.testBit 19 = false) : NoPathCloses s y :=
  after w hm (refl s)

/-- The SBU takes a new value with the same paths. -/
theorem sbu {v : SbuSt} (hv : v.paths = x.sbu.paths) (h : NoPathCloses s x) : NoPathCloses s { x with sbu := v } :=
  comp ⟨fun k => by rw [State.path, hv]; exact id⟩ h

theorem ite {c : Prop} [Decidable c] (h : NoPathCloses s x) (k : NoPathCloses s y) : NoPathCloses s (if c then x else y) := by
  split
  · exact h
  · exact k

theorem foldl {α : Type} {l : List α} {f : State → α → State} (hf : ∀ a z, NoPathCloses z (f z a)) (h : NoPathCloses s x) :
    NoPathCloses s (l.foldl f x) := by
  induction l generalizing x with
  | nil => exact h
  | cons a l ih => exact ih ((hf a x).comp h)

theorem forAll {α : Type} {l : List α} {f : α → State → State} (hf : ∀ a z, NoPathCloses z (f a z)) (h : NoPathCloses s x) :
    NoPathCloses s (Machine.forAll l f x) :=
  foldl hf h

/-- A write at the arbiter does what its command does, or is a violation. -/
theorem gate {m : Master} {v : View} {a : Nat} {f : State → State} (h : NoPathCloses s (f s)) : NoPathCloses s (gate m v a f s) := by
  unfold Machine.gate
  split
  · exact refl s
  split
  · exact refl s
  split
  · exact of_within (State.wrs_within ..) rfl
  · exact ite (of_within (violation_within ..) rfl) h

theorem writeLive {m : Master} {a w : Nat} {f : RegSpec → List Nat → State → State} (h : ∀ r ix, NoPathCloses s (f r ix s)) :
    NoPathCloses s (writeLive m a w f s) := by
  unfold Machine.writeLive
  split
  · exact refl s
  · exact of_within (unmapped_within ..) rfl
  · exact of_within (State.wrs_within ..) rfl
  · exact of_within (violation_within ..) rfl
  · exact h _ _

end NoPathCloses

open NoPathCloses (of_within)

/-! ### The operations of the SBU -/

/-- Path `k` of the SBU after a change of path `i`. -/
theorem State.path_setPath (s : State) (i k : Nat) (f : SbuPath → SbuPath) :
    (s.setPath i f).path k = if i = k ∧ k < s.sbu.paths.length then f (s.path k) else s.path k := by
  simp only [State.path, State.setPath]
  generalize s.sbu.paths = l
  induction l generalizing i k with
  | nil => simp [modifyAt]
  | cons p l ih =>
    cases i <;> cases k <;> simp_all [modifyAt]

/-- A path changes in another way than by being energised. -/
theorem NoPathCloses.setPath {s x : State} {k : Nat} {f : SbuPath → SbuPath} (hf : ∀ p, (f p).on = true → p.on = true)
    (h : NoPathCloses s x) : NoPathCloses s (x.setPath k f) := by
  refine .comp ⟨fun i => ?_⟩ h
  rw [State.path_setPath]
  split
  · exact hf _
  · exact id

theorem deEnergise_opens (k : Nat) (s : State) : NoPathCloses s (deEnergise k s) := by
  unfold deEnergise
  exact .ite (.sbu rfl (.setPath (fun _ => id) (.setPath nofun (.refl s)))) (.setPath nofun (.refl s))

theorem openPaths_opens (s : State) : NoPathCloses s (openPaths s) := by
  unfold openPaths
  exact .forAll (fun k z => .ite (deEnergise_opens k z) (.refl z)) (.refl s)

theorem sbuCause_opens (b : Nat) (path : Option Nat) (s : State) : NoPathCloses s (sbuCause b path s) := by
  unfold sbuCause
  exact .after (sbuRaise_within ..) rfl (.comp (openPaths_opens _) (.sbu rfl (.refl s)))

theorem readbackFault_opens (k : Nat) (open_ : Bool) (s : State) : NoPathCloses s (readbackFault k open_ s) := by
  unfold readbackFault
  exact .ite (.after (sbuRaise_within ..) rfl (sbuCause_opens ..)) (sbuCause_opens ..)

theorem vsafeJudge_opens (ok : Bool) (s : State) : NoPathCloses s (vsafeJudge ok s) := by
  unfold vsafeJudge
  exact .ite (.after (sbuUnraise_within ..) rfl (.sbu rfl (.refl s)))
    (.ite (.after (sbuRaise_within ..) rfl (.comp (openPaths_opens _) (.sbu rfl (.refl s))))
      (.comp (openPaths_opens _) (.sbu rfl (.refl s))))

theorem cfgCheck_opens (sec : List Byte) (crc : Nat) (s : State) : NoPathCloses s (cfgCheck sec crc s) := by
  unfold cfgCheck
  exact .ite (.refl s) (sbuCause_opens ..)

theorem sbuHandover_opens (sec : List Byte) (crc : Nat) (s : State) : NoPathCloses s (sbuHandover sec crc s) := by
  unfold sbuHandover
  exact .comp (cfgCheck_opens ..) (.sbu rfl (.refl s))


theorem filterChange_opens (p ch : Nat) (s : State) : NoPathCloses s (filterChange p ch s) := by
  unfold filterChange
  have settled : NoPathCloses s (if s.pairMode p = 0 then s
      else if ch = 0 then s.setPair p fun x => { x with a := x.a.settle (s.safe (65 + 16 * p) 1) }
      else s.setPair p fun x => { x with b := x.b.settle (s.safe (65 + 16 * p) 1) }) :=
    .ite (.refl s) (.ite (.sbu rfl (.refl s)) (.sbu rfl (.refl s)))
  exact .comp (openPaths_opens _) (.ite (.sbu rfl (.sbu rfl settled)) settled)

theorem discLatch_opens (p : Nat) (s : State) : NoPathCloses s (discLatch p s) := by
  unfold discLatch
  exact .ite (.after (sbuRaise_within ..) rfl (.comp (openPaths_opens _) (.sbu rfl (.refl s)))) (.refl s)

theorem testPulse_opens (k : Nat) (low : Bool) (s : State) : NoPathCloses s (testPulse k low s) := by
  unfold testPulse
  exact .ite (.setPath (fun _ => id) (.refl s)) (.refl s)

theorem testEnd_opens (k rb : Nat) (s : State) : NoPathCloses s (testEnd k rb s) := by
  unfold testEnd
  exact .ite (.refl s) (.ite (.setPath (fun _ => id) (.setPath (fun _ => id) (.refl s)))
    (.comp (sbuCause_opens ..) (.setPath (fun _ => id) (.refl s))))

theorem sbuClear_opens (s : State) : NoPathCloses s (sbuClear s) := by
  unfold sbuClear
  exact .ite (.after (sbuUnraise_within ..) rfl (.after (sbuUnraise_within ..) rfl (.sbu rfl (.refl s))))
    (.after (sbuUnraise_within ..) rfl (.sbu rfl (.refl s)))

theorem sbuCommand_opens (code key : Nat) (s : State) : NoPathCloses s (sbuCommand code key s) := by
  have counted (n : Nat) : NoPathCloses s ((s.wr F.SBU_CMDSTS_SEQ n).event 2) :=
    .after (State.event_within ..) rfl (of_within (State.wr_within ..) rfl)
  unfold sbuCommand
  exact .ite (.after (State.wr_within ..) rfl (counted _))
    (.ite (.after (State.wr_within ..) rfl (counted _)) (.after (State.wr_within ..) rfl (.comp (sbuClear_opens _) (counted _))))

/-- What a report takes back in the SBU: that a path was de-energised, and which pairs opened. -/
theorem reportTaken_opens (x : State) : NoPathCloses x { x with sbu := { x.sbu with deenNew := false, openNew := 0 } } :=
  .sbu rfl (.refl x)

/-- A report to the main side takes DEEN and OPEN back in the SBU; the rest of it reads the SBU. -/
theorem statusReceived_opens (s : State) : NoPathCloses s (statusReceived s) := by
  have shown : NoPathCloses s (unraise 356 (sbuShow s)) := .after (unraise_within ..) rfl (of_within (sbuShow_within s) rfl)
  have told {c : Prop} [Decidable c] : NoPathCloses s (if c then unraise 356 (sbuShow s) else (unraise 356 (sbuShow s)).event 13) :=
    .ite shown (.after (State.event_within ..) rfl shown)
  unfold statusReceived
  refine .ite (of_within (sbuShow_within s) rfl) (.forAll (fun _ z => of_within (raise_within _ z) rfl) ?_)
  exact .ite (.after (raise_within ..) rfl (.comp (reportTaken_opens _) told))
    (.ite (.after (unraise_within ..) rfl (.comp (reportTaken_opens _) told)) (.comp (reportTaken_opens _) told))

/-! ### The Recipe: the SAFE section at the switch, and its acknowledgement -/

theorem applySafe_opens (d : List Byte) (acked : Bool) (s : State) : NoPathCloses s (applySafe d acked s) := by
  unfold applySafe
  exact .ite (.after (State.wr_within ..) rfl (.sbu rfl (of_within (State.wr_within ..) rfl)))
    (.sbu rfl (.comp (sbuHandover_opens ..) (.after (State.wr_within ..) rfl (of_within (State.wr_within ..) rfl))))

/-- Of the third part of a switch only the hand-over of a changed SAFE section reaches the SBU. -/
theorem switchTwin_opens (cycle untwin : Bool) (p : Prep) (s : State) : NoPathCloses s (switchTwin cycle untwin p s) := by
  unfold switchTwin
  lift_lets
  intro _ phase
  have hphase : NoPathCloses s phase := .ite (of_within (State.wr_within ..) rfl) (.refl s)
  clear_value phase
  intro safe
  have hsafe : NoPathCloses s safe := .ite (.comp (applySafe_opens ..) hphase) hphase
  clear_value safe
  intro _ given told _ partner off
  have htold : NoPathCloses s told := .after (unraise_within ..) rfl (.after (Within.twn (.refl 1048576 _) _ rfl) rfl hsafe)
  clear_value told
  have hpartner : NoPathCloses s partner := .ite (.after (Within.twn (.refl 1048576 _) _ rfl) rfl htold) htold
  have hoff : NoPathCloses s off := .ite (.after (relayOff_within ..) rfl hpartner) hpartner
  exact .ite (.after (unsync_within ..) rfl hoff) hoff

theorem switchNow_opens (k : Nat) (p : Prep) (s : State) : NoPathCloses s (switchNow k p s) := by
  unfold switchNow
  lift_lets
  intro _ _ _ _ _ switched gates state
  have hswitched : NoPathCloses s switched :=
    .comp (switchTwin_opens ..) (.after (switchSections_within ..) rfl (of_within (switchTables_within ..) rfl))
  clear_value switched
  have hstate : NoPathCloses s state :=
    .after (switchState_within ..) rfl (.after (acceptJudge_within ..) rfl (.after (switchGates_within ..) rfl hswitched))
  clear_value state
  exact .after (standbyJudge_within ..) rfl (.ite (.after (relayStart_within ..) rfl hstate) hstate)

theorem commitSwitch_opens (s : State) : NoPathCloses s (commitSwitch s) := by
  unfold commitSwitch
  split
  · exact .refl s
  · exact .ite (.refl s) (.ite (.after (rcpFinish_within ..) rfl (of_within (raise_within ..) rfl))
      (.after (rcpFinish_within ..) rfl (switchNow_opens ..)))

theorem prepareEnd_opens (s : State) : NoPathCloses s (prepareEnd s) := by
  unfold prepareEnd
  split
  · exact .refl s
  · exact .ite (.refl s) (.ite (.comp (commitSwitch_opens _) (of_within (setPrep_within ..) rfl))
      (.ite (.after (setPrep_within ..) rfl (.after (State.wr_within ..) rfl
          (.after (State.relay_within ..) rfl (of_within (setPrep_within ..) rfl))))
        (.after (State.wr_within ..) rfl (of_within (setPrep_within ..) rfl))))

theorem safeExpire_opens (s : State) : NoPathCloses s (safeExpire s) := by
  unfold safeExpire
  exact .after (raise_within ..) rfl (.after (State.wr_within ..) rfl (.sbu rfl (.refl s)))

theorem rcpSafeAck_opens (s : State) : NoPathCloses s (rcpSafeAck s) := by
  unfold rcpSafeAck rcpJudge
  refine .ite (of_within (rcpRefuse_within ..) rfl) (.ite (of_within (rcpRefuse_within ..) rfl) ?_)
  exact .ite
    (.ite (.comp (safeExpire_opens _) (.after (rcpRefuse_within ..) rfl (of_within (State.wr_within ..) rfl)))
      (.after (rcpRefuse_within ..) rfl (of_within (State.wr_within ..) rfl)))
    (.after (rcpDone_within ..) rfl (.after (Within.rcp (.refl 2097152 _) _ rfl) rfl
      (.sbu rfl (v := { s.sbu with ack := true }) (.refl s))))

/-- Of the commands of `RCP.CMD` only SAFE_ACK reaches the SBU. -/
theorem rcpCommand_opens (w : Nat) (s : State) : NoPathCloses s (rcpCommand w s) := by
  unfold rcpCommand
  generalize w % 256 = q
  match q with
  | 1 => exact of_within (rcpVerify_within ..) rfl
  | 2 => exact of_within (rcpCommit_within ..) rfl
  | 3 => exact of_within (rcpStore_within ..) rfl
  | 4 => exact of_within (rcpLoad_within ..) rfl
  | 5 => exact of_within (rcpAbort_within ..) rfl
  | 6 => exact rcpSafeAck_opens s
  | 7 => exact of_within (rcpErase_within ..) rfl
  | 8 => exact of_within (rcpHouseRead_within ..) rfl
  | 9 => exact of_within (rcpHouseStore_within ..) rfl
  | 10 => exact of_within (rcpKeyWrite_within ..) rfl
  | 11 => exact of_within (rcpKeyRevoke_within ..) rfl
  | 12 => exact of_within (rcpMinverSet_within ..) rfl
  | 0 | _ + 13 => exact .ite (of_within (rcpRefuse_within ..) rfl) (of_within (rcpRefuse_within ..) rfl)

/-! ### The ways to a register write -/

/-- Of the registers only `RCP.CMD` and `SBU.CMD` reach the SBU. -/
theorem fullEffect_opens (m : Master) (addr w : Nat) (r : RegSpec) (ix : List Nat) (s : State) :
    NoPathCloses s (fullEffect m addr w r ix s) := by
  unfold fullEffect
  refine .ite (of_within (hstEffect_within ..) rfl) (.ite (of_within (fcEffect_within ..) rfl)
    (.ite (of_within (writeFields_within ..) rfl)
    (.ite (of_within (State.wr_within ..) rfl) ?_)))
  have adjusted : NoPathCloses s (hostAdjust (writeFields m false r ix addr w) s) :=
    of_within (hostAdjust_step (fm := 3) (.refl _ s) (fun _ h => h.step (writeFields_within ..) rfl) rfl) rfl
  split
  · exact rcpCommand_opens w s
  · exact of_within (State.wr_within ..) rfl
  · exact of_within (tbControl_within ..) rfl
  · exact of_within (tbRateWrite_within ..) rfl
  · exact adjusted
  · exact adjusted
  · exact of_within (wbControl_within ..) rfl
  · exact sbuCommand_opens ..
  · exact of_within (coreEffect_within ..) rfl

theorem busWrite_opens (m : Master) (addr w : Nat) (s : State) : NoPathCloses s (busWrite m addr w s) := by
  unfold busWrite writeAny
  exact .ite (.refl s) (.ite (of_within (cellarWrite_within ..) rfl) (.writeLive fun _ _ => fullEffect_opens ..))

theorem writeWords_opens (m : Master) (addr : Nat) (l : List (Nat × Nat)) (s : State) : NoPathCloses s (writeWords m addr l s) := by
  unfold writeWords
  exact .foldl (fun _ z => .ite (.refl z) (.ite (.ite (of_within (State.werr_within ..) rfl) (.refl z)) (busWrite_opens ..))) (.refl s)

theorem pcieRequest_opens (fn kind dw count first last : Nat) (poisoned : Bool) (data : List Nat) (s : State) :
    NoPathCloses s (pcieRequest fn kind dw count first last poisoned data s) := by
  unfold pcieRequest
  refine .ite (.refl s) ?_
  split
  · exact of_within (pcieRead_within ..) rfl
  · unfold pcieWrite
    exact .ite (.after (raise_within ..) rfl (of_within (State.inc_within ..) rfl)) (.ite (.refl s)
      (.ite (.ite (.refl s) (of_within (State.werr_within ..) rfl)) (writeWords_opens ..)))
  · exact of_within (complete_within ..) rfl

theorem dmaStore_opens (m : Master) (cellar : Bool) (a w : Nat) (s : State) : NoPathCloses s (dmaStore m cellar a w s) := by
  unfold dmaStore
  exact .ite (of_within (cellarWrite_within ..) rfl) (.writeLive fun _ _ => fullEffect_opens ..)

theorem dmaWord_opens (ch i v : Nat) (s : State) : NoPathCloses s (dmaWord ch i v s).2 := by
  unfold dmaWord
  dsimp only
  split
  · exact .ite (dmaStore_opens ..) (.after (State.wr_within ..) rfl (dmaStore_opens ..))
  · split
    · exact of_within (dmaRead_within ..) rfl
    · exact .after (State.wr_within ..) rfl (.after (State.emit_within ..) rfl (of_within (dmaRead_within ..) rfl))
  · split
    · exact of_within (dmaRead_within ..) rfl
    · exact .ite (.comp (dmaStore_opens ..) (of_within (dmaRead_within ..) rfl))
        (.after (State.wr_within ..) rfl (.comp (dmaStore_opens ..) (of_within (dmaRead_within ..) rfl)))

theorem dmaWords_opens (ch : Nat) (data : List Nat) (n i : Nat) (s : State) : NoPathCloses s (dmaWords ch data n i s) := by
  induction n generalizing i s with
  | zero => exact .refl s
  | succ n ih =>
    have word : NoPathCloses s (dmaWord ch i (data.getD i 0) s).2 := dmaWord_opens ..
    unfold dmaWords
    dsimp only
    refine .ite (.refl s) ?_
    split
    · exact .after (dmaEnd_within ..) rfl (.ite word (.after (State.wr_within ..) rfl word))
    · exact .comp (ih _ _) word

theorem dmaAbort_opens (m : Master) (ch words : Nat) (data : List Nat) (s : State) : NoPathCloses s (dmaAbort m ch words data s) := by
  unfold dmaAbort
  exact .ite (busWrite_opens ..) (.ite (.comp (busWrite_opens ..) (dmaWords_opens ..)) (busWrite_opens ..))

theorem dmaComplete_opens (ch : Nat) (hostErr : Bool) (words : Nat) (data : List Nat) (s : State) :
    NoPathCloses s (dmaComplete ch hostErr words data s) := by
  have moved (n : Nat) : NoPathCloses s (dmaWords ch data n 0 s) := dmaWords_opens ..
  unfold dmaComplete
  exact .ite (.refl s) (.ite (moved _)
    (.ite (.after (dmaEnd_within ..) rfl (.after (raise_within ..) rfl (moved _))) (.after (dmaEnd_within ..) rfl (moved _))))

theorem portWrites_opens (l : List Nat) (addr : Nat) (s : State) : NoPathCloses s (portWrites l addr s).2 := by
  induction l generalizing addr s with
  | nil => exact .refl s
  | cons w l ih =>
    unfold portWrites
    dsimp only
    split
    · exact busWrite_opens ..
    · exact .comp (ih _ _) (busWrite_opens ..)

theorem portRequest_opens (smbus : Bool) (bytes : List Byte) (s : State) : NoPathCloses s (portRequest smbus bytes s) := by
  unfold portRequest
  refine .ite (of_within (State.inc_within ..) rfl) (.ite (.ite (.refl s) (of_within (State.emit_within ..) rfl))
    (.ite (.ite (.refl s) (of_within (portResult_within ..) rfl)) (.ite (of_within (portCrc_within ..) rfl)
    (.ite (of_within (portErr_within ..) rfl) (.ite (of_within (portErr_within ..) rfl) ?_)))))
  unfold portRun
  dsimp only
  have counted : NoPathCloses s { s with hst := { s.hst with sbSeq := (s.hst.sbSeq + 1) % 256 } } :=
    of_within (Within.hst (.refl 512 s) _ rfl rfl rfl rfl rfl) rfl
  exact .ite (.after (portResult_within ..) rfl (.comp (portWrites_opens ..) counted))
    (.after (portResult_within ..) rfl (.after (portReads_within ..) rfl counted))

/-! ### The reset of the VAUX domain -/

/-- Every path of an SBU out of reset is open. -/
theorem State.path_of_sbu_reset {t : State} (h : t.sbu = {}) (k : Nat) : (t.path k).on = false := by
  rw [State.path, h]
  match k with
  | 0 | 1 | _ + 2 => rfl

theorem vauxReset_opens (s : State) : NoPathCloses s (vauxReset s) := by
  unfold vauxReset
  refine .ite (.refl s) ⟨fun k hk => ?_⟩
  rw [State.path_of_sbu_reset rfl k] at hk
  exact absurd hk Bool.false_ne_true

/-! ### Every command -/

/-- No command but a safety tick energises a path. -/
theorem exec_opens {c : Instr} {s t : State} (h : exec c s = .next t) (hc : ∀ si ea eb v rb, c ≠ .sbuTick si ea eb v rb) :
    NoPathCloses s t := by
  have w := within_of_exec h
  cases c <;> dsimp only [footprint] at w
  case sbuTick => exact absurd rfl (hc _ _ _ _ _)
  case sbuFilterChange => cases h; exact filterChange_opens ..
  case sbuTestPulse => cases h; exact testPulse_opens ..
  case sbuDiscrepancyLatch => cases h; exact discLatch_opens ..
  case sbuReadbackFault => cases h; exact readbackFault_opens ..
  case sbuTestEnd => cases h; exact testEnd_opens ..
  case sbuClear => cases h; exact .gate (sbuCommand_opens ..)
  case safeAckExpiry => cases h; exact .ite (safeExpire_opens s) (.refl s)
  case sbuOscFault | sbuXchkFault => cases h; exact sbuCause_opens ..
  case sbuVsafeOut => cases h; exact vsafeJudge_opens ..
  case sbuStatusReceived => cases h; exact statusReceived_opens s
  case safeAck => cases h; exact .gate (rcpSafeAck_opens s)
  case registerWrite => cases h; exact .ite (.refl s) (busWrite_opens ..)
  case dmaStart => cases h; exact busWrite_opens ..
  case commitPrepareEnd => cases h; exact prepareEnd_opens s
  case commitSwitch => cases h; exact commitSwitch_opens s
  case pcieMemoryRequest => cases h; exact pcieRequest_opens ..
  case dmaAbort => cases h; exact dmaAbort_opens ..
  case dmaComplete => cases h; exact dmaComplete_opens ..
  case ostlerRequest => cases h; exact portRequest_opens ..
  case vauxDomainReset => cases h; exact vauxReset_opens s
  all_goals exact of_within w rfl

/-- Settles O6: of the commands that reach the SBU only the safety tick energises a path. -/
theorem pathsCloseOnlyAtASafetyTick : Obligations.PathsCloseOnlyAtASafetyTick :=
  fun _ k _ _ h hc => (exec_opens h hc).was_on k

end Sys2Proof.Machine
end

section
/-! SUPPORT. No command but DEBLOCK, and those that may carry a write of `GLB.CMD`, makes a DEBLOCK pending (R39): each operation
that reaches `State.glb` either leaves the pending DEBLOCK or ends it, and an operation whose footprint lacks `State.glb` leaves it. -/

namespace Sys2Proof.Machine

/-- From `s` to `t` no DEBLOCK becomes pending: one that is pending in `t` was so in `s`. -/
structure NoNewDeblock (s t : State) : Prop where
  was_pending : t.glb.deblockPend = true → s.glb.deblockPend = true

namespace NoNewDeblock

variable {s x y : State}

theorem refl (s : State) : NoNewDeblock s s := ⟨id⟩

/-- One more operation that makes no DEBLOCK pending. -/
theorem comp (k : NoNewDeblock x y) (h : NoNewDeblock s x) : NoNewDeblock s y := ⟨fun hy => h.was_pending (k.was_pending hy)⟩

/-- One more operation whose footprint lacks `State.glb`. -/
theorem after {m : Nat} (w : Within m x y) (hm : m.testBit 7 = false) (h : NoNewDeblock s x) : NoNewDeblock s y :=
  comp ⟨fun hy => by rwa [show y.glb = x.glb from w.parts 7 hm] at hy⟩ h

theorem of_within {m : Nat} (w : Within m s y) (hm : m.testBit 7 = false) : NoNewDeblock s y := after w hm (refl s)

/-- Parts of the state other than `State.glb` take new values. -/
theorem other {regs shadow samp capt latch : Sparse} {cellar : Memory} {tb : TbSt} {fc : FcSt} {hst : HstSt} {cl : ClSt} {sch : SchSt}
    {be : BeSt} {ref : RefSt} {tly : TlySt} {cg : CgSt} {net : NetSt} {wb : WbSt} {lmu : LmuSt} {sbu : SbuSt} {twn : TwnSt} {rcp : RcpSt}
    {clk : ClkSt} {freeN : Nat} {out : List Output} {pending : List Instr} (h : NoNewDeblock s x) :
    NoNewDeblock s ⟨regs, shadow, samp, capt, latch, cellar, tb, x.glb, fc, hst, cl, sch, be, ref, tly, cg, net, wb, lmu, sbu, twn, rcp,
      clk, freeN, out, pending⟩ :=
  ⟨h.was_pending⟩

/-- `State.glb` takes a new value with the same pending DEBLOCK, or with none. -/
theorem glb {v : GlbSt} (hv : v.deblockPend = true → x.glb.deblockPend = true) (h : NoNewDeblock s x) :
    NoNewDeblock s { x with glb := v } :=
  comp ⟨hv⟩ h

theorem ite {c : Prop} [Decidable c] (h : NoNewDeblock s x) (k : NoNewDeblock s y) : NoNewDeblock s (if c then x else y) := by
  split
  · exact h
  · exact k

theorem foldl {α : Type} {l : List α} {f : State → α → State} (hf : ∀ a z, NoNewDeblock z (f z a)) (h : NoNewDeblock s x) :
    NoNewDeblock s (l.foldl f x) := by
  induction l generalizing x with
  | nil => exact h
  | cons a l ih => exact ih ((hf a x).comp h)

theorem forAll {α : Type} {l : List α} {f : α → State → State} (hf : ∀ a z, NoNewDeblock z (f a z)) (h : NoNewDeblock s x) :
    NoNewDeblock s (Machine.forAll l f x) :=
  foldl hf h

theorem foldlFst {α β : Type} {l : List α} {f : State × β → α → State × β} {b : β} (hf : ∀ a z, NoNewDeblock z.1 (f z a).1)
    (h : NoNewDeblock s x) : NoNewDeblock s (l.foldl f (x, b)).1 := by
  suffices ∀ z : State × β, NoNewDeblock s z.1 → NoNewDeblock s (l.foldl f z).1 from this (x, b) h
  induction l with
  | nil => exact fun _ hz => hz
  | cons a l ih => exact fun z hz => ih _ ((hf a z).comp hz)

end NoNewDeblock

open NoNewDeblock (of_within)

/-! ### Reactions -/

theorem lanternJudge_noDeblock (s : State) : NoNewDeblock s (lanternJudge s) := by
  unfold lanternJudge
  exact .after (State.put_within ..) rfl <| .after (State.put_within ..) rfl <| .after (State.put_within ..) rfl <|
    .after (State.put_within ..) rfl <| of_within (State.put_within ..) rfl

theorem applyState_noDeblock (new step : Nat) (s : State) : NoNewDeblock s (applyState new step s) := by
  unfold applyState
  exact .comp (lanternJudge_noDeblock ..) <| .comp (.ite (of_within (ledgerFire_within ..) rfl) (.refl _)) <|
    .after (State.event_within ..) rfl <| .after (State.logState_within ..) rfl <| .after (State.wr64_within ..) rfl <|
    of_within (State.wrs_within ..) rfl

theorem changeState_noDeblock (new step : Nat) (s : State) : NoNewDeblock s (changeState new step s) := by
  unfold changeState
  exact .ite (.glb id (.refl _)) (.comp (applyState_noDeblock ..) <| .glb id (.refl _))

theorem urgentBlock_noDeblock (mask : Nat) (s : State) : NoNewDeblock s (urgentBlock mask s) := by
  unfold urgentBlock
  exact .after (ledgerFire_within ..) rfl <| .comp (.ite (of_within (State.relay_within ..) rfl) (.refl _)) <| .glb id <|
    .forAll (fun _ _ => of_within (sendK283_within ..) rfl) (.refl _)

theorem supersede_noDeblock (s : State) : NoNewDeblock s (supersede s) := by
  unfold supersede
  exact .ite (.comp (.ite (of_within (State.wr_within ..) rfl) (.refl _)) <| .glb nofun (.refl _)) (.refl _)

theorem endOrderly_noDeblock (s : State) : NoNewDeblock s (endOrderly s) := by
  unfold endOrderly
  exact .ite (.glb id (.refl _)) (.refl _)

theorem blockAll_noDeblock (s : State) : NoNewDeblock s (blockAll s) := by
  unfold blockAll
  exact .comp (.ite (changeState_noDeblock ..) (.refl _)) <| .comp (urgentBlock_noDeblock ..) <| .comp (endOrderly_noDeblock ..) <|
    supersede_noDeblock ..

theorem permitWithdraw_noDeblock (s : State) : NoNewDeblock s (permitWithdraw s) := by
  unfold permitWithdraw
  exact .glb id (.refl _)

theorem logFault_noDeblock (fs sev : Nat) (real inj clear react first : Bool) (coinc : Nat) (s : State) :
    NoNewDeblock s (logFault fs sev real inj clear react first coinc s) := by
  unfold logFault
  exact .ite (.after (State.inc_within ..) rfl <| .other (.refl _)) (.after (State.log_within ..) rfl <| .other (.refl _))

theorem liveUpdate_noDeblock (fs : Nat) (s : State) : NoNewDeblock s (liveUpdate fs s) := by
  unfold liveUpdate
  exact .ite (.refl _)
    (.comp (.ite (logFault_noDeblock ..) (.refl _)) <| .after (State.put_within ..) rfl <| of_within (State.putBit_within ..) rfl)

theorem selfFault_noDeblock (s : State) : NoNewDeblock s (selfFault s) := by
  unfold selfFault
  exact .comp (lanternJudge_noDeblock ..) <| .comp (.ite (.refl _) (changeState_noDeblock ..)) <|
    .comp (permitWithdraw_noDeblock ..) <| .comp (blockAll_noDeblock ..) <| .after (State.wr_within ..) rfl <|
    of_within (State.wr_within ..) rfl

theorem react_noDeblock (lo sev : Nat) (s : State) : NoNewDeblock s (react lo sev s) := by
  unfold react
  exact .comp (.ite (.refl _)
        (.ite (of_within (State.wr_within ..) rfl)
          (.comp (lanternJudge_noDeblock ..) <|
            .comp (.ite (.ite (permitWithdraw_noDeblock ..) (.comp (changeState_noDeblock ..) <| permitWithdraw_noDeblock ..))
                (.refl _)) <| .comp (.ite (blockAll_noDeblock ..) (.refl _)) <|
            .comp (.ite (of_within (State.relay_within ..) rfl) (.refl _)) <|
            .comp (.ite (of_within (State.relay_within ..) rfl) (.refl _)) <| of_within (latchFlags_within ..) rfl))) <|
    .ite (of_within (State.event_within ..) rfl) (.refl _)

theorem raiseOne_noDeblock (fs sev : Nat) (real inj first : Bool) (coinc : Nat) (s : State) :
    NoNewDeblock s (raiseOne fs sev real inj first coinc s) := by
  unfold raiseOne
  exact .comp (logFault_noDeblock ..) <| .comp (.ite (of_within (ledgerFire_within ..) rfl) (.refl _)) <|
    .comp (.ite (of_within (ledgerFire_within ..) rfl) (.refl _)) <|
    .comp (.ite (.refl _) (.ite (selfFault_noDeblock ..) (react_noDeblock ..))) <| .comp (.ite (.other (.refl _)) (.refl _)) <|
    .after (State.inc_within ..) rfl <| .comp (.ite (of_within (State.putBit_within ..) rfl) (.refl _)) <|
    .comp (.ite (of_within (State.putBit_within ..) rfl) (.refl _)) <| of_within (State.putBit_within ..) rfl

theorem raiseSlot_noDeblock (l : List (Nat × Bool × Bool)) (s : State) : NoNewDeblock s (raiseSlot l s) := by
  unfold raiseSlot
  refine .comp (.foldl (fun _ _ => raiseOne_noDeblock ..) (.refl _)) ?_
  split
  · exact of_within (captureFirst_within ..) rfl
  · exact of_within (State.wr_within ..) rfl

theorem readyJudge_noDeblock (s : State) : NoNewDeblock s (readyJudge s) := by
  unfold readyJudge
  exact .comp (.ite (.comp (.ite (.comp (liveUpdate_noDeblock ..) <| .other (.refl _)) (.refl _)) <|
          of_within (State.wr_within ..) rfl)
        (.comp (.ite (.comp (raiseSlot_noDeblock ..) <| .comp (liveUpdate_noDeblock ..) <| .other <|
                .after (State.event_within ..) rfl <| of_within (State.event_within ..) rfl)
              (.ite (.comp (liveUpdate_noDeblock ..) <| .other <| .after (State.event_within ..) rfl <|
                  of_within (State.event_within ..) rfl) (.refl _))) <| of_within (State.put_within ..) rfl)) <|
    of_within (State.putBit_within ..) rfl

theorem raise_noDeblock (fs : Nat) (s : State) : NoNewDeblock s (raise fs s) := by
  unfold raise
  exact .ite (.refl _)
    (.ite (.comp (readyJudge_noDeblock ..) <| raiseSlot_noDeblock ..)
      (.ite (.refl _)
        (.comp (readyJudge_noDeblock ..) <| .comp (raiseSlot_noDeblock ..) <| .comp (liveUpdate_noDeblock ..) <| .other (.refl _))))

theorem unraise_noDeblock (fs : Nat) (s : State) : NoNewDeblock s (unraise fs s) := by
  unfold unraise
  exact .ite (.comp (liveUpdate_noDeblock ..) <| .other (.refl _)) (.refl _)

theorem raiseEach_noDeblock (fs : Nat) (s : State) : NoNewDeblock s (raiseEach fs s) := by
  unfold raiseEach
  exact .ite (.comp (readyJudge_noDeblock ..) <| raiseSlot_noDeblock ..) (raise_noDeblock ..)

theorem raiseInCycle_noDeblock (fs : Nat) (s : State) : NoNewDeblock s (raiseInCycle fs s) := by
  unfold raiseInCycle
  exact .comp (raise_noDeblock ..) <| .other (.refl _)

theorem condition_noDeblock (fs : Nat) (on : Bool) (s : State) : NoNewDeblock s (condition fs on s) := by
  unfold condition
  exact .ite (raise_noDeblock ..) (unraise_noDeblock ..)

theorem violation_noDeblock (m : Master) (addr kind : Nat) (write : Bool) (s : State) :
    NoNewDeblock s (violation m addr kind write s) := by
  unfold violation
  exact .after (State.event_within ..) rfl <| .comp (raise_noDeblock ..) <|
    .ite (.refl _)
      (.after (State.inc_within ..) rfl <| .after (State.putBit_within ..) rfl <| .after (State.wr64_within ..) rfl <|
        of_within (State.wrs_within ..) rfl)

theorem NoNewDeblock.gate {m : Master} {v : View} {a : Nat} {f : State → State} {s : State} (h : NoNewDeblock s (f s)) :
    NoNewDeblock s (gate m v a f s) := by
  unfold Machine.gate
  split
  · exact .refl s
  split
  · exact .refl s
  split
  · exact of_within (gateAccess_within ..) rfl
  · exact .ite (violation_noDeblock ..) h

/-! ### The reference -/

theorem levelGen_noDeblock (n : Nat) (s : State) : NoNewDeblock s (levelGen n s) := by
  unfold levelGen
  exact .ite (.refl _)
    (.comp (.ite (.comp (.ite (of_within (State.wrs_within ..) rfl) (.refl _)) <| .comp (raise_noDeblock ..) <|
            .after (State.wr_within ..) rfl <| of_within (State.wr_within ..) rfl)
          (.comp (.ite (unraise_noDeblock ..) (.refl _)) <| .after (State.wrs_within ..) rfl <|
            .comp (.ite (of_within (State.wr_within ..) rfl) (.refl _)) <| .ite (of_within (State.wr_within ..) rfl) (.refl _))) <|
      .after (State.put_within ..) rfl <| of_within (State.wr_within ..) rfl)

theorem refHeldLimit_noDeblock (n : Nat) (s : State) : NoNewDeblock s (refHeldLimit n s) := by
  unfold refHeldLimit
  exact .ite (.comp (raise_noDeblock ..) <| of_within (State.wr_within ..) rfl) (.refl _)

/-! ### Lanes -/

theorem laneJudge_noDeblock (l : Nat) (s : State) : NoNewDeblock s (laneJudge l s) := by
  unfold laneJudge
  exact .ite (unraise_noDeblock ..) (.refl _)

theorem laneCause_noDeblock (l : Nat) (f : Nat → Fld) (s : State) : NoNewDeblock s (laneCause l f s) := by
  unfold laneCause
  exact .comp (raise_noDeblock ..) <| of_within (State.wr_within ..) rfl

theorem setLane_noDeblock (l v : Nat) (s : State) : NoNewDeblock s (setLane l v s) := by
  unfold setLane
  exact .comp (laneJudge_noDeblock ..) <| .after (State.putBit_within ..) rfl <| of_within (State.wr_within ..) rfl

theorem idleLane_noDeblock (l v : Nat) (s : State) : NoNewDeblock s (idleLane l v s) := by
  unfold idleLane
  exact .comp (setLane_noDeblock ..) <| .after (State.setLn_within ..) rfl <| .after (dropSamples_within ..) rfl <|
    .after (State.wr_within ..) rfl <| of_within (sendIdle_within ..) rfl

theorem ringSplit_noDeblock (l : Nat) (b : Int) (s : State) : NoNewDeblock s (ringSplit l b s) := by
  unfold ringSplit
  exact .ite (.refl _)
    (.comp (.ite (.comp (setLane_noDeblock ..) <| of_within (State.emit_within ..) rfl) (.refl _)) <|
      .after (State.setLn_within ..) rfl <|
      .forAll (fun _ _ => .after (State.inc_within ..) rfl <| of_within (State.wrs_within ..) rfl) (.refl _))

theorem ringBreak_noDeblock (l : Nat) (s : State) : NoNewDeblock s (ringBreak l s) := by
  unfold ringBreak
  exact .ite (ringSplit_noDeblock ..) (.refl _)

theorem lockLoss_noDeblock (l : Nat) (s : State) : NoNewDeblock s (lockLoss l s) := by
  unfold lockLoss
  exact .ite (.comp (ringSplit_noDeblock ..) <| .after (dropSamples_within ..) rfl <| .comp (setLane_noDeblock ..) <|
      .comp (laneCause_noDeblock ..) <| .after (State.wr_within ..) rfl <| .after (State.inc_within ..) rfl <|
      of_within (State.wr_within ..) rfl)
    (.ite (.comp (ringSplit_noDeblock ..) <| .comp (idleLane_noDeblock ..) <| .after (State.inc_within ..) rfl <|
        of_within (State.wr_within ..) rfl)
      (.ite (.after (State.inc_within ..) rfl <| of_within (State.wr_within ..) rfl) (.refl _)))

theorem idleExpired_noDeblock (l : Nat) (s : State) : NoNewDeblock s (idleExpired l s) := by
  unfold idleExpired
  exact .ite (.comp (setLane_noDeblock ..) <| .after (State.emit_within ..) rfl <| .after (State.inc_within ..) rfl <|
      of_within (State.inc_within ..) rfl) (.refl _)

theorem burstSent_noDeblock (l : Nat) (s : State) : NoNewDeblock s (burstSent l s) := by
  unfold burstSent
  exact .ite (.comp (setLane_noDeblock ..) <| of_within (State.emit_within ..) rfl) (.refl _)

theorem rxLock_noDeblock (l : Nat) (s : State) : NoNewDeblock s (rxLock l s) := by
  unfold rxLock
  exact .ite (.comp (.ite (setLane_noDeblock ..)
          (.ite (.comp (setLane_noDeblock ..) <| .after (State.wr_within ..) rfl <| of_within (dropSamples_within ..) rfl)
            (.refl _))) <| of_within (State.wrs_within ..) rfl) (.refl _)

theorem ts2Received_noDeblock (l : Nat) (gen hops laneid chk : Byte) (s : State) :
    NoNewDeblock s (ts2Received l gen hops laneid chk s) := by
  unfold ts2Received
  exact .ite (.after (sendDmreq_within ..) rfl <| .comp (setLane_noDeblock ..) <| .after (State.setLn_within ..) rfl <|
      .comp (.ite (.refl _) (laneCause_noDeblock ..)) <| .after (ringRejoin_within ..) rfl <| of_within (State.wr_within ..) rfl)
    (.refl _)

theorem trainTimeout_noDeblock (l : Nat) (s : State) : NoNewDeblock s (trainTimeout l s) := by
  unfold trainTimeout
  exact .ite (.comp (idleLane_noDeblock ..) <| laneCause_noDeblock ..) (.refl _)

theorem retryExpired_noDeblock (l : Nat) (s : State) : NoNewDeblock s (retryExpired l s) := by
  unfold retryExpired
  exact .ite (setLane_noDeblock ..) (.refl _)

theorem rxwaitExpired_noDeblock (l : Nat) (s : State) : NoNewDeblock s (rxwaitExpired l s) := by
  unfold rxwaitExpired
  exact .ite (.comp (idleLane_noDeblock ..) <| of_within (State.setLn_within ..) rfl) (.refl _)

theorem laneRetrain_noDeblock (l : Nat) (s : State) : NoNewDeblock s (laneRetrain l s) := by
  unfold laneRetrain
  exact .ite (of_within (State.setLn_within ..) rfl)
    (.ite (.comp (idleLane_noDeblock ..) <| of_within (State.setLn_within ..) rfl) (.refl _))

theorem hopFails_noDeblock (l h : Nat) (s : State) : NoNewDeblock s (hopFails l h s) := by
  unfold hopFails
  exact .comp (laneCause_noDeblock ..) <| of_within (setHop_within ..) rfl

theorem trainFail_noDeblock (l : Nat) (s : State) : NoNewDeblock s (trainFail l s) := by
  unfold trainFail
  exact .ite (.after (nextHop_within ..) rfl <| hopFails_noDeblock ..)
    (.after (sendDmreq_within ..) rfl <| of_within (setHop_within ..) rfl)

theorem trainSample_noDeblock (l rt : Nat) (s : State) : NoNewDeblock s (trainSample l rt s) := by
  unfold trainSample
  exact .ite (.after (sendDmreq_within ..) rfl <| of_within (setHop_within ..) rfl)
    (.ite (.after (nextHop_within ..) rfl <| hopFails_noDeblock ..)
      (.after (nextHop_within ..) rfl <| of_within (setHop_within ..) rfl))

theorem serviceSample_noDeblock (l h rt : Nat) (s : State) : NoNewDeblock s (serviceSample l h rt s) := by
  unfold serviceSample
  exact .ite (of_within (setHop_within ..) rfl)
    (.comp (.ite (.comp (laneJudge_noDeblock ..) <| of_within (deliverComp_within ..) rfl) (.refl _)) <|
      .comp (.ite (laneCause_noDeblock ..) (.refl _)) <| of_within (setHop_within ..) rfl)

theorem dmrspReceived_noDeblock (l : Nat) (hop tlbLo tlbHi ra chk : Byte) (rt : Nat) (s : State) :
    NoNewDeblock s (dmrspReceived l hop tlbLo tlbHi ra chk rt s) := by
  unfold dmrspReceived
  refine .ite (.ite (of_within (sendDmreq_within ..) rfl)
      (.ite (.comp (trainSample_noDeblock ..) <| of_within (setHop_within ..) rfl)
        (.comp (trainFail_noDeblock ..) <| of_within (State.inc_within ..) rfl))) ?_
  split
  · exact .refl _
  · exact .comp (.ite (.refl _)
          (.ite (.comp (serviceSample_noDeblock ..) <| of_within (setHop_within ..) rfl) (of_within (State.inc_within ..) rfl))) <|
      of_within (State.setLn_within ..) rfl

theorem dmrspTimeout_noDeblock (l : Nat) (s : State) : NoNewDeblock s (dmrspTimeout l s) := by
  unfold dmrspTimeout
  refine .ite (.comp (trainFail_noDeblock ..) <| of_within (State.inc_within ..) rfl) ?_
  split
  · exact .refl _
  · exact .after (State.inc_within ..) rfl <| of_within (State.setLn_within ..) rfl

theorem gapExit_noDeblock (l : Nat) (s : State) : NoNewDeblock s (gapExit l s) := by
  unfold gapExit
  exact .ite (.after (State.emit_within ..) rfl <| .after (State.setLn_within ..) rfl <| of_within (State.wr_within ..) rfl)
    (.refl _)

theorem gapCheck_noDeblock (l : Nat) (locked : Bool) (s : State) : NoNewDeblock s (gapCheck l locked s) := by
  unfold gapCheck
  exact .ite (.refl _)
    (.comp (.ite (.refl _)
          (.comp (lockLoss_noDeblock ..) <| .comp (laneCause_noDeblock ..) <| of_within (State.wr_within ..) rfl)) <|
      of_within (State.setLn_within ..) rfl)

theorem laneOff_noDeblock (l : Nat) (s : State) : NoNewDeblock s (laneOff l s) := by
  unfold laneOff
  exact .ite (.refl _) (.after (State.setLn_within ..) rfl <| .after (State.wrs_within ..) rfl <| idleLane_noDeblock ..)

theorem laneNamed_noDeblock (l : Nat) (s : State) : NoNewDeblock s (laneNamed l s) := by
  unfold laneNamed
  exact .comp (setLane_noDeblock ..) <| of_within (State.setLn_within ..) rfl

theorem lanesStop_noDeblock (s : State) : NoNewDeblock s (lanesStop s) := by
  unfold lanesStop
  exact .forAll (fun _ _ => .ite (.refl _) (idleLane_noDeblock ..)) (.refl _)

/-! ### Parcels -/

theorem pqRefuse_noDeblock (n : Nat) (s : State) : NoNewDeblock s (pqRefuse n s) := by
  induction n generalizing s with
  | zero => exact .refl _
  | succ n ih =>
    unfold pqRefuse
    split
    · exact .ite (.comp (ih _) <| .after (pqResult_within ..) rfl <| .other (.refl _)) (.refl _)
    · exact .refl _

theorem pqSubmit_noDeblock (src : Nat) (s : State) : NoNewDeblock s (pqSubmit src s) := by
  unfold pqSubmit
  exact .ite (of_within (State.wr_within ..) rfl)
    (.after (pqSync_within ..) rfl <| .comp (pqRefuse_noDeblock ..) <| .other (.refl _))

theorem pqPop_noDeblock (s : State) : NoNewDeblock s (pqPop s) := by
  unfold pqPop
  exact .after (pqSync_within ..) rfl <| .comp (pqRefuse_noDeblock ..) <| .other (.refl _)

theorem enumResult_noDeblock (l result reg data : Nat) (s : State) : NoNewDeblock s (enumResult l result reg data s) := by
  unfold enumResult
  split
  · exact .refl _
  · exact .ite (of_within (enumFail_within ..) rfl)
      (.comp (.ite (.refl _)
            (.ite (.ite (of_within (enumFail_within ..) rfl)
                (.ite (of_within (State.setLn_within ..) rfl) (of_within (State.setLn_within ..) rfl)))
              (.ite (of_within (State.setLn_within ..) rfl) (of_within (enumDone_within ..) rfl)))) <|
        of_within (State.setLn_within ..) rfl)

theorem txEnd_noDeblock (l result data err : Nat) (s : State) : NoNewDeblock s (txEnd l result data err s) := by
  unfold txEnd
  split
  · exact .refl _
  next t _ =>
    dsimp only
    have freed : NoNewDeblock s ((s.setLn l fun x => { x with tx := none }).wr (F.CL_FSTS_PBUSY l) 0) :=
      .after (State.wr_within ..) rfl <| of_within (State.setLn_within ..) rfl
    generalize (s.setLn l fun x => { x with tx := none }).wr (F.CL_FSTS_PBUSY l) 0 = y at freed ⊢
    have counted : NoNewDeblock s (if result = 2 || result = 3 then y.inc (F.CL_ERR5_PTMO l) else y) :=
      .ite (.after (State.inc_within ..) rfl freed) freed
    generalize (if result = 2 || result = 3 then y.inc (F.CL_ERR5_PTMO l) else y) = z at counted ⊢
    split
    · exact counted
    · exact .comp (enumResult_noDeblock ..) counted
    · exact .ite (.after (State.inc_within ..) rfl counted) counted
    · exact .ite (.after (pqSync_within ..) rfl <| .other counted) (.after (pqResult_within ..) rfl counted)

theorem parcelReply_noDeblock (l : Nat) (field : List Byte) (s : State) : NoNewDeblock s (parcelReply l field s) := by
  unfold parcelReply
  split
  · exact .refl _
  · exact .ite (.refl _)
      (.ite (txEnd_noDeblock ..) (.ite (txEnd_noDeblock ..) (.ite (of_within (State.setLn_within ..) rfl) (.refl _))))

theorem retryExhausted_noDeblock (l : Nat) (s : State) : NoNewDeblock s (retryExhausted l s) := by
  unfold retryExhausted
  split
  · exact .ite (txEnd_noDeblock ..) (.refl _)
  · exact .refl _

theorem busyTimeout_noDeblock (l : Nat) (s : State) : NoNewDeblock s (busyTimeout l s) := by
  unfold busyTimeout
  split
  · split
    · exact .ite (txEnd_noDeblock ..) (.refl _)
    · exact .refl _
  · exact .refl _

theorem measureDone_noDeblock (l : Nat) (s : State) : NoNewDeblock s (measureDone l s) := by
  unfold measureDone
  exact .ite (.comp (.ite (.refl _) (of_within (enumStart_within ..) rfl)) <| .comp (setLane_noDeblock ..) <|
      .after (State.setLn_within ..) rfl <| of_within (computeComps_within ..) rfl) (.refl _)

/-! ### Engines -/

theorem dropRaise_noDeblock (n : Nat) (s : State) : NoNewDeblock s (dropRaise n s) := by
  unfold dropRaise
  exact .comp (raise_noDeblock ..) <| of_within (State.wr_within ..) rfl

theorem observeArm_noDeblock (n : Nat) (s : State) : NoNewDeblock s (observeArm n s) := by
  unfold observeArm
  exact .comp (.ite (dropRaise_noDeblock ..) (unraise_noDeblock ..)) <|
    .comp (.ite (of_within (State.wr_within ..) rfl) (.refl _)) <| .comp (.ite (of_within (State.wr_within ..) rfl) (.refl _)) <|
    of_within (State.mapCells_within ..) rfl

theorem popJudge_noDeblock (n : Nat) (s : State) : NoNewDeblock s (popJudge n s) := by
  unfold popJudge
  exact .comp (condition_noDeblock ..) <| .ite (of_within (State.wr_within ..) rfl) (.refl _)

theorem promote_noDeblock (n : Nat) (s : State) : NoNewDeblock s (promote n s) := by
  unfold promote
  refine .ite (.refl _) ?_
  refine .ite (of_within (State.setArm_within ..) rfl) ?_
  split
  · exact .after (State.setArm_within ..) rfl <| .after (State.wr_within ..) rfl <| of_within (State.setCell_within ..) rfl
  · exact .ite (.refl _)
      (.comp (dropRaise_noDeblock ..) <| .after (State.setArm_within ..) rfl <| of_within (State.wr_within ..) rfl)

theorem ranking_noDeblock (n : Nat) (s : State) : NoNewDeblock s (ranking n s) := by
  unfold ranking
  exact .ite (.refl _)
    (.comp (promote_noDeblock ..) <| .after (cellCount_within ..) rfl <| .comp (popJudge_noDeblock ..) <|
      .after (aggWrite_within ..) rfl <| .after (sigmaDecide_within ..) rfl <| .after (rankArm_within ..) rfl <|
      .after (State.setArm_within ..) rfl <| .after (rerankStats_within ..) rfl <| .after (sigmaTwin_within ..) rfl <|
      .comp (observeArm_noDeblock ..) <| of_within (State.mapCells_within ..) rfl)

theorem engineFault_noDeblock (e cause : Nat) (s : State) : NoNewDeblock s (engineFault e cause s) := by
  unfold engineFault
  refine .ite (.refl _) ?_
  split
  · exact .after (State.inc_within ..) rfl <| of_within (State.wr_within ..) rfl
  · exact .comp (raiseInCycle_noDeblock ..) <| .after (State.setArm_within ..) rfl <| .after (State.wr_within ..) rfl <|
      of_within (State.wr_within ..) rfl

/-! ### The Tally -/

theorem lifeWarn_noDeblock (g life id : Nat) (s : State) : NoNewDeblock s (lifeWarn g life id s) := by
  unfold lifeWarn
  exact .comp (.ite (.comp (raiseEach_noDeblock ..) <| of_within (tallyEvent_within ..) rfl)
        (.ite (.refl _) (unraise_noDeblock ..))) <| of_within (State.setCell_within ..) rfl

theorem foldCell_noDeblock (c : CellSt) (s : State) : NoNewDeblock s (foldCell c s) := by
  unfold foldCell
  exact .comp (lifeWarn_noDeblock ..) <| .other <| .after (State.setCell_within ..) rfl <| of_within (recPut_within ..) rfl

theorem tallyFold_noDeblock (s : State) : NoNewDeblock s (tallyFold s) := by
  unfold tallyFold
  exact .comp (.ite (of_within (State.carry_within ..) rfl) (.refl _)) <| .forAll (fun _ _ => foldCell_noDeblock ..) (.refl _)

theorem missedJudge_noDeblock (s : State) : NoNewDeblock s (missedJudge s) := by
  unfold missedJudge
  exact .comp (readyJudge_noDeblock ..) <| of_within (State.putBit_within ..) rfl

theorem lifeApply_noDeblock (s : State) : NoNewDeblock s (lifeApply s) := by
  unfold lifeApply
  exact .ite (.refl _)
    (.other <|
      .comp (.ite (.comp (missedJudge_noDeblock ..) <| .other <| .ite (of_within (State.mapCells_within ..) rfl) (.refl _))
          (of_within (State.mapCells_within ..) rfl)) <| of_within (State.wr_within ..) rfl)

theorem archive_noDeblock (former : Nat) (r : List Byte) (s : State) : NoNewDeblock s (archive former r s) := by
  unfold archive
  exact .comp (.ite (of_within (State.wr_within ..) rfl)
        (.ite (.refl _) (.comp (raise_noDeblock ..) <| of_within (State.wr_within ..) rfl))) <| .other (.refl _)

theorem identityCheck_noDeblock (s : State) : NoNewDeblock s (identityCheck s) := by
  unfold identityCheck
  exact .after (State.mapCells_within ..) rfl <|
    .forAll (fun _ _ => .after (tallyEvent_within ..) rfl <| .comp (archive_noDeblock ..) <| of_within (State.inc_within ..) rfl) <|
    .foldlFst (fun _ _ => of_within (identityOne_within ..) rfl) <| .after (State.wrs_within ..) rfl <|
    .forAll (fun _ _ => foldCell_noDeblock ..) (.refl _)

theorem ckptStart_noDeblock (s : State) : NoNewDeblock s (ckptStart s) := by
  unfold ckptStart
  exact .ite (.refl _) (.other <| .after (State.wr_within ..) rfl <| .after (State.wr_within ..) rfl <| tallyFold_noDeblock ..)

theorem postpone_noDeblock (f : Fld) (s : State) : NoNewDeblock s (postpone f s) := by
  unfold postpone
  exact .comp (raise_noDeblock ..) <| .after (State.inc_within ..) rfl <| of_within (State.inc_within ..) rfl

theorem ckptDue_noDeblock (s : State) : NoNewDeblock s (ckptDue s) := by
  unfold ckptDue
  exact .ite (.comp (postpone_noDeblock ..) <| .other (.refl _)) (ckptStart_noDeblock ..)

theorem ckptDone_noDeblock (ok : Bool) (s : State) : NoNewDeblock s (ckptDone ok s) := by
  unfold ckptDone
  split
  · exact .refl _
  · exact .comp (.ite (.comp (unraise_noDeblock ..) <| .comp (unraise_noDeblock ..) <| .after (State.wr64_within ..) rfl <|
            .after (State.wr_within ..) rfl <| .other (.refl _))
          (.comp (raiseEach_noDeblock ..) <| .after (State.inc_within ..) rfl <| .other <| of_within (ckptLose_within ..) rfl)) <|
      .after (State.event_within ..) rfl <| .after (State.wr_within ..) rfl <| of_within (State.wr_within ..) rfl

theorem tallyLoad_noDeblock (s : State) : NoNewDeblock s (tallyLoad s) := by
  unfold tallyLoad
  exact .ite (.refl _)
    (.comp (.ite (.comp (raise_noDeblock ..) <| of_within (State.wr_within ..) rfl)
          (.after (State.wr64_within ..) rfl <| of_within (State.wr_within ..) rfl)) <| .after (loadLive_within ..) rfl <|
      .after (State.wr_within ..) rfl <| .after (State.mapCells_within ..) rfl <| .other (.refl _))

theorem cellarEcc_noDeblock (addr : Nat) (s : State) : NoNewDeblock s (cellarEcc addr s) := by
  unfold cellarEcc
  exact .comp (.ite (raiseInCycle_noDeblock ..)
        (.ite (.comp (raiseInCycle_noDeblock ..) <| .ite (of_within (tallyReload_within ..) rfl) (.refl _))
          (.ite (raiseInCycle_noDeblock ..) (raiseInCycle_noDeblock ..)))) <| .after (State.wr64_within ..) rfl <|
    .after (State.inc_within ..) rfl <| .other (.refl _)

theorem scrubDone_noDeblock (corrected : Nat) (s : State) : NoNewDeblock s (scrubDone corrected s) := by
  unfold scrubDone
  exact .comp (condition_noDeblock ..) <| .comp (unraise_noDeblock ..) <| .after (State.inc_within ..) rfl <|
    .after (State.wr_within ..) rfl <| of_within (State.inc_within ..) rfl

/-! ### The Ledger -/

theorem extractStart_noDeblock (s : State) : NoNewDeblock s (extractStart s) := by
  unfold extractStart
  exact .ite (.refl _)
    (.ite (.comp (postpone_noDeblock ..) <| .other (.refl _)) (.after (State.wrs_within ..) rfl <| .other (.refl _)))

theorem ledgerFreeze_noDeblock (s : State) : NoNewDeblock s (ledgerFreeze s) := by
  unfold ledgerFreeze
  exact .ite (.comp (.ite (extractStart_noDeblock ..) (.refl _)) <| .comp (raise_noDeblock ..) <|
      .after (ledgerState_within ..) rfl <| of_within (State.wrs_within ..) rfl) (.refl _)

theorem ledgerThaw_noDeblock (next : Nat) (s : State) : NoNewDeblock s (ledgerThaw next s) := by
  unfold ledgerThaw
  exact .after (ledgerState_within ..) rfl <| .other <| .comp (.ite (of_within (ledgerSize_within ..) rfl) (.refl _)) <|
    .comp (unraise_noDeblock ..) <| of_within (State.wr_within ..) rfl

theorem ledgerRelease_noDeblock (s : State) : NoNewDeblock s (ledgerRelease s) := by
  unfold ledgerRelease
  exact .ite (.refl _) (.ite (of_within (State.wr_within ..) rfl) (ledgerThaw_noDeblock ..))

theorem ledgerOff_noDeblock (s : State) : NoNewDeblock s (ledgerOff s) := by
  unfold ledgerOff
  exact .ite (.refl _) (.ite (ledgerThaw_noDeblock ..) (of_within (ledgerState_within ..) rfl))

theorem ledgerConfig_noDeblock (m : Master) (w : Nat) (s : State) : NoNewDeblock s (ledgerConfig m w s) := by
  unfold ledgerConfig
  exact .comp (ledgerOff_noDeblock ..) <| of_within (regWrite_within ..) rfl

theorem extractDone_noDeblock (ok : Bool) (s : State) : NoNewDeblock s (extractDone ok s) := by
  unfold extractDone
  exact .ite (.refl _)
    (.comp (.ite (.comp (unraise_noDeblock ..) <| .after (State.wrs_within ..) rfl <| .other (.refl _))
          (.comp (raiseEach_noDeblock ..) <| of_within (State.wr_within ..) rfl)) <| .after (State.event_within ..) rfl <|
      of_within (State.wrs_within ..) rfl)

/-! ### The control graph -/

theorem coreJudge_noDeblock (c : Nat) (ecc : Bool) (s : State) : NoNewDeblock s (coreJudge c ecc s) := by
  unfold coreJudge
  exact .ite (.refl _) (unraise_noDeblock ..)

theorem graphInit_noDeblock (s : State) : NoNewDeblock s (graphInit s) := by
  unfold graphInit
  exact .after (productsUpdate_within ..) rfl <|
    .forAll (fun _ _ => .comp (coreJudge_noDeblock ..) <| of_within (State.wrs_within ..) rfl) <|
    .after (State.wrs_within ..) rfl <| .other (.refl _)

theorem graphInitDue_noDeblock (s : State) : NoNewDeblock s (graphInitDue s) := by
  unfold graphInitDue
  split
  · exact .ite (graphInit_noDeblock ..) (.refl _)
  · exact .refl _

theorem lateRun_noDeblock (last : Nat) (s : State) : NoNewDeblock s (lateRun last s) := by
  unfold lateRun
  exact .comp (.ite (.comp (raise_noDeblock ..) <| .after (State.wr_within ..) rfl <| .other (.refl _)) (.refl _)) <|
    of_within (State.wrs_within ..) rfl

theorem runComplete_noDeblock (t : Nat) (s : State) : NoNewDeblock s (runComplete t s) := by
  unfold runComplete
  split
  · exact .refl _
  · exact .ite (.refl _)
      (.after (State.event_within ..) rfl <| .forAll (fun _ _ => coreJudge_noDeblock ..) <|
        .comp (.ite (lateRun_noDeblock ..)
            (.comp (.ite (.refl _)
                  (.after (traceRecord_within ..) rfl <| .after (State.wr_within ..) rfl <| of_within (outputs_within ..) rfl)) <|
              .other <| of_within (State.wrs_within ..) rfl)) <| .after (State.wrs_within ..) rfl <|
        .forAll (fun _ _ => of_within (State.inc_within ..) rfl) <| .other (.refl _))

theorem graphStall_noDeblock (c : Nat) (s : State) : NoNewDeblock s (graphStall c s) := by
  unfold graphStall
  split
  · exact .refl _
  · exact .ite (.comp (raise_noDeblock ..) <| .after (State.wrs_within ..) rfl <| .other (.refl _)) (.refl _)

theorem coreEcc_noDeblock (c : Nat) (corrected : Bool) (kind index : Nat) (s : State) :
    NoNewDeblock s (coreEcc c corrected kind index s) := by
  unfold coreEcc
  refine .ite (.after (State.wr_within ..) rfl <| of_within (State.inc_within ..) rfl) ?_
  refine .comp (raise_noDeblock ..) ?_
  split
  · exact .other <| of_within (State.wr_within ..) rfl
  · exact of_within (State.wr_within ..) rfl

/-! ### Frames of the uplink -/

theorem obeyJudge_noDeblock (s : State) : NoNewDeblock s (obeyJudge s) := by
  unfold obeyJudge
  exact .ite (raise_noDeblock ..) (unraise_noDeblock ..)

theorem obeysOther_noDeblock (s : State) : NoNewDeblock s (obeysOther s) := by
  unfold obeysOther
  exact .comp (obeyJudge_noDeblock ..) <| .after (State.wr_within ..) rfl <| .other (.refl _)

theorem slotTaken_noDeblock (l : Nat) (c : CellSt) (w entry : Nat) (s : State) : NoNewDeblock s (slotTaken l c w entry s) := by
  unfold slotTaken
  exact .comp (.ite (obeysOther_noDeblock ..) (.refl _)) <| .comp (.ite (.refl _) (of_within (State.inc_within ..) rfl)) <|
    .after (State.setArm_within ..) rfl <| of_within (State.setCell_within ..) rfl

theorem slotJudge_noDeblock (l start : Nat) (bytes : List Byte) (h : Nat) (s : State) :
    NoNewDeblock s (slotJudge l start bytes h s) := by
  unfold slotJudge
  split
  · exact of_within (State.inc_within ..) rfl
  · exact .ite (.refl _)
      (.ite (.after (State.inc_within ..) rfl <| of_within (State.setCell_within ..) rfl)
        (.ite (of_within (State.inc_within ..) rfl) (slotTaken_noDeblock ..)))

theorem uplink_noDeblock (l start : Nat) (bytes : List Byte) (cv disp : Nat) (s : State) :
    NoNewDeblock s (uplink l start bytes cv disp s) := by
  unfold uplink
  exact .ite (.refl _)
    (.comp (.ite (of_within (State.inc_within ..) rfl)
          (.comp (ringBreak_noDeblock ..) <| .after (State.setLn_within ..) rfl <|
            .comp (.ite (parcelReply_noDeblock ..) (of_within (State.inc_within ..) rfl)) <|
            .forAll (fun _ _ => slotJudge_noDeblock ..) <| of_within (State.wrs_within ..) rfl)) <|
      of_within (codeGroups_within ..) rfl)

/-! ### Levels, PLREQ and replicas -/

theorem twinFigures_noDeblock (s : State) : NoNewDeblock s (twinFigures s) := by
  unfold twinFigures
  exact .comp (readyJudge_noDeblock ..) <| .comp (condition_noDeblock ..) <| .after (State.putBit_within ..) rfl <|
    .after (State.putBit_within ..) rfl <| of_within (State.wrs_within ..) rfl

theorem levelFigures_noDeblock (s : State) : NoNewDeblock s (levelFigures s) := by
  unfold levelFigures
  exact .comp (twinFigures_noDeblock ..) <| .after (State.wrs_within ..) rfl <|
    .forAll (fun _ _ => of_within (State.wrs_within ..) rfl) (.refl _)

theorem acceptJudge_noDeblock (s : State) : NoNewDeblock s (acceptJudge s) := by
  unfold acceptJudge
  exact .comp (.ite (.refl _) (of_within (State.wr_within ..) rfl)) <| .comp (levelFigures_noDeblock ..) <|
    of_within (State.wr_within ..) rfl

theorem acceptWrite_noDeblock (m : Master) (addr w : Nat) (s : State) : NoNewDeblock s (acceptWrite m addr w s) := by
  unfold acceptWrite
  exact .comp (.ite (.refl _) (acceptJudge_noDeblock ..)) <| of_within (regWrite_within ..) rfl

theorem plGo_noDeblock (s : State) : NoNewDeblock s (plGo s) := by
  unfold plGo
  exact .ite (of_within (plStep_within ..) rfl)
    (.after (plStep_within ..) rfl <| .comp (levelFigures_noDeblock ..) <| of_within (State.wr_within ..) rfl)

theorem plStart_noDeblock (p q : Nat) (returning : Bool) (s : State) : NoNewDeblock s (plStart p q returning s) := by
  unfold plStart
  exact .comp (.ite (of_within (plStep_within ..) rfl) (plGo_noDeblock ..)) <| .after (State.wr_within ..) rfl <| .other (.refl _)

theorem plRequest_noDeblock (q key : Nat) (s : State) : NoNewDeblock s (plRequest q key s) := by
  unfold plRequest
  exact .comp (.ite (plStart_noDeblock ..) (.refl _)) <| of_within (State.wr_within ..) rfl

theorem plFail_noDeblock (s : State) : NoNewDeblock s (plFail s) := by
  unfold plFail
  exact .ite (.after (plStep_within ..) rfl <| .other <| .after (State.wr_within ..) rfl <|
      .ite (of_within (State.wr_within ..) rfl) (.refl _))
    (.comp (plStart_noDeblock ..) <| .after (State.inc_within ..) rfl <| of_within (State.wr_within ..) rfl)

theorem plDone_noDeblock (s : State) : NoNewDeblock s (plDone s) := by
  unfold plDone
  exact .comp (unraise_noDeblock ..) <| .after (plStep_within ..) rfl <|
    .comp (.ite (.refl _) (of_within (State.inc_within ..) rfl)) <| .other <| of_within (State.wr_within ..) rfl

theorem cellarSwitched_noDeblock (s : State) : NoNewDeblock s (cellarSwitched s) := by
  unfold cellarSwitched
  exact .ite (.refl _)
    (.comp (.ite (.after (plVerify_within ..) rfl <| .comp (levelFigures_noDeblock ..) <| of_within (State.wr_within ..) rfl)
          (of_within (plStep_within ..) rfl)) <| .after (State.inc_within ..) rfl <| of_within (State.put_within ..) rfl)

theorem vcoreTimeout_noDeblock (s : State) : NoNewDeblock s (vcoreTimeout s) := by
  unfold vcoreTimeout
  exact .ite (.comp (plFail_noDeblock ..) <| raise_noDeblock ..) (.refl _)

theorem slackResult_noDeblock (worst : Nat) (s : State) : NoNewDeblock s (slackResult worst s) := by
  unfold slackResult
  exact .comp (.ite (.refl _) (.ite (plDone_noDeblock ..) (plFail_noDeblock ..))) <|
    .comp (.ite (unraise_noDeblock ..) (.ite (raiseEach_noDeblock ..) (.refl _))) <| of_within (State.wrs_within ..) rfl

theorem replicaLimit_noDeblock (s : State) : NoNewDeblock s (replicaLimit s) := by
  unfold replicaLimit
  exact .ite (.refl _) (.comp (.ite (plRequest_noDeblock ..) (.refl _)) <| raise_noDeblock ..)

theorem replicas_noDeblock (now idx : Nat) (s : State) : NoNewDeblock s (replicas now idx s) := by
  unfold replicas
  exact .comp (replicaLimit_noDeblock ..) <| .other <| .comp (.ite (of_within (State.wr_within ..) rfl) (unraise_noDeblock ..)) <|
    .comp (.ite (of_within (State.wr_within ..) rfl) (.refl _)) <| of_within (State.wrs_within ..) rfl

/-! ### The LMU -/

theorem fastPath_noDeblock (arms d : Nat) (s : State) : NoNewDeblock s (fastPath arms d s) := by
  unfold fastPath
  exact .comp (raise_noDeblock ..) <| .comp (.ite (blockAll_noDeblock ..) (supersede_noDeblock ..)) <|
    .comp (urgentBlock_noDeblock ..) <| .after (State.inc_within ..) rfl <| of_within (State.wr_within ..) rfl

theorem trip_noDeblock (d t : Nat) (s : State) : NoNewDeblock s (trip d t s) := by
  unfold trip
  exact .comp (.ite (fastPath_noDeblock ..) (.refl _)) <| .comp (.ite (of_within (ledgerFire_within ..) rfl) (.refl _)) <|
    .after (State.wr64_within ..) rfl <| .after (State.inc_within ..) rfl <| of_within (State.wrs_within ..) rfl

theorem compare_noDeblock (d : Nat) (code : Int) (t : Nat) (s : State) : NoNewDeblock s (compare d code t s) := by
  unfold compare
  exact .comp (.ite (trip_noDeblock ..) (.refl _)) <|
    .comp (.ite (.comp (unraise_noDeblock ..) <| of_within (State.wr_within ..) rfl) (.refl _)) <| .other (.refl _)

theorem fastFault_noDeblock (s : State) : NoNewDeblock s (fastFault s) := by
  unfold fastFault
  exact .comp (blockAll_noDeblock ..) <| .forAll (fun _ _ => fastPath_noDeblock ..) <| raise_noDeblock ..

theorem channelTake_noDeblock (d e : Nat) (code : Int) (sat : Bool) (t : Nat) (s : State) :
    NoNewDeblock s (channelTake d e code sat t s) := by
  unfold channelTake
  exact .comp (compare_noDeblock ..) <| .comp (.ite (unraise_noDeblock ..) (.refl _)) <| .other <|
    .after (State.wr64_within ..) rfl <| of_within (State.wrs_within ..) rfl

theorem result_noDeblock (e : Nat) (code : Int) (t raw : Nat) (s : State) : NoNewDeblock s (result e code t raw s) := by
  unfold result
  exact .forAll (fun _ _ => of_within (meterTake_within ..) rfl) <| .comp (.ite (channelTake_noDeblock ..) (.refl _)) <|
    .after (State.wrs_within ..) rfl <| of_within (State.setDecimator_within ..) rfl

theorem conversion_noDeblock (e : Nat) (code : Int) (age : Nat) (s : State) : NoNewDeblock s (conversion e code age s) := by
  unfold conversion
  exact .comp (.ite (.comp (.ite (result_noDeblock ..) (.refl _)) <| of_within (State.setDecimator_within ..) rfl)
        (.comp (result_noDeblock ..) <| of_within (State.setDecimator_within ..) rfl)) <|
    .ite (of_within (entryDone_within ..) rfl) (.refl _)

theorem scommit_noDeblock (s : State) : NoNewDeblock s (scommit s) := by
  unfold scommit
  exact .ite (of_within (State.wr_within ..) rfl)
    (.ite (.comp (raise_noDeblock ..) <| of_within (State.wr_within ..) rfl)
      (.after (convIdle_within ..) rfl <| .after (convIdle_within ..) rfl <|
        .forAll (fun _ _ => of_within (seqApply_within ..) rfl) <| .after (State.wrs_within ..) rfl <|
        .foldl (fun _ _ => of_within (State.capture_within ..) rfl) (.refl _)))

theorem triggerDrop_noDeblock (f : Fld) (s : State) : NoNewDeblock s (triggerDrop f s) := by
  unfold triggerDrop
  exact .comp (raise_noDeblock ..) <| of_within (State.inc_within ..) rfl

theorem lmuTrigger_noDeblock (c : Nat) (s : State) : NoNewDeblock s (lmuTrigger c s) := by
  unfold lmuTrigger
  refine .ite (.refl _) ?_
  refine .ite (triggerDrop_noDeblock ..) ?_
  refine .ite (of_within (State.inc_within ..) rfl) ?_
  refine .ite (of_within (passStart_within ..) rfl) ?_
  split
  · exact triggerDrop_noDeblock ..
  · exact of_within (passRestart_within ..) rfl
  · exact .ite (triggerDrop_noDeblock ..) (of_within (State.wr_within ..) rfl)

theorem swTrigger_noDeblock (c : Nat) (s : State) : NoNewDeblock s (swTrigger c s) := by
  unfold swTrigger
  exact .ite (lmuTrigger_noDeblock ..) (.refl _)

theorem passEnd_noDeblock (c : Nat) (s : State) : NoNewDeblock s (passEnd c s) := by
  unfold passEnd
  exact .ite (.refl _)
    (.comp (.ite (lmuTrigger_noDeblock ..) (.refl _)) <|
      .comp (.ite (.after (passStart_within ..) rfl <| of_within (State.wr_within ..) rfl)
          (.ite (of_within (passStart_within ..) rfl) (of_within (convIdle_within ..) rfl))) <| .comp (unraise_noDeblock ..) <|
      of_within (State.wr_within ..) rfl)

theorem channelStale_noDeblock (d : Nat) (s : State) : NoNewDeblock s (channelStale d s) := by
  unfold channelStale
  exact .ite (.comp (raise_noDeblock ..) <| .after (State.wr_within ..) rfl <| .other (.refl _)) (.refl _)

theorem calDone_noDeblock (l : List (BitVec 16)) (s : State) : NoNewDeblock s (calDone l s) := by
  unfold calDone
  exact .ite (.refl _)
    (.after (convIdle_within ..) rfl <| .after (convIdle_within ..) rfl <|
      .forAll (fun _ _ => .ite (of_within (State.setDecimator_within ..) rfl) (of_within (State.setDecimator_within ..) rfl)) <|
      .comp (.ite (.comp (unraise_noDeblock ..) <| .after (State.put_within ..) rfl <| .after (State.wr_within ..) rfl <|
            .forAll (fun _ _ => of_within (State.wrs_within ..) rfl) (.refl _))
          (.comp (raise_noDeblock ..) <| of_within (State.wrs_within ..) rfl)) <| of_within (State.wrs_within ..) rfl)

theorem refFault_noDeblock (on : Bool) (s : State) : NoNewDeblock s (refFault on s) := by
  unfold refFault
  exact .comp (condition_noDeblock ..) <| of_within (State.put_within ..) rfl

/-! ### The Waybill queue -/

theorem wbFull_noDeblock (s : State) : NoNewDeblock s (wbFull s) := by
  unfold wbFull
  exact .comp (raise_noDeblock ..) <| .after (State.inc_within ..) rfl <| of_within (State.wr_within ..) rfl

theorem wbComplete_noDeblock (e : WbEntry) (late dropped : Bool) (s : State) : NoNewDeblock s (wbComplete e late dropped s) := by
  unfold wbComplete
  exact .ite (.refl _)
    (.ite (.comp (raise_noDeblock ..) <| of_within (State.wr_within ..) rfl)
      (.after (State.event_within ..) rfl <| .after (wbSync_within ..) rfl <| .other (.refl _)))

/-! ### The Relay link -/

theorem standbyJudge_noDeblock (s : State) : NoNewDeblock s (standbyJudge s) := by
  unfold standbyJudge
  exact .comp (readyJudge_noDeblock ..) <| .after (State.putBit_within ..) rfl <| .after (State.putBit_within ..) rfl <|
    .after (State.putBit_within ..) rfl <| of_within (State.putBit_within ..) rfl

theorem setLanes_noDeblock (mask : Nat) (s : State) : NoNewDeblock s (setLanes mask s) := by
  unfold setLanes
  exact .comp (.ite (unraise_noDeblock ..) (.refl _)) <| .comp (twinFigures_noDeblock ..) <| of_within (State.wr_within ..) rfl

theorem relayStart_noDeblock (s : State) : NoNewDeblock s (relayStart s) := by
  unfold relayStart
  exact .ite (.refl _)
    (.comp (standbyJudge_noDeblock ..) <| .after (unsync_within ..) rfl <| .after (State.emit_within ..) rfl <|
      .after (linkState_within ..) rfl <| .other (.refl _))

theorem relayOff_noDeblock (s : State) : NoNewDeblock s (relayOff s) := by
  unfold relayOff
  exact .ite (.refl _)
    (.comp (standbyJudge_noDeblock ..) <| .after (unsync_within ..) rfl <| .comp (setLanes_noDeblock ..) <|
      .after (State.wr_within ..) rfl <| of_within (linkState_within ..) rfl)

theorem linkLost_noDeblock (s : State) : NoNewDeblock s (linkLost s) := by
  unfold linkLost
  exact .ite (.comp (standbyJudge_noDeblock ..) <| .comp (raise_noDeblock ..) <| .after (State.wrs_within ..) rfl <|
      .after (linkState_within ..) rfl <| .other (.refl _)) (.refl _)

theorem alignAtUp_noDeblock (s : State) : NoNewDeblock s (alignAtUp s) := by
  unfold alignAtUp
  exact .ite (.refl _)
    (.ite (.ite (.refl _) (.comp (raiseEach_noDeblock ..) <| of_within (State.putBit_within ..) rfl))
      (.ite (.other (.refl _)) (.refl _)))

theorem linkUp_noDeblock (lrly : Nat) (s : State) : NoNewDeblock s (linkUp lrly s) := by
  unfold linkUp
  exact .comp (standbyJudge_noDeblock ..) <| .comp (alignAtUp_noDeblock ..) <| .comp (unraise_noDeblock ..) <|
    .comp (unraise_noDeblock ..) <| .after (unsync_within ..) rfl <| .comp (setLanes_noDeblock ..) <|
    .after (linkState_within ..) rfl <| .after (State.wr_within ..) rfl <| .after (State.wr_within ..) rfl <| .other (.refl _)

theorem laneLoss_noDeblock (j : Nat) (s : State) : NoNewDeblock s (laneLoss j s) := by
  unfold laneLoss
  exact .ite (.ite (.comp (linkLost_noDeblock ..) <| raiseEach_noDeblock ..)
      (.comp (raiseEach_noDeblock ..) <| setLanes_noDeblock ..)) (.refl _)

theorem laneRejoin_noDeblock (j : Nat) (s : State) : NoNewDeblock s (laneRejoin j s) := by
  unfold laneRejoin
  exact .ite (.comp (standbyJudge_noDeblock ..) <| setLanes_noDeblock ..) (.refl _)

theorem relayRetrain_noDeblock (s : State) : NoNewDeblock s (relayRetrain s) := by
  unfold relayRetrain
  exact .ite (.comp (relayStart_noDeblock ..) <| relayOff_noDeblock ..) (.refl _)

theorem crcError_noDeblock (s : State) : NoNewDeblock s (crcError s) := by
  unfold crcError
  exact .comp (.ite (raise_noDeblock ..) (.refl _)) <| .after (State.inc_within ..) rfl <| .other (.refl _)

theorem idReceived_noDeblock (mid : Nat) (pref : Bool) (epoch role state image : Nat) (crcs : List Nat) (cyc base : Nat) (tw : Bool)
    (s : State) :
    NoNewDeblock s (idReceived mid pref epoch role state image crcs cyc base tw s) := by
  unfold idReceived
  exact .ite (.refl _)
    (.comp (standbyJudge_noDeblock ..) <| .comp (condition_noDeblock ..) <| .other <| of_within (State.wrs_within ..) rfl)

theorem alignChange_noDeblock (s : State) : NoNewDeblock s (alignChange s) := by
  unfold alignChange
  exact .ite (.comp (readyJudge_noDeblock ..) <| .comp (raise_noDeblock ..) <| of_within (State.putBit_within ..) rfl)
    (.ite (.comp (readyJudge_noDeblock ..) <| .comp (unraise_noDeblock ..) <| of_within (State.putBit_within ..) rfl) (.refl _))

theorem alignCycle_noDeblock (s : State) : NoNewDeblock s (alignCycle s) := by
  unfold alignCycle
  exact .comp (alignChange_noDeblock ..) <| .other (.refl _)

theorem partnerDegraded_noDeblock (on : Bool) (s : State) : NoNewDeblock s (partnerDegraded on s) := by
  unfold partnerDegraded
  exact .comp (condition_noDeblock ..) <| of_within (State.put_within ..) rfl

theorem hbReceived_noDeblock (ok : Bool) (cyc base state role epoch flags : Nat) (nr : Bool) (s : State) :
    NoNewDeblock s (hbReceived ok cyc base state role epoch flags nr s) := by
  unfold hbReceived
  exact .ite (.refl _)
    (.ite (crcError_noDeblock ..)
      (.comp (standbyJudge_noDeblock ..) <| .comp (alignCycle_noDeblock ..) <| .after (standbyEpoch_within ..) rfl <|
        .comp (partnerDegraded_noDeblock ..) <| .other <|
        .comp (.ite (.refl _) (.after (State.event_within ..) rfl <| of_within (State.put_within ..) rfl)) <|
        of_within (State.wrs_within ..) rfl))

/-! ### The SBU -/

theorem sbuRaise_noDeblock (fs : Nat) (s : State) : NoNewDeblock s (sbuRaise fs s) := by
  unfold sbuRaise
  exact .ite (raise_noDeblock ..) (.refl _)

theorem sbuUnraise_noDeblock (fs : Nat) (s : State) : NoNewDeblock s (sbuUnraise fs s) := by
  unfold sbuUnraise
  exact .ite (unraise_noDeblock ..) (.refl _)

theorem sbuCause_noDeblock (b : Nat) (path : Option Nat) (s : State) : NoNewDeblock s (sbuCause b path s) := by
  unfold sbuCause
  exact .comp (sbuRaise_noDeblock ..) <| .after (openPaths_within ..) rfl <| .other (.refl _)

theorem readbackFault_noDeblock (k : Nat) (open_ : Bool) (s : State) : NoNewDeblock s (readbackFault k open_ s) := by
  unfold readbackFault
  exact .ite (.comp (sbuRaise_noDeblock ..) <| sbuCause_noDeblock ..) (sbuCause_noDeblock ..)

theorem oscFault_noDeblock (s : State) : NoNewDeblock s (oscFault s) := by
  unfold oscFault
  exact sbuCause_noDeblock ..

theorem xchkFault_noDeblock (s : State) : NoNewDeblock s (xchkFault s) := by
  unfold xchkFault
  exact sbuCause_noDeblock ..

theorem vsafeJudge_noDeblock (ok : Bool) (s : State) : NoNewDeblock s (vsafeJudge ok s) := by
  unfold vsafeJudge
  exact .comp (.ite (sbuUnraise_noDeblock ..)
        (.ite (.comp (sbuRaise_noDeblock ..) <| of_within (openPaths_within ..) rfl) (of_within (openPaths_within ..) rfl))) <|
    .other (.refl _)

theorem cfgCheck_noDeblock (sec : List Byte) (crc : Nat) (s : State) : NoNewDeblock s (cfgCheck sec crc s) := by
  unfold cfgCheck
  exact .ite (.refl _) (sbuCause_noDeblock ..)

theorem sbuHandover_noDeblock (sec : List Byte) (crc : Nat) (s : State) : NoNewDeblock s (sbuHandover sec crc s) := by
  unfold sbuHandover
  exact .comp (cfgCheck_noDeblock ..) <| .other (.refl _)

theorem discLatch_noDeblock (p : Nat) (s : State) : NoNewDeblock s (discLatch p s) := by
  unfold discLatch
  exact .ite (.comp (sbuRaise_noDeblock ..) <| .after (openPaths_within ..) rfl <| of_within (State.setPair_within ..) rfl)
    (.refl _)

theorem pairProof_noDeblock (p : Nat) (s : State) : NoNewDeblock s (pairProof p s) := by
  unfold pairProof
  exact .ite (.refl _)
    (.ite (of_within (State.setPair_within ..) rfl)
      (.ite (.comp (.ite (.comp (sbuUnraise_noDeblock ..) <| of_within (State.setPair_within ..) rfl) (.refl _)) <|
          of_within (State.setPair_within ..) rfl) (.refl _)))

theorem pairTick_noDeblock (si p : Nat) (s : State) : NoNewDeblock s (pairTick si p s) := by
  unfold pairTick
  exact .comp (.ite (.refl _)
        (.comp (pairProof_noDeblock ..) <| .comp (discLatch_noDeblock ..) <| .after (State.setPair_within ..) rfl <|
          .after (filterChange_within ..) rfl <| of_within (filterChange_within ..) rfl)) <| of_within (State.setPair_within ..) rfl

theorem sbuTick_noDeblock (si ea eb vsafe rb : Nat) (s : State) : NoNewDeblock s (sbuTick si ea eb vsafe rb s) := by
  unfold sbuTick
  exact .ite (.refl _)
    (.after (driveAll_within ..) rfl <| .comp (vsafeJudge_noDeblock ..) <| .forAll (fun _ _ => pairTick_noDeblock ..) <|
      .forAll (fun _ _ => of_within (State.setPath_within ..) rfl) <| .after (preqTick_within ..) rfl <|
      .comp (.ite (cfgCheck_noDeblock ..) (.refl _)) <| .after (sbuActivate_within ..) rfl <| .other (.refl _))

theorem testEnd_noDeblock (k rb : Nat) (s : State) : NoNewDeblock s (testEnd k rb s) := by
  unfold testEnd
  exact .ite (.refl _)
    (.comp (.ite (of_within (State.setPath_within ..) rfl) (sbuCause_noDeblock ..)) <| of_within (State.setPath_within ..) rfl)

theorem sbuClear_noDeblock (s : State) : NoNewDeblock s (sbuClear s) := by
  unfold sbuClear
  exact .comp (.ite (sbuUnraise_noDeblock ..) (.refl _)) <| .comp (sbuUnraise_noDeblock ..) <| .other (.refl _)

theorem sbuCommand_noDeblock (code key : Nat) (s : State) : NoNewDeblock s (sbuCommand code key s) := by
  unfold sbuCommand
  exact .comp (.ite (of_within (State.wr_within ..) rfl)
        (.ite (of_within (State.wr_within ..) rfl) (.after (State.wr_within ..) rfl <| sbuClear_noDeblock ..))) <|
    .after (State.event_within ..) rfl <| of_within (State.wr_within ..) rfl

theorem statusReceived_noDeblock (s : State) : NoNewDeblock s (statusReceived s) := by
  unfold statusReceived
  exact .ite (of_within (sbuShow_within ..) rfl)
    (.forAll (fun _ _ => raise_noDeblock ..) <| .comp (.ite (raise_noDeblock ..) (.ite (unraise_noDeblock ..) (.refl _))) <|
      .other <| .comp (.ite (.refl _) (of_within (State.event_within ..) rfl)) <| .comp (unraise_noDeblock ..) <|
      of_within (sbuShow_within ..) rfl)

theorem statusLost_noDeblock (s : State) : NoNewDeblock s (statusLost s) := by
  unfold statusLost
  exact .ite (.comp (raise_noDeblock ..) <| .after (State.event_within ..) rfl <| of_within (sbuBlank_within ..) rfl) (.refl _)

/-! ### The timebase -/

theorem ppsLoss_noDeblock (s : State) : NoNewDeblock s (ppsLoss s) := by
  unfold ppsLoss
  exact .after (syncJudge_within ..) rfl <| .comp (.ite (raise_noDeblock ..) (.refl _)) <| .other <|
    .after (State.wr_within ..) rfl <| of_within (State.wr_within ..) rfl

theorem phaseErrorLimit_noDeblock (s : State) : NoNewDeblock s (phaseErrorLimit s) := by
  unfold phaseErrorLimit
  exact .ite (raise_noDeblock ..) (.refl _)

/-! ### The network -/

theorem prpJudge_noDeblock (s : State) : NoNewDeblock s (prpJudge s) := by
  unfold prpJudge
  exact .comp (condition_noDeblock ..) <| .after (State.put_within ..) rfl <| of_within (State.put_within ..) rfl

theorem prpLost_noDeblock (p : Nat) (s : State) : NoNewDeblock s (prpLost p s) := by
  unfold prpLost
  exact .ite (.comp (prpJudge_noDeblock ..) <| of_within (State.setPort_within ..) rfl) (.refl _)

theorem chooseMaster_noDeblock (s : State) : NoNewDeblock s (chooseMaster s) := by
  unfold chooseMaster
  dsimp only
  generalize bestMaster s.masterList = best
  have shown {v : Nat} {f : State → Nat → Nat} : NoNewDeblock s (forAll (List.range 4)
      (fun p y => y.wr (F.NET_P_STS_PTPST p) (f y p)) (s.wr F.NET_PTPSTS_SLAVE v)) :=
    .forAll (fun _ _ => of_within (State.wr_within ..) rfl) <| of_within (State.wr_within ..) rfl
  cases best with
  | none => exact .after (setLock_within ..) rfl <| .ite (.comp (raise_noDeblock ..) shown) shown
  | some b =>
    exact .comp (.ite (.refl _) (.comp (raise_noDeblock ..) <| .after (State.wrs_within ..) rfl <|
        of_within (State.wr64_within ..) rfl)) <| .comp (unraise_noDeblock ..) shown

theorem announce_noDeblock (p domain src : Nat) (log : Int) (rank : List Nat) (steps utc : Nat) (s : State) :
    NoNewDeblock s (announce p domain src log rank steps utc s) := by
  unfold announce
  exact .ite (.refl _)
    (.ite (of_within (ptpIgnore_within ..) rfl) (.comp (chooseMaster_noDeblock ..) <| of_within (State.setPort_within ..) rfl))

theorem announceTimeout_noDeblock (p src : Nat) (s : State) : NoNewDeblock s (announceTimeout p src s) := by
  unfold announceTimeout
  exact .comp (chooseMaster_noDeblock ..) <| of_within (State.setPort_within ..) rfl

theorem ptpReset_noDeblock (s : State) : NoNewDeblock s (ptpReset s) := by
  unfold ptpReset
  exact .comp (chooseMaster_noDeblock ..) <|
    .forAll (fun _ _ => .after (State.wr_within ..) rfl <| of_within (State.setPort_within ..) rfl) (.refl _)

theorem pdFail_noDeblock (p : Nat) (s : State) : NoNewDeblock s (pdFail p s) := by
  unfold pdFail
  exact .comp (chooseMaster_noDeblock ..) <| .comp (raise_noDeblock ..) <| .after (State.wrs_within ..) rfl <|
    of_within (State.setPort_within ..) rfl

theorem pdelaySend_noDeblock (p : Nat) (s : State) : NoNewDeblock s (pdelaySend p s) := by
  unfold pdelaySend
  exact .ite (.refl _)
    (.after (State.emit_within ..) rfl <| .after (State.inc_within ..) rfl <| .after (State.setPort_within ..) rfl <|
      .ite (pdFail_noDeblock ..) (.refl _))

theorem pdelayResponse_noDeblock (p age seq : Nat) (turn corr : Int) (s : State) :
    NoNewDeblock s (pdelayResponse p age seq turn corr s) := by
  unfold pdelayResponse
  dsimp only
  split
  · exact .refl _
  · exact .ite (.refl _)
      (.comp (.ite (.refl _)
            (.comp (chooseMaster_noDeblock ..) <| .after (State.wr_within ..) rfl <| of_within (State.setPort_within ..) rfl)) <|
        .after (State.setPort_within ..) rfl <| .comp (unraise_noDeblock ..) <| of_within (State.wr_within ..) rfl)

theorem ethLink_noDeblock (p : Nat) (up speed : Bool) (s : State) : NoNewDeblock s (ethLink p up speed s) := by
  unfold ethLink
  exact .ite (.refl _)
    (.comp (prpJudge_noDeblock ..) <| .comp (chooseMaster_noDeblock ..) <|
      .comp (.ite (.refl _) (of_within (State.setPort_within ..) rfl)) <| .comp (condition_noDeblock ..) <|
      .after (State.put_within ..) rfl <| of_within (State.put_within ..) rfl)

theorem nrxPut_noDeblock (p flags : Nat) (stamp : Int) (f : List Byte) (s : State) : NoNewDeblock s (nrxPut p flags stamp f s) := by
  unfold nrxPut
  exact .ite (of_within (State.inc_within ..) rfl)
    (.ite (.comp (raise_noDeblock ..) <| of_within (State.inc_within ..) rfl)
      (.after (State.event_within ..) rfl <| .after (State.inc_within ..) rfl <| .after (State.wr_within ..) rfl <|
        of_within (State.emit_within ..) rfl))

theorem police_noDeblock (p bytes : Nat) (s : State) : NoNewDeblock s (police p bytes s).2 := by
  unfold police
  dsimp only
  split
  · exact of_within (State.setPort_within ..) rfl
  · exact .comp (.ite (raise_noDeblock ..) (.refl _)) <| .after (State.inc_within ..) rfl <|
      of_within (State.setPort_within ..) rfl

theorem hostFrame_noDeblock (p flags : Nat) (stamp : Int) (f : List Byte) (s : State) :
    NoNewDeblock s (hostFrame p flags stamp f s) := by
  unfold hostFrame
  exact .ite (.refl _) (.ite (.comp (nrxPut_noDeblock ..) <| police_noDeblock ..) (police_noDeblock ..))

theorem prpReceive_noDeblock (p : Nat) (stamp : Int) (f : List Byte) (s : State) : NoNewDeblock s (prpReceive p stamp f s) := by
  unfold prpReceive
  refine .ite ?_ (hostFrame_noDeblock ..)
  split
  · exact .comp (hostFrame_noDeblock ..) <| .comp (prpJudge_noDeblock ..) <| of_within (State.setPort_within ..) rfl
  · exact .ite (.after (State.inc_within ..) rfl <| .after (prpDuplicate_within ..) rfl <| .comp (prpJudge_noDeblock ..) <|
        of_within (State.setPort_within ..) rfl)
      (.comp (hostFrame_noDeblock ..) <|
        .ite (.after (State.inc_within ..) rfl <| .after (prpDuplicate_within ..) rfl <| .comp (prpJudge_noDeblock ..) <|
            of_within (State.setPort_within ..) rfl)
          (.after (prpDuplicate_within ..) rfl <| .comp (prpJudge_noDeblock ..) <| of_within (State.setPort_within ..) rfl))

theorem ethReceive_noDeblock (p : Nat) (fcs : Bool) (age res : Nat) (f : List Byte) (s : State) :
    NoNewDeblock s (ethReceive p fcs age res f s) := by
  unfold ethReceive
  exact .ite (.refl _)
    (.ite (of_within (State.inc_within ..) rfl)
      (.ite (of_within (State.inc_within ..) rfl)
        (.comp (.ite (prpReceive_noDeblock ..) (of_within (State.inc_within ..) rfl)) <| .after (bridge_within ..) rfl <|
          of_within (State.inc_within ..) rfl)))

theorem svDeliver_noDeblock (i : Nat) (a : Asdu) (sim : Bool) (ta : Int) (s : State) : NoNewDeblock s (svDeliver i a sim ta s) := by
  unfold svDeliver
  exact .comp (.ite (.comp (raise_noDeblock ..) <| of_within (State.wr_within ..) rfl) (.refl _)) <|
    .after (State.wr_within ..) rfl <| .other (.refl _)

theorem svFound_noDeblock (i : Nat) (s : State) : NoNewDeblock s (svFound i s) := by
  unfold svFound
  exact .comp (.ite (unraise_noDeblock ..) (.refl _)) <| .after (State.putBit_within ..) rfl <| of_within (State.wr_within ..) rfl

theorem svSample_noDeblock (i : Nat) (sim : Bool) (ta : Int) (a : Asdu) (s : State) : NoNewDeblock s (svSample i sim ta a s) := by
  unfold svSample
  exact .ite (.refl _)
    (.ite (.comp (.ite (of_within (State.wr_within ..) rfl) (.refl _)) <| .ite (of_within (State.wr_within ..) rfl) (.refl _))
      (.comp (.ite (.comp (raise_noDeblock ..) <| .after (State.inc_within ..) rfl <| of_within (State.wr_within ..) rfl)
            (.refl _)) <| .comp (svFound_noDeblock ..) <| svDeliver_noDeblock ..))

theorem svFrame_noDeblock (p age : Nat) (f : List Byte) (s : State) : NoNewDeblock s (svFrame p age f s) := by
  unfold svFrame
  refine .ite (.refl _) ?_
  refine .ite (of_within (State.inc_within ..) rfl) ?_
  refine .forAll (fun _ _ => ?_) (.refl _)
  split
  · exact svSample_noDeblock ..
  · exact of_within (State.inc_within ..) rfl
  · exact .refl _

theorem svLost_noDeblock (i : Nat) (s : State) : NoNewDeblock s (svLost i s) := by
  unfold svLost
  exact .ite (.comp (raise_noDeblock ..) <| .after (State.putBit_within ..) rfl <| .after (State.wr_within ..) rfl <|
      .other (.refl _)) (.refl _)

theorem fbTake_noDeblock (b : Nat) (s : State) : NoNewDeblock s (fbTake b s) := by
  unfold fbTake
  dsimp only
  refine .ite (.other (.refl _)) ?_
  split
  · exact .comp (wbComplete_noDeblock ..) <| .after (fbRequest_within ..) rfl <| of_within (wbRemove_within ..) rfl
  · exact .refl _

theorem fbLaunch_noDeblock (b : Nat) (s : State) : NoNewDeblock s (fbLaunch b s) := by
  unfold fbLaunch
  dsimp only
  split
  · exact .refl _
  · exact .comp (.ite (of_within (State.wr_within ..) rfl)
          (.comp (.ite (.refl _)
                (.comp (raise_noDeblock ..) <| .forAll (fun _ _ => of_within (State.inc_within ..) rfl) <|
                  of_within (State.wr_within ..) rfl)) <| .after (State.wr64_within ..) rfl <| .after (sendFrame_within ..) rfl <|
            of_within (fbFrame_within ..) rfl)) <| .other (.refl _)

/-! ### The states and `GLB.CMD` -/

theorem setRole_noDeblock (r : Nat) (s : State) : NoNewDeblock s (setRole r s) := by
  unfold setRole
  exact .ite (.refl _)
    (.comp (standbyJudge_noDeblock ..) <| .after (State.event_within ..) rfl <| .after (State.logState_within ..) rfl <|
      of_within (State.wr_within ..) rfl)

theorem resolveDriver_noDeblock (r : Nat) (s : State) : NoNewDeblock s (resolveDriver r s) := by
  unfold resolveDriver
  exact .ite (raise_noDeblock ..) (.comp (setRole_noDeblock ..) <| of_within (State.wr_within ..) rfl)

theorem resolveStandby_noDeblock (s : State) : NoNewDeblock s (resolveStandby s) := by
  unfold resolveStandby
  exact .after (standbyEpoch_within ..) rfl <| setRole_noDeblock ..

theorem roleResolve_noDeblock (s : State) : NoNewDeblock s (roleResolve s) := by
  unfold roleResolve
  exact .ite (.glb id <| of_within (setStep_within ..) rfl)
    (.ite (.ite (.after (State.wr_within ..) rfl <| .comp (raise_noDeblock ..) <| .after (setStep_within ..) rfl <|
          .glb id (.refl _)) (.comp (resolveDriver_noDeblock ..) <| .after (setStep_within ..) rfl <| .glb id (.refl _)))
      (.ite (.ite (.comp (resolveStandby_noDeblock ..) <| .after (setStep_within ..) rfl <| .glb id (.refl _))
          (.ite (.comp (raise_noDeblock ..) <| .after (setStep_within ..) rfl <| .glb id (.refl _))
            (.ite (.comp (resolveDriver_noDeblock ..) <| .after (setStep_within ..) rfl <| .glb id (.refl _))
              (.comp (resolveStandby_noDeblock ..) <| .after (setStep_within ..) rfl <| .glb id (.refl _)))))
        (.ite (.ite (.comp (resolveStandby_noDeblock ..) <| .after (setStep_within ..) rfl <| .glb id (.refl _))
            (.ite (.comp (resolveDriver_noDeblock ..) <| .after (setStep_within ..) rfl <| .glb id (.refl _)) (.glb id (.refl _))))
          (.glb id (.refl _)))))

theorem roleWaitExpiry_noDeblock (s : State) : NoNewDeblock s (roleWaitExpiry s) := by
  unfold roleWaitExpiry
  exact .ite (.refl _)
    (.comp (.ite (resolveStandby_noDeblock ..) (resolveDriver_noDeblock ..)) <| .after (setStep_within ..) rfl <| .glb id (.refl _))

theorem roleGoOn_noDeblock (s : State) : NoNewDeblock s (roleGoOn s) := by
  unfold roleGoOn
  exact .ite (roleResolve_noDeblock ..) (.refl _)

theorem relayTrained_noDeblock (lrly : Nat) (s : State) : NoNewDeblock s (relayTrained lrly s) := by
  unfold relayTrained
  exact .ite (.after (standbyEpoch_within ..) rfl <| .comp (roleGoOn_noDeblock ..) <| linkUp_noDeblock ..) (.refl _)

theorem attemptTimeout_noDeblock (s : State) : NoNewDeblock s (attemptTimeout s) := by
  unfold attemptTimeout
  exact .ite (.refl _)
    (.ite (.after (State.emit_within ..) rfl <| .other (.refl _))
      (.comp (roleGoOn_noDeblock ..) <| .comp (standbyJudge_noDeblock ..) <| .comp (raise_noDeblock ..) <|
        .after (linkState_within ..) rfl <| .other (.refl _)))

theorem linkLane_noDeblock (l : Nat) (s : State) : NoNewDeblock s (linkLane l s) := by
  unfold linkLane
  exact .comp (.ite (idleLane_noDeblock ..) (.ite (of_within (enumStart_within ..) rfl) (.refl _))) <|
    .after (State.setLn_within ..) rfl <| of_within (State.wr_within ..) rfl

theorem linkEnd_noDeblock (s : State) : NoNewDeblock s (linkEnd s) := by
  unfold linkEnd
  exact .comp (.ite (.ite (changeState_noDeblock ..) (.refl _)) (.after (State.wr_within ..) rfl <| .glb id (.refl _))) <|
    .forAll (fun _ _ => .comp (raise_noDeblock ..) <| of_within (State.wr_within ..) rfl) <| .after (setStep_within ..) rfl <|
    .after (State.wr_within ..) rfl <| .forAll (fun _ _ => of_within (cellCount_within ..) rfl) <|
    .after (dlvUpdate_within ..) rfl <| .comp (identityCheck_noDeblock ..) <| of_within (State.mapCells_within ..) rfl

theorem linkJudge_noDeblock (s : State) : NoNewDeblock s (linkJudge s) := by
  unfold linkJudge
  exact .ite (linkEnd_noDeblock ..) (.refl _)

theorem linkStart_noDeblock (s : State) : NoNewDeblock s (linkStart s) := by
  unfold linkStart
  exact .comp (linkJudge_noDeblock ..) <| .forAll (fun _ _ => linkLane_noDeblock ..) <| .after (State.mapCells_within ..) rfl <|
    .glb id <| .after (setStep_within ..) rfl <| of_within (State.wr_within ..) rfl

theorem linkAsk_noDeblock (s : State) : NoNewDeblock s (linkAsk s) := by
  unfold linkAsk
  exact .ite (linkStart_noDeblock ..) (.glb id (.refl _))

theorem chainEnumerated_noDeblock (l : Nat) (s : State) : NoNewDeblock s (chainEnumerated l s) := by
  unfold chainEnumerated
  split
  · exact .ite (.comp (linkJudge_noDeblock ..) <| .after (State.setLn_within ..) rfl <| of_within (State.wr_within ..) rfl)
      (.refl _)
  · exact .refl _

theorem linkTimeout_noDeblock (s : State) : NoNewDeblock s (linkTimeout s) := by
  unfold linkTimeout
  exact .ite (linkEnd_noDeblock ..) (.ite (linkStart_noDeblock ..) (.refl _))

theorem startUp_noDeblock (s : State) : NoNewDeblock s (startUp s) := by
  unfold startUp
  exact .comp (.ite (.other (.refl _)) (.ite (of_within (slackStart_within ..) rfl) (plStart_noDeblock ..))) <| .other <|
    .comp (relayStart_noDeblock ..) <| .after (lmuLoaded_within ..) rfl <| of_within (setStep_within ..) rfl

theorem armCyclesStart_noDeblock (s : State) : NoNewDeblock s (armCyclesStart s) := by
  unfold armCyclesStart
  exact .comp (.ite (linkStart_noDeblock ..) (of_within (setStep_within ..) rfl)) <|
    .forAll (fun _ _ => of_within (State.setArm_within ..) rfl) <| .other <| .other <| .other <| of_within (State.wr_within ..) rfl

theorem armCyclesStop_noDeblock (s : State) : NoNewDeblock s (armCyclesStop s) := by
  unfold armCyclesStop
  exact .comp (relayOff_noDeblock ..) <| .after (wbStop_within ..) rfl <| .after (lmuStop_within ..) rfl <|
    .comp (lanesStop_noDeblock ..) <| .other <| .other <| .other <| .glb nofun <| of_within (State.wrs_within ..) rfl

theorem slackDone_noDeblock (worst : Nat) (s : State) : NoNewDeblock s (slackDone worst s) := by
  unfold slackDone
  exact .ite (.refl _)
    (.comp (.ite (.comp (startUp_noDeblock ..) <| .other (.refl _))
          (.ite (.refl _) (.ite (armCyclesStart_noDeblock ..) (of_within (State.wr_within ..) rfl)))) <| slackResult_noDeblock ..)

theorem lmuCalDone_noDeblock (l : List (BitVec 16)) (s : State) : NoNewDeblock s (lmuCalDone l s) := by
  unfold lmuCalDone
  exact .ite (.refl _) (.comp (.ite (of_within (State.wr_within ..) rfl) (.refl _)) <| calDone_noDeblock ..)

theorem linkAct_noDeblock (s : State) : NoNewDeblock s (linkAct s) := by
  unfold linkAct
  exact .ite (.comp (startUp_noDeblock ..) <| .glb id (.refl _)) (linkAsk_noDeblock ..)

theorem cmdLink_noDeblock (s : State) : NoNewDeblock s (cmdLink s) := by
  unfold cmdLink
  exact .comp (.ite (.after (State.event_within ..) rfl <| .after (State.wr_within ..) rfl <| .comp (linkAct_noDeblock ..) <|
          of_within (State.logCommand_within ..) rfl)
        (.after (State.event_within ..) rfl <| .after (State.logCommand_within ..) rfl <| of_within (State.wrs_within ..) rfl)) <|
    .after (State.count_within ..) rfl <| of_within (State.wr_within ..) rfl

theorem armAct_noDeblock (s : State) : NoNewDeblock s (armAct s) := by
  unfold armAct
  exact changeState_noDeblock ..

theorem cmdArm_noDeblock (key : Nat) (s : State) : NoNewDeblock s (cmdArm key s) := by
  unfold cmdArm
  exact .comp (.ite (.after (State.event_within ..) rfl <| .after (State.wr_within ..) rfl <| .comp (armAct_noDeblock ..) <|
          of_within (State.logCommand_within ..) rfl)
        (.after (State.event_within ..) rfl <| .after (State.logCommand_within ..) rfl <| of_within (State.wrs_within ..) rfl)) <|
    .after (State.count_within ..) rfl <| of_within (State.wr_within ..) rfl

theorem autoArm_noDeblock (s : State) : NoNewDeblock s (autoArm s) := by
  unfold autoArm
  exact .ite (armAct_noDeblock ..) (.refl _)

theorem orderlyStart_noDeblock (s : State) : NoNewDeblock s (orderlyStart s) := by
  unfold orderlyStart
  exact .after (setStep_within ..) rfl <| .glb id (.refl _)

theorem blockHere_noDeblock (orderly : Bool) (s : State) : NoNewDeblock s (blockHere orderly s) := by
  unfold blockHere
  exact .ite (.ite (.refl _) (orderlyStart_noDeblock ..)) (blockAll_noDeblock ..)

theorem blockAct_noDeblock (orderly : Bool) (s : State) : NoNewDeblock s (blockAct orderly s) := by
  unfold blockAct
  exact .ite (of_within (State.relay_within ..) rfl) (blockHere_noDeblock ..)

theorem cmdBlock_noDeblock (arg : Nat) (s : State) : NoNewDeblock s (cmdBlock arg s) := by
  unfold cmdBlock
  exact .comp (.ite (.after (State.event_within ..) rfl <| .after (State.wr_within ..) rfl <| .comp (blockAct_noDeblock ..) <|
          of_within (State.logCommand_within ..) rfl)
        (.after (State.event_within ..) rfl <| .after (State.logCommand_within ..) rfl <| of_within (State.wrs_within ..) rfl)) <|
    .after (State.count_within ..) rfl <| of_within (State.wr_within ..) rfl

theorem opblk_noDeblock (s : State) : NoNewDeblock s (opblk s) := by
  unfold opblk
  exact .ite (.refl _)
    (.ite (of_within (State.wr_within ..) rfl)
      (.comp (.ite (of_within (State.relay_within ..) rfl) (blockHere_noDeblock ..)) <| of_within (State.put_within ..) rfl))

theorem forwardedBlock_noDeblock (op orderly : Bool) (s : State) : NoNewDeblock s (forwardedBlock op orderly s) := by
  unfold forwardedBlock
  exact .ite (.refl _)
    (.ite (.ite (.comp (blockHere_noDeblock ..) <| of_within (State.put_within ..) rfl) (.refl _))
      (.comp (.ite (.after (State.event_within ..) rfl <| .after (State.wr_within ..) rfl <| .comp (blockHere_noDeblock ..) <|
              of_within (State.logCommand_within ..) rfl)
            (.after (State.event_within ..) rfl <| .after (State.logCommand_within ..) rfl <|
              of_within (State.wrs_within ..) rfl)) <| .after (State.count_within ..) rfl <| of_within (State.wr_within ..) rfl))

theorem orderlyTimeout_noDeblock (s : State) : NoNewDeblock s (orderlyTimeout s) := by
  unfold orderlyTimeout
  exact .ite (.after (State.wr_within ..) rfl <| .glb id (.refl _)) (.refl _)

theorem disarmAct_noDeblock (s : State) : NoNewDeblock s (disarmAct s) := by
  unfold disarmAct
  exact .comp (changeState_noDeblock ..) <| supersede_noDeblock ..

theorem cmdDisarm_noDeblock (s : State) : NoNewDeblock s (cmdDisarm s) := by
  unfold cmdDisarm
  exact .comp (.ite (.after (State.event_within ..) rfl <| .after (State.wr_within ..) rfl <| .comp (disarmAct_noDeblock ..) <|
          of_within (State.logCommand_within ..) rfl)
        (.after (State.event_within ..) rfl <| .after (State.logCommand_within ..) rfl <| of_within (State.wrs_within ..) rfl)) <|
    .after (State.count_within ..) rfl <| of_within (State.wr_within ..) rfl

theorem recoverAct_noDeblock (s : State) : NoNewDeblock s (recoverAct s) := by
  unfold recoverAct
  exact .ite (.comp (.ite (linkStart_noDeblock ..) (.refl _)) <| changeState_noDeblock ..)
    (.comp (.ite (.refl _) (startUp_noDeblock ..)) <| changeState_noDeblock ..)

theorem cmdRecover_noDeblock (key : Nat) (s : State) : NoNewDeblock s (cmdRecover key s) := by
  unfold cmdRecover
  exact .comp (.ite (.after (State.event_within ..) rfl <| .after (State.wr_within ..) rfl <| .comp (recoverAct_noDeblock ..) <|
          of_within (State.logCommand_within ..) rfl)
        (.after (State.event_within ..) rfl <| .after (State.logCommand_within ..) rfl <| of_within (State.wrs_within ..) rfl)) <|
    .after (State.count_within ..) rfl <| of_within (State.wr_within ..) rfl

theorem shutEnd_noDeblock (s : State) : NoNewDeblock s (shutEnd s) := by
  unfold shutEnd
  exact .comp (armCyclesStop_noDeblock ..) <|
    .comp (.ite (.refl _) (.ite (of_within (setStep_within ..) rfl) (applyState_noDeblock ..))) <| .other <| .glb id (.refl _)

theorem shutTwo_noDeblock (s : State) : NoNewDeblock s (shutTwo s) := by
  unfold shutTwo
  exact .comp (.ite (.ite (.refl _) (orderlyStart_noDeblock ..)) (.glb id (.refl _))) <| .glb id (.refl _)

theorem shutTail_noDeblock (s : State) : NoNewDeblock s (shutTail s) := by
  unfold shutTail
  exact .comp (.ite (shutEnd_noDeblock ..) (.refl _)) <|
    .comp (.ite (.comp (ckptStart_noDeblock ..) <| .glb id (.refl _)) (.refl _)) <|
    .ite (.comp (permitWithdraw_noDeblock ..) <| .glb id (.refl _)) (.refl _)

theorem shutBegin_noDeblock (scope : Nat) (s : State) : NoNewDeblock s (shutBegin scope s) := by
  unfold shutBegin
  exact .comp (.ite (.refl _) (shutTail_noDeblock ..)) <|
    .comp (.ite (.ite (.after (State.relay_within ..) rfl <| .glb id (.refl _)) (shutTwo_noDeblock ..))
        (.comp (shutTwo_noDeblock ..) <| of_within (State.relay_within ..) rfl)) <| .glb id (.refl _)

theorem cmdShutdown_noDeblock (arg key : Nat) (s : State) : NoNewDeblock s (cmdShutdown arg key s) := by
  unfold cmdShutdown
  exact .comp (.ite (.after (State.event_within ..) rfl <| .after (State.wr_within ..) rfl <|
          .ite (of_within (State.logCommand_within ..) rfl)
            (.comp (shutBegin_noDeblock ..) <| of_within (State.logCommand_within ..) rfl))
        (.after (State.event_within ..) rfl <| .after (State.logCommand_within ..) rfl <| of_within (State.wrs_within ..) rfl)) <|
    .after (State.count_within ..) rfl <| of_within (State.wr_within ..) rfl

theorem partnerShutdown_noDeblock (s : State) : NoNewDeblock s (partnerShutdown s) := by
  unfold partnerShutdown
  exact .ite (.refl _) (.comp (.ite (.refl _) (shutTail_noDeblock ..)) <| .comp (shutTwo_noDeblock ..) <| .glb id (.refl _))

theorem restart20_noDeblock (relink : Bool) (s : State) : NoNewDeblock s (restart20 relink s) := by
  unfold restart20
  exact .comp (startUp_noDeblock ..) <| .glb id <| armCyclesStop_noDeblock ..

theorem enterState_noDeblock (new step : Nat) (s : State) : NoNewDeblock s (enterState new step s) := by
  unfold enterState
  exact .comp (.ite (.glb id (.refl _))
        (.ite (.comp (roleResolve_noDeblock ..) <| permitWithdraw_noDeblock ..)
          (.ite (permitWithdraw_noDeblock ..)
            (.ite (.forAll (fun _ _ => of_within (State.setArm_within ..) rfl) (.refl _)) (.refl _))))) <|
    .comp (standbyJudge_noDeblock ..) <| applyState_noDeblock ..

/-! ### The twin -/

theorem rehEnd_noDeblock (result : Nat) (failed : List Nat) (s : State) : NoNewDeblock s (rehEnd result failed s) := by
  unfold rehEnd
  exact .comp (.ite (raise_noDeblock ..) (.ite (unraise_noDeblock ..) (.refl _))) <| .after (State.wrs_within ..) rfl <|
    .other (.refl _)

theorem rehFreeze_noDeblock (s : State) : NoNewDeblock s (rehFreeze s) := by
  unfold rehFreeze
  split
  · exact .ite (.comp (rehEnd_noDeblock ..) <| .ite (of_within (rehTakeBack_within ..) rfl) (.refl _)) (.refl _)
  · exact .refl _

theorem takeoverRefused_noDeblock (s : State) : NoNewDeblock s (takeoverRefused s) := by
  unfold takeoverRefused
  exact .after (rehAbort_within ..) rfl <| .comp (raise_noDeblock ..) <| of_within (State.wr_within ..) rfl

theorem takeoverTrigger_noDeblock (trig : Nat) (s : State) : NoNewDeblock s (takeoverTrigger trig s) := by
  unfold takeoverTrigger
  exact .ite (.refl _)
    (.ite (takeoverRefused_noDeblock ..)
      (.ite (.comp (takeoverRefused_noDeblock ..) <| raise_noDeblock ..) (.after (State.wr_within ..) rfl <| .other (.refl _))))

theorem takeoverPoint_noDeblock (s : State) : NoNewDeblock s (takeoverPoint s) := by
  unfold takeoverPoint
  split
  · exact .ite (.refl _)
      (.after (ledgerFire_within ..) rfl <| .comp (raise_noDeblock ..) <| .after (State.relay_within ..) rfl <| .other <|
        .after (State.wr64_within ..) rfl <| .after (State.wrs_within ..) rfl <| .comp (.ite (rehEnd_noDeblock ..) (.refl _)) <|
        .other (.refl _))
  · exact .refl _

theorem hbMissed_noDeblock (s : State) : NoNewDeblock s (hbMissed s) := by
  unfold hbMissed
  exact .ite (.refl _)
    (.comp (.ite (.refl _) (.comp (linkLost_noDeblock ..) <| .ite (takeoverTrigger_noDeblock ..) (.refl _))) <|
      .after (State.inc_within ..) rfl <| .other (.refl _))

theorem tkreqReceived_noDeblock (s : State) : NoNewDeblock s (tkreqReceived s) := by
  unfold tkreqReceived
  exact .ite (.refl _) (.comp (.ite (takeoverTrigger_noDeblock ..) (.refl _)) <| raise_noDeblock ..)

theorem tknoteReceived_noDeblock (epoch : Nat) (s : State) : NoNewDeblock s (tknoteReceived epoch s) := by
  unfold tknoteReceived
  exact .ite (.refl _)
    (.after (State.wr_within ..) rfl <| .after (State.wr_within ..) rfl <| .other <| .ite (rehEnd_noDeblock ..) (.refl _))

theorem ublkReceived_noDeblock (mask : Nat) (s : State) : NoNewDeblock s (ublkReceived mask s) := by
  unfold ublkReceived
  exact .ite (.comp (.ite (changeState_noDeblock ..) (.other (.refl _))) <| .comp (urgentBlock_noDeblock ..) <|
      .comp (endOrderly_noDeblock ..) <| supersede_noDeblock ..) (.ite (.other (.refl _)) (.refl _))

theorem takeoverCmd_noDeblock (key : Nat) (s : State) : NoNewDeblock s (takeoverCmd key s) := by
  unfold takeoverCmd
  exact .ite (of_within (twnJudged_within ..) rfl)
    (.ite (.after (twnJudged_within ..) rfl <| takeoverTrigger_noDeblock ..)
      (.ite (.after (twnJudged_within ..) rfl <| of_within (State.relay_within ..) rfl) (of_within (twnJudged_within ..) rfl)))

theorem orphanAdopt_noDeblock (s : State) : NoNewDeblock s (orphanAdopt s) := by
  unfold orphanAdopt
  exact .ite (.ite (.comp (takeoverRefused_noDeblock ..) <| raise_noDeblock ..)
      (.comp (.ite (changeState_noDeblock ..) (.refl _)) <| .comp (raise_noDeblock ..) <| .other <|
        .after (State.wr_within ..) rfl <| of_within (State.wr_within ..) rfl)) (.refl _)

theorem prefReturn_noDeblock (s : State) : NoNewDeblock s (prefReturn s) := by
  unfold prefReturn
  split
  · exact .ite (takeoverTrigger_noDeblock ..) (.refl _)
  · exact .refl _

theorem rehCheck_noDeblock (s : State) : NoNewDeblock s (rehCheck s) := by
  unfold rehCheck
  split
  · exact .ite (.refl _) (.ite (.ite (.refl _) (rehEnd_noDeblock ..)) (rehEnd_noDeblock ..))
  · exact .refl _

theorem driveOverdue_noDeblock (s : State) : NoNewDeblock s (driveOverdue s) := by
  unfold driveOverdue
  exact .ite (.comp (raise_noDeblock ..) <| .other (.refl _)) (.refl _)

theorem leftSync_noDeblock (n : Nat) (s : State) : NoNewDeblock s (leftSync n s) := by
  unfold leftSync
  refine .comp (.ite (.comp (raiseEach_noDeblock ..) <| .other (.refl _)) (.ite (of_within (resyncAsk_within ..) rfl) (.refl _))) ?_
  split
  · exact .other (.refl _)
  · exact .refl _

theorem resyncCmd_noDeblock (n : Nat) (s : State) : NoNewDeblock s (resyncCmd n s) := by
  unfold resyncCmd
  exact .ite (.after (twnJudged_within ..) rfl <| .after (resyncAsk_within ..) rfl <| .comp (unraise_noDeblock ..) <|
      .other (.refl _)) (of_within (twnJudged_within ..) rfl)

theorem compareArm_noDeblock (n : Nat) (own theirs : Nat × Nat) (intime : Bool) (s : State) :
    NoNewDeblock s (compareArm n own theirs intime s) := by
  unfold compareArm
  exact .ite (.refl _)
    (.ite (.comp (.ite (of_within (State.putBit_within ..) rfl) (.refl _)) <| .after (State.inc_within ..) rfl <| .other (.refl _))
      (.comp (leftSync_noDeblock ..) <| .after (State.putBit_within ..) rfl <| .comp (raise_noDeblock ..) <|
        .after (State.inc_within ..) rfl <| .other (.refl _)))

theorem compareCycle_noDeblock (s : State) : NoNewDeblock s (compareCycle s) := by
  unfold compareCycle
  split
  · exact .refl _
  · refine .ite (.refl _) ?_
    split
    · exact .refl _
    · exact .comp (.ite (.refl _)
            (.comp (standbyJudge_noDeblock ..) <| .after (State.put_within ..) rfl <|
              .forAll (fun _ _ => compareArm_noDeblock ..) (.refl _))) <| .other (.refl _)

theorem snapHeaderIn_noDeblock (bs : List Byte) (s : State) : NoNewDeblock s (snapHeaderIn bs s) := by
  unfold snapHeaderIn
  exact .comp (.ite (.refl _) (.ite (.ite (.refl _) (enterState_noDeblock ..)) (.ite (.other (.refl _)) (.refl _)))) <|
    .comp (.ite (.other (.refl _)) (.refl _)) <| .other <| of_within (State.wrs_within ..) rfl

theorem snapDone_noDeblock (bs : List Byte) (s : State) : NoNewDeblock s (snapDone bs s) := by
  unfold snapDone
  exact .after (stationStart_within ..) rfl <| .comp (compareCycle_noDeblock ..) <| .comp (.ite (.other (.refl _)) (.refl _)) <|
    .forAll (fun _ _ => of_within (State.setArm_within ..) rfl) <| .other (.refl _)

theorem snapReceived_noDeblock (ok first : Bool) (bs : List Byte) (s : State) : NoNewDeblock s (snapReceived ok first bs s) := by
  unfold snapReceived
  refine .ite (.refl _) (.ite (.comp (crcError_noDeblock ..) <| .other (.refl _)) ?_)
  dsimp only
  generalize (if first then some [] else s.twn.snapBuf) = old
  cases old with
  | none => exact .refl _
  | some b =>
    exact .comp (.ite (snapDone_noDeblock ..) (.refl _)) <| .comp (.ite (snapHeaderIn_noDeblock ..) (.refl _)) <| .other (.refl _)

theorem snapFreeze_noDeblock (s : State) : NoNewDeblock s (snapFreeze s) := by
  unfold snapFreeze
  exact .ite (.refl _) (.comp (compareCycle_noDeblock ..) <| .ite (.refl _) (of_within (State.inc_within ..) rfl))

/-! ### The collector -/

theorem reportEffect_noDeblock (fs : Nat) (s : State) : NoNewDeblock s (reportEffect fs s) := by
  unfold reportEffect
  exact .ite (.glb id (.refl _)) (.ite (of_within (ledgerDrop_within ..) rfl) (.ite (of_within (State.wr_within ..) rfl) (.refl _)))

theorem faultRaise_noDeblock (l : List Nat) (s : State) : NoNewDeblock s (faultRaise l s) := by
  unfold faultRaise
  exact .comp (readyJudge_noDeblock ..) <| .comp (raiseSlot_noDeblock ..) <|
    .forAll (fun _ _ => .comp (liveUpdate_noDeblock ..) <| .other (.refl _)) <| .other <|
    .forAll (fun _ _ => reportEffect_noDeblock ..) (.refl _)

theorem faultLiveClear_noDeblock (fs : Nat) (s : State) : NoNewDeblock s (faultLiveClear fs s) := by
  unfold faultLiveClear
  exact .ite (.refl _)
    (.comp (unraise_noDeblock ..) <|
      .comp (.ite (of_within (State.wr_within ..) rfl)
          (.ite (of_within (State.wr_within ..) rfl)
            (.ite (of_within (State.putBit_within ..) rfl) (.ite (of_within (State.wr_within ..) rfl) (.refl _))))) <|
      .comp (.ite (of_within (State.put_within ..) rfl) (.refl _)) <| .ite (.glb id (.refl _)) (.refl _))

theorem collectorSelf_noDeblock (ecc : Bool) (s : State) : NoNewDeblock s (collectorSelf ecc s) := by
  unfold collectorSelf
  exact .ite (.comp (readyJudge_noDeblock ..) <| selfFault_noDeblock ..) (raise_noDeblock ..)

theorem heartbeat_noDeblock (s : State) : NoNewDeblock s (heartbeat s) := by
  unfold heartbeat
  exact .comp (unraise_noDeblock ..) <| .comp (lanternJudge_noDeblock ..) <| of_within (State.wr_within ..) rfl

theorem heartbeatLost_noDeblock (s : State) : NoNewDeblock s (heartbeatLost s) := by
  unfold heartbeatLost
  exact .comp (raise_noDeblock ..) <| .comp (lanternJudge_noDeblock ..) <| of_within (State.wr_within ..) rfl

theorem lanternIn_noDeblock (s : State) : NoNewDeblock s (lanternIn s) := by
  unfold lanternIn
  exact .comp (.ite (.comp (unraise_noDeblock ..) <| of_within (State.wrs_within ..) rfl) (.refl _)) <|
    .after (State.put_within ..) rfl <| .other (.refl _)

theorem lanternStopped_noDeblock (s : State) : NoNewDeblock s (lanternStopped s) := by
  unfold lanternStopped
  exact .ite (.refl _)
    (.comp (.ite (takeoverTrigger_noDeblock ..) (.refl _)) <| .comp (raise_noDeblock ..) <| .after (State.inc_within ..) rfl <|
      .after (State.wrs_within ..) rfl <| .other (.refl _))

theorem fcJudged_noDeblock (result : Nat) (s : State) : NoNewDeblock s (fcJudged result s) := by
  unfold fcJudged
  exact .after (State.event_within ..) rfl <| .after (State.count_within ..) rfl <| of_within (State.wr_within ..) rfl

theorem clrReact_noDeblock (s : State) : NoNewDeblock s (clrReact s) := by
  unfold clrReact
  exact .comp (readyJudge_noDeblock ..) <| .comp (lanternJudge_noDeblock ..) <| .comp (fcJudged_noDeblock ..) <|
    .comp (.ite (of_within (State.relay_within ..) rfl) (.refl _)) <| .after (State.wr_within ..) rfl <|
    .foldl (fun _ _ => of_within (State.wr_within ..) rfl) (.refl _)

theorem clrFirst_noDeblock (s : State) : NoNewDeblock s (clrFirst s) := by
  unfold clrFirst
  exact .comp (fcJudged_noDeblock ..) <| .after (State.wr64_within ..) rfl <| of_within (State.wrs_within ..) rfl

theorem clrSticky_noDeblock (s : State) : NoNewDeblock s (clrSticky s) := by
  unfold clrSticky
  exact .comp (fcJudged_noDeblock ..) <| .forAll (fun _ _ => of_within (clearSticky_within ..) rfl) (.refl _)

theorem fcCommand_noDeblock (code key : Nat) (s : State) : NoNewDeblock s (fcCommand code key s) := by
  unfold fcCommand
  exact .ite (.refl _)
    (.ite (clrSticky_noDeblock ..) (.ite (clrReact_noDeblock ..) (.ite (clrFirst_noDeblock ..) (fcJudged_noDeblock ..))))

theorem sevRaised_noDeblock (fs lo : Nat) (s : State) : NoNewDeblock s (sevRaised fs lo s) := by
  unfold sevRaised
  exact .ite (.comp (react_noDeblock ..) <| .ite (.other (.refl _)) (.refl _)) (.refl _)

theorem sevSettle_noDeblock (old s : State) : NoNewDeblock s (sevSettle old s) := by
  unfold sevSettle
  exact .comp (readyJudge_noDeblock ..) <| .forAll (fun _ _ => sevRaised_noDeblock ..) (.refl _)

theorem sevWrite_noDeblock (m : Master) (w v : Nat) (s : State) : NoNewDeblock s (sevWrite m w v s) := by
  unfold sevWrite
  exact .comp (sevSettle_noDeblock ..) <| of_within (regWrite_within ..) rfl

theorem unlock_noDeblock (m : Master) (code : Nat) (s : State) : NoNewDeblock s (unlock m code s) := by
  unfold unlock
  exact .ite (of_within (State.wr_within ..) rfl)
    (.ite (.comp (raise_noDeblock ..) <| of_within (State.wr_within ..) rfl)
      (.ite (.comp (raise_noDeblock ..) <| .after (State.put_within ..) rfl <| of_within (State.wr_within ..) rfl)
        (.ite (.comp (changeState_noDeblock ..) <| permitWithdraw_noDeblock ..) (of_within (State.wr_within ..) rfl))))

theorem inject_noDeblock (mode fs : Nat) (s : State) : NoNewDeblock s (inject mode fs s) := by
  unfold inject
  exact .ite (of_within (State.wr_within ..) rfl)
    (.ite (.refl _)
      (.ite (.comp (readyJudge_noDeblock ..) <| raiseSlot_noDeblock ..)
        (.ite (.comp (readyJudge_noDeblock ..) <| .comp (raiseSlot_noDeblock ..) <| .comp (liveUpdate_noDeblock ..) <|
            .other (.refl _)) (.ite (.comp (liveUpdate_noDeblock ..) <| .other (.refl _)) (.refl _)))))

/-! ### The host ports -/

theorem pcieLink_noDeblock (up : Bool) (speed width : Nat) (s : State) : NoNewDeblock s (pcieLink up speed width s) := by
  unfold pcieLink
  exact .comp (.ite (unraise_noDeblock ..) (.ite (raise_noDeblock ..) (.refl _))) <|
    .comp (.ite (of_within (State.event_within ..) rfl) (.refl _)) <| of_within (State.wrs_within ..) rfl

theorem releaseOne_noDeblock (m : Master) (o : Nat) (s : State) : NoNewDeblock s (releaseOne m o s) := by
  unfold releaseOne
  exact .ite (of_within (State.werr_within ..) rfl)
    (.ite (.refl _)
      (.comp (.ite (.refl _) (.forAll (fun _ _ => of_within (State.signalPf_within ..) rfl) (.refl _))) <|
        .comp (unraise_noDeblock ..) <| .after (State.event_within ..) rfl <| of_within (State.putBit_within ..) rfl))

theorem release_noDeblock (m : Master) (mask key : Nat) (s : State) : NoNewDeblock s (release m mask key s) := by
  unfold release
  exact .ite (.refl _) (.forAll (fun _ _ => releaseOne_noDeblock ..) (.refl _))

theorem loadWindow_noDeblock (load : Nat) (heavy : Bool) (s : State) : NoNewDeblock s (loadWindow load heavy s) := by
  unfold loadWindow
  exact .comp (.ite (extractStart_noDeblock ..) (.refl _)) <| .comp (.ite (ckptDue_noDeblock ..) (.refl _)) <|
    .comp (.ite (raise_noDeblock ..) (.ite (unraise_noDeblock ..) (.refl _))) <| .other <| of_within (State.wrs_within ..) rfl

theorem restartDone_noDeblock (a b : Bool) (s : State) : NoNewDeblock s (restartDone a b s) := by
  unfold restartDone
  exact .ite (.refl _)
    (.ite (.comp (raise_noDeblock ..) <| of_within (State.wr_within ..) rfl)
      (.comp (unraise_noDeblock ..) <| .comp (unraise_noDeblock ..) <| .comp (.ite (.refl _) (raise_noDeblock ..)) <|
        of_within (State.wrs_within ..) rfl))

/-! ### Clocks and supplies -/

theorem powerWarning_noDeblock (mv : Nat) (s : State) : NoNewDeblock s (powerWarning mv s) := by
  unfold powerWarning
  exact .after (plAbandon_within ..) rfl <| .comp (raise_noDeblock ..) <| .other <| of_within (State.wrs_within ..) rfl

theorem railOut_noDeblock (rail : Nat) (s : State) : NoNewDeblock s (railOut rail s) := by
  unfold railOut
  exact .comp (raise_noDeblock ..) <| of_within (State.putBit_within ..) rfl

theorem junction_noDeblock (tj : Int) (sensor : Nat) (s : State) : NoNewDeblock s (junction tj sensor s) := by
  unfold junction
  exact .comp (.ite (raise_noDeblock ..) (.ite (unraise_noDeblock ..) (.refl _))) <|
    .comp (.ite (raise_noDeblock ..) (.ite (unraise_noDeblock ..) (.refl _))) <| of_within (State.wrs_within ..) rfl

theorem ostFallback_noDeblock (s : State) : NoNewDeblock s (ostFallback s) := by
  unfold ostFallback
  exact .ite (.refl _)
    (.ite (.comp (raise_noDeblock ..) <| .after (State.inc_within ..) rfl <| of_within (State.wr_within ..) rfl) (.other (.refl _)))

theorem clockStop_noDeblock (s : State) : NoNewDeblock s (clockStop s) := by
  unfold clockStop
  have stopped : NoNewDeblock s (if s.running then armCyclesStop s else s) := .ite (armCyclesStop_noDeblock _) (.refl _)
  dsimp only
  generalize (if s.running then armCyclesStop s else s) = y at stopped ⊢
  split
  · exact .comp (enterState_noDeblock ..) <| .glb id stopped
  · exact stopped

theorem cpllFail_noDeblock (c : Nat) (s : State) : NoNewDeblock s (cpllFail c s) := by
  unfold cpllFail
  exact .comp (.ite (raise_noDeblock ..) (.refl _)) <| of_within (State.wr_within ..) rfl

theorem clockFailure_noDeblock (c q : Nat) (s : State) : NoNewDeblock s (clockFailure c q s) := by
  unfold clockFailure
  split
  · exact .comp (raise_noDeblock ..) <| .after (plAbandon_within ..) rfl <| .comp (clockStop_noDeblock ..) <|
      .comp (ostFallback_noDeblock ..) <| .after (tbFallback_within ..) rfl <| of_within (State.wrs_within ..) rfl
  · exact .comp (raise_noDeblock ..) <| .comp (clockStop_noDeblock ..) <| .after (tbFallback_within ..) rfl <|
      of_within (State.wr_within ..) rfl
  · exact .comp (.ite (of_within (State.wrs_within ..) rfl) (.refl _)) <| .comp (raise_noDeblock ..) <|
      of_within (State.wr_within ..) rfl
  · exact .comp (.ite (.other <| of_within (State.wr_within ..) rfl) (.refl _)) <| .comp (raise_noDeblock ..) <|
      of_within (State.wr_within ..) rfl
  · exact .comp (raise_noDeblock ..) <| .forAll (fun _ _ => lockLoss_noDeblock ..) <| of_within (State.putBit_within ..) rfl
  · exact .comp (raise_noDeblock ..) <| .comp (linkLost_noDeblock ..) <| of_within (State.wr_within ..) rfl
  · exact .comp (raise_noDeblock ..) <| .forAll (fun _ _ => ethLink_noDeblock ..) <| of_within (State.wr_within ..) rfl
  · exact cpllFail_noDeblock ..
  · exact .comp (raise_noDeblock ..) <| .comp (pcieLink_noDeblock ..) <| of_within (State.wr_within ..) rfl

theorem laneReturn_noDeblock (l : Nat) (s : State) : NoNewDeblock s (laneReturn l s) := by
  unfold laneReturn
  exact .ite (.comp (idleLane_noDeblock ..) <| of_within (State.setLn_within ..) rfl) (.refl _)

theorem pllRegained_noDeblock (c q : Nat) (s : State) : NoNewDeblock s (pllRegained c q s) := by
  unfold pllRegained
  exact .ite (.comp (.ite (unraise_noDeblock ..) (.refl _)) <| .forAll (fun _ _ => laneReturn_noDeblock ..) <|
      of_within (State.putBit_within ..) rfl) (.comp (.ite (unraise_noDeblock ..) (.refl _)) <| of_within (State.wr_within ..) rfl)

theorem fallbackReady_noDeblock (ofb : Bool) (s : State) : NoNewDeblock s (fallbackReady ofb s) := by
  unfold fallbackReady
  exact .ite (.comp (.ite (.refl _)
          (.comp (.ite (raise_noDeblock ..) (.refl _)) <| .comp (ostFallback_noDeblock ..) <| .other (.refl _))) <|
      .comp (unraise_noDeblock ..) <| of_within (State.wr_within ..) rfl)
    (.comp (.ite (.refl _)
          (.comp (.ite (raise_noDeblock ..) (.refl _)) <| .after (tbFallback_within ..) rfl <| .after (State.wr_within ..) rfl <|
            .other (.refl _))) <| .comp (unraise_noDeblock ..) <| of_within (State.wr_within ..) rfl)

theorem muxForced_noDeblock (ost : Bool) (s : State) : NoNewDeblock s (muxForced ost s) := by
  unfold muxForced
  exact .ite (.comp (raise_noDeblock ..) <| of_within (State.inc_within ..) rfl) (.refl _)

theorem ostlerClock_noDeblock (s : State) : NoNewDeblock s (ostlerClock s) := by
  unfold ostlerClock
  exact .ite (.refl _) (.comp (unraise_noDeblock ..) <| .after (State.inc_within ..) rfl <| of_within (State.wrs_within ..) rfl)

theorem gateTimeout_noDeblock (u : Nat) (s : State) : NoNewDeblock s (gateTimeout u s) := by
  unfold gateTimeout
  exact .ite (.refl _)
    (.comp (raise_noDeblock ..) <| .after (State.wrs_within ..) rfl <| .after (State.putBit_within ..) rfl <|
      of_within (setQuiesce_within ..) rfl)

/-! ### What a write of a register settles -/

theorem monitorOff_noDeblock (s : State) : NoNewDeblock s (monitorOff s) := by
  unfold monitorOff
  exact .comp (twinFigures_noDeblock ..) <| .ite (.refl _) (of_within (State.wrs_within ..) rfl)

theorem settleArray_noDeblock (addr : Nat) (old s : State) : NoNewDeblock s (settleArray addr old s) := by
  unfold settleArray
  split
  · exact .ite (of_within (writeAll_within ..) rfl) (.refl _)
  · split
    · exact .ite (of_within (deadtSend_within ..) rfl) (.refl _)
    · split
      · exact .ite (.other (.refl _)) (.refl _)
      · exact .ite (sevSettle_noDeblock ..) (.refl _)

theorem settleReg_noDeblock (addr : Nat) (old s : State) : NoNewDeblock s (settleReg addr old s) := by
  unfold settleReg
  split
  · exact acceptJudge_noDeblock ..
  · exact acceptJudge_noDeblock ..
  · exact acceptJudge_noDeblock ..
  · exact .ite (.other (.refl _)) (.refl _)
  · exact monitorOff_noDeblock ..
  · exact ledgerOff_noDeblock ..
  · exact of_within (syncJudge_within ..) rfl
  · exact .ite (.refl _) (.after (syncJudge_within ..) rfl <| .other (.refl _))
  · exact settleArray_noDeblock ..

theorem applyEntry_noDeblock (e : Nat × Nat × Nat) (s : State) : NoNewDeblock s (applyEntry e s) := by
  unfold applyEntry
  split
  · exact .refl _
  · exact .comp (settleReg_noDeblock ..) <| .foldl (fun _ _ => .ite (.refl _) (of_within (setByLayer_within ..) rfl)) (.refl _)

theorem applyEntries_noDeblock (l : List (Nat × Nat × Nat)) (s : State) : NoNewDeblock s (applyEntries l s) := by
  unfold applyEntries
  exact .forAll (fun _ _ => of_within (ordEntries_within ..) rfl) <| .forAll (fun _ _ => applyEntry_noDeblock ..) (.refl _)

/-! ### The Recipe -/

theorem applyLane_noDeblock (d : List Byte) (s : State) : NoNewDeblock s (applyLane d s) := by
  unfold applyLane
  refine .forAll (fun _ _ => ?_) (.refl _)
  split
  · exact .comp (laneNamed_noDeblock ..) <| of_within (State.wrs_within ..) rfl
  · exact .comp (laneOff_noDeblock ..) <| of_within (State.wrs_within ..) rfl

theorem applyParm_noDeblock (es : List (Nat × Nat × Nat)) (s : State) : NoNewDeblock s (applyParm es s) := by
  unfold applyParm
  exact .comp (.ite (of_within (productsUpdate_within ..) rfl) (.refl _)) <| .after (sampleEntries_within ..) rfl <|
    applyEntries_noDeblock ..

theorem applySafe_noDeblock (d : List Byte) (acked : Bool) (s : State) : NoNewDeblock s (applySafe d acked s) := by
  unfold applySafe
  exact .comp (.ite (.after (State.wr_within ..) rfl <| .other (.refl _))
        (.other <| .comp (sbuHandover_noDeblock ..) <| of_within (State.wr_within ..) rfl)) <| of_within (State.wr_within ..) rfl

theorem switchState_noDeblock (was : Nat) (changed : List Nat) (head : Bool) (s : State) :
    NoNewDeblock s (switchState was changed head s) := by
  unfold switchState
  exact .ite (.comp (startUp_noDeblock ..) <| enterState_noDeblock ..)
    (.ite (.refl _)
      (.ite (.comp (.ite (.ite (.other (.refl _)) (restart20_noDeblock ..))
              (.ite (.refl _) (.ite (linkStart_noDeblock ..) (.refl _)))) <| .ite (enterState_noDeblock ..) (.refl _))
        (.ite (startUp_noDeblock ..) (.refl _))))

theorem switchSections_noDeblock (p : Prep) (s : State) : NoNewDeblock s (switchSections p s) := by
  unfold switchSections
  exact .comp (.ite (of_within (graphFigures_within ..) rfl) (.refl _)) <| .comp (.ite (graphInit_noDeblock ..) (.refl _)) <|
    .comp (.ite (applyParm_noDeblock ..) (.refl _)) <| .after (switchEngines_within ..) rfl <|
    .comp (.ite (of_within (graphLoad_within ..) rfl) (.refl _)) <| .comp (.ite (of_within (applyEngn_within ..) rfl) (.refl _)) <|
    .comp (.ite (of_within (applyTopo_within ..) rfl) (.refl _)) <| .ite (applyLane_noDeblock ..) (.refl _)

theorem switchTwin_noDeblock (cycle untwin : Bool) (p : Prep) (s : State) : NoNewDeblock s (switchTwin cycle untwin p s) := by
  unfold switchTwin
  exact .comp (.ite (of_within (unsync_within ..) rfl) (.refl _)) <| .comp (.ite (relayOff_noDeblock ..) (.refl _)) <|
    .comp (.ite (.other (.refl _)) (.refl _)) <| .comp (unraise_noDeblock ..) <| .other <|
    .comp (.ite (applySafe_noDeblock ..) (.refl _)) <| .ite (of_within (State.wr_within ..) rfl) (.refl _)

theorem switchNow_noDeblock (k : Nat) (p : Prep) (s : State) : NoNewDeblock s (switchNow k p s) := by
  unfold switchNow
  exact .comp (standbyJudge_noDeblock ..) <| .comp (.ite (relayStart_noDeblock ..) (.refl _)) <| .comp (switchState_noDeblock ..) <|
    .comp (acceptJudge_noDeblock ..) <| .after (switchGates_within ..) rfl <| .comp (switchTwin_noDeblock ..) <|
    .comp (switchSections_noDeblock ..) <| of_within (switchTables_within ..) rfl

theorem autoGiveUp_noDeblock (s : State) : NoNewDeblock s (autoGiveUp s) := by
  unfold autoGiveUp
  exact .comp (raise_noDeblock ..) <| .after (setStep_within ..) rfl <| .other (.refl _)

theorem autoFail_noDeblock (s : State) : NoNewDeblock s (autoFail s) := by
  unfold autoFail
  split
  · exact .refl _
  · exact .comp (.ite (autoGiveUp_noDeblock ..)
          (.comp (.ite (of_within (loadBegin_within ..) rfl)
                (.comp (autoGiveUp_noDeblock ..) <| .comp (raise_noDeblock ..) <| of_within (loadInvalid_within ..) rfl)) <|
            .other (.refl _))) <| raise_noDeblock ..

theorem autoLoad_noDeblock (s : State) : NoNewDeblock s (autoLoad s) := by
  unfold autoLoad
  exact .comp (.ite (of_within (loadBegin_within ..) rfl)
        (.comp (autoFail_noDeblock ..) <| of_within (loadInvalid_within ..) rfl)) <| .after (setStep_within ..) rfl <|
    .other (.refl _)

theorem autoNext_noDeblock (cmd code : Nat) (s : State) : NoNewDeblock s (autoNext cmd code s) := by
  unfold autoNext
  split
  · exact .refl _
  · refine .ite (autoFail_noDeblock ..) ?_
    refine .ite ?_ (.comp (.ite (of_within (State.wr_within ..) rfl) (.refl _)) <| .other (.refl _))
    split
    · exact of_within (commitStart_within ..) rfl
    · exact .comp (autoFail_noDeblock ..) <| .after (rcpEnd_within ..) rfl <| of_within (State.event_within ..) rfl

theorem rcpFinish_noDeblock (cmd code sec ofs : Nat) (s : State) : NoNewDeblock s (rcpFinish cmd code sec ofs s) := by
  unfold rcpFinish
  exact .comp (autoNext_noDeblock ..) <| of_within (rcpEnd_within ..) rfl

theorem commitUnready_noDeblock (s : State) : NoNewDeblock s (commitUnready s) := by
  unfold commitUnready
  exact .after (rcpEnd_within ..) rfl <| .comp (raise_noDeblock ..) <| .other (.refl _)

theorem confirmDeadline_noDeblock (s : State) : NoNewDeblock s (confirmDeadline s) := by
  unfold confirmDeadline
  split
  · split
    · exact .ite (.refl _)
        (.ite (.comp (commitUnready_noDeblock ..) <| of_within (State.carry_within ..) rfl)
          (.ite (.comp (standbyJudge_noDeblock ..) <| .other <| of_within (rcpEnd_within ..) rfl)
            (.comp (.ite (of_within (State.wr_within ..) rfl) (.refl _)) <| of_within (setPrep_within ..) rfl)))
    · exact .refl _
  · exact .ite (.refl _) (.ite (commitUnready_noDeblock ..) (.comp (standbyJudge_noDeblock ..) <| .other (.refl _)))
  · exact .refl _

theorem commitAborted_noDeblock (k : Nat) (s : State) : NoNewDeblock s (commitAborted k s) := by
  unfold commitAborted
  split
  · exact .ite (commitUnready_noDeblock ..) (.refl _)
  · exact .ite (commitUnready_noDeblock ..) (.refl _)
  · exact .refl _

theorem commitSwitch_noDeblock (s : State) : NoNewDeblock s (commitSwitch s) := by
  unfold commitSwitch
  split
  · exact .refl _
  · exact .ite (.refl _)
      (.ite (.comp (rcpFinish_noDeblock ..) <| raise_noDeblock ..) (.comp (rcpFinish_noDeblock ..) <| switchNow_noDeblock ..))

theorem prepareEnd_noDeblock (s : State) : NoNewDeblock s (prepareEnd s) := by
  unfold prepareEnd
  split
  · exact .refl _
  · exact .ite (.refl _)
      (.comp (.ite (commitSwitch_noDeblock ..)
            (.ite (.after (setPrep_within ..) rfl <| .after (State.wr_within ..) rfl <| of_within (State.relay_within ..) rfl)
              (of_within (State.wr_within ..) rfl))) <| of_within (setPrep_within ..) rfl)

theorem verifyEnd_noDeblock (cmd limit : Nat) (s : State) : NoNewDeblock s (verifyEnd cmd limit s) := by
  unfold verifyEnd
  split
  · exact .after (proposalTry_within ..) rfl <| .comp (rcpFinish_noDeblock ..) <| of_within (stageOk_within ..) rfl
  · exact .comp (rcpFinish_noDeblock ..) <| of_within (stageOk_within ..) rfl

theorem loadComplete_noDeblock (ok : Bool) (s : State) : NoNewDeblock s (loadComplete ok s) := by
  unfold loadComplete
  split
  · exact .ite (.comp (rcpFinish_noDeblock ..) <| raise_noDeblock ..) (.comp (verifyEnd_noDeblock ..) <| .other (.refl _))
  · exact .refl _

theorem rcpAbort_noDeblock (s : State) : NoNewDeblock s (rcpAbort s) := by
  unfold rcpAbort
  split
  · exact .comp (rcpFinish_noDeblock ..) <| of_within (stageOk_within ..) rfl
  · exact .comp (rcpFinish_noDeblock ..) <| of_within (stageOk_within ..) rfl
  · refine .comp (rcpFinish_noDeblock ..) ?_
    split
    · split
      · exact of_within (State.carry_within ..) rfl
      · exact .refl _
    · exact .refl _
  · exact .refl _

theorem stageTouched_noDeblock (s : State) : NoNewDeblock s (stageTouched s) := by
  unfold stageTouched
  have lost {v : RcpSt} : NoNewDeblock s (stageOk false { s with rcp := v }) := .after (stageOk_within ..) rfl <| .other (.refl _)
  dsimp only
  split
  · exact .comp (rcpFinish_noDeblock ..) lost
  · exact .comp (rcpFinish_noDeblock ..) lost
  · split
    · exact .ite lost (.comp (rcpFinish_noDeblock ..) lost)
    · exact lost
  · exact lost

theorem storeComplete_noDeblock (ok : Bool) (s : State) : NoNewDeblock s (storeComplete ok s) := by
  unfold storeComplete
  split
  · exact .ite (.after (rcpEnd_within ..) rfl <| of_within (State.setSlot_within ..) rfl)
      (.after (rcpEnd_within ..) rfl <| raise_noDeblock ..)
  · exact .refl _

theorem eraseComplete_noDeblock (ok : Bool) (s : State) : NoNewDeblock s (eraseComplete ok s) := by
  unfold eraseComplete
  split
  · exact .ite (.after (rcpEnd_within ..) rfl <| of_within (State.setSlot_within ..) rfl)
      (.after (rcpEnd_within ..) rfl <| raise_noDeblock ..)
  · exact .refl _

theorem safeExpire_noDeblock (s : State) : NoNewDeblock s (safeExpire s) := by
  unfold safeExpire
  exact .comp (raise_noDeblock ..) <| .after (State.wr_within ..) rfl <| .other (.refl _)

theorem rcpSafeAck_noDeblock (s : State) : NoNewDeblock s (rcpSafeAck s) := by
  unfold rcpSafeAck
  exact .ite (of_within (rcpRefuse_within ..) rfl)
    (.ite (of_within (rcpRefuse_within ..) rfl)
      (.ite (.comp (.ite (safeExpire_noDeblock ..) (.refl _)) <| .after (rcpRefuse_within ..) rfl <|
          of_within (State.wr_within ..) rfl) (.after (rcpDone_within ..) rfl <| .other (.refl _))))

/-! ### Carried limits -/

theorem insLimitWrite_noDeblock (m : Master) (n addr w : Nat) (s : State) : NoNewDeblock s (insLimitWrite m n addr w s) := by
  unfold insLimitWrite
  exact .comp (settleReg_noDeblock ..) <| of_within (carriedWrite_within ..) rfl

/-! ### Carried entries of the shadow stores -/

theorem shadowAdd_noDeblock (e : WbEntry) (s : State) : NoNewDeblock s (shadowAdd e s) := by
  unfold shadowAdd
  exact .ite (wbFull_noDeblock ..) (of_within (wbAdd_within ..) rfl)

/-! ### The Cellar -/

theorem cellarWrite_noDeblock (m : Master) (shown a w : Nat) (s : State) : NoNewDeblock s (cellarWrite m shown a w s) := by
  unfold cellarWrite
  exact .ite (.refl _)
    (.ite (violation_noDeblock ..) (.ite (.refl _) (.comp (.ite (stageTouched_noDeblock ..) (.refl _)) <| .other (.refl _))))

/-! ### Carried items -/

theorem missItem_noDeblock (s : State) : NoNewDeblock s (missItem s) := by
  unfold missItem
  exact .comp (missedJudge_noDeblock ..) <| .comp (raise_noDeblock ..) <| .other (.refl _)

theorem NoNewDeblock.atCycle {clamp : Option Nat} {k : Nat} {f : Nat → State → State} {s : State}
    (h : ∀ i, NoNewDeblock s (f i s)) : NoNewDeblock s (atCycle clamp k f s) := by
  unfold Machine.atCycle
  split
  · exact h _
  · exact .ite (missItem_noDeblock _) (h _)

theorem entryReceived_noDeblock (b : List Byte) (s : State) : NoNewDeblock s (entryReceived b s) := by
  unfold entryReceived
  exact .comp (.ite (.comp (missedJudge_noDeblock ..) <| .other (.refl _)) (.refl _)) <| shadowAdd_noDeblock ..

theorem writeReceived_noDeblock (k addr w : Nat) (s : State) : NoNewDeblock s (writeReceived k addr w s) := by
  unfold writeReceived
  exact .after (State.addItem_within ..) rfl <| .comp (settleReg_noDeblock ..) <| of_within (regWrite_within ..) rfl

theorem itemTake_noDeblock (clamp : Option Nat) (b : List Byte) (s : State) : NoNewDeblock s (itemTake clamp b s) := by
  unfold itemTake
  dsimp only
  split
  · exact of_within (State.wr_within ..) rfl
  · exact .atCycle fun _ => .after (State.wrs_within ..) rfl <| of_within (takeCapt_within ..) rfl
  · exact .atCycle fun _ => .after (State.wr_within ..) rfl <| .other (.refl _)
  · exact .atCycle fun _ => .after (State.wrs_within ..) rfl <| of_within (takeCapt_within ..) rfl
  · exact .atCycle fun _ => .after (State.wrs_within ..) rfl <| of_within (takeCapt_within ..) rfl
  · exact .atCycle fun _ => of_within (State.addItem_within ..) rfl
  · exact .atCycle fun _ => .after (State.wr_within ..) rfl <| .other (.refl _)
  · exact .atCycle fun _ => writeReceived_noDeblock ..
  · exact of_within (lifeReceived_within ..) rfl
  · exact .atCycle fun _ => .after (State.setArm_within ..) rfl <| .after (State.wr_within ..) rfl <|
      of_within (takeCapt_within ..) rfl
  · exact of_within (dlvReceived_within ..) rfl
  · exact commitAborted_noDeblock ..
  · exact entryReceived_noDeblock ..
  · exact of_within (wbCancel_within ..) rfl
  · exact of_within (resyncNamed_within ..) rfl
  · exact .other (.refl _)
  · exact .other (.refl _)
  · exact .refl _

theorem itemReceived_noDeblock (ok : Bool) (b : List Byte) (s : State) : NoNewDeblock s (itemReceived ok b s) := by
  unfold itemReceived
  exact .ite (crcError_noDeblock ..) (.comp (itemTake_noDeblock ..) <| .ite (.other (.refl _)) (.refl _))

theorem refreshApply_noDeblock (s : State) : NoNewDeblock s (refreshApply s) := by
  unfold refreshApply
  split
  · exact .ite (.refl _)
      (.forAll (fun _ _ => itemTake_noDeblock ..) <| .comp (missedJudge_noDeblock ..) <| .comp (unraise_noDeblock ..) <| .other <|
        of_within (refreshTake_within ..) rfl)
  · exact .refl _

/-! ### The cycle -/

theorem token_noDeblock (now idx : Nat) (s : State) : NoNewDeblock s (token now idx s) := by
  unfold token
  exact .ite (.refl _) (.comp (replicas_noDeblock ..) <| .after (rampsUpdate_within ..) rfl <| of_within (sampleAll_within ..) rfl)

theorem missrunLimit_noDeblock (n : Nat) (s : State) : NoNewDeblock s (missrunLimit n s) := by
  unfold missrunLimit
  exact .ite (raise_noDeblock ..) (.refl _)

theorem deadline_noDeblock (n : Nat) (s : State) : NoNewDeblock s (deadline n s) := by
  unfold deadline
  exact .ite (.comp (.ite (missrunLimit_noDeblock ..) (.refl _)) <| .after (State.setArm_within ..) rfl <|
      .after (State.putBit_within ..) rfl <| .after (State.inc_within ..) rfl <| of_within (State.wrs_within ..) rfl)
    (.ite (.refl _) (.comp (unraise_noDeblock ..) <| .after (State.putBit_within ..) rfl <| of_within (State.wrs_within ..) rfl))

theorem applySel_noDeblock (n : Nat) (q : Sel) (s : State) : NoNewDeblock s (applySel n q s) := by
  unfold applySel
  exact .after (State.setArm_within ..) rfl <| .after (fpShow_within ..) rfl <| .after (State.wrs_within ..) rfl <|
    of_within (State.mapCells_within ..) rfl

theorem freezeArm_noDeblock (n : Nat) (s : State) : NoNewDeblock s (freezeArm n s) := by
  unfold freezeArm
  exact .after (State.setArm_within ..) rfl <| .comp (.ite (of_within (State.setArm_within ..) rfl) (.refl _)) <|
    .comp (.ite (of_within (blockArm_within ..) rfl) (.ite (of_within (holdArm_within ..) rfl) (applySel_noDeblock ..))) <|
    .after (rsFreeze_within ..) rfl <| .after (State.setArm_within ..) rfl <| .comp (deadline_noDeblock ..) <|
    of_within (countArm_within ..) rfl

theorem armFreeze_noDeblock (s : State) : NoNewDeblock s (armFreeze s) := by
  unfold armFreeze
  exact .ite (.refl _)
    (.other <| .comp (snapFreeze_noDeblock ..) <| .after (snapSend_within ..) rfl <| .after (ledgerWrite_within ..) rfl <|
      .forAll (fun _ _ => freezeArm_noDeblock ..) <| .comp (rehFreeze_noDeblock ..) <| .other (.refl _))

/-! ### The stage area -/

theorem stageWrite_noDeblock (m : Master) (index w : Nat) (s : State) : NoNewDeblock s (stageWrite m index w s) := by
  unfold stageWrite
  exact .ite (.refl _) (cellarWrite_noDeblock ..)

/-! ### Resets and start-up -/

theorem vinClear_noDeblock (s : State) : NoNewDeblock s (vinClear s) := ⟨nofun⟩

theorem vinDown_noDeblock (s : State) : NoNewDeblock s (vinDown s) := by
  unfold vinDown
  exact .comp (vinClear_noDeblock ..) <| .after (ostlerEvent_within ..) rfl <|
    .comp (.ite (of_within (ostlerEvent_within ..) rfl) (.refl _)) <| .forAll (fun _ _ => of_within (State.emit_within ..) rfl) <|
    .ite (of_within (ckptLose_within ..) rfl) (.refl _)

theorem vinReset_noDeblock (cause rail : Nat) (s : State) : NoNewDeblock s (vinReset cause rail s) := by
  unfold vinReset
  exact .ite (.refl _) (.after (State.inc_within ..) rfl <| .after (State.wrs_within ..) rfl <| vinDown_noDeblock ..)

theorem vinRelease_noDeblock (pref : Bool) (s : State) : NoNewDeblock s (vinRelease pref s) := by
  unfold vinRelease
  exact .ite (.refl _)
    (.comp (.ite (raise_noDeblock ..) (.refl _)) <| .forAll (fun _ _ => .ite (raise_noDeblock ..) (.refl _)) <|
      .after (sbuShowCrc_within ..) rfl <| .after (State.wr_within ..) rfl <| .glb id (.refl _))

theorem vauxReset_noDeblock (s : State) : NoNewDeblock s (vauxReset s) := by
  have off {y : State} {regs : Sparse} {hst : HstSt} {sbu : SbuSt} {clk : ClkSt} :
      NoNewDeblock y { y with regs, glb := { y.glb with vauxOn := false }, hst, sbu, clk } := ⟨id⟩
  unfold vauxReset
  exact .ite (.refl _) (.comp off (vinDown_noDeblock s))

theorem vauxRelease_noDeblock (ostaddr : Nat) (s : State) : NoNewDeblock s (vauxRelease ostaddr s) := by
  unfold vauxRelease
  exact .ite (.refl _) (.after (State.wrs_within ..) rfl <| .glb id (.refl _))

theorem bootHouse_noDeblock (s : State) : NoNewDeblock s (bootHouse s) := by
  unfold bootHouse
  dsimp only
  split
  · exact .comp (.ite (.refl _) (raise_noDeblock ..)) <| .comp (applyEntries_noDeblock ..) <| .after (State.wrs_within ..) rfl <|
      of_within (State.wrs_within ..) rfl
  · exact .comp (raise_noDeblock ..) <| .after (State.wr_within ..) rfl <| of_within (State.wrs_within ..) rfl

theorem bootEnd_noDeblock (s : State) : NoNewDeblock s (bootEnd s) := by
  unfold bootEnd
  exact .comp (.ite (autoLoad_noDeblock ..) (.refl _)) <| .comp (lanternJudge_noDeblock ..) <| .comp (enterState_noDeblock ..) <|
    .comp (.ite (raise_noDeblock ..) (.refl _)) <| .after (lossEntry_within ..) rfl <| bootHouse_noDeblock ..

theorem bootStep_noDeblock (ok : Bool) (src : Nat) (s : State) : NoNewDeblock s (bootStep ok src s) := by
  unfold bootStep
  refine .ite (.refl _) ?_
  refine .ite ?_ ?_
  · split
    · exact .comp (raise_noDeblock ..) <| .glb id (.refl _)
    · exact .glb id (.refl _)
  · split
    · exact .after (setStep_within ..) rfl <| of_within (bootSupplies_within ..) rfl
    · exact of_within (setStep_within ..) rfl
    · exact .after (setStep_within ..) rfl <| of_within (bootCellar_within ..) rfl
    · exact of_within (setStep_within ..) rfl
    · exact bootEnd_noDeblock ..
    · exact .refl _

theorem rcpAbandon_noDeblock (s : State) : NoNewDeblock s (rcpAbandon s) := by
  unfold rcpAbandon
  split
  · exact .refl _
  · exact rcpAbort_noDeblock ..
  · exact rcpFinish_noDeblock ..

theorem ostlerRestart_noDeblock (ecc : Bool) (s : State) : NoNewDeblock s (ostlerRestart ecc s) := by
  unfold ostlerRestart
  exact .ite (.refl _)
    (.comp (raise_noDeblock ..) <| .after (ostlerAbandon_within ..) rfl <| .comp (rcpAbandon_noDeblock ..) <| .other <|
      .after (State.inc_within ..) rfl <| of_within (State.wr_within ..) rfl)

/-! ### Every command -/

/-- No command but DEBLOCK, and those that may carry a write of `GLB.CMD`, makes a DEBLOCK pending. -/
theorem exec_noDeblock {c : Instr} {s t : State} (h : exec c s = .next t) (hc : carriesWrites c = false) : NoNewDeblock s t := by
  have w := within_of_exec h
  cases c <;> dsimp only [footprint] at w
  case deblock | registerWrite | pcieMemoryRequest | ostlerRequest | dmaStart | dmaAbort | dmaComplete | unmapSeenClear | push
    | wbEntryStart | cycleStart | stepTime | setTime | ppsInEdge | ptpSyncReceived | ptpFollowUpReceived => cases hc
  case vauxDomainRelease => cases h; exact vauxRelease_noDeblock ..
  case vinDomainReset => cases h; exact vinReset_noDeblock ..
  case vinDomainRelease => cases h; exact vinRelease_noDeblock ..
  case bootStepDone => cases h; exact bootStep_noDeblock ..
  case link => cases h; exact .gate (cmdLink_noDeblock ..)
  case arm => cases h; exact .gate (cmdArm_noDeblock ..)
  case block => cases h; exact .gate (cmdBlock_noDeblock ..)
  case disarm => cases h; exact .gate (cmdDisarm_noDeblock ..)
  case recover => cases h; exact .gate (cmdRecover_noDeblock ..)
  case shutdown => cases h; exact .gate (cmdShutdown_noDeblock ..)
  case opblkWrite => cases h; exact .gate (opblk_noDeblock ..)
  case rcpVerify => cases h; exact .gate (of_within (rcpVerify_within ..) rfl)
  case rcpLoad => cases h; exact .gate (of_within (rcpLoad_within ..) rfl)
  case loadComplete => cases h; exact loadComplete_noDeblock ..
  case rcpCommit => cases h; exact .gate (of_within (rcpCommit_within ..) rfl)
  case rcpStore => cases h; exact .gate (of_within (rcpStore_within ..) rfl)
  case storeComplete => cases h; exact storeComplete_noDeblock ..
  case rcpAbort => cases h; exact .gate (rcpAbort_noDeblock ..)
  case safeAck => cases h; exact .gate (rcpSafeAck_noDeblock ..)
  case slotErase => cases h; exact .gate (of_within (rcpErase_within ..) rfl)
  case slotEraseComplete => cases h; exact eraseComplete_noDeblock ..
  case houseRead => cases h; exact .gate (of_within (rcpHouseRead_within ..) rfl)
  case houseStore => cases h; exact .gate (of_within (rcpHouseStore_within ..) rfl)
  case keyWrite => cases h; exact .gate (of_within (rcpKeyWrite_within ..) rfl)
  case keyRevoke => cases h; exact .gate (of_within (rcpKeyRevoke_within ..) rfl)
  case minverSet => cases h; exact .gate (of_within (rcpMinverSet_within ..) rfl)
  case stageAreaWrite => cases h; exact stageWrite_noDeblock ..
  case cycleStartToken => cases h; exact token_noDeblock ..
  case missrunLimit => cases h; exact missrunLimit_noDeblock ..
  case uplinkFrameReceived => cases h; exact uplink_noDeblock ..
  case rankingComplete => cases h; exact ranking_noDeblock ..
  case levelGenComplete => cases h; exact levelGen_noDeblock ..
  case refHeldLimit => cases h; exact refHeldLimit_noDeblock ..
  case engineFault => cases h; exact engineFault_noDeblock ..
  case slkclr => cases h; exact .gate (of_within (slkclr_within ..) rfl)
  case schCntclr => cases h; exact .gate (of_within (schCntclr_within ..) rfl)
  case reverify => cases h; exact .gate (of_within (reverify_within ..) rfl)
  case slackVerifyDone => cases h; exact slackDone_noDeblock ..
  case acceptRegisterWrite => cases h; exact .gate (acceptWrite_noDeblock ..)
  case graphRunComplete => cases h; exact runComplete_noDeblock ..
  case graphStall => cases h; exact graphStall_noDeblock ..
  case coreEccError => cases h; exact coreEcc_noDeblock ..
  case pcommit => cases h; exact .gate (of_within (pcommit_within ..) rfl)
  case greset => cases h; exact .gate (of_within (greset_within ..) rfl)
  case maxclr => cases h; exact .gate (of_within (State.wr_within ..) rfl)
  case hinWrite => cases h; exact .gate (of_within (hinWrite_within ..) rfl)
  case ocommit => cases h; exact .gate (of_within (ocommit_within ..) rfl)
  case wcommit => cases h; exact .gate (of_within (wcommit_within ..) rfl)
  case preset => cases h; exact .gate (of_within (preset_within ..) rfl)
  case exclude => cases h; exact .gate (of_within (cellCommand_within ..) rfl)
  case failbyp => cases h; exact .gate (of_within (cellCommand_within ..) rfl)
  case spareIn => cases h; exact .gate (of_within (cellCommand_within ..) rfl)
  case spareOut => cases h; exact .gate (of_within (cellCommand_within ..) rfl)
  case rerank => cases h; exact .gate (of_within (rerank_within ..) rfl)
  case beCntclr => cases h; exact .gate (of_within (beCntclr_within ..) rfl)
  case armSelectionLimitWrite => cases h; exact .gate (of_within (carriedWrite_within ..) rfl)
  case fpCommit => cases h; exact .gate (of_within (fpCommit_within ..) rfl)
  case insCntclr => cases h; exact .gate (of_within (insCntclr_within ..) rfl)
  case insLimitWrite => cases h; exact .gate (insLimitWrite_noDeblock ..)
  case clAuxselWrite => cases h; exact .gate (of_within (auxselWrite_within ..) rfl)
  case laneIdleExpired => cases h; exact idleExpired_noDeblock ..
  case laneBurstSent => cases h; exact burstSent_noDeblock ..
  case laneRxLock => cases h; exact rxLock_noDeblock ..
  case laneTs2Received => cases h; exact ts2Received_noDeblock ..
  case laneTrainTimeout => cases h; exact trainTimeout_noDeblock ..
  case laneMeasureDone => cases h; exact measureDone_noDeblock ..
  case laneRetryExpired => cases h; exact retryExpired_noDeblock ..
  case laneLockLoss => cases h; exact lockLoss_noDeblock ..
  case laneSignalLoss =>
    cases h
    exact .ite (.comp (lockLoss_noDeblock ..) <| .comp (laneCause_noDeblock ..) <| of_within (State.wr_within ..) rfl) (.refl _)
  case laneRxwaitExpired => cases h; exact rxwaitExpired_noDeblock ..
  case laneRetrain => cases h; exact .gate (laneRetrain_noDeblock ..)
  case giclr => cases h; exact .gate (of_within (giclr_within ..) rfl)
  case clCntclr => cases h; exact .gate (of_within (clCntclr_within ..) rfl)
  case gapIdleExit => cases h; exact gapExit_noDeblock ..
  case gapExitLockCheck => cases h; exact gapCheck_noDeblock ..
  case dmrspReceived => cases h; exact dmrspReceived_noDeblock ..
  case dmrspTimeout => cases h; exact dmrspTimeout_noDeblock ..
  case ringSplit => cases h; exact .ite (ringSplit_noDeblock ..) (ringBreak_noDeblock ..)
  case parcelRetryExhausted => cases h; exact retryExhausted_noDeblock ..
  case parcelBusyTimeout => cases h; exact busyTimeout_noDeblock ..
  case chainEnumerated => cases h; exact chainEnumerated_noDeblock ..
  case pqSubmit => cases h; exact .gate (pqSubmit_noDeblock ..)
  case pqPop => cases h; exact .gate (pqPop_noDeblock ..)
  case pqFlush => cases h; exact .gate (of_within (pqFlush_within ..) rfl)
  case cellarEccUncorrectable => cases h; exact cellarEcc_noDeblock ..
  case scrubPassDone => cases h; exact scrubDone_noDeblock ..
  case ckpt => cases h; exact .gate (ckptDue_noDeblock ..)
  case tallyCkptDone => cases h; exact .ite (ckptDone_noDeblock ..) (.comp (shutTail_noDeblock ..) <| ckptDone_noDeblock ..)
  case ltrig => cases h; exact .gate (of_within (ledgerFire_within ..) rfl)
  case lrelease => cases h; exact .gate (ledgerRelease_noDeblock ..)
  case ledgerDisable => cases h; exact .gate (ledgerConfig_noDeblock ..)
  case extract => cases h; exact .gate (extractStart_noDeblock ..)
  case extractDone => cases h; exact extractDone_noDeblock ..
  case tbRateWrite => cases h; exact .gate (of_within (tbRateWrite_within ..) rfl)
  case slew => cases h; exact .gate (.ite (of_within (State.wr_within ..) rfl) (of_within (slewTime_within ..) rfl))
  case slewstop => cases h; exact .gate (.ite (of_within (State.wr_within ..) rfl) (of_within (slewEnd_within ..) rfl))
  case tbCntclr => cases h; exact .gate (of_within (tbCntclr_within ..) rfl)
  case wbCancel => cases h; exact .gate (of_within (wbCancelled_within ..) rfl)
  case wbFlush => cases h; exact .gate (of_within (cancelBy_within ..) rfl)
  case donepop => cases h; exact .gate (of_within (donePop_within ..) rfl)
  case ethLinkChange => cases h; exact ethLink_noDeblock ..
  case ethFrameReceived => cases h; exact ethReceive_noDeblock ..
  case svFrameReceived => cases h; exact svFrame_noDeblock ..
  case svSubscriptionLost => cases h; exact svLost_noDeblock ..
  case ptpAnnounceReceived => cases h; exact announce_noDeblock ..
  case ptpAnnounceTimeout => cases h; exact announceTimeout_noDeblock ..
  case pdelayReqSend => cases h; exact pdelaySend_noDeblock ..
  case pdelayRespReceived => cases h; exact pdelayResponse_noDeblock ..
  case ptprst => cases h; exact .gate (ptpReset_noDeblock ..)
  case netCntclr => cases h; exact .gate (of_within (netCntclr_within ..) rfl)
  case prpPortLost => cases h; exact prpLost_noDeblock ..
  case fbTake => cases h; exact fbTake_noDeblock ..
  case fbLaunch => cases h; exact fbLaunch_noDeblock ..
  case hstNtx => cases h; exact .gate (of_within (hstNtx_within ..) rfl)
  case lmuConversionDone => cases h; exact conversion_noDeblock ..
  case lmuPassEnd => cases h; exact passEnd_noDeblock ..
  case lmuTrigger => cases h; exact .ite (lmuTrigger_noDeblock ..) (.refl _)
  case swtrg => cases h; exact .gate (swTrigger_noDeblock ..)
  case lmuTimerTrigger => cases h; exact .ite (lmuTrigger_noDeblock ..) (.refl _)
  case scommit => cases h; exact .gate (scommit_noDeblock ..)
  case cal => cases h; exact .gate (.ite (of_within (State.wr_within ..) rfl) (of_within (calStart_within ..) rfl))
  case lmuCalDone => cases h; exact lmuCalDone_noDeblock ..
  case lmuRefenWrite => cases h; exact .gate (of_within (refenWrite_within ..) rfl)
  case lmuRefFault => cases h; exact refFault_noDeblock ..
  case lmuDchStale => cases h; exact channelStale_noDeblock ..
  case lmuCntclr => cases h; exact .gate (of_within (lmuCntclr_within ..) rfl)
  case sbuTick => cases h; exact sbuTick_noDeblock ..
  case sbuDiscrepancyLatch => cases h; exact discLatch_noDeblock ..
  case sbuReadbackFault => cases h; exact readbackFault_noDeblock ..
  case sbuTestEnd => cases h; exact testEnd_noDeblock ..
  case sbuClear => cases h; exact .gate (sbuCommand_noDeblock ..)
  case faultRaise => cases h; exact faultRaise_noDeblock ..
  case faultLiveClear => cases h; exact faultLiveClear_noDeblock ..
  case collectorSelfFault => cases h; exact collectorSelf_noDeblock ..
  case clrReact => cases h; exact .gate (fcCommand_noDeblock ..)
  case clrFirst => cases h; exact .gate (fcCommand_noDeblock ..)
  case clrSticky => cases h; exact .gate (fcCommand_noDeblock ..)
  case fcSevWrite => cases h; exact .gate (sevWrite_noDeblock ..)
  case fcUnlock => cases h; exact .gate (unlock_noDeblock ..)
  case fcTestWrite => cases h; exact .gate (of_within (testWrite_within ..) rfl)
  case injPulse => cases h; exact .gate (inject_noDeblock ..)
  case injHold => cases h; exact .gate (inject_noDeblock ..)
  case injRelease => cases h; exact .gate (inject_noDeblock ..)
  case relayTrained => cases h; exact relayTrained_noDeblock ..
  case relayLaneLoss => cases h; exact laneLoss_noDeblock ..
  case relayLaneRejoin => cases h; exact laneRejoin_noDeblock ..
  case relayRetrain => cases h; exact .gate (relayRetrain_noDeblock ..)
  case twnCntclr => cases h; exact .gate (of_within (twnCntclr_within ..) rfl)
  case relayIdReceived => cases h; exact idReceived_noDeblock ..
  case relayHbReceived => cases h; exact hbReceived_noDeblock ..
  case tknoteReceived => cases h; exact tknoteReceived_noDeblock ..
  case ublkReceived => cases h; exact ublkReceived_noDeblock ..
  case degReceived => cases h; exact .ite (partnerDegraded_noDeblock ..) (.refl _)
  case snapReceived => cases h; exact snapReceived_noDeblock ..
  case carriedItemReceived => cases h; exact itemReceived_noDeblock ..
  case forwardedBlockReceived => cases h; exact forwardedBlock_noDeblock ..
  case resync => cases h; exact .gate (resyncCmd_noDeblock ..)
  case takeover => cases h; exact .gate (takeoverCmd_noDeblock ..)
  case rehearse => cases h; exact .gate (of_within (rehearse_within ..) rfl)
  case pcieLinkChange => cases h; exact pcieLink_noDeblock ..
  case hstRelease => cases h; exact .gate (release_noDeblock ..)
  case ostlerWatchdog => cases h; exact ostlerRestart_noDeblock ..
  case ostlerRestartDone => cases h; exact restartDone_noDeblock ..
  case ostlerLoadWindow => cases h; exact loadWindow_noDeblock ..
  case mdioStart => cases h; exact .gate (of_within (mdioStart_within ..) rfl)
  case vinPowerWarning => cases h; exact .ite (powerWarning_noDeblock ..) (.refl _)
  case railOutOfWindow => cases h; exact railOut_noDeblock ..
  case softwareReset => cases h; exact .gate (of_within (softReset_within ..) rfl)
  case clockFailure => cases h; exact clockFailure_noDeblock ..
  case fallbackOscReady => cases h; exact fallbackReady_noDeblock ..
  case muxForcedSwitch => cases h; exact muxForced_noDeblock ..
  case clkGateWrite => cases h; exact .gate (of_within (gateWrite_within ..) rfl)
  case gateQuiesceTimeout => cases h; exact gateTimeout_noDeblock ..
  case plreq => cases h; exact .gate (plRequest_noDeblock ..)
  case junctionTempWarn => cases h; exact junction_noDeblock ..
  case pllLockRegained => cases h; exact pllRegained_noDeblock ..
  case vauxDomainReset => cases h; exact vauxReset_noDeblock ..
  case autoArm => cases h; exact autoArm_noDeblock ..
  case orderlyBlockTimeout => cases h; exact orderlyTimeout_noDeblock ..
  case linkTimeout => cases h; exact linkTimeout_noDeblock ..
  case roleWaitExpiry => cases h; exact roleWaitExpiry_noDeblock ..
  case verifyComplete => cases h; exact .ite (verifyEnd_noDeblock ..) (.refl _)
  case commitPrepareEnd => cases h; exact prepareEnd_noDeblock ..
  case commitSwitch => cases h; exact commitSwitch_noDeblock ..
  case safeAckExpiry => cases h; exact .ite (safeExpire_noDeblock ..) (.refl _)
  case commitConfirmDeadline => cases h; exact confirmDeadline_noDeblock ..
  case replicaOverLimit => cases h; exact replicaLimit_noDeblock ..
  case cyclePhaseErrorLimit => cases h; exact phaseErrorLimit_noDeblock ..
  case armFreeze => cases h; exact armFreeze_noDeblock ..
  case graphInit => cases h; exact graphInitDue_noDeblock ..
  case tallyFold => cases h; exact .ite (tallyFold_noDeblock ..) (.refl _)
  case lifeApply => cases h; exact lifeApply_noDeblock ..
  case tallyLoadDone => cases h; exact tallyLoad_noDeblock ..
  case tallyCkptDue => cases h; exact ckptDue_noDeblock ..
  case tallyCkptRetry => cases h; exact .ite (ckptStart_noDeblock ..) (.refl _)
  case tallyCkptOverdue => cases h; exact raise_noDeblock ..
  case ledgerFreeze => cases h; exact ledgerFreeze_noDeblock ..
  case ppsLoss => cases h; exact ppsLoss_noDeblock ..
  case fastPathFault => cases h; exact fastFault_noDeblock ..
  case sbuOscFault => cases h; exact oscFault_noDeblock ..
  case sbuXchkFault => cases h; exact xchkFault_noDeblock ..
  case sbuVsafeOut => cases h; exact vsafeJudge_noDeblock ..
  case sbuStatusReceived => cases h; exact statusReceived_noDeblock ..
  case sbuStatusLost => cases h; exact statusLost_noDeblock ..
  case aliveTokenTimeout => cases h; exact raise_noDeblock ..
  case lanternReadbackFault => cases h; exact .comp (raise_noDeblock ..) <| of_within (State.put_within ..) rfl
  case ostlerHeartbeat => cases h; exact heartbeat_noDeblock ..
  case ostlerHeartbeatLost => cases h; exact heartbeatLost_noDeblock ..
  case lanternInEdge => cases h; exact lanternIn_noDeblock ..
  case lanternInStopped => cases h; exact lanternStopped_noDeblock ..
  case relayAttemptTimeout => cases h; exact attemptTimeout_noDeblock ..
  case relayLinkLost => cases h; exact linkLost_noDeblock ..
  case relayHbMissed => cases h; exact hbMissed_noDeblock ..
  case twinAlignChange => cases h; exact alignChange_noDeblock ..
  case tkreqReceived => cases h; exact tkreqReceived_noDeblock ..
  case partnerShutdownReceived => cases h; exact partnerShutdown_noDeblock ..
  case refreshApply => cases h; exact refreshApply_noDeblock ..
  case takeoverPoint => cases h; exact takeoverPoint_noDeblock ..
  case orphanAdoption => cases h; exact orphanAdopt_noDeblock ..
  case prefReturn => cases h; exact prefReturn_noDeblock ..
  case rehearsalCheck => cases h; exact rehCheck_noDeblock ..
  case driveExerciseOverdue => cases h; exact driveOverdue_noDeblock ..
  case regulatorFault => cases h; exact .comp (raise_noDeblock ..) <| of_within (State.wr_within ..) rfl
  case ostlerClockReturn => cases h; exact ostlerClock_noDeblock ..
  case plCellarSwitched => cases h; exact cellarSwitched_noDeblock ..
  case plVcoreTimeout => cases h; exact vcoreTimeout_noDeblock ..
  any_goals exact of_within w rfl
  -- The goal that is left is INCLUDE, whose constructor has a word of Lean as its name.
  cases h
  exact .gate (of_within (cellCommand_within ..) rfl)

/-- Settles O9: DEBLOCK is judged in the order of R39 and, accepted, pending; no other command makes one pending but those that may
carry its write. -/
theorem deblockConditions : Obligations.DeblockConditions := by
  refine ⟨fun m key s hg hb hr => ?_, fun c s t h off hc => ?_⟩
  · rw [exec_deblock_of_grants key hg, State.deblockHold_eq key.toNat hb hr]
    rfl
  · by_contra on
    rw [Bool.not_eq_false] at on
    rw [(exec_noDeblock h hc).was_pending on] at off
    exact nomatch off

end Sys2Proof.Machine
end
